-- ==== Sys2Proof/Word.lean ====
section
/-! DEFINITION. The word types of the WT1: bytes, 32-bit CSR words, 40-bit addresses and 64-bit
registers (R10, R12, R250), with the plainest field access over them. -/

namespace Sys2Proof

/-- One byte of device memory, of a frame or of a message. -/
abbrev Byte := BitVec 8

/-- One CSR (CSRs are 32 bits wide, *Scope and conventions*, Registers). -/
abbrev Word32 := BitVec 32

/-- One general register of a control-core thread. -/
abbrev Word64 := BitVec 64

/-- A device physical address (40 bits). -/
abbrev Addr := BitVec 40

/-- Bits [hi:lo] of a number, as a number. -/
def bitsOf (n hi lo : Nat) : Nat := (n >>> lo) % 2 ^ (hi + 1 - lo)

/-- Bit `i` of a number. -/
def bitOf (n i : Nat) : Bool := n.testBit i

/-- A Boolean as the bit 0 or 1. -/
def b2n (b : Bool) : Nat := if b then 1 else 0

/-- `n` with bits [hi:lo] replaced by the low bits of `v`. -/
def setBits (n hi lo v : Nat) : Nat :=
  n - (bitsOf n hi lo) <<< lo + (v % 2 ^ (hi + 1 - lo)) <<< lo

/-- `v` counted up by `k` and held at `top` (saturating counters). -/
def satAdd (v k top : Nat) : Nat := min (v + k) top

end Sys2Proof
end

