-- ==== Sys2Proof/Config.lean ====
section
/-! DEFINITION. What an implementation fixes and the free values: opaque constants without a body,
so that no proof can see a value of one. Each is named in a row of notes/assumptions. -/

namespace Sys2Proof.Config

/-- The bits of a quiet NaN that R73 and IEEE 754 leave open, by the operand patterns (log entry 3). -/
opaque nanFree : BitVec 32 → BitVec 32 → BitVec 32

/-- The minimum of 1 and a NaN, which R175 does not state (log entry 4). -/
opaque minOneFree : BitVec 32 → BitVec 32

/-- Which line of a full cache set a new line takes the place of, by a counter: the replacement is not given (R289; log
entry 8). -/
opaque victim : Nat → Nat

/-- The errors that strike memory in a cycle of the 100 MHz counter: an address, the bits that flip under its check code,
and whether a second read finds them gone: when and where they strike is nature's (R323 to R325; log entry 93). -/
opaque upsets : Nat → List (Nat × List Nat × Bool)

/-- The errors that strike the caches in a cycle of the 100 MHz counter: the cache, a core's L1 by its core or 256 plus the
cluster of a cluster cache, the line, and the bits that flip in a word of it (R323, R326; log entry 93). -/
opaque cacheUpsets : Nat → List (Nat × Nat × List Nat)

/-- Whether a library image of a level implements a routine: its manifest's layout is not given
(R257, R593; log entry 9). -/
opaque libraryHas : Nat → Nat → Bool

/-- The FP32 rescale of a column, by global engine, plane and logical column: the spec does not say how
it is loaded (R80, R118; log entry 10). -/
opaque columnScale : Nat → Nat → Nat → BitVec 32

/-- The owned logical columns of a tile, by rank, rule entry, variant and tile index t: the map from columns to the device's
own shard is the compiler's (R155; log entry 11). -/
opaque ownedCols : Nat → Nat → Nat → Nat → List Nat

/-- The weight tiles that a core of the device runs of an entry, by their index: by rank, core, entry and variant (R154; log
entry 11). -/
opaque weightTiles : Nat → Nat → Nat → Nat → List Nat

/-- The band of the reduction to which a weight tile belongs, by entry, variant and its index (R154; log entry 11). -/
opaque weightBand : Nat → Nat → Nat → Nat

/-- The band of the reduction to which a streamed tile belongs, by entry, variant and `TILE` (R154; log entry 11). -/
opaque streamBand : Nat → Nat → Nat → Nat

/-- The index within an entry of the weight tile that a part of an engine's plane holds, by entry, variant, global engine and
the `TILE` with which it was loaded (R154; log entry 11). -/
opaque weightTile : Nat → Nat → Nat → Nat → Nat

/-- The number of 128-vector groups that the layer-pass of an entry streams (R154; log entry 11). -/
opaque groups : Nat → Nat

/-- The vector group of a streamed tile, by entry, variant and `TILE` (R154; log entry 11). -/
opaque vectorGroup : Nat → Nat → Nat → Nat

/-- The address of the wide stationary operand of a spot check, the FP32 master weight or in a weight-gradient pass the
wide activation, by entry, variant, tile index t, column and row of the tile's band of the reduction (R157; log entry 11). -/
opaque wideAddr : Nat → Nat → Nat → Nat → Nat → Nat

/-- The codebook that a layer's variant block fixes, by the weave's measurement and the layer, packed as in a tile image:
no field of the weave's layout holds it (R56; log entry 41). -/
opaque layerCodebook : BitVec 256 → Nat → Option (BitVec 16)

/-- The per-channel scale folded into a row of a weight tile, by the weave's measurement, layer, `TILE` and row: no
field of the weave's layout holds it (R78, R79; log entry 81). -/
opaque foldScale : BitVec 256 → Nat → Nat → Nat → Option (BitVec 32)

/-- An element that an operand tile lacks because the shapes of a routine's operands disagree (R287;
log entry 13). -/
opaque missingElem : Nat → BitVec 32

/-- A byte of a tile whose read was squashed: the squash produces no data (R231; log entry 14). -/
opaque squashedByte : Nat → Nat → BitVec 8

/-- The byte offset of a chunk's shard state in the SHARD area, by tag and chunk: the layout of the area
is the compiler's (R379; log entry 32). -/
opaque chunkOffset : Nat → Nat → Nat

/-- The eight bytes of a ledger word that holds a count and a set hash: its layout is not given (R345, R367; log entry
91). -/
opaque ledgerWord : Nat → BitVec 64 → BitVec 64

/-- The count and the set hash that a ledger word gives which is not the one that the mangle wrote: its layout is not given
(R345, R367; log entry 91). -/
opaque ledgerRead : BitVec 64 → Nat × BitVec 64

/-- The fused MAC base address, octet 0 in its highest bits (R462; log entry 34). -/
opaque macBase : BitVec 48

/-- SHAKE256 with 256 bits of output (log entry 35). -/
opaque shake256 : List (BitVec 8) → BitVec 256

/-- KMAC256 of data under a key, with a customisation string and a number of output bits (R482, R487; log entry 35). -/
opaque kmac256 : List (BitVec 8) → List (BitVec 8) → List (BitVec 8) → (n : Nat) → BitVec n

/-- The device's identity public key (R585; log entry 34). -/
opaque identityKey : List (BitVec 8)

/-- The identity digest: SHAKE256 of the device's identity public key (R585). -/
def identity : BitVec 256 := shake256 identityKey

/-- The address from which a Router Advertisement came, which no operand of its command gives (R471; log entry 102). -/
opaque routerAddress : Nat → Nat

/-- The measurement of the ROM: SHAKE256 of its 1 MiB (R603; log entry 34). -/
opaque romMeas : BitVec 256

/-- A record of the TRACE_DEEP trace, by the free-value counter: its layout is not given (R604; log entry 40). -/
opaque deepRecord : Nat → List (BitVec 8)

/-- The fused revocations of Zioth image-signing keys (`SEC.REVOKE`; log entry 34). -/
opaque revoked : BitVec 4

/-- The device certificate chain (R587; log entry 34). -/
opaque certChain : List (BitVec 8)

/-- A nonce that the device draws (R486, R605; log entry 36). -/
opaque nonce : Nat → BitVec 256

/-- The ML-KEM-768 ciphertext of an OPEN response, 1,088 bytes, by the device's random choice and the host's encapsulation key
(R486; log entry 36). -/
opaque kemCipher : Nat → List (BitVec 8) → List (BitVec 8)

/-- The shared secret of the same encapsulation, 32 bytes (R487; log entry 36). -/
opaque kemSecret : Nat → List (BitVec 8) → List (BitVec 8)

/-- The signature of the device identity key, 3,309 bytes, by the bytes it covers (R486, R603; log entry 36). -/
opaque signature : List (BitVec 8) → List (BitVec 8)

/-- Whether an array-clock edge of a cluster is kept, by duty and tick, when its duty is below 16/16: the
pattern is not given (R558; log entry 37). -/
opaque edgeKept : Nat → Nat → Bool

/-- How long the ingress path took to answer a scoring request that it did not admit, in ns: at most 2,800, not
stated (log entry 44). -/
opaque ingressNs : Nat → Nat

/-- The voltage of VSB in mV that TELEMETRY shows, by `GLOBAL.CYCLE`: no register holds it (R583; log entry 45). -/
opaque vsbMv : Nat → Nat

/-- `AGE` of the edges of a wait-for graph in ms, by the free-value counter and the edge: the model keeps no start
times of waits (R546; log entry 46). -/
opaque waitAge : Nat → Nat → Nat

/-- Which of the virtual channels that may send in a turn of the weighted round robin goes next, by the free-value
counter: the order within a turn is not given (Table 5 of *Seam links and co-packaged optics*; log entry 49). -/
opaque vcTurn : Nat → Nat

end Sys2Proof.Config
end

