-- ==== Sys2Proof/Machine/Num.lean ====
section
/-! DEFINITION. Exact dyadic arithmetic, the two rounding modes (R83, R84), the SR generator
(R85 to R89), and the element formats of *Number formats, scales and rounding* with their
conversions (R47 to R82). -/

namespace Sys2Proof.Machine

/-- An exact dyadic number, `m * 2 ^ e`. -/
structure Dy where
  m : Int
  e : Int
  deriving DecidableEq, Repr

/-- Zero. -/
def Dy.zero : Dy := ⟨0, 0⟩

/-- `i * 2 ^ k` for `k` at or above 0. -/
def shlInt (i : Int) (k : Nat) : Int := i * (2 ^ k : Nat)

/-- Exact sum. -/
def Dy.add (a b : Dy) : Dy :=
  let e := min a.e b.e
  ⟨shlInt a.m (a.e - e).toNat + shlInt b.m (b.e - e).toNat, e⟩

/-- Exact product. -/
def Dy.mul (a b : Dy) : Dy := ⟨a.m * b.m, a.e + b.e⟩

/-- Exact negation. -/
def Dy.neg (a : Dy) : Dy := ⟨-a.m, a.e⟩

/-- Exact magnitude. -/
def Dy.abs (a : Dy) : Dy := ⟨a.m.natAbs, a.e⟩

/-- Exact difference. -/
def Dy.sub (a b : Dy) : Dy := a.add b.neg

/-- Exact scaling by a power of two. -/
def Dy.scale (a : Dy) (k : Int) : Dy := ⟨a.m, a.e + k⟩

/-- `a < b`. -/
def Dy.lt (a b : Dy) : Bool := decide ((a.sub b).m < 0)

/-- `a ≤ b`. -/
def Dy.le (a b : Dy) : Bool := decide ((a.sub b).m ≤ 0)

/-- The larger. -/
def Dy.max (a b : Dy) : Dy := if a.lt b then b else a

/-- The smaller. -/
def Dy.min (a b : Dy) : Dy := if a.lt b then a else b

/-- The sum of a list. -/
def Dy.sum (l : List Dy) : Dy := l.foldl Dy.add Dy.zero

/-- The largest magnitude of a list. -/
def Dy.maxAbs (l : List Dy) : Dy := l.foldl (fun a x => a.max x.abs) Dy.zero

/-- A rounding choice for one element: to nearest even (R83), or stochastic with the 24-bit
draw `r` (R84). -/
inductive Rnd
  | rne
  | sr (r : Nat)
  deriving DecidableEq, Repr

/-- Rounds the exact quotient `n / d` (with `d` above 0) to an integer, by R83 or R84. -/
def roundQuot (n : Int) (d : Nat) (rnd : Rnd) : Int :=
  let q := n / (d : Int)
  let rem := (n % (d : Int)).toNat
  match rnd with
  | .rne =>
    if 2 * rem < d then q
    else if d < 2 * rem then q + 1
    else if q % 2 = 0 then q else q + 1
  | .sr r =>
    let f := rem * 2 ^ 24 / d
    if 2 ^ 24 ≤ f + r then q + 1 else q

/-- Rounds an exact dyadic to an integer. -/
def Dy.round (a : Dy) (rnd : Rnd) : Int :=
  if 0 ≤ a.e then shlInt a.m a.e.toNat
  else roundQuot a.m (2 ^ (-a.e).toNat) rnd

/-- The floor of the base-2 logarithm of a non-zero dyadic's magnitude. -/
def Dy.log2 (a : Dy) : Int := (a.m.natAbs.log2 : Int) + a.e

/-- Rounds to a significand of `p` bits as though the exponent range were unbounded (R72, second
exception, first step). -/
def Dy.roundSig (a : Dy) (p : Nat) (rnd : Rnd) : Dy :=
  if a.m = 0 then Dy.zero
  else
    let ulp := a.log2 - ((p : Int) - 1)
    ⟨(a.scale (-ulp)).round rnd, ulp⟩

/-! ### The generator -/

/-- Rotate a 32-bit word left. -/
def rotl32 (v : BitVec 32) (n : Nat) : BitVec 32 := v.rotateLeft n

/-- The round constants of R89. -/
def srRC : List (BitVec 32) := [0x243F6A88#32, 0x85A308D3#32, 0x13198A2E#32, 0x03707344#32]

/-- One round of `sr_word` (R89). -/
def srRound (k0 k1 : BitVec 32) (st : BitVec 32 × BitVec 32) (i : Nat) : BitVec 32 × BitVec 32 :=
  let x := rotl32 st.1 25 + st.2
  let x := x ^^^ (if i % 2 = 0 then k0 else k1) ^^^ (srRC.getD i 0)
  (x, rotl32 st.2 3 ^^^ x)

/-- The generator word of R89. -/
def srWord (key ctr : BitVec 64) : BitVec 32 :=
  let k0 := key.setWidth 32
  let k1 := (key >>> 32).setWidth 32
  let st := [0, 1, 2, 3].foldl (srRound k0 k1)
    ((ctr >>> 32).setWidth 32, ctr.setWidth 32)
  st.1 + st.2

/-- The draw `r`, bits [31:8] of a generator word (R84). -/
def srDraw (w : BitVec 32) : Nat := w.toNat >>> 8

/-- The SR key of R85. -/
def srKey (seed stream rank pass : Nat) : BitVec 64 :=
  BitVec.ofNat 64 (seed % 2 ^ 32 * 2 ^ 32 + stream % 2 ^ 16 * 2 ^ 16 + rank % 2 ^ 14 * 4 + pass % 4)

/-- The SR counter of R86; `TILE` wraps modulo 2^18 (R88). -/
def srCtr (step tile element : Nat) : BitVec 64 :=
  BitVec.ofNat 64 (step % 2 ^ 32 * 2 ^ 32 + tile % 2 ^ 18 * 2 ^ 14 + element % 2 ^ 14)

/-- The SR counter of mangle hop re-quantisation (R87). -/
def srCtrHop (step element : Nat) : BitVec 64 :=
  BitVec.ofNat 64 (step % 2 ^ 32 * 2 ^ 32 + element % 2 ^ 32)

/-- The rounding of element `i` of a run: RNE, or SR under a key and a counter for element 0. -/
def rndAt (sr : Bool) (key ctr : BitVec 64) (i : Nat) : Rnd :=
  if sr then .sr (srDraw (srWord key (ctr + BitVec.ofNat 64 i))) else .rne

/-! ### Binary32 and A32 -/

/-- The classes of a binary32 pattern. -/
inductive Fp
  | nan
  | inf (neg : Bool)
  | fin (neg : Bool) (v : Dy)
  deriving DecidableEq, Repr

/-- Reads a binary32 pattern, subnormals at their value. -/
def fpOf (b : BitVec 32) : Fp :=
  let n := b.toNat
  let s := bitOf n 31
  let ex := bitsOf n 30 23
  let fr := bitsOf n 22 0
  let sg (m : Nat) : Int := if s then -(m : Int) else m
  if ex = 255 then (if fr = 0 then .inf s else .nan)
  else if ex = 0 then .fin s ⟨sg fr, -149⟩
  else .fin s ⟨sg (fr + 2 ^ 23), (ex : Int) - 150⟩

/-- The pattern of a signed zero. -/
def zero32 (neg : Bool) : BitVec 32 := if neg then 0x80000000#32 else 0#32

/-- The pattern of a signed infinity. -/
def inf32 (neg : Bool) : BitVec 32 := if neg then 0xFF800000#32 else 0x7F800000#32

/-- The largest finite magnitude, ±0x7F7F_FFFF. -/
def max32 (neg : Bool) : BitVec 32 := if neg then 0xFF7FFFFF#32 else 0x7F7FFFFF#32

/-- The pattern of a dyadic whose significand fits 24 bits and whose magnitude is normal. -/
def pack32 (v : Dy) : BitVec 32 :=
  let l := v.log2
  let fr := ((v.abs.scale (23 - l)).round .rne).toNat
  BitVec.ofNat 32 (b2n (decide (v.m < 0)) * 2 ^ 31 + (l + 127).toNat * 2 ^ 23 + (fr - 2 ^ 23))

/-- An A32 result by R72: the pattern, and whether it saturated (a foot overflow). -/
def a32Of (v : Dy) (rnd : Rnd) : BitVec 32 × Bool :=
  let neg := decide (v.m < 0)
  let w := v.roundSig 24 rnd
  if w.m = 0 then (zero32 neg, false)
  else if w.log2 < -126 then (zero32 neg, false)
  else if 127 < w.log2 then (max32 neg, true)
  else (pack32 w, false)

/-- The value of an A32 input: a subnormal is zero (R72). A32 never holds a NaN or an infinity
(R72); a pattern of either class reads as zero and as the largest magnitude, as Table 5 converts
them. -/
def a32Val (b : BitVec 32) : Dy :=
  match fpOf b with
  | .nan => Dy.zero
  | .inf s => match fpOf (max32 s) with
    | .fin _ v => v
    | _ => Dy.zero
  | .fin _ v => if v.m = 0 ∨ v.log2 < -126 then Dy.zero else v

/-- The A32 sum of two A32 patterns (R72). -/
def a32Add (a b : BitVec 32) (rnd : Rnd) : BitVec 32 × Bool :=
  let v := (a32Val a).add (a32Val b)
  if v.m = 0 then (zero32 (a.msb && b.msb), false) else a32Of v rnd

/-- The A32 difference. -/
def a32Sub (a b : BitVec 32) (rnd : Rnd) : BitVec 32 × Bool := a32Add a (b ^^^ 0x80000000#32) rnd

/-- The A32 product. -/
def a32Mul (a b : BitVec 32) (rnd : Rnd) : BitVec 32 × Bool :=
  let v := (a32Val a).mul (a32Val b)
  if v.m = 0 then (zero32 (a.msb != b.msb), false) else a32Of v rnd

/-- An IEEE binary32 result rounded to nearest even, with subnormals and overflow to infinity
(R73); `neg` is the sign of an exact zero. -/
def f32Of (v : Dy) (neg : Bool) : BitVec 32 :=
  if v.m = 0 then zero32 neg
  else
    let neg := decide (v.m < 0)
    let ulp := max (v.log2 - 23) (-149)
    let q := (v.scale (-ulp)).round .rne
    if q = 0 then zero32 neg
    else
      let w : Dy := ⟨q, ulp⟩
      if 127 < w.log2 then inf32 neg
      else if w.log2 < -126 then
        BitVec.ofNat 32 (b2n neg * 2 ^ 31 + q.natAbs)
      else pack32 w

/-- BF16 is the upper 16 bits of binary32: the widening is exact (R73). -/
def bf16To32 (b : BitVec 16) : BitVec 32 := b ++ 0#16

/-- FP32 to BF16, to nearest even; a NaN is kept as a quiet NaN (R73). -/
def bf16Of (b : BitVec 32) : BitVec 16 :=
  match fpOf b with
  | .nan => (b >>> 16).setWidth 16 ||| 0x0040#16
  | .inf _ => (b >>> 16).setWidth 16
  | .fin _ _ => BitVec.ofNat 16 (roundQuot b.toNat (2 ^ 16) .rne).toNat

/-! ### Conversion events -/

/-- The numeric events that a conversion raised (R81, R82): NAN_TO_ZERO and INF_SATURATED. -/
structure NumEv where
  nan : Nat
  inf : Nat
  deriving DecidableEq, Repr

/-- No event. -/
def NumEv.none : NumEv := ⟨0, 0⟩

/-- The events of two conversions together. -/
def NumEv.add (a b : NumEv) : NumEv := ⟨a.nan + b.nan, a.inf + b.inf⟩

/-- An FP32 input of an array or wire format (Table 5): NaN becomes 0, an infinity the largest
magnitude, each with its event; a subnormal keeps its value. -/
def finIn (b : BitVec 32) : Dy × NumEv :=
  match fpOf b with
  | .nan => (Dy.zero, ⟨1, 0⟩)
  | .inf s => (match fpOf (max32 s) with | .fin _ v => v | _ => Dy.zero, ⟨0, 1⟩)
  | .fin _ v => (v, NumEv.none)

/-- An F32 wire element (R77): a finite binary32 pattern and the events. DESIGN CHOICE (log entry 78): the zero that a NaN
becomes on the wire is +0. -/
def f32Wire (b : BitVec 32) : BitVec 32 × NumEv :=
  match fpOf b with
  | .nan => (0#32, ⟨1, 0⟩)
  | .inf s => (max32 s, ⟨0, 1⟩)
  | .fin _ _ => (b, NumEv.none)

/-! ### LNS16 -/

/-- The pattern of an LNS16 value with sign `neg` and logarithm `l`, bounded by R66. -/
def lnsPack (neg : Bool) (l : Int) : BitVec 16 :=
  if l ≤ -16384 then 0x4000#16
  else BitVec.ofNat 16 (b2n neg * 2 ^ 15 + ((min l 16383) % 2 ^ 15).toNat)

/-- The logarithm of an LNS16 pattern (R64); −16,384 is zero (R65). -/
def lnsLog (b : BitVec 16) : Int := (b.setWidth 15).toInt

/-- The sign of an LNS16 pattern. -/
def lnsNeg (b : BitVec 16) : Bool := b.msb

/-- Whether an LNS16 pattern is zero (R65). -/
def lnsIsZero (b : BitVec 16) : Bool := decide (lnsLog b = -16384)

/-- `512 * log2 |v|` rounded to nearest (R67): the floor of `1024 * log2` of the integer part by
its 1024th power, halved upwards. No tie can occur, since the logarithm is an integer multiple of
512 or irrational. -/
def lnsRound (v : Dy) : Int :=
  let t := ((v.m.natAbs ^ 1024).log2 : Int)
  512 * v.e + (t + 1) / 2

/-- A finite value to LNS16. -/
def lnsOfDy (v : Dy) : BitVec 16 :=
  if v.m = 0 then 0x4000#16 else lnsPack (decide (v.m < 0)) (lnsRound v)

/-- FP32 to LNS16 with its events (Table 5). -/
def lnsOf32 (b : BitVec 32) : BitVec 16 × NumEv :=
  match fpOf b with
  | .nan => (0x4000#16, ⟨1, 0⟩)
  | .inf s => (lnsPack s 16383, ⟨0, 1⟩)
  | .fin _ v => (lnsOfDy v, NumEv.none)

/-- The largest `s` below `2 ^ k` with `s ^ 512 ≤ n`, bit by bit. -/
def root512 : Nat → Nat → Nat → Nat
  | 0, _, s => s
  | k + 1, n, s =>
    let c := s + 2 ^ k
    root512 k n (if c ^ 512 ≤ n then c else s)

/-- LNS16 to binary32 (Table 5): the exact value rounded to 24 bits. Zero becomes +0.0. -/
def lnsTo32 (b : BitVec 16) (rnd : Rnd) : BitVec 32 :=
  if lnsIsZero b then 0#32
  else
    let l := lnsLog b
    let q := l / 512
    let f := (l % 512).toNat
    let neg := lnsNeg b
    let sig : Nat :=
      if f = 0 then 2 ^ 23
      else
        match rnd with
        | .rne => (root512 25 (2 ^ (24 * 512 + f)) 0 + 1) / 2
        | .sr r =>
          let t := root512 48 (2 ^ (47 * 512 + f)) 0
          let i := t / 2 ^ 24
          let fr := t % 2 ^ 24
          if neg then (if 2 ^ 24 ≤ (2 ^ 24 - 1 - fr) + r then i else i + 1)
          else (if 2 ^ 24 ≤ fr + r then i + 1 else i)
    (a32Of ⟨if neg then -(sig : Int) else sig, q - 23⟩ .rne).1

/-! ### C40 -/

/-- A C40 pattern of mantissa `m` and exponent `x` (R69). -/
def c40Pack (m : Int) (x : Nat) : BitVec 40 :=
  BitVec.ofInt 32 m ++ BitVec.ofNat 8 x

/-- The value of a C40 pattern (R69). -/
def c40Val (b : BitVec 40) : Dy :=
  ⟨(b >>> 8).setWidth 32 |>.toInt, ((b.setWidth 8).toNat : Int) - 157⟩

/-- The C40 pattern of an exact value, normalised and rounded by R70, and whether it saturated
(R71). -/
def c40Of (v : Dy) (rnd : Rnd) : BitVec 40 × Bool :=
  if v.m = 0 then (0#40, false)
  else
    let neg := decide (v.m < 0)
    let pow2 := decide (v.m.natAbs = 2 ^ v.m.natAbs.log2)
    let top : Int := if neg && pow2 then 31 else 30
    let ulp := v.log2 - top
    let q := (v.scale (-ulp)).round rnd
    let (m, u) : Int × Int :=
      if q = 2 ^ 31 then (2 ^ 30, ulp + 1)
      else if q = -(2 ^ 30) then (-(2 ^ 31), ulp - 1)
      else (q, ulp)
    let x := u + 157
    if 255 < x then (c40Pack (if neg then -(2 ^ 31) else 2 ^ 31 - 1) 255, true)
    else if x < 1 then (0#40, false)
    else (c40Pack m x.toNat, false)

/-- Addition of a block's partial sum into C40 (R68, R70). -/
def c40Add (acc : BitVec 40) (p : Dy) (rnd : Rnd) : BitVec 40 × Bool :=
  c40Of ((c40Val acc).add p) rnd

/-! ### Block-scaled formats -/

/-- The block-scaled formats (Table 1). -/
inductive BFmt
  | bt3 | bq4 | bi4 | bi8
  deriving DecidableEq, Repr

/-- The default BQ4 codebook (R55). -/
def codebookDefault : List Int := [-3, -1, 1, 3]

/-- The value of element code `q` in units of its block scale (R53, R55, R57, R58). -/
def elemVal (fmt : BFmt) (cb : List Int) (q : Nat) : Int :=
  match fmt with
  | .bt3 => if q = 1 then 1 else if q = 2 then -1 else 0
  | .bq4 => cb.getD q 0
  | .bi4 => (BitVec.ofNat 4 q).toInt
  | .bi8 => (BitVec.ofNat 8 q).toInt

/-- The smallest `e` with `x ≤ c * 2 ^ e`, for `x` above 0 and `c` above 0. -/
def needExp (x : Dy) (c : Nat) : Int :=
  let d0 := x.log2 - (c.log2 : Int) - 1
  let fits (e : Int) : Bool := x.le ⟨c, e⟩
  if fits d0 then d0 else if fits (d0 + 1) then d0 + 1 else if fits (d0 + 2) then d0 + 2 else d0 + 3

/-- The integer nearest to `log2` of a positive value, with ties to the larger. -/
def nearestLog2 (v : Dy) : Int :=
  let k := v.m.natAbs.log2
  let up := decide (2 ^ (2 * k + 1) ≤ v.m.natAbs ^ 2)
  v.e + k + (if up then 1 else 0)

/-- The exponent needed by a block that holds a non-zero element (R59). -/
def eNeed (fmt : BFmt) (cb : List Int) (xs : List Dy) : Int :=
  match fmt with
  | .bi8 => needExp (Dy.maxAbs xs) 127
  | .bi4 => needExp (Dy.maxAbs xs) 7
  | .bq4 =>
    let cpos := (cb.foldl max 0).toNat
    let cneg := (-(cb.foldl min 0)).toNat
    let mx := xs.foldl Dy.max Dy.zero
    let mn := xs.foldl Dy.min Dy.zero
    if mx.m = 0 then needExp mn.neg cneg
    else if mn.m = 0 then needExp mx cpos
    else max (needExp mx cpos) (needExp mn.neg cneg)
  | .bt3 =>
    let s := Dy.sum (xs.map Dy.abs)
    nearestLog2 ⟨s.m, s.e - (xs.length.log2 : Int)⟩

/-- Whether every element of a block is zero. -/
def allZero (xs : List Dy) : Bool := xs.all (fun x => decide (x.m = 0))

/-- Bounds an integer to a range. -/
def clampInt (x lo hi : Int) : Int := max lo (min x hi)

/-- The E of a vector from its blocks (R60); 0 when every element is zero. -/
def vectorE (fmt : BFmt) (cb : List Int) (blocks : List (List Dy)) : Nat :=
  let needs := (blocks.filter (fun b => !allZero b)).map (eNeed fmt cb)
  match needs with
  | [] => 0
  | n :: ns => (clampInt (ns.foldl max n + 127) 0 255).toNat

/-- The representable floor of a block (R61). -/
def blockFloor (fmt : BFmt) (cb : List Int) (E : Nat) : Dy :=
  let c : Int := match fmt with
    | .bq4 =>
      let nz := (cb.filter (fun c => decide (c ≠ 0))).map (fun c => (c.natAbs : Int))
      nz.foldl min (nz.headD 1)
    | _ => 1
  ⟨c, (E : Int) - 142⟩

/-- The two codebook entries of BQ4 that bracket `y`, with their codes: the largest at or below
and the smallest at or above, each the end entry where `y` lies outside. -/
def bracket (cb : List Int) (y : Dy) : (Nat × Int) × (Nat × Int) :=
  let idx := cb.zipIdx.map (fun p => (p.2, p.1))
  let below := idx.filter (fun p => Dy.le ⟨p.2, 0⟩ y)
  let above := idx.filter (fun p => Dy.le y ⟨p.2, 0⟩)
  let best (f : Int → Int → Bool) (l : List (Nat × Int)) : Option (Nat × Int) :=
    l.foldl (fun a p => match a with
      | none => some p
      | some q => if f p.2 q.2 then some p else some q) none
  let lo := best (fun a b => decide (b < a)) below
  let hi := best (fun a b => decide (a < b)) above
  match lo, hi with
  | some l, some h => (l, h)
  | some l, none => (l, l)
  | none, some h => (h, h)
  | none, none => ((0, 0), (0, 0))

/-- The code of one element scaled to `y = x / 2 ^ e` (R63). -/
def quantElem (fmt : BFmt) (cb : List Int) (y : Dy) (rnd : Rnd) : Nat :=
  match fmt with
  | .bi8 => ((clampInt (y.round rnd) (-127) 127) % 256).toNat
  | .bi4 => ((clampInt (y.round rnd) (-7) 7) % 16).toNat
  | .bt3 =>
    let q := clampInt (y.round rnd) (-1) 1
    if q = 1 then 1 else if q = -1 then 2 else 0
  | .bq4 =>
    let (l, h) := bracket cb y
    if l.2 = h.2 then min l.1 h.1
    else
      let num := y.sub ⟨l.2, 0⟩
      let den := (h.2 - l.2).toNat
      match rnd with
      | .rne =>
        let twice := num.scale 1
        if twice.lt ⟨den, 0⟩ then l.1
        else if Dy.lt ⟨den, 0⟩ twice then h.1
        else min l.1 h.1
      | .sr r =>
        let f := (Dy.round ⟨(num.scale 24).m, (num.scale 24).e⟩ (.sr 0)) / den
        if (2 ^ 24 : Int) ≤ f + r then h.1 else l.1

/-- A quantised block: its offset, its element codes, and whether it counts as a zero block
(R62). -/
structure QBlock where
  u : Nat
  codes : List Nat
  counted : Bool
  deriving DecidableEq, Repr

/-- `quantise_block` of the chapter, with the rounding of element `i` of the block from `rnd`. -/
def quantiseBlock (fmt : BFmt) (cb : List Int) (E : Nat) (xs : List Dy) (rnd : Nat → Rnd) :
    QBlock :=
  if allZero xs then ⟨15, xs.map (fun _ => 0), false⟩
  else if (Dy.maxAbs xs).lt (blockFloor fmt cb E) then ⟨15, xs.map (fun _ => 0), true⟩
  else
    let u := (clampInt ((E : Int) - 127 - eNeed fmt cb xs) 0 14).toNat
    let e := (E : Int) - 127 - u
    ⟨u, xs.zipIdx.map (fun p => quantElem fmt cb (p.1.scale (-e)) (rnd p.2)), false⟩

/-- The value of a code under exponent E and offset `u` (R48, R49). -/
def blockVal (fmt : BFmt) (cb : List Int) (E u : Nat) (code : Nat) : Dy :=
  if u = 15 then Dy.zero else ⟨elemVal fmt cb code, (E : Int) - 127 - u⟩

/-- Cuts a list into runs of `n`. -/
def chunksOf {α : Type} (n : Nat) : Nat → List α → List (List α)
  | 0, _ => []
  | k + 1, l => if l.isEmpty then [] else l.take n :: chunksOf n k (l.drop n)

/-- A vector quantised whole (R59 to R63): E, and its blocks of `B`. DESIGN CHOICE (log entry 71): a vector whose length is no
multiple of `B` ends in a short block. -/
def quantiseVector (fmt : BFmt) (cb : List Int) (B : Nat) (xs : List Dy) (rnd : Nat → Rnd) :
    Nat × List QBlock :=
  let blocks := chunksOf B xs.length xs
  let E := vectorE fmt cb blocks
  (E, blocks.zipIdx.map (fun p => quantiseBlock fmt cb E p.1 (fun i => rnd (p.2 * B + i))))

/-! ### W8 -/

/-- A W8 block on the wire (R74): 32 BI8 element codes, offset and CLAMP. -/
structure W8Block where
  codes : List Nat
  u : Nat
  clamp : Bool
  deriving DecidableEq, Repr

/-- The header byte of a W8 block (R74). -/
def W8Block.header (b : W8Block) : Nat := b.u + b2n b.clamp * 16

/-- The value a W8 element carries. -/
def W8Block.val (b : W8Block) (E : Nat) (i : Nat) : Dy :=
  blockVal .bi8 [] E b.u (b.codes.getD i 0)

/-- Encodes one block against the agreed exponent (R75). Counted zero blocks are reported. -/
def w8Encode (E : Nat) (xs : List Dy) (rnd : Nat → Rnd) : W8Block × Bool :=
  if !allZero xs && decide ((E : Int) - 127 < eNeed .bi8 [] xs) then
    let e := (E : Int) - 127
    (⟨xs.zipIdx.map (fun p => quantElem .bi8 [] (p.1.scale (-e)) (rnd p.2)), 0, true⟩, false)
  else
    let q := quantiseBlock .bi8 [] E xs rnd
    (⟨q.codes, q.u, false⟩, q.counted)

/-- The error-feedback residuals of an encoded block, in A32 (R76). -/
def w8Residual (E : Nat) (xs : List Dy) (b : W8Block) : List (BitVec 32) :=
  xs.zipIdx.map (fun p => (a32Of (p.1.sub (b.val E p.2)) .rne).1)

/-- Encodes a run of elements in blocks of 32. -/
def w8EncodeAll (E : Nat) (xs : List Dy) (rnd : Nat → Rnd) : List W8Block × Nat :=
  let bs := (chunksOf 32 xs.length xs).zipIdx.map
    (fun p => w8Encode E p.1 (fun i => rnd (p.2 * 32 + i)))
  (bs.map (·.1), (bs.filter (·.2)).length)

/-! ### Binary32 operations of the plain unit (R73) -/

/-- A NaN result: quiet, its other bits the free value `Config.nanFree` of the operand patterns
(IEEE 754 and R73 leave them open). -/
def nan32 (a b : BitVec 32) : BitVec 32 := Config.nanFree a b ||| 0x7FC00000#32

/-- IEEE binary32 addition to nearest even. -/
def f32Add (a b : BitVec 32) : BitVec 32 :=
  match fpOf a, fpOf b with
  | .nan, _ => nan32 a b
  | _, .nan => nan32 a b
  | .inf s, .inf t => if s = t then inf32 s else nan32 a b
  | .inf s, _ => inf32 s
  | _, .inf t => inf32 t
  | .fin s x, .fin t y => f32Of (x.add y) (s && t)

/-- IEEE binary32 subtraction. -/
def f32Sub (a b : BitVec 32) : BitVec 32 := f32Add a (b ^^^ 0x80000000#32)

/-- IEEE binary32 multiplication. -/
def f32Mul (a b : BitVec 32) : BitVec 32 :=
  match fpOf a, fpOf b with
  | .nan, _ => nan32 a b
  | _, .nan => nan32 a b
  | .inf s, .inf t => inf32 (s != t)
  | .inf s, .fin t y => if y.m = 0 then nan32 a b else inf32 (s != t)
  | .fin s x, .inf t => if x.m = 0 then nan32 a b else inf32 (s != t)
  | .fin s x, .fin t y => f32Of (x.mul y) (s != t)

/-- A quotient of dyadics to `k` fractional places of the divisor's scale, with a sticky bit: a
dyadic that rounds to binary32 as the exact quotient does. -/
def quotSticky (x y : Dy) : Dy :=
  let neg := decide (x.m < 0) != decide (y.m < 0)
  let k : Nat := 320
  let n := x.m.natAbs * 2 ^ k
  let d := y.m.natAbs
  let q := 2 * (n / d) + (if n % d = 0 then 0 else 1)
  ⟨if neg then -(q : Int) else q, x.e - y.e - k - 1⟩

/-- IEEE binary32 division. -/
def f32Div (a b : BitVec 32) : BitVec 32 :=
  match fpOf a, fpOf b with
  | .nan, _ => nan32 a b
  | _, .nan => nan32 a b
  | .inf _, .inf _ => nan32 a b
  | .inf s, .fin t _ => inf32 (s != t)
  | .fin s _, .inf t => zero32 (s != t)
  | .fin s x, .fin t y =>
    if y.m = 0 then (if x.m = 0 then nan32 a b else inf32 (s != t))
    else f32Of (quotSticky x y) (s != t)

/-- IEEE binary32 square root. -/
def f32Sqrt (a : BitVec 32) : BitVec 32 :=
  match fpOf a with
  | .nan => nan32 a a
  | .inf s => if s then nan32 a a else a
  | .fin s x =>
    if x.m = 0 then a
    else if s then nan32 a a
    else
      let odd := decide (x.e % 2 ≠ 0)
      let k : Nat := 200
      let n := x.m.natAbs * 2 ^ (k + b2n odd)
      let r := n.sqrt
      f32Of ⟨(2 * r + (if r * r = n then 0 else 1) : Nat), (x.e - (b2n odd : Int) - (k : Int)) / 2 - 1⟩ false

/-- Whether `a < b` as binary32 values (false with a NaN). -/
def f32Lt (a b : BitVec 32) : Bool :=
  match fpOf a, fpOf b with
  | .nan, _ => false
  | _, .nan => false
  | .inf s, .inf t => s && !t
  | .inf s, .fin _ _ => s
  | .fin _ _, .inf t => !t
  | .fin _ x, .fin _ y => x.lt y

/-- Whether a binary32 pattern is a NaN. -/
def f32IsNaN (a : BitVec 32) : Bool := match fpOf a with | .nan => true | _ => false

/-- The larger of two binary32 values, the first where they are equal or unordered. -/
def f32Max (a b : BitVec 32) : BitVec 32 := if f32Lt a b then b else a

/-- An unsigned integer as binary32, to nearest even. -/
def f32OfNat (n : Nat) : BitVec 32 := f32Of ⟨n, 0⟩ false

/-- The finite value of a binary32 pattern, where it has one. -/
def f32Val? (a : BitVec 32) : Option Dy :=
  match fpOf a with
  | .fin _ v => some v
  | _ => none

end Sys2Proof.Machine
end

