-- ==== Sys2Proof/Machine/ArrayMath.lean ====
section
/-! DEFINITION. The arithmetic of *The fusing cell array*: tile images (R51, R52), weight slices
(R101), block sums and aligners (R107, R108), logarithmic addition (R112 to R117) and the five foot
stages (R118 to R122). -/

namespace Sys2Proof.Machine

/-! ### Tile images -/

/-- The format codes of Table 1 of *Number formats, scales and rounding* (R47). -/
def fmtBT3 : Nat := 0
def fmtBQ4 : Nat := 1
def fmtBI4 : Nat := 2
def fmtBI8 : Nat := 3
def fmtLNS16 : Nat := 4
def fmtA32 : Nat := 5
def fmtBF16 : Nat := 6
def fmtFP32 : Nat := 7
def fmtC40 : Nat := 8
def fmtW8 : Nat := 9
def fmtF32 : Nat := 10

/-- The block-scaled format of a format code. -/
def bfmtOf (c : Nat) : Option BFmt :=
  if c = 0 then some .bt3 else if c = 1 then some .bq4 else if c = 2 then some .bi4
  else if c = 3 then some .bi8 else none

/-- Bits of one element in an element section (Table 2). DESIGN CHOICE (log entry 106): an element of C40 or F32, which the
table does not name, takes 32 bits. -/
def elemBits (c : Nat) : Nat :=
  if c = 0 ∨ c = 1 then 2 else if c = 2 ∨ c = 9 then 4 else if c = 3 then 8
  else if c = 4 ∨ c = 6 then 16 else 32

/-- One vector of a tile: its second-level exponent, its block offsets and its raw element
codes. -/
structure TVec where
  E : Nat
  us : List Nat
  codes : List Nat
  deriving DecidableEq, Repr

/-- A tile: its format code, its block size (0 where the format carries no block scale), its
vectors along the reduction dimension, and its codebook (BQ4). -/
structure Tile where
  fmt : Nat
  blk : Nat
  vecs : List TVec
  cb : List Int
  deriving DecidableEq, Repr

/-- Packs little-endian fields of `w` bits into bytes (R52). -/
def packFields (w : Nat) (l : List Nat) : List Byte :=
  if w ≤ 8 then
    (chunksOf (8 / w) l.length l).map (fun c =>
      BitVec.ofNat 8 ((c.zipIdx.map (fun p => p.1 % 2 ^ w * 2 ^ (w * p.2))).foldl (· + ·) 0))
  else l.flatMap (fun x => (List.range (w / 8)).map (fun i => BitVec.ofNat 8 (x >>> (8 * i))))

/-- Reads little-endian fields of `w` bits from bytes. -/
def unpackFields (w n : Nat) (bs : List Byte) : List Nat :=
  if w ≤ 8 then
    (bs.flatMap (fun b => (List.range (8 / w)).map (fun i => bitsOf b.toNat (w * i + w - 1) (w * i)))).take n
  else
    ((chunksOf (w / 8) bs.length bs).map (fun c =>
      (c.zipIdx.map (fun p => p.1.toNat * 2 ^ (8 * p.2))).foldl (· + ·) 0)).take n

/-- Pads a section with zeros to a multiple of 64 bytes (R51). -/
def padSection (bs : List Byte) : List Byte :=
  bs ++ List.replicate ((64 - bs.length % 64) % 64) 0#8

/-- Bytes of a section of `n` bytes with its padding. -/
def secLen (n : Nat) : Nat := (n + 63) / 64 * 64

/-- The tile image in memory (R51). -/
def Tile.image (t : Tile) : List Byte :=
  let elems := padSection (packFields (elemBits t.fmt) (t.vecs.flatMap (·.codes)))
  if t.blk = 0 then elems
  else
    elems ++ padSection (packFields 4 (t.vecs.flatMap (·.us)))
      ++ padSection (t.vecs.map (fun v => BitVec.ofNat 8 v.E))
      ++ (if t.fmt = fmtBQ4 then
            padSection (packFields 4 (t.cb.map (fun c => (c % 16).toNat)))
          else [])

/-- Bytes of the image of `n` vectors of `k` elements (R51). -/
def imageLen (fmt blk n k : Nat) : Nat :=
  let es := secLen ((n * k * elemBits fmt + 7) / 8)
  if blk = 0 then es
  else es + secLen ((n * (k / blk) + 1) / 2) + secLen n + (if fmt = fmtBQ4 then 64 else 0)

/-- Reads a tile image of `n` vectors of `k` elements back (R51). -/
def readImage (fmt blk n k : Nat) (bs : List Byte) : Tile :=
  let es := secLen ((n * k * elemBits fmt + 7) / 8)
  let codes := chunksOf k n (unpackFields (elemBits fmt) (n * k) bs)
  if blk = 0 then ⟨fmt, 0, codes.map (fun c => ⟨0, [], c⟩), []⟩
  else
    let nb := k / blk
    let os := secLen ((n * nb + 1) / 2)
    let us := chunksOf nb n (unpackFields 4 (n * nb) (bs.drop es))
    let exs := ((bs.drop (es + os)).take n).map (·.toNat)
    let cb := (unpackFields 4 4 (bs.drop (es + os + secLen n))).map (fun c => (BitVec.ofNat 4 c).toInt)
    ⟨fmt, blk, (List.range n).map (fun j => ⟨exs.getD j 0, us.getD j [], codes.getD j []⟩),
      if fmt = fmtBQ4 then cb else []⟩

/-- FETCH widens a BI4 tile to BI8 by sign extension (R57). -/
def Tile.widen (t : Tile) : Tile :=
  if t.fmt = fmtBI4 then
    { t with fmt := fmtBI8, vecs := t.vecs.map (fun v =>
        { v with codes := v.codes.map (fun c => ((BitVec.ofNat 4 c).signExtend 8).toNat) }) }
  else t

/-- Elements of a BT3 tile that carry the code 0b11, counted by the STAT tap (R54). -/
def Tile.pruned (t : Tile) : Nat :=
  if t.fmt = fmtBT3 then (t.vecs.map (fun v => (v.codes.filter (· = 3)).length)).foldl (· + ·) 0 else 0

/-- The exact value of element `k` of a vector of tile `t`. -/
def Tile.val (t : Tile) (v : TVec) (k : Nat) : Dy :=
  match bfmtOf t.fmt with
  | some f => blockVal f t.cb v.E (v.us.getD (k / t.blk) 15) (v.codes.getD k 0)
  | none => Dy.zero

/-- Cuts a list to `n` elements or fills it up. -/
def fitTo {α : Type} (n : Nat) (d : α) (l : List α) : List α := l.take n ++ List.replicate (n - l.length) d

/-- A weight tile as the cells of a part of `r` rows and `n` logical columns hold it (R98, R132): what lies
beyond the part is not loaded. DESIGN CHOICE (log entry 70): cells that the tile does not reach hold zero
weights. -/
def Tile.fit (t : Tile) (r n : Nat) : Tile :=
  let pad := if t.fmt = fmtLNS16 then 0x4000 else 0
  { t with vecs := (fitTo n ⟨0, [], []⟩ t.vecs).map (fun v => { v with codes := fitTo r pad v.codes }) }

/-! ### Logarithmic arithmetic -/

/-- The correction table T (R113): `min (1023, round (1024 * log2 (1 + 2 ^ (-k / 4))))`. -/
def lnsT : List Int :=
  [1023, 902, 790, 689, 599, 518, 447, 385, 330, 282, 240, 205, 174, 148, 125, 106,
   90, 76, 64, 54, 45, 38, 32, 27, 23, 19, 16, 14, 11, 10, 8, 7]

/-- `phi` of R114. -/
def lnsPhi (D0 : Int) : Int :=
  let k : Nat := if 4096 ≤ D0 then ((D0 - 4096) / 512 + 1).toNat else 0
  let D := D0 - 512 * k
  let i := (D / 128).toNat
  let f := D % 128
  let t0 := lnsT.getD i 0
  let t1 := if i = 31 then (lnsT.getD 28 0) / 2 else lnsT.getD (i + 1) 0
  let c := t0 + ((t1 - t0) * f + 64) / 128
  if 16 ≤ k then 0 else c / (2 ^ k : Nat)

/-- A logarithmic value: sign and logarithm; −16,384 is zero. -/
structure Lns where
  neg : Bool
  l : Int
  deriving DecidableEq, Repr

/-- What one logarithmic operation reports: saturations (R117) and linear-path results (R115). -/
structure LnsEv where
  ovf : Nat
  cancel : Nat
  deriving DecidableEq, Repr

/-- Events of two operations together. -/
def LnsEv.add (a b : LnsEv) : LnsEv := ⟨a.ovf + b.ovf, a.cancel + b.cancel⟩

/-- `lns_make` of R114. -/
def lnsMake (s : Bool) (l : Int) : Lns × LnsEv :=
  if l ≤ -16384 then (⟨false, -16384⟩, ⟨0, 0⟩)
  else if 16383 < l then (⟨s, 16383⟩, ⟨1, 0⟩)
  else (⟨s, l⟩, ⟨0, 0⟩)

/-- The logarithm, relative to the smaller operand, of the LNS16 value nearest to
`2 ^ (D / 512) - 1` (R115), for D from 1 to 63: the two neighbouring grid values are compared at 160
fraction bits, ties to the even logarithm. -/
def lnsLinearLog (D : Nat) (base : Int) : Int :=
  let r (x : Nat) : Nat := root512 162 (2 ^ x) 0
  let G := r (512 * 160 + D) - 2 ^ 160
  let f : Int := ((G ^ 512).log2 : Int) - 512 * 160
  let v (l : Int) : Nat := r (512 * 160 + l).toNat
  let mid := v f + v (f + 1)
  if 2 * G < mid then f
  else if mid < 2 * G then f + 1
  else if (base + f) % 2 = 0 then f else f + 1

/-- `lns_linear` of R115 for operands of opposite sign, the first the larger. -/
def lnsLinear (a b : Lns) : Lns × LnsEv :=
  let D := (a.l - b.l).toNat
  let r := if D = 0 then (⟨false, -16384⟩, ⟨0, 0⟩) else lnsMake a.neg (b.l + lnsLinearLog D b.l)
  (r.1, r.2.add ⟨0, 1⟩)

/-- `lns_add` of R114. -/
def lnsAdd (p q : Lns) : Lns × LnsEv :=
  if p.l = -16384 then lnsMake q.neg q.l
  else if q.l = -16384 then lnsMake p.neg p.l
  else
    let a := if p.l < q.l then q else p
    let b := if p.l < q.l then p else q
    let D := a.l - b.l
    if a.neg = b.neg then lnsMake a.neg (a.l + (lnsPhi D + 1) / 2)
    else if D < 64 then lnsLinear a b
    else
      let c := ((List.range 7).map (fun k => lnsPhi (D * (2 ^ k : Nat)))).foldl (· + ·) 0
      lnsMake a.neg (a.l - (c + 1) / 2)

/-- The product of two logarithmic values (R112). -/
def lnsMul (p q : Lns) : Lns × LnsEv :=
  if p.l = -16384 ∨ q.l = -16384 then (⟨false, -16384⟩, ⟨0, 0⟩)
  else lnsMake (p.neg != q.neg) (p.l + q.l)

/-- Reads an LNS16 pattern. -/
def lnsOfBits (b : BitVec 16) : Lns := ⟨lnsNeg b, lnsLog b⟩

/-- Writes an LNS16 pattern. -/
def Lns.bits (v : Lns) : BitVec 16 := lnsPack v.neg v.l

/-! ### One column through the array -/

/-- The ladder modes (Table 4), by their issue codes. -/
inductive Mode
  | n2 | m8 | l16
  deriving DecidableEq, Repr

/-- The mode of an issue code (R125). -/
def modeOf (c : Nat) : Option Mode :=
  if c = 0 then some .n2 else if c = 1 then some .m8 else if c = 2 then some .l16 else none

/-- Physical columns of one logical column (Table 1 of the chapter). -/
def Mode.lane : Mode → Nat
  | .n2 => 1 | .m8 => 4 | .l16 => 8

/-- Weight formats a mode accepts in a plane (Table 4). -/
def Mode.acceptsPlane (m : Mode) (fmt : Nat) : Bool :=
  match m with
  | .n2 => fmt = fmtBT3 || fmt = fmtBQ4
  | .m8 => fmt = fmtBI8
  | .l16 => fmt = fmtLNS16

/-- Activation formats a mode accepts on a stream (Table 4). -/
def Mode.acceptsAct (m : Mode) (fmt : Nat) : Bool :=
  match m with
  | .n2 | .m8 => fmt = fmtBI8
  | .l16 => fmt = fmtLNS16

/-- Slice `s` of a BI8 weight (R101): slices 0 to 2 unsigned, slice 3 signed. -/
def sliceOf (w : Nat) (s : Nat) : Int :=
  let f := bitsOf w (2 * s + 1) (2 * s)
  if s = 3 then (BitVec.ofNat 2 f).toInt else f

/-- The weight value a cell contributes: the whole code in N2, slice `s` in M8. -/
def cellWeight (mode : Mode) (t : Tile) (s code : Nat) : Int :=
  match mode with
  | .m8 => sliceOf code s
  | _ => match bfmtOf t.fmt with
    | some f => elemVal f t.cb code
    | none => 0

/-- The generator word of a rounding point, rotated as Table 7 gives. -/
def pointRnd (sr : Bool) (key : BitVec 64) (step tile elem rot : Nat) : Rnd :=
  if sr then .sr (srDraw (rotl32 (srWord key (srCtr step tile elem)) rot)) else .rne

/-- One physical column of one vector (R107, R108): the blocks' exact sums added into C40 in band
order. `rnd n` is the rounding at the n-th active boundary, n from 1. -/
def columnC40 (mode : Mode) (wt : Tile) (wv : TVec) (s : Nat) (av : TVec) (rnd : Nat → Rnd) :
    BitVec 40 × Nat :=
  let nb := wv.codes.length / wt.blk
  (List.range nb).foldl (fun (st : BitVec 40 × Nat) b =>
    let uw := wv.us.getD b 15
    let ua := av.us.getD b 15
    if uw = 15 ∨ ua = 15 then st
    else
      let sum := (List.range wt.blk).foldl (fun (a : Int) i =>
        let k := b * wt.blk + i
        a + cellWeight mode wt s (wv.codes.getD k 0) * elemVal .bi8 [] (av.codes.getD k 0)) 0
      let e : Int := ((wv.E : Int) - 127 - uw) + ((av.E : Int) - 127 - ua)
      let r := c40Add st.1 ⟨sum, e⟩ (rnd (b + 1))
      (r.1, st.2 + b2n r.2)) (0#40, 0)

/-- One logarithmic column of one vector: products and running sum, down the lane. -/
def columnLns (wv av : TVec) : Lns × LnsEv :=
  (wv.codes.zip av.codes).foldl (fun (st : Lns × LnsEv) p =>
    let m := lnsMul (lnsOfBits (BitVec.ofNat 16 p.1)) (lnsOfBits (BitVec.ofNat 16 p.2))
    let a := lnsAdd st.1 m.1
    (a.1, st.2.add (m.2.add a.2))) (⟨false, -16384⟩, ⟨0, 0⟩)

/-- What an engine stream needs beside its operands: the fields of its issue word that reach the
arithmetic (R125), the SR key (R122), the step, the output tile count it starts at, the physical column
at which its part begins, and the power of two of a replay (R181), 0 or 16. -/
structure FootCtl where
  mode : Mode
  longSum : Bool
  acc : Bool
  fin : Bool
  rescale : Bool
  rnd : Bool
  outFmt : Nat
  blk : Nat
  key : BitVec 64
  step : Nat
  tile0 : Nat
  col0 : Nat
  boost : Nat
  deriving DecidableEq, Repr

/-- The rounding of an aligner or a foot stage at physical column `q` of vector `m` (R122). -/
def FootCtl.pr (c : FootCtl) (m : Nat) (sr : Bool) (q rot : Nat) : Rnd :=
  pointRnd sr c.key c.step (c.tile0 + m / 128) (m % 128 * 128 + q) rot

/-- Foot stage 1 of logical column `j` of vector `m` (Table 6): an A32 pattern, and the foot overflows of the
column's sums and of the conversion. -/
def footStage1 (c : FootCtl) (wt : Tile) (m j : Nat) (av : TVec) : BitVec 32 × Nat :=
  let wv := wt.vecs.getD j ⟨0, [], []⟩
  let p := c.col0 + j * c.mode.lane
  match c.mode with
  | .n2 =>
    let r := columnC40 .n2 wt wv 0 av (fun n => c.pr m c.longSum p (3 * n))
    let a := a32Of (c40Val r.1) (c.pr m c.longSum p 27)
    (a.1, r.2 + b2n a.2)
  | .m8 =>
    let rs := (List.range 4).map (fun s =>
      columnC40 .m8 wt wv s av (fun n => c.pr m c.longSum (p + s) (3 * n)))
    let v := Dy.sum (rs.zipIdx.map (fun r => (c40Val r.1.1).scale (2 * (r.2 : Int))))
    let a := a32Of v (c.pr m c.longSum p 27)
    (a.1, (rs.map (·.2)).foldl (· + ·) 0 + b2n a.2)
  | .l16 =>
    let r := columnLns wv av
    (lnsTo32 r.1.bits (c.pr m c.longSum p 27), r.2.ovf)

/-- Foot stages 1 to 3 of logical column `j` of vector `m` (Table 6): an A32 pattern and the foot
overflows. `part` is the partial tile's element, `scale` the column's FP32 scale. DESIGN CHOICE (log entry 109): a scale that
is a NaN counts as zero, and an infinite one as the largest magnitude (R118). -/
def footColumn (c : FootCtl) (wt : Tile) (m j : Nat) (av : TVec) (part scale : BitVec 32) :
    BitVec 32 × Nat :=
  let s1 := footStage1 c wt m j av
  let s2 : BitVec 32 × Nat :=
    if c.acc then
      let a := a32Add s1.1 part (c.pr m c.longSum (c.col0 + j * c.mode.lane) 0)
      (a.1, s1.2 + b2n a.2)
    else s1
  if c.rescale ∨ c.boost ≠ 0 then
    let sc := if c.rescale then scale else 0x3F800000#32
    let v := ((a32Val s2.1).mul (finIn sc).1).scale c.boost
    let a := if v.m = 0 then (zero32 (s2.1.msb != sc.msb), false) else a32Of v .rne
    (a.1, s2.2 + b2n a.2)
  else s2

/-- Foot stage 4 of one output vector (R120): the quantised or converted vector, its counted zero
blocks, and the numeric events of the conversion. DESIGN CHOICE (log entry 71): where the part has fewer
logical columns than B, they make one short block. -/
def footRound (c : FootCtl) (m : Nat) (xs : List (BitVec 32)) : TVec × Nat × NumEv :=
  let tile := c.tile0 + m / 128
  let rnd (j : Nat) : Rnd :=
    pointRnd c.rnd c.key c.step tile (m % 128 * 128 + (c.col0 + j * c.mode.lane)) 30
  if !c.fin then (⟨0, [], xs.map (·.toNat)⟩, 0, NumEv.none)
  else
    match bfmtOf c.outFmt with
    | some f =>
      let q := quantiseVector f [] c.blk (xs.map a32Val) rnd
      (⟨q.1, q.2.map (·.u), q.2.flatMap (·.codes)⟩, (q.2.filter (·.counted)).length, NumEv.none)
    | none =>
      if c.outFmt = fmtLNS16 then (⟨0, [], xs.map (fun x => (lnsOfDy (a32Val x)).toNat)⟩, 0, NumEv.none)
      else if c.outFmt = fmtBF16 then (⟨0, [], xs.map (fun x => (bf16Of x).toNat)⟩, 0, NumEv.none)
      else (⟨0, [], xs.map (·.toNat)⟩, 0, NumEv.none)

/-- Foot stages 1 to 3 of a run of vectors of one part (R106): for each vector, one pattern for each logical
column of the part, with its foot overflows; `wt` is the weight tile fitted to the part. `parts` holds the
partial tile's rows and `scales` the columns'. -/
def footRows (c : FootCtl) (wt : Tile) (m0 : Nat) (acts : List TVec)
    (parts : List (List (BitVec 32))) (scales : List (BitVec 32)) : List (List (BitVec 32 × Nat)) :=
  acts.zipIdx.map (fun a =>
    (List.range wt.vecs.length).map (fun j =>
      footColumn c wt (m0 + a.2) j a.1 ((parts.getD a.2 []).getD j 0#32) (scales.getD j 0#32)))

/-- Whether an element of a foot row saturated by R72. -/
def footSat (x : BitVec 32 × Nat) : Bool := decide (0 < x.2) && (x.1 = max32 false || x.1 = max32 true)

/-- Foot stage 4 of the rows: the output tile and its counted zero blocks. -/
def footPack (c : FootCtl) (m0 : Nat) (rows : List (List (BitVec 32))) : Tile × Nat :=
  let outs := rows.zipIdx.map (fun r => footRound c (m0 + r.2) r.1)
  let fmt := if c.fin then c.outFmt else fmtA32
  (⟨fmt, if (bfmtOf fmt).isSome then c.blk else 0, outs.map (·.1), []⟩,
   (outs.map (fun o => o.2.1)).foldl (· + ·) 0)

/-! ### What the STAT tap sees of a vector -/

/-- One observed block: its bin of the histogram (R147), and whether it is a zero block that R62
counts. -/
structure BlockObs where
  bin : Nat
  counted : Bool
  deriving DecidableEq, Repr

/-- The observed blocks of a vector quantised to a format (R146, R147). -/
def observeVec (fmt : BFmt) (cb : List Int) (B : Nat) (xs : List Dy) : List BlockObs :=
  let blocks := chunksOf B xs.length xs
  let E := vectorE fmt cb blocks
  blocks.map (fun b =>
    if allZero b then ⟨31, false⟩
    else if (Dy.maxAbs b).lt (blockFloor fmt cb E) then ⟨31, true⟩
    else ⟨min 30 ((E : Int) - 127 - eNeed fmt cb b).toNat, false⟩)

/-- Whether a vector with saturated elements captures the scale (R181): the block of a saturated element set
E, and a block other than a saturated element's becomes a counted zero block, or is bounded at offset 14. -/
def scaleCaptured (fmt : BFmt) (cb : List Int) (B : Nat) (xs : List Dy) (sat : List Bool) : Bool :=
  let obs := observeVec fmt cb B xs
  let blocks := chunksOf B xs.length xs
  let E := vectorE fmt cb blocks
  let satB := (chunksOf B sat.length sat).map (fun b => b.any id)
  (blocks.zip satB).any (fun p => p.2 && !allZero p.1 && (clampInt (eNeed fmt cb p.1 + 127) 0 255).toNat = E) && (obs.zip satB).any (fun p => !p.2 && (p.1.counted || (decide (14 < p.1.bin) && decide (p.1.bin < 31))))

end Sys2Proof.Machine
end

