-- ==== Sys2Proof/Machine/Rules.lean ====
section
/-! DEFINITION. The precision rule unit as functions of its tables: rule entries (R168, R169), the
statistics record and its combine (R150 to R160), the metrics and conditions (R175 to R177), the
width spend (R178), `evaluate` (R179), the digest (R174) and `spot_pick` (R154). -/

namespace Sys2Proof.Machine

/-- A rule entry: sixteen 32-bit words W0 to W15 (R168). -/
structure RuleEntry where
  w : List (BitVec 32)
  deriving DecidableEq, Repr

/-- The all-zero entry. -/
def RuleEntry.zero : RuleEntry := ⟨List.replicate 16 0#32⟩

/-- Bits [hi:lo] of word `i`. -/
def RuleEntry.f (e : RuleEntry) (i hi lo : Nat) : Nat := bitsOf (e.w.getD i 0#32).toNat hi lo

/-- `VALID`. -/
def RuleEntry.valid (e : RuleEntry) : Bool := e.f 0 31 31 = 1
/-- `EF`. -/
def RuleEntry.ef (e : RuleEntry) : Bool := e.f 0 30 30 = 1
/-- `HYST_W`. -/
def RuleEntry.hystW (e : RuleEntry) : Nat := e.f 0 27 24
/-- `HYST_N`. -/
def RuleEntry.hystN (e : RuleEntry) : Nat := e.f 0 23 20
/-- `PRIO`. -/
def RuleEntry.prio (e : RuleEntry) : Nat := e.f 0 19 12
/-- Whether variant `c` is allowed. -/
def RuleEntry.allowed (e : RuleEntry) (c : Nat) : Bool := e.f 0 (8 + c) (8 + c) = 1
/-- `CUR`, the current variant. -/
def RuleEntry.cur (e : RuleEntry) : Nat := e.f 0 1 0
/-- `REPLAY`, the micro-replay budget. -/
def RuleEntry.replay (e : RuleEntry) : Nat := e.f 1 31 24
/-- `PASS`. -/
def RuleEntry.pass (e : RuleEntry) : Nat := e.f 1 13 12
/-- `LAYER`. -/
def RuleEntry.layer (e : RuleEntry) : Nat := e.f 1 11 0
/-- `COST` of variant `c`. -/
def RuleEntry.cost (e : RuleEntry) (c : Nat) : Nat := e.f (2 + c) 31 0

/-- The entry with `CUR` replaced; no other field changes (R33). -/
def RuleEntry.setCur (e : RuleEntry) (c : Nat) : RuleEntry :=
  ⟨e.w.set 0 (BitVec.ofNat 32 (setBits (e.w.getD 0 0#32).toNat 1 0 c))⟩

/-- The next allowed variant below `CUR`. -/
def RuleEntry.lower (e : RuleEntry) : Option Nat :=
  ((List.range 4).filter (fun c => e.allowed c && decide (c < e.cur))).getLast?

/-- The next allowed variant above `CUR`. -/
def RuleEntry.higher (e : RuleEntry) : Option Nat :=
  ((List.range 4).filter (fun c => e.allowed c && decide (e.cur < c))).head?

/-- The lowest allowed variant (R178). -/
def RuleEntry.base (e : RuleEntry) : Nat := ((List.range 4).filter e.allowed).headD 0

/-- Whether every reserved field is zero (R169, R168). -/
def RuleEntry.reservedClear (e : RuleEntry) : Bool :=
  e.f 0 29 28 = 0 && e.f 0 7 2 = 0 && e.f 1 23 14 = 0 && e.f 13 31 0 = 0 && e.f 14 31 0 = 0
    && e.f 15 31 0 = 0

/-- Whether the costs of the allowed variants do not decrease in ladder order (R169). -/
def RuleEntry.costsRise (e : RuleEntry) : Bool :=
  (List.range 4).all (fun c => (List.range c).all (fun d =>
    !(e.allowed c && e.allowed d) || decide (e.cost d ≤ e.cost c)))

/-- The conditions of R169 on one entry alone. -/
def RuleEntry.ok (e : RuleEntry) : Bool :=
  e.reservedClear &&
  (!e.valid ||
    ((List.range 4).any e.allowed && e.allowed e.cur && e.hystW != 0 && e.hystN != 0
      && e.pass != 3
      && (List.range 4).all (fun c => e.allowed c || e.cost c = 0)
      && e.costsRise))

/-- Whether two valid entries share a layer and a pass (R169). -/
def RuleEntry.clashes (a b : RuleEntry) : Bool :=
  a.valid && b.valid && decide (a.layer = b.layer) && decide (a.pass = b.pass)

/-- The rule state of an entry (R172, R179). -/
structure RuleState where
  wstreak : Nat
  nstreak : Nat
  run : Nat
  deriving DecidableEq, Repr

/-- The zero rule state. -/
def RuleState.zero : RuleState := ⟨0, 0, 0⟩

/-- A statistics record (R150). FP32 fields are binary32 patterns. -/
structure StatRec where
  entry : Nat
  variant : Nat
  contrib : Nat
  step : Nat
  digestMin : BitVec 32
  digestMax : BitVec 32
  hist : List Nat
  blocks : Nat
  zeroBlocks : Nat
  wireBlocks : Nat
  clamped : Nat
  pruned : Nat
  footOvf : Nat
  replays : Nat
  exhausted : Nat
  nanInf : Nat
  stale : Nat
  resSq : BitVec 32
  sigSq : BitVec 32
  spotCount : Nat
  spotMax : BitVec 32
  spotSum : BitVec 32
  spotAbandoned : Nat
  deriving DecidableEq, Repr

/-- The all-zero record (an invalid entry of tag 0xFFFF, R161). -/
def StatRec.zero : StatRec :=
  ⟨0, 0, 0, 0, 0#32, 0#32, List.replicate 32 0, 0, 0, 0, 0, 0, 0, 0, 0, 0, 0, 0#32, 0#32, 0, 0#32,
    0#32, 0⟩

/-- The Maximum of two FP32 values (R160): a NaN gives way, two NaNs give 0x7FC0_0000. -/
def f32MaxRec (a b : BitVec 32) : BitVec 32 :=
  if f32IsNaN a && f32IsNaN b then 0x7FC00000#32
  else if f32IsNaN a then b
  else if f32IsNaN b then a
  else f32Max a b

/-- Merges two records by the Combine column of Table 3 (R160, R161). -/
def StatRec.combine (a b : StatRec) : StatRec :=
  let sat (x y : Nat) : Nat := satAdd x y 0xFFFFFFFF
  { entry := a.entry
    variant := max a.variant b.variant
    contrib := a.contrib + b.contrib
    step := a.step
    digestMin := if b.digestMin.ult a.digestMin then b.digestMin else a.digestMin
    digestMax := if a.digestMax.ult b.digestMax then b.digestMax else a.digestMax
    hist := (List.range 32).map (fun i => a.hist.getD i 0 + b.hist.getD i 0)
    blocks := a.blocks + b.blocks
    zeroBlocks := a.zeroBlocks + b.zeroBlocks
    wireBlocks := a.wireBlocks + b.wireBlocks
    clamped := a.clamped + b.clamped
    pruned := a.pruned + b.pruned
    footOvf := sat a.footOvf b.footOvf
    replays := sat a.replays b.replays
    exhausted := sat a.exhausted b.exhausted
    nanInf := sat a.nanInf b.nanInf
    stale := sat a.stale b.stale
    resSq := f32Add a.resSq b.resSq
    sigSq := f32Add a.sigSq b.sigSq
    spotCount := sat a.spotCount b.spotCount
    spotMax := f32MaxRec a.spotMax b.spotMax
    spotSum := f32Add a.spotSum b.spotSum
    spotAbandoned := sat a.spotAbandoned b.spotAbandoned }

/-- The record in memory (R150), 256 bytes. -/
def StatRec.bytes (r : StatRec) : List Byte :=
  leBytes 2 r.entry ++ leBytes 1 r.variant ++ leBytes 1 0 ++ leBytes 2 r.contrib ++ leBytes 2 0
  ++ leBytes 4 r.step ++ leBytes 4 r.digestMin.toNat ++ leBytes 4 r.digestMax.toNat ++ leBytes 4 0
  ++ (List.range 32).flatMap (fun i => leBytes 4 (r.hist.getD i 0))
  ++ leBytes 8 r.blocks ++ leBytes 8 r.zeroBlocks ++ leBytes 8 r.wireBlocks ++ leBytes 8 r.clamped
  ++ leBytes 8 r.pruned ++ leBytes 4 r.footOvf ++ leBytes 4 r.replays ++ leBytes 4 r.exhausted
  ++ leBytes 4 r.nanInf ++ leBytes 4 r.stale ++ leBytes 4 r.resSq.toNat ++ leBytes 4 r.sigSq.toNat
  ++ leBytes 4 r.spotCount ++ leBytes 4 r.spotMax.toNat ++ leBytes 4 r.spotSum.toNat
  ++ leBytes 4 r.spotAbandoned ++ leBytes 20 0

/-- The histogram of a device's own record from its block counts (R151). -/
def histNormalise (counts : List Nat) (n : Nat) : List Nat :=
  (List.range 32).map (fun i => if n = 0 then 0 else 2 ^ 17 * counts.getD i 0 / n)

/-- The bin of an observed block (R147). -/
def histBin (zeroBlock : Bool) (uStar : Int) : Nat :=
  if zeroBlock then 31 else if 30 ≤ uStar then 30 else uStar.toNat

/-! ### Metrics and conditions -/

/-- The binary32 pattern of 1.0. -/
def one32 : BitVec 32 := 0x3F800000#32

/-- `min (1, x)` in FP32; a NaN leaves a free value, since R175 states none. -/
def minOne (x : BitVec 32) : BitVec 32 :=
  if f32IsNaN x then Config.minOneFree x else if f32Lt one32 x then one32 else x

/-- A ratio of two counts in FP32, 0 where the denominator is zero (R175). -/
def ratio32 (a b : Nat) : BitVec 32 := if b = 0 then 0#32 else f32Div (f32OfNat a) (f32OfNat b)

/-- Whether a binary32 pattern is a zero. -/
def isZero32 (x : BitVec 32) : Bool := decide (x.setWidth 31 = 0#31)

/-- The six fractional metrics of Table 6, in its order. -/
def metrics (r : StatRec) : List (BitVec 32) :=
  let deepN := ((List.range 32).map (fun i => if 15 ≤ i ∧ i ≤ 30 then r.hist.getD i 0 else 0)).foldl (· + ·) 0
  let deepD := ((List.range 32).map (fun i => r.hist.getD i 0)).foldl (· + ·) 0
  [ratio32 deepN deepD, ratio32 r.zeroBlocks r.blocks, ratio32 r.clamped r.wireBlocks,
   (if isZero32 r.sigSq then 0#32 else minOne (f32Sqrt (f32Div r.resSq r.sigSq))),
   minOne r.spotMax,
   (if r.spotCount = 0 then 0#32 else minOne (f32Div r.spotSum (f32OfNat r.spotCount)))]

/-- The widen thresholds of the fractional metrics, in the order of Table 6. -/
def RuleEntry.widenT (e : RuleEntry) : List Nat :=
  [e.f 6 31 16, e.f 6 15 0, e.f 7 31 16, e.f 7 15 0, e.f 8 31 16, e.f 8 15 0]

/-- The narrow thresholds of the fractional metrics, in the order of Table 6. -/
def RuleEntry.narrowT (e : RuleEntry) : List Nat :=
  [e.f 10 31 16, e.f 10 15 0, e.f 11 31 16, e.f 11 15 0, e.f 12 31 16, e.f 12 15 0]

/-- The fraction `T / 65536` in FP32 (exact). -/
def thresh32 (t : Nat) : BitVec 32 := f32Of ⟨t, -16⟩ false

/-- Whether fractional metric `i` takes part: the spot metrics do not when `SPOT_COUNT` is zero
(R177). -/
def metricTakesPart (r : StatRec) (i : Nat) : Bool := i < 4 || r.spotCount != 0

/-- The widen condition (R176). -/
def widenCond (e : RuleEntry) (r : StatRec) : Bool :=
  (((metrics r).zip e.widenT).zipIdx.any (fun p =>
    metricTakesPart r p.2 && p.1.2 != 0xFFFF && f32Lt (thresh32 p.1.2) p.1.1))
  || (e.f 9 31 16 != 0xFFFF && decide (e.f 9 31 16 < r.footOvf))

/-- The narrow condition (R177). -/
def narrowCond (e : RuleEntry) (r : StatRec) : Bool :=
  !widenCond e r &&
  (((metrics r).zip e.narrowT).zipIdx.all (fun p =>
    !metricTakesPart r p.2 || f32Lt p.1.1 (thresh32 p.1.2)))
  && decide (r.footOvf < e.f 9 15 0)

/-- The width spend (R178). -/
def widthSpend (es : List (Nat × RuleEntry)) : Nat :=
  ((es.filter (fun p => p.2.valid)).map (fun p => p.2.cost p.2.cur - p.2.cost p.2.base)).foldl (· + ·) 0

/-! ### `evaluate` -/

/-- The steering events that an evaluation raises, each with its entry. -/
inductive RuleEv
  | deferred (n : Nat)
  | top (n : Nat)
  | alarm (n : Nat)
  deriving DecidableEq, Repr

/-- The running state of `evaluate`. -/
structure EvalSt where
  entries : List (Nat × RuleEntry)
  states : List (Nat × RuleState)
  want : List Nat
  spend : Nat
  blocked : Bool
  widened : Nat
  narrowed : Nat
  nDeferred : Nat
  nTop : Nat
  events : List RuleEv
  deriving DecidableEq, Repr

/-- An entry of an association list, with a default. -/
def assocD {α : Type} (l : List (Nat × α)) (n : Nat) (d : α) : α :=
  ((l.find? (fun p => p.1 = n)).map (·.2)).getD d

/-- Sets an entry of an association list, at the end where it is absent. -/
def assocSet {α : Type} (l : List (Nat × α)) (n : Nat) (v : α) : List (Nat × α) :=
  if l.any (fun p => p.1 = n) then l.map (fun p => if p.1 = n then (n, v) else p) else l ++ [(n, v)]

/-- Pass 1 of `evaluate` for one entry. -/
def evalPass1 (recs : List (Nat × StatRec)) (st : EvalSt) (ne : Nat × RuleEntry) : EvalSt :=
  let n := ne.1
  let e := ne.2
  let r := assocD recs n StatRec.zero
  if !e.valid || r.contrib = 0 then st
  else
    let s0 := assocD st.states n RuleState.zero
    let w := widenCond e r
    let nw := narrowCond e r
    let ws := if w then min (s0.wstreak + 1) 15 else 0
    let ns := if nw then min (s0.nstreak + 1) 15 else 0
    let want := decide (e.hystW ≤ ws)
    let run := if want then s0.run else 0
    let go := decide (e.hystN ≤ ns) && e.lower.isSome
    let e' := if go then e.setCur (e.lower.getD 0) else e
    let ns' := if go then 0 else ns
    { st with
      entries := assocSet st.entries n e'
      states := assocSet st.states n ⟨ws, ns', run⟩
      want := if want then st.want ++ [n] else st.want
      narrowed := st.narrowed + b2n go }

/-- `bump` of the chapter. -/
def evalBump (alarmSteps : Nat) (st : EvalSt) (n : Nat) : EvalSt :=
  let s0 := assocD st.states n RuleState.zero
  let run := min (s0.run + 1) 255
  { st with
    states := assocSet st.states n { s0 with run := run }
    events := if run = alarmSteps then st.events ++ [.alarm n] else st.events }

/-- Pass 2 of `evaluate` for one entry. -/
def evalPass2 (budget alarmSteps : Nat) (st : EvalSt) (n : Nat) : EvalSt :=
  if !(st.want.contains n) then st
  else
    let e := assocD st.entries n RuleEntry.zero
    match e.higher with
    | none =>
      evalBump alarmSteps { st with events := st.events ++ [.top n], nTop := st.nTop + 1 } n
    | some up =>
      let d := e.cost up - e.cost e.cur
      if st.blocked || decide (budget < st.spend + d) then
        evalBump alarmSteps
          { st with blocked := true, events := st.events ++ [.deferred n],
                    nDeferred := st.nDeferred + 1 } n
      else
        let s0 := assocD st.states n RuleState.zero
        { st with
          entries := assocSet st.entries n (e.setCur up)
          states := assocSet st.states n { s0 with wstreak := 0, run := 0 }
          spend := st.spend + d
          widened := st.widened + 1 }

/-- Inserts an entry number into the order of pass 2: `PRIO` descending, then index ascending. -/
def prioInsert (es : List (Nat × RuleEntry)) (l : List Nat) (n : Nat) : List Nat :=
  let p (x : Nat) : Nat := (assocD es x RuleEntry.zero).prio
  let before := l.filter (fun x => decide (p n < p x) || (decide (p n = p x) && decide (x < n)))
  let after := l.filter (fun x => !(decide (p n < p x) || (decide (p n = p x) && decide (x < n))))
  before ++ n :: after

/-- The passes of `evaluate` (R179) once its three guards are past. -/
def evaluateRules (budget alarmSteps : Nat) (entries : List (Nat × RuleEntry))
    (states : List (Nat × RuleState)) (recs : List (Nat × StatRec)) : EvalSt :=
  let st0 : EvalSt := ⟨entries, states, [], 0, false, 0, 0, 0, 0, []⟩
  let st1 := entries.foldl (evalPass1 recs) st0
  let st2 := { st1 with spend := widthSpend st1.entries }
  let order := ((entries.filter (fun p => p.2.valid)).map (·.1)).foldl (prioInsert entries) []
  order.foldl (evalPass2 budget alarmSteps) st2

/-! ### Digest and spot checks -/

/-- The rule-table digest over the 4,096 active entries in index order (R174). -/
def ruleDigest (es : List (Nat × RuleEntry)) : BitVec 32 :=
  ~~~ ((List.range 4096).foldl (fun c n =>
    ((assocD es n RuleEntry.zero).w.flatMap (fun x => leBytes 4 x.toNat)).foldl crc32Byte c)
    0xFFFFFFFF#32)

/-- `spot_pick` (R154): whether tile `t` is picked, and the 12-bit column selector. -/
def spotPick (seed rank rateLog2 step entry t pass : Nat) : Bool × Nat :=
  let key := srKey seed 0xFFFD rank pass
  let ctr := BitVec.ofNat 64 (step % 2 ^ 32 * 2 ^ 32 + entry * 2 ^ 20 + t % 2 ^ 20)
  let w := (srWord key ctr).toNat
  (decide (w % 2 ^ rateLog2 = 0), w >>> 20)

/-- The relative L2 error of a spot check from the two norms in FP32 (R157). -/
def spotError (normDiff normRef normArr : BitVec 32) : BitVec 32 :=
  if isZero32 normRef then (if isZero32 normArr then 0#32 else one32)
  else
    let q := f32Div normDiff normRef
    match fpOf q with
    | .fin _ _ => q
    | _ => one32

end Sys2Proof.Machine
end

