-- ==== Sys2Proof/Machine/Tbl.lean ====
section
/-! DEFINITION. Tables by number (sparse arrays of state), and device memory as a list of cells in
one canonical form: addresses strictly rising, no entry equal to what an unlisted address reads
as. -/

namespace Sys2Proof.Machine

/-- A table by number: keys strictly rising, at most one value for a key. -/
abbrev Tbl (α : Type) := List (Nat × α)

/-- The value at a key, where there is one. -/
def tget? {α : Type} : Tbl α → Nat → Option α
  | [], _ => none
  | (a, v) :: r, k => if k = a then some v else tget? r k

/-- The value at a key, with a default. -/
def tget {α : Type} (t : Tbl α) (k : Nat) (d : α) : α := (tget? t k).getD d

/-- Sets the value at a key. -/
def tset {α : Type} : Tbl α → Nat → α → Tbl α
  | [], k, v => [(k, v)]
  | (a, w) :: r, k, v =>
    if k < a then (k, v) :: (a, w) :: r
    else if k = a then (k, v) :: r
    else (a, w) :: tset r k v

/-- Removes a key. -/
def tdel {α : Type} : Tbl α → Nat → Tbl α
  | [], _ => []
  | (a, w) :: r, k => if k = a then tdel r k else (a, w) :: tdel r k

/-- Changes the value at a key. -/
def tmod {α : Type} (t : Tbl α) (k : Nat) (d : α) (f : α → α) : Tbl α := tset t k (f (tget t k d))

/-- The keys strictly rise from `n` on. -/
def risesFrom {α : Type} : Nat → Tbl α → Bool
  | _, [] => true
  | n, (a, _) :: r => decide (n ≤ a) && risesFrom (a + 1) r

/-- Device memory: the bytes that differ from what an unlisted address reads as. -/
abbrev Memory := List Host.Cell

/-- What an unlisted address reads as: zero (arrays that lost power and trained stacks hold zeros,
R314, R566, R580; log entry 2). -/
def memDefault : Byte := 0#8

/-- One byte of memory. -/
def memRead (m : Memory) (a : Nat) : Byte := tget m a memDefault

/-- Writes one byte, keeping the canonical form. -/
def memWrite : Memory → Nat → Byte → Memory
  | [], x, v => if v = memDefault then [] else [(x, v)]
  | (a, b) :: r, x, v =>
    if x < a then (if v = memDefault then (a, b) :: r else (x, v) :: (a, b) :: r)
    else if x = a then (if v = memDefault then r else (a, v) :: r)
    else (a, b) :: memWrite r x v

/-- Writes bytes at rising addresses. -/
def memWrites : Memory → Nat → List Byte → Memory
  | m, _, [] => m
  | m, a, b :: bs => memWrites (memWrite m a b) (a + 1) bs

/-- Reads `n` bytes at rising addresses. -/
def memReads (m : Memory) (a n : Nat) : List Byte := (List.range n).map (fun i => memRead m (a + i))

/-- Reads `n` bytes as a little-endian number (R10). -/
def memNum (m : Memory) (a : Nat) : Nat → Nat
  | 0 => 0
  | n + 1 => (memRead m a).toNat + 256 * memNum m (a + 1) n

/-- Zeroes the bytes from `lo` to below `hi`. -/
def memZero (m : Memory) (lo hi : Nat) : Memory :=
  m.filter (fun c => !(decide (lo ≤ c.1) && decide (c.1 < hi)))

/-- Keeps only the bytes whose address meets `p`. -/
def memKeep (m : Memory) (p : Nat → Bool) : Memory := m.filter (fun c => p c.1)

/-- The canonical form of memory. -/
def memWf (m : Memory) : Bool := risesFrom 0 m && m.all (fun c => decide (c.2 ≠ memDefault))

end Sys2Proof.Machine
end

