-- ==== Sys2Proof/Machine/WeaveTypes.lean ====
section
/-! DEFINITION. The contents of a weave image as data (R235 to R249): what its sections say, read
out of the image's bytes. -/

namespace Sys2Proof.Machine

/-- A stream-table entry: one producer and consumer endpoint pair (Table 10 of *Weave images,
stations and tile streams*). -/
structure StreamEnt where
  pCore : Nat
  pStn : Nat
  pInst : Nat
  pSid : Nat
  depth : Nat
  cCore : Nat
  cStn : Nat
  cInst : Nat
  cSid : Nat
  ring : Bool
  slots : Nat
  slotBytes : Nat
  deriving DecidableEq, Repr

/-- A rotation ring (Table 18): its members in ring order, and the stream number at each. -/
structure Ring where
  members : List Nat
  sids : List Nat
  deriving DecidableEq, Repr

/-- An on-chip path entry of ROUTES (R248). -/
structure PathEnt where
  stream : Nat
  vc : Nat
  dimOrder : Nat
  deriving DecidableEq, Repr

/-- A core record of PROGRAMS (Table 15). `drives` gives, by station 0 to 12, the thread that
drives it, 15 for none. -/
structure CoreProg where
  core : Nat
  threads : Nat
  load : Nat
  code : List Byte
  entries : List Nat
  drives : List Nat
  deriving DecidableEq, Repr

/-- An ALLOC region (Table 16). `init` holds the initial bytes of kind DATA. -/
structure Region where
  base : Nat
  length : Nat
  kind : Nat
  cls : Nat
  init : List Byte
  deriving DecidableEq, Repr

/-- A gate record (Table 4). -/
structure GateRec where
  kind : Nat
  image : Nat
  tag : Nat
  window : Nat
  rackA : Nat
  rackB : Nat
  deriving DecidableEq, Repr

/-- A variant-block entry with its gate records (Table 3). -/
structure VBlock where
  entry : Nat
  variant : Nat
  staleMax : Nat
  program : Nat
  gateWait : Nat
  gates : List GateRec
  deriving DecidableEq, Repr

/-- A page-map range entry (Table 5 of *Memory tiers and weight streaming*): `count` pages of 2 MiB
from page `first`, with write permission, the cache attribute and the role. Every grant permits
reading. -/
structure PageRun where
  first : Nat
  count : Nat
  write : Bool
  cache : Bool
  role : Nat
  deriving DecidableEq, Repr

/-- Member states (Table 3 of *Mending: surviving device failure*). -/
inductive MState
  | live | covered | filling | lost | ready | assigned | gone
  deriving DecidableEq, Repr

/-- The code of a member state. -/
def MState.code : MState → Nat
  | .live => 0 | .covered => 1 | .filling => 2 | .lost => 3 | .ready => 4 | .assigned => 5 | .gone => 6

/-- The member state of a code; 7 is reserved. -/
def mstateOf (c : Nat) : Option MState :=
  match c with
  | 0 => some .live | 1 => some .covered | 2 => some .filling | 3 => some .lost
  | 4 => some .ready | 5 => some .assigned | 6 => some .gone | _ => none

/-- A member entry (Table 2): partner of a rank, state, whether the partner's copy is valid, and the
link between a filling rank and its spare. -/
structure Member where
  partner : Nat
  st : MState
  copy : Bool
  link : Nat
  deriving DecidableEq, Repr

/-- A group table (Table 4): the rank at each position, and each ring's order of ranks. -/
structure GTab where
  positions : List Nat
  orders : List (List Nat)
  deriving DecidableEq, Repr

/-- A group-table template or live table (R385): header, members and tables. Addresses are bytes. -/
structure GroupT where
  job : Nat
  ranks : Nat
  spares : Nat
  self : Nat
  epoch : Nat
  keeper : Nat
  shardBase : Nat
  copyBase : Nat
  areaBytes : Nat
  members : List Member
  tables : List GTab
  deriving DecidableEq, Repr

/-- A weave image as its sections read (R235 to R249), with its measurement (R601). Absent optional sections are `none` or
empty. -/
structure Weave where
  meas : BitVec 256
  spare : Bool
  devices : Nat
  job : Nat
  classMap : Nat
  usedMap : Nat
  routes : List Nat
  paths : List PathEnt
  ladder : List Nat
  streams : List StreamEnt
  rings : List Ring
  progs : List CoreProg
  regions : List Region
  pages0 : List PageRun
  pages1 : List PageRun
  pages2 : List PageRun
  hasVariants : Bool
  blocks : List VBlock
  rules : List (Nat × RuleEntry)
  pruInit : List Nat
  group : Option GroupT
  power : List Nat
  preset : List (Nat × Nat)
  deriving DecidableEq, Repr

/-- The BQ4 codebook of a layer (R55, R56): the one that its variant block fixes (log entry 41), or the default. -/
def Weave.codebook (w : Weave) (layer : Nat) : List Int :=
  match Config.layerCodebook w.meas layer with
  | some b => (List.range 4).map (fun i => (BitVec.ofNat 4 (bitsOf b.toNat (4 * i + 3) (4 * i))).toInt)
  | none => codebookDefault

end Sys2Proof.Machine
end

