-- ==== Sys2Proof/Machine/CoreTypes.lean ====
section
/-! DEFINITION. The state of the cores as data: tiles on streams, streams and their credits,
stations and their queues, engines with their planes and streams, control-core threads with their
unresolved branches and waiting instructions. -/

namespace Sys2Proof.Machine

/-- A tile header (Table 2 of *Weave images, stations and tile streams*, R197). -/
structure TileHdr where
  fmt : Nat
  blk32 : Bool
  stale : Bool
  wide : Bool
  last : Bool
  entry : Nat
  pass : Nat
  rows : Nat
  cols : Nat
  tile : Nat
  cls : Nat
  step : Nat
  tag : Nat
  deriving DecidableEq, Repr

/-- The all-zero header. -/
def TileHdr.zero : TileHdr := ⟨0, false, false, false, false, 0, 0, 0, 0, 0, 0, 0, 0⟩

/-- The number of element `e` of vector `v` in a tile's list of poisoned elements (R231). -/
def poisonKey (v e : Nat) : Nat := v * 2 ^ 16 + e

/-- A tile on a stream: header, image, its poisoned elements by `poisonKey` (R231), and the detector
windows of the reads it was made from, each as core and window number (R229). -/
structure STile where
  hdr : TileHdr
  img : List Byte
  poison : List Nat
  src : List (Nat × Nat)
  deriving DecidableEq, Repr

/-- The dynamic state of one stream-table entry (R203): the producer's credits for this endpoint,
the tiles queued, the tiles held by the consumer, the credits on their way back, whether a crease holds
one, and, for a retained cluster, the tiles that wait at the consumer's router and the credits that wait at
the producer's (R277). -/
structure StreamSt where
  credits : Nat
  queue : List STile
  held : List STile
  ret : Nat
  crease : Bool
  router : List STile
  routerCr : Nat
  deriving DecidableEq, Repr

/-- A stream-table entry at rest: the producer holds `d` credits. -/
def StreamSt.fresh (d : Nat) : StreamSt := ⟨d, [], [], 0, false, [], 0⟩

/-- One entry of a station queue (R258): the work word or descriptor address, the thread that issued
it, its acting rank at issue, and the address of the issuing instruction. -/
structure QEntry where
  word : BitVec 64
  thread : Nat
  rank : Nat
  pc : Nat
  deriving DecidableEq, Repr

/-- A stream descriptor (Table 5, Table 6). Strides are signed. -/
structure Desc where
  addr : Nat
  fmt : Nat
  layout : Nat
  widen : Bool
  blk32 : Bool
  mcScope : Nat
  dir : Nat
  ra : Bool
  raDepth : Nat
  ctrlRsv : Nat
  strides : List Int
  counts : List Nat
  countRsv : Nat
  mcMask : Nat
  rows : Nat
  cols : Nat
  entry : Nat
  pass : Nat
  sid : Nat
  ring : Nat
  rot : Bool
  tag : Nat
  rsv : Nat
  deriving DecidableEq, Repr

/-- The work a station has in progress: nothing, a routine with its input tiles, or a descriptor
walk that has delivered `n` images. -/
inductive Work
  | idle
  | routine (e : QEntry) (a : List STile) (b : List STile)
  | walk (e : QEntry) (d : Desc) (n : Nat)
  deriving DecidableEq, Repr

/-- One station of a core: its queue, its work (of a station other than an ARRAY), the tiles it has
finished and not yet placed (with the stream-table entries they go to), the tiles it has made in this
step by stream number, and whether a reset is under way (R204). -/
structure Station where
  queue : List QEntry
  work : Work
  out : List (List Nat × STile)
  made : Tbl Nat
  resetting : Bool
  deriving DecidableEq, Repr

/-- The station at reset: nothing queued, nothing running. -/
def Station.empty : Station := ⟨[], .idle, [], [], false⟩

/-- One weight plane (R97 to R99): its tag (format code and shape) and, by part, its tiles, whether each
derives from a substituted rack copy (R220), and the `TILE` of each. -/
structure Plane where
  tag : Option (Nat × Nat)
  parts : List Tile
  stale : List Bool
  tiles : List Nat
  deriving DecidableEq, Repr

/-- A clear plane. -/
def Plane.clear : Plane := ⟨none, [], [], []⟩

/-- An array stream from its start-time checks to its last output: the issue, whether vector 0 has
entered, the vectors taken and put out, the activation tiles inside with the vectors of the first
already put out, whether its next output tile is a replay (R181), the header of its first activation tile,
the vectors taken that still have to enter the array, the output tile count that the original issue of the
replayed tile drew by (R184), whether the replay still waits to enter (R140), and the partial tile that the replay adds
again. -/
structure AStream where
  e : QEntry
  started : Bool
  entered : Nat
  outDone : Nat
  inside : List STile
  skip : Nat
  replay : Bool
  hdr : TileHdr
  due : Nat
  tileNo : Nat
  waits : Bool
  part : Option STile
  deriving DecidableEq, Repr

/-- A stream that has passed its start-time checks. -/
def AStream.accepted (q : QEntry) (h : TileHdr) : AStream := ⟨q, false, 0, 0, [], 0, false, h, 0, 0, false, none⟩

/-- A crease in passage: the stream-table entry whose credit it holds (R134 to R140, R203), and whether it
still has to get that credit, because none was free when it entered. -/
structure Crease where
  ep : Nat
  owed : Bool
  deriving DecidableEq, Repr

/-- One engine (R96 to R140): its planes, mode and shape, plane loads waiting (the first may be
running), streams that have passed their start-time checks, the crease in passage, output tile counts by
`SR_STREAM`, replays used by entry in this step (R185), and the array-clock cycles until the last vector that entered
in a shape without a split has passed column 64 in every row (R138). -/
structure Engine where
  planes : Tbl Plane
  mode : Nat
  shape : Nat
  loads : List QEntry
  loading : Bool
  streams : List AStream
  crease : Option Crease
  tileCount : Tbl Nat
  replays : Tbl Nat
  passing : Nat
  deriving DecidableEq, Repr

/-- The engine at reset: planes clear (R99), mode N2 and shape S0 (log entry 12). -/
def Engine.reset : Engine := ⟨[], 0, 0, [], false, [], none, [], [], 0⟩

/-- Thread states (R284, `CORE.THREAD_STATE`). -/
inductive TState
  | halted | running | ready | miss | twait | fence | wait | queueFull | exception
  deriving DecidableEq, Repr

/-- The code of a thread state in `CORE.THREAD_STATE`. -/
def TState.code : TState → Nat
  | .halted => 0 | .running => 1 | .ready => 2 | .miss => 3 | .twait => 4 | .fence => 5
  | .wait => 6 | .queueFull => 7 | .exception => 8

/-- The control-core instructions that change more than registers, and so wait under an unresolved
branch (R270), with their operand values taken at issue. -/
inductive CoreOp
  | load (bytes : Nat) (signed : Bool) (gd : Nat) (addr : BitVec 64)
  | store (bytes : Nat) (v : BitVec 64) (addr : BitVec 64)
  | aadd (gd : Nat) (v : BitVec 64) (addr : BitVec 64)
  | jalr (gd : Nat) (target : BitVec 64)
  | tissue (w : BitVec 64) (stn inst : Nat)
  | sissue (a : BitVec 64) (stn inst : Nat)
  | twait (gd kind index side n : Nat)
  | tsig (core counter n : Nat)
  | kopen (gd : Nat) (v : BitVec 64)
  | kclose (v : BitVec 64)
  | fence (mask : Nat)
  | wait (mask : Nat)
  | csrr (gd space off : Nat)
  | csrw (v : BitVec 64) (space off : Nat)
  | trace (v : BitVec 64) (action : Nat)
  | halt
  | illegal
  deriving DecidableEq, Repr

/-- An instruction waiting in a thread's issue buffer: how many unresolved branches stand before it,
its address, and the registers as the instructions before it left them. -/
structure Waiting where
  depth : Nat
  pc : Nat
  op : CoreOp
  regs : Tbl (BitVec 64)
  deriving DecidableEq, Repr

/-- An unresolved conditional branch: its address, its real outcome, its prediction, the address of
the path not predicted, the predictor entry, and the registers to restore. -/
structure Branch where
  pc : Nat
  taken : Bool
  predicted : Bool
  other : Nat
  index : Nat
  regs : Tbl (BitVec 64)
  deriving DecidableEq, Repr

/-- What a thread that is not running waits for. -/
inductive Blocked
  | none
  | twait (gd kind index side n : Nat)
  | fence (mask : Nat)
  | wait (mask : Nat)
  | queueFull (op : CoreOp) (pc : Nat)
  | miss (gd : Nat) (v : BitVec 64) (a : Nat) (read : Bool)
  deriving DecidableEq, Repr

/-- One hardware thread (R250 to R275). Registers g1 to g31 that are absent hold zero; `tnt` holds the
outcomes collected for the trace, each with the address of its branch (R281). -/
structure Thread where
  pc : Nat
  regs : Tbl (BitVec 64)
  st : TState
  blocked : Blocked
  branches : List Branch
  buffer : List Waiting
  latch : Nat
  run : Nat
  keys : List (BitVec 64)
  tnt : List (Bool × Nat)
  deriving DecidableEq, Repr

/-- A thread at reset: halted. -/
def Thread.reset : Thread :=
  ⟨0, [], .halted, .none, [], [], 0, 0, [], []⟩

/-- What a core's STAT tap has observed of one entry in this step (R146): raw counts, with the
histogram not yet normalised. -/
structure StatObs where
  tiles : Nat
  hist : List Nat
  blocks : Nat
  zeroBlocks : Nat
  pruned : Nat
  footOvf : Nat
  replays : Nat
  exhausted : Nat
  nanInf : Nat
  resSq : BitVec 32
  sigSq : BitVec 32
  spotCount : Nat
  spotMax : BitVec 32
  spotSum : BitVec 32
  spotAbandoned : Nat
  deriving DecidableEq, Repr

/-- No observation. -/
def StatObs.zero : StatObs :=
  ⟨0, List.replicate 32 0, 0, 0, 0, 0, 0, 0, 0, 0#32, 0#32, 0, 0#32, 0#32, 0⟩

/-- A spot check in flight (R154 to R157): its entry, the index t of its tile within the entry, the logical
column checked, the wide streamed rows that SHAPE forwarded, and the stage-1 results of that column, once
the foot has put the tile out. -/
structure Spot where
  entry : Nat
  tile : Nat
  col : Nat
  wide : List (List (BitVec 32))
  arr : Option (List (BitVec 32))
  deriving DecidableEq, Repr

/-- One entry of a lint ring (Table 9 of *Errors, counters, trace and hang analysis*); `entry` holds the
rule entry with the pass above it. -/
structure LintRec where
  time : Nat
  kind : Nat
  sid : Nat
  entry : Nat
  step : Nat
  arg : Nat
  deriving DecidableEq, Repr

/-- A trace packet before its bytes are formed (Table 6 of *The station control core*): collected outcomes with
their stop bit, a JALR target, the value of a MARK, or a SYNC alone. -/
inductive TracePkt
  | tnt (v : Nat)
  | target (pc : Nat)
  | mark (v : Nat)
  | sync
  deriving DecidableEq, Repr

/-- A packet that waits for room (R283, `STALL`): its thread, the address at which its story goes on, and itself. -/
structure TraceWait where
  thread : Nat
  pc : Nat
  pkt : TracePkt
  deriving DecidableEq, Repr

/-- One core: its threads, the thread that issues, entry points and thread bindings set by the
weave, sync counters, stations by `CORE.STN_RESET` number, engines, branch predictor, trace buffer (with the
bytes since the last SYNC, the bytes lost since the last DROP, the thread of the last packet, the last known PC
of each thread, whether a sag ended since the last packet, the packets that wait for room, and whether the last
drain filled the ring), the lines in its L1 data cache (R289), detector windows, STAT observations by entry, spot checks, engine counters, the stall in progress of each
engine (its reason plus one) and lint rings. -/
structure Core where
  threads : Tbl Thread
  cur : Nat
  entryPts : Tbl Nat
  drives : Tbl Nat
  sync : Tbl Nat
  stations : Tbl Station
  engines : Tbl Engine
  predictor : Tbl Nat
  trace : List Byte
  traceSince : Nat
  traceLost : Nat
  traceThread : Nat
  tracePc : Tbl Nat
  traceGap : Bool
  tracePend : List TraceWait
  ringFull : Bool
  l1 : List Nat
  windows : Tbl (Nat × Nat)
  obs : Tbl StatObs
  spots : List Spot
  perf : Tbl Nat
  stall : Tbl Nat
  lint : Tbl (List LintRec)
  deriving DecidableEq, Repr

/-- A core at reset. -/
def Core.reset : Core :=
  ⟨[], 0, [], [], [], [], [], [], [], 0, 0, 0, [], false, [], false, [], [], [], [], [], [], []⟩

end Sys2Proof.Machine
end

