-- ==== Sys2Proof/Machine/MangleTypes.lean ====
section
/-! DEFINITION. The mangle and the mend engine as data: mangle frames and their payload lanes,
instances with their hops, late-fold ledgers, skip records, tag descriptors; notices, fill streams
and the state of membership. -/

namespace Sys2Proof.Machine

/-- A payload in one of the lanes of Table 4 of *Sharded training and the mangle* (R355), or whole
statistics records (tag 0xFFFF). -/
inductive Payload
  | w8 (b : List W8Block)
  | f32 (b : List (BitVec 32))
  | exact (b : List Int)
  | bytes (b : List Byte)
  | recs (b : List StatRec)
  deriving DecidableEq, Repr

/-- A mangle frame (Table 3, R354). -/
structure MFrame where
  tag : Nat
  chunk : Nat
  step : Nat
  epoch : Nat
  contrib : Nat
  folded : Nat
  offset : Nat
  eG : Nat
  rev : Bool
  final : Bool
  checked : Bool
  outcome : Bool
  set : BitVec 64
  payload : Payload
  deriving DecidableEq, Repr

/-- The lane of a payload (`KIND` bits [1:0] of Table 3). -/
def Payload.lane : Payload → Nat
  | .w8 _ => 0
  | .f32 _ => 1
  | .exact _ => 2
  | .bytes _ => 3
  | .recs _ => 3

/-- `COUNT` of a frame: elements, or bytes in the bytes lane (Table 3). -/
def Payload.count : Payload → Nat
  | .w8 b => 32 * b.length
  | .f32 b => b.length
  | .exact b => b.length
  | .bytes b => b.length
  | .recs b => 256 * b.length

/-- The bytes of a payload (Table 4, R74). -/
def Payload.bytesOf : Payload → List Byte
  | .w8 b => b.flatMap (fun k => (List.range 32).map (fun i => BitVec.ofNat 8 (k.codes.getD i 0)) ++ leBytes 1 k.header)
  | .f32 b => b.flatMap (fun x => leBytes 4 x.toNat)
  | .exact b => b.flatMap (fun i => leBytes 6 (i % 2 ^ 48).toNat)
  | .bytes b => b
  | .recs b => b.flatMap StatRec.bytes

/-- `KIND` of a frame (Table 3). -/
def MFrame.kind (f : MFrame) : Nat :=
  f.payload.lane + b2n f.rev * 4 + b2n f.final * 8 + b2n f.checked * 16 + b2n f.outcome * 32

/-- The header of a frame, 32 bytes (Table 3, R354). -/
def MFrame.header (f : MFrame) : List Byte :=
  leBytes 2 f.tag ++ leBytes 2 f.chunk ++ leBytes 4 f.step ++ leBytes 4 f.epoch ++ leBytes 2 f.contrib ++
  leBytes 2 f.folded ++ leBytes 4 f.offset ++ leBytes 2 f.payload.count ++ leBytes 1 f.eG ++ leBytes 1 f.kind ++
  leBytes 8 f.set.toNat

/-- A frame on the wire: its header and the payload of one segment (R354). -/
def MFrame.bytesOf (f : MFrame) : List Byte := f.header ++ f.payload.bytesOf

/-- The running sum of a hop: A32 elements, exact lane integers, or records. -/
inductive Acc
  | a32 (v : List (BitVec 32))
  | exact (v : List Int)
  | recs (v : List StatRec)
  deriving DecidableEq, Repr

/-- The result of a segment at its final hop: sum, the agreed exponent of an exact one, contributions, folds,
contributor set, and whether an element saturated (R370). -/
structure SegSum where
  acc : Acc
  eG : Nat
  cnt : Nat
  fld : Nat
  set : BitVec 64
  sat : Bool
  deriving DecidableEq, Repr

/-- What follows a hop. -/
inductive HopNext
  | final | send (r : Nat) | carry
  deriving DecidableEq, Repr

/-- One hop of this device: whether it takes an incoming partial and from whom, whether it adds the own
contribution, the level whose sum it continues, and what follows. Levels 0 to 15 are the device's own
hops, in path order; from 16 on those it performs for a chunk's owner that it covers (R365, R400). -/
structure HopPlan where
  needIn : Bool
  pred : Nat
  own : Bool
  prev : Option Nat
  next : HopNext
  deriving DecidableEq, Repr

/-- One hop of an instance on this device, for a chunk, a segment, a direction and (under HD2) a
level: the partial it took, whether it skipped its input, whether it is done, its sum where it
is a final hop or stays on the device for the next level, the failed ranks that it forwards without
(R365), and the plan that it keeps where it had begun when a join was adopted (R411). -/
structure HopSt where
  inp : Option MFrame
  inSkipped : Bool
  done : Bool
  sum : Option SegSum
  lost : List Nat
  plan : Option HopPlan
  deriving DecidableEq, Repr

/-- A hop not begun. -/
def HopSt.fresh : HopSt := ⟨none, false, false, none, [], none⟩

/-- An instance of a tag in a step on this device (R347), with its agreed exponent (R341, R359). Own tiles of
reductions are binary32 elements; of the bytes operations, image bytes. Hops are keyed by `hopKey`. `qcache` holds
the W8 blocks of contributions formed once with the exponent they were formed by (R370); `got` the segments received of
a gather, 2 where a segment came with no contribution; `lostOut` whether a frame of the instance was discarded on its
way out (R337); `tooBig` whether an image exceeded its slot (R312). -/
structure Inst where
  tag : Nat
  step : Nat
  epoch : Nat
  eG : Nat
  slot : Nat
  ownTiles : Tbl (List (BitVec 32))
  ownBytes : Tbl (List Byte)
  ownRecs : Tbl StatRec
  ownLate : Bool
  ownAbsent : Bool
  qcache : Tbl (Nat × List W8Block)
  hops : Tbl HopSt
  delivered : Tbl Nat
  outcomes : Tbl Nat
  got : Tbl Nat
  checked : Bool
  began : Bool
  lostOut : Bool
  tooBig : Bool
  deriving DecidableEq, Repr

/-- A ledger of one chunk (R366, R367): the step it holds, whether its own slot in the fold area is filled (R345),
the late partials of its predecessor slot as received, the count, the set hash, and how many of the hops that consume it have done so. -/
structure Ledger where
  step : Nat
  own : Bool
  pred : List MFrame
  count : Nat
  set : BitVec 64
  used : Nat
  deriving DecidableEq, Repr

/-- A tag descriptor: sixteen words W0 to W15 (R345). -/
structure TagDesc where
  w : List (BitVec 32)
  deriving DecidableEq, Repr

/-- The all-zero descriptor. -/
def TagDesc.zero : TagDesc := ⟨List.replicate 16 0#32⟩

/-- A skip record (Table 9): kind, rank, tag and step. -/
structure SkipRec where
  kind : Nat
  rank : Nat
  tag : Nat
  step : Nat
  deriving DecidableEq, Repr

/-- A frame that waits in its VC buffer (R311, R350): the frame, and the link and the number of the receive slots it
holds. -/
structure WaitFrame where
  frame : MFrame
  slots : Option (Nat × Nat)
  deriving DecidableEq, Repr

/-- The mangle: installed descriptors and staging copies by index (R644), live instances, SHIP tiles, frames and own
parts (tag, step) that wait for a slot (R350), own chunks (tag, step, chunk) that wait for a pinned buffer (R211), ledgers by tag and chunk, the newest 16 skip records, its
key table by slot (R351), its counts of W8 blocks by tag for the next record close (R358) with wire
blocks and clamped blocks, the newest step opened by tag, the steps opened by tag, the tiles received from SHIP by
`partKey` of tag and step (R352), the instances (tag, step) closed while declared absent (R364), late own tiles by tag,
step and tile (R363), the FINAL frames received of chunks not yet complete (R380), without their payload, and by tag the last
step evaluated with the agreed exponent that held before (R341, R357). -/
structure MangleSt where
  desc : Tbl TagDesc
  staging : Tbl TagDesc
  insts : List Inst
  waitShip : List (Nat × STile)
  waitFrames : List WaitFrame
  waitParts : List (Nat × Nat)
  waitServe : List (Nat × Nat × Nat)
  ledger : Tbl Ledger
  skips : List SkipRec
  keys : Tbl (BitVec 64)
  wire : Tbl StatObs
  wireBlocks : Tbl (Nat × Nat)
  newest : Tbl Nat
  opened : Tbl (List Nat)
  shipped : Tbl (List Nat)
  absents : List (Nat × Nat)
  lateOwn : List (Nat × Nat × Nat × List (BitVec 32))
  finals : List (Nat × MFrame)
  eGPrev : Tbl (Nat × Nat)
  deriving DecidableEq, Repr

/-- One change of a notice (Table 7 of *Mending: surviving device failure*). -/
structure Change where
  idx : Nat
  st : MState
  copy : Bool
  link : Nat
  deriving DecidableEq, Repr

/-- A notice (Table 7), with the epoch of its frame. -/
structure Notice where
  epoch : Nat
  keeper : Nat
  fromStep : Nat
  lost : Bool
  changes : List Change
  deriving DecidableEq, Repr

/-- The header of a mend frame (Table 5), without its payload. -/
structure MendHdr where
  kind : Nat
  part : Nat
  marked : Bool
  passed : Bool
  src : Nat
  epoch : Nat
  step : Nat
  subject : Nat
  tag : Nat
  chunk : Nat
  offset : Nat
  deriving DecidableEq, Repr

/-- A fill stream being sourced (R405): role (1 own part, 2 held part, 3 rebuild), target, subject,
the chunks not yet sent, by tag and index, those of them whose update waits (R406), the payload bytes sent, whether
FILL_END has gone, the standby rank whose device takes it (R416), and the number of its `MEND.SRCn` (R422). -/
structure FillSrc where
  role : Nat
  target : Nat
  subject : Nat
  left : List (Nat × Nat)
  waiting : List (Nat × Nat)
  bytes : Nat
  ended : Bool
  spare : Nat
  slot : Nat
  deriving DecidableEq, Repr

/-- A fill being received (R404 to R408, R414): the rank taken, whether it is a rebuild, the parts
ended, the payload bytes received, the chunks held with their step numbers, the FILL_META run being
assembled, the step of the payload installed, and the FINAL gradients that wait in `DST`, by tag, chunk and step with the completion
tile that tells of each. -/
structure FillRecv where
  rank : Nat
  rebuild : Bool
  ownDone : Bool
  heldDone : Bool
  bytes : Nat
  chunks : List (Nat × Nat × Nat × Nat)
  metaStep : Option Nat
  metaBytes : Memory
  metaHave : List Nat
  metaHeld : Option Nat
  waitingFinals : List (Nat × Nat × Nat × STile)
  deriving DecidableEq, Repr

/-- What a notice changes, as it stood before: the table, the joins and the routes (R397, R398). -/
structure BeforeNotice where
  table : GroupT
  joins : List (Nat × Nat)
  routes : Tbl (Nat × Nat)
  deriving DecidableEq, Repr

/-- Membership and mending (R384 to R418): the live table, LOST, notices held ahead of their turn,
notices adopted (newest first), notices sent and not acknowledged, members being probed, marked
suspects being resent with the WCP request that waits for them, whether this keeper has stopped
issuing (R398), fills sourced and received, digests computed and received by step, joins adopted with
their first step, whether a spare's domains are waking, the last step checked, the
`GLOBAL.CYCLE` count of the last SUSPECT sent for a rank (R449), what the last notice adopted changed, as it
stood before (R398), and the standby rank under which this device was assigned the rank that it is filled for (R399). -/
structure MendSt where
  table : Option GroupT
  lost : Bool
  held : List Notice
  adopted : List Notice
  unacked : List (Nat × Notice)
  probes : List Nat
  marks : List (Nat × Nat × Nat)
  stopped : Bool
  srcs : List FillSrc
  recv : Option FillRecv
  ownDigest : Option (Nat × BitVec 64)
  rxDigest : Option (Nat × BitVec 64)
  joins : List (Nat × Nat)
  waking : Bool
  checkedStep : Option Nat
  suspectAt : Tbl Nat
  before : Option BeforeNotice
  spareOf : Option Nat
  deriving DecidableEq, Repr

/-- No membership. -/
def MendSt.reset : MendSt :=
  ⟨none, false, [], [], [], [], [], false, [], none, none, none, [], false, none, [], none, none⟩

/-- The mangle emptied of its buckets: no instance, nothing that waits for one, nothing known of closed ones. -/
def MangleSt.emptied (m : MangleSt) : MangleSt :=
  { m with
    insts := [], waitShip := [], waitFrames := [], waitParts := [], waitServe := [], keys := [], newest := [], opened := []
    shipped := [], absents := [], lateOwn := [], finals := [], eGPrev := [] }

/-- The mangle at reset. -/
def MangleSt.reset : MangleSt := ⟨[], [], [], [], [], [], [], [], [], [], [], [], [], [], [], [], [], [], []⟩

/-! ### Descriptor fields (Table 2 of *Sharded training and the mangle*) -/

/-- A field of a descriptor. -/
def TagDesc.f (d : TagDesc) (i hi lo : Nat) : Nat := bitsOf (d.w.getD i 0#32).toNat hi lo

/-- Sets a field of a descriptor. -/
def TagDesc.put (d : TagDesc) (i hi lo v : Nat) : TagDesc :=
  ⟨d.w.set i (BitVec.ofNat 32 (setBits (d.w.getD i 0#32).toNat hi lo v))⟩

/-- `VALID`. -/
def TagDesc.valid (d : TagDesc) : Bool := d.f 0 31 31 = 1
/-- `AVG`. -/
def TagDesc.avg (d : TagDesc) : Bool := d.f 0 23 23 = 1
/-- `OP` (Table 1 of *Sharded training and the mangle*). -/
def TagDesc.op (d : TagDesc) : Nat := d.f 0 22 20
/-- `GROUP`. -/
def TagDesc.group (d : TagDesc) : Nat := d.f 0 19 16
/-- `TAG`. -/
def TagDesc.tag (d : TagDesc) : Nat := d.f 0 15 0
/-- `ENTRY`. -/
def TagDesc.entry (d : TagDesc) : Nat := d.f 1 11 0
/-- `HAS_ENTRY`. -/
def TagDesc.hasEntry (d : TagDesc) : Bool := d.f 1 12 12 = 1
/-- `CHUNK_TILES`. -/
def TagDesc.chunkTiles (d : TagDesc) : Nat := d.f 2 31 16
/-- `FIRST_RANK`. -/
def TagDesc.firstRank (d : TagDesc) : Nat := d.f 2 13 0
/-- `TILES`. -/
def TagDesc.tiles (d : TagDesc) : Nat := d.f 3 19 0
/-- `ELEMS`. -/
def TagDesc.elems (d : TagDesc) : Nat := d.f 4 14 0
/-- `IMG_BYTES`. -/
def TagDesc.imgBytes (d : TagDesc) : Nat := d.f 5 31 0
/-- `DST` as a byte address. -/
def TagDesc.dst (d : TagDesc) : Nat := d.f 6 31 0 * 256
/-- `RACK_A` as a byte address. -/
def TagDesc.rackA (d : TagDesc) : Nat := d.f 7 31 0 * 256
/-- `RACK_B` as a byte address. -/
def TagDesc.rackB (d : TagDesc) : Nat := d.f 8 31 0 * 256
/-- `RESID` as a byte address. -/
def TagDesc.resid (d : TagDesc) : Nat := d.f 9 31 0 * 256
/-- `FOLD` as a byte address. -/
def TagDesc.fold (d : TagDesc) : Nat := d.f 10 31 0 * 256
/-- `PEER`. -/
def TagDesc.peer (d : TagDesc) : Nat := d.f 12 13 0
/-- `E_G`. -/
def TagDesc.eG (d : TagDesc) : Nat := d.f 13 7 0

/-- Whether an operation reduces. -/
def isRed (op : Nat) : Bool := op = 2 || op = 3

end Sys2Proof.Machine
end

