-- ==== Sys2Proof/Machine/SeamTypes.lean ====
section
/-! DEFINITION. Seam links and optical engines as data: frames, flits, the state of one link end,
and the state of one optical engine. -/

namespace Sys2Proof.Machine

/-- The payload of a mend frame: nothing, a notice, or bytes (R391). -/
inductive MendBody
  | none
  | notice (n : Notice)
  | bytes (b : List Byte)
  deriving DecidableEq, Repr

/-- An edge of a wait-for graph with the ranks of its ends (Table 8). -/
structure GEdge where
  wRank : Nat
  tRank : Nat
  waiter : Nat
  target : Nat
  reason : Nat
  age : Nat
  deriving DecidableEq, Repr

/-- What a seam frame carries, by `PROTO` (Table 3 of *Seam links and co-packaged optics*). -/
inductive FrameBody
  | mangle (f : MFrame)
  | mend (h : MendHdr) (b : MendBody)
  | mgmt (b : List Byte)
  | class0 (b : List Byte)
  | wfgQuery (node step : Nat)
  | wfgReply (edges : List GEdge)
  | other (b : List Byte)
  deriving DecidableEq, Repr

/-- A frame with its link header (R434). -/
structure LinkFrame where
  dst : Nat
  src : Nat
  len : Nat
  ttl : Nat
  proto : Nat
  body : FrameBody
  deriving DecidableEq, Repr

/-- A frame delivered on this device, with the link whose receive slots it still holds: mangle frames hold theirs
until the mangle takes them (R350, R440). -/
structure Arrived where
  frame : LinkFrame
  inbound : Option Nat
  deriving DecidableEq, Repr

/-- A flit as received (R433). `good` is whether its CRC holds and no uncorrectable codeword touches
it (R432). `codeword` is 1 when the codeword that ends with it was corrected and 2 when it was
uncorrectable. A DATA flit with `EOF` carries the frame that it completes. -/
structure Flit where
  good : Bool
  codeword : Nat
  kind : Nat
  seq : Nat
  ack : Nat
  ackv : Bool
  vc : Nat
  sof : Bool
  eof : Bool
  frame : Option LinkFrame
  deriving DecidableEq, Repr

/-- A control flit sent on a link. -/
inductive CtlFlit
  | linkId (a b : BitVec 32)
  | credit (counts : List Nat)
  | nak (seq : Nat)
  | keepalive
  | laneMap (map seq : Nat)
  deriving DecidableEq, Repr

/-- Link states (`SEAM.STATE.STATE`). -/
inductive LState
  | off | training | up | down
  deriving DecidableEq, Repr

/-- The code of a link state. -/
def LState.code : LState → Nat
  | .off => 0 | .training => 1 | .up => 2 | .down => 3

/-- Training stages (Table 6). -/
inductive TStage
  | optical | lock | equalise | fec | identity
  deriving DecidableEq, Repr

/-- A DATA flit sent and not acknowledged: sequence number, VC, frame and its place in it. -/
structure TxFlit where
  seq : Nat
  vc : Nat
  frame : LinkFrame
  idx : Nat
  deriving DecidableEq, Repr

/-- A frame queued to leave on a link: its VC, the flits already sent, and the link on which it
came when it is being forwarded and keeps its receive slots there (R450). -/
structure TxEntry where
  vc : Nat
  frame : LinkFrame
  sent : Nat
  inbound : Option Nat
  deriving DecidableEq, Repr

/-- One end of one link: state and training stage; lanes active, failed and locked as bitmaps, the
width before shedding; whether a LINK_ID and a CREDIT flit of this training have come; buffer sizes
in force, credits held, the last credit counts accepted, slots freed and reported per VC; sequence
numbers, retry buffer, frames queued to send per VC with the flits already sent, frames received and
not yet handled with their VC; whether the receiver discards until the expected flit, whether the
interleave re-forms, a lane map that awaits its sequence number, and the flits that VC1 to VC3 have sent in this turn of the
round robin; the lane error threshold in force (R458); whether a DATA flit has been accepted in this training, so that `ACK`
is valid; whether a replay waits for a change of lanes (R438); and the control flits that wait for the interleave to
re-form (R427). -/
structure Link where
  st : LState
  stage : TStage
  active : Nat
  failed : Nat
  lock : Nat
  preShed : Option Nat
  gotId : Bool
  gotCredit : Bool
  cfg : List Nat
  credits : List Nat
  lastCount : List Nat
  freed : List Nat
  reported : List Nat
  txSeq : Nat
  rxSeq : Nat
  unacked : List TxFlit
  txq : List TxEntry
  rxq : List (Nat × LinkFrame)
  rxPart : List Nat
  nakSent : Bool
  reform : Bool
  mapNext : Option (Nat × Nat)
  turn : List Nat
  laneThr : Nat
  accepted : Bool
  replayDue : Bool
  waitCtl : List CtlFlit
  deriving DecidableEq, Repr

/-- A link at reset: OFF. -/
def Link.reset : Link :=
  ⟨.off, .optical, 0, 0, 0, none, false, false, [128, 640, 512, 256], [0, 0, 0, 0], [0, 0, 0, 0],
   [0, 0, 0, 0], [0, 0, 0, 0], 0, 0, [], [], [], [0, 0, 0, 0], false, false, none, [0, 0, 0], 65536, false, false, []⟩

/-- One laser input: its last power in units of 0.01 dBm, `none` below −40.95 dBm, and the `LOW` and
`OFF` bits (R453, R454). -/
structure Laser where
  power : Option Int
  low : Bool
  off : Bool
  deriving DecidableEq, Repr

/-- One optical engine: state (Table 10), the state to which it returns from HOT, temperature in units of 0.5 °C, inputs A
and B. -/
structure OptEngine where
  st : Nat
  back : Nat
  temp : Nat
  a : Laser
  b : Laser
  deriving DecidableEq, Repr

/-- An optical engine at reset. -/
def OptEngine.reset : OptEngine := ⟨0, 0, 0, ⟨none, false, false⟩, ⟨none, false, false⟩⟩

end Sys2Proof.Machine
end

