-- ==== Sys2Proof/Machine/HostTypes.lean ====
section
/-! DEFINITION. The Ethernet ports, RoCEv2, WCP sessions and requests, and live scoring as data. -/

namespace Sys2Proof.Machine

/-- A DHCPv4 lease (R470): address, prefix length, gateway. -/
structure Lease where
  addr : Nat
  plen : Nat
  gw : Nat
  deriving DecidableEq, Repr

/-- One logical port (R459 to R473): link up, lease, default IPv6 router, the neighbour cache
(newest first, at most 256), ingress fill in bytes by queue, ingress queues for which XOFF is sent,
and egress queues held by a received XOFF. -/
structure Port where
  up : Bool
  lease : Option Lease
  router : Option Nat
  neighbours : List Nat
  fill : Tbl Nat
  xoff : List Nat
  held : List Nat
  deriving DecidableEq, Repr

/-- A port at reset: link down. -/
def Port.reset : Port := ⟨false, none, none, [], [], [], []⟩

/-- An open RoCEv2 window (R476): base, length, access, and whether WIN_CLOSE has named it (R478). -/
structure Window where
  base : Nat
  len : Nat
  rd : Bool
  wr : Bool
  closing : Bool
  deriving DecidableEq, Repr

/-- A window index: its generation count, and its window while open (R476). -/
structure WinSlot where
  gen : Nat
  win : Option Window
  deriving DecidableEq, Repr

/-- An RDMA WRITE message in progress on a queue pair: its R_Key, the next address and the bytes
that remain. -/
structure WriteMsg where
  rkey : Nat
  addr : Nat
  left : Nat
  deriving DecidableEq, Repr

/-- A packet that passed the checks of R477 and waits for memory: its PSN, its R_Key, and whether it is a READ Request (R475,
R478). -/
structure Taken where
  psn : Nat
  rkey : Nat
  read : Bool
  deriving DecidableEq, Repr

/-- A queue pair (R475): its connection, the error state, the message in progress, the `GLOBAL.CYCLE` count of its last
CNP (R480), the PSN that it expects in `recvPsn`, the messages it has completed, whether it has sent a NAK for a PSN that
is still missing (log entry 38), and the packets it has accepted that wait for memory. -/
structure QP where
  connected : Bool
  error : Bool
  port : Nat
  pcp : Nat
  dscp : Nat
  mtu : Nat
  gid : Nat
  remoteQpn : Nat
  sendPsn : Nat
  recvPsn : Nat
  msg : Option WriteMsg
  cnpAt : Option Nat
  msn : Nat
  nakSent : Bool
  taken : List Taken
  deriving DecidableEq, Repr

/-- A queue pair as QP_OPEN creates it. -/
def QP.fresh : QP := ⟨false, false, 0, 0, 0, 0, 0, 0, 0, 0, none, none, 0, false, []⟩

/-- The remote end of a session or datagram: local logical port, remote address, remote UDP port
(R485). -/
structure Bind where
  port : Nat
  addr : Nat
  udp : Nat
  deriving DecidableEq, Repr

/-- A response the device holds for resending (R484). -/
structure CachedResp where
  seq : Nat
  opcode : Nat
  status : Nat
  detail : Nat
  body : List Byte
  deriving DecidableEq, Repr

/-- A notification (R497, R498): its number, code and payload. -/
structure Note where
  num : Nat
  code : Nat
  body : List Byte
  deriving DecidableEq, Repr

/-- A message being reassembled (R483): request number, opcode, message length, fragment count, and
the fragments that have come with their lengths. -/
structure Reasm where
  seq : Nat
  opcode : Nat
  msgLen : Nat
  count : Nat
  parts : List (Nat × Nat)
  deriving DecidableEq, Repr

/-- An open session (R484 to R488, R497). `keyIn` and `keyOut` key the traffic from and to the host (R487). `slot` is its bit of `ETH.SESSIONS.OPEN_MASK`; `unowned`
marks a session opened before the owner fuse was programmed (R592). -/
structure Session where
  id : Nat
  slot : Nat
  bind : Bind
  hostKey : BitVec 256
  keyIn : List Byte
  keyOut : List Byte
  unowned : Bool
  noNotify : Bool
  highest : Nat
  accepted : List Nat
  cache : List CachedResp
  noteNum : Nat
  notes : List Note
  lost : Nat
  reasm : List Reasm
  deriving DecidableEq, Repr

/-- A queued request (R489). Requests outside any session carry session 0 and their own binding. -/
structure Request where
  session : Nat
  seq : Nat
  opcode : Nat
  bind : Bind
  deriving DecidableEq, Repr

/-- A command that runs in the background or whose response waits (R490): its request and up to
three numbers of its own. -/
structure Running where
  req : Request
  a : Nat
  b : Nat
  c : Nat
  deriving DecidableEq, Repr

/-- An image being staged by IMG_BEGIN and IMG_DATA. -/
structure ImgStage where
  type : Nat
  len : Nat
  bytes : Memory
  deriving DecidableEq, Repr

/-- A device nonce of HELLO that no OPEN has used (R486): its number, and the `GLOBAL.CYCLE` count
at which it was given. -/
structure NonceRec where
  nonce : BitVec 256
  at_ : Nat
  deriving DecidableEq, Repr

/-- WCP and RoCEv2 (R474 to R497): sessions, the last session identifier given, device nonces,
queued requests, running commands, staged image, weave staging (session and length), queue pairs by
number, windows by index, and messages outside any session that are being reassembled. -/
structure WcpSt where
  sessions : List Session
  lastId : Nat
  nonces : List NonceRec
  queue : List Request
  running : List Running
  img : Option ImgStage
  weave : Option (Nat × Nat)
  qps : Tbl QP
  windows : Tbl WinSlot
  reasm0 : List (Bind × Reasm)
  deriving DecidableEq, Repr

/-- No session, nothing queued. -/
def WcpSt.reset : WcpSt := ⟨[], 0, [], [], [], none, none, [], [], []⟩

/-- A scoring request (Table 1 of *Live scoring and alarm attribution*): its header fields with the reserved word, the bytes of
its events (R506), where it came from, and the requests that its lane held when it was admitted. -/
structure ScoreReq where
  magic : Nat
  version : Nat
  flags : Nat
  lane : Nat
  k : Nat
  features : Nat
  reqId : Nat
  events : Nat
  rsv : Nat
  body : List Byte
  hostTime : Nat
  bind : Bind
  ahead : Nat
  deriving DecidableEq, Repr

/-- A weight buffer of a lane (R504): model version and threshold, version 0 for none. -/
structure WBuf where
  ver : Nat
  thr : BitVec 32
  deriving DecidableEq, Repr

/-- A class-0 lane (R502 to R521): its cluster, admitted requests (the first is in service when
`serving`), whether the request in service has failed (R517), which buffer is active, both buffers,
the bad mark of the active weights, and whether it has still to switch. -/
structure Lane where
  cluster : Nat
  queue : List ScoreReq
  serving : Bool
  failed : Bool
  activeB : Bool
  bufA : WBuf
  bufB : WBuf
  bad : Bool
  switch : Bool
  deriving DecidableEq, Repr

/-- A lane of a weave just activated: no weights (R504). -/
def Lane.fresh (c : Nat) : Lane := ⟨c, [], false, false, false, ⟨0, 0#32⟩, ⟨0, 0#32⟩, false, false⟩

/-- Live scoring: the lanes, whether weights have been published since activation, whether inactive
buffers hold a loaded image, and its version. -/
structure ScoreSt where
  lanes : List Lane
  weights : Bool
  loaded : Bool
  loadedVer : Nat
  activeVer : Nat
  deriving DecidableEq, Repr

/-- No class-0 partition. -/
def ScoreSt.reset : ScoreSt := ⟨[], false, false, 0, 0⟩

/-- What the data-gradient passes of a lane give for one input (R509): event, input index, and for each element that the
input stands for its value x and the derivative of the score with respect to it. -/
structure Sens where
  event : Nat
  input : Nat
  terms : List (BitVec 32 × BitVec 32)
  deriving DecidableEq, Repr

/-- An attribution of one input (R509): event, input index, FP32 value. -/
structure Attr where
  event : Nat
  input : Nat
  value : BitVec 32
  deriving DecidableEq, Repr

end Sys2Proof.Machine
end

