-- ==== Sys2Proof/Machine/PlantTypes.lean ====
section
/-! DEFINITION. Events and their handling, power domains and boot, security, HBM stacks, precision
steering and the ready gate as data. -/

namespace Sys2Proof.Machine

/-- An event record (Table 4 of *Errors, counters, trace and hang analysis*, R529): `sev` is the
severity as handled and `raised` as raised. `live`, which the record does not show, is whether a class-1 step was in
progress when it was raised (R528). -/
structure EventRec where
  code : Nat
  sev : Nat
  raised : Nat
  cls : Nat
  seq : Nat
  cycle : Nat
  step : Nat
  count : Nat
  srcKind : Nat
  src : Nat
  epoch : Nat
  info : List Nat
  live : Bool
  deriving DecidableEq, Repr

/-- The stages of the fence of a DEVICE event (Table 5, R538). -/
inductive FStage
  | freeze | depart | fence | links | lint | flush | power
  deriving DecidableEq, Repr

/-- A lint dump under way (R550 to R552): automatic or by command, its address, and the causing
event's `SEQ` and `CODE`, zero for a command. -/
structure Dump where
  auto : Bool
  addr : Nat
  seq : Nat
  code : Nat
  deriving DecidableEq, Repr

/-- A wait-for graph (R546 to R548): its edges, whether edges of other devices are included, the
cycle count and step at its start, the ranks queried and the ranks awaited, and the request that
waits for it, if any. -/
structure Wfg where
  edges : List GEdge
  cross : Bool
  cycle : Nat
  step : Nat
  queried : List Nat
  awaiting : List Nat
  req : Option Request
  deriving DecidableEq, Repr

/-- Event handling (R525 to R552): queues by severity, the running handler's record, suspended
handlers, the log (newest first), the fatal record, DEVICE handling in progress, its causing record,
whether the fence was hard, whether boot was stopped (R638), whether the lint
rings are frozen, the dump under way, the graph held for the next WAITFOR, the graph being
collected, and whether HANG_SUSPECT has been raised since the last boundary. -/
structure ErrSt where
  queues : Tbl (List EventRec)
  running : Option EventRec
  suspended : List EventRec
  log : List EventRec
  fatal : Option EventRec
  fence : Option FStage
  cause : Option EventRec
  hard : Bool
  bootStopped : Bool
  frozen : Bool
  dump : Option Dump
  held : Option Wfg
  collecting : Option Wfg
  hang : Bool
  deriving DecidableEq, Repr

/-- Nothing raised. -/
def ErrSt.reset : ErrSt :=
  ⟨[], none, [], [], none, none, none, false, false, false, none, none, none, false⟩

/-- States of a power domain (Table 5 of *Power domains, clocks and start-up*). -/
inductive PState
  | off | retention | on | waking
  deriving DecidableEq, Repr

/-- The code of a power-domain state. -/
def PState.code : PState → Nat
  | .off => 0 | .retention => 1 | .on => 2 | .waking => 3

/-- A power domain (R562 to R569): management state, retention demanded by WAIT, the state reached,
whether a wake started from off, the target of an entry in progress, and brown-outs. -/
structure Dom where
  mgmt : PState
  wait : Bool
  st : PState
  fromOff : Bool
  entering : Option PState
  queued : Bool
  brownouts : Nat
  deriving DecidableEq, Repr

/-- A domain that is off. -/
def Dom.offDom : Dom := ⟨.off, false, .off, false, none, false, 0⟩

/-- A domain that is on. -/
def Dom.onDom : Dom := ⟨.on, false, .on, false, none, false, 0⟩

/-- The steps of boot (Table 9 of *Power domains, clocks and start-up*), and `down` without VSB. -/
inductive BootStage
  | down | romStart | selfTest | rails | uncore | done
  deriving DecidableEq, Repr

/-- Power and thermal state: domains, shedding level, VIN and its minima, cap, sag and junction
duties of clusters, junction temperatures by pair of sensors in units of 0.5 °C (pairs 0 to 31 lie in the
clusters, 32 to 35 on the IOD), last metered input power, boot stage, `FAIL_N` driven low, `TEST_EN` read high
at VSB rising, whether a sag or thermal shutdown waits to boot, and whether the JTAG port has its bypass register
selected, else IDCODE. -/
structure PowerSt where
  doms : Tbl Dom
  level : Nat
  vinMv : Nat
  minTele : Nat
  capDuty : Tbl Nat
  juncDuty : Tbl Nat
  tj : Tbl (Nat × Nat)
  inputW : Nat
  boot : BootStage
  failLow : Bool
  testEn : Bool
  sagOff : Bool
  thermalOff : Bool
  bypass : Bool
  deriving DecidableEq, Repr

/-- A key-list entry (Table 1 of *Identity, images and field access*): role, scope mask, digest of
the public key. -/
structure KeyEntry where
  role : Nat
  scope : Nat
  digest : BitVec 256
  deriving DecidableEq, Repr

/-- A loaded image (R593 to R599): its level, interface, rollback, partner table, whether it was
forced, and its measurement. -/
structure LoadedImg where
  level : Nat
  iface : Nat
  rollback : Nat
  partners : List (Nat × Nat)
  forced : Bool
  meas : BitVec 256
  deriving DecidableEq, Repr

/-- Security (R585 to R610): the stored key list with its `SEQ`, the owner digest, fuse counters,
unlocks over the device's life, granted scopes, the challenge held (scope, nonce and the `GLOBAL.CYCLE` count at which it was given), loaded images
by type, full JTAG open, and whether a SCAN wipe is under way. -/
structure SecSt where
  keys : List KeyEntry
  keySeq : Nat
  hasKeys : Bool
  owner : Option (BitVec 256)
  counters : Tbl Nat
  unlocks : Nat
  scopes : Nat
  challenge : Option (Nat × BitVec 256 × Nat)
  images : Tbl LoadedImg
  jtag : Bool
  wiping : Bool
  deriving DecidableEq, Repr

/-- A device as shipped (R634): unowned, key store empty, no image. -/
def SecSt.shipped : SecSt := ⟨[], 0, false, none, [], 0, 0, none, [], false, false⟩

/-- What asks a stack for an access (R290, R320): a station or a thread of a core, the drain of a core's trace, a WCP
request by session and sequence number, a command of an opcode in the background, the dump of an event, a queue pair, a
fill stream by its target, and the hops of a tag. -/
inductive HbmAgent
  | station (core stn : Nat)
  | thread (core t : Nat)
  | drain (core : Nat)
  | request (session seq : Nat)
  | background (opcode : Nat)
  | dump
  | pair (qpn : Nat)
  | fill (target : Nat)
  | hops (tag : Nat)
  | fillIn
  | check
  deriving DecidableEq, Repr

/-- A request to the controller of a stack, with its priority of Table 9 of *Memory tiers and weight streaming*. -/
structure HbmReq where
  agent : HbmAgent
  prio : Nat
  deriving DecidableEq, Repr

/-- An error that waits in memory for a read to meet it: one that the code corrects, one that only the second read of the
controller corrects, and one that neither does (R323 to R325). -/
inductive Upset
  | corrected | reread | lost
  deriving DecidableEq, Repr

/-- An HBM stack (R313 to R322): usable, failed training, training under way, throttle level 0 to 3
or over-temperature, the last temperature in units of 0.5 °C, the requests that wait at its controller in order of
arrival (R320), and the bytes served in the present window of 1 µs (R318). -/
structure Stack where
  ready : Bool
  failed : Bool
  training : Bool
  level : Nat
  hot : Bool
  temp : Nat
  waits : List HbmReq
  used : Nat
  deriving DecidableEq, Repr

/-- A stack at reset. -/
def Stack.reset : Stack := ⟨false, false, false, 0, false, 0, [], 0⟩

/-- Stages of a step boundary (R165). -/
inductive Boundary
  | none | closed | evaluated | installed | published
  deriving DecidableEq, Repr

/-- Precision steering (R163 to R192): installed and pending entries, run counters, the current variant of
each entry as published to the clusters, the stage of the boundary and its step, the device's merged records
that wait for their instance, the reduced records by step parity and entry, the steps whose reduced records
have come with every check passed, whether the micro-batch is dropped, the last steps whose micro-batch was
dropped, whether class-1 threads restart at the next step (R527), and the forward entries whose weight residual is
zero at the next quantisation of the layer, with whether that has begun in this step (R190). -/
structure PruSt where
  active : Tbl RuleEntry
  pending : Tbl RuleEntry
  rstate : Tbl RuleState
  variants : Tbl Nat
  stage : Boundary
  step : Nat
  own : Tbl StatRec
  records : Tbl StatRec
  final : List Nat
  dropped : Bool
  droppedAt : List Nat
  restart : Bool
  efZero : Tbl (List Nat)
  reducing : Bool
  layerVar : Tbl Nat
  deriving DecidableEq, Repr

/-- No rule installed. -/
def PruSt.reset : PruSt := ⟨[], [], [], [], .none, 0, [], [], [], false, [], false, [], false, []⟩

/-- A rack buffer (R211 to R219): the step and the variant of the gather that filled it, whether it is
valid, and the bytes of its image (R311, R313). -/
structure RackBuf where
  step : Nat
  fmt : Nat
  valid : Bool
  len : Nat
  deriving DecidableEq, Repr

/-- The ready gate (R210 to R221): index of the block whose gate is open or was last decided, its decision,
the gated inputs that have passed the arrival test, whether one of them misses, the variant decided, the images
landed in their windows by tag with step, rack buffers by address, blocks decided in this step, the rack
buffers and window slots that running blocks read, by block with address and size, the rack buffers that running blocks read as
substitutes, by block with its entry, substitutions by entry in this step, and the images (tag, step) for which a rack copy was substituted. -/
structure GateSt where
  block : Option Nat
  decided : Bool
  pos : Nat
  miss : Bool
  variant : Nat
  landed : Tbl Nat
  racks : Tbl RackBuf
  done : List Nat
  pins : List (Nat × Nat × Nat)
  stale : List (Nat × Nat × Nat)
  subs : Tbl Nat
  subTags : List (Nat × Nat)
  deriving DecidableEq, Repr

/-- No gate. -/
def GateSt.reset : GateSt := ⟨none, false, 0, false, 0, [], [], [], [], [], [], []⟩

end Sys2Proof.Machine
end

