-- ==== Sys2Proof/Syntax.lean ====
section
/-! DEFINITION. The commands of the device: one constructor for each row of the table of operations
and events, with its operands. Frames, requests and readings that come from outside are operands;
what the device holds is not. -/

namespace Sys2Proof

open Sys2Proof.Machine

/-- A WCP request as the device receives it: its session, its number, the tuple it came from, and
whether its payload has the length, alignment, reserved zeros and fragments that Table 7 of
*Ethernet ports and the command set* asks for. The payload's fields are the operands of the row. -/
structure WcpReq where
  session : Nat
  seq : Nat
  bind : Bind
  ok : Bool
  deriving DecidableEq, Repr

/-- The host's part of OPEN (Table 4, R486, R487): device nonce, host nonce, digest of the host key, `FLAGS`
bit 0, the ML-KEM-768 encapsulation key, the signature, and whether that verifies under the key it digests. -/
structure OpenArgs where
  nonce : BitVec 256
  hostNonce : BitVec 256
  hostKey : BitVec 256
  noNotify : Bool
  kemKey : List Byte
  sig : List Byte
  sigOk : Bool
  deriving DecidableEq, Repr

/-- The fields of QP_CONNECT (Table 7). -/
structure QpArgs where
  port : Nat
  pcp : Nat
  dscp : Nat
  mtuCode : Nat
  gid : Nat
  remoteQpn : Nat
  sendPsn : Nat
  recvPsn : Nat
  deriving DecidableEq, Repr

/-- What an Ethernet frame carries, as far as dispatch asks (R463 to R467, R473): a UDP datagram by
destination port, ARP, ND, ICMP echo, or anything else; and whether it is an IPv4 fragment, has IPv4
options or IPv6 extension headers, its IP destination address, whether it is a broadcast or multicast of ARP, ND or
DHCP, or any other multicast. -/
structure EthFrame where
  len : Nat
  fcsOk : Bool
  vids : List Nat
  pcp : Nat
  udpDst : Option Nat
  isIp : Bool
  fragment : Bool
  optionsOrExt : Bool
  dst : Nat
  basicGroup : Bool
  otherMulticast : Bool
  fill : Nat
  deriving DecidableEq, Repr

/-- A RoCEv2 packet (R474 to R480). `place` is 0 First, 1 Middle, 2 Last, 3 Only for a WRITE. First
and Only carry R_Key, address and length; a READ carries them too. `psn` is its packet sequence number; `supported` is whether its
operation is one of R474. -/
structure RocePkt where
  port : Nat
  pcp : Nat
  icrcOk : Bool
  supported : Bool
  qpn : Nat
  psn : Nat
  place : Nat
  rkey : Nat
  addr : Nat
  len : Nat
  data : List Byte
  ce : Bool
  deriving DecidableEq, Repr

/-- A WCP datagram (Table 3): the fields of its header, `count` being the fragment count, its payload and its tag (R481,
R482). -/
structure Datagram where
  magic : Nat
  version : Nat
  flags : Nat
  opcode : Nat
  status : Nat
  session : Nat
  seq : Nat
  length : Nat
  frag : Nat
  count : Nat
  rsv : Nat
  msgLen : Nat
  payload : List Byte
  tag : BitVec 128
  bind : Bind
  deriving DecidableEq, Repr

/-- A PMBus reading of one page: mV, units of 0.1 A, STATUS_WORD reports a fault (R560, R561). -/
structure PmReading where
  mv : Nat
  da : Nat
  faulty : Bool
  deriving DecidableEq, Repr

/-- The commands. -/
inductive Instr
  /-- Control-core ALU instruction computes gd from ga and gb using the operation that FUNC selects. (R254) -/
  | alu (core thread gd ga gb rsv func : Nat)
  /-- Adds the sign-extended immediate to ga and writes gd. (R254) -/
  | addi (core thread gd ga : Nat) (imm : BitVec 16)
  /-- ANDs ga with the zero-extended immediate into gd. (R254) -/
  | andi (core thread gd ga : Nat) (imm : BitVec 16)
  /-- ORs ga with the zero-extended immediate into gd. (R254) -/
  | ori (core thread gd ga : Nat) (imm : BitVec 16)
  /-- XORs ga with the zero-extended immediate into gd. (R254) -/
  | xori (core thread gd ga : Nat) (imm : BitVec 16)
  /-- Sets gd to 1 when ga is less than the signed immediate, and to 0 otherwise. (R254) -/
  | slti (core thread gd ga : Nat) (imm : BitVec 16)
  /-- Shifts ga by an immediate amount, logically or arithmetically, into gd. (R254) -/
  | shifti (core thread gd ga : Nat) (imm : BitVec 16)
  /-- Loads imm16 times 2^16, sign-extended to 64 bits, into gd. (R254) -/
  | lui (core thread gd ga : Nat) (imm : BitVec 16)
  /-- Shifts ga left by 16 bits and ORs in the immediate, writing gd. (R254) -/
  | shori (core thread gd ga : Nat) (imm : BitVec 16)
  /-- Loads 8 bytes from ga plus imm into gd, after the alignment and page-map checks. (R256) -/
  | ld (core thread gd ga : Nat) (imm : BitVec 16)
  /-- Loads 4 bytes, sign-extended, into gd. (R256) -/
  | lw (core thread gd ga : Nat) (imm : BitVec 16)
  /-- Loads 4 bytes, zero-extended, into gd. (R256) -/
  | lwu (core thread gd ga : Nat) (imm : BitVec 16)
  /-- Loads 1 byte, zero-extended, into gd. (R256) -/
  | lbu (core thread gd ga : Nat) (imm : BitVec 16)
  /-- Stores the low 8 bytes of gd at ga plus imm, after the alignment and page-map checks. (R256) -/
  | sd (core thread gd ga : Nat) (imm : BitVec 16)
  /-- Stores the low 4 bytes of gd. (R256) -/
  | sw (core thread gd ga : Nat) (imm : BitVec 16)
  /-- Stores the low byte of gd. (R256) -/
  | sb (core thread gd ga : Nat) (imm : BitVec 16)
  /-- Atomically adds gd to an 8-byte word in the core's own scratch and returns the old word in gd. (R254) -/
  | aadd (core thread gd ga : Nat) (imm : BitVec 16)
  /-- Branches when ga equals gb; a prediction is used until the branch resolves. (R270) -/
  | beq (core thread ga gb : Nat) (off : BitVec 16)
  /-- Branches when ga differs from gb. (R270) -/
  | bne (core thread ga gb : Nat) (off : BitVec 16)
  /-- Branches when ga is less than gb, signed. (R270) -/
  | blt (core thread ga gb : Nat) (off : BitVec 16)
  /-- Branches when ga is greater than or equal to gb, signed. (R270) -/
  | bge (core thread ga gb : Nat) (off : BitVec 16)
  /-- Branches when ga is less than gb, unsigned. (R270) -/
  | bltu (core thread ga gb : Nat) (off : BitVec 16)
  /-- Branches when ga is greater than or equal to gb, unsigned. (R270) -/
  | bgeu (core thread ga gb : Nat) (off : BitVec 16)
  /-- Writes the return address to gd and jumps by off21. (R254) -/
  | jal (core thread gd : Nat) (off : BitVec 21)
  /-- Writes the return address to gd and jumps to ga plus imm, with the alignment and range checks. (R255) -/
  | jalr (core thread gd ga : Nat) (imm : BitVec 16)
  /-- Issues a work word into the queue of an ARRAY, PLAIN, SHAPE or GATHER station after the issue-time checks. (R257) -/
  | tissue (core thread gd ga : Nat) (imm : BitVec 16)
  /-- Issues a stream descriptor to a FETCH or STORE queue after the issue-time checks. (R259) -/
  | sissue (core thread gd ga : Nat) (imm : BitVec 16)
  /-- Waits on the queued tiles or credits of a stream endpoint, or on a sync counter. (R264) -/
  | twait (core thread gd : Nat) (low : BitVec 21)
  /-- Adds n to a sync counter of a core in the same cluster. (R266) -/
  | tsig (core thread gd : Nat) (low : BitVec 21)
  /-- Registers an SR key in the cluster key table and returns the status in gd. (R261) -/
  | kopen (core thread gd ga : Nat) (imm : BitVec 16)
  /-- Retires a live SR key. (R261) -/
  | kclose (core thread gd ga : Nat) (imm : BitVec 16)
  /-- Waits until the conditions selected by its mask hold for the thread's earlier instructions. (R269) -/
  | fence (core thread gd ga : Nat) (imm : BitVec 16)
  /-- Stops the thread until a wake event in its mask occurs, or completes at once on a latched event. (R275) -/
  | waitEv (core thread gd ga : Nat) (imm : BitVec 16)
  /-- Reads a CSR of the core's own CORE block or of the GLOBAL block into gd. (R45) -/
  | csrr (core thread gd ga : Nat) (imm : BitVec 16)
  /-- Writes ga to a CSR of the core's own CORE block. (R45) -/
  | csrw (core thread gd ga : Nat) (imm : BitVec 16)
  /-- Writes a MARK, or starts or stops tracing for this thread. (R281) -/
  | traceOp (core thread gd ga : Nat) (imm : BitVec 16)
  /-- Stops the thread. (R254) -/
  | haltThread (core thread gd ga : Nat) (imm : BitVec 16)
  /-- A conditional branch resolves; waiting instructions proceed, or wrong-path work is discarded and registers are restored. (R270) -/
  | branchResolve (core thread : Nat)
  /-- A thread has issued 256 consecutive instructions while another is ready, and switches out. (R273) -/
  | threadQuantumExpire (core : Nat)
  /-- A cache or instruction-fetch miss completes, and the thread becomes ready. (R273) -/
  | missComplete (core thread : Nat) (bad : Bool)
  /-- The awaited count is reached; a sync counter is decremented and the count is written to gd. (R265) -/
  | twaitSatisfied (core thread : Nat)
  /-- The conditions of a pending FENCE come to hold, and the thread resumes. (R269) -/
  | fenceComplete (core thread : Nat)
  /-- A wake event named in a waiting thread's mask occurs, and the thread resumes. (R275) -/
  | waitWake (core thread ev : Nat)
  /-- A station queue entry frees, and a thread blocked on a full queue retries its issue. (R258) -/
  | stationQueueFree (core stn : Nat)
  /-- CORE.TIMER counts down to zero and produces a wake event. (R275) -/
  | coreTimerZero (core : Nat)
  /-- A station starts the next queued work word or descriptor and performs the start-time checks. (R260) -/
  | stationWorkStart (core stn : Nat)
  /-- A station finishes a work word and hands its last output to its stream. (R269) -/
  | stationWorkDone (core stn : Nat)
  /-- A producer holding a credit for every consumer places a tile on a stream. (R201) -/
  | tilePlace (core stn : Nat)
  /-- A consumer releases a tile and returns a credit. (R202) -/
  | tileRelease (ep : Nat)
  /-- A returned credit reaches its producer and is discarded if the producer already holds D. (R205) -/
  | creditReturn (ep : Nat)
  /-- A station reset ends, and each producer's credits are restored to D. (R204) -/
  | stationResetEnd (core stn : Nat)
  /-- Vector 0 of an array stream enters the part's first row. (R105) -/
  | arrayStreamStart (core eng : Nat)
  /-- A crease reaches cell (127, 127), returns its held credit, and lets the next crease be accepted. (R140) -/
  | creaseComplete (core eng : Nat)
  /-- A plane load starts once no stream uses the plane and no other load is running. (R131) -/
  | planeLoadStart (core eng : Nat)
  /-- A plane load completes after 128 cycles, and the plane's tag is written. (R128) -/
  | planeLoadComplete (core eng : Nat)
  /-- A tile leaves foot stage 5, and its output token is released, or a replay is triggered. (R183) -/
  | footTileOut (core eng : Nat)
  /-- A stream engine issues a FETCH read after the page-map check, or squashes it. (R230) -/
  | fetchReadIssue (core stn : Nat)
  /-- STORE writes a tile image, or discards a denied write and raises PAGE_DENIED. (R234) -/
  | storeWrite (core stn : Nat)
  /-- A spot check completes its FP32 recomputation, and its error is recorded. (R157) The three numbers of the command say nothing:
  the device computes the columns and their norms. -/
  | spotCheckDone (core : Nat) (diff ref arr : BitVec 32)
  /-- The last step block completes; the core records are merged and handed to the mangle on tag 0xFFFF. (R165) -/
  | recordClose
  /-- The reduced records arrive, and the PRU evaluates the rule table and updates the agreed exponents. (R179) -/
  | evaluation
  /-- Pending rule entries are installed at the named boundary, and any that break R169 are discarded. (R170) -/
  | pendingInstall
  /-- The current variants are written into every class-1 cluster's variant table, and the digest is computed. (R165) -/
  | variantPublication
  /-- The first step block of the next step starts, and class-1 threads restart where needed. (R166) -/
  | stepStart
  /-- At the named boundary, once publication has ended and no bucket is live, the device enters QUIESCED. (R243) -/
  | quiesceEnter
  /-- The first cluster completes the predecessor block, and the ready gate tests the block's gated inputs. (R216) -/
  | gateDecide (block : Nat)
  /-- GATE_WAIT expires with an input missing, and the gate substitutes rack copies or drops the micro-batch. (R217) -/
  | gateWaitExpire
  /-- A step block ends and unpins its rack buffers and window slots, which releases any waiting gather writes. (R211) -/
  | blockEnd (block : Nat)
  /-- SHIP hands the mangle a tagged tile, which opens the instance if needed. (R348) -/
  | shipTile (core : Nat)
  /-- A mangle slot frees, and an instance that was waiting for one opens. (R350) -/
  | slotFreeOpen
  /-- A mangle frame arrives and is matched by tag, step, chunk, segment and direction, or discarded for its epoch. (R365) -/
  | mangleFrameRx (f : MFrame)
  /-- A hop's inputs are present, and it adds, re-quantises and sends the partial to its successor. (R359) -/
  | hop (tag step chunk seg : Nat) (rev : Bool) (level : Nat)
  /-- A hop's wait limit expires, and it skips the missing contribution and forwards. (R363) -/
  | hopWaitExpire (tag step chunk seg : Nat) (rev : Bool) (level : Nat)
  /-- A contribution that arrives after its hop skipped it is folded into the ledger or dropped. (R366) -/
  | lateContribution (f : MFrame)
  /-- The final hop of a chunk completes, and the chunk is averaged, checked, written, sent to the partner and completed to TAKE. (R361) -/
  | finalHopDeliver (tag step chunk : Nat)
  /-- The reverse result has not arrived within WAIT_US of the forward result, so the outcome is VOID. (R372) -/
  | reverseWaitExpire (tag step chunk : Nat)
  /-- Every hop is done and every owned chunk is delivered, so the slot and key are freed. (R374) -/
  | instanceClose (tag step : Nat)
  /-- The wait limit of a BROADCAST, SEND or RECV expires, and the instance closes. (R337) -/
  | collTimeout (tag step : Nat)
  /-- A mend partner or spare receives FINAL frames, writes them to DST and hands the completion to MEND_CORE. (R380) -/
  | finalFrameRx (f : MFrame) (src : Nat)
  /-- A write to the tag-descriptor window changes the staging copy at TAG_SEL. (R644) -/
  | tagStageWrite (word : Nat) (v : BitVec 32)
  /-- Writing 1 to VALID requests installation, which R346 accepts or refuses. (R644) -/
  | tagInstall
  /-- A DEPART frame arrives, and the receiver treats the sender as failed. (R392) -/
  | departRx (h : MendHdr)
  /-- A SUSPECT frame arrives and is acted on, passed on once, or discarded. (R645) -/
  | suspectRx (h : MendHdr)
  /-- A non-keeper resends its marked SUSPECT every 100 µs until its table shows the member gone. (R645) -/
  | suspectResend (rank : Nat)
  /-- The subject of a PROBE answers with PROBE_ACK. (R394) -/
  | probeRx (h : MendHdr)
  /-- A PROBE_ACK arrives, and the subject stays LIVE. (R394) -/
  | probeAckRx (h : MendHdr)
  /-- No PROBE_ACK arrives within 100 µs, so the subject has failed. (R394) -/
  | probeTimeout (rank : Nat)
  /-- A NOTICE arrives and is adopted, held, acknowledged again, or resolved as a conflict. (R396) -/
  | noticeRx (h : MendHdr) (n : Notice)
  /-- The keeper receives the acknowledgement of a notice, which stops resends to that destination. (R396) -/
  | noticeAckRx (h : MendHdr)
  /-- Every 100 µs the keeper resends a notice to destinations that have not acknowledged it. (R396) -/
  | noticeResend
  /-- The keeper updates COPY from a COPY_REPORT without issuing an epoch. (R395) -/
  | copyReportRx (h : MendHdr) (valid : Bool)
  /-- After a checked step's updates, the owner computes the CRC-64 of its SHARD area and sends a DIGEST. (R382) -/
  | digestCheck
  /-- The partner compares the owner's digest with that of its copy. (R382) -/
  | digestRx (h : MendHdr) (digest : BitVec 64)
  /-- A source receives FILL_REQ and starts a fill stream. (R405) -/
  | fillReqRx (h : MendHdr)
  /-- A source sends the next chunk of its fill stream at the fill rate, and sends FILL_END after the last. (R406) -/
  | fillChunkSend (target : Nat)
  /-- A spare assembles FILL_META frames and installs the payload when complete. (R414) -/
  | fillMetaRx (h : MendHdr) (bytes : List Byte)
  /-- A spare receives the shard state of one chunk. (R407) -/
  | fillChunkRx (h : MendHdr) (bytes : List Byte)
  /-- A spare receives FILL_END, and sends FILL_DONE once both parts have ended. (R404) -/
  | fillEndRx (h : MendHdr)
  /-- The keeper receives FILL_DONE and issues the join notice. (R410) -/
  | fillDoneRx (h : MendHdr)
  /-- An assigned spare's domains are awake, and it sends both FILL_REQ frames. (R404) -/
  | spareWakeDone
  /-- A lane loses lock or laser input, and it is substituted, narrowed or takes the link down. (R425) -/
  | laneFail (link lane : Nat)
  /-- A 1 ms FEC window ends, and a lane whose error count exceeds the threshold fails. (R425) -/
  | laneErrorWindow (link lane symbols errors : Nat)
  /-- A LANE_MAP control flit gives the new active-lane bitmap and the SEQ at which it applies. (R429) -/
  | laneMapRx (link map seq : Nat)
  /-- A flit is accepted in SEQ order, or discarded with a NAK. (R437) -/
  | flitRx (link : Nat) (f : Flit)
  /-- A NAK makes the sender replay every unacknowledged flit from the named SEQ. (R437) -/
  | nakRx (link seq : Nat)
  /-- No ACK advance arrives for 8 µs, so the sender replays from the oldest unacknowledged flit. (R437) -/
  | ackTimeout (link : Nat)
  /-- A CREDIT flit raises the sender's credits, or triggers CREDIT_OVERRUN and a retrain. (R441) -/
  | creditRx (link : Nat) (counts : List Nat)
  /-- Within each 1 µs in which slots were freed, a CREDIT flit is sent. (R440) -/
  | creditSend (link : Nat)
  /-- A KEEPALIVE control flit is sent at least every 10 µs. (R442) -/
  | keepaliveSend (link : Nat)
  /-- No good flit arrives for 100 µs, so the link is declared down and retrains. (R442) -/
  | linkSilence (link : Nat)
  /-- A received frame is delivered, forwarded on its VC with TTL reduced, or discarded. (R450) -/
  | frameRx (link : Nat)
  /-- The link's optical engine reads READY, and lane lock begins. (R444) -/
  | opticalReady (link : Nat)
  /-- Each lane has locked or failed, and equalisation begins. (R444) -/
  | laneLock (link locked : Nat)
  /-- Receiver adaptation completes on the locked lanes. (R444) -/
  | equalisation (link : Nat)
  /-- Codeword alignment and deskew complete, and the end starts sending LINK_ID and CREDIT. (R641) -/
  | fecLock (link : Nat)
  /-- Until it is UP, an end resends LINK_ID and CREDIT at least every 10 µs. (R641) -/
  | linkIdResend (link : Nat)
  /-- A LINK_ID is received and recorded in the PARTNER registers. (R446) -/
  | linkIdRx (link : Nat) (a b : BitVec 32)
  /-- Having a LINK_ID and a CREDIT and holding its credits, the end reads UP. (R641) -/
  | linkUp (link : Nat)
  /-- Training has not completed within 500 ms, so it starts again. (R445) -/
  | trainingTimeout (link : Nat)
  /-- A write of 1 to SEAM.CTRL.RETRAIN takes the link down and trains it again. (R640) -/
  | seamRetrain (link : Nat)
  /-- A write to SEAM.CTRL.EN starts training, or takes the link down to OFF. (R640) -/
  | seamEnable (link : Nat) (en : Bool)
  /-- A write to FORCE_MIN runs the link at two lanes. (R447) -/
  | seamForceMin (link : Nat) (on : Bool)
  /-- Every 10 µs the engine measures each laser input, sets LOW, and turns the transmitters off below +14 dBm. (R453) -/
  | laserMeasure (oe : Nat) (a b : Option Int)
  /-- An input holds +17 dBm for 10 ms, and its transmitters turn on again. (R455) -/
  | laserRecover (oe : Nat) (inputB : Bool)
  /-- An optical engine reaches 95 °C and turns off all 15 transmitters. (R456) -/
  | oeOvertemp (oe temp : Nat)
  /-- An engine falls below 90 °C, resumes, and its links train. (R456) -/
  | oeCooled (oe temp : Nat)
  /-- A logical port's Ethernet link comes up. (R462) -/
  | portLinkUp (port : Nat)
  /-- A logical port's Ethernet link goes down. (R500) -/
  | portLinkDown (port : Nat)
  /-- A write to ETH.MODE takes a port's links down and brings them up in the new mode. (R461) -/
  | ethModeWrite (v : BitVec 32)
  /-- An Ethernet frame is received, checked for length, FCS, VLAN and queue, and dispatched or dropped. (R460) -/
  | ethFrameRx (port : Nat) (f : EthFrame)
  /-- XOFF is refreshed every 20 µs while the queue stays above the lower mark. (R469) -/
  | pfcRefresh (port queue fill : Nat)
  /-- A received PFC frame holds an enabled egress queue for the stated quanta. (R469) -/
  | pfcFrameRx (port : Nat) (queues : List Nat)
  /-- The device answers ARP or a Neighbour Solicitation for its own address. (R472) -/
  | arpNdRx (port target sender : Nat)
  /-- The device answers an Echo Request while PING_EN is 1. (R472) -/
  | icmpEchoRx (port src len : Nat) (payload : List Byte)
  /-- A DHCP reply obtains or changes a lease and writes the address registers. (R470) -/
  | dhcpReplyRx (port : Nat) (l : Lease)
  /-- At half its lifetime a lease is renewed. (R470) -/
  | dhcpRenew (port : Nat)
  /-- A Router Advertisement gives the port its default IPv6 router. (R471) -/
  | routerAdvertRx (port : Nat)
  /-- A host write of a non-zero IPV4_ADDR releases any lease and makes the address static. (R470) -/
  | ipv4AddrWrite (port : Nat) (v : BitVec 32)
  /-- An RDMA WRITE packet is checked and moves its data, or draws a NAK. (R477) -/
  | roceWriteRx (p : RocePkt)
  /-- An RDMA READ request is checked and answered with data or a NAK. (R477) -/
  | roceReadRx (p : RocePkt) (outstanding : Nat)
  /-- A WCP datagram is verified, reassembled and queued as a request, or discarded. (R482) -/
  | wcpDatagramRx (d : Datagram)
  /-- A message that stays incomplete for 10 ms is discarded. (R483) -/
  | fragTimeout (session seq : Nat)
  /-- A session closes 60 s after its last valid request. (R488) -/
  | sessionIdleTimeout (session : Nat)
  /-- Every 50 ms the oldest unacknowledged notification is resent. (R497) -/
  | notifyResend (session : Nat)
  /-- Returns a fresh device nonce, the identity digest and the ROM level. (R486) -/
  | hello (q : WcpReq)
  /-- Returns part of the device certificate chain. (R587) -/
  | certs (q : WcpReq) (off : Nat)
  /-- Authenticates the host and opens a session with derived keys. (R487) -/
  | wcpOpen (q : WcpReq) (o : OpenArgs)
  /-- Closes the session after the response. (R488) -/
  | wcpClose (q : WcpReq)
  /-- Returns the identity, implementation constants and state. (R495) -/
  | identify (q : WcpReq)
  /-- Returns a signed attestation report. (R603) -/
  | attest (q : WcpReq) (nonce : BitVec 256)
  /-- Echoes the request bytes. (R495) -/
  | ping (q : WcpReq) (bytes : List Byte)
  /-- Acknowledges notifications up to a number, with no response. (R497) -/
  | notifyAck (q : WcpReq) (upTo : Nat)
  /-- Starts staging an image of a given type and length. (R495) -/
  | imgBegin (q : WcpReq) (type len : Nat)
  /-- Stages image bytes at an offset. (R495) -/
  | imgData (q : WcpReq) (off : Nat) (bytes : List Byte)
  /-- Starts the background check and load of a staged image or key list. (R596) -/
  | imgCommit (q : WcpReq) (src flags : Nat)
  /-- The image check completes, and the image is loaded or refused with a COMPLETION. (R596) -/
  | imgCommitDone (sigOk : Bool)
  /-- Lists the loaded images. (R495) -/
  | imgList (q : WcpReq)
  /-- Starts staging a weave, discarding any partly staged weave. (R236) -/
  | weaveBegin (q : WcpReq) (len : Nat)
  /-- Stages weave bytes at an offset. (R495) -/
  | weaveData (q : WcpReq) (off : Nat) (bytes : List Byte)
  /-- Starts the background check of a staged weave. (R237) -/
  | weaveCommit (q : WcpReq) (src : Nat)
  /-- The weave check completes, and the weave is staged or refused with a reason. (R237) -/
  | weaveCommitDone (sigOk : Bool)
  /-- Accepts activation of the staged weave and enters ACTIVATING. (R238) -/
  | weaveActivate (q : WcpReq)
  /-- STATE reads ACTIVATING, and the class-0 drain begins. (R238) -/
  | activationEntryDone
  /-- Every admitted class-0 request is answered, and dismantling begins. (R238) -/
  | class0DrainDone
  /-- Threads, stations, key tables, tag slots and pending entries are cleared, and the Power stage begins. (R238) -/
  | dismantleDone
  /-- Every domain has reached its POWER state, and clearing begins. (R242) -/
  | activationPowerDone
  /-- SRAM and scratch are zeroed, caches and plane tags cleared and racks invalidated. (R238) -/
  | activationClearDone
  /-- Routes, maps, programs, tables, PRESET writes and the group table are installed. (R238) -/
  | activationInstallDone
  /-- STATE reads RUNNING or STANDBY, the GLOBAL maps update together, and threads start. (R42) -/
  | activationPublish
  /-- Discards the staged weave. (R495) -/
  | weaveDiscard (q : WcpReq)
  /-- Returns state, step, epoch and own rank. (R495) -/
  | jobStatus (q : WcpReq)
  /-- Requests QUIESCED at a named class-1 step boundary. (R243) -/
  | quiesce (q : WcpReq) (step : Nat)
  /-- Returns from QUIESCED to RUNNING, unless a shard is lost. (R418) -/
  | resume (q : WcpReq)
  /-- Reads device memory as a class-2 access. (R300) -/
  | memRead (q : WcpReq) (addr len : Nat)
  /-- Writes device memory as a class-2 access. (R300) -/
  | memWrite (q : WcpReq) (addr : Nat) (bytes : List Byte)
  /-- Starts filling a memory range with a pattern. (R300) -/
  | memFill (q : WcpReq) (addr len : Nat) (pattern : BitVec 64)
  /-- The fill completes, and the response is sent. (R495) -/
  | memFillDone
  /-- Opens a RoCEv2 window and returns its index and R_Key. (R476) -/
  | winOpen (q : WcpReq) (base len access : Nat)
  /-- Closes a window once the packets already accepted against it complete. (R478) -/
  | winClose (q : WcpReq) (index : Nat)
  /-- The last accepted packet of a closing window completes, and the response is sent. (R478) -/
  | winCloseDone (index : Nat)
  /-- Creates a queue pair. (R475) -/
  | qpOpen (q : WcpReq)
  /-- Connects a queue pair, checking the path MTU. (R475) -/
  | qpConnect (q : WcpReq) (qpn : Nat) (a : QpArgs)
  /-- Closes a queue pair. (R475) -/
  | qpClose (q : WcpReq) (qpn : Nat)
  /-- Reads up to 64 CSRs. (R491) -/
  | regRead (q : WcpReq) (offs : List Nat)
  /-- Writes CSRs in order, stopping at the first item that fails. (R493) -/
  | regWrite (q : WcpReq) (items : List (Nat × BitVec 32))
  /-- Reads a run of consecutive CSRs. (R495) -/
  | regReadSeq (q : WcpReq) (first count : Nat)
  /-- Returns the group status registers. (R495) -/
  | groupStatus (q : WcpReq)
  /-- Reports a rank as failed, running keeper_fail on the keeper or sending a marked SUSPECT elsewhere. (R645) -/
  | markFailed (q : WcpReq) (rank : Nat)
  /-- The keeper probes a GONE standby rank and marks it READY. (R496) -/
  | addSpare (q : WcpReq) (rank : Nat)
  /-- Releases the live group table in IDLE, or in QUIESCED after LOST. (R384) -/
  | groupRelease (q : WcpReq)
  /-- Writes a run of route-table entries. (R448) -/
  | routeSet (q : WcpReq) (first : Nat) (entries : List (BitVec 32))
  /-- Returns the telemetry record. (R583) -/
  | telemetry (q : WcpReq)
  /-- Sets a power domain's management state, subject to refusals. (R569) -/
  | domainSet (q : WcpReq) (dom state : Nat)
  /-- Sets the power cap. (R577) -/
  | powerCap (q : WcpReq) (watts : Nat)
  /-- Sends the response, then resets the device with cause COMMAND. (R580) -/
  | wcpReset (q : WcpReq)
  /-- Holds a new unlock challenge and returns its nonce. (R605) -/
  | unlockChallenge (q : WcpReq) (scope : Nat)
  /-- Verifies a signed response and grants the scopes. (R606) -/
  | unlockResponse (q : WcpReq) (scope count : Nat) (signers : List (BitVec 256))
  /-- The SCAN wipe ends, and JTAG opens. (R605) -/
  | scanWipeDone
  /-- Freezes the lint rings and starts a dump to the given address. (R550) -/
  | lintDump (q : WcpReq) (addr : Nat)
  /-- A lint dump is written or refused, and the rings resume. (R552) -/
  | lintDumpDone
  /-- Builds and returns the wait-for graph. (R546) -/
  | waitfor (q : WcpReq)
  /-- A rank answers a WFG_QUERY with its reachable edges. (R548) -/
  | wfgQueryRx (src node step : Nat)
  /-- A WFG_REPLY extends the graph and queries new remote nodes. (R548) -/
  | wfgReplyRx (src : Nat) (edges : List GEdge)
  /-- A rank that does not answer within 1 ms stays a leaf. (R548) -/
  | wfgQueryTimeout (rank : Nat)
  /-- Returns the scoring status registers. (R519) -/
  | scoreStatus (q : WcpReq)
  /-- Starts copying a swap image body into every lane's inactive buffer. (R520) -/
  | swapLoad (q : WcpReq) (addr : Nat)
  /-- Every inactive buffer holds the body, and the response is sent. (R520) -/
  | swapLoadDone
  /-- Requests every lane to switch its active buffer at its next request boundary. (R521) -/
  | swapPublish (q : WcpReq) (version : Nat)
  /-- The ingress path parses a scoring request and admits it to a lane or answers it at once. (R511) -/
  | scoreRequestRx (r : ScoreReq)
  /-- A lane starts its next admitted request. (R512) -/
  | laneServiceStart (lane : Nat)
  /-- A lane hands the result to SHIP, and switches buffer if a publish is pending. (R521) -/
  | laneServiceEnd (lane : Nat) (score : BitVec 32) (attrs : List Sens) (ns egressNs : Nat)
  /-- The management core starts handling the oldest record of the highest non-empty severity queue. (R534) -/
  | handlerStart
  /-- A handler yields and is suspended if a higher-severity record waits. (R534) -/
  | handlerYield
  /-- A handler completes the consequence of its severity. (R527) -/
  | handlerDone
  /-- A handler runs 100 µs without yielding, or faults, and is abandoned. (R537) -/
  | handlerFault (bad : Option Nat)
  /-- Lint rings, threads, SHIP and TAKE are frozen, and DEPART sending begins. (R538) -/
  | fenceFreezeDone
  /-- DEPART frames are sent, and the fence begins. (R538) -/
  | fenceDepartDone
  /-- FAIL_N is low and STATE reads FENCED; the links stage begins. (R538) -/
  | fenceStageDone
  /-- The seam transmitters are dark, and the lint dump begins. (R538) -/
  | fenceLinksDone
  /-- The fence lint dump is written or skipped, and the trace flush begins. (R538) -/
  | fenceLintDone
  /-- Every trace buffer is drained, and the cluster domains are powered off. (R538) -/
  | fenceFlushDone
  /-- Every cluster domain is off, and DEVICE handling ends. (R538) -/
  | fencePowerDone
  /-- No step boundary completes for HANG_MS, so HANG_SUSPECT is raised and the graph is built. (R545) -/
  | hangCheck
  /-- A trace buffer reaching 4 KiB drains one chunk to its ring. (R543) -/
  | traceDrain (core : Nat)
  /-- A write to CORE.TRACE_CTRL.FLUSH drains the buffer, padding the last chunk. (R543) -/
  | traceFlush (core : Nat)
  /-- A write to CORE.THREAD_CTRL.RESTART restarts threads at their entry points. (R284) -/
  | threadRestart (core bits : Nat)
  /-- A write to CORE.THREAD_CTRL.HALT halts threads at their next instruction boundary. (R284) -/
  | threadHalt (core bits : Nat)
  /-- A write to CORE.STN_RESET resets the selected stations. (R285) -/
  | stationReset (core bits : Nat)
  /-- A write of 1 to CORE.PERF_CTRL.CLEAR zeroes every engine counter of the core. (R554) -/
  | perfClear (core : Nat)
  /-- A read of CORE.EXC_COUNT clears it and frees the EXC registers for the next record. (R280) -/
  | excCountRead (core : Nat)
  /-- A read of GLOBAL.CYCLE_LO latches CYCLE_HI for that reader. (R38) -/
  | cycleLoRead (reader : Nat)
  /-- A read of an engine counter's LO register latches its HI register for that reader. (R554) -/
  | engCounterLoRead (reader core off : Nat)
  /-- A write of 1 to ERRLOG.CLEAR empties the log and the fatal record. (R553) -/
  | errlogClear
  /-- A write to the PRU entry window changes the pending copy of the selected entry. (R170) -/
  | pruEntryWrite (word : Nat) (v : BitVec 32)
  /-- A write to PRU.APPLY_STEP names the install boundary, or is refused with RANGE. (R173) -/
  | pruApplyStepWrite (v : BitVec 32)
  /-- A write of 1 to PRU.PENDING.DISCARD discards every pending entry. (R192) -/
  | pruPendingDiscard
  /-- A write of 1 to GROUP.CTRL.RELEASE releases the live table where allowed. (R384) -/
  | groupCtrlRelease
  /-- A write to a register without a row of its own takes effect by its access code, or is refused. (R12) -/
  | csrWrite (off : Nat) (v : BitVec 32)
  /-- VIN crosses a shedding threshold downwards, and hardware applies that level. (R572) -/
  | vinSagDown (level mv : Nat)
  /-- VIN holds above a level's threshold for 100 µs, and that level's shedding is undone. (R573) -/
  | sagLevelReturn (level mv : Nat)
  /-- VIN falls below 1.60 V, every non-management domain goes off and the device resets. (R574) -/
  | vinReset (mv : Nat)
  /-- VIN holds at or above 1.746 V for 10 ms, and boot restarts from Self-test. (R574) -/
  | vinRecoverBoot (mv : Nat)
  /-- Every 20 µs junction readings adjust each cluster's junction duty. (R575) -/
  | junctionSensorRead (cluster a b : Nat) (periodEnd : Bool)
  /-- Every sensor reads below 95 °C for 1 s, and the device boots from Self-test. (R576) -/
  | thermalRecoverBoot
  /-- Every 10 µs the power-cap tokens are granted and class-1 cap duties are set. (R577) -/
  | capGrant (other : Nat) (clusters : List Nat)
  /-- Every 1 ms the device reads each rail's PMBus telemetry. (R560) -/
  | pmbusPoll (page : Nat) (reading : Option PmReading)
  /-- The board asserts PMB_ALERT_N, and PMBUS_FAULT is raised. (R561) -/
  | pmbAlert
  /-- A domain wake starts, or a queued wake from off starts when fewer than four are running. (R567) -/
  | domainWakeStart (dom : Nat)
  /-- A domain completes its wake steps and reads ON, or retention under R639. (R566) -/
  | domainWakeDone (dom : Nat)
  /-- A wake step exceeds its bound during activation, and activation fails to IDLE. (R242) -/
  | domainWakeTimeout (dom : Nat)
  /-- A domain in low-power mode draws over 2 A, goes off and wakes again. (R565) -/
  | domainBrownout (dom : Nat)
  /-- VSB comes up, the device resets and ROM start begins. (R580) -/
  | vsbRise (testEn : Bool)
  /-- VSB falls below 0.85 V, and every domain goes off within 1 µs. (R629) -/
  | vsbFall
  /-- The ROM executes, STATE reads BOOT and self-test begins. (R581) -/
  | romStartDone
  /-- ROM digest, fuses and storage are checked, and OPERATION ON is sent to the rails. (R581) -/
  | selfTestDone
  /-- VIN, VPP and VANA are within tolerance, and the uncore domains are brought on. (R581) -/
  | railsDone
  /-- The Rails step has not ended within 12 ms; PMBUS_FAULT is raised and the step repeats every 1 s. (R582) -/
  | railsRetry
  /-- Uncore domains are on, and STATE reads IDLE. (R581) -/
  | uncoreDone
  /-- Every 100 µs a stack's temperature reading updates its throttle level. (R318) -/
  | hbmTempRead (stack temp : Nat)
  /-- Stack training ends, leaving each stack usable and zeroed, or failed. (R314) -/
  | hbmTrainingDone (stack : Nat) (ok : Bool)
  /-- A periodic scrub of SRAM, scratch or HBM runs. (R328) -/
  | scrubPass (corrected uncorrectable : List Nat)
  /-- The JTAG IDCODE instruction returns 0x1000_A2F3. (R622) -/
  | jtagIdcode
  /-- The JTAG BYPASS instruction selects the bypass register. (R622) -/
  | jtagBypass
  /-- The JTAG reset instruction under SCAN resets the device with cause SCAN. (R608) -/
  | jtagReset
  /-- A domain's entry into retention or off completes within 5 µs, and its effective state reads RETENTION or OFF. (R564) -/
  | domainEntryDone (dom : Nat)
  /-- A domain's regulator or PLL reports a fault, and an activation in its Power stage stops and fails to IDLE. (R242) -/
  | regulatorOrPllFault (dom : Nat)
  /-- Both ends finish re-forming the interleave over the remaining lanes, and flits are sent again, replay restarting from the oldest unacknowledged flit. (R427) -/
  | interleaveReformDone (link : Nat)
  /-- The pause quanta of a received XOFF run out, and the held egress queue is served again. (R469) -/
  | pfcQuantaExpire (port queue : Nat)
  /-- A DHCPv4 lease reaches the end of its lifetime without renewal, the address is lost and DHCP_CHANGE is raised. (R470) -/
  | dhcpLeaseExpire (port : Nat)  deriving DecidableEq, Repr

end Sys2Proof
end

