-- ==== Sys2Proof/Decode.lean ====
section
/-! DEFINITION. The table gives no row any bits: no word spells a command. The control-core encoding
of R253 and R254, with which the examples of *The station control core* are written, stands here too:
it gives the command of a core's thread from an instruction word, and the word from the command. -/

namespace Sys2Proof

/-- The command that a word of the table spells: none, for the table gives no row bits. -/
def decodeTableWord (_nbits _w : Nat) : Option Instr := none

/-- The opcode and the fields of a control-core word (R253): opcode, [25:21], [20:16], [15:0]. -/
def coreFields (w : BitVec 32) : Nat × Nat × Nat × BitVec 16 :=
  ((w.extractLsb' 26 6).toNat, (w.extractLsb' 21 5).toNat, (w.extractLsb' 16 5).toNat,
   w.extractLsb' 0 16)

/-- The command that thread `t` of core `c` issues for an instruction word (R253, R254). A word with a
reserved opcode gives none: such an issue is ILLEGAL. -/
def decodeCoreWord (c t : Nat) (w : BitVec 32) : Option Instr :=
  let (op, d, a, imm) := coreFields w
  let low : BitVec 21 := w.extractLsb' 0 21
  match op with
  | 0x00 => some (.alu c t d a (imm.extractLsb' 11 5).toNat (imm.extractLsb' 4 7).toNat
      (imm.extractLsb' 0 4).toNat)
  | 0x01 => some (.addi c t d a imm)
  | 0x02 => some (.andi c t d a imm)
  | 0x03 => some (.ori c t d a imm)
  | 0x04 => some (.xori c t d a imm)
  | 0x05 => some (.slti c t d a imm)
  | 0x06 => some (.shifti c t d a imm)
  | 0x07 => some (.lui c t d a imm)
  | 0x08 => some (.shori c t d a imm)
  | 0x10 => some (.ld c t d a imm)
  | 0x11 => some (.lw c t d a imm)
  | 0x12 => some (.lwu c t d a imm)
  | 0x13 => some (.lbu c t d a imm)
  | 0x14 => some (.sd c t d a imm)
  | 0x15 => some (.sw c t d a imm)
  | 0x16 => some (.sb c t d a imm)
  | 0x17 => some (.aadd c t d a imm)
  | 0x20 => some (.beq c t d a imm)
  | 0x21 => some (.bne c t d a imm)
  | 0x22 => some (.blt c t d a imm)
  | 0x23 => some (.bge c t d a imm)
  | 0x24 => some (.bltu c t d a imm)
  | 0x25 => some (.bgeu c t d a imm)
  | 0x26 => some (.jal c t d low)
  | 0x27 => some (.jalr c t d a imm)
  | 0x30 => some (.tissue c t d a imm)
  | 0x31 => some (.sissue c t d a imm)
  | 0x32 => some (.twait c t d low)
  | 0x33 => some (.tsig c t d low)
  | 0x34 => some (.kopen c t d a imm)
  | 0x35 => some (.kclose c t d a imm)
  | 0x38 => some (.fence c t d a imm)
  | 0x39 => some (.waitEv c t d a imm)
  | 0x3A => some (.csrr c t d a imm)
  | 0x3B => some (.csrw c t d a imm)
  | 0x3C => some (.traceOp c t d a imm)
  | 0x3D => some (.haltThread c t d a imm)
  | _ => none

/-- A word from its opcode and the fields at [25:21], [20:16] and [15:0] (R253). -/
def coreWord (op d a : Nat) (imm : BitVec 16) : BitVec 32 :=
  BitVec.ofNat 6 op ++ BitVec.ofNat 5 d ++ BitVec.ofNat 5 a ++ imm

/-- A word from its opcode, the field at [25:21] and the 21 bits below it (R253). -/
def coreWordLow (op d : Nat) (low : BitVec 21) : BitVec 32 := BitVec.ofNat 6 op ++ BitVec.ofNat 5 d ++ low

/-- The control-core instruction word of a command (R253, R254); none for a command that no thread issues. -/
def encodeCoreWord : Instr → Option (BitVec 32)
  | .alu _ _ d a b rsv f =>
    some (coreWord 0x00 d a (BitVec.ofNat 5 b ++ BitVec.ofNat 7 rsv ++ BitVec.ofNat 4 f))
  | .addi _ _ d a imm => some (coreWord 0x01 d a imm)
  | .andi _ _ d a imm => some (coreWord 0x02 d a imm)
  | .ori _ _ d a imm => some (coreWord 0x03 d a imm)
  | .xori _ _ d a imm => some (coreWord 0x04 d a imm)
  | .slti _ _ d a imm => some (coreWord 0x05 d a imm)
  | .shifti _ _ d a imm => some (coreWord 0x06 d a imm)
  | .lui _ _ d a imm => some (coreWord 0x07 d a imm)
  | .shori _ _ d a imm => some (coreWord 0x08 d a imm)
  | .ld _ _ d a imm => some (coreWord 0x10 d a imm)
  | .lw _ _ d a imm => some (coreWord 0x11 d a imm)
  | .lwu _ _ d a imm => some (coreWord 0x12 d a imm)
  | .lbu _ _ d a imm => some (coreWord 0x13 d a imm)
  | .sd _ _ d a imm => some (coreWord 0x14 d a imm)
  | .sw _ _ d a imm => some (coreWord 0x15 d a imm)
  | .sb _ _ d a imm => some (coreWord 0x16 d a imm)
  | .aadd _ _ d a imm => some (coreWord 0x17 d a imm)
  | .beq _ _ d a imm => some (coreWord 0x20 d a imm)
  | .bne _ _ d a imm => some (coreWord 0x21 d a imm)
  | .blt _ _ d a imm => some (coreWord 0x22 d a imm)
  | .bge _ _ d a imm => some (coreWord 0x23 d a imm)
  | .bltu _ _ d a imm => some (coreWord 0x24 d a imm)
  | .bgeu _ _ d a imm => some (coreWord 0x25 d a imm)
  | .jal _ _ d low => some (coreWordLow 0x26 d low)
  | .jalr _ _ d a imm => some (coreWord 0x27 d a imm)
  | .tissue _ _ d a imm => some (coreWord 0x30 d a imm)
  | .sissue _ _ d a imm => some (coreWord 0x31 d a imm)
  | .twait _ _ d low => some (coreWordLow 0x32 d low)
  | .tsig _ _ d low => some (coreWordLow 0x33 d low)
  | .kopen _ _ d a imm => some (coreWord 0x34 d a imm)
  | .kclose _ _ d a imm => some (coreWord 0x35 d a imm)
  | .fence _ _ d a imm => some (coreWord 0x38 d a imm)
  | .waitEv _ _ d a imm => some (coreWord 0x39 d a imm)
  | .csrr _ _ d a imm => some (coreWord 0x3A d a imm)
  | .csrw _ _ d a imm => some (coreWord 0x3B d a imm)
  | .traceOp _ _ d a imm => some (coreWord 0x3C d a imm)
  | .haltThread _ _ d a imm => some (coreWord 0x3D d a imm)
  | _ => none

end Sys2Proof
end

