-- ==== Sys2Proof/Machine/CsrTable.lean ====
section
/-! DEFINITION. The CSR map: for each block, its registers with their offsets, fields, access codes
and reset values, as the register tables of the chapters give them; and the offset of each register
from 0xFF_0000_0000 under its name. -/

namespace Sys2Proof.Machine

/-- Access codes (R12, Table 2 of *Scope and conventions*). -/
inductive Access
  | ro | rw | w1c | wo | rc | rwl
  deriving DecidableEq, Repr

/-- A field: bits `hi` to `lo`, access code, reset value. -/
structure Fld where
  hi : Nat
  lo : Nat
  acc : Access
  rst : Nat
  deriving DecidableEq, Repr

/-- A register, or `count` registers `stride` bytes apart, at `off` in its block or unit. -/
structure Reg where
  off : Nat
  count : Nat
  stride : Nat
  flds : List Fld
  deriving DecidableEq, Repr

/-- Registers of the GLOBAL block (R37). -/
def regsGlobal : List Reg := [
  ⟨0x000, 1, 4, [⟨31, 16, .ro, 0x5a1e⟩, ⟨15, 8, .ro, 1⟩, ⟨7, 0, .ro, 0xa1⟩]⟩,
  ⟨0x004, 1, 4, [⟨15, 8, .ro, 1⟩, ⟨7, 0, .ro, 0⟩]⟩,
  ⟨0x008, 1, 4, [⟨8, 8, .ro, 0⟩, ⟨2, 0, .ro, 1⟩]⟩,
  ⟨0x00C, 1, 4, [⟨31, 0, .ro, 0⟩]⟩,
  ⟨0x010, 1, 4, [⟨31, 0, .ro, 0⟩]⟩,
  ⟨0x014, 1, 4, [⟨31, 0, .ro, 0⟩]⟩,
  ⟨0x018, 1, 4, [⟨5, 5, .w1c, 0⟩, ⟨4, 4, .w1c, 0⟩, ⟨3, 3, .w1c, 0⟩, ⟨2, 2, .w1c, 0⟩, ⟨1, 1, .w1c, 0⟩, ⟨0, 0, .w1c, 1⟩]⟩,
  ⟨0x01C, 1, 4, [⟨1, 1, .ro, 0⟩, ⟨0, 0, .ro, 0⟩]⟩,
  ⟨0x020, 1, 4, [⟨31, 0, .ro, 0⟩]⟩,
  ⟨0x024, 1, 4, [⟨31, 0, .ro, 0⟩]⟩,
  ⟨0x028, 1, 4, [⟨15, 0, .rc, 0⟩]⟩,
  ⟨0x030, 1, 4, [⟨31, 0, .rwl, 0⟩]⟩,
  ⟨0x034, 1, 4, [⟨31, 0, .rw, 0⟩]⟩,
  ⟨0x038, 1, 4, [⟨0, 0, .rwl, 0⟩]⟩,
  ⟨0x040, 1, 4, [⟨31, 0, .ro, 0x400⟩]⟩,
  ⟨0x044, 1, 4, [⟨15, 12, .ro, 4⟩, ⟨11, 8, .ro, 8⟩, ⟨7, 4, .ro, 8⟩, ⟨3, 0, .ro, 4⟩]⟩,
  ⟨0x048, 1, 4, [⟨31, 28, .ro, 0xf⟩, ⟨26, 24, .ro, 7⟩, ⟨23, 20, .ro, 8⟩, ⟨19, 10, .ro, 0x80⟩, ⟨9, 0, .ro, 0x80⟩]⟩,
  ⟨0x04C, 1, 4, [⟨31, 16, .ro, 0x640⟩, ⟨15, 0, .ro, 0x320⟩]⟩,
  ⟨0x050, 1, 4, [⟨31, 24, .ro, 0x40⟩, ⟨23, 12, .ro, 0x80⟩, ⟨11, 0, .ro, 0x400⟩]⟩,
  ⟨0x054, 1, 4, [⟨31, 16, .ro, 0x280⟩, ⟨15, 0, .ro, 0x1000⟩]⟩,
  ⟨0x058, 1, 4, [⟨19, 12, .ro, 0x20⟩, ⟨11, 4, .ro, 0x24⟩, ⟨3, 0, .ro, 8⟩]⟩,
  ⟨0x05C, 1, 4, [⟨31, 16, .ro, 0xe0⟩, ⟨15, 12, .ro, 1⟩, ⟨11, 8, .ro, 4⟩, ⟨7, 0, .ro, 0x18⟩]⟩,
  ⟨0x060, 1, 4, [⟨31, 16, .ro, 0x190⟩, ⟨3, 0, .ro, 2⟩]⟩,
  ⟨0x064, 1, 4, [⟨31, 16, .ro, 0x200⟩, ⟨15, 0, .ro, 0x1000⟩]⟩,
  ⟨0x068, 1, 4, [⟨31, 16, .ro, 0x4000⟩, ⟨15, 12, .ro, 8⟩, ⟨11, 7, .ro, 0x16⟩, ⟨6, 0, .ro, 0x18⟩]⟩,
  ⟨0x06C, 1, 4, [⟨31, 24, .ro, 0x20⟩, ⟨23, 16, .ro, 4⟩, ⟨15, 8, .ro, 0x3a⟩, ⟨7, 0, .ro, 0x3c⟩]⟩]

/-- Registers of the PRU block (R192). -/
def regsPru : List Reg := [
  ⟨0x000, 1, 4, [⟨2, 2, .rw, 0⟩, ⟨1, 1, .rw, 0⟩, ⟨0, 0, .rw, 0⟩]⟩,
  ⟨0x004, 1, 4, [⟨31, 0, .rw, 0⟩]⟩,
  ⟨0x008, 1, 4, [⟨31, 0, .ro, 0⟩]⟩,
  ⟨0x00C, 1, 4, [⟨7, 0, .rw, 8⟩]⟩,
  ⟨0x010, 1, 4, [⟨4, 0, .rw, 0xc⟩]⟩,
  ⟨0x014, 1, 4, [⟨12, 0, .ro, 0⟩]⟩,
  ⟨0x018, 1, 4, [⟨31, 0, .ro, 0⟩]⟩,
  ⟨0x01C, 1, 4, [⟨2, 2, .ro, 0⟩, ⟨1, 1, .ro, 0⟩, ⟨0, 0, .ro, 0⟩]⟩,
  ⟨0x020, 1, 4, [⟨28, 16, .ro, 0⟩, ⟨12, 0, .ro, 0⟩]⟩,
  ⟨0x024, 1, 4, [⟨28, 16, .ro, 0⟩, ⟨12, 0, .ro, 0⟩]⟩,
  ⟨0x028, 1, 4, [⟨31, 0, .ro, 0⟩]⟩,
  ⟨0x02C, 1, 4, [⟨31, 0, .rw, 0xffffffff⟩]⟩,
  ⟨0x030, 1, 4, [⟨31, 31, .wo, 0⟩, ⟨28, 16, .rc, 0⟩, ⟨12, 0, .ro, 0⟩]⟩,
  ⟨0x034, 1, 4, [⟨11, 0, .rw, 0⟩]⟩,
  ⟨0x038, 1, 4, [⟨31, 0, .ro, 0⟩]⟩,
  ⟨0x040, 1, 4, [⟨31, 0, .rc, 0⟩]⟩,
  ⟨0x044, 1, 4, [⟨31, 0, .rc, 0⟩]⟩,
  ⟨0x048, 1, 4, [⟨31, 0, .rc, 0⟩]⟩,
  ⟨0x04C, 1, 4, [⟨31, 0, .rc, 0⟩]⟩,
  ⟨0x050, 1, 4, [⟨31, 0, .rc, 0⟩]⟩,
  ⟨0x054, 1, 4, [⟨31, 0, .rc, 0⟩]⟩,
  ⟨0x058, 1, 4, [⟨31, 0, .rc, 0⟩]⟩,
  ⟨0x100, 16, 4, [⟨31, 0, .rw, 0⟩]⟩,
  ⟨0x140, 1, 4, [⟨15, 8, .ro, 0⟩, ⟨7, 4, .ro, 0⟩, ⟨3, 0, .ro, 0⟩]⟩]

/-- Registers of the CORE block (R284, R554). -/
def regsCore1 : List Reg := [
  ⟨0x000, 1, 4, [⟨15, 8, .wo, 0⟩, ⟨7, 0, .wo, 0⟩]⟩,
  ⟨0x004, 1, 4, [⟨31, 0, .ro, 0⟩]⟩,
  ⟨0x008, 1, 4, [⟨12, 0, .wo, 0⟩]⟩,
  ⟨0x010, 8, 4, [⟨19, 0, .ro, 0⟩]⟩,
  ⟨0x030, 8, 4, [⟨31, 31, .ro, 0⟩, ⟨19, 0, .ro, 0⟩]⟩,
  ⟨0x050, 1, 4, [⟨15, 8, .ro, 0⟩, ⟨7, 7, .ro, 0⟩, ⟨6, 4, .ro, 0⟩, ⟨3, 0, .ro, 0⟩]⟩,
  ⟨0x054, 1, 4, [⟨19, 0, .ro, 0⟩]⟩,
  ⟨0x058, 1, 4, [⟨31, 0, .ro, 0⟩]⟩,
  ⟨0x05C, 1, 4, [⟨31, 0, .ro, 0⟩]⟩,
  ⟨0x060, 1, 4, [⟨15, 0, .rc, 0⟩]⟩,
  ⟨0x064, 1, 4, [⟨1, 0, .rw, 0⟩]⟩,
  ⟨0x068, 1, 4, [⟨31, 0, .rw, 0⟩]⟩,
  ⟨0x06C, 1, 4, [⟨31, 0, .rc, 0⟩]⟩,
  ⟨0x070, 1, 4, [⟨31, 0, .rc, 0⟩]⟩,
  ⟨0x080, 16, 4, [⟨15, 0, .ro, 0⟩]⟩,
  ⟨0x0C0, 1, 4, [⟨5, 0, .rw, 0⟩]⟩,
  ⟨0x0C4, 1, 4, [⟨25, 25, .ro, 0⟩, ⟨24, 24, .ro, 0⟩, ⟨22, 16, .ro, 0⟩, ⟨14, 8, .ro, 0⟩, ⟨6, 0, .ro, 0⟩]⟩,
  ⟨0x0D0, 8, 4, [⟨31, 31, .rw, 0⟩, ⟨13, 0, .rw, 0⟩]⟩,
  ⟨0x100, 1, 4, [⟨16, 16, .wo, 0⟩, ⟨15, 8, .rw, 0⟩, ⟨1, 1, .rw, 0⟩, ⟨0, 0, .rw, 0⟩]⟩,
  ⟨0x104, 1, 4, [⟨27, 0, .rw, 0⟩]⟩,
  ⟨0x108, 1, 4, [⟨4, 0, .rw, 0xc⟩]⟩,
  ⟨0x10C, 1, 4, [⟨31, 0, .ro, 0⟩]⟩,
  ⟨0x110, 1, 4, [⟨31, 0, .rw, 0⟩]⟩,
  ⟨0x114, 1, 4, [⟨31, 0, .rc, 0⟩]⟩,
  ⟨0x118, 1, 4, [⟨14, 0, .ro, 0⟩]⟩,
  ⟨0x600, 1, 4, [⟨1, 1, .rw, 0⟩, ⟨0, 0, .wo, 0⟩]⟩,
  ⟨0x604, 1, 4, [⟨31, 0, .rc, 0⟩]⟩,
  ⟨0x608, 1, 4, [⟨31, 0, .rc, 0⟩]⟩,
  ⟨0x60C, 1, 4, [⟨31, 0, .rc, 0⟩]⟩,
  ⟨0x610, 1, 4, [⟨31, 0, .rc, 0⟩]⟩]

/-- Registers of the CORE block (R284, R554). -/
def regsCore2 : List Reg := [
  ⟨0x614, 1, 4, [⟨0, 0, .rw, 0⟩]⟩]

/-- All registers of the CORE block but the engine counters. -/
def regsCore : List Reg := regsCore1 ++ regsCore2

/-- Registers of the HBM block (R330). -/
def regsHbm : List Reg := [
  ⟨0x000, 1, 4, [⟨1, 1, .rw, 1⟩, ⟨0, 0, .rw, 1⟩]⟩,
  ⟨0x004, 1, 4, [⟨23, 16, .ro, 0⟩, ⟨15, 8, .ro, 0⟩, ⟨7, 0, .ro, 0⟩]⟩,
  ⟨0x008, 1, 4, [⟨15, 8, .rw, 0x18⟩, ⟨7, 0, .rw, 0xa⟩]⟩,
  ⟨0x00C, 1, 4, [⟨23, 16, .ro, 0⟩, ⟨15, 0, .ro, 0⟩]⟩,
  ⟨0x010, 1, 4, [⟨31, 0, .ro, 0x57f00000⟩]⟩,
  ⟨0x014, 1, 4, [⟨31, 0, .ro, 0x57e00000⟩]⟩,
  ⟨0x018, 1, 4, [⟨31, 0, .rc, 0⟩]⟩,
  ⟨0x01C, 1, 4, [⟨31, 0, .rc, 0⟩]⟩,
  ⟨0x020, 8, 4, [⟨11, 11, .ro, 0⟩, ⟨10, 9, .ro, 0⟩, ⟨8, 0, .ro, 0⟩]⟩,
  ⟨0x040, 8, 4, [⟨31, 0, .rc, 0⟩]⟩,
  ⟨0x060, 8, 4, [⟨31, 0, .rc, 0⟩]⟩,
  ⟨0x080, 8, 4, [⟨31, 0, .rc, 0⟩]⟩,
  ⟨0x0A0, 4, 4, [⟨31, 0, .rc, 0⟩]⟩,
  ⟨0x0B0, 4, 4, [⟨31, 0, .rc, 0⟩]⟩,
  ⟨0x0C0, 1, 4, [⟨31, 0, .ro, 0⟩]⟩,
  ⟨0x0C4, 1, 4, [⟨31, 31, .w1c, 0⟩, ⟨15, 14, .ro, 0⟩, ⟨13, 11, .ro, 0⟩, ⟨7, 0, .ro, 0⟩]⟩]

/-- Registers of the MANGLE block (R376). -/
def regsMangle : List Reg := [
  ⟨0x000, 1, 4, [⟨1, 1, .rw, 1⟩, ⟨0, 0, .rw, 0⟩]⟩,
  ⟨0x004, 1, 4, [⟨28, 16, .ro, 0⟩, ⟨9, 0, .ro, 0⟩]⟩,
  ⟨0x008, 1, 4, [⟨31, 0, .ro, 0⟩]⟩,
  ⟨0x00C, 1, 4, [⟨15, 0, .rc, 0⟩]⟩,
  ⟨0x010, 1, 4, [⟨11, 0, .rw, 0⟩]⟩,
  ⟨0x014, 1, 4, [⟨12, 0, .ro, 0⟩]⟩,
  ⟨0x018, 1, 4, [⟨3, 0, .rw, 0⟩]⟩,
  ⟨0x01C, 1, 4, [⟨31, 30, .ro, 0⟩, ⟨29, 16, .ro, 0⟩, ⟨15, 0, .ro, 0⟩]⟩,
  ⟨0x020, 1, 4, [⟨31, 0, .ro, 0⟩]⟩,
  ⟨0x040, 1, 4, [⟨31, 0, .rc, 0⟩]⟩,
  ⟨0x044, 1, 4, [⟨31, 0, .rc, 0⟩]⟩,
  ⟨0x048, 1, 4, [⟨31, 0, .rc, 0⟩]⟩,
  ⟨0x04C, 1, 4, [⟨31, 0, .rc, 0⟩]⟩,
  ⟨0x050, 1, 4, [⟨31, 0, .rc, 0⟩]⟩,
  ⟨0x054, 1, 4, [⟨31, 0, .rc, 0⟩]⟩,
  ⟨0x058, 1, 4, [⟨31, 0, .rc, 0⟩]⟩,
  ⟨0x05C, 1, 4, [⟨31, 0, .rc, 0⟩]⟩,
  ⟨0x060, 1, 4, [⟨31, 0, .rc, 0⟩]⟩,
  ⟨0x064, 1, 4, [⟨31, 0, .rc, 0⟩]⟩,
  ⟨0x068, 1, 4, [⟨31, 0, .rc, 0⟩]⟩,
  ⟨0x100, 16, 8, [⟨31, 31, .rw, 0⟩, ⟨28, 24, .rw, 6⟩, ⟨23, 23, .rw, 1⟩, ⟨22, 22, .rw, 1⟩, ⟨21, 20, .rw, 0⟩, ⟨19, 16, .rw, 0⟩, ⟨15, 12, .rw, 0⟩, ⟨11, 8, .rw, 0⟩, ⟨7, 0, .rw, 0x10⟩]⟩,
  ⟨0x104, 16, 8, [⟨23, 0, .rw, 0x1f4⟩]⟩,
  ⟨0x200, 16, 4, [⟨31, 0, .rw, 0⟩]⟩]

/-- Registers of the GROUP block (R421). -/
def regsGroup : List Reg := [
  ⟨0x000, 1, 4, [⟨0, 0, .wo, 0⟩]⟩,
  ⟨0x004, 1, 4, [⟨5, 5, .ro, 0⟩, ⟨4, 4, .ro, 0⟩, ⟨3, 3, .ro, 0⟩, ⟨2, 2, .ro, 0⟩, ⟨1, 1, .ro, 0⟩, ⟨0, 0, .ro, 0⟩]⟩,
  ⟨0x008, 1, 4, [⟨31, 0, .ro, 0⟩]⟩,
  ⟨0x00C, 1, 4, [⟨13, 0, .ro, 0⟩]⟩,
  ⟨0x010, 1, 4, [⟨30, 16, .ro, 0⟩, ⟨14, 0, .ro, 0⟩]⟩,
  ⟨0x014, 1, 4, [⟨13, 0, .ro, 0⟩]⟩,
  ⟨0x018, 1, 4, [⟨31, 0, .ro, 0⟩]⟩,
  ⟨0x01C, 1, 4, [⟨31, 0, .rw, 0⟩]⟩,
  ⟨0x020, 1, 4, [⟨14, 0, .ro, 0⟩]⟩,
  ⟨0x024, 1, 4, [⟨14, 0, .ro, 0⟩]⟩,
  ⟨0x028, 1, 4, [⟨13, 0, .rw, 0⟩]⟩,
  ⟨0x02C, 1, 4, [⟨31, 0, .ro, 0⟩]⟩,
  ⟨0x030, 1, 4, [⟨31, 0, .ro, 0⟩]⟩,
  ⟨0x034, 1, 4, [⟨31, 28, .rw, 0⟩, ⟨19, 0, .rw, 0⟩]⟩,
  ⟨0x038, 1, 4, [⟨31, 0, .ro, 0⟩]⟩,
  ⟨0x040, 1, 4, [⟨31, 0, .rc, 0⟩]⟩,
  ⟨0x044, 1, 4, [⟨31, 0, .rc, 0⟩]⟩,
  ⟨0x048, 1, 4, [⟨31, 0, .rc, 0⟩]⟩,
  ⟨0x04C, 1, 4, [⟨31, 0, .rc, 0⟩]⟩,
  ⟨0x050, 1, 4, [⟨31, 0, .rc, 0⟩]⟩,
  ⟨0x054, 1, 4, [⟨31, 0, .rc, 0⟩]⟩]

/-- Registers of the MEND block (R422). -/
def regsMend : List Reg := [
  ⟨0x000, 1, 4, [⟨1, 1, .rw, 1⟩, ⟨0, 0, .rw, 1⟩]⟩,
  ⟨0x004, 1, 4, [⟨4, 0, .rw, 6⟩]⟩,
  ⟨0x008, 1, 4, [⟨15, 0, .rw, 0x28⟩]⟩,
  ⟨0x00C, 1, 4, [⟨31, 0, .ro, 0⟩]⟩,
  ⟨0x010, 1, 4, [⟨31, 0, .ro, 0⟩]⟩,
  ⟨0x014, 1, 4, [⟨31, 0, .ro, 0⟩]⟩,
  ⟨0x018, 1, 4, [⟨31, 31, .ro, 0⟩, ⟨30, 30, .ro, 0⟩, ⟨13, 0, .ro, 0⟩]⟩,
  ⟨0x01C, 1, 4, [⟨31, 0, .ro, 0⟩]⟩,
  ⟨0x020, 1, 4, [⟨31, 31, .ro, 0⟩, ⟨13, 0, .ro, 0⟩]⟩,
  ⟨0x024, 1, 4, [⟨31, 30, .ro, 0⟩, ⟨27, 14, .ro, 0⟩, ⟨13, 0, .ro, 0⟩]⟩,
  ⟨0x028, 1, 4, [⟨31, 30, .ro, 0⟩, ⟨27, 14, .ro, 0⟩, ⟨13, 0, .ro, 0⟩]⟩,
  ⟨0x02C, 1, 4, [⟨31, 0, .ro, 0⟩]⟩,
  ⟨0x030, 1, 4, [⟨31, 0, .ro, 0⟩]⟩,
  ⟨0x034, 1, 4, [⟨31, 31, .ro, 0⟩, ⟨17, 17, .ro, 0⟩, ⟨16, 16, .ro, 0⟩, ⟨13, 0, .ro, 0⟩]⟩,
  ⟨0x038, 1, 4, [⟨31, 0, .ro, 0⟩]⟩,
  ⟨0x03C, 1, 4, [⟨31, 0, .ro, 0⟩]⟩,
  ⟨0x040, 1, 4, [⟨31, 0, .ro, 0⟩]⟩,
  ⟨0x050, 1, 4, [⟨31, 0, .rc, 0⟩]⟩,
  ⟨0x054, 1, 4, [⟨31, 0, .rc, 0⟩]⟩,
  ⟨0x058, 1, 4, [⟨31, 0, .rc, 0⟩]⟩,
  ⟨0x05C, 1, 4, [⟨31, 0, .rc, 0⟩]⟩,
  ⟨0x060, 1, 4, [⟨31, 0, .rc, 0⟩]⟩,
  ⟨0x064, 1, 4, [⟨31, 0, .rc, 0⟩]⟩]

/-- Registers of the SEAM block (R458). -/
def regsSeam : List Reg := [
  ⟨0x000, 1, 4, [⟨2, 2, .rw, 0⟩, ⟨1, 1, .wo, 0⟩, ⟨0, 0, .rw, 0⟩]⟩,
  ⟨0x004, 1, 4, [⟨17, 17, .ro, 0⟩, ⟨16, 16, .ro, 0⟩, ⟨15, 11, .ro, 0⟩, ⟨10, 6, .ro, 0⟩, ⟨5, 2, .ro, 0⟩, ⟨1, 0, .ro, 0⟩]⟩,
  ⟨0x008, 1, 4, [⟨31, 31, .ro, 0⟩, ⟨30, 30, .ro, 0⟩, ⟨21, 16, .ro, 0⟩, ⟨13, 0, .ro, 0⟩]⟩,
  ⟨0x00C, 1, 4, [⟨31, 0, .ro, 0⟩]⟩,
  ⟨0x010, 1, 4, [⟨26, 16, .rw, 0x280⟩, ⟨10, 0, .rw, 0x80⟩]⟩,
  ⟨0x014, 1, 4, [⟨26, 16, .rw, 0x100⟩, ⟨10, 0, .rw, 0x200⟩]⟩,
  ⟨0x018, 1, 4, [⟨23, 16, .rw, 2⟩, ⟨15, 8, .rw, 6⟩, ⟨7, 0, .rw, 8⟩]⟩,
  ⟨0x01C, 1, 4, [⟨19, 0, .rw, 0x10000⟩]⟩,
  ⟨0x020, 1, 4, [⟨26, 16, .ro, 0⟩, ⟨10, 0, .ro, 0⟩]⟩,
  ⟨0x024, 1, 4, [⟨26, 16, .ro, 0⟩, ⟨10, 0, .ro, 0⟩]⟩,
  ⟨0x040, 1, 4, [⟨31, 0, .rc, 0⟩]⟩,
  ⟨0x044, 1, 4, [⟨31, 0, .rc, 0⟩]⟩,
  ⟨0x048, 1, 4, [⟨31, 0, .rc, 0⟩]⟩,
  ⟨0x04C, 1, 4, [⟨31, 0, .rc, 0⟩]⟩,
  ⟨0x050, 1, 4, [⟨31, 0, .rc, 0⟩]⟩,
  ⟨0x054, 1, 4, [⟨31, 0, .rc, 0⟩]⟩,
  ⟨0x058, 1, 4, [⟨31, 0, .rc, 0⟩]⟩,
  ⟨0x05C, 1, 4, [⟨31, 0, .rc, 0⟩]⟩,
  ⟨0x060, 1, 4, [⟨31, 0, .rc, 0⟩]⟩,
  ⟨0x064, 1, 4, [⟨31, 0, .rc, 0⟩]⟩,
  ⟨0x100, 5, 4, [⟨22, 22, .ro, 0⟩, ⟨21, 21, .ro, 0⟩, ⟨20, 20, .ro, 0⟩, ⟨19, 0, .ro, 0⟩]⟩]

/-- Registers of the SEAM (optical engines) block (R458). -/
def regsSeamOe : List Reg := [
  ⟨0x300, 1, 4, [⟨2, 0, .ro, 0⟩]⟩,
  ⟨0x304, 1, 4, [⟨8, 0, .ro, 0⟩]⟩,
  ⟨0x308, 1, 4, [⟨14, 14, .ro, 0⟩, ⟨13, 13, .ro, 0⟩, ⟨12, 0, .ro, 0x1000⟩]⟩,
  ⟨0x30C, 1, 4, [⟨14, 14, .ro, 0⟩, ⟨13, 13, .ro, 0⟩, ⟨12, 0, .ro, 0x1000⟩]⟩]

/-- Registers of the ETH block (R501). -/
def regsEth : List Reg := [
  ⟨0x000, 1, 4, [⟨3, 3, .rw, 0⟩, ⟨2, 2, .rw, 1⟩, ⟨1, 1, .rw, 1⟩, ⟨0, 0, .rw, 1⟩]⟩,
  ⟨0x004, 1, 4, [⟨3, 2, .rw, 0⟩, ⟨1, 0, .rw, 0⟩]⟩,
  ⟨0x008, 1, 4, [⟨15, 0, .rw, 0xc8d4⟩]⟩,
  ⟨0x00C, 1, 4, [⟨15, 0, .rw, 0xc8d6⟩]⟩,
  ⟨0x010, 1, 4, [⟨15, 8, .ro, 0⟩, ⟨3, 0, .ro, 0⟩]⟩,
  ⟨0x014, 1, 4, [⟨9, 1, .rw, 0⟩]⟩,
  ⟨0x018, 1, 4, [⟨5, 0, .ro, 0⟩]⟩,
  ⟨0x01C, 1, 4, [⟨24, 16, .ro, 0⟩, ⟨6, 0, .ro, 0⟩]⟩,
  ⟨0x040, 1, 4, [⟨31, 0, .rc, 0⟩]⟩,
  ⟨0x044, 1, 4, [⟨31, 0, .rc, 0⟩]⟩,
  ⟨0x048, 1, 4, [⟨31, 0, .rc, 0⟩]⟩,
  ⟨0x04C, 1, 4, [⟨31, 0, .rc, 0⟩]⟩,
  ⟨0x050, 1, 4, [⟨31, 0, .rc, 0⟩]⟩,
  ⟨0x054, 1, 4, [⟨31, 0, .rc, 0⟩]⟩,
  ⟨0x058, 1, 4, [⟨31, 0, .rc, 0⟩]⟩]

/-- Registers of the ETH (each logical port) block (R501). -/
def regsEthPort : List Reg := [
  ⟨0x000, 1, 4, [⟨5, 5, .ro, 0⟩, ⟨4, 4, .ro, 0⟩, ⟨3, 2, .ro, 0⟩, ⟨1, 1, .ro, 0⟩, ⟨0, 0, .ro, 0⟩]⟩,
  ⟨0x004, 1, 4, [⟨31, 0, .ro, 0⟩]⟩,
  ⟨0x008, 1, 4, [⟨15, 0, .ro, 0⟩]⟩,
  ⟨0x00C, 1, 4, [⟨14, 12, .rw, 0⟩, ⟨11, 0, .rw, 0⟩]⟩,
  ⟨0x010, 1, 4, [⟨31, 0, .rw, 0x10234567⟩]⟩,
  ⟨0x014, 1, 4, [⟨7, 2, .rw, 0x3f⟩, ⟨1, 1, .rw, 0⟩]⟩,
  ⟨0x018, 1, 4, [⟨13, 0, .rw, 0x2328⟩]⟩,
  ⟨0x01C, 1, 4, [⟨31, 0, .rw, 0⟩]⟩,
  ⟨0x020, 1, 4, [⟨5, 0, .rw, 0⟩]⟩,
  ⟨0x024, 1, 4, [⟨31, 0, .rw, 0⟩]⟩,
  ⟨0x028, 4, 4, [⟨31, 0, .ro, 0⟩]⟩,
  ⟨0x038, 4, 4, [⟨31, 0, .rw, 0⟩]⟩,
  ⟨0x048, 1, 4, [⟨7, 0, .rw, 0⟩]⟩,
  ⟨0x050, 1, 4, [⟨31, 0, .rc, 0⟩]⟩,
  ⟨0x054, 1, 4, [⟨31, 0, .rc, 0⟩]⟩,
  ⟨0x058, 1, 4, [⟨31, 0, .rc, 0⟩]⟩,
  ⟨0x05C, 1, 4, [⟨31, 0, .rc, 0⟩]⟩,
  ⟨0x060, 1, 4, [⟨31, 0, .rc, 0⟩]⟩,
  ⟨0x064, 1, 4, [⟨31, 0, .rc, 0⟩]⟩]

/-- Registers of the SCORE block (R524). -/
def regsScore : List Reg := [
  ⟨0x000, 1, 4, [⟨1, 1, .rw, 1⟩, ⟨0, 0, .rw, 1⟩]⟩,
  ⟨0x004, 1, 4, [⟨15, 8, .ro, 0⟩, ⟨7, 7, .ro, 0⟩, ⟨6, 6, .ro, 0⟩, ⟨5, 5, .ro, 0⟩, ⟨4, 4, .ro, 0⟩, ⟨3, 0, .ro, 0⟩]⟩,
  ⟨0x008, 1, 4, [⟨31, 0, .ro, 0⟩]⟩,
  ⟨0x00C, 1, 4, [⟨31, 0, .ro, 0⟩]⟩,
  ⟨0x010, 1, 4, [⟨27, 24, .ro, 0⟩, ⟨21, 16, .ro, 0⟩, ⟨12, 0, .ro, 0⟩]⟩,
  ⟨0x014, 1, 4, [⟨9, 0, .ro, 0⟩]⟩,
  ⟨0x018, 1, 4, [⟨31, 0, .ro, 0⟩]⟩,
  ⟨0x01C, 1, 4, [⟨31, 0, .ro, 0⟩]⟩,
  ⟨0x020, 1, 4, [⟨31, 0, .ro, 0⟩]⟩,
  ⟨0x024, 1, 4, [⟨31, 0, .rc, 0⟩]⟩,
  ⟨0x028, 1, 4, [⟨23, 0, .ro, 0⟩]⟩,
  ⟨0x040, 1, 4, [⟨31, 0, .rc, 0⟩]⟩,
  ⟨0x044, 1, 4, [⟨31, 0, .rc, 0⟩]⟩,
  ⟨0x048, 1, 4, [⟨31, 0, .rc, 0⟩]⟩,
  ⟨0x04C, 1, 4, [⟨31, 0, .rc, 0⟩]⟩,
  ⟨0x050, 1, 4, [⟨31, 0, .rc, 0⟩]⟩,
  ⟨0x054, 1, 4, [⟨31, 0, .rc, 0⟩]⟩,
  ⟨0x058, 1, 4, [⟨31, 0, .rc, 0⟩]⟩,
  ⟨0x05C, 1, 4, [⟨31, 0, .rc, 0⟩]⟩,
  ⟨0x060, 1, 4, [⟨31, 0, .rc, 0⟩]⟩,
  ⟨0x064, 1, 4, [⟨31, 0, .rc, 0⟩]⟩,
  ⟨0x068, 1, 4, [⟨31, 0, .rc, 0⟩]⟩,
  ⟨0x100, 8, 8, [⟨31, 0, .ro, 0⟩]⟩,
  ⟨0x104, 8, 8, [⟨31, 0, .ro, 0⟩]⟩]

/-- Registers of the ERRLOG block (R553). -/
def regsErrlog : List Reg := [
  ⟨0x000, 1, 4, [⟨2, 2, .rw, 1⟩, ⟨1, 1, .rw, 1⟩]⟩,
  ⟨0x004, 1, 4, [⟨8, 8, .ro, 0⟩, ⟨3, 3, .ro, 0⟩, ⟨2, 0, .ro, 0⟩]⟩,
  ⟨0x008, 1, 4, [⟨24, 20, .ro, 0⟩, ⟨19, 15, .ro, 0⟩, ⟨14, 10, .ro, 0⟩, ⟨9, 5, .ro, 0⟩, ⟨4, 0, .ro, 0⟩]⟩,
  ⟨0x00C, 1, 4, [⟨31, 0, .ro, 0⟩]⟩,
  ⟨0x010, 1, 4, [⟨7, 0, .rw, 0⟩]⟩,
  ⟨0x014, 1, 4, [⟨15, 0, .rw, 0x1388⟩]⟩,
  ⟨0x018, 1, 4, [⟨31, 0, .rw, 0⟩]⟩,
  ⟨0x01C, 1, 4, [⟨31, 31, .w1c, 0⟩, ⟨30, 30, .w1c, 0⟩, ⟨15, 0, .rc, 0⟩]⟩,
  ⟨0x020, 1, 4, [⟨0, 0, .wo, 0⟩]⟩,
  ⟨0x040, 12, 4, [⟨31, 0, .ro, 0⟩]⟩,
  ⟨0x080, 12, 4, [⟨31, 0, .ro, 0⟩]⟩,
  ⟨0x0C0, 1, 4, [⟨31, 0, .rc, 0⟩]⟩,
  ⟨0x0C4, 1, 4, [⟨31, 0, .rc, 0⟩]⟩,
  ⟨0x0C8, 1, 4, [⟨31, 0, .rc, 0⟩]⟩,
  ⟨0x0CC, 1, 4, [⟨31, 0, .rc, 0⟩]⟩,
  ⟨0x0D0, 1, 4, [⟨31, 0, .rc, 0⟩]⟩,
  ⟨0x0D4, 1, 4, [⟨31, 0, .rc, 0⟩]⟩,
  ⟨0x0D8, 1, 4, [⟨31, 0, .rc, 0⟩]⟩,
  ⟨0x0E0, 9, 4, [⟨31, 0, .rc, 0⟩]⟩]

/-- Registers of the POWER block (R584). -/
def regsPower : List Reg := [
  ⟨0x000, 1, 4, [⟨1, 1, .rw, 1⟩, ⟨0, 0, .rw, 1⟩]⟩,
  ⟨0x004, 1, 4, [⟨15, 0, .rw, 0x4b0⟩]⟩,
  ⟨0x008, 1, 4, [⟨31, 16, .ro, 0⟩, ⟨15, 0, .ro, 0⟩]⟩,
  ⟨0x00C, 1, 4, [⟨10, 8, .rc, 0⟩, ⟨2, 0, .ro, 0⟩]⟩,
  ⟨0x010, 1, 4, [⟨31, 16, .rc, 0xffff⟩, ⟨15, 0, .ro, 0⟩]⟩,
  ⟨0x014, 1, 4, [⟨31, 16, .rc, 0⟩, ⟨15, 0, .ro, 0⟩]⟩,
  ⟨0x018, 1, 4, [⟨24, 16, .ro, 0⟩, ⟨8, 0, .ro, 0⟩]⟩,
  ⟨0x01C, 1, 4, [⟨6, 0, .rw, 0x40⟩]⟩,
  ⟨0x020, 1, 4, [⟨5, 0, .rw, 0⟩]⟩,
  ⟨0x024, 1, 4, [⟨31, 16, .ro, 0⟩, ⟨6, 6, .ro, 0⟩, ⟨5, 5, .ro, 0⟩, ⟨3, 2, .ro, 0⟩, ⟨1, 0, .ro, 0⟩]⟩,
  ⟨0x030, 4, 4, [⟨31, 0, .ro, 0⟩]⟩,
  ⟨0x040, 8, 4, [⟨31, 0, .ro, 0x10101010⟩]⟩,
  ⟨0x060, 3, 4, [⟨31, 16, .ro, 0xffff⟩, ⟨15, 0, .ro, 0xffff⟩]⟩,
  ⟨0x080, 1, 4, [⟨31, 0, .rc, 0⟩]⟩,
  ⟨0x084, 1, 4, [⟨31, 0, .rc, 0⟩]⟩,
  ⟨0x088, 1, 4, [⟨31, 0, .rc, 0⟩]⟩,
  ⟨0x08C, 1, 4, [⟨31, 0, .rc, 0⟩]⟩,
  ⟨0x090, 1, 4, [⟨31, 0, .rc, 0⟩]⟩]

/-- Registers of the SEC block (R609). -/
def regsSec : List Reg := [
  ⟨0x000, 1, 4, [⟨7, 7, .ro, 0⟩, ⟨6, 6, .ro, 0⟩, ⟨5, 5, .ro, 0⟩, ⟨4, 2, .ro, 0⟩, ⟨1, 1, .ro, 0⟩, ⟨0, 0, .ro, 0⟩]⟩,
  ⟨0x004, 1, 4, [⟨31, 0, .ro, 0⟩]⟩,
  ⟨0x008, 1, 4, [⟨31, 0, .ro, 0⟩]⟩,
  ⟨0x00C, 1, 4, [⟨21, 16, .ro, 0⟩, ⟨13, 8, .ro, 0⟩, ⟨5, 0, .ro, 0⟩]⟩,
  ⟨0x010, 1, 4, [⟨31, 0, .ro, 0⟩]⟩,
  ⟨0x014, 1, 4, [⟨31, 0, .ro, 0⟩]⟩,
  ⟨0x018, 1, 4, [⟨3, 0, .ro, 0⟩]⟩,
  ⟨0x01C, 1, 4, [⟨31, 0, .ro, 0⟩]⟩,
  ⟨0x020, 8, 4, [⟨31, 0, .ro, 0⟩]⟩,
  ⟨0x040, 8, 4, [⟨31, 0, .ro, 0⟩]⟩,
  ⟨0x060, 4, 4, [⟨17, 16, .ro, 0⟩, ⟨15, 0, .ro, 0⟩]⟩,
  ⟨0x070, 1, 4, [⟨31, 0, .rw, 0⟩]⟩,
  ⟨0x074, 1, 4, [⟨31, 0, .ro, 0⟩]⟩,
  ⟨0x080, 1, 4, [⟨31, 0, .rc, 0⟩]⟩,
  ⟨0x084, 1, 4, [⟨31, 0, .rc, 0⟩]⟩]

end Sys2Proof.Machine

namespace Sys2Proof.Machine.O

/-- `GLOBAL.ID`. -/
def globalId : Nat := 0x000000
/-- `GLOBAL.ARCH`. -/
def globalArch : Nat := 0x000004
/-- `GLOBAL.STATE`. -/
def globalState : Nat := 0x000008
/-- `GLOBAL.WEAVE_SEQ`. -/
def globalWeaveSeq : Nat := 0x00000C
/-- `GLOBAL.PART_MAP`. -/
def globalPartMap : Nat := 0x000010
/-- `GLOBAL.CLUSTER_USED`. -/
def globalClusterUsed : Nat := 0x000014
/-- `GLOBAL.RESET_CAUSE`. -/
def globalResetCause : Nat := 0x000018
/-- `GLOBAL.FAIL`. -/
def globalFail : Nat := 0x00001C
/-- `GLOBAL.CYCLE_LO`. -/
def globalCycleLo : Nat := 0x000020
/-- `GLOBAL.CYCLE_HI`. -/
def globalCycleHi : Nat := 0x000024
/-- `GLOBAL.CSR_MISS`. -/
def globalCsrMiss : Nat := 0x000028
/-- `GLOBAL.BOARD_TAG`. -/
def globalBoardTag : Nat := 0x000030
/-- `GLOBAL.HOST_SCRATCH`. -/
def globalHostScratch : Nat := 0x000034
/-- `GLOBAL.LOCK`. -/
def globalLock : Nat := 0x000038
/-- `GLOBAL.IMPL_ENGINES`. -/
def globalImplEngines : Nat := 0x000040
/-- `GLOBAL.IMPL_HIER`. -/
def globalImplHier : Nat := 0x000044
/-- `GLOBAL.IMPL_ARRAY`. -/
def globalImplArray : Nat := 0x000048
/-- `GLOBAL.IMPL_CLOCK`. -/
def globalImplClock : Nat := 0x00004C
/-- `GLOBAL.IMPL_CORE`. -/
def globalImplCore : Nat := 0x000050
/-- `GLOBAL.IMPL_CLUSTER`. -/
def globalImplCluster : Nat := 0x000054
/-- `GLOBAL.IMPL_HBM`. -/
def globalImplHbm : Nat := 0x000058
/-- `GLOBAL.IMPL_SEAM`. -/
def globalImplSeam : Nat := 0x00005C
/-- `GLOBAL.IMPL_ETH`. -/
def globalImplEth : Nat := 0x000060
/-- `GLOBAL.IMPL_TABLES`. -/
def globalImplTables : Nat := 0x000064
/-- `GLOBAL.IMPL_LIMITS`. -/
def globalImplLimits : Nat := 0x000068
/-- `GLOBAL.IMPL_MISC`. -/
def globalImplMisc : Nat := 0x00006C
/-- `PRU.CTRL`. -/
def pruCtrl : Nat := 0x040000
/-- `PRU.BUDGET`. -/
def pruBudget : Nat := 0x040004
/-- `PRU.SPEND`. -/
def pruSpend : Nat := 0x040008
/-- `PRU.ALARM_STEPS`. -/
def pruAlarmSteps : Nat := 0x04000C
/-- `PRU.SPOT_RATE`. -/
def pruSpotRate : Nat := 0x040010
/-- `PRU.ENTRY_COUNT`. -/
def pruEntryCount : Nat := 0x040014
/-- `PRU.EVAL_STEP`. -/
def pruEvalStep : Nat := 0x040018
/-- `PRU.STATUS`. -/
def pruStatus : Nat := 0x04001C
/-- `PRU.LAST_A`. -/
def pruLastA : Nat := 0x040020
/-- `PRU.LAST_B`. -/
def pruLastB : Nat := 0x040024
/-- `PRU.DIGEST`. -/
def pruDigest : Nat := 0x040028
/-- `PRU.APPLY_STEP`. -/
def pruApplyStep : Nat := 0x04002C
/-- `PRU.PENDING`. -/
def pruPending : Nat := 0x040030
/-- `PRU.SEL`. -/
def pruSel : Nat := 0x040034
/-- `PRU.REC_BASE`. -/
def pruRecBase : Nat := 0x040038
/-- `PRU.CNT_WIDEN`. -/
def pruCntWiden : Nat := 0x040040
/-- `PRU.CNT_NARROW`. -/
def pruCntNarrow : Nat := 0x040044
/-- `PRU.CNT_DEFER`. -/
def pruCntDefer : Nat := 0x040048
/-- `PRU.CNT_TOP`. -/
def pruCntTop : Nat := 0x04004C
/-- `PRU.CNT_ALARM`. -/
def pruCntAlarm : Nat := 0x040050
/-- `PRU.CNT_REPLAY`. -/
def pruCntReplay : Nat := 0x040054
/-- `PRU.CNT_EXHAUST`. -/
def pruCntExhaust : Nat := 0x040058
/-- `PRU.ENTRY_W`n. -/
def pruEntryW (i : Nat) : Nat := 0x040100 + i * 4
/-- `PRU.ENTRY_STATE`. -/
def pruEntryState : Nat := 0x040140
/-- `CORE.THREAD_CTRL`. -/
def coreThreadCtrl (core : Nat) : Nat := 0x100000 + core * 0x1000
/-- `CORE.THREAD_STATE`. -/
def coreThreadState (core : Nat) : Nat := 0x100004 + core * 0x1000
/-- `CORE.STN_RESET`. -/
def coreStnReset (core : Nat) : Nat := 0x100008 + core * 0x1000
/-- `CORE.PC`n. -/
def corePc (core i : Nat) : Nat := 0x100010 + core * 0x1000 + i * 4
/-- `CORE.ENTRY`n. -/
def coreEntry (core i : Nat) : Nat := 0x100030 + core * 0x1000 + i * 4
/-- `CORE.EXC_CAUSE`. -/
def coreExcCause (core : Nat) : Nat := 0x100050 + core * 0x1000
/-- `CORE.EXC_PC`. -/
def coreExcPc (core : Nat) : Nat := 0x100054 + core * 0x1000
/-- `CORE.EXC_INFO_LO`. -/
def coreExcInfoLo (core : Nat) : Nat := 0x100058 + core * 0x1000
/-- `CORE.EXC_INFO_HI`. -/
def coreExcInfoHi (core : Nat) : Nat := 0x10005C + core * 0x1000
/-- `CORE.EXC_COUNT`. -/
def coreExcCount (core : Nat) : Nat := 0x100060 + core * 0x1000
/-- `CORE.PWR_REQ`. -/
def corePwrReq (core : Nat) : Nat := 0x100064 + core * 0x1000
/-- `CORE.TIMER`. -/
def coreTimer (core : Nat) : Nat := 0x100068 + core * 0x1000
/-- `CORE.BP_MISS`. -/
def coreBpMiss (core : Nat) : Nat := 0x10006C + core * 0x1000
/-- `CORE.SWITCHES`. -/
def coreSwitches (core : Nat) : Nat := 0x100070 + core * 0x1000
/-- `CORE.SYNC`n. -/
def coreSync (core i : Nat) : Nat := 0x100080 + core * 0x1000 + i * 4
/-- `CORE.STREAM_SEL`. -/
def coreStreamSel (core : Nat) : Nat := 0x1000C0 + core * 0x1000
/-- `CORE.STREAM_CNT`. -/
def coreStreamCnt (core : Nat) : Nat := 0x1000C4 + core * 0x1000
/-- `CORE.KEY_RANK`n. -/
def coreKeyRank (core i : Nat) : Nat := 0x1000D0 + core * 0x1000 + i * 4
/-- `CORE.TRACE_CTRL`. -/
def coreTraceCtrl (core : Nat) : Nat := 0x100100 + core * 0x1000
/-- `CORE.TRACE_BASE`. -/
def coreTraceBase (core : Nat) : Nat := 0x100104 + core * 0x1000
/-- `CORE.TRACE_SIZE`. -/
def coreTraceSize (core : Nat) : Nat := 0x100108 + core * 0x1000
/-- `CORE.TRACE_WR`. -/
def coreTraceWr (core : Nat) : Nat := 0x10010C + core * 0x1000
/-- `CORE.TRACE_RD`. -/
def coreTraceRd (core : Nat) : Nat := 0x100110 + core * 0x1000
/-- `CORE.TRACE_DROP`. -/
def coreTraceDrop (core : Nat) : Nat := 0x100114 + core * 0x1000
/-- `CORE.TRACE_FILL`. -/
def coreTraceFill (core : Nat) : Nat := 0x100118 + core * 0x1000
/-- `CORE.PERF_CTRL`. -/
def corePerfCtrl (core : Nat) : Nat := 0x100600 + core * 0x1000
/-- `CORE.NUM_NAN`. -/
def coreNumNan (core : Nat) : Nat := 0x100604 + core * 0x1000
/-- `CORE.NUM_INF`. -/
def coreNumInf (core : Nat) : Nat := 0x100608 + core * 0x1000
/-- `CORE.RUNAHEAD_SQUASH`. -/
def coreRunaheadSquash (core : Nat) : Nat := 0x10060C + core * 0x1000
/-- `CORE.PREFETCH_OVERWRITTEN`. -/
def corePrefetchOverwritten (core : Nat) : Nat := 0x100610 + core * 0x1000
/-- `CORE.LINT_CTRL`. -/
def coreLintCtrl (core : Nat) : Nat := 0x100614 + core * 0x1000
/-- `HBM.CTRL`. -/
def hbmCtrl : Nat := 0x0B0000
/-- `HBM.READY`. -/
def hbmReady : Nat := 0x0B0004
/-- `HBM.SCRUB`. -/
def hbmScrub : Nat := 0x0B0008
/-- `HBM.LEVELS`. -/
def hbmLevels : Nat := 0x0B000C
/-- `HBM.STAGE_BASE`. -/
def hbmStageBase : Nat := 0x0B0010
/-- `HBM.IMG_BASE`. -/
def hbmImgBase : Nat := 0x0B0014
/-- `HBM.CACHE_INV`. -/
def hbmCacheInv : Nat := 0x0B0018
/-- `HBM.GATHER_RANGE`. -/
def hbmGatherRange : Nat := 0x0B001C
/-- `HBM.TEMP`n. -/
def hbmTemp (i : Nat) : Nat := 0x0B0020 + i * 4
/-- `HBM.THR_US`n. -/
def hbmThrUs (i : Nat) : Nat := 0x0B0040 + i * 4
/-- `HBM.CE`n. -/
def hbmCe (i : Nat) : Nat := 0x0B0060 + i * 4
/-- `HBM.UE`n. -/
def hbmUe (i : Nat) : Nat := 0x0B0080 + i * 4
/-- `HBM.SRAM_CE`n. -/
def hbmSramCe (i : Nat) : Nat := 0x0B00A0 + i * 4
/-- `HBM.SRAM_UE`n. -/
def hbmSramUe (i : Nat) : Nat := 0x0B00B0 + i * 4
/-- `HBM.ERR_ADDR_LO`. -/
def hbmErrAddrLo : Nat := 0x0B00C0
/-- `HBM.ERR_ADDR_HI`. -/
def hbmErrAddrHi : Nat := 0x0B00C4
/-- `MANGLE.CTRL`. -/
def mangleCtrl : Nat := 0x050000
/-- `MANGLE.STATUS`. -/
def mangleStatus : Nat := 0x050004
/-- `MANGLE.STEP`. -/
def mangleStep : Nat := 0x050008
/-- `MANGLE.REFUSED`. -/
def mangleRefused : Nat := 0x05000C
/-- `MANGLE.TAG_SEL`. -/
def mangleTagSel : Nat := 0x050010
/-- `MANGLE.TAG_COUNT`. -/
def mangleTagCount : Nat := 0x050014
/-- `MANGLE.SKIP_SEL`. -/
def mangleSkipSel : Nat := 0x050018
/-- `MANGLE.SKIP_A`. -/
def mangleSkipA : Nat := 0x05001C
/-- `MANGLE.SKIP_B`. -/
def mangleSkipB : Nat := 0x050020
/-- `MANGLE.CNT_INST`. -/
def mangleCntInst : Nat := 0x050040
/-- `MANGLE.CNT_SKIP`. -/
def mangleCntSkip : Nat := 0x050044
/-- `MANGLE.CNT_FOLD`. -/
def mangleCntFold : Nat := 0x050048
/-- `MANGLE.CNT_LATE_DROP`. -/
def mangleCntLateDrop : Nat := 0x05004C
/-- `MANGLE.CNT_CHECKED`. -/
def mangleCntChecked : Nat := 0x050050
/-- `MANGLE.CNT_MISMATCH`. -/
def mangleCntMismatch : Nat := 0x050054
/-- `MANGLE.CNT_VOID`. -/
def mangleCntVoid : Nat := 0x050058
/-- `MANGLE.CNT_ABANDON`. -/
def mangleCntAbandon : Nat := 0x05005C
/-- `MANGLE.CNT_TIMEOUT`. -/
def mangleCntTimeout : Nat := 0x050060
/-- `MANGLE.CNT_SLOT_WAIT`. -/
def mangleCntSlotWait : Nat := 0x050064
/-- `MANGLE.CNT_EG_DIFF`. -/
def mangleCntEgDiff : Nat := 0x050068
/-- `MANGLE.GRP_CFG`n. -/
def mangleGrpCfg (i : Nat) : Nat := 0x050100 + i * 8
/-- `MANGLE.GRP_WAIT`n. -/
def mangleGrpWait (i : Nat) : Nat := 0x050104 + i * 8
/-- `MANGLE.TAG_W`n. -/
def mangleTagW (i : Nat) : Nat := 0x050200 + i * 4
/-- `GROUP.CTRL`. -/
def groupCtrl : Nat := 0x060000
/-- `GROUP.STATUS`. -/
def groupStatus : Nat := 0x060004
/-- `GROUP.EPOCH`. -/
def groupEpoch : Nat := 0x060008
/-- `GROUP.SELF`. -/
def groupSelf : Nat := 0x06000C
/-- `GROUP.SIZE`. -/
def groupSize : Nat := 0x060010
/-- `GROUP.KEEPER`. -/
def groupKeeper : Nat := 0x060014
/-- `GROUP.JOB`. -/
def groupJob : Nat := 0x060018
/-- `GROUP.SEED`. -/
def groupSeed : Nat := 0x06001C
/-- `GROUP.LIVE`. -/
def groupLive : Nat := 0x060020
/-- `GROUP.READY`. -/
def groupReady : Nat := 0x060024
/-- `GROUP.SEL`. -/
def groupSel : Nat := 0x060028
/-- `GROUP.MEMBER_LO`. -/
def groupMemberLo : Nat := 0x06002C
/-- `GROUP.MEMBER_HI`. -/
def groupMemberHi : Nat := 0x060030
/-- `GROUP.TSEL`. -/
def groupTsel : Nat := 0x060034
/-- `GROUP.TDATA`. -/
def groupTdata : Nat := 0x060038
/-- `GROUP.CNT_NOTICE`. -/
def groupCntNotice : Nat := 0x060040
/-- `GROUP.CNT_SUSPECT`. -/
def groupCntSuspect : Nat := 0x060044
/-- `GROUP.CNT_PROBE_FAIL`. -/
def groupCntProbeFail : Nat := 0x060048
/-- `GROUP.CNT_RESEND`. -/
def groupCntResend : Nat := 0x06004C
/-- `GROUP.CNT_CONFLICT`. -/
def groupCntConflict : Nat := 0x060050
/-- `GROUP.CNT_BAD_FRAME`. -/
def groupCntBadFrame : Nat := 0x060054
/-- `MEND.CTRL`. -/
def mendCtrl : Nat := 0x070000
/-- `MEND.CHECK`. -/
def mendCheck : Nat := 0x070004
/-- `MEND.FILL_RATE`. -/
def mendFillRate : Nat := 0x070008
/-- `MEND.SHARD_BASE`. -/
def mendShardBase : Nat := 0x07000C
/-- `MEND.COPY_BASE`. -/
def mendCopyBase : Nat := 0x070010
/-- `MEND.AREA_BYTES`. -/
def mendAreaBytes : Nat := 0x070014
/-- `MEND.HELD`. -/
def mendHeld : Nat := 0x070018
/-- `MEND.COPY_STEP`. -/
def mendCopyStep : Nat := 0x07001C
/-- `MEND.COVER`. -/
def mendCover : Nat := 0x070020
/-- `MEND.SRC0`. -/
def mendSrc0 : Nat := 0x070024
/-- `MEND.SRC1`. -/
def mendSrc1 : Nat := 0x070028
/-- `MEND.SRC0_BYTES`. -/
def mendSrc0Bytes : Nat := 0x07002C
/-- `MEND.SRC1_BYTES`. -/
def mendSrc1Bytes : Nat := 0x070030
/-- `MEND.RECV`. -/
def mendRecv : Nat := 0x070034
/-- `MEND.RECV_BYTES`. -/
def mendRecvBytes : Nat := 0x070038
/-- `MEND.DIGEST_LO`. -/
def mendDigestLo : Nat := 0x07003C
/-- `MEND.DIGEST_HI`. -/
def mendDigestHi : Nat := 0x070040
/-- `MEND.CNT_CHECK`. -/
def mendCntCheck : Nat := 0x070050
/-- `MEND.CNT_DIVERGED`. -/
def mendCntDiverged : Nat := 0x070054
/-- `MEND.CNT_CHECK_LOST`. -/
def mendCntCheckLost : Nat := 0x070058
/-- `MEND.CNT_FILL`. -/
def mendCntFill : Nat := 0x07005C
/-- `MEND.CNT_RESTART`. -/
def mendCntRestart : Nat := 0x070060
/-- `MEND.CNT_REBUILD`. -/
def mendCntRebuild : Nat := 0x070064
/-- `SEAM.CTRL`. -/
def seamCtrl (link : Nat) : Nat := 0x080000 + link * 0x400
/-- `SEAM.STATE`. -/
def seamState (link : Nat) : Nat := 0x080004 + link * 0x400
/-- `SEAM.PARTNER_A`. -/
def seamPartnerA (link : Nat) : Nat := 0x080008 + link * 0x400
/-- `SEAM.PARTNER_B`. -/
def seamPartnerB (link : Nat) : Nat := 0x08000C + link * 0x400
/-- `SEAM.VC_CRED_A`. -/
def seamVcCredA (link : Nat) : Nat := 0x080010 + link * 0x400
/-- `SEAM.VC_CRED_B`. -/
def seamVcCredB (link : Nat) : Nat := 0x080014 + link * 0x400
/-- `SEAM.ARB`. -/
def seamArb (link : Nat) : Nat := 0x080018 + link * 0x400
/-- `SEAM.LANE_THR`. -/
def seamLaneThr (link : Nat) : Nat := 0x08001C + link * 0x400
/-- `SEAM.HELD_A`. -/
def seamHeldA (link : Nat) : Nat := 0x080020 + link * 0x400
/-- `SEAM.HELD_B`. -/
def seamHeldB (link : Nat) : Nat := 0x080024 + link * 0x400
/-- `SEAM.CNT_TX`. -/
def seamCntTx (link : Nat) : Nat := 0x080040 + link * 0x400
/-- `SEAM.CNT_RX`. -/
def seamCntRx (link : Nat) : Nat := 0x080044 + link * 0x400
/-- `SEAM.CNT_CRC`. -/
def seamCntCrc (link : Nat) : Nat := 0x080048 + link * 0x400
/-- `SEAM.CNT_FEC_CORR`. -/
def seamCntFecCorr (link : Nat) : Nat := 0x08004C + link * 0x400
/-- `SEAM.CNT_FEC_UNCORR`. -/
def seamCntFecUncorr (link : Nat) : Nat := 0x080050 + link * 0x400
/-- `SEAM.CNT_RETRY`. -/
def seamCntRetry (link : Nat) : Nat := 0x080054 + link * 0x400
/-- `SEAM.CNT_DOWN`. -/
def seamCntDown (link : Nat) : Nat := 0x080058 + link * 0x400
/-- `SEAM.CNT_SPARE`. -/
def seamCntSpare (link : Nat) : Nat := 0x08005C + link * 0x400
/-- `SEAM.CNT_FWD`. -/
def seamCntFwd (link : Nat) : Nat := 0x080060 + link * 0x400
/-- `SEAM.CNT_DISCARD`. -/
def seamCntDiscard (link : Nat) : Nat := 0x080064 + link * 0x400
/-- `SEAM.LANE`n. -/
def seamLane (link i : Nat) : Nat := 0x080100 + link * 0x400 + i * 4
/-- `SEAM.OE_STATE`. -/
def seamOeState (link : Nat) : Nat := 0x080300 + link * 0x400
/-- `SEAM.OE_TEMP`. -/
def seamOeTemp (link : Nat) : Nat := 0x080304 + link * 0x400
/-- `SEAM.OE_LASER_A`. -/
def seamOeLaserA (link : Nat) : Nat := 0x080308 + link * 0x400
/-- `SEAM.OE_LASER_B`. -/
def seamOeLaserB (link : Nat) : Nat := 0x08030C + link * 0x400
/-- `ETH.CTRL`. -/
def ethCtrl : Nat := 0x090000
/-- `ETH.MODE`. -/
def ethMode : Nat := 0x090004
/-- `ETH.WCP_PORT`. -/
def ethWcpPort : Nat := 0x090008
/-- `ETH.SCORE_PORT`. -/
def ethScorePort : Nat := 0x09000C
/-- `ETH.SESSIONS`. -/
def ethSessions : Nat := 0x090010
/-- `ETH.NOTIFY_MASK`. -/
def ethNotifyMask : Nat := 0x090014
/-- `ETH.CMD`. -/
def ethCmd : Nat := 0x090018
/-- `ETH.ROCE`. -/
def ethRoce : Nat := 0x09001C
/-- `ETH.CNT_BAD_TAG`. -/
def ethCntBadTag : Nat := 0x090040
/-- `ETH.CNT_DUP`. -/
def ethCntDup : Nat := 0x090044
/-- `ETH.CNT_FRAG_DROP`. -/
def ethCntFragDrop : Nat := 0x090048
/-- `ETH.CNT_MISQUEUE`. -/
def ethCntMisqueue : Nat := 0x09004C
/-- `ETH.CNT_NOTE_LOST`. -/
def ethCntNoteLost : Nat := 0x090050
/-- `ETH.CNT_ROCE_DROP`. -/
def ethCntRoceDrop : Nat := 0x090054
/-- `ETH.CNT_CNP`. -/
def ethCntCnp : Nat := 0x090058
/-- `ETH.PSTATUS`. -/
def ethpPstatus (port : Nat) : Nat := 0x090100 + port * 0x80
/-- `ETH.MAC_LO`. -/
def ethpMacLo (port : Nat) : Nat := 0x090104 + port * 0x80
/-- `ETH.MAC_HI`. -/
def ethpMacHi (port : Nat) : Nat := 0x090108 + port * 0x80
/-- `ETH.VLAN`. -/
def ethpVlan (port : Nat) : Nat := 0x09010C + port * 0x80
/-- `ETH.PCP_MAP`. -/
def ethpPcpMap (port : Nat) : Nat := 0x090110 + port * 0x80
/-- `ETH.PFC`. -/
def ethpPfc (port : Nat) : Nat := 0x090114 + port * 0x80
/-- `ETH.MTU`. -/
def ethpMtu (port : Nat) : Nat := 0x090118 + port * 0x80
/-- `ETH.IPV4_ADDR`. -/
def ethpIpv4Addr (port : Nat) : Nat := 0x09011C + port * 0x80
/-- `ETH.IPV4_PLEN`. -/
def ethpIpv4Plen (port : Nat) : Nat := 0x090120 + port * 0x80
/-- `ETH.IPV4_GW`. -/
def ethpIpv4Gw (port : Nat) : Nat := 0x090124 + port * 0x80
/-- `ETH.IPV6_LL`n. -/
def ethpIpv6Ll (port i : Nat) : Nat := 0x090128 + port * 0x80 + i * 4
/-- `ETH.IPV6_G`n. -/
def ethpIpv6G (port i : Nat) : Nat := 0x090138 + port * 0x80 + i * 4
/-- `ETH.IPV6_PLEN`. -/
def ethpIpv6Plen (port : Nat) : Nat := 0x090148 + port * 0x80
/-- `ETH.RX_FRAMES`. -/
def ethpRxFrames (port : Nat) : Nat := 0x090150 + port * 0x80
/-- `ETH.TX_FRAMES`. -/
def ethpTxFrames (port : Nat) : Nat := 0x090154 + port * 0x80
/-- `ETH.RX_ERR`. -/
def ethpRxErr (port : Nat) : Nat := 0x090158 + port * 0x80
/-- `ETH.RX_DROP`. -/
def ethpRxDrop (port : Nat) : Nat := 0x09015C + port * 0x80
/-- `ETH.PFC_RX`. -/
def ethpPfcRx (port : Nat) : Nat := 0x090160 + port * 0x80
/-- `ETH.PFC_TX`. -/
def ethpPfcTx (port : Nat) : Nat := 0x090164 + port * 0x80
/-- `SCORE.CTRL`. -/
def scoreCtrl : Nat := 0x0A0000
/-- `SCORE.STATUS`. -/
def scoreStatus : Nat := 0x0A0004
/-- `SCORE.ACTIVE_VER`. -/
def scoreActiveVer : Nat := 0x0A0008
/-- `SCORE.LOADED_VER`. -/
def scoreLoadedVer : Nat := 0x0A000C
/-- `SCORE.MODEL`. -/
def scoreModel : Nat := 0x0A0010
/-- `SCORE.FEATURES`. -/
def scoreFeatures : Nat := 0x0A0014
/-- `SCORE.S_NS`. -/
def scoreSNs : Nat := 0x0A0018
/-- `SCORE.BUF_BYTES`. -/
def scoreBufBytes : Nat := 0x0A001C
/-- `SCORE.THRESHOLD`. -/
def scoreThreshold : Nat := 0x0A0020
/-- `SCORE.LAT_MAX`. -/
def scoreLatMax : Nat := 0x0A0024
/-- `SCORE.QUEUE`. -/
def scoreQueue : Nat := 0x0A0028
/-- `SCORE.CNT_REQ`. -/
def scoreCntReq : Nat := 0x0A0040
/-- `SCORE.CNT_OK`. -/
def scoreCntOk : Nat := 0x0A0044
/-- `SCORE.CNT_ALARM`. -/
def scoreCntAlarm : Nat := 0x0A0048
/-- `SCORE.CNT_BUSY`. -/
def scoreCntBusy : Nat := 0x0A004C
/-- `SCORE.CNT_MALFORMED`. -/
def scoreCntMalformed : Nat := 0x0A0050
/-- `SCORE.CNT_NO_WEIGHTS`. -/
def scoreCntNoWeights : Nat := 0x0A0054
/-- `SCORE.CNT_FAILED`. -/
def scoreCntFailed : Nat := 0x0A0058
/-- `SCORE.CNT_SHED`. -/
def scoreCntShed : Nat := 0x0A005C
/-- `SCORE.CNT_DROP`. -/
def scoreCntDrop : Nat := 0x0A0060
/-- `SCORE.CNT_LATE`. -/
def scoreCntLate : Nat := 0x0A0064
/-- `SCORE.CNT_SWAP`. -/
def scoreCntSwap : Nat := 0x0A0068
/-- `SCORE.BUF_A`n. -/
def scoreBufA (i : Nat) : Nat := 0x0A0100 + i * 8
/-- `SCORE.BUF_B`n. -/
def scoreBufB (i : Nat) : Nat := 0x0A0104 + i * 8
/-- `ERRLOG.CTRL`. -/
def errlogCtrl : Nat := 0x020000
/-- `ERRLOG.STATUS`. -/
def errlogStatus : Nat := 0x020004
/-- `ERRLOG.QDEPTH`. -/
def errlogQdepth : Nat := 0x020008
/-- `ERRLOG.SEQ`. -/
def errlogSeq : Nat := 0x02000C
/-- `ERRLOG.SEL`. -/
def errlogSel : Nat := 0x020010
/-- `ERRLOG.HANG_MS`. -/
def errlogHangMs : Nat := 0x020014
/-- `ERRLOG.LINT_BASE`. -/
def errlogLintBase : Nat := 0x020018
/-- `ERRLOG.LINT_STATUS`. -/
def errlogLintStatus : Nat := 0x02001C
/-- `ERRLOG.CLEAR`. -/
def errlogClear : Nat := 0x020020
/-- `ERRLOG.REC_W`n. -/
def errlogRecW (i : Nat) : Nat := 0x020040 + i * 4
/-- `ERRLOG.FATAL_W`n. -/
def errlogFatalW (i : Nat) : Nat := 0x020080 + i * 4
/-- `ERRLOG.CNT_NOTE`. -/
def errlogCntNote : Nat := 0x0200C0
/-- `ERRLOG.CNT_CORRECTED`. -/
def errlogCntCorrected : Nat := 0x0200C4
/-- `ERRLOG.CNT_CONTAINED`. -/
def errlogCntContained : Nat := 0x0200C8
/-- `ERRLOG.CNT_STEP`. -/
def errlogCntStep : Nat := 0x0200CC
/-- `ERRLOG.CNT_DEVICE`. -/
def errlogCntDevice : Nat := 0x0200D0
/-- `ERRLOG.LOST`. -/
def errlogLost : Nat := 0x0200D4
/-- `ERRLOG.ESCALATED`. -/
def errlogEscalated : Nat := 0x0200D8
/-- `ERRLOG.CNT_AREA`n. -/
def errlogCntArea (i : Nat) : Nat := 0x0200E0 + i * 4
/-- `POWER.CTRL`. -/
def powerCtrl : Nat := 0x010000
/-- `POWER.CAP`. -/
def powerCap : Nat := 0x010004
/-- `POWER.TOKENS`. -/
def powerTokens : Nat := 0x010008
/-- `POWER.SHED`. -/
def powerShed : Nat := 0x01000C
/-- `POWER.VIN`. -/
def powerVin : Nat := 0x010010
/-- `POWER.INPUT`. -/
def powerInput : Nat := 0x010014
/-- `POWER.TJ`. -/
def powerTj : Nat := 0x010018
/-- `POWER.PMB_ADDR`. -/
def powerPmbAddr : Nat := 0x01001C
/-- `POWER.DOM_SEL`. -/
def powerDomSel : Nat := 0x010020
/-- `POWER.DOM_INFO`. -/
def powerDomInfo : Nat := 0x010024
/-- `POWER.DOM_STATE`n. -/
def powerDomState (i : Nat) : Nat := 0x010030 + i * 4
/-- `POWER.DUTY`n. -/
def powerDuty (i : Nat) : Nat := 0x010040 + i * 4
/-- `POWER.RAIL`n. -/
def powerRail (i : Nat) : Nat := 0x010060 + i * 4
/-- `POWER.CNT_SHED`. -/
def powerCntShed : Nat := 0x010080
/-- `POWER.CNT_CAPPED`. -/
def powerCntCapped : Nat := 0x010084
/-- `POWER.CNT_THROTTLE`. -/
def powerCntThrottle : Nat := 0x010088
/-- `POWER.CNT_BROWNOUT`. -/
def powerCntBrownout : Nat := 0x01008C
/-- `POWER.CNT_PMB_FAULT`. -/
def powerCntPmbFault : Nat := 0x010090
/-- `SEC.STATUS`. -/
def secStatus : Nat := 0x030000
/-- `SEC.UNLOCKS`. -/
def secUnlocks : Nat := 0x030004
/-- `SEC.KEYLIST_SEQ`. -/
def secKeylistSeq : Nat := 0x030008
/-- `SEC.KEYS`. -/
def secKeys : Nat := 0x03000C
/-- `SEC.COUNTER0`. -/
def secCounter0 : Nat := 0x030010
/-- `SEC.COUNTER1`. -/
def secCounter1 : Nat := 0x030014
/-- `SEC.REVOKE`. -/
def secRevoke : Nat := 0x030018
/-- `SEC.ROM_LEVEL`. -/
def secRomLevel : Nat := 0x03001C
/-- `SEC.IDENT`n. -/
def secIdent (i : Nat) : Nat := 0x030020 + i * 4
/-- `SEC.OWNER`n. -/
def secOwner (i : Nat) : Nat := 0x030040 + i * 4
/-- `SEC.IMG`n. -/
def secImg (i : Nat) : Nat := 0x030060 + i * 4
/-- `SEC.MTRACE_BASE`. -/
def secMtraceBase : Nat := 0x030070
/-- `SEC.MTRACE_WR`. -/
def secMtraceWr : Nat := 0x030074
/-- `SEC.CNT_AUTH_FAIL`. -/
def secCntAuthFail : Nat := 0x030080
/-- `SEC.CNT_REFUSED`. -/
def secCntRefused : Nat := 0x030084

end Sys2Proof.Machine.O
end

