-- ==== Sys2Proof/Machine/State.lean ====
section
/-! DEFINITION. The state of the device as plain data, the reasons a step can stop, and the state
right after reset. -/

namespace Sys2Proof.Machine

/-- Device states (R39, Table 9 of *From cell to package*). -/
inductive DevState
  | boot | idle | activating | running | quiesced | standby | fenced
  deriving DecidableEq, Repr

/-- The code of a device state in `GLOBAL.STATE.STATE`. -/
def DevState.code : DevState → Nat
  | .boot => 1 | .idle => 2 | .activating => 3 | .running => 4 | .quiesced => 5 | .standby => 6
  | .fenced => 7

/-- The stages of activation (Table 12 of *Weave images, stations and tile streams*), by the stage
that is in progress. -/
inductive ActStage
  | none | entry | drain | dismantle | power | clear | install | publish
  deriving DecidableEq, Repr

/-- What the device sends or drives, in the order of sending (newest first in `State.out`; an Ethernet frame stands there when
it is handed to egress): flits, control and IDLE flits with `ACK` and `ACKV`, WCP responses and notifications, scoring results, RoCEv2 packets (0 ACK, 1 NAK Invalid
Request, 2 NAK Remote Access Error, 3 NAK Remote Operational Error, 4 READ response, 5 CNP), PFC
frames, answers to ARP or ND, echo replies, DHCP messages (0 request, 1 release, 2 discover), `FAIL_N`, PMBus
OPERATION ON by page, and JTAG data. A RoCEv2 packet has its PSN and MSN (kind 6 is NAK PSN Sequence Error), a DHCP
message the client identifier of option 61 and the options it requests (R470). -/
inductive Emit
  | flit (link vc seq : Nat) (ack : Nat × Bool) (sof eof : Bool) (frame : LinkFrame)
  | control (link : Nat) (c : CtlFlit) (ack : Nat × Bool)
  | idle (link : Nat) (ack : Nat × Bool)
  | resp (dest : Bind) (session seq opcode status detail : Nat) (body : List Byte)
  | notify (dest : Bind) (session : Nat) (n : Note)
  | result (dest : Bind) (body : List Byte)
  | roce (port qpn kind psn msn : Nat) (body : List Byte)
  | pfc (port queue : Nat) (xoff : Bool)
  | neighbour (port target sender : Nat)
  | echo (port dst : Nat) (payload : List Byte)
  | dhcp (port kind : Nat) (client : List Byte) (options : List Nat)
  | failN (low : Bool)
  | operationOn (page : Nat)
  | jtag (value : BitVec 32)
  deriving DecidableEq, Repr

/-- An Ethernet frame that the device sends: its logical port, the PCP and VID of its VLAN tag (VID 0 in a priority tag), the
UDP source and destination ports and the remote address where it has them, its UDP payload, and what it carries (R463,
R464, R483, R507). A WCP message is one frame for each of its fragments. -/
structure EthOut where
  port : Nat
  pcp : Nat
  vid : Nat
  src : Nat
  dst : Nat
  addr : Nat
  body : List Byte
  e : Emit
  deriving DecidableEq, Repr

/-- The reasons a run can stop. -/
inductive Fault
  /-- An access outside the 40-bit address space. Raised by no command: the spec gives every command
  an effect or an answer of its own, and the checks of R256 and R300 turn such an access away before
  it is made. Safe. -/
  | noSuchAddress
  deriving DecidableEq, Repr

/-- The reasons a command has no meaning here. -/
inductive Refusal
  /-- A command whose arm is still rejected by name (raised by `exec` alone). Safe: the run stops. -/
  | notModelled (mnemonic : String)
  deriving DecidableEq, Repr

/-- What the registers of PRU, MANGLE, GROUP, MEND, SCORE and CORE showed when `STATE` last became ACTIVATING (R41). -/
structure Before where
  csr : Tbl (BitVec 32)
  weave : Option Weave
  step : Nat
  streams : Tbl StreamSt
  cores : Tbl Core
  pru : PruSt
  mangle : MangleSt
  mend : MendSt
  score : ScoreSt
  deriving DecidableEq, Repr

/-- The state of the device. Registers that mirror structured state are not stored twice: `csr`
holds the others. -/
structure State where
  /-- Stored CSRs by offset from 0xFF_0000_0000; an absent one holds its reset value. -/
  csr : Tbl (BitVec 32)
  /-- `GLOBAL.CYCLE_HI` as latched by each reader (R38). -/
  cycleHi : Tbl (BitVec 32)
  /-- Engine counter `_HI` halves as latched, by reader and register (R554). -/
  engHi : Tbl (Tbl Nat)
  /-- `GLOBAL.CYCLE`: REFCLK_MAIN cycles since VSB came up (R37). -/
  cycle : Nat
  /-- Array-clock ticks within the REFCLK_MAIN cycle, 0 to 7. -/
  phase : Nat
  dev : DevState
  act : ActStage
  staged : Option Weave
  /-- The weave that an activation in progress installs: it leaves the staging area with WEAVE_ACTIVATE. -/
  installing : Option Weave
  weave : Option Weave
  /-- What a register read in ACTIVATING sees (R41). -/
  before : Option Before
  /-- The class-1 step in progress or last in progress (R252), and whether a step block runs. -/
  step : Nat
  inStep : Bool
  mem : Memory
  /-- Words of memory known to hold uncorrectable data (R325). -/
  bad : List Nat
  /-- Errors in memory that no read has met yet (R323 to R325). -/
  upsets : List (Nat × Upset)
  /-- The lines in the cache of each cluster (R289); memory holds their values, as the caches are write-through. -/
  ccache : Tbl (List Nat)
  /-- Errors in lines of the caches that no read has met yet: the cache (a core, or 256 plus a cluster), the line, and whether
  its code corrects it (R323, R326). -/
  cacheErr : List (Nat × Nat × Bool)
  hbm : Tbl Stack
  streams : Tbl StreamSt
  cores : Tbl Core
  /-- The SR key table of each cluster (R90). -/
  keyTab : Tbl (List (BitVec 64))
  pru : PruSt
  gate : GateSt
  mangle : MangleSt
  mend : MendSt
  /-- Route table entries, PRIMARY and ALTERNATE; an absent one holds 0xFF in both (R448). -/
  routes : Tbl (Nat × Nat)
  links : Tbl Link
  oes : Tbl OptEngine
  /-- Frames delivered on this device and not yet acted on, oldest first (R450). -/
  inbox : List Arrived
  ports : Tbl Port
  wcp : WcpSt
  score : ScoreSt
  err : ErrSt
  power : PowerSt
  sec : SecSt
  /-- Counter of free values used (a field of the model, not of the spec; log entry 5). -/
  freeCtr : Nat
  /-- What the device has sent and driven, newest first (a field of the model; log entry 6). -/
  out : List Emit
  /-- The Ethernet frames that wait in the egress queues, by port times 8 plus queue, oldest first (R464). -/
  egress : Tbl (List EthOut)
  /-- The queue last served of each round robin of a port, by port times 2: Q2 and Q3, and plus 1: Q4 to Q7 (R465). -/
  egressTurn : Tbl Nat
  /-- The Ethernet frames that have left, newest first (a field of the model; log entry 95). -/
  wire : List EthOut
  /-- Commands that wait, first in, first out. -/
  pending : List Instr
  deriving DecidableEq, Repr

/-- Power right after VSB rises: only the management domain is on (R562, R580), every duty is 16/16
(`POWER.DUTYn`), no reading taken. -/
def PowerSt.reset : PowerSt :=
  { doms := [(57, Dom.onDom)], level := 0, vinMv := 0, minTele := 0xFFFF, capDuty := [], juncDuty := [],
    tj := [], inputW := 0, boot := .romStart, failLow := false, testEn := false, sagOff := false, thermalOff := false, bypass := false }

/-- The device right after reset (R39, R580): `STATE` BOOT, ROM start in progress, every register at
its reset value, no weave, no session, memory empty; the key store and fuses as shipped (R634). -/
def State.reset : State :=
  { csr := [], cycleHi := [], engHi := [], cycle := 0, phase := 0, dev := .boot, act := .none,
    staged := none, installing := none, weave := none, before := none, step := 0, inStep := false, mem := [], bad := [], upsets := [], ccache := [], cacheErr := [], hbm := [],
    streams := [], cores := [], keyTab := [], pru := PruSt.reset, gate := GateSt.reset,
    mangle := MangleSt.reset, mend := MendSt.reset, routes := [], links := [], oes := [],
    inbox := [], ports := [], wcp := WcpSt.reset, score := ScoreSt.reset, err := ErrSt.reset,
    power := PowerSt.reset, sec := SecSt.shipped, freeCtr := 0, out := [], egress := [], egressTurn := [], wire := [], pending := [] }

end Sys2Proof.Machine
end

