-- ==== Sys2Proof/Machine/Ops.lean ====
section
/-! DEFINITION. Named operations over the state: CSR storage, memory with its address map and page
maps, cores, threads and streams, output, and the tick of the idle device. -/

namespace Sys2Proof.Machine

/-- The next state of a command. -/
abbrev Res := Host.Outcome State Fault Refusal

/-! ### CSR storage -/

/-- The registers of the block or unit that holds an offset, and the offset within it; `none` outside
every block (R43, R44). The engine counters are not in the tables. -/
def csrLocate (off : Nat) : Option (List Reg × Nat) :=
  if off < 0x10000 then some (regsGlobal, off)
  else if off < 0x20000 then some (regsPower, off - 0x10000)
  else if off < 0x30000 then some (regsErrlog, off - 0x20000)
  else if off < 0x40000 then some (regsSec, off - 0x30000)
  else if off < 0x50000 then some (regsPru, off - 0x40000)
  else if off < 0x60000 then some (regsMangle, off - 0x50000)
  else if off < 0x70000 then some (regsGroup, off - 0x60000)
  else if off < 0x80000 then some (regsMend, off - 0x70000)
  else if off < 0x86000 then some (regsSeam ++ regsSeamOe, (off - 0x80000) % 0x400)
  else if off < 0x90000 then none
  else if off < 0xA0000 then
    let o := off - 0x90000
    if o < 0x100 then some (regsEth, o)
    else if o < 0x500 then some (regsEthPort, (o - 0x100) % 0x80)
    else some ([], o)
  else if off < 0xB0000 then some (regsScore, off - 0xA0000)
  else if off < 0xC0000 then some (regsHbm, off - 0xB0000)
  else if off < 0x100000 then none
  else if off < 0x200000 then some (regsCore, (off - 0x100000) % 0x1000)
  else none

/-- Whether a register, or one of its copies, lies at an offset of its block. -/
def Reg.hits (r : Reg) (o : Nat) : Bool :=
  decide (r.off ≤ o) && decide ((o - r.off) % r.stride = 0) && decide ((o - r.off) / r.stride < r.count)

/-- The fields of the register at an offset; none at an unallocated offset. -/
def csrFields (off : Nat) : List Fld :=
  match csrLocate off with
  | some (rs, o) => match rs.find? (fun r => r.hits o) with
    | some r => r.flds
    | none => []
  | none => []

/-- The reset value of a register. -/
def csrResetVal (off : Nat) : Nat := ((csrFields off).map (fun f => f.rst <<< f.lo)).sum

/-- The stored value of a register. -/
def csrGet (s : State) (off : Nat) : Nat :=
  match tget? s.csr off with
  | some v => v.toNat
  | none => csrResetVal off

/-- Stores the value of a register. -/
def csrPut (s : State) (off v : Nat) : State := { s with csr := tset s.csr off (BitVec.ofNat 32 v) }

/-- Bits of a stored register. -/
def csrBits (s : State) (off hi lo : Nat) : Nat := bitsOf (csrGet s off) hi lo

/-- Whether a bit of a stored register is 1. -/
def csrBit (s : State) (off i : Nat) : Bool := decide (csrBits s off i i = 1)

/-- Sets bits of a stored register. -/
def csrPutBits (s : State) (off hi lo v : Nat) : State := csrPut s off (setBits (csrGet s off) hi lo v)

/-- Adds to a 32-bit counter that saturates (R12, R14). -/
def bump (s : State) (off : Nat) (k : Nat := 1) : State :=
  csrPut s off (min (csrGet s off + k) 0xFFFFFFFF)

/-- Adds to a 16-bit counter that saturates, in the low half of its register. -/
def bump16 (s : State) (off : Nat) (k : Nat := 1) : State :=
  csrPutBits s off 15 0 (min (csrBits s off 15 0 + k) 0xFFFF)

/-! ### Output -/

/-- The PCP of a frame by its kind (R464, Table 2 of *Ethernet ports and the command set*; log entry 95 for ARP, ND, ICMP
and DHCP); that of a RoCEv2 packet is its queue pair's. -/
def Emit.pcp (s : State) : Emit → Nat
  | .resp .. => 7
  | .notify .. => 7
  | .result .. => 6
  | .roce _ qpn _ _ _ _ => ((tget? s.wcp.qps qpn).map (·.pcp)).getD 0
  | _ => 0

/-- The bytes of a string of the command set. -/
def asciiBytes (t : String) : List Byte := t.toList.map (fun c => BitVec.ofNat 8 c.toNat)

/-- The `n` bytes of a number, the most significant first. -/
def msbBytes (n v : Nat) : List Byte := (List.range n).map (fun k => BitVec.ofNat 8 (v / 2 ^ (8 * (n - 1 - k))))

/-- The 32 bytes of a digest or nonce, the first of them the most significant of the number. -/
def digestBytes (d : BitVec 256) : List Byte := (List.range 32).map (fun k => BitVec.ofNat 8 (d.toNat / 2 ^ (8 * (31 - k))))

/-- The header of a WCP datagram (Table 3 of *Ethernet ports and the command set*). -/
def wcpHeader (flags opcode status session seq length frag count msgLen : Nat) : List Byte :=
  leBytes 2 0x5743 ++ leBytes 1 1 ++ leBytes 1 flags ++ leBytes 2 opcode ++ leBytes 2 status ++ leBytes 4 session ++
  leBytes 8 seq ++ leBytes 4 length ++ leBytes 1 frag ++ leBytes 1 (count - 1) ++ leBytes 2 0 ++ leBytes 4 msgLen

/-- The tag over the header and payload of a WCP datagram (R482). -/
def wcpTag (key bs : List Byte) : BitVec 128 := Config.kmac256 key bs (asciiBytes "WCP1-TAG") 128

/-- The key of a session for what the device sends: 32 zero bytes outside any session (R482). -/
def sendKey (s : State) (session : Nat) : List Byte :=
  match s.wcp.sessions.find? (fun x => decide (x.id = session)) with
  | some x => x.keyOut
  | none => List.replicate 32 0#8

/-- The payload of a message cut into the pieces that fit a datagram of the port's `MTU`, which also holds 20 bytes of IPv4 or
40 of IPv6 header, 8 of UDP, 32 of WCP header and 16 of tag (R481, R483). -/
def wcpPieces (s : State) (b : Bind) (payload : List Byte) : List (List Byte) :=
  let room := csrBits s (O.ethpMtu b.port) 13 0 - (if b.addr < 2 ^ 32 then 76 else 96)
  if payload.isEmpty then [[]] else chunksOf room payload.length payload

/-- The VID of the tag with which a port sends: 0 in a priority tag (R463). -/
def egressVid (s : State) (p : Nat) : Nat := csrBits s (O.ethpVlan p) 11 0

/-- The frames of a WCP message, a fragment each where it does not fit one datagram (R481 to R483, R485). -/
def wcpFrames (s : State) (b : Bind) (flags opcode status session seq : Nat) (payload : List Byte) (e : Emit) : List EthOut :=
  let ps := wcpPieces s b payload
  ps.zipIdx.map (fun x =>
    let h := wcpHeader flags opcode status session seq x.1.length x.2 ps.length payload.length ++ x.1
    ⟨b.port, e.pcp s, egressVid s b.port, csrBits s O.ethWcpPort 15 0, b.udp, b.addr,
      h ++ msbBytes 16 (wcpTag (sendKey s session) h).toNat, e⟩)

/-- The Ethernet frames that carry what the device sends (R463, R464, R481, R507); none for what does not leave by a port. -/
def Emit.ethFrames (s : State) (e : Emit) : List EthOut :=
  let one (p src dst addr : Nat) (body : List Byte) : List EthOut := [⟨p, e.pcp s, egressVid s p, src, dst, addr, body, e⟩]
  match e with
  | .resp d session seq opcode status detail body =>
    wcpFrames s d 1 opcode status session seq (leBytes 4 detail ++ body) e
  | .notify d session n => wcpFrames s d 2 n.code 0 session n.num n.body e
  | .result d body => one d.port (csrBits s O.ethScorePort 15 0) d.udp d.addr body
  | .roce p qpn _ _ _ body => one p 0 4791 (((tget? s.wcp.qps qpn).map (·.gid)).getD 0) body
  | .pfc p _ _ => one p 0 0 0 []
  | .neighbour p _ sender => one p 0 0 sender []
  | .echo p dst payload => one p 0 0 dst payload
  | .dhcp p _ client _ => one p 68 67 0 client
  | _ => []

/-- Changes what waits in an egress queue of a port. -/
def setEgress (s : State) (p q : Nat) (l : List EthOut) : State := { s with egress := tset s.egress (8 * p + q) l }

/-- What waits in an egress queue of a port. -/
def getEgress (s : State) (p q : Nat) : List EthOut := tget s.egress (8 * p + q) []

/-- A frame leaves on its port; it counts in `ETH.TX_FRAMES`. -/
def leave (s : State) (e : EthOut) : State := bump { s with wire := e :: s.wire } (O.ethpTxFrames e.port)

/-- Hands a frame to its port: PFC frames leave at once, results join Q0, the others the egress queue of their PCP (R464,
R466); a port that is down sends nothing (R461). -/
def toEgress (s : State) (e : EthOut) : State :=
  let p := e.port
  let q := csrBits s (O.ethpPcpMap p) (4 * e.pcp + 2) (4 * e.pcp)
  if (tget s.ports p Port.reset).up = false then s
  else match e.e with
    | .pfc .. => leave s e
    | .result .. => setEgress s p 0 (getEgress s p 0 ++ [e])
    | _ => setEgress s p q (getEgress s p q ++ [e])

/-- Sends or drives something; the Ethernet frames that carry it are handed to the egress of their port. -/
def State.emit (s : State) (e : Emit) : State := (e.ethFrames s).foldl toEgress { s with out := e :: s.out }

/-! ### Memory map (R293 to R301) -/

/-- Base of the SRAM slice of a cluster. -/
def sliceBase (g : Nat) : Nat := g / 8 * 0x140000000 + g % 8 * 0x28000000
/-- Bytes of an SRAM slice. -/
def sliceBytes : Nat := 0x28000000
/-- Base of the scratch of a core. -/
def scratchBase (k : Nat) : Nat := 0x800000000 + k * 0x100000
/-- Base of an HBM stack. -/
def stackBase (n : Nat) : Nat := 0x1000000000 + n * 0x900000000
/-- The weave staging area. -/
def weaveArea : Nat := 0x57F0000000
/-- The image staging region. -/
def imageArea : Nat := 0x57E0000000
/-- CSR space. -/
def csrSpace : Nat := 0xFF00000000

/-- Where an address lies. -/
inductive Place
  | sram (cluster : Nat) | scratch (core : Nat) | hbm (stack : Nat) | reserved | rom | csr | nowhere
  deriving DecidableEq, Repr

/-- The region of an address (Table 3 of *Memory tiers and weight streaming*). -/
def placeOf (a : Nat) : Place :=
  if a < 0x500000000 then .sram (a / 0x140000000 * 8 + a % 0x140000000 / 0x28000000)
  else if 0x800000000 ≤ a ∧ a < 0x810000000 then .scratch ((a - 0x800000000) / 0x100000)
  else if 0x1000000000 ≤ a ∧ a < 0x57E0000000 then .hbm ((a - 0x1000000000) / 0x900000000)
  else if 0x57E0000000 ≤ a ∧ a < 0x5800000000 then .reserved
  else if 0xFE00000000 ≤ a ∧ a < 0xFE00100000 then .rom
  else if 0xFF00000000 ≤ a ∧ a < 0x10000000000 then .csr
  else .nowhere

/-- The page of an address (R295). -/
def pageOf (a : Nat) : Nat := a / 0x200000

/-- The class of a cluster: 0 when its bit of `GLOBAL.PART_MAP` is 1, otherwise 1. -/
def clusterClass (s : State) (g : Nat) : Nat := if csrBit s O.globalPartMap g then 0 else 1

/-- The cluster of a core. -/
def clusterOf (core : Nat) : Nat := core / 8

/-- The class of a core. -/
def coreClass (s : State) (core : Nat) : Nat := clusterClass s (clusterOf core)

/-- The power domain `d`. -/
def getDom (s : State) (d : Nat) : Dom := tget s.power.doms d Dom.offDom

/-- Changes a power domain. -/
def setDom (s : State) (d : Nat) (x : Dom) : State :=
  { s with power := { s.power with doms := tset s.power.doms d x } }

/-- The HBM stack `n`. -/
def getStack (s : State) (n : Nat) : Stack := tget s.hbm n Stack.reset

/-- Changes an HBM stack. -/
def setStack (s : State) (n : Nat) (x : Stack) : State := { s with hbm := tset s.hbm n x }

/-- The page map of a class in the active weave. -/
def pageMap (s : State) (cls : Nat) : List PageRun :=
  match s.weave with
  | some w => if cls = 0 then w.pages0 else if cls = 1 then w.pages1 else w.pages2
  | none => []

/-- The map entry that grants a page to a class. -/
def grantOf (s : State) (cls page : Nat) : Option PageRun :=
  (pageMap s cls).find? (fun r => decide (r.first ≤ page) && decide (page < r.first + r.count))

/-- The role of a page for a class; GENERAL where nothing grants it. -/
def roleOf (s : State) (cls page : Nat) : Nat := ((grantOf s cls page).map (·.role)).getD 0

/-- Whether the memory behind an address can answer: its cluster domain is not off (R301), its stack
is usable (R316). -/
def placeAlive (s : State) (a : Nat) : Bool :=
  match placeOf a with
  | .sram g => decide ((getDom s g).st ≠ .off)
  | .scratch k => decide ((getDom s (clusterOf k)).st ≠ .off)
  | .hbm n => (getStack s n).ready
  | .reserved => (getStack s 7).ready
  | _ => false

/-- The pages that `n` bytes at `a` touch. -/
def pagesTouched (a n : Nat) : List Nat :=
  if n = 0 then [] else (List.range (pageOf (a + n - 1) - pageOf a + 1)).map (· + pageOf a)

/-- Whether the map of a class permits an access of `n` bytes at `a` (R256, R295 to R301). -/
def mayAccess (s : State) (cls : Nat) (write : Bool) (a n : Nat) : Bool :=
  (pagesTouched a n).all (fun p =>
    match grantOf s cls p with
    | some r => (!write || r.write) && placeAlive s (p * 0x200000)
    | none => false)

/-- Whether an address range lies in HBM outside the reserved area. -/
def inHbm (a n : Nat) : Bool := decide (0x1000000000 ≤ a) && decide (a + n ≤ 0x57E0000000)

/-- Whether a range lies in stacked SRAM or core scratch. -/
def inChip (a n : Nat) : Bool :=
  decide (a + n ≤ 0x500000000) || (decide (0x800000000 ≤ a) && decide (a + n ≤ 0x810000000))

/-- Whether a class-2 access is within reach (R300, R316): while a weave is active PAGES2; in IDLE
all HBM outside the reserved area; under a MEM_ALL or SCAN unlock also SRAM and scratch. -/
def class2May (s : State) (write : Bool) (a n : Nat) : Bool :=
  (pagesTouched a n).all (fun p => placeAlive s (p * 0x200000)) &&
  ((s.weave.isSome && mayAccess s 2 write a n) ||
   (decide (s.dev = .idle) && inHbm a n) ||
   (decide (s.sec.scopes &&& 6 ≠ 0) && inChip a n))

/-- The bytes under one check code at an address: a word on chip, a burst in HBM (R323). -/
def codeLen (a : Nat) : Nat :=
  match placeOf a with
  | .hbm _ => 32
  | .reserved => 32
  | _ => 8

/-- The first byte under the check code of an address. -/
def codeBase (a : Nat) : Nat := a / codeLen a * codeLen a

/-- The words that share the check code of an address (R323). -/
def codeWords (a : Nat) : List Nat := (List.range (codeLen a / 8)).map (fun i => codeBase a + 8 * i)

/-- Whether the bytes under the check code of an address meet a range. -/
def codeMeets (w a n : Nat) : Bool := decide (codeBase w < a + n) && decide (a < codeBase w + codeLen w)

/-- Whether a range takes in all the bytes under the check code of an address. -/
def codeCovered (w a n : Nat) : Bool := decide (a ≤ codeBase w) && decide (codeBase w + codeLen w ≤ a + n)

/-- The known uncorrectable words in a range (R325), the lowest of each check code: a burst is one error. -/
def badIn (s : State) (a n : Nat) : List Nat :=
  let l := s.bad.filter (fun w => decide (w < a + n) && decide (a < w + 8))
  l.filter (fun w => !l.any (fun v => decide (v < w) && decide (codeBase v = codeBase w)))

/-- Whether a page is cacheable for some class. -/
def cacheable (s : State) (page : Nat) : Bool :=
  [0, 1, 2].any (fun c => ((grantOf s c page).map (·.cache)).getD false)

/-- The lines of a page that `n` bytes at `a` touch. -/
def linesIn (a n page : Nat) : Nat := (min (a + n) ((page + 1) * 0x200000) - 1) / 64 - max a (page * 0x200000) / 64 + 1

/-- Invalidates the lines `lo` to `hi` in every cache (R302). -/
def dropLines (s : State) (lo hi : Nat) : State :=
  let keep (l : List Nat) : List Nat := l.filter (fun x => decide (x < lo) || decide (hi < x))
  { s with ccache := s.ccache.map (fun e => (e.1, keep e.2))
           cores := s.cores.map (fun e => (e.1, { e.2 with l1 := keep e.2.l1 })) }

/-- Writes bytes to memory: clears the errors under the check codes that are written whole (R323, R327), and where a page is
cacheable invalidates the lines written in every cache, with a broadcast for each (R302). -/
def memPut (s : State) (a : Nat) (bs : List Byte) : State :=
  let inv := (((pagesTouched a bs.length).filter (cacheable s)).map (linesIn a bs.length)).sum
  let s1 := { s with
    mem := memWrites s.mem a bs
    bad := s.bad.filter (fun w => !codeCovered w a bs.length)
    upsets := s.upsets.filter (fun u => !codeCovered u.1 a bs.length) }
  if inv = 0 then s1 else bump (dropLines s1 (a / 64) ((a + bs.length - 1) / 64)) O.hbmCacheInv inv

/-- Reads bytes of memory. -/
def memGet (s : State) (a n : Nat) : List Byte := memReads s.mem a n

/-! ### Cores, threads, streams -/

/-- The core `c`. -/
def getCore (s : State) (c : Nat) : Core := tget s.cores c Core.reset

/-- Changes a core. -/
def setCore (s : State) (c : Nat) (x : Core) : State := { s with cores := tset s.cores c x }

/-- Thread `t` of core `c`. -/
def getThread (s : State) (c t : Nat) : Thread := tget (getCore s c).threads t Thread.reset

/-- Changes a thread. -/
def setThread (s : State) (c t : Nat) (x : Thread) : State :=
  let k := getCore s c
  setCore s c { k with threads := tset k.threads t x }

/-- A station of a core by its number in `CORE.STN_RESET`. -/
def getStn (s : State) (c n : Nat) : Station := tget (getCore s c).stations n Station.empty

/-- Changes a station. -/
def setStn (s : State) (c n : Nat) (x : Station) : State :=
  let k := getCore s c
  setCore s c { k with stations := tset k.stations n x }

/-- An engine of a core. -/
def getEng (s : State) (c n : Nat) : Engine := tget (getCore s c).engines n Engine.reset

/-- Changes an engine. -/
def setEng (s : State) (c n : Nat) (x : Engine) : State :=
  let k := getCore s c
  setCore s c { k with engines := tset k.engines n x }

/-- The stream table of the active weave. -/
def streamTable (s : State) : List StreamEnt := (s.weave.map (·.streams)).getD []

/-- The dynamic state of a stream-table entry. -/
def getStream (s : State) (e : Nat) : StreamSt := tget s.streams e (StreamSt.fresh 0)

/-- Changes the dynamic state of a stream-table entry. -/
def setStream (s : State) (e : Nat) (x : StreamSt) : State := { s with streams := tset s.streams e x }

/-- The station code of Table 1 of *Weave images, stations and tile streams* and the number in
`CORE.STN_RESET` of a station given by code and index: FETCH 0, ARRAY 1, PLAIN 3, SHAPE 4, GATHER 5,
STORE 6, SHIP 7, TAKE 8. -/
def stnNumber (code idx : Nat) : Option Nat :=
  match code with
  | 0 => if idx < 2 then some idx else none
  | 1 => if idx < 4 then some (2 + idx) else none
  | 3 => if idx = 0 then some 6 else none
  | 4 => if idx = 0 then some 7 else none
  | 5 => if idx = 0 then some 8 else none
  | 6 => if idx < 2 then some (9 + idx) else none
  | 7 => if idx = 0 then some 11 else none
  | 8 => if idx = 0 then some 12 else none
  | _ => none

/-- The own rank of the device: 0xFFFF when it holds no live table (R498). -/
def selfRank (s : State) : Nat := (s.mend.table.map (·.self)).getD 0xFFFF

/-- The current epoch, zero without a live table. -/
def epochOf (s : State) : Nat := (s.mend.table.map (·.epoch)).getD 0

/-- The reader number of a WCP session, by its slot. -/
def sessionReader (n : Nat) : Nat := 2 * n

/-- The reader number of a control-core thread. -/
def threadReader (c t : Nat) : Nat := 2 * (c * 8 + t) + 1

/-- Forgets what a reader has latched (R38, R554): the latches of a session go with it. -/
def dropLatches (s : State) (reader : Nat) : State :=
  { s with cycleHi := tdel s.cycleHi reader, engHi := tdel s.engHi reader }

/-- A fresh free value counter. -/
def State.useFree (s : State) : State := { s with freeCtr := s.freeCtr + 1 }

end Sys2Proof.Machine
end

