-- ==== Sys2Proof/Machine/Events.lean ====
section
/-! DEFINITION. Notifications, events with their queues and escalation, the loss of a power domain's
contents, the hard fence, and reset. -/

namespace Sys2Proof.Machine

/-! ### Notifications (R497, R498) -/

/-- Adds a notification to a session, within 256 unacknowledged ones (R497). -/
def Session.note (x : Session) (code self step : Nat) (body : List Byte) : Session × Note :=
  let n : Note := ⟨x.noteNum + 1, code, leBytes 2 (min x.lost 0xFFFF) ++ leBytes 2 self ++ leBytes 4 step ++ body⟩
  let full := decide (256 ≤ x.notes.length)
  ({ x with noteNum := x.noteNum + 1, lost := if full then 1 else 0
            notes := (if full then x.notes.drop 1 else x.notes) ++ [n] }, n)

/-- Sends a notification to the sessions of a list, in order. -/
def notifyList (code self step : Nat) (body : List Byte) :
    List Session → List Session × List Emit × Nat
  | [] => ([], [], 0)
  | x :: xs =>
    let (ys, es, k) := notifyList code self step body xs
    if x.noNotify then (x :: ys, es, k)
    else
      let (x', n) := x.note code self step body
      (x' :: ys, es ++ [.notify x.bind x.id n], k + (if 256 ≤ x.notes.length then 1 else 0))

/-- Sends a notification to every open session that did not set `NO_NOTIFY` (R497). -/
def notifyAll (s : State) (code : Nat) (body : List Byte) : State :=
  let (ss, es, k) := notifyList code (selfRank s) s.step body s.wcp.sessions
  let s1 := es.foldr (fun e s => s.emit e) { s with wcp := { s.wcp with sessions := ss } }
  if k = 0 then s1 else bump s1 O.ethCntNoteLost k

/-- Whether the device sends group-wide notifications (R499). -/
def sendsGroupWide (s : State) : Bool :=
  csrBit s O.ethCtrl 3 ||
  ((s.mend.table.map (fun t => decide (t.keeper = t.self))).getD false)

/-- A group-wide notification (R499). -/
def notifyGroup (s : State) (code : Nat) (body : List Byte) : State :=
  if sendsGroupWide s then notifyAll s code body else s

/-- Changes `GLOBAL.STATE`, with the STATE notification. -/
def setDev (s : State) (d : DevState) : State :=
  if s.dev = d then s
  else notifyAll { s with dev := d } 0x0A03
    (leBytes 1 s.dev.code ++ leBytes 1 d.code ++ leBytes 2 0)

/-- Drives `FAIL_N` low. -/
def failLow (s : State) : State :=
  if s.power.failLow then s
  else ({ s with power := { s.power with failLow := true } }).emit (.failN true)

/-! ### Loss of contents -/

/-- Forgets the memory of `n` bytes at `a`: the bytes read as zero when next written or woken. -/
def loseMem (s : State) (a n : Nat) : State :=
  { s with mem := memZero s.mem a (a + n)
           bad := s.bad.filter (fun w => !(decide (a ≤ w) && decide (w < a + n)))
           upsets := s.upsets.filter (fun u => !(decide (a ≤ u.1) && decide (u.1 < a + n))) }

/-- The cores of a cluster. -/
def coresOf (g : Nat) : List Nat := (List.range 8).map (· + 8 * g)

/-- A link going dark with its engine or by its enable: OFF or DOWN, with nothing in flight. -/
def Link.lost (k : Link) (st : LState) : Link := { Link.reset with st := st, cfg := k.cfg }

/-- What turning a domain off loses (Table 5 of *Power domains, clocks and start-up*, R563): a
cluster's cores, scratch, SRAM slice and key table; a stack's contents and training; an optical
engine's state and its links; the mangle's buckets. -/
def loseDomain (s : State) (d : Nat) : State :=
  if d < 32 then
    let s1 := (coresOf d).foldl (fun s c =>
      { s with cores := tdel s.cores c
               csr := s.csr.filter (fun e => !(decide (0x100000 + c * 0x1000 ≤ e.1) &&
                 decide (e.1 < 0x101000 + c * 0x1000))) }) s
    loseMem (loseMem { s1 with keyTab := tdel s1.keyTab d, ccache := tdel s1.ccache d } (sliceBase d) sliceBytes)
      (scratchBase (8 * d)) 0x800000
  else if 36 ≤ d ∧ d < 44 then
    loseMem (setStack s (d - 36) { getStack s (d - 36) with ready := false, training := false })
      (stackBase (d - 36)) 0x900000000
  else if 44 ≤ d ∧ d < 52 then
    { s with oes := tdel s.oes (d - 44)
             links := s.links.map (fun e => if e.1 / 3 = d - 44 then
               (e.1, e.2.lost (if e.2.st = .off then .off else .down)) else e) }
  else if d = 53 then
    { s with mangle := s.mangle.emptied }
  else s

/-- Turns a domain off at once. -/
def domOff (s : State) (d : Nat) : State :=
  if (getDom s d).st = .off ∧ (getDom s d).mgmt = .off then s
  else loseDomain (setDom s d { getDom s d with mgmt := .off, st := .off, wait := false
                                                fromOff := false, entering := none, queued := false }) d

/-- Turns off every domain from 0 to 57 but those of a list. -/
def domsOffBut (s : State) (keep : List Nat) : State :=
  ((List.range 57).filter (fun d => !keep.contains d)).foldl domOff s

/-! ### Events (R525 to R538) -/

/-- The bytes of an event record (Table 4 of *Errors, counters, trace and hang analysis*). -/
def EventRec.bytes (r : EventRec) : List Byte :=
  leBytes 2 r.code ++ leBytes 1 (r.sev + 8 * r.raised) ++ leBytes 1 r.cls ++ leBytes 4 r.seq ++
  leBytes 8 r.cycle ++ leBytes 4 r.step ++ leBytes 2 r.count ++ leBytes 2 r.srcKind ++
  leBytes 4 r.src ++ leBytes 4 r.epoch ++
  ((List.range 4).flatMap (fun i => leBytes 4 (min (r.info.getD i 0) 0xFFFFFFFF)))

/-- Changes the error state. -/
def State.withErr (s : State) (f : ErrSt → ErrSt) : State := { s with err := f s.err }

/-- The area of a code, its upper four bits (R525). -/
def areaOf (code : Nat) : Nat := code / 0x1000

/-- Counts an occurrence by area and by handled severity (R532). -/
def countEvent (s : State) (code sev : Nat) : State :=
  bump (bump s (O.errlogCntArea (areaOf code - 1))) (O.errlogCntNote + 4 * sev)

/-- Gives a record the next `SEQ` (R529). -/
def takeSeq (s : State) (r : EventRec) : State × EventRec :=
  let n := (csrGet s O.errlogSeq + 1) % 2 ^ 32
  (csrPut s O.errlogSeq n, { r with seq := n })

/-- Enters a handled record in the log of 256 (R531). -/
def logRec (s : State) (r : EventRec) : State :=
  s.withErr (fun e => { e with log := (r :: e.log).take 256 })

/-- Holds the first DEVICE record since the last clear (R531). -/
def holdFatal (s : State) (r : EventRec) : State :=
  s.withErr (fun e => { e with fatal := some (e.fatal.getD r) })

/-- The EVENT notification of a record (Table 8 of *Ethernet ports and the command set*). -/
def notifyEvent (s : State) (r : EventRec) : State :=
  if 2 ≤ r.sev ∨ csrBit s O.ethNotifyMask (areaOf r.code) then notifyAll s 0x0A02 r.bytes else s

/-- The hard fence (R536): only management, security and Ethernet stay on, `FAIL_N` low, `STATE`
FENCED, `HARD_FENCE` set in the reset cause; HBM, SRAM, trace, lint rings and the live group table
are lost, the log is kept. The record whose handling it cuts short is notified, where it has not been (R499); handlers of
lower severity go on when the management core resumes them (R534). -/
def hardFence (s : State) (code : Nat) : State :=
  let r0 : EventRec := ⟨0x9011, 4, 4, 3, 0, s.cycle, if s.inStep then s.step else 0, 1, 0, 0,
    epochOf s, [code, 0, 0, 0], s.inStep⟩
  let (s1, r) := takeSeq (countEvent s 0x9011 4) r0
  let s2 := holdFatal (logRec s1 r) r
  let s3 := domsOffBut s2 [54, 55, 56]
  let s4 := failLow (csrPutBits { s3 with act := .none, inStep := false } O.globalResetCause 5 5 1)
  let s5 := s4.withErr (fun e => { e with fence := none, cause := none, hard := true
                                          running := e.running.filter (fun r => decide (r.sev ≠ 4))
                                          queues := tdel e.queues 4
                                          frozen := false, dump := none, collecting := none })
  let s6 := setDev { s5 with mend := { s5.mend with table := none }, mem := [], bad := [] } .fenced
  let s7 := match s.err.fence, s.err.cause with
    | some .freeze, some x => notifyEvent s6 x
    | some .depart, some x => notifyEvent s6 x
    | some .fence, some x => notifyEvent s6 x
    | _, _ => s6
  notifyEvent (notifyAll s7 0x0A0C (leBytes 2 r.code ++ leBytes 2 0)) r

/-- Places a DEVICE record (R533, R536, R638). -/
def placeDevice (s : State) (r0 : EventRec) : State :=
  let s0 := countEvent s r0.code 4
  if s.err.fence.isSome then hardFence s0 r0.code
  else
    let (s1, r) := takeSeq s0 { r0 with sev := 4 }
    if s.dev = .boot then
      failLow ((holdFatal (logRec s1 r) r).withErr (fun e => { e with bootStopped := true }))
    else if s.dev = .fenced then notifyEvent (holdFatal (logRec s1 r) r) r
    else (holdFatal s1 r).withErr (fun e =>
      { e with queues := tset e.queues 4 [r], fence := some .freeze, cause := some r, frozen := true })

/-- Whether a waiting record takes another occurrence of its kind (R532). -/
def coalesces (r q : EventRec) : Bool :=
  decide (r.code = q.code ∧ r.srcKind = q.srcKind ∧ r.src = q.src) &&
  (decide (r.raised ≤ 1) || (decide (r.raised = 3) && decide (r.step = q.step)))

/-- Counts one more occurrence in the first record of a queue that takes it. -/
def coalesceIn (r : EventRec) : List EventRec → Option (List EventRec)
  | [] => none
  | q :: qs =>
    if coalesces r q then some ({ q with count := min (q.count + 1) 0xFFFF } :: qs)
    else (coalesceIn r qs).map (q :: ·)

/-- Queues a record at the end of a severity's queue. -/
def enqueue (s : State) (sev : Nat) (r0 : EventRec) : State :=
  let (s1, r) := takeSeq (countEvent s r0.code sev) { r0 with sev := sev }
  s1.withErr (fun e => { e with queues := tset e.queues sev (tget e.queues sev [] ++ [r])
                                frozen := e.frozen || decide (3 ≤ sev) })

/-- Queues a STEP record, escalating it to DEVICE when its queue is full (R535). -/
def placeStep (s : State) (r : EventRec) : State :=
  if (tget s.err.queues 3 []).length < 16 then enqueue s 3 r
  else placeDevice (bump s O.errlogEscalated) r

/-- Places a record of a severity (R532 to R535). -/
def placeEvent (s : State) (sev : Nat) (r : EventRec) : State :=
  if sev = 4 then placeDevice s r
  else
    match (if sev = 2 then none else coalesceIn { r with raised := sev } (tget s.err.queues sev [])) with
    | some q =>
      (countEvent s r.code sev).withErr (fun e => { e with queues := tset e.queues sev q
                                                           frozen := e.frozen || decide (sev = 3) })
    | none =>
      if sev = 3 then placeStep s r
      else if (tget s.err.queues sev []).length < 16 then enqueue s sev r
      else if sev = 2 then placeStep (bump s O.errlogEscalated) r
      else bump (countEvent s r.code sev) O.errlogLost

/-- Raises an event with the severity of its chapter, class (3 for none), source kind and index, and
the items of its record. A STEP event of a class-0 or class-2 agent is CONTAINED (R528). -/
def raise (s : State) (code sev cls srcKind src : Nat) (info : List Nat := []) : State :=
  placeEvent s (if sev = 3 ∧ (cls = 0 ∨ cls = 2) then 2 else sev)
    ⟨code, sev, sev, cls, 0, s.cycle, if s.inStep then s.step else 0, 1, srcKind, src, epochOf s,
     (info ++ [0, 0, 0, 0]).take 4, s.inStep⟩

/-! ### Reset (R580, R600) -/

/-- Whether a CSR keeps its value through a reset (R12, R580): the management domain stays, and with it the GLOBAL block,
its lock bit among it, and the ERRLOG block; what GLOBAL says of the active weave goes with the weave (log entry 16). -/
def keptByReset (off : Nat) : Bool :=
  (decide (off < 0x10000) && !(decide (off = O.globalPartMap) || decide (off = O.globalClusterUsed))) ||
    (decide (0x20000 ≤ off) && decide (off < 0x30000))

/-- The reset of every domain but management: the key store and fuses, the log, `RESET_CAUSE` and
what waits outside stay; everything else is as State.reset has it. `stage` is the step of boot that
comes next. `FAIL_N` is released, unless `keepLow` (R576). -/
def deviceReset (s : State) (stage : BootStage) (keepLow : Bool) : State :=
  let s1 : State :=
    { State.reset with
      csr := s.csr.filter (fun e => keptByReset e.1)
      cycle := s.cycle
      phase := s.phase
      err := { ErrSt.reset with log := s.err.log, fatal := s.err.fatal }
      power := { PowerSt.reset with boot := stage, vinMv := s.power.vinMv
                                    failLow := s.power.failLow && keepLow
                                    testEn := s.power.testEn }
      sec := { s.sec with scopes := 0, challenge := none, images := [], jtag := false, wiping := false }
      freeCtr := s.freeCtr
      out := s.out
      wire := s.wire
      wcp := { WcpSt.reset with lastId := s.wcp.lastId }
      pending := s.pending }
  if s.power.failLow && !keepLow then s1.emit (.failN false) else s1

end Sys2Proof.Machine
end

