-- ==== Sys2Proof/Machine/PowerOps.lean ====
section
/-! DEFINITION. Power domains: the demands on a domain and its effective state (R563), entry and wake
(R564 to R568, R639), and retention of a cluster that waits (R276, R277). -/

namespace Sys2Proof.Machine

/-- The lower of two domain states. -/
def PState.low (a b : PState) : PState :=
  match a, b with
  | .off, _ => .off
  | _, .off => .off
  | .on, x => x
  | .waking, x => x
  | .retention, _ => .retention

/-- Whether an HBM stack holds a page of `PAGES0` in the active weave (R572). -/
def stackHolds0 (s : State) (n : Nat) : Bool :=
  let lo := pageOf (stackBase n)
  (pageMap s 0).any (fun r => decide (r.first < lo + 0x4800) && decide (lo < r.first + r.count))

/-- The sag limit of a domain at the shedding level that holds (Table 7 of *Power domains, clocks and
start-up*). -/
def sagLimit (s : State) (d : Nat) : PState :=
  if d ≠ 57 ∧ 6 ≤ s.power.level then .retention
  else if d < 32 ∧ 3 ≤ s.power.level ∧ clusterClass s d = 1 then .retention
  else if 36 ≤ d ∧ d < 44 ∧ 4 ≤ s.power.level ∧ stackHolds0 s (d - 36) = false then .retention
  else .on

/-- Whether a domain must stay off: no image of the type that serves it is loaded (R597), or its stack has failed
training (R315). -/
def barred (s : State) (d : Nat) : Bool :=
  if 36 ≤ d ∧ d < 44 then (tget? s.sec.images 3).isNone || (getStack s (d - 36)).failed
  else if 44 ≤ d ∧ d < 52 then (tget? s.sec.images 2).isNone
  else false

/-- The effective state demanded of a domain (R563). -/
def demanded (s : State) (d : Nat) : PState :=
  let x := getDom s d
  if barred s d then .off else (x.mgmt.low (sagLimit s d)).low (if x.wait then .retention else .on)

/-- Moves a domain towards its effective state: an entry begins, a wake from retention starts, or a
wake from off takes its place in the queue of R567. An entry or a wake under way ends first (R568). -/
def settleDom (s : State) (d : Nat) : State :=
  let x := getDom s d
  let e := demanded s d
  if x.entering.isSome ∨ x.st = .waking then s
  else
    match x.st, e with
    | .on, .retention => setDom s d { x with entering := some .retention }
    | .on, .off => setDom s d { x with entering := some .off }
    | .retention, .off => setDom s d { x with entering := some .off }
    | .retention, .on => setDom s d { x with st := .waking, fromOff := false }
    | .off, .off => setDom s d { x with queued := false }
    | .off, _ => setDom s d { x with queued := true }
    | _, _ => s

/-- Settles every domain of a list. -/
def settleDoms (s : State) (ds : List Nat) : State := ds.foldl settleDom s

/-- Sets the management state of a domain. -/
def setMgmt (s : State) (d : Nat) (p : PState) : State :=
  settleDom (setDom s d { getDom s d with mgmt := p }) d

/-- Whether the logic of a domain runs. -/
def domRuns (s : State) (d : Nat) : Bool :=
  decide ((getDom s d).st = .on) && (getDom s d).entering.isNone

/-- Whether a core runs: its cluster domain is on. -/
def coreRuns (s : State) (c : Nat) : Bool := domRuns s (clusterOf c)

/-- Whether a thread neither runs nor will run before a wake event (R276). -/
def Thread.sleeps (t : Thread) : Bool := t.st = .halted || t.st = .exception || t.st = .wait

/-- Whether every queue of a core is empty. -/
def coreQueuesEmpty (k : Core) : Bool := k.stations.all (fun e => e.2.queue.isEmpty)

/-- Whether a class-1 cluster may enter retention by WAIT (R276). -/
def clusterSleeps (s : State) (g : Nat) : Bool :=
  decide (clusterClass s g = 1) &&
  (coresOf g).all (fun c =>
    let k := getCore s c
    decide (csrBits s (O.corePwrReq c) 1 0 = 1) && coreQueuesEmpty k &&
    k.threads.all (fun e => e.2.sleeps))

/-- Enters retention where R276 holds and a thread of the cluster waits. -/
def retainCluster (s : State) (g : Nat) : State :=
  if clusterSleeps s g ∧ (getDom s g).wait = false ∧ (getDom s g).st = .on then
    settleDom (setDom s g { getDom s g with wait := true }) g
  else s

/-- Starts the wake of a cluster that WAIT put into retention (R277, R568). -/
def wakeCluster (s : State) (g : Nat) : State :=
  if (getDom s g).wait then settleDom (setDom s g { getDom s g with wait := false }) g else s

/-- Whether a fence has stopped the mangle, SHIP and TAKE (R538). -/
def fenceStops (s : State) : Bool := s.err.fence.isSome || decide (s.dev = .fenced)

/-! ### Accesses to memory whose domain does not run (R301, R317, R322) -/

/-- The power domain that holds an address, for those that can be retained (R301, R317). -/
def domainOf (a : Nat) : Option Nat :=
  match placeOf a with
  | .sram g => some g
  | .scratch k => some (clusterOf k)
  | .hbm n => some (36 + n)
  | .reserved => some 43
  | _ => none

/-- Whether an access must wait: its domain is in retention or wakes (R301, R317), or its stack is in
self-refresh as Over, which lasts until reset (R322). -/
def accessHeld (s : State) (a : Nat) : Bool :=
  match domainOf a with
  | none => false
  | some d => decide ((getDom s d).st = .retention ∨ (getDom s d).st = .waking) ||
      (decide (36 ≤ d) && (getStack s (d - 36)).hot)

/-- An access that waits starts the wake of a cluster that WAIT put into retention (R301). -/
def wakeFor (s : State) (a : Nat) : State :=
  match domainOf a with
  | none => s
  | some d => wakeCluster s d

/-- Whether an access to `n` bytes at `a` must wait. -/
def rangeHeld (s : State) (a n : Nat) : Bool := (pagesTouched a n).any (fun p => accessHeld s (p * 0x200000))

/-- Starts the wakes that an access to `n` bytes at `a` starts. -/
def wakeRange (s : State) (a n : Nat) : State := (pagesTouched a n).foldl (fun s p => wakeFor s (p * 0x200000)) s

end Sys2Proof.Machine
end

