-- ==== Sys2Proof/Machine/MemTurn.lean ====
section
/-! DEFINITION. The way to memory: the caches of control cores and gathers (R256, R289, R302 to R304), and the turns of
requests at the controller of an HBM stack that throttles (R318, R320, Table 9 of *Memory tiers and weight
streaming*). -/

namespace Sys2Proof.Machine

/-! ### Caches -/

/-- The lines of 64 bytes that `n` bytes at `a` touch. -/
def linesOf (a n : Nat) : List Nat := if n = 0 then [] else (List.range ((a + n - 1) / 64 - a / 64 + 1)).map (· + a / 64)

/-- Whether the L1 data cache of a core holds `n` bytes at `a`. -/
def l1Holds (s : State) (c a n : Nat) : Bool := (linesOf a n).all (getCore s c).l1.contains

/-- Whether the caches that a core reads through hold `n` bytes at `a`: its L1 data cache or the cache of its cluster. -/
def cacheHolds (s : State) (c a n : Nat) : Bool :=
  (linesOf a n).all (fun x => (getCore s c).l1.contains x || (tget s.ccache (clusterOf c) []).contains x)

/-- Adds a line to a cache of sets of `ways` lines; in a full set it takes the place of the line that `v` picks (R289;
log entry 8). -/
def cacheAdd (sets ways v : Nat) (l : List Nat) (line : Nat) : List Nat :=
  if l.contains line then l
  else
    let mates := l.filter (fun x => decide (x % sets = line % sets))
    line :: (if mates.length < ways then l else l.erase (mates.getD (v % ways) line))

/-- A line that a core has read joins its L1 data cache and the cache of its cluster (R289): 256 sets of 8, and 4,096 sets
of 16. A line that joins a cache is good there. -/
def fillLine (c : Nat) (s : State) (line : Nat) : State :=
  let inL1 := (getCore s c).l1.contains line
  let inL2 := (tget s.ccache (clusterOf c) []).contains line
  if inL1 && inL2 then s
  else
    let k := getCore s c
    let v := Config.victim s.freeCtr
    let s1 := setCore s c { k with l1 := cacheAdd 256 8 v k.l1 line }
    { s1 with
      ccache := tset s1.ccache (clusterOf c) (cacheAdd 4096 16 v (tget s1.ccache (clusterOf c) []) line)
      freeCtr := s.freeCtr + 1
      cacheErr := s1.cacheErr.filter (fun e => decide (e.2.1 ≠ line) ||
        !((decide (e.1 = c) && !inL1) || (decide (e.1 = 256 + clusterOf c) && !inL2))) }

/-- The lines that a read of a core brings into its caches: those of cacheable pages, outside its own scratch (R290,
R296). -/
def fillCaches (s : State) (c a n : Nat) : State :=
  ((linesOf a n).filter (fun x => ((grantOf s (coreClass s c) (pageOf (x * 64))).map (·.cache)).getD false)).foldl
    (fillLine c) s

/-- Forgets lines of the caches of a core and its cluster (R326). -/
def forgetLines (s : State) (c a n : Nat) : State :=
  let gone (l : List Nat) : List Nat := l.filter (fun x => !(linesOf a n).contains x)
  let k := getCore s c
  { setCore s c { k with l1 := gone k.l1 } with
    ccache := tmod s.ccache (clusterOf c) [] gone }

/-! ### Turns at a stack -/

/-- The bytes that a stack serves in a window of 1 µs at a throttle level (Table 8). -/
def levelBytes (level : Nat) : Nat :=
  match level with
  | 1 => 1638400
  | 2 => 1228800
  | _ => 614400

/-- The priority of a class where Table 9 gives no other. -/
def classPrio (cls : Nat) : Nat := if cls = 0 then 1 else if cls = 1 then 3 else 4

/-- Whether an agent still wants what it asked for. -/
def stillWants (s : State) : HbmAgent → Bool
  | .station c n => !(getStn s c n).queue.isEmpty || decide ((getStn s c n).work ≠ .idle)
  | .thread c t => match (getThread s c t).blocked with
    | .miss _ _ _ _ => true
    | _ => false
  | .drain c => !(getCore s c).trace.isEmpty
  | .request id seq => s.wcp.queue.any (fun r => decide (r.session = id) && decide (r.seq = seq))
  | .background op => s.wcp.running.any (fun x => decide (x.req.opcode = op))
  | .dump => s.err.dump.isSome
  | .pair n => ((tget? s.wcp.qps n).map (fun x => x.connected && !x.error)).getD false
  | .fill t => s.mend.srcs.any (fun x => decide (x.target = t) && !x.ended)
  | .hops tag => s.mangle.insts.any (fun i => decide (i.tag = tag)) ||
      s.mangle.waitFrames.any (fun w => decide (w.frame.tag = tag)) || s.mangle.lateOwn.any (fun x => decide (x.1 = tag))
  | .fillIn => s.inbox.any (fun f => match f.frame.body with
      | .mend h _ => decide (h.kind = 0xB)
      | _ => false)
  | .check => s.mend.table.isSome && csrBit s O.mendCtrl 0

/-- Whether a request has its turn at a stack (R318, R320): the stack does not throttle, or its window has bytes left and
no request of a higher priority waits, nor an earlier one of the same. -/
def stackTurn (s : State) (r : HbmReq) (x : Stack) : Bool :=
  decide (x.level = 0) ||
    (decide (x.used < levelBytes x.level) &&
      (let w := x.waits.filter (fun q => stillWants s q.agent)
       w.zipIdx.all (fun q => decide (q.1 = r) || decide (r.prio < q.1.prio) ||
         (decide (q.1.prio = r.prio) && decide (w.idxOf r < q.2)))))

/-- The stacks that `n` bytes at `a` lie in, with the bytes in each. -/
def stackParts (a n : Nat) : List (Nat × Nat) :=
  ((List.range 8).map (fun k => (k, min (a + n) (stackBase (k + 1)) - max a (stackBase k)))).filter
    (fun p => decide (0 < p.2))

/-- Whether an access to `n` bytes at `a` goes on now: memory answers (R301, R317, R322), and it has its turn at every
stack (R320). -/
def mayGo (s : State) (r : HbmReq) (a n : Nat) : Bool :=
  !rangeHeld s a n && (stackParts a n).all (fun p => stackTurn s r (getStack s p.1))

/-- An access goes on: each stack that throttles has served its bytes, and it waits no more (R318, R320). -/
def goOn (s : State) (r : HbmReq) (a n : Nat) : State :=
  (stackParts a n).foldl (fun s p =>
    let x := getStack s p.1
    if x.level = 0 then s else setStack s p.1 { x with used := x.used + p.2, waits := x.waits.erase r }) s

/-- An access does not go on: it starts the wakes that it needs (R301), and waits at each stack that throttles, in order of
arrival (R320). -/
def waitFor (s : State) (r : HbmReq) (a n : Nat) : State :=
  (stackParts a n).foldl (fun s p =>
    let x := getStack s p.1
    if x.level = 0 ∨ x.waits.contains r then s else setStack s p.1 { x with waits := x.waits ++ [r] }) (wakeRange s a n)

/-- A stack at the start of a window of 1 µs: what it served beyond the last window counts in this one, and one that does
not throttle has no queue (log entry 94). -/
def Stack.newWindow (x : Stack) : Stack :=
  if x.level = 0 then { x with waits := [], used := 0 } else { x with used := x.used - levelBytes x.level }

end Sys2Proof.Machine
end

