-- ==== Sys2Proof/Machine/SeamOps.lean ====
section
/-! DEFINITION. Operations of the seam links: sending frames over the route table, spending credits,
taking a link down and training it, changing its width. -/

namespace Sys2Proof.Machine

/-- Changes the mangle. -/
def State.withMangle (s : State) (f : MangleSt → MangleSt) : State := { s with mangle := f s.mangle }

/-- The live instance of a tag and step. -/
def findInst (s : State) (tag step : Nat) : Option Inst :=
  s.mangle.insts.find? (fun i => decide (i.tag = tag) && decide (i.step = step))

/-- The free slot that an instance of a tag takes (R347). -/
def freeSlot (s : State) (tag : Nat) : Option Nat :=
  let used := s.mangle.insts.map (·.slot)
  if tag = 0xFFFF then (if used.contains 511 then none else some 511)
  else (List.range 511).find? (fun n => !used.contains n)

/-- Whether the instance of a tag and step does not open any more: it has opened and closed, or one two steps newer
has opened (R348, R349). -/
def wasClosed (s : State) (tag step : Nat) : Bool :=
  (findInst s tag step).isNone &&
    (decide (step + 2 < tget s.mangle.newest tag 0) || (tget s.mangle.opened tag []).contains step)

/-- Link `n`. -/
def getLink (s : State) (n : Nat) : Link := tget s.links n Link.reset

/-- Changes a link. -/
def setLink (s : State) (n : Nat) (k : Link) : State := { s with links := tset s.links n k }

/-- Optical engine `n`. -/
def getOe (s : State) (n : Nat) : OptEngine := tget s.oes n OptEngine.reset

/-- Changes an optical engine. -/
def setOe (s : State) (n : Nat) (o : OptEngine) : State := { s with oes := tset s.oes n o }

/-- Bytes of a payload on the wire (Table 4 of *Sharded training and the mangle*, R355): 33 for each W8 block, 4 for an
F32 element, 6 for an exact integer, 256 for a statistics record. -/
def Payload.len : Payload → Nat
  | .w8 b => 33 * b.length
  | .f32 b => 4 * b.length
  | .exact b => 6 * b.length
  | .bytes b => b.length
  | .recs b => 256 * b.length

/-- Bytes of a frame body after the link header (R354, R391, R548). -/
def FrameBody.len : FrameBody → Nat
  | .mangle f => 32 + f.payload.len
  | .mend _ .none => 32
  | .mend _ (.notice n) => 32 + 16 + 8 * n.changes.length
  | .mend _ (.bytes b) => 32 + b.length
  | .mgmt b => b.length
  | .class0 b => b.length
  | .wfgQuery _ _ => 9
  | .wfgReply es => 1 + 16 * es.length
  | .other b => b.length

/-- `PROTO` of a frame body (Table 3 of *Seam links and co-packaged optics*). -/
def FrameBody.proto : FrameBody → Nat
  | .mangle _ => 1 | .mend _ _ => 2 | .mgmt _ => 3 | .class0 _ => 4
  | .wfgQuery _ _ => 5 | .wfgReply _ => 5 | .other _ => 0

/-- The virtual channel of a frame body (R435, R439): mangle gathers and moves of bytes take VC2,
reductions VC1, `FINAL` frames VC3. -/
def FrameBody.vc : FrameBody → Nat
  | .mangle f => if f.final then 3 else match f.payload with
      | .bytes _ => 2
      | _ => 1
  | .mend _ _ => 3 | .mgmt _ => 0 | .class0 _ => 0 | .wfgQuery _ _ => 3 | .wfgReply _ => 3
  | .other _ => 0

/-- The flits of a frame: 8 bytes of link header and `LEN` bytes, 248 in a flit (R433, R434). -/
def LinkFrame.flits (f : LinkFrame) : Nat := (8 + f.len + 247) / 248

/-- The route-table entry of a rank (R448). -/
def routeOf (s : State) (d : Nat) : Nat × Nat := tget s.routes d (0xFF, 0xFF)

/-- Whether a link is up. -/
def linkUpNow (s : State) (n : Nat) : Bool := decide (n < 24) && decide ((getLink s n).st = .up)

/-- The first queue entry of a VC, with the rest of the queue. -/
def takeVc (vc : Nat) : List TxEntry → Option (TxEntry × List TxEntry)
  | [] => none
  | e :: es => if e.vc = vc then some (e, es) else
      (takeVc vc es).map (fun p => (p.1, e :: p.2))

/-- The VC that sends next (Table 5), with the flits that VC1 to VC3 have sent in the turn then: VC0 goes first; of the
others with a frame and a credit, those that have not spent their weight in this turn may send, and a turn ends when none
may. Which of them goes is a free value (log entry 49). -/
def pickVc (s : State) (n : Nat) : Option (Nat × List Nat) :=
  let k := getLink s n
  let can (v : Nat) : Bool := decide (0 < k.credits.getD v 0) && k.txq.any (fun e => e.vc = v)
  if can 0 then some (0, k.turn)
  else
    let able := [1, 2, 3].filter can
    let within := able.filter (fun v => decide (k.turn.getD (v - 1) 0 < csrBits s (O.seamArb n) (8 * v - 1) (8 * v - 8)))
    let (l, turn) := if within.isEmpty then (able, [0, 0, 0]) else (within, k.turn)
    (l[Config.vcTurn s.freeCtr % l.length]?).map (fun v => (v, turn.set (v - 1) (turn.getD (v - 1) 0 + 1)))

/-- Frees `n` receive slots of a VC of a link (R440). -/
def freeSlots (s : State) (n vc k : Nat) : State :=
  let l := getLink s n
  setLink s n { l with freed := l.freed.set vc ((l.freed.getD vc 0 + k) % 65536) }

/-- The `ACK` of an end's flits, and whether it is valid: the last `SEQ` accepted in order (R433). -/
def Link.ack (k : Link) : Nat × Bool := ((k.rxSeq + 4095) % 4096, k.accepted)

/-- Sends one flit of the frame at the front of a VC: it spends a credit, takes the next sequence
number and stays in the retry buffer (R436, R440); a receive slot of a frame in passage is freed as its flit leaves. -/
def sendFlit (s : State) (n vc : Nat) : State :=
  let k := getLink s n
  match takeVc vc k.txq with
  | none => s
  | some (e, rest) =>
    let last := decide (e.sent + 1 = e.frame.flits)
    let k1 : Link := { k with
      credits := k.credits.set vc (k.credits.getD vc 0 - 1)
      txSeq := (k.txSeq + 1) % 4096
      unacked := k.unacked ++ [⟨k.txSeq, vc, e.frame, e.sent⟩]
      txq := if last then rest else { e with sent := e.sent + 1 } :: rest }
    let s1 := bump ((setLink s n k1).emit
      (.flit n vc k.txSeq k.ack (e.sent = 0) last e.frame)) (O.seamCntTx n)
    match e.inbound with
    | some m => freeSlots s1 m vc 1
    | none => s1

/-- Whether a link may send a DATA flit now (R427, R436). -/
def maySend (k : Link) : Bool :=
  decide (k.st = .up) && !k.reform && decide (k.unacked.length < 2047)

/-- Sends flits while frames, credits and the retry window allow, at most `fuel` of them. -/
def pumpN (s : State) (n : Nat) : Nat → State
  | 0 => s
  | fuel + 1 =>
    let k := getLink s n
    if maySend k then
      match pickVc s n with
      | some (v, turn) => pumpN (sendFlit (setLink s.useFree n { k with turn := turn }) n v) n fuel
      | none => s
    else s

/-- Sends what the link can send now. -/
def pump (s : State) (n : Nat) : State := pumpN s n (getLink s n).credits.sum

/-- Delivers a frame on this device; `inbound` is the link whose receive slots it keeps. -/
def deliverHere (s : State) (f : LinkFrame) (inbound : Option Nat := none) : State :=
  { s with inbox := s.inbox ++ [⟨f, inbound⟩] }

/-- Delivers a frame that came on a link: a mangle frame keeps its receive slots, those of another are freed (R350, R440). -/
def deliverFrom (s : State) (vc : Nat) (f : LinkFrame) : Option Nat → State
  | none => deliverHere s f
  | some n => if f.proto = 1 then deliverHere s f (some n) else deliverHere (freeSlots s n vc f.flits) f

/-- A frame of this device that is discarded on its way: its instance knows that data of it has not left (R337). -/
def loseOwn (s : State) (f : LinkFrame) : State :=
  match f.body with
  | .mangle m =>
    if f.src = selfRank s then
      { s with mangle := { s.mangle with insts := s.mangle.insts.map (fun i =>
          if i.tag = m.tag ∧ i.step = m.step then { i with lostOut := true } else i) } }
    else s
  | _ => s

/-- Queues a frame on a link and sends what can be sent. -/
def queueOn (s : State) (n vc : Nat) (f : LinkFrame) (inbound : Option Nat) : State :=
  let k := getLink s n
  pump (setLink s n { k with txq := k.txq ++ [⟨vc, f, 0, inbound⟩] }) n

/-- Where a frame for a rank goes (R449): here, a link, or nowhere. -/
inductive Hopway
  | here | link (n : Nat) | none
  deriving DecidableEq, Repr

/-- The way of a frame for rank `d`. -/
def wayOf (s : State) (d : Nat) : Hopway :=
  let (p, a) := routeOf s d
  if selfRank s = d ∨ p = 0xFE ∨ (!linkUpNow s p && decide (a = 0xFE)) then .here
  else if linkUpNow s p then .link p
  else if linkUpNow s a then .link a
  else .none

/-- Counts a discard on a link. -/
def countDiscard (s : State) (n : Nat) : State :=
  if n < 24 then bump s (O.seamCntDiscard n) else s

/-- Counts and reports a frame for rank `d` that has no way (R449). -/
def noWay (s : State) (d : Nat) : State :=
  let (p, a) := routeOf s d
  raise (countDiscard s (if p = 0xFF then a else p)) 0x5006 0 3 8 d

/-- A mend frame header with only kind, source, epoch and subject. -/
def mendHdr (s : State) (kind subject step : Nat) : MendHdr :=
  { kind := kind, part := 0, marked := false, passed := false, src := selfRank s, epoch := epochOf s,
    step := step, subject := subject, tag := 0, chunk := 0, offset := 0 }



/-- Probes a rank (R394): a copy of PROBE on each link of its route entry that is up. -/
def probeRank (s : State) (d : Nat) : State :=
  let (p, a) := routeOf s d
  let b : FrameBody := .mend (mendHdr s 3 d 0) .none
  let f : LinkFrame := ⟨d, selfRank s, b.len, 16, b.proto, b⟩
  let s1 := if s.mend.probes.contains d then s else { s with mend := { s.mend with probes := s.mend.probes ++ [d] } }
  ((if p = a then [p] else [p, a]).filter (linkUpNow s)).foldl (fun s n => queueOn s n 3 f none) s1

/-- The lowest LIVE rank other than `d` (R389, R393). -/
def lowestLiveBut (t : GroupT) (d : Nat) : Option Nat :=
  (List.range t.ranks).find? (fun r => decide (r ≠ d) && decide ((t.members.getD r ⟨0, .gone, false, 0⟩).st = .live))

/-- Acts on finding a rank out of reach, at most once in 100 µs for one rank (R449): SUSPECT to the
lowest LIVE rank other than it, which is the device itself where the device probes (R393, R394). A SUSPECT without a way is
itself discarded and reported, and its rank suspected in turn; three ranks are met at most. -/
def suspectN : Nat → State → Nat → State
  | 0, s, _ => s
  | fuel + 1, s, d =>
    match s.mend.table with
    | none => s
    | some t =>
      let last := tget? s.mend.suspectAt d
      if last.isSome && decide (s.cycle < last.getD 0 + 10000) then s
      else
        let s1 := { s with mend := { s.mend with suspectAt := tset s.mend.suspectAt d s.cycle } }
        match lowestLiveBut t d with
        | none => s1
        | some k =>
          if k = t.self then (if s1.mend.probes.contains d then s1 else probeRank s1 d)
          else
            let b : FrameBody := .mend (mendHdr s1 2 d 0) .none
            let f : LinkFrame := ⟨k, selfRank s1, b.len, 16, b.proto, b⟩
            match wayOf s1 k with
            | .here => deliverHere s1 f
            | .link n => queueOn s1 n b.vc f none
            | .none => suspectN fuel (noWay s1 k) k

/-- Acts on finding a rank out of reach (R449). -/
def suspectRank (s : State) (d : Nat) : State := suspectN 4 s d

/-- Discards a frame that has no way (R449). -/
def unreachable (s : State) (d : Nat) : State := suspectRank (noWay s d) d

/-- Sends a frame on its way, on a VC, keeping its receive slots when it is forwarded. -/
def sendOn (s : State) (vc : Nat) (f : LinkFrame) (inbound : Option Nat) : State :=
  match wayOf s f.dst with
  | .here => deliverFrom s vc f inbound
  | .link n => queueOn s n vc f inbound
  | .none =>
    let s1 := loseOwn (unreachable s f.dst) f
    match inbound with
    | some m => freeSlots s1 m vc f.flits
    | none => s1

/-- Sends a frame of this device to a rank (R434, R435). -/
def sendFrame (s : State) (dst : Nat) (b : FrameBody) : State :=
  sendOn s b.vc ⟨dst, selfRank s, b.len, 16, b.proto, b⟩ none

/-- Sends a mend frame (R391). -/
def sendMend (s : State) (dst : Nat) (h : MendHdr) (b : MendBody := .none) : State :=
  sendFrame s dst (.mend h b)

/-- Sends the same mend frame to each of a list of ranks, in order. -/
def sendMendAll (s : State) (h : MendHdr) (b : MendBody) : List Nat → State
  | [] => s
  | d :: ds => sendMendAll (sendMend s d h b) h b ds

/-! ### Link down and training -/

/-- The receive-buffer sizes that the next training puts in force (R439, R458). -/
def vcSizes (s : State) (n : Nat) : List Nat :=
  [csrBits s (O.seamVcCredA n) 10 0, csrBits s (O.seamVcCredA n) 26 16,
   csrBits s (O.seamVcCredB n) 10 0, csrBits s (O.seamVcCredB n) 26 16]

/-- The receive slots of a VC of a link that frames received whole still hold: those that wait for FRAME_RX or for the
mangle, and those that wait to leave on a link (R350, R440, R450). -/
def heldFlits (s : State) (n v : Nat) : Nat :=
  (((getLink s n).rxq.filter (fun r => r.1 = v)).map (fun r => r.2.flits)).sum +
  ((s.inbox.filter (fun a => a.inbound = some n && decide (a.frame.body.vc = v))).map (fun a => a.frame.flits)).sum +
  ((s.mangle.waitFrames.filter (fun w => decide ((FrameBody.mangle w.frame).vc = v))).map (fun w => match w.slots with
    | some (m, k) => if m = n then k else 0
    | none => 0)).sum +
  (s.links.map (fun l => ((l.2.txq.filter (fun e => e.inbound = some n && decide (e.vc = v))).map (fun e => e.frame.flits - e.sent)).sum)).sum

/-- Starts training (R444): credits, numbers and the partner's identity start afresh. A slot that a frame still holds
is reported freed when it leaves (log entry 68). -/
def startTraining (s : State) (n : Nat) : State :=
  let c := vcSizes s n
  let k := { Link.reset with
    st := .training, cfg := c, laneThr := csrBits s (O.seamLaneThr n) 19 0, freed := (List.range 4).map (fun v => c.getD v 0 - heldFlits s n v), rxq := (getLink s n).rxq }
  csrPut (csrPut (setLink s n k) (O.seamPartnerA n) 0) (O.seamPartnerB n) 0

/-- Routes again the frames that had not started on a link (R443). -/
def reroute (s : State) : List TxEntry → State
  | [] => s
  | e :: es => reroute (sendOn s e.vc e.frame e.inbound) es

/-- The members, not found failed yet, whose route entry names link `n` and has no link up (R392). -/
def strandedBy (s : State) (t : GroupT) (n : Nat) : List Nat :=
  (List.range t.members.length).filter (fun d =>
    decide (d ≠ t.self) && [MState.live, .ready, .assigned].contains (t.members.getD d ⟨0, .gone, false, 0⟩).st &&
    decide ((routeOf s d).1 = n ∨ (routeOf s d).2 = n) && decide (wayOf s d = .none))

/-- Reports the members that a link's going down leaves out of reach (R392, Table 8 of *Mending*). -/
def reportStranded (s : State) (n : Nat) : State :=
  match s.mend.table with
  | none => s
  | some t => (strandedBy s t n).foldl suspectRank s

/-- Takes a link down (R443, R640): what has started is discarded and counted, what has not is routed
again; the link trains again while `EN` is 1, and otherwise reads OFF. `report` is whether the
declaration is counted and LINK_DOWN raised. A frame in passage that is discarded frees its receive slots. -/
def takeDown (s : State) (n : Nat) (report : Bool) : State :=
  let k := getLink s n
  let started := (k.unacked.filter (fun u => decide (u.idx + 1 = u.frame.flits))).length +
    (k.txq.filter (fun e => 0 < e.sent)).length + (k.rxPart.filter (fun p => 0 < p)).length
  let again := k.txq.filter (fun e => e.sent = 0)
  let s0 := (k.txq.filter (fun e => 0 < e.sent)).foldl (fun s e => match e.inbound with
    | some m => freeSlots s m e.vc (e.frame.flits - e.sent)
    | none => s) s
  let gone := (k.unacked.map (·.frame)) ++ ((k.txq.filter (fun e => 0 < e.sent)).map (·.frame))
  let s1 := gone.foldl loseOwn (setLink s0 n { Link.reset with st := .down, cfg := k.cfg, rxq := k.rxq })
  let s2 := if started = 0 then s1 else bump s1 (O.seamCntDiscard n) started
  let s3 := if report then raise (bump s2 (O.seamCntDown n)) 0x5003 0 3 5 n else s2
  let s4 := reroute (reportStranded s3 n) again
  if csrBit s4 (O.seamCtrl n) 0 then startTraining s4 n
  else setLink s4 n { getLink s4 n with st := .off }

/-- The three links of an engine whose transmitters go dark: one that is up is declared down, and one that trains starts its
training again (R444, R456). -/
def engineLinksDown (s : State) (oe : Nat) : State :=
  [3 * oe, 3 * oe + 1, 3 * oe + 2].foldl (fun s n =>
    if linkUpNow s n then takeDown s n true else if (getLink s n).st = .training then startTraining s n else s) s

/-- An optical engine's domain goes off: without the engine the lanes of its links have no lock, and those that are UP are
declared down (R425, R428, R442). Another domain has no links. -/
def darkLinks (s : State) (d : Nat) : State := if 44 ≤ d ∧ d < 52 then engineLinksDown s (d - 44) else s

/-- The links of an optical engine's domain that are not OFF train again from the start while `EN` is 1 (R442, R444). -/
def retrainLinks (s : State) (d : Nat) : State :=
  if 44 ≤ d ∧ d < 52 then
    [3 * (d - 44), 3 * (d - 44) + 1, 3 * (d - 44) + 2].foldl (fun s n =>
      if (getLink s n).st ≠ .off ∧ csrBit s (O.seamCtrl n) 0 = true then startTraining s n else s) s
  else s

/-- Replays every unacknowledged flit of a list, in order (R437). -/
def replayFlits (s : State) (n : Nat) (us : List TxFlit) : State :=
  match us with
  | [] => s
  | _ =>
    bump { s with out := (us.map (fun u =>
      Emit.flit n u.vc u.seq (getLink s n).ack (u.idx = 0) (u.idx + 1 = u.frame.flits) u.frame)).reverse ++ s.out }
      (O.seamCntRetry n)

/-- Whether a change of lanes is under way at this end: the interleave re-forms, or a LANE_MAP awaits its flit (R438). -/
def Link.remapping (k : Link) : Bool := k.reform || k.mapNext.isSome

/-- Begins a replay, or has it wait until a change of lanes is complete; it then starts from the oldest unacknowledged flit
(R438). -/
def replayFrom (s : State) (n : Nat) (us : List TxFlit) : State :=
  let k := getLink s n
  if k.remapping then setLink s n { k with replayDue := true } else replayFlits s n us

/-- Begins the replay that waited for a change of lanes, once it is complete (R438). -/
def replayWaited (s : State) (n : Nat) : State :=
  let k := getLink s n
  if k.replayDue && !k.remapping then replayFlits (setLink s n { k with replayDue := false }) n k.unacked else s

/-! ### Width -/

/-- The number of lanes in a bitmap of five. -/
def laneCount (m : Nat) : Nat := ((List.range 5).filter (fun l => bitOf m l)).length

/-- The lowest lane of a bitmap. -/
def lowestLane (m : Nat) : Option Nat := (List.range 5).find? (fun l => bitOf m l)

/-- The `k` lowest lanes of a bitmap. -/
def lowestLanes (m k : Nat) : Nat :=
  (((List.range 5).filter (fun l => bitOf m l)).take k).foldl (fun a l => a + 2 ^ l) 0

/-- Emits a control flit with the end's `ACK` (R433). -/
def emitCtl (s : State) (n : Nat) (c : CtlFlit) : State := s.emit (.control n c (getLink s n).ack)

/-- Sends a control flit: while the interleave re-forms it waits (R427). -/
def sendCtl (s : State) (n : Nat) (c : CtlFlit) : State :=
  let k := getLink s n
  if k.reform then setLink s n { k with waitCtl := k.waitCtl ++ [c] } else emitCtl s n c

/-- Sends a LANE_MAP with the active lanes and the next sequence number (R426, R429), before the interleave re-forms. -/
def sendLaneMap (s : State) (n : Nat) : State :=
  emitCtl s n (.laneMap (getLink s n).active (getLink s n).txSeq)

/-- The lanes of a link that can carry flits: locked or in use, and not failed. -/
def Link.usable (k : Link) : Nat := laneCount ((k.active ||| k.lock) &&& (31 - k.failed))

/-- The lanes of a link's full width: its active lanes, or while it is shed those to which it returns (R447). -/
def Link.full (k : Link) : Nat := k.preShed.getD k.active

/-- Acts on the lowest failed active lane (R426 to R429): the spare takes its place, or the link narrows and re-forms its
interleave; with fewer than two usable lanes the link goes down at once. DESIGN CHOICE (log entry 96): while the link is shed,
the spare takes the place of an active lane, and without it an idle lane does. -/
def settleLane (s : State) (n : Nat) : State :=
  let k := getLink s n
  if k.st ≠ .up then s
  else if k.usable < 2 then takeDown s n true
  else if k.reform then s
  else
    match lowestLane (k.active &&& k.failed) with
    | none => s
    | some l =>
      if !bitOf k.full 4 && !bitOf k.failed 4 && bitOf k.lock 4 then
        let swap (m : Nat) : Nat := setBits (setBits m l l 0) 4 4 1
        sendLaneMap (raise (bump (setLink s n { k with active := swap k.active, preShed := k.preShed.map swap })
          (O.seamCntSpare n)) 0x5001 1 3 5 n) n
      else
        let full := setBits k.full l l 0
        let active := if k.preShed.isSome then lowestLanes (full &&& (31 - k.failed)) 2 else full
        sendLaneMap (raise (setLink s n { k with active := active, preShed := k.preShed.map (fun _ => full), reform := true })
          0x5002 0 3 5 n) n

/-- Acts on the failed active lanes in ascending order, until none is left or a narrowing re-forms the interleave (R429). -/
def settleLanes (s : State) (n : Nat) : State := (List.range 5).foldl (fun s _ => settleLane s n) s

/-- Marks a lane failed (R425). In training the four lowest lanes that still lock are to be active (R445). -/
def markFailed (s : State) (n lane : Nat) : State :=
  let k := getLink s n
  let k1 := { k with failed := setBits k.failed lane lane 1, lock := setBits k.lock lane lane 0 }
  if 5 ≤ lane then s
  else match k.st with
    | .up => setLink s n k1
    | .training => if k.stage = .optical ∨ k.stage = .lock then s else setLink s n { k1 with active := lowestLanes k1.lock 4 }
    | _ => s

/-- Acts on the lanes of a link marked failed: a link in training with fewer than two lanes trains again (R445). -/
def actOnFailed (s : State) (n : Nat) : State :=
  let k := getLink s n
  if k.st = .training ∧ k.stage ≠ .optical ∧ k.stage ≠ .lock ∧ laneCount k.lock < 2 then startTraining s n else settleLanes s n

/-- A lane fails (R425): it is retired, and the link acts on it. -/
def failLane (s : State) (n lane : Nat) : State := actOnFailed (markFailed s n lane) n

/-- Goes to two active lanes, keeping the others trained and idle (R447). -/
def shedLanes (s : State) (n : Nat) : State :=
  let k := getLink s n
  if k.st ≠ .up ∨ k.preShed.isSome then s
  else if laneCount k.active ≤ 2 then setLink s n { k with preShed := some k.active }
  else sendLaneMap (setLink s n { k with preShed := some k.active, active := lowestLanes k.active 2, reform := true }) n

/-- Returns to the width before shedding by the steps of R426, so that flits go on (R447); an idle lane that failed meanwhile
is then acted on. -/
def unshedLanes (s : State) (n : Nat) : State :=
  let k := getLink s n
  match k.preShed with
  | some m =>
    let s1 := setLink s n { k with preShed := none, active := m }
    settleLanes (if m = k.active then s1 else sendLaneMap s1 n) n
  | none => s

/-- The LINK_ID this end sends (Table 4 of *Seam links and co-packaged optics*). -/
def ownLinkId (s : State) (n : Nat) : CtlFlit :=
  .linkId (BitVec.ofNat 32 (csrGet s O.globalBoardTag))
    (BitVec.ofNat 32 ((if s.mend.table.isSome then selfRank s % 0x4000 + 0x8000 else 0) + n * 0x10000))

/-- Sends the freed slots as a CREDIT flit (R440). -/
def sendCredit (s : State) (n : Nat) : State :=
  let k := getLink s n
  emitCtl (setLink s n { k with reported := k.freed }) n (.credit k.freed)

/-- Sends LINK_ID again on every link that is up (R446). -/
def announceIds (s : State) : State :=
  (List.range 24).foldl (fun s n => if linkUpNow s n then sendCtl s n (ownLinkId s n) else s) s

/-- Sends an IDLE flit, with the end's `ACK`, on a link that is up and has nothing else to send (R442). -/
def idleFlit (s : State) (n : Nat) : State :=
  let k := getLink s n
  if linkUpNow s n && !k.reform && !(maySend k && (pickVc s n).isSome) then s.emit (.idle n k.ack) else s

end Sys2Proof.Machine
end

