-- ==== Sys2Proof/Machine/MemErr.lean ====
section
/-! DEFINITION. Uncorrectable data (R327, R331, Table 10 of *Memory tiers and weight streaming*),
writes by the device's agents with the overwrite detector (R229), and what a failed access costs the
step or the request. -/

namespace Sys2Proof.Machine

/-- The device drops its micro-batch for the step (R221, R364); with no class-1 step in progress it drops
nothing (R528). -/
def dropMicroBatch (s : State) : State :=
  if s.inStep then { s with pru := { s.pru with dropped := true } } else s

/-- Ends the request in service on the lane of a cluster with FAILED (R517). -/
def failService (s : State) (cluster : Nat) : State :=
  { s with score := { s.score with lanes := s.score.lanes.map (fun l =>
      if l.cluster = cluster ∧ l.serving then { l with failed := true } else l) } }

/-- Marks the active weights of the lane of a cluster bad (R517). -/
def markBadWeights (s : State) (cluster : Nat) : State :=
  { s with score := { s.score with lanes := s.score.lanes.map (fun l =>
      if l.cluster = cluster then { l with bad := true } else l) } }

/-- The rank whose copy this device holds: the one whose partner it is (R379); none where N is 1 (R377). -/
def heldRank (t : GroupT) : Option Nat :=
  if t.ranks ≤ 1 then none else (List.range t.ranks).find? (fun r => decide ((t.members.getD r ⟨0, .gone, false, 0⟩).partner = t.self))

/-- Sets `COPY` of a member entry. -/
def setCopy (t : GroupT) (r : Nat) (v : Bool) : GroupT :=
  match t.members[r]? with
  | some m => { t with members := t.members.set r { m with copy := v } }
  | none => t

/-- Marks the copy this device holds invalid, drops its check, reports it to the keeper, and asks the owner for a rebuild
where that is enabled (R383) and no fill is being received. -/
def copyInvalid (s : State) : State :=
  match s.mend.table with
  | none => s
  | some t => match heldRank t with
    | none => s
    | some r =>
      let s1 := { s with mend := { s.mend with table := some (setCopy t r false), ownDigest := none, rxDigest := none } }
      let s2 := sendMend s1 t.keeper (mendHdr s1 7 r s.step) (.bytes (leBytes 4 0))
      if csrBit s O.mendCtrl 1 ∧ s.mend.recv.all (·.rebuild) then
        let fresh : FillRecv := ⟨r, true, false, false, 0, [], none, [], [], none, []⟩
        let s3 : State := { s2 with mend := { s2.mend with recv := some fresh } }
        sendMend s3 r { mendHdr s3 9 r 0 with part := 1 }
      else s2

/-- Marks the rack buffer that holds an address invalid (R313). A block that is running from it ends (Table 10), and
its pins with it; whether one is. -/
def rackBad (s : State) (a : Nat) : State × Bool :=
  match s.gate.racks.find? (fun e => decide (e.1 ≤ a) && decide (a < e.1 + e.2.len)) with
  | some (b, r) =>
    let ends := (s.gate.pins.filter (fun p => decide (p.2.1 = b))).map (·.1)
    let shut := s.gate.block.any (fun x => ends.contains x)
    ({ s with gate := { s.gate with
        racks := tset s.gate.racks b { r with valid := false }
        block := if shut then none else s.gate.block
        decided := s.gate.decided && !shut
        pins := s.gate.pins.filter (fun p => !ends.contains p.1)
        stale := s.gate.stale.filter (fun p => !ends.contains p.1) } }, !ends.isEmpty)
  | none => (s, false)

/-- The source of a memory event: the stack, or the cluster of an on-chip address. -/
def memSource (a : Nat) : Nat × Nat :=
  match placeOf a with
  | .sram g => (3, g)
  | .scratch k => (3, clusterOf k)
  | .hbm n => (4, n)
  | .reserved => (4, 7)
  | _ => (0, 0)

/-- Counts an uncorrectable error of its stack or die (R331). -/
def countUe (s : State) (a : Nat) : State :=
  match memSource a with
  | (4, n) => bump s (O.hbmUe n)
  | (3, g) => bump s (O.hbmSramUe (g / 8))
  | _ => s

/-- Counts a corrected error of its stack or die, with MEM_CORRECTED (R324). -/
def memCorrected (s : State) (a : Nat) : State :=
  let (k, n) := memSource a
  raise (match k with
    | 4 => bump s (O.hbmCe n)
    | 3 => bump s (O.hbmSramCe (n / 8))
    | _ => s) 0x2001 1 3 k n

/-- What a read of `n` bytes at `a` meets (R323 to R325): an error that the code or the second read of the controller
corrects is written back corrected and counted; what neither corrects is uncorrectable from now on. -/
def meetUpset (s : State) (u : Nat × Upset) : State :=
  let s1 : State := { s with upsets := s.upsets.erase u }
  match u.2 with
  | .lost => { s1 with bad := (codeWords u.1).foldl (fun l w => if l.contains w then l else w :: l) s1.bad }
  | _ => memCorrected s1 u.1

/-- The errors in memory that a read of `n` bytes at `a` meets. -/
def upsetsIn (s : State) (a n : Nat) : List (Nat × Upset) := s.upsets.filter (fun u => codeMeets u.1 a n)

/-- A read of `n` bytes at `a` meets the errors there. -/
def readMeets (s : State) (a n : Nat) : State := (upsetsIn s a n).foldl meetUpset s

/-- What errors in the bits of one check code make of it (R323, R325): SECDED corrects one bit and detects two; the symbol
code of an HBM burst corrects one symbol of 16 bits and detects two, and a second read may find them gone. What neither
code is said to find, more errors than two, is taken as found (log entry 93). -/
def upsetKind (a : Nat) (bits : List Nat) (gone : Bool) : Upset :=
  let hbm := decide (codeLen a = 32)
  if ((if hbm then bits.map (· / 16) else bits).eraseDups).length ≤ 1 then .corrected
  else if hbm && gone then .reread else .lost

/-- An error strikes memory (R323, R325). -/
def strike (s : State) (u : Nat × List Nat × Bool) : State :=
  if placeAlive s u.1 ∧ u.2.1 ≠ [] then { s with upsets := s.upsets ++ [(codeBase u.1, upsetKind u.1 u.2.1 u.2.2)] } else s

/-- The lines of a cache by its number: the L1 data cache of a core, or 256 plus the cluster of a cluster cache. -/
def cacheLines (s : State) (k : Nat) : List Nat := if k < 256 then (getCore s k).l1 else tget s.ccache (k - 256) []

/-- An error strikes a line of a cache, where one is held (R323): whether its code corrects it. -/
def strikeCache (s : State) (u : Nat × Nat × List Nat) : State :=
  if (cacheLines s u.1).contains u.2.1 ∧ u.2.2 ≠ [] then
    { s with cacheErr := s.cacheErr ++ [(u.1, u.2.1, decide (u.2.2.eraseDups.length ≤ 1))] }
  else s

/-- What the read of a line of a cache meets (R324, R326): an error that its code corrects counts as one; a line that it does
not correct is invalidated, to be fetched again, and counts as one too. -/
def meetCache (s : State) (c k line : Nat) : State :=
  let hits := s.cacheErr.filter (fun e => decide (e.1 = k) && decide (e.2.1 = line))
  if hits.isEmpty then s
  else
    let s1 : State := { s with cacheErr := s.cacheErr.filter (fun e => decide (e.1 ≠ k) || decide (e.2.1 ≠ line)) }
    let s2 := if hits.all (fun e => e.2.2) then s1
      else if k < 256 then setCore s1 k { getCore s1 k with l1 := (getCore s1 k).l1.filter (· ≠ line) }
      else { s1 with ccache := tmod s1.ccache (k - 256) [] (fun l => l.filter (· ≠ line)) }
    hits.foldl (fun s _ => memCorrected s (scratchBase c)) s2

/-- A read of a core through its caches meets the errors of the lines that it finds there: those of its L1 data cache, and
where that holds a line no more, those of the cache of its cluster. -/
def cacheMeets (s : State) (c a n : Nat) : State :=
  (linesOf a n).foldl (fun s x =>
    let s1 := if (getCore s c).l1.contains x then meetCache s c c x else s
    if (getCore s1 c).l1.contains x then s1
    else if (tget s1.ccache (clusterOf c) []).contains x then meetCache s1 c (256 + clusterOf c) x else s1) s

/-- `HBM.ERR_ADDR_HI` as an uncorrectable error would write it. -/
def errHi (cls role a : Nat) : Nat := 0x80000000 + cls % 4 * 0x4000 + role * 0x800 + a / 2 ^ 32 % 256

/-- Uncorrectable data met by an access of a class (R327): counted, recorded unless a record is held
(R331), raised with the severity and the action of its page's role; `contained` for an RDMA READ, whose severity
is always CONTAINED (R479). -/
def memUncorr (s : State) (cls a : Nat) (contained : Bool := false) : State :=
  let role := roleOf s cls (pageOf a)
  let lo := a % 2 ^ 32
  let hi := errHi cls role a
  let s1 := countUe s a
  let s2 := if csrBit s1 O.hbmErrAddrHi 31 then s1
    else csrPut (csrPut s1 O.hbmErrAddrLo lo) O.hbmErrAddrHi hi
  let (k, n) := memSource a
  let (s3, running) := if role = 3 then rackBad s2 a else (s2, false)
  let sev := if contained then 2 else match role with
    | 1 => 4
    | 2 => 2
    | 3 => if running then 3 else 2
    | _ => if cls = 1 then 3 else 2
  let s4 := raise s3 0x2002 sev cls k n [lo, hi]
  if role = 2 then copyInvalid s4
  else if sev = 3 then dropMicroBatch s4
  else if cls = 0 then
    match placeOf a with
    | .sram g => if role = 4 then markBadWeights s4 g else s4
    | _ => s4
  else s4

/-- Uncorrectable data met by an access of a core: in class 0 the request that its lane serves fails too (R517). -/
def memUncorrBy (s : State) (core a : Nat) : State :=
  let s1 := memUncorr s (coreClass s core) a
  if coreClass s core = 0 then failService s1 (clusterOf core) else s1

/-- Counts the open detector windows of one core that a write falls into (R229). -/
def overwriteCore (s : State) (a n : Nat) (c : Nat) : State :=
  let k := getCore s c
  let hit := k.windows.filter (fun w => decide (w.2.1 < a + n) && decide (a < w.2.1 + w.2.2))
  if hit.isEmpty then s else bump s (O.corePrefetchOverwritten c) hit.length

/-- A write by an agent of the device: memory changes, and open detector windows notice (R229). A write of a part of what
lies under one check code reads the rest, and meets the errors there (log entry 93). -/
def agentWrite (s : State) (a : Nat) (bs : List Byte) : State :=
  let s1 := ((upsetsIn s a bs.length).filter (fun u => !codeCovered u.1 a bs.length)).foldl meetUpset s
  (s.cores.map Prod.fst).foldl (fun s c => overwriteCore s a bs.length c) (memPut s1 a bs)

/-- A record of the TRACE_DEEP trace: a handler entry or exit, a command dispatch or a mangle hop (R604, R610;
log entry 40). -/
def deepTrace (s : State) : State :=
  let base := csrGet s O.secMtraceBase * 256
  let wr := csrGet s O.secMtraceWr
  if s.sec.scopes % 2 = 0 ∨ base = 0 ∨ 0 < s.power.level then s
  else
    let bs := Config.deepRecord s.freeCtr
    let n := 0x1000000 - wr
    if class2May s true base 0x1000000 && inHbm base 0x1000000 then
      csrPut (agentWrite (agentWrite s.useFree (base + wr) (bs.take n)) base (bs.drop n)) O.secMtraceWr
        ((wr + bs.length) % 0x1000000)
    else raise s 0x9013 0 2 0 0

end Sys2Proof.Machine
end

