-- ==== Sys2Proof/Machine/CoreOps.lean ====
section
/-! DEFINITION. Operations of the control cores: wake events and their latches (R275, R277), thread
switching (R272, R273), starting and stopping threads (R252, R261, R263), exceptions (R278 to R280),
trace packets (R281 to R283), lint entries (R549) and SR keys (R90 to R92, R263). -/

namespace Sys2Proof.Machine

/-! ### Wake events and scheduling -/

/-- Whether a thread may not issue although nothing else holds it: a JALR of its buffer, or a full buffer, waits for a branch
(R270, R273). -/
def Thread.behind (x : Thread) : Bool :=
  x.buffer.any (fun w => decide (w.depth ≠ 0) && (match w.op with
    | .jalr _ _ => true
    | _ => false)) ||
  (decide (4 ≤ x.buffer.length) && x.buffer.all (fun w => decide (w.depth ≠ 0)))

/-- One thread takes a wake event: a thread in WAIT that names it resumes, unless its buffer holds it (R273); a thread not in
WAIT latches it (R275). -/
def Thread.event (t : Thread) (ev : Nat) : Thread :=
  match t.st, t.blocked with
  | .wait, .wait m => if bitOf m ev then { t with st := if t.behind then .queueFull else .ready, blocked := .none } else t
  | _, _ => { t with latch := t.latch ||| 2 ^ ev }

/-- Whether a thread waits for a wake event that it names. -/
def Thread.awaits (t : Thread) (ev : Nat) : Bool :=
  match t.st, t.blocked with
  | .wait, .wait m => bitOf m ev
  | _, _ => false

/-- The running thread of a core. -/
def runningOf (k : Core) : Option Nat :=
  (List.range 8).find? (fun t => decide ((tget k.threads t Thread.reset).st = .running))

/-- The next ready thread after the one that ran last, ascending and wrapping (R272). -/
def nextReady (k : Core) : Option Nat :=
  ((List.range 8).map (fun i => (k.cur + 1 + i) % 8)).find? (fun t =>
    decide ((tget k.threads t Thread.reset).st = .ready))

/-- Gives the core to the next ready thread when no thread runs (R272). -/
def Core.schedule (k : Core) : Core :=
  match runningOf k, nextReady k with
  | none, some t =>
    { k with cur := t
             threads := tset k.threads t { tget k.threads t Thread.reset with st := .running, run := 0 } }
  | _, _ => k

/-- Gives the core to the next ready thread when no thread runs. -/
def reschedule (s : State) (c : Nat) : State := setCore s c (getCore s c).schedule

/-- Whether a waiting thread of a core names a wake event. -/
def Core.named (k : Core) (ev : Nat) : Bool := (List.range 8).any (fun t => (tget k.threads t Thread.reset).awaits ev)

/-- A wake event at every thread of a core; it starts the wake of a retained cluster when a waiting
thread names it (R275, R277). -/
def coreEvent (s : State) (c ev : Nat) : State :=
  let k := getCore s c
  let ts := (List.range 8).foldl (fun ts t => tset ts t ((tget k.threads t Thread.reset).event ev)) k.threads
  let s1 := reschedule (setCore s c { k with threads := ts }) c
  if k.named ev then wakeCluster s1 (clusterOf c) else s1

/-- A tile or credit for a core whose cluster is not on reaches the cluster router: a wake starts when a waiting
thread names the arrival (R277). -/
def routerEvent (s : State) (c : Nat) : State :=
  if (getCore s c).named 1 then wakeCluster s (clusterOf c) else s

/-- A thread switches out in a state that is not running: the switch is counted and the next ready
thread issues (R272, `CORE.SWITCHES`). -/
def switchOut (s : State) (c t : Nat) (st : TState) (b : Blocked) : State :=
  reschedule (bump (setThread s c t { getThread s c t with st := st, blocked := b }) (O.coreSwitches c)) c

/-- A thread becomes ready, and runs at once when no other does. -/
def makeReady (s : State) (c t : Nat) : State :=
  reschedule (setThread s c t { getThread s c t with st := .ready, blocked := .none }) c

/-- What a thread waited for has come: it is ready, unless its buffer still holds it (R273). -/
def releaseThread (s : State) (c t : Nat) : State :=
  if (getThread s c t).behind then setThread s c t { getThread s c t with st := .queueFull, blocked := .none }
  else makeReady s c t

/-! ### Lint entries -/

/-- The lint ring of a station: the 18 stations of a core in order of code and then of number
(R549, R551): FETCH 0 and 1, ARRAY 2 to 5, FOOT 6 to 9, PLAIN 10, SHAPE 11, GATHER 12, STORE 13 and 14,
SHIP 15, TAKE 16, STAT 17. -/
def lintRing (stn : Nat) : Nat := if stn < 6 then stn else stn + 4

/-- Records an entry in a lint ring of 64, unless the rings are frozen (R549, R550). -/
def lint (s : State) (c ring kind sid entry arg : Nat) : State :=
  if s.err.frozen ∨ csrBit s (O.coreLintCtrl c) 0 then s
  else
    let k := getCore s c
    let l := tget k.lint ring []
    let r : LintRec := ⟨s.cycle % 2 ^ 32, kind, sid, entry, s.step, arg⟩
    setCore s c { k with lint := tset k.lint ring ((r :: l).take 64) }

/-! ### Trace -/

/-- Whether `EN` and the bit of a thread in `THREADS` are set. -/
def traceArmed (s : State) (c t : Nat) : Bool :=
  csrBit s (O.coreTraceCtrl c) 0 && csrBit s (O.coreTraceCtrl c) (8 + t)

/-- Whether a thread is traced: it is armed, and no supply sag sheds trace. -/
def traceOn (s : State) (c t : Nat) : Bool := traceArmed s c t && decide (s.power.level = 0)

/-- The bytes of a SYNC packet (Table 6 of *The station control core*). -/
def syncBytes (s : State) (t pc : Nat) : List Byte :=
  BitVec.ofNat 8 (0xC0 + t) :: (leBytes 3 pc ++ leBytes 4 (s.cycle % 2 ^ 32))

/-- The bytes of a TARGET packet: the low bytes of the last known PC that a JALR target replaces,
1 to 3 of them. -/
def targetBytes (last pc : Nat) : List Byte :=
  let n := if last / 2 ^ 8 = pc / 2 ^ 8 then 1 else if last / 2 ^ 16 = pc / 2 ^ 16 then 2 else 3
  BitVec.ofNat 8 (0x80 + n) :: leBytes n pc

/-- The bytes of a packet after a last known PC; a SYNC is written by `Core.traceSync`. -/
def TracePkt.bytes (p : TracePkt) (last : Nat) : List Byte :=
  match p with
  | .tnt v => [BitVec.ofNat 8 v]
  | .target pc => targetBytes last pc
  | .mark v => 0xF0#8 :: leBytes 4 v
  | .sync => []

/-- Bytes of a trace ring. -/
def ringBytes (s : State) (c : Nat) : Nat := 2 ^ csrBits s (O.coreTraceSize c) 4 0

/-- Bytes of a trace ring that the host has not read. -/
def ringUsed (s : State) (c : Nat) : Nat :=
  let n := ringBytes s c
  let d := (csrGet s (O.coreTraceWr c) + n - csrGet s (O.coreTraceRd c) % n) % n
  if d = 0 ∧ (getCore s c).ringFull then n else d

/-- Whether a chunk written to a trace ring leaves `TRACE_WR` no further than `TRACE_RD` (R283; log entry 33). -/
def ringRoom (s : State) (c : Nat) : Bool := decide (ringUsed s c + 4096 ≤ ringBytes s c)

/-- Whether `n` bytes of trace find no room (R283): the buffer of 16 KiB would overflow, or it holds a chunk
that would take `TRACE_WR` past `TRACE_RD`. -/
def traceBlocked (s : State) (c n : Nat) : Bool :=
  let m := (getCore s c).trace.length
  decide (16384 < m + n) || (decide (4096 ≤ m) && !ringRoom s c)

/-- Appends bytes to a trace buffer. -/
def Core.traceAppend (k : Core) (bs : List Byte) : Core :=
  { k with trace := k.trace ++ bs, traceSince := k.traceSince + bs.length }

/-- Writes a SYNC for a thread. -/
def Core.traceSync (k : Core) (s : State) (t pc : Nat) : Core :=
  { k.traceAppend (syncBytes s t pc) with
      traceThread := t, traceSince := 0, tracePc := tset k.tracePc t pc }

/-- Appends a packet of a thread with what stands before it (R282, R283): DROP and SYNC where bytes were lost or
a sag has ended, a SYNC where 4,096 bytes would pass without one, THREAD where the packets of another thread
stood last. The SYNC names the address `pc` from which the packet tells on. -/
def Core.tracePacket (k : Core) (s : State) (w : TraceWait) : Core :=
  let dropped := decide (k.traceLost ≠ 0) || k.traceGap
  let k1 := if dropped then
      ({ k with traceLost := 0, traceGap := false } : Core).traceAppend (0xE0#8 :: leBytes 2 (min k.traceLost 0xFFFF))
    else k
  let k2 := if dropped || decide (w.pkt = .sync) || decide (4096 ≤ k1.traceSince + 14) then k1.traceSync s w.thread w.pc
    else k1
  let k3 := if k2.traceThread = w.thread then k2
    else { k2.traceAppend [BitVec.ofNat 8 (0xA0 + w.thread)] with traceThread := w.thread }
  let k4 := k3.traceAppend (w.pkt.bytes (tget k3.tracePc w.thread 0))
  match w.pkt with
  | .target pc => { k4 with tracePc := tset k4.tracePc w.thread pc }
  | _ => k4

/-- The bytes that are lost with a packet. -/
def lostBytes (k : Core) (w : TraceWait) : Nat :=
  if w.pkt = .sync then 8 else (w.pkt.bytes (tget k.tracePc w.thread 0)).length

/-- Writes a packet (R283). While a sag sheds trace it is lost. Without room it waits with `STALL` at 1, and
is discarded and counted with `STALL` at 0. A packet waits also behind one that waits. -/
def tracePut (s : State) (c : Nat) (w : TraceWait) : State :=
  let k := getCore s c
  let k1 := k.tracePacket s w
  if s.power.level ≠ 0 then setCore s c { k with traceLost := k.traceLost + lostBytes k w }
  else if k.tracePend.isEmpty ∧ traceBlocked s c (k1.trace.length - k.trace.length) = false then setCore s c k1
  else if csrBit s (O.coreTraceCtrl c) 1 then setCore s c { k with tracePend := k.tracePend ++ [w] }
  else bump (setCore s c { k with traceLost := k.traceLost + lostBytes k w }) (O.coreTraceDrop c) (lostBytes k w)

/-- Writes a packet of a thread that is armed. -/
def traceOut (s : State) (c t pc : Nat) (p : TracePkt) : State :=
  if traceArmed s c t then tracePut s c ⟨t, pc, p⟩ else s

/-- Writes the packets that waited for room, oldest first (R283). -/
def tracePump (s : State) (c : Nat) : State :=
  let k := getCore s c
  if k.tracePend.isEmpty then s else k.tracePend.foldl (fun s w => tracePut s c w) (setCore s c { k with tracePend := [] })

/-- Writes the outcomes that a thread has collected as a TNT packet (R281). -/
def traceTnt (s : State) (c t : Nat) : State :=
  match (getThread s c t).tnt with
  | [] => s
  | e :: es =>
    let v := ((e :: es).zipIdx.map (fun p => b2n p.1.1 * 2 ^ p.2)).sum + 2 ^ (es.length + 1)
    let s1 := traceOut s c t e.2 (.tnt v)
    setThread s1 c t { getThread s1 c t with tnt := [] }

/-- Collects the outcome of the branch at `pc`; the sixth writes the packet. -/
def traceOutcome (s : State) (c t pc : Nat) (taken : Bool) : State :=
  if traceArmed s c t then
    let x := getThread s c t
    let s1 := setThread s c t { x with tnt := x.tnt ++ [(taken, pc)] }
    if x.tnt.length + 1 = 6 then traceTnt s1 c t else s1
  else s

/-- Traces the target of the JALR at `pc` (R281). -/
def traceTarget (s : State) (c t pc target : Nat) : State := traceOut (traceTnt s c t) c t pc (.target target)

/-- Traces a MARK of the TRACE at `pc`. -/
def traceMark (s : State) (c t pc v : Nat) : State := traceOut (traceTnt s c t) c t pc (.mark v)

/-- The address from which the trace of a thread goes on: its oldest unresolved branch, or its PC. -/
def Thread.tracedFrom (x : Thread) : Nat :=
  match x.tnt, x.branches with
  | e :: _, _ => e.2
  | [], b :: _ => b.pc
  | [], [] => x.pc

/-- Starts the trace of a thread with a SYNC (R282). -/
def traceStart (s : State) (c t : Nat) : State := traceOut s c t (getThread s c t).tracedFrom .sync

/-- Tracing resumes on a core when a sag has ended: DROP and a SYNC for each thread that it traces. -/
def traceResume (s : State) (c : Nat) : State :=
  if csrBit s (O.coreTraceCtrl c) 0 then
    (List.range 8).foldl (fun s t =>
      if (getThread s c t).st = .halted ∨ (getThread s c t).st = .exception then s else traceStart s c t)
      (setCore s c { getCore s c with traceGap := true })
  else s

/-- Whether a traced thread stalls for want of room (R283, `STALL`). -/
def traceStalls (s : State) (c t : Nat) : Bool :=
  traceOn s c t && csrBit s (O.coreTraceCtrl c) 1 && (!(getCore s c).tracePend.isEmpty || traceBlocked s c 1)

/-! ### SR keys -/

/-- The acting rank of a thread (R263). -/
def actingRank (s : State) (c t : Nat) : Nat :=
  let v := csrGet s (O.coreKeyRank c t)
  if bitOf v 31 then bitsOf v 13 0 else selfRank s

/-- Whether a rank is this device's own, or one that it partners or succeeds (R91). -/
def mayUseRank (s : State) (r : Nat) : Bool :=
  match s.mend.table with
  | none => false
  | some t =>
    let m := t.members.getD r ⟨0, .gone, false, 0⟩
    decide (r = t.self) ||
      (decide (r < t.ranks) && (decide (m.partner = t.self) ||
        (decide (m.st = .filling) && decide (m.link = t.self))))

/-- The job seed (`GROUP.SEED`). -/
def jobSeed (s : State) : Nat := csrGet s O.groupSeed

/-- The live keys of a cluster. -/
def liveKeys (s : State) (g : Nat) : List (BitVec 64) := tget s.keyTab g []

/-- Whether a key is live in a cluster. -/
def keyLive (s : State) (g : Nat) (k : BitVec 64) : Bool := (liveKeys s g).contains k

/-- Retires a key. -/
def retireKey (s : State) (g : Nat) (k : BitVec 64) : State :=
  { s with keyTab := tset s.keyTab g ((liveKeys s g).filter (fun x => decide (x ≠ k))) }

/-- Retires every key that a thread opened (R261). -/
def retireKeys (s : State) (c t : Nat) : State :=
  (getThread s c t).keys.foldl (fun s k => retireKey s (clusterOf c) k)
    (setThread s c t { getThread s c t with keys := [] })

/-- Registers a key: 0 live, 1 refused as STREAM_KEY_DUP, 2 refused as KEY_TABLE_FULL (R91, R92,
R261). DESIGN CHOICE (log entry 84): the records of both events name the core of the KOPEN as their source. -/
def openKey (s : State) (c t stream pass rank : Nat) : State × Nat :=
  let g := clusterOf c
  let k := srKey (jobSeed s) stream rank pass
  let cls := coreClass s c
  if pass = 3 ∨ keyLive s g k ∨ mayUseRank s rank = false then (raise s 0x9002 3 cls 1 c, 1)
  else if 1024 ≤ (liveKeys s g).length then (raise s 0x9003 3 cls 1 c, 2)
  else
    let s1 := { s with keyTab := tset s.keyTab g (liveKeys s g ++ [k]) }
    (setThread s1 c t { getThread s1 c t with keys := (getThread s1 c t).keys ++ [k] }, 0)

/-! ### Starting, stopping, exceptions -/

/-- A thread stops: its keys retire, its acting rank returns to the device's own, nothing of it
waits, and the outcomes collected for its trace are written (R261, R263, R281). -/
def clearThread (s : State) (c t : Nat) (st : TState) : State :=
  let s1 := csrPut (retireKeys (traceTnt s c t) c t) (O.coreKeyRank c t) 0
  reschedule (setThread s1 c t { getThread s1 c t with st := st, blocked := .none, branches := [], buffer := [] }) c

/-- A thread stops for good, which may let its cluster enter retention (R261, R263, R276). -/
def stopThread (s : State) (c t : Nat) (st : TState) : State := retainCluster (clearThread s c t st) (clusterOf c)

/-- A thread starts at its entry point (R252); one without an entry point stays halted. DESIGN CHOICE (log entry
87): the two low bits of an entry point are ignored, since PC is a multiple of 4 (R251). -/
def startThread (s : State) (c t : Nat) : State :=
  let s1 := clearThread s c t .halted
  match tget? (getCore s1 c).entryPts t with
  | none => retainCluster s1 (clusterOf c)
  | some e =>
    let g1 : BitVec 64 := BitVec.ofNat 64 (if coreClass s c = 1 then s.step else 0)
    let regs := tset (tset (tset [] 1 g1) 2 (BitVec.ofNat 64 c)) 3 (BitVec.ofNat 64 t)
    let x := { getThread s1 c t with pc := e / 4 * 4, regs := regs, st := .ready, run := 0 }
    traceStart (reschedule (setThread s1 c t x) c) c t

/-- Starts every thread of a core that has an entry point. -/
def startCore (s : State) (c : Nat) : State := (List.range 8).foldl (fun s t => startThread s c t) s

/-- Stops every thread of a core. -/
def haltCore (s : State) (c : Nat) : State :=
  (List.range 8).foldl (fun s t => stopThread s c t .halted) s

/-- The value of `CORE.EXC_CAUSE` for an exception. -/
def excCause (cause t stn : Nat) (imprecise : Bool) : Nat :=
  cause + t * 16 + b2n imprecise * 128 + stn * 256

/-- An exception of a thread (R278 to R280): the record is written while the registers are free, it is
counted, CORE_EXCEPTION is raised, and the thread halts. In class 0 the request in service fails
(R517). -/
def coreExc (s : State) (c t cause info stn : Nat) (imprecise : Bool) (pc : Nat) : State :=
  let lo := info % 2 ^ 32
  let hi := info / 2 ^ 32 % 2 ^ 32
  let w := excCause cause t stn imprecise
  let free := decide (csrBits s (O.coreExcCount c) 15 0 = 0)
  let s1 := if free then
      csrPut (csrPut (csrPut (csrPut s (O.coreExcCause c) w) (O.coreExcPc c) pc)
        (O.coreExcInfoLo c) lo) (O.coreExcInfoHi c) hi
    else s
  let s2 := stopThread (bump16 s1 (O.coreExcCount c)) c t .exception
  let cls := coreClass s c
  if cls = 0 then failService (raise s2 0x9001 2 0 1 c [w, pc, lo, hi]) (clusterOf c)
  else raise s2 0x9001 3 1 1 c [w, pc, lo, hi]

end Sys2Proof.Machine
end

