-- ==== Sys2Proof/Machine/Streams.lean ====
section
/-! DEFINITION. Streams and their credits (R200 to R205), the outputs of stations, station reset (R204),
what the STAT taps observe (R146 to R149), and numeric events (R82). -/

namespace Sys2Proof.Machine

/-! ### Endpoints -/

/-- The station, by its number in `CORE.STN_RESET`, of a station code and number; FOOT shares its
engine's. -/
def stnOf (code idx : Nat) : Option Nat := if code = 2 then stnNumber 1 idx else stnNumber code idx

/-- The lint ring of a station code and number (R551); a FOOT has its own. -/
def ringOfStn (code idx : Nat) : Nat :=
  if code = 2 then 6 + idx % 4 else ((stnNumber code idx).map lintRing).getD 17

/-- The lint ring of the outputs of a station: an engine's leave through its FOOT. -/
def outRing (stn : Nat) : Nat := if 2 ≤ stn ∧ stn < 6 then stn + 4 else lintRing stn

/-- Stream-table entries with their indices. -/
def streamIdx (s : State) : List (Nat × StreamEnt) := (streamTable s).zipIdx.map (fun p => (p.2, p.1))

/-- The entries of which a core is producer under a stream number: one for each consumer endpoint. -/
def fanout (s : State) (c sid : Nat) : List (Nat × StreamEnt) :=
  (streamIdx s).filter (fun p => decide (p.2.pCore = c) && decide (p.2.pSid = sid))

/-- The entry of which a core is consumer under a stream number. -/
def fanin (s : State) (c sid : Nat) : Option (Nat × StreamEnt) :=
  (streamIdx s).find? (fun p => decide (p.2.cCore = c) && decide (p.2.cSid = sid))

/-- Inserts an entry in the order of a number. -/
def insertBy {α : Type} (f : α → Nat) (x : α) : List α → List α
  | [] => [x]
  | y :: ys => if f x ≤ f y then x :: y :: ys else y :: insertBy f x ys

/-- Sorts a list by a number, keeping the order of equals. -/
def sortBy {α : Type} (f : α → Nat) (l : List α) : List α := l.foldr (insertBy f) []

/-- The input entries of a station code and number, by ascending stream number. -/
def inputsOf (s : State) (c code idx : Nat) : List (Nat × StreamEnt) :=
  sortBy (fun p => p.2.cSid) ((streamIdx s).filter (fun p =>
    decide (p.2.cCore = c) && decide (p.2.cStn = code) && decide (p.2.cInst = idx)))

/-- The output stream numbers of a station code and number, ascending, each once. -/
def outputsOf (s : State) (c code idx : Nat) : List Nat :=
  (sortBy id (((streamIdx s).filter (fun p =>
    decide (p.2.pCore = c) && decide (p.2.pStn = code) && decide (p.2.pInst = idx))).map
      (fun p => p.2.pSid))).dedup

/-- Whether an entry has an endpoint at a station, by its number in `CORE.STN_RESET`. -/
def StreamEnt.touches (p : StreamEnt) (c stn : Nat) : Bool :=
  (decide (p.pCore = c) && decide (stnOf p.pStn p.pInst = some stn)) ||
    (decide (p.cCore = c) && decide (stnOf p.cStn p.cInst = some stn))

/-- The entries of the streams with an endpoint at a station (R204): the reset of one consumer of a multicast
stream is a reset of the stream, at its producer and at every consumer. -/
def stationStreams (s : State) (c stn : Nat) : List (Nat × StreamEnt) :=
  (streamIdx s).filter (fun p => (streamTable s).any (fun q =>
    q.touches c stn && decide (q.pCore = p.2.pCore) && decide (q.pSid = p.2.pSid)))

/-! ### Credits -/

/-- Whether a producer holds a credit for every endpoint of a list (R201). -/
def hasCredits (s : State) (es : List Nat) : Bool :=
  !es.isEmpty && es.all (fun e => decide (0 < (getStream s e).credits))

/-- The credits that a producer holds for a list of endpoints: the fewest. -/
def creditsOf (s : State) (es : List Nat) : Nat :=
  match es.map (fun e => (getStream s e).credits) with
  | [] => 0
  | x :: xs => xs.foldl min x

/-- The lint word of a tile header. -/
def TileHdr.lintEntry (h : TileHdr) : Nat := h.entry + h.pass * 4096

/-- The stream-table entry of an index. -/
def entryOf (s : State) (e : Nat) : StreamEnt :=
  (streamTable s).getD e ⟨0, 0, 0, 0, 0, 0, 0, 0, 0, false, 0, 0⟩

/-- A tile reaches the queue of an endpoint, and its consumer core sees an arrival (R275). -/
def tileArrives (s : State) (e : Nat) (t : STile) : State :=
  let p := entryOf s e
  coreEvent (lint s p.cCore (ringOfStn p.cStn p.cInst) 1 p.cSid t.hdr.lintEntry t.hdr.tile) p.cCore 1

/-- Puts a tile on one endpoint: a credit is spent and the tile is queued (R201), or waits at the router of a
cluster that is not on (R277). -/
def placeOn (t : STile) (s : State) (e : Nat) : State :=
  let x := getStream s e
  if coreRuns s (entryOf s e).cCore then
    tileArrives (setStream s e { x with credits := x.credits - 1, queue := x.queue ++ [t] }) e t
  else routerEvent (setStream s e { x with credits := x.credits - 1, router := x.router ++ [t] }) (entryOf s e).cCore

/-- A credit reaches its producer core (R275). -/
def creditArrives (s : State) (e : Nat) : State :=
  let p := entryOf s e
  coreEvent (lint s p.pCore (ringOfStn p.pStn p.pInst) 3 p.pSid 0 0) p.pCore 1

/-- What waits at the router of a cluster that has come on: the tiles of an endpoint, and the credits of its
producer (R277). -/
def deliverRouted (g : Nat) (s : State) (p : Nat × StreamEnt) : State :=
  let s1 :=
    let x := getStream s p.1
    if clusterOf p.2.cCore = g ∧ x.router ≠ [] then
      x.router.foldl (fun s t => tileArrives s p.1 t)
        (setStream s p.1 { x with queue := x.queue ++ x.router, router := [] })
    else s
  let y := getStream s1 p.1
  if clusterOf p.2.pCore = g ∧ 0 < y.routerCr then
    (List.range y.routerCr).foldl (fun s _ => creditArrives s p.1)
      (setStream s1 p.1 { y with credits := y.credits + y.routerCr, routerCr := 0 })
  else s1

/-- Delivers what waits at the router of a cluster. -/
def deliverRouter (s : State) (g : Nat) : State := (streamIdx s).foldl (deliverRouted g) s

/-- Places a tile on the endpoints of its stream (R201). -/
def placeTile (s : State) (c stn : Nat) (es : List Nat) (t : STile) : State :=
  lint (es.foldl (placeOn t) s) c (outRing stn) 2 (entryOf s (es.headD 0)).pSid t.hdr.lintEntry t.hdr.tile

/-- The tile at the head of an endpoint's queue. -/
def headTile (s : State) (e : Nat) : Option STile := (getStream s e).queue.head?

/-- A consumer takes the tile at the head of its queue and holds it. -/
def takeTile (s : State) (e : Nat) : State :=
  let x := getStream s e
  match x.queue with
  | [] => s
  | t :: q => setStream s e { x with queue := q, held := x.held ++ [t] }

/-- Whether a tile that stands on some stream was made from the read of a detector window. -/
def windowUsed (s : State) (w : Nat × Nat) : Bool :=
  s.streams.any (fun e => (e.2.queue ++ e.2.held ++ e.2.router).any (fun t => t.src.contains w))

/-- Closes the detector windows of the reads that a tile was made from, once its last consumer has released it
(R229; log entry 111, DEDUCED). -/
def closeWindow (s : State) (t : STile) : State :=
  t.src.foldl (fun s w =>
    if windowUsed s w then s
    else
      let k := getCore s w.1
      setCore s w.1 { k with windows := tdel k.windows w.2 }) s

/-- The endpoints of a station's own output stream (R196): none where the stream number is another station's. -/
def ownFanout (s : State) (c stn sid : Nat) : List (Nat × StreamEnt) :=
  (fanout s c sid).filter (fun p => decide (stnOf p.2.pStn p.2.pInst = some stn))

/-- Whether one of the endpoints feeds SHIP. -/
def feedsShip (es : List (Nat × StreamEnt)) : Bool := es.any (fun p => decide (p.2.cStn = 7))

/-- The stream-table entries that the station at the end of an entry feeds: an engine's through its FOOT. -/
def feedsOn (s : State) (p : StreamEnt) : List (Nat × StreamEnt) :=
  (streamIdx s).filter (fun q => decide (q.2.pCore = p.cCore) && decide (q.2.pInst = p.cInst) &&
    decide (q.2.pStn = if p.cStn = 1 then 2 else p.cStn))

/-- Whether tiles on a stream lead to SHIP within `k` further stations: FOOT hands its partials to the reduce-scatter
(R143), under the `TAG` of the descriptor that streams the activations. DESIGN CHOICE (log entry 100). -/
def leadsToShip (s : State) : Nat → List (Nat × StreamEnt) → Bool
  | 0, es => feedsShip es
  | k + 1, es => feedsShip es || es.any (fun p => leadsToShip s k (feedsOn s p.2))

/-- Adds a finished tile to a station's outputs, for its stream `sid`, with its number in the stream; `TAG` is
zero but for tiles given to SHIP, or on the way there (log entry 100), or taken from TAKE (R196 to R198). A tile for a stream that is not the
station's own goes nowhere. -/
def giveTile (s : State) (c stn sid : Nat) (t : STile) : State :=
  let x := getStn s c stn
  let n := tget x.made sid 0
  let es := ownFanout s c stn sid
  if es.isEmpty then s
  else
    let h := { t.hdr with tile := n % 2 ^ 18, tag := if leadsToShip s 2 es ∨ stn = 12 then t.hdr.tag else 0 }
    setStn s c stn { x with
      out := x.out ++ [(es.map Prod.fst, { t with hdr := h })]
      made := tset x.made sid (n + 1) }

/-! ### STAT -/

/-- Whether a block that runs from a substituted rack copy is one of an entry's (R149). -/
def runsStale (s : State) (entry : Nat) : Bool := s.gate.stale.any (fun p => decide (p.2.1 = entry))

/-- Whether the STAT taps observe a tile: class 1, a training pass, not stale and of no block that runs from a rack copy, of a
valid entry (R146, R149, R198). -/
def observed (s : State) (c : Nat) (h : TileHdr) : Bool :=
  decide (coreClass s c = 1) && decide (h.pass ≠ 3) && !h.stale && !runsStale s h.entry &&
    (tget s.pru.active h.entry RuleEntry.zero).valid

/-- The current variant of an entry. -/
def variantOf (s : State) (entry : Nat) : Nat := (tget s.pru.active entry RuleEntry.zero).cur

/-- Changes what a core has observed of an entry. -/
def observe (s : State) (c entry : Nat) (f : StatObs → StatObs) : State :=
  let k := getCore s c
  setCore s c { k with obs := tmod k.obs entry StatObs.zero f }

/-- Adds observed blocks. -/
def StatObs.blocksSeen (o : StatObs) (bs : List BlockObs) : StatObs :=
  { o with
    tiles := o.tiles + 1
    hist := (List.range 32).map (fun b => o.hist.getD b 0 + (bs.filter (fun x => x.bin = b)).length)
    blocks := o.blocks + bs.length
    zeroBlocks := o.zeroBlocks + (bs.filter (·.counted)).length }

/-- Raises an event several times. -/
def raiseN (s : State) (code sev cls k src : Nat) : Nat → State
  | 0 => s
  | n + 1 => raiseN (raise s code sev cls k src) code sev cls k src n

/-- Numeric events at a core (R82): counters and NOTE events, and `NAN_INF` of the entry. -/
def numEvents (s : State) (c : Nat) (h : TileHdr) (ev : NumEv) : State :=
  if ev.nan + ev.inf = 0 then s
  else
    let cls := coreClass s c
    let s1 := bump (bump s (O.coreNumNan c) ev.nan) (O.coreNumInf c) ev.inf
    let s2 := raiseN (raiseN s1 0x1001 0 cls 1 c ev.nan) 0x1002 0 cls 1 c ev.inf
    if observed s c h then observe s2 c h.entry (fun o => { o with nanInf := o.nanInf + ev.nan + ev.inf })
    else s2

/-- Counts foot overflows of an entry (R123, R182). -/
def footOverflows (s : State) (c : Nat) (h : TileHdr) (n : Nat) : State :=
  if n = 0 ∨ observed s c h = false then s
  else observe s c h.entry (fun o => { o with footOvf := o.footOvf + n })

/-! ### Poison -/

/-- A station consumes a poisoned tile (R232). -/
def pageDenied (s : State) (c : Nat) : State :=
  if coreClass s c = 0 then failService (raise s 0x2012 2 0 1 c) (clusterOf c)
  else dropMicroBatch (raise s 0x2012 3 1 1 c)

/-- Raises PAGE_DENIED when one of the first `k` elements of the first `n` vectors of a tile, which are consumed, is
poisoned. -/
def consumePart (s : State) (c : Nat) (t : STile) (n k : Nat) : State :=
  if t.poison.any (fun p => decide (p / 2 ^ 16 < n) && decide (p % 2 ^ 16 < k)) then pageDenied s c else s

/-- Raises PAGE_DENIED when a tile that is consumed whole is poisoned. -/
def consume (s : State) (c : Nat) (t : STile) : State := if t.poison.isEmpty then s else pageDenied s c

/-! ### Rack copies -/

/-- Whether a read derives from a rack copy that the gate substituted (R218, R220): it lies in that buffer. -/
def readsRack (s : State) (c a : Nat) : Bool :=
  decide (coreClass s c = 1) && decide (roleOf s 1 (pageOf a) = 3) &&
  (match s.gate.racks.find? (fun e => decide (e.1 ≤ a) && decide (a < e.1 + e.2.len)) with
   | some (b, _) => s.gate.stale.any (fun p => decide (p.2.2 = b))
   | none => false)

/-! ### Station reset (R204) -/

/-- Discards what is queued on and held from a stream, and closes the windows of those tiles. -/
def discardStream (s : State) (p : Nat × StreamEnt) : State :=
  let x := getStream s p.1
  (x.queue ++ x.held ++ x.router).foldl closeWindow (setStream s p.1 { x with queue := [], held := [], router := [] })

/-- A station reset starts: its streams are emptied at both ends and its work is discarded. -/
def startStnReset (s : State) (c stn : Nat) : State :=
  let s0 := ((getStn s c stn).out.map Prod.snd).foldl closeWindow ((stationStreams s c stn).foldl discardStream s)
  let s1 := setStn s0 c stn { getStn s0 c stn with queue := [], work := .idle, out := [], resetting := true }
  let s2 := retainCluster s1 (clusterOf c)
  let s3 := if 2 ≤ stn ∧ stn < 6 then
      setEng s2 c (stn - 2) { getEng s2 c (stn - 2) with loads := [], loading := false, streams := [], crease := none, passing := 0 }
    else s2
  lint s3 c (lintRing stn) 0x0B 0xFF 0 0

/-- Restores the credits of a stream to D; what was still placed on it in the course of the reset is discarded. -/
def restoreStream (s : State) (p : Nat × StreamEnt) : State :=
  setStream (discardStream s p) p.1 (StreamSt.fresh p.2.depth)

/-- A station reset ends (R204). -/
def endStnReset (s : State) (c stn : Nat) : State :=
  let s1 := (stationStreams s c stn).foldl restoreStream s
  setStn s1 c stn { getStn s1 c stn with resetting := false }

/-- Resets every station of a core at once. -/
def resetStations (s : State) (c : Nat) : State :=
  (List.range 13).foldl (fun s n => endStnReset (startStnReset s c n) c n) s

/-- The cores of the clusters of a class that the active weave uses. -/
def coresOfClass (s : State) (cls : Nat) : List Nat :=
  (List.range 256).filter (fun c => decide (coreClass s c = cls) && csrBit s O.globalClusterUsed (clusterOf c))

end Sys2Proof.Machine
end

