-- ==== Sys2Proof/Machine/Issue.lean ====
section
/-! DEFINITION. Work words and stream descriptors: their fields (R125, R222, R257) and the checks made
when they enter a queue (R126, R227, R259). -/

namespace Sys2Proof.Machine

/-! ### Array issue words (Table 8 of *The fusing cell array*) -/

/-- The fields of an array issue word. -/
structure ArrWord where
  m : Nat
  srStream : Nat
  outFmt : Nat
  plane : Nat
  load : Bool
  mode : Nat
  shape : Nat
  part : Nat
  blk32 : Bool
  longSum : Bool
  acc : Bool
  fin : Bool
  rescale : Bool
  rnd : Bool
  pass : Nat
  engine : Nat
  rsv : Nat
  deriving DecidableEq, Repr

/-- Reads an array issue word (R125). -/
def arrWord (w : BitVec 64) : ArrWord :=
  let n := w.toNat
  { m := bitsOf n 63 48, srStream := bitsOf n 47 32, outFmt := bitsOf n 31 28, plane := bitsOf n 27 25,
    load := bitOf n 24, mode := bitsOf n 23 22, shape := bitsOf n 21 20, part := bitsOf n 19 18,
    blk32 := bitOf n 17, longSum := bitOf n 16, acc := bitOf n 15, fin := bitOf n 14,
    rescale := bitOf n 13, rnd := bitOf n 12, pass := bitsOf n 11 10, engine := bitsOf n 9 8,
    rsv := bitsOf n 7 0 }

/-- The parts of a shape (Table 9). -/
def shapeParts (sh : Nat) : Nat := if sh = 0 then 1 else if sh = 3 then 4 else 2

/-- The rows and physical columns of a part, and the physical column at which it begins (Table 9). -/
def partSpan (sh part : Nat) : Nat × Nat × Nat :=
  match sh with
  | 0 => (128, 128, 0)
  | 1 => (64, 128, 0)
  | 2 => (128, 64, 64 * part)
  | _ => (64, 64, 64 * (part % 2))

/-- Whether an output format is valid while `FIN` is set (R120). -/
def outFmtOk (f : Nat) : Bool := f = 3 || f = 2 || f = 4 || f = 5 || f = 6 || f = 7

/-- The byte of the LADDER section for an engine (Table 9 of *Weave images, stations and tile
streams*). -/
def ladderOf (s : State) (c e : Nat) : Nat := ((s.weave.map (·.ladder)).getD []).getD (c * 4 + e) 0

/-- The field-only conditions of R126, with the instance that the instruction names (R257). An engine
with no mode allowed takes no issue. -/
def arrFieldsOk (s : State) (c e : Nat) (a : ArrWord) : Bool :=
  let l := ladderOf s c e
  decide (a.engine = e) && decide (a.rsv = 0) && decide (a.mode ≠ 3) && decide (a.pass ≠ 3) &&
  bitOf (csrBits s O.globalImplArray 31 28) a.shape && bitOf l (3 + a.shape) &&
  decide (a.part < shapeParts a.shape) && decide (l % 8 ≠ 0) &&
  (if a.load then
    decide (a.m = 0) && decide (a.mode = 0) && decide (a.part = 0) &&
      (a.outFmt = 0 || a.outFmt = 1 || a.outFmt = 3 || a.outFmt = 4)
  else
    bitOf l a.mode && decide (a.m ≠ 0) && (!a.fin || outFmtOk a.outFmt) && !(a.mode = 2 && a.blk32))

/-! ### Work words of PLAIN, SHAPE and GATHER (Table 4 of *The station control core*) -/

/-- The fields of a work word. -/
structure RoutineWord where
  routine : Nat
  inA : Nat
  inB : Nat
  out : Nat
  rnd : Nat
  srStream : Nat
  arg : Nat
  deriving DecidableEq, Repr

/-- Reads a work word (R257). -/
def routineWord (w : BitVec 64) : RoutineWord :=
  let n := w.toNat
  ⟨bitsOf n 63 48, bitsOf n 47 42, bitsOf n 41 36, bitsOf n 35 30, bitsOf n 29 28, bitsOf n 27 12,
   bitsOf n 11 0⟩

/-- Whether a routine runs on a station: PLAIN 6, SHAPE 7, GATHER 8 (Table 8). -/
def routineOn (r stn : Nat) : Bool :=
  match stn with
  | 6 => [0x02, 0x10, 0x11, 0x12, 0x13, 0x14, 0x15, 0x16, 0x17, 0x20, 0x21, 0x22, 0x23, 0x24, 0x25, 0x26,
      0x40, 0x50].contains r
  | 7 => [0x01, 0x02, 0x10, 0x11, 0x12, 0x20, 0x21, 0x23, 0x24, 0x25, 0x26].contains r
  | 8 => r = 0x30
  | _ => false

/-- Whether a routine reads operand b; QUANT reads it under error feedback. -/
def usesB (r arg : Nat) : Bool :=
  [0x10, 0x11, 0x12, 0x22, 0x23, 0x24, 0x25, 0x26].contains r || (r = 1 && bitOf arg 7)

/-- Whether the bits of `ARG` that a routine does not use are zero, and those it uses name something
(Table 8): QUANT a format BT3, BQ4, BI4, BI8 or LNS16, CONVERT one of A32, BF16 and FP32, RSQRT six
bits, TOPK 0 to 32. -/
def argOk (r arg : Nat) : Bool :=
  match r with
  | 0x01 => decide (arg < 256) && decide (arg % 16 < 5)
  | 0x02 => decide (arg < 16) && (arg = 5 || arg = 6 || arg = 7)
  | 0x17 => decide (arg < 64)
  | 0x30 => true
  | 0x40 => true
  | 0x50 => decide (arg ≤ 32)
  | _ => arg = 0

/-- The level of the loaded station library, where one is loaded (image type 0x0001). -/
def libraryLevel (s : State) : Option Nat := (tget? s.sec.images 1).map (·.level)

/-- Whether the loaded library implements a routine. -/
def libraryHasRoutine (s : State) (r : Nat) : Bool :=
  match libraryLevel s with
  | some l => Config.libraryHas l r
  | none => false

/-- The conditions of R259 and R287 on a work word for a station. -/
def routineOk (s : State) (c stn code : Nat) (w : RoutineWord) : Bool :=
  let inputs := (inputsOf s c code 0).map (fun p => p.2.cSid)
  let outputs := outputsOf s c code 0
  routineOn w.routine stn && libraryHasRoutine s w.routine && decide (w.rnd < 2) &&
  (decide (w.rnd = 1) || decide (w.srStream = 0)) && argOk w.routine w.arg &&
  inputs.contains w.inA &&
  (if usesB w.routine w.arg then inputs.contains w.inB else w.inB = 63) &&
  (if w.routine = 0x40 then w.out = 63 else outputs.contains w.out)

/-! ### Stream descriptors (Tables 5 and 6) -/

/-- A number of `n` bits as a signed integer. -/
def signedOf (n v : Nat) : Int := if 2 ^ (n - 1) ≤ v then (v : Int) - 2 ^ n else v

/-- Reads a descriptor of 64 bytes (R222). -/
def readDesc (bs : List Byte) : Desc :=
  let num (o n : Nat) : Nat := ofLe ((bs.drop o).take n)
  let ctrl := num 0 8
  { addr := bitsOf ctrl 39 0, fmt := bitsOf ctrl 43 40, layout := bitsOf ctrl 45 44,
    widen := bitOf ctrl 46, blk32 := bitOf ctrl 47, mcScope := bitsOf ctrl 49 48,
    dir := bitsOf ctrl 50 50, ra := bitOf ctrl 51, raDepth := bitsOf ctrl 55 52,
    ctrlRsv := bitsOf ctrl 63 56,
    strides := (List.range 5).map (fun d => signedOf 32 (num (8 + 4 * d) 4)),
    counts := (List.range 5).map (fun d => num (0x1C + 4 * d) 4 % 2 ^ 20),
    countRsv := ((List.range 5).map (fun d => num (0x1C + 4 * d) 4 / 2 ^ 20)).sum,
    mcMask := num 0x30 4,
    rows := bitsOf (num 0x34 2) 6 0, cols := bitsOf (num 0x34 2) 13 7,
    entry := bitsOf (num 0x36 2) 11 0, pass := bitsOf (num 0x36 2) 13 12,
    sid := bitsOf (num 0x38 1) 5 0, ring := bitsOf (num 0x39 1) 3 0, rot := bitOf (num 0x39 1) 4,
    tag := num 0x3A 2,
    rsv := bitsOf (num 0x34 2) 15 14 + bitsOf (num 0x36 2) 15 14 + bitsOf (num 0x38 1) 7 6 +
      bitsOf (num 0x39 1) 7 5 + num 0x3C 4 }

/-- The rotation ring of a number. -/
def ringOf (s : State) (r : Nat) : Option Ring := ((s.weave.map (·.rings)).getD [])[r]?

/-- The cores that a descriptor's multicast fields name (Table 6). -/
def mcCores (c : Nat) (d : Desc) : List Nat :=
  match d.mcScope with
  | 0 => [c]
  | 1 => (List.range 8).filter (bitOf d.mcMask) |>.map (fun l => c / 8 * 8 + l)
  | _ => ((List.range 32).filter (bitOf d.mcMask)).flatMap coresOf

/-- The stream-table entries that a FETCH descriptor delivers to (R225). -/
def fetchTargets (s : State) (c inst : Nat) (d : Desc) : List (Nat × StreamEnt) :=
  let cs := mcCores c d
  (streamIdx s).filter (fun p => decide (p.2.pCore = c) && decide (p.2.pStn = 0) &&
    decide (p.2.pInst = inst) && decide (p.2.cSid = d.sid) && !p.2.ring && cs.contains p.2.cCore)

/-- The stream-table entry that a STORE descriptor takes from. -/
def storeSource (s : State) (c inst : Nat) (d : Desc) : Option (Nat × StreamEnt) :=
  (inputsOf s c 6 inst).find? (fun p => decide (p.2.cSid = d.sid))

/-- Whether a format code is one of stored images (R47, R227). -/
def fmtKnown (f : Nat) : Bool := decide (f ≤ 10)

/-- Whether a descriptor's multicast mask names targets of the core's class only, and at least one
unless the scope is the own core (R227). DESIGN CHOICE (log entry 110): the mask of the own core is not looked at, and that of
the own cluster must have bits [31:8] zero. -/
def mcOk (s : State) (c : Nat) (d : Desc) : Bool :=
  match d.mcScope with
  | 0 => true
  | 1 => decide (d.mcMask % 256 ≠ 0) && decide (d.mcMask < 256)
  | 2 => decide (d.mcMask ≠ 0) &&
      (List.range 32).all (fun g => !bitOf d.mcMask g || decide (clusterClass s g = coreClass s c))
  | _ => false

/-- Whether a descriptor's ring fields are allowed (R227). -/
def ringOk (s : State) (c : Nat) (d : Desc) : Bool :=
  !d.rot || (decide (coreClass s c = 0) &&
    (match ringOf s d.ring with
     | some r => r.members.contains c
     | none => false))

/-- Whether stream `SID` is an output stream of this FETCH at every target that the descriptor names (R225, R227): at
each core of the own cluster, and at some core of each cluster named (log entry 82). -/
def targetsOk (s : State) (c inst : Nat) (d : Desc) : Bool :=
  let has (f : Nat → Bool) : Bool := (fetchTargets s c inst d).any (fun p => f p.2.cCore)
  match d.mcScope with
  | 2 => (List.range 32).all (fun g => !bitOf d.mcMask g || has (fun k => decide (clusterOf k = g)))
  | _ => (mcCores c d).all (fun t => has (fun k => decide (k = t)))

/-- The conditions of R227 for FETCH (`dir` 0) or STORE (`dir` 1). -/
def descOk (s : State) (c inst dir : Nat) (d : Desc) : Bool :=
  decide (d.ctrlRsv = 0) && decide (d.countRsv = 0) && decide (d.rsv = 0) && decide (d.layout ≠ 3) &&
  decide (d.dir = dir) && decide (d.addr % 64 = 0) && d.strides.all (fun x => decide (x % 64 = 0)) &&
  d.counts.all (fun x => decide (x ≠ 0)) && fmtKnown d.fmt && (!d.widen || decide (d.fmt = 2)) &&
  (decide (dir = 0) || decide (d.layout = 0)) && mcOk s c d && ringOk s c d &&
  (if dir = 0 then targetsOk s c inst d else (storeSource s c inst d).isSome)

/-! ### Queues -/

/-- The thread that drives a station; 15 for none (R195). -/
def driverOf (s : State) (c stn : Nat) : Nat := tget (getCore s c).drives stn 15

/-- The depth of a station's queue (R258): 8 work words, 4 descriptors. -/
def queueDepth (stn : Nat) : Nat := if stn < 2 ∨ stn = 9 ∨ stn = 10 then 4 else 8

/-- Whether a station's queue is full. -/
def queueFull (s : State) (c stn : Nat) : Bool := decide (queueDepth stn ≤ (getStn s c stn).queue.length)

/-- Enters a word in a station's queue. -/
def enqueueWork (s : State) (c stn t pc : Nat) (w : BitVec 64) : State :=
  let x := getStn s c stn
  lint (setStn s c stn { x with queue := x.queue ++ [⟨w, t, actingRank s c t, pc⟩] }) c (lintRing stn) 5 0xFF 0
    (w.toNat % 2 ^ 32)

/-- Whether a work word may enter the queue of a station that TISSUE names by code and number (R126,
R257, R259). -/
def tissueOk (s : State) (c t code inst : Nat) (w : BitVec 64) : Bool :=
  match stnNumber code inst with
  | none => false
  | some stn =>
    decide (driverOf s c stn = t) &&
    (if code = 1 then arrFieldsOk s c inst (arrWord w)
     else if code = 3 ∨ code = 4 ∨ code = 5 then routineOk s c stn code (routineWord w)
     else false)

/-- Whether a descriptor may enter the queue of a station that SISSUE names (R227, R259). -/
def sissueOk (s : State) (c t code inst : Nat) (a : BitVec 64) : Bool :=
  match stnNumber code inst with
  | none => false
  | some stn =>
    decide (code = 0 ∨ code = 6) && decide (driverOf s c stn = t) && decide (a.toNat % 64 = 0) &&
    decide (scratchBase c ≤ a.toNat) && decide (a.toNat < scratchBase c + 0x100000) &&
    descOk s c inst (if code = 0 then 0 else 1) (readDesc (memGet s a.toNat 64))

end Sys2Proof.Machine
end

