-- ==== Sys2Proof/Machine/Routines.lean ====
section
/-! DEFINITION. The results of the station library routines (R287, R288) and the ranking of attributions
(R510). -/

namespace Sys2Proof.Machine

/-- A matrix of binary32 patterns: vectors of elements. -/
abbrev Mat := List (List (BitVec 32))

/-- An A32 pattern as an operand: a subnormal reads as zero of its sign (R72, R81). -/
def a32Operand (b : BitVec 32) : BitVec 32 := if bitsOf b.toNat 30 23 = 0 then zero32 b.msb else b

/-- The elements of a tile in FP32, BF16 or A32, widened to binary32 (R72, R287). -/
def wideRows (t : STile) : Mat :=
  let x := readImage t.hdr.fmt 0 (t.hdr.rows + 1) (t.hdr.cols + 1) t.img
  x.vecs.map (fun v => v.codes.map (fun c =>
    if t.hdr.fmt = fmtBF16 then bf16To32 (BitVec.ofNat 16 c)
    else if t.hdr.fmt = fmtA32 then a32Operand (BitVec.ofNat 32 c)
    else BitVec.ofNat 32 c))

/-- An element of a matrix; one that the operand lacks is a free value. -/
def Mat.get (m : Mat) (i j : Nat) : BitVec 32 := (m.getD i []).getD j (Config.missingElem (i * 128 + j))

/-- The image of a matrix of 32-bit elements. -/
def Mat.image (m : Mat) : List Byte := padSection (packFields 32 (m.flatMap (fun v => v.map (·.toNat))))

/-! ### exp -/

/-- The sum of the series of `exp` for a fixed-point argument `y` of 320 fraction bits. -/
def expSeries (y : Int) : Nat → Nat → Int → Int → Int
  | 0, _, _, acc => acc
  | fuel + 1, k, term, acc =>
    let t := term * y / ((k : Int) * (2 ^ 320 : Nat))
    expSeries y fuel (k + 1) t (acc + t)

/-- Squares a fixed-point number of 320 fraction bits `n` times. -/
def squareTimes : Nat → Int → Int
  | 0, v => v
  | n + 1, v => squareTimes n (v * v / (2 ^ 320 : Nat))

/-- `exp` in binary32, correctly rounded (R287): the series at 320 fraction bits of an argument divided by
256, squared eight times; the exact value of a non-zero argument is no binary fraction. -/
def f32Exp (a : BitVec 32) : BitVec 32 :=
  match fpOf a with
  | .nan => nan32 a a
  | .inf s => if s then 0#32 else a
  | .fin _ v =>
    if v.m = 0 then one32
    else if Dy.lt ⟨89, 0⟩ v then inf32 false
    else if v.lt ⟨-104, 0⟩ then 0#32
    else
      let y := shlInt v.m (v.e + 312).toNat
      let one : Int := (2 ^ 320 : Nat)
      let r := squareTimes 8 (expSeries y 90 1 one one)
      f32Of ⟨2 * r + 1, -321⟩ false

/-! ### Element-wise and row routines -/

/-- The reciprocal square root of `a + 2 ^ -n`. -/
def f32Rsqrt (a : BitVec 32) (n : Nat) : BitVec 32 :=
  f32Div one32 (f32Sqrt (f32Add a (BitVec.ofNat 32 ((127 - n) * 2 ^ 23))))

/-- The element-wise routines on one element (Table 8). -/
def elemOp (r arg : Nat) (a b : BitVec 32) : BitVec 32 :=
  let neg (x : BitVec 32) : BitVec 32 := x ^^^ 0x80000000#32
  match r with
  | 0x10 => f32Add a b
  | 0x11 => f32Sub a b
  | 0x12 => f32Mul a b
  | 0x13 => f32Div a (f32Add one32 (f32Exp (neg a)))
  | 0x14 =>
    let s := f32Div one32 (f32Add one32 (f32Exp (neg a)))
    f32Mul s (f32Add one32 (f32Mul a (f32Sub one32 s)))
  | 0x15 => f32Exp a
  | 0x16 => f32Div one32 a
  | _ => f32Rsqrt a arg

/-- A sum over a vector: from zero, in ascending order (R287). -/
def f32Sum (v : List (BitVec 32)) : BitVec 32 := v.foldl f32Add 0#32

/-- The largest element of a vector; a NaN element makes it NaN. -/
def f32RowMax (v : List (BitVec 32)) : BitVec 32 :=
  match v.find? f32IsNaN with
  | some x => nan32 x x
  | none => match v with
    | [] => 0#32
    | x :: xs => xs.foldl f32Max x

/-- The results of the arithmetic routines of PLAIN and SHAPE (Table 8). -/
def arithRoutine (r arg : Nat) (a b : Mat) : Mat :=
  a.zipIdx.map (fun p =>
    let m := p.2
    let el (f : BitVec 32 → Nat → BitVec 32) : List (BitVec 32) := p.1.zipIdx.map (fun q => f q.1 q.2)
    match r with
    | 0x20 => [f32Sum p.1]
    | 0x21 => [f32RowMax p.1]
    | 0x22 => [f32Sum (el (fun x j => f32Mul x (b.get m j)))]
    | 0x23 => el (fun x _ => f32Mul x (b.get m 0))
    | 0x24 => el (fun x _ => f32Sub x (b.get m 0))
    | 0x25 => el (fun x j => f32Mul x (b.get 0 j))
    | 0x26 => el (fun x j => f32Add x (b.get 0 j))
    | _ => el (fun x j => elemOp r arg x (if usesB r arg then b.get m j else 0#32)))

/-- FP32 to A32: the value under R72, with the events of R81. DESIGN CHOICE (log entry 78): the zero that a NaN
becomes has the NaN's sign. -/
def a32From32 (x : BitVec 32) : BitVec 32 × NumEv :=
  let f := finIn x
  (if f.1.m = 0 then zero32 x.msb else (a32Of f.1 .rne).1, f.2)

/-- CONVERT of one element (Table 5 of *Number formats, scales and rounding*): the raw code and the
events. -/
def convertElem (fmt : Nat) (x : BitVec 32) : Nat × NumEv :=
  if fmt = fmtBF16 then ((bf16Of x).toNat, NumEv.none)
  else if fmt = fmtA32 then ((a32From32 x).1.toNat, (a32From32 x).2)
  else (x.toNat, NumEv.none)

/-! ### Ranking (R510) -/

/-- The `k` attributions of the largest magnitude, in descending order, ties to the lower event and then
to the lower input; zeros are never returned. -/
def rankAttrs (k : Nat) (l : List Attr) : List Attr :=
  let live := l.filter (fun a => !isZero32 a.value)
  let byPlace := sortBy (fun a => a.event * 2 ^ 16 + a.input) live
  (sortBy (fun a => 2 ^ 31 - (a.value.setWidth 31).toNat) byPlace).take k

/-- An attribution record (Table 4 of *Live scoring and alarm attribution*). -/
def Attr.bytes (a : Attr) : List Byte :=
  leBytes 4 (a.event % 2 ^ 24) ++ leBytes 2 a.input ++ leBytes 2 (bf16Of a.value).toNat

/-! ### QUANT -/

/-- The operands of QUANT: format code, codebook (BQ4), block size, whether the input is A32, rounding of element `i` of
the image's element section, and whether the scale capture is replayed. -/
structure QuantCtl where
  fmt : Nat
  cb : List Int
  blk : Nat
  a32 : Bool
  sr : Bool
  key : BitVec 64
  step : Nat
  tile : Nat
  replay : Bool
  deriving DecidableEq, Repr

/-- The rounding of element `i` of the element section (R86). -/
def QuantCtl.rnd (c : QuantCtl) (i : Nat) : Rnd := rndAt c.sr c.key (srCtr c.step c.tile 0) i

/-- Whether an input element is saturated: an infinity (R81), or the largest magnitude of an A32 input, to which R72
saturates. -/
def satElem (a32 : Bool) (x : BitVec 32) : Bool :=
  match fpOf x with
  | .inf _ => true
  | _ => a32 && decide (x = max32 x.msb)

/-- The exact values of a vector of the input (R81). -/
def vecDy (v : List (BitVec 32)) : List Dy := v.map (fun x => (finIn x).1)

/-- Whether a vector that QUANT quantises captures the scale (R181). -/
def QuantCtl.captured (c : QuantCtl) (v : List (BitVec 32)) : Bool :=
  match bfmtOf c.fmt with
  | none => false
  | some f => scaleCaptured f c.cb c.blk (vecDy v) (v.map (satElem c.a32))

/-- The values that QUANT quantises of a vector: in a scale-capture replay, a vector that captured the scale has its
saturated elements set to zero (R181). -/
def QuantCtl.values (c : QuantCtl) (v : List (BitVec 32)) : List Dy :=
  if c.replay && c.captured v then v.map (fun x => if satElem c.a32 x then Dy.zero else (finIn x).1) else vecDy v

/-- Quantises one vector whose element `i` lies at `idx i` of the element section. -/
def quantVec (c : QuantCtl) (idx : Nat → Nat) (v : List (BitVec 32)) : TVec :=
  match bfmtOf c.fmt with
  | none => ⟨0, [], v.map (fun x => (lnsOf32 x).1.toNat)⟩
  | some f =>
    let q := quantiseVector f c.cb c.blk (c.values v) (fun i => c.rnd (idx i))
    ⟨q.1, q.2.map (·.u), q.2.flatMap (·.codes)⟩

/-- The vectors of the transposed matrix. -/
def Mat.transpose (m : Mat) : Mat :=
  (List.range ((m.headD []).length)).map (fun j => m.map (fun v => v.getD j 0#32))

/-- Quantises a matrix by vectors, to a tile in the layout of R51. -/
def quantMat (c : QuantCtl) (m : Mat) : Tile :=
  let k := (m.headD []).length
  ⟨c.fmt, if (bfmtOf c.fmt).isSome then c.blk else 0,
   m.zipIdx.map (fun p => quantVec c (fun i => p.2 * k + i) p.1),
   if c.fmt = fmtBQ4 then c.cb else []⟩

/-- Quantises the transposed matrix of a weight tile: the tile Wᵀ, whose elements keep the places of the
forward image (R199). -/
def quantTransposed (c : QuantCtl) (m : Mat) : Tile :=
  let k := (m.headD []).length
  ⟨c.fmt, if (bfmtOf c.fmt).isSome then c.blk else 0,
   m.transpose.zipIdx.map (fun p => quantVec c (fun i => i * k + p.2) p.1),
   if c.fmt = fmtBQ4 then c.cb else []⟩

/-- The image of a transposed tile (R199): the element section in the order of the forward image, the
other sections by the tile's own vectors. -/
def Tile.imageT (t : Tile) : List Byte :=
  let nv := t.vecs.length
  let k := (t.vecs.headD ⟨0, [], []⟩).codes.length
  let es := (List.range k).flatMap (fun i => (List.range nv).map (fun v => (t.vecs.getD v ⟨0, [], []⟩).codes.getD i 0))
  let elems := padSection (packFields (elemBits t.fmt) es)
  elems ++ t.image.drop elems.length

/-- Reads a transposed image as the tile Wᵀ of `n` vectors of `k` elements (R199). -/
def readImageT (fmt blk n k : Nat) (bs : List Byte) : Tile :=
  let t := readImage fmt blk n k bs
  let es := unpackFields (elemBits fmt) (n * k) bs
  { t with vecs := t.vecs.zipIdx.map (fun p =>
      { p.1 with codes := (List.range k).map (fun i => es.getD (i * n + p.2) 0) }) }

/-- The value that an element of a quantised tile represents, in FP32. -/
def Tile.val32 (t : Tile) (j i : Nat) : BitVec 32 :=
  let v := t.vecs.getD j ⟨0, [], []⟩
  match bfmtOf t.fmt with
  | some _ => f32Of (t.val v i) false
  | none => lnsTo32 (BitVec.ofNat 16 (v.codes.getD i 0)) .rne

/-- The weight residuals that error feedback keeps (R187). -/
def efResidual (x : Mat) (t : Tile) : Mat :=
  x.zipIdx.map (fun p => p.1.zipIdx.map (fun q => f32Sub q.1 (t.val32 p.2 q.2)))

/-- The FP32 sum of squares of a matrix, added to a start. -/
def sumSquares (start : BitVec 32) (m : Mat) : BitVec 32 :=
  m.foldl (fun a v => v.foldl (fun a x => f32Add a (f32Mul x x)) a) start

/-- The observed blocks of a matrix for a format (R146 to R148): a format without block scales is seen as
BI8 with blocks of 32, none of them counted as a zero block. -/
def observeMat (fmt : Nat) (cb : List Int) (blk : Nat) (m : List (List Dy)) : List BlockObs :=
  match bfmtOf fmt with
  | some f => m.flatMap (observeVec f cb blk)
  | none => (m.flatMap (observeVec .bi8 [] 32)).map (fun o => { o with counted := false })

/-! ### OPT_UPDATE (R288) -/

/-- The optimizer parameter record (Table 9). -/
structure OptRec where
  grad : Nat
  state : Nat
  elems : Nat
  lr : BitVec 32
  b1 : BitVec 32
  b2 : BitVec 32
  eps : BitVec 32
  wd : BitVec 32
  lrTable : Nat
  lrLen : Nat
  deriving DecidableEq, Repr

/-- Reads a parameter record. -/
def optRec (bs : List Byte) : OptRec :=
  let num (o n : Nat) : Nat := ofLe ((bs.drop o).take n)
  let w (o : Nat) : BitVec 32 := BitVec.ofNat 32 (num o 4)
  ⟨num 0 8, num 8 8, num 0x10 4, w 0x14, w 0x18, w 0x1C, w 0x20, w 0x24, num 0x28 8, num 0x30 4⟩

/-- A 32-bit word of memory. -/
def memWord (s : State) (a : Nat) : BitVec 32 := BitVec.ofNat 32 (memNum s.mem a 4)

/-- The places of the arrays of a chunk's state: W, M and V after the update record, each on a 64-byte
boundary. -/
def optArrays (p : OptRec) : Nat × Nat × Nat :=
  let n := secLen (4 * p.elems)
  (p.state + 64, p.state + 64 + n, p.state + 64 + 2 * n)

/-- One element of `opt_update`: the new moments and weight. -/
def optElem (p : OptRec) (lr c1 c2 g m v w : BitVec 32) : BitVec 32 × BitVec 32 × BitVec 32 :=
  let m1 := f32Add (f32Mul p.b1 m) (f32Mul (f32Sub one32 p.b1) g)
  let v1 := f32Add (f32Mul p.b2 v) (f32Mul (f32Sub one32 p.b2) (f32Mul g g))
  let d := f32Div (f32Div m1 c1) (f32Add (f32Sqrt (f32Div v1 c2)) p.eps)
  (m1, v1, f32Sub w (f32Mul lr (f32Add d (f32Mul p.wd w))))

/-- The writes of `opt_update` for a completion of status `st` and step `t`: address and bytes. -/
def optWrites (s : State) (p : OptRec) (st t : Nat) : List (Nat × List Byte) :=
  if st = 1 ∨ st = 2 then [(p.state, leBytes 4 t)]
  else
    let lr := if p.lrTable = 0 then p.lr else memWord s (p.lrTable + 4 * min t (p.lrLen - 1))
    let p1 := f32Mul (memWord s (p.state + 8)) p.b1
    let p2 := f32Mul (memWord s (p.state + 12)) p.b2
    let n := memNum s.mem (p.state + 4) 4 + 1
    let c1 := f32Sub one32 p1
    let c2 := f32Sub one32 p2
    let (wB, mB, vB) := optArrays p
    (p.state, leBytes 4 t ++ leBytes 4 n ++ leBytes 4 p1.toNat ++ leBytes 4 p2.toNat) ::
    (List.range p.elems).flatMap (fun i =>
      let (m, v, w) := optElem p lr c1 c2 (memWord s (p.grad + 4 * i)) (memWord s (mB + 4 * i))
        (memWord s (vB + 4 * i)) (memWord s (wB + 4 * i))
      [(mB + 4 * i, leBytes 4 m.toNat), (vB + 4 * i, leBytes 4 v.toNat), (wB + 4 * i, leBytes 4 w.toNat)])

end Sys2Proof.Machine
end

