-- ==== Sys2Proof/Machine/Engines.lean ====
section
/-! DEFINITION. Array streams, creases, plane loads and the feet of the engines (R97 to R140,
R181 to R185). -/

namespace Sys2Proof.Machine

/-! ### Endpoints of an engine -/

/-- The element of a list at a place, or its last one. -/
def lastAt {α : Type} (l : List α) (p : Nat) : Option α := l[min p (l.length - 1)]?

/-- The entries that feed activations to an engine: the inputs of its ARRAY but the last, which feeds
plane loads; one input serves both (log entry 20). -/
def actInputs (s : State) (c e : Nat) : List (Nat × StreamEnt) :=
  let l := inputsOf s c 1 e
  if l.length ≤ 1 then l else l.dropLast

/-- The activation endpoint of a part. -/
def actEp (s : State) (c e part : Nat) : Option Nat := (lastAt (actInputs s c e) part).map (·.1)

/-- The endpoint that feeds plane loads. -/
def weightEp (s : State) (c e : Nat) : Option Nat := (inputsOf s c 1 e).getLast?.map (·.1)

/-- The endpoint that feeds partial tiles to the foot for a part. -/
def partialEp (s : State) (c e part : Nat) : Option Nat := (lastAt (inputsOf s c 2 e) part).map (·.1)

/-- The output stream of the foot for a part. -/
def footSid (s : State) (c e part : Nat) : Option Nat := lastAt (outputsOf s c 2 e) part

/-! ### Start-time checks (R126, R260, R262) -/

/-- The block size of a tile header. -/
def TileHdr.blk (h : TileHdr) : Nat := if (bfmtOf h.fmt).isNone then 0 else if h.blk32 then 32 else 16

/-- Whether a plane's tag accepts a stream. -/
def planeOk (g : Engine) (a : ArrWord) (mode : Mode) : Bool :=
  match (tget g.planes a.plane Plane.clear).tag with
  | none => false
  | some (f, sh) => mode.acceptsPlane f && decide (sh = a.shape)

/-- The block size of the weight tile of a part of a plane; 0 without block scales. -/
def Plane.blk (p : Plane) (part : Nat) : Nat := ((p.parts[part]?).map (·.blk)).getD 0

/-- The conditions of R126 and R262 that are checked when an array stream starts, for the header of its
first activation tile. -/
def streamOk (s : State) (c e : Nat) (q : QEntry) (h : TileHdr) : Bool :=
  let a := arrWord q.word
  match modeOf a.mode with
  | none => false
  | some m =>
    let g := getEng s c e
    planeOk g a m && m.acceptsAct h.fmt &&
    (m = .l16 || decide (h.blk = (tget g.planes a.plane Plane.clear).blk a.part)) &&
    (!(a.longSum || a.rnd) || keyLive s (clusterOf c) (srKey (jobSeed s) a.srStream q.rank a.pass))

/-- Whether a load of a plane waits or runs. -/
def Engine.loadsPlane (g : Engine) (p : Nat) : Bool := g.loads.any (fun l => decide ((arrWord l.word).plane = p))

/-- Whether a stream may not be started yet: a load of its plane waits or runs (R131), or an earlier
stream on the same activation endpoint still takes vectors (R105). -/
def streamHeld (s : State) (c e : Nat) (a : ArrWord) : Bool :=
  let g := getEng s c e
  g.loadsPlane a.plane ||
  g.streams.any (fun x =>
    let b := arrWord x.e.word
    decide (actEp s c e b.part = actEp s c e a.part) && decide (x.entered < b.m))

/-- The station code and instance that `EXC_CAUSE.STATION` shows for a station of `CORE.STN_RESET` (R194,
R284). -/
def stnField (stn : Nat) : Nat :=
  match stn with
  | 0 | 1 => 16 * stn
  | 2 | 3 | 4 | 5 => 1 + 16 * (stn - 2)
  | 6 => 3
  | 7 => 4
  | 8 => 5
  | 9 | 10 => 6 + 16 * (stn - 9)
  | 11 => 7
  | _ => 8

/-- An imprecise issue exception: the rest of the queue is discarded (R260). -/
def refuseWork (s : State) (c stn cause : Nat) (q : QEntry) : State :=
  let s1 := setStn s c stn { getStn s c stn with queue := [], work := .idle }
  coreExc (lint s1 c (lintRing stn) 6 0xFF 0 (q.word.toNat % 2 ^ 32)) c q.thread cause q.word.toNat (stnField stn) true q.pc

/-- STATION_WORK_START of an ARRAY station. -/
def startArray (s : State) (c stn : Nat) (q : QEntry) (rest : List QEntry) : State :=
  let e := stn - 2
  let a := arrWord q.word
  let popped (s : State) : State :=
    retainCluster (lint (setStn s c stn { getStn s c stn with queue := rest }) c (lintRing stn) 7 0xFF 0
      (q.word.toNat % 2 ^ 32)) (clusterOf c)
  if a.load then
    let s1 := popped s
    setEng s1 c e { getEng s1 c e with loads := (getEng s1 c e).loads ++ [q] }
  else if streamHeld s c e a then s
  else
    match (actEp s c e a.part).bind (headTile s) with
    | none => s
    | some t =>
      if streamOk s c e q t.hdr then
        let s1 := popped s
        setEng s1 c e { getEng s1 c e with
          streams := (getEng s1 c e).streams ++ [AStream.accepted q t.hdr] }
      else refuseWork s c stn 5 q

/-! ### Vectors entering -/

/-- Changes the stream at a place of an engine's list. -/
def setAStream (s : State) (c e i : Nat) (x : AStream) : State :=
  setEng s c e { getEng s c e with streams := (getEng s c e).streams.set i x }

/-- Whether the foot of an engine holds a bank for want of an output token: the array then takes no vector
(R124). -/
def footHolds (s : State) (c e : Nat) : Bool := (getStn s c (2 + e)).out.any (fun o => !hasCredits s o.1)

/-- A started stream takes the next activation tile once the one before it has been released, unless the foot is
full (R105, R124, R202); of the last tile only the vectors that the stream still lacks are consumed (R232). -/
def feedStream (s : State) (c e i : Nat) : State :=
  match (getEng s c e).streams[i]? with
  | none => s
  | some x =>
    let a := arrWord x.e.word
    match actEp s c e a.part with
    | none => s
    | some ep =>
      match headTile s ep, (getStream s ep).held with
      | some t, [] =>
        if x.started ∧ x.entered < a.m ∧ footHolds s c e = false then
          let n := min (t.hdr.rows + 1) (a.m - x.entered)
          consumePart (setAStream (takeTile s ep) c e i
            { x with entered := x.entered + n, due := x.due + n, inside := x.inside ++ [t] }) c t n (partSpan a.shape 0).1
        else s
      | _, _ => s

/-- Feeds every stream of an engine. -/
def feedEngine (s : State) (c e : Nat) : State :=
  (List.range (getEng s c e).streams.length).foldl (fun s i => feedStream s c e i) s

/-- Feeds the engine that consumes from an endpoint. -/
def feedEp (s : State) (ep : Nat) : State :=
  let p := entryOf s ep
  if p.cStn = 1 then feedEngine s p.cCore p.cInst else s

/-- Feeds the engine whose foot produces on an endpoint: a token may have freed its bank (R124). -/
def feedFoot (s : State) (ep : Nat) : State :=
  let p := entryOf s ep
  if p.pStn = 2 then feedEngine s p.pCore p.pInst else s

/-- Whether an issue differs from the mode or shape that an engine is set to (R134). -/
def Engine.differs (g : Engine) (a : ArrWord) : Bool := decide (a.mode ≠ g.mode ∨ a.shape ≠ g.shape)

/-- Whether a shape splits the columns at column 64 (Table 9). -/
def splitsColumns (sh : Nat) : Bool := decide (2 ≤ sh)

/-- Whether a part lies right of column 64 in a shape that splits there (Table 9). -/
def rightPart (sh part : Nat) : Bool := splitsColumns sh && decide (part % 2 = 1)

/-- Whether a stream that has started still takes vectors. -/
def AStream.takes (x : AStream) : Bool := x.started && (decide (x.entered < (arrWord x.e.word).m) || decide (0 < x.due))

/-- Whether a stream runs in another mode or shape than an issue asks for. -/
def AStream.otherwise (x : AStream) (a : ArrWord) : Bool :=
  decide ((arrWord x.e.word).mode ≠ a.mode) || decide ((arrWord x.e.word).shape ≠ a.shape)

/-- Whether vectors that entered in a shape without a split have not yet passed column 64 in every row (R138). -/
def Engine.unsplitPasses (g : Engine) : Bool :=
  g.streams.any (fun x => x.started && !splitsColumns (arrWord x.e.word).shape && (x.takes || decide (0 < g.passing)))

/-- Whether an issue waits for a crease (R134, R138, R140): it would start one while the last one is in passage or while a
stream of another part still takes vectors in another mode or shape (log entry 101), or its part lies right of column
64 behind vectors of an unsplit shape that still have to pass that column. -/
def Engine.creaseWaits (g : Engine) (a : ArrWord) : Bool :=
  (g.differs a && (g.crease.isSome || g.streams.any (fun x => x.takes && x.otherwise a))) ||
  (rightPart a.shape a.part && g.unsplitPasses)

/-- Whether stream `i` of an engine is the next of its part to take vector 0, with no stream of another mode or shape
waiting before it (R105, R134). -/
def Engine.isNext (g : Engine) (i : Nat) (x : AStream) : Bool :=
  !x.started && (g.streams.take i).all (fun y =>
    let a := arrWord x.e.word
    let b := arrWord y.e.word
    y.started || (decide (b.part ≠ a.part) && decide (b.mode = a.mode) && decide (b.shape = a.shape)))

/-- The streams of an engine that are next to take vector 0. -/
def Engine.waiting (g : Engine) : List (Nat × AStream) :=
  (g.streams.zipIdx.filter (fun p => g.isNext p.2 p.1)).map (fun p => (p.2, p.1))

/-- Whether a stream may take vector 0 now: the foot is not full, no crease makes it wait, and a tile stands at its
activation endpoint, where no tile before it is still held. -/
def mayEnter (s : State) (c e : Nat) (x : AStream) : Bool :=
  let a := arrWord x.e.word
  coreRuns s c && !footHolds s c e && !(getEng s c e).creaseWaits a &&
  (match actEp s c e a.part with
   | none => false
   | some ep => !(getStream s ep).queue.isEmpty && (getStream s ep).held.isEmpty)

/-- The first stream that may take vector 0 now. -/
def nextToEnter (s : State) (c e : Nat) : Option (Nat × AStream) :=
  (getEng s c e).waiting.find? (fun p => mayEnter s c e p.2)

/-- A crease enters (R134, R138): it holds a credit of the activation stream, taken from those on their way back or
else from the producer's; where none is free it holds the next one released (R203; log entry 72). -/
def enterCrease (s : State) (c e ep : Nat) (a : ArrWord) : State :=
  let x := getStream s ep
  let owed := decide (x.ret = 0 ∧ x.credits = 0)
  let y := if 0 < x.ret then { x with ret := x.ret - 1, crease := true }
    else if owed then x else { x with credits := x.credits - 1, crease := true }
  let s1 := setStream s ep y
  lint (setEng s1 c e { getEng s1 c e with mode := a.mode, shape := a.shape, crease := some ⟨ep, owed⟩ })
    c (2 + e) 9 (entryOf s ep).cSid 0 0

/-- A crease where an issue differs from the engine's setting. -/
def creaseFor (s : State) (c e ep : Nat) (a : ArrWord) : State :=
  if (getEng s c e).differs a then enterCrease s c e ep a else s

/-- The weight tile of a part of a plane. -/
def Plane.tile (p : Plane) (part : Nat) : Tile := p.parts.getD part ⟨0, 0, [], []⟩

/-- Whether the weights that an issue selects derive from a substituted rack copy (R149, R220). -/
def planeStale (s : State) (c e : Nat) (a : ArrWord) : Bool :=
  (tget (getEng s c e).planes a.plane Plane.clear).stale.getD a.part false

/-- Vector 0 of the next stream enters the part's first row (R103, R105, R134 to R140): a mode or shape
that differs starts a crease. Pruned weights of the plane are counted by the STAT tap (R54): DESIGN CHOICE (log
entry 73), once for each stream that starts on the part. -/
def execArrayStreamStart (c e : Nat) (s : State) : Res :=
  .next (match nextToEnter s c e with
    | none => s
    | some (i, x) =>
      let a := arrWord x.e.word
      match actEp s c e a.part with
      | none => s
      | some ep =>
        let s1 := feedStream (setAStream (creaseFor s c e ep a) c e i { x with started := true }) c e i
        let w := (tget (getEng s c e).planes a.plane Plane.clear).tile a.part
        if observed s1 c x.hdr ∧ planeStale s1 c e a = false ∧ 0 < w.pruned then
          observe s1 c x.hdr.entry (fun o => { o with pruned := o.pruned + w.pruned })
        else s1)

/-- Replays that wait for their own crease enter (R140): the first of an engine whose mode and shape now hold, or
may start a crease. -/
def enterReplay (s : State) (c e : Nat) : State :=
  let g := getEng s c e
  match (g.streams.zipIdx.find? (fun p => p.1.waits && !g.creaseWaits (arrWord p.1.e.word))) with
  | none => s
  | some (x, i) =>
    let a := arrWord x.e.word
    match actEp s c e a.part with
    | none => s
    | some ep => setAStream (creaseFor s c e ep a) c e i { x with waits := false, due := min 128 (a.m - x.outDone) }

/-- CREASE_COMPLETE (R140): the crease reaches cell (127, 127) and its credit goes back. -/
def execCreaseComplete (c e : Nat) (s : State) : Res :=
  .next (match (getEng s c e).crease with
    | none => s
    | some k =>
      let x := getStream s k.ep
      enterReplay (setEng (setStream s k.ep { x with ret := x.ret + b2n x.crease, crease := false }) c e
        { getEng s c e with crease := none }) c e)

/-! ### Plane loads (R128 to R131) -/

/-- PLANE_LOAD_START (R130, R131): no load runs, and no issued stream that selects the plane is still in
the array. -/
def execPlaneLoadStart (c e : Nat) (s : State) : Res :=
  let g := getEng s c e
  .next (match g.loads with
    | [] => s
    | q :: _ =>
      if g.loading ∨ coreRuns s c = false ∨
          g.streams.any (fun x => (arrWord x.e.word).plane = (arrWord q.word).plane) then s
      else setEng s c e { g with loading := true })

/-- The tile of a plane part from a tile on the weight stream, in the format and block size of its own
header. -/
def planeTile (t : STile) : Tile :=
  readImage t.hdr.fmt t.hdr.blk (t.hdr.rows + 1) (t.hdr.cols + 1) t.img

/-- The logical columns of a part of `cols` physical columns for a weight format (Table 1). -/
def logicalCols (fmt cols : Nat) : Nat :=
  if fmt = fmtBI8 then cols / 4 else if fmt = fmtLNS16 then cols / 8 else cols

/-- What a part holds of a weight tile (R98, R132). -/
def partTile (shape part : Nat) (t : STile) : Tile :=
  let sp := partSpan shape part
  (planeTile t).fit sp.1 (logicalCols t.hdr.fmt sp.2.1)

/-- A plane loaded with tiles for a shape, under a format tag (R97, R99, R109, R128). DESIGN CHOICE (log entry 108): the tag
takes the issue's format and the values that of the tiles' headers, where the two differ. -/
def loadedPlane (fmt shape : Nat) (ts : List STile) : Plane :=
  ⟨some (fmt, shape), ts.zipIdx.map (fun t => partTile shape t.2 t.1), ts.map (·.hdr.stale), ts.map (·.hdr.tile)⟩

/-- PLANE_LOAD_COMPLETE (R97, R99, R109, R128, R139): the plane's tiles are taken from the weight stream,
part n of the shape taking tile n, and the tag is written with the format and shape of the issue. -/
def execPlaneLoadComplete (c e : Nat) (s : State) : Res :=
  let g := getEng s c e
  .next (match g.loads, weightEp s c e with
    | q :: rest, some ep =>
      let a := arrWord q.word
      let n := shapeParts a.shape
      let ts := (getStream s ep).queue.take n
      if g.loading = false ∨ coreRuns s c = false ∨ ts.length < n then s
      else
        let s1 := (List.range n).foldl (fun s _ => takeTile s ep) s
        let s2 := ts.foldl (fun s t => consumePart s c t (logicalCols t.hdr.fmt (partSpan a.shape 0).2.1) (partSpan a.shape 0).1) s1
        let g2 := getEng s2 c e
        lint (setEng s2 c e { g2 with loads := rest, loading := false
                                      planes := tset g2.planes a.plane (loadedPlane a.outFmt a.shape ts) })
          c (2 + e) 8 0xFF 0 (q.word.toNat % 2 ^ 32)
    | _, _ => s)

/-! ### The foot -/

/-- The rows of an activation tile as array operands; `shift` is subtracted from the logarithm of every
non-zero element of a replay (R181). -/
def actRows (t : STile) (shift : Bool) : List TVec :=
  let x := readImage t.hdr.fmt t.hdr.blk (t.hdr.rows + 1) (t.hdr.cols + 1) t.img
  if shift then x.vecs.map (fun v => { v with codes := v.codes.map (fun q =>
    let b := BitVec.ofNat 16 q
    if lnsIsZero b then q else (lnsMake (lnsNeg b) (lnsLog b - 8192)).1.bits.toNat) })
  else x.vecs

/-- The state of a replay budget: whether a trigger of an observed tile may be replayed (R185,
`PRU.CTRL.REPLAY_EN`). -/
def mayReplay (s : State) (c e entry : Nat) : Bool :=
  csrBit s O.pruCtrl 2 &&
    decide (tget (getEng s c e).replays entry 0 < (tget s.pru.active entry RuleEntry.zero).replay)

/-- A replay is counted: TILE_REPLAY, `REPLAYS`, `PRU.CNT_REPLAY` and the engine's budget (R181, R185). DESIGN CHOICE
(log entry 74): the record names the core. -/
def countReplay (s : State) (c e : Nat) (h : TileHdr) (stn : Nat) : State :=
  let s1 := raise (bump s O.pruCntReplay) 0x1020 1 (coreClass s c) 1 c
  let s2 := observe s1 c h.entry (fun o => { o with replays := o.replays + 1 })
  let g := getEng s2 c e
  lint (setEng s2 c e { g with replays := tmod g.replays h.entry 0 (· + 1) }) c (outRing stn) 0x0A 0xFF
    h.lintEntry h.tile

/-- A trigger beyond the budget is counted: REPLAY_EXHAUSTED, `EXHAUSTED`, `PRU.CNT_EXHAUST` (R185; the record is
log entry 74). -/
def countExhausted (s : State) (c _e : Nat) (h : TileHdr) : State :=
  let s1 := raise (bump s O.pruCntExhaust) 0x1021 0 (coreClass s c) 1 c
  observe s1 c h.entry (fun o => { o with exhausted := o.exhausted + 1 })

/-- What one output tile of a stream needs: the issue, the vectors, the partial tile, the weight tile as the part holds
it, and the control. -/
structure FootJob where
  a : ArrWord
  n : Nat
  acts : List TVec
  parts : Mat
  wt : Tile
  ctl : FootCtl
  deriving DecidableEq, Repr

/-- The tiles of a list that hold its first `k` vectors. -/
def coverTiles : List STile → Nat → List STile
  | [], _ => []
  | t :: ts, k => if k = 0 then [] else t :: coverTiles ts (k - (t.hdr.rows + 1))

/-- The vectors of the next output tile of a stream. -/
def AStream.nextRows (x : AStream) : Nat := min 128 ((arrWord x.e.word).m - x.outDone)

/-- The header of the activation tile that drives the next output tile of a stream. It is `STALE` where a tile that
the output derives from is: an activation tile, the weights or the partial tile (R220). -/
def footHdr (s : State) (c e : Nat) (x : AStream) (part : Option STile) : TileHdr :=
  let a := arrWord x.e.word
  let used := coverTiles x.inside (x.skip + x.nextRows)
  let h := (x.inside.headD ⟨x.hdr, [], [], []⟩).hdr
  { h with stale := h.stale || used.any (·.hdr.stale) || part.toList.any (·.hdr.stale) || planeStale s c e a }

/-- The job of the next output tile of a stream. A replay draws by the output tile count of the original issue (R184).
DESIGN CHOICE (log entry 75): the aligners take the weight tile's block size, and the issue's `BLK32` sets the
output's. -/
def footJob (s : State) (c e : Nat) (x : AStream) (part : Option STile) : FootJob :=
  let a := arrWord x.e.word
  let g := getEng s c e
  let n := x.nextRows
  let mode := (modeOf a.mode).getD .n2
  { a := a, n := n
    acts := ((x.inside.flatMap (fun t => actRows t (x.replay && decide (mode = .l16)))).drop x.skip).take n
    parts := (part.map wideRows).getD []
    wt := (tget g.planes a.plane Plane.clear).tile a.part
    ctl := ⟨mode, a.longSum, a.acc, a.fin, a.rescale, a.rnd, a.outFmt, if a.blk32 then 32 else 16,
      srKey (jobSeed s) a.srStream x.e.rank a.pass, (x.inside.headD ⟨x.hdr, [], [], []⟩).hdr.step,
      (if x.replay then x.tileNo else tget g.tileCount a.srStream 0) % 2 ^ 18, (partSpan a.shape a.part).2.2,
      if x.replay && decide (mode = .l16) then 16 else 0⟩ }

/-- A row of foot results: each an A32 pattern with its foot overflows. -/
abbrev FootRow := List (BitVec 32 × Nat)

/-- Foot stages 1 to 3 of a job. -/
def FootJob.rows (j : FootJob) (c e : Nat) : List FootRow :=
  footRows j.ctl j.wt 0 j.acts j.parts
    ((List.range j.wt.vecs.length).map (fun q => Config.columnScale (c * 4 + e) j.a.plane (j.a.part * 128 + q)))

/-- Whether a row that FOOT quantises captures the scale (R181). -/
def FootJob.rowCaptured (j : FootJob) (r : FootRow) : Bool :=
  j.a.fin && (match bfmtOf j.a.outFmt with
    | none => false
    | some f => scaleCaptured f [] j.ctl.blk (r.map (fun x => a32Val x.1)) (r.map footSat))

/-- The rows that stage 4 takes: after a scale-capture replay, a vector that captured the scale has its saturated
elements set to zero (R181). -/
def FootJob.final (j : FootJob) (rows : List FootRow) (again : Bool) : List (List (BitVec 32)) :=
  rows.map (fun r => r.map (fun x => if again && j.rowCaptured r && footSat x then 0#32 else x.1))

/-- Whether the L16 trigger of R181 holds: some product or sum of the stream saturated. -/
def FootJob.saturated (j : FootJob) : Bool :=
  decide (j.ctl.mode = .l16) &&
    j.acts.any (fun av => j.wt.vecs.any (fun wv => decide (0 < (columnLns wv av).2.ovf)))

/-- The blocks that the STAT tap sees in a finished output tile (R146, R148). -/
def FootJob.observed (j : FootJob) (rows : List (List (BitVec 32))) : List BlockObs :=
  observeMat (if j.a.fin then j.a.outFmt else fmtA32) [] j.ctl.blk (rows.map (fun r => r.map a32Val))

/-- Drops the activation tiles of a stream whose vectors have all been put out. -/
def dropInside : List STile → Nat → List STile × Nat
  | [], k => ([], k)
  | t :: ts, k => if t.hdr.rows + 1 ≤ k then dropInside ts (k - (t.hdr.rows + 1)) else (t :: ts, k)

/-- The stream after an output tile of `n` vectors; vectors that have left have entered. -/
def AStream.put (x : AStream) (n : Nat) : AStream :=
  let (ts, k) := dropInside x.inside (x.skip + n)
  { x with outDone := x.outDone + n, inside := ts, skip := k, replay := false, part := none
           due := if x.replay then x.entered - (x.outDone + n) else min x.due (x.entered - (x.outDone + n)) }

/-- The index within its entry of the output tile in hand (R154; log entry 11): weight-tile index times the number of
vector groups, plus the vector-group index. -/
def footTileIndex (s : State) (c e : Nat) (x : AStream) (h : TileHdr) : Nat :=
  let a := arrWord x.e.word
  let w := (tget (getEng s c e).planes a.plane Plane.clear).tiles.getD a.part 0
  let v := variantOf s h.entry
  Config.weightTile h.entry v (c * 4 + e) w * Config.groups h.entry + Config.vectorGroup h.entry v h.tile

/-- The array's side of a spot check (R157): the stage-1 results of one logical column. Those of a replay stand at 2 ^
-16, and are brought back by the factor that stage 3 applies (R181). -/
def FootJob.column (j : FootJob) (col : Nat) : List (BitVec 32) :=
  j.acts.zipIdx.map (fun a =>
    let y := (footStage1 j.ctl j.wt a.2 col a.1).1
    if j.ctl.boost = 0 then y else (a32Of ((a32Val y).scale j.ctl.boost) .rne).1)

/-- Gives the checks that await an output tile their column, and cuts their wide rows to the rows of the reduction that the
tile's part spans (R157). -/
def fillSpots (s : State) (entry t : Nat) (j : FootJob) : State :=
  { s with cores := s.cores.map (fun k => (k.1, { k.2 with spots := k.2.spots.map (fun x =>
      if x.entry = entry ∧ x.tile = t ∧ x.arr.isNone then
        { x with arr := some (j.column x.col), wide := x.wide.map (·.take (partSpan j.a.shape j.a.part).1) }
      else x) })) }

/-- Hands a finished tile to the foot's output and counts what STAT sees of it. DESIGN CHOICE (log entry 76): STAT
sees the blocks as they leave, after a scale-capture replay those of the replayed image. DESIGN CHOICE (log entry 107): the
count of output tiles of R122 is one for an engine and its SR_STREAM, and starts again with a step only. -/
def footEmit (s : State) (c e i sid : Nat) (x : AStream) (j : FootJob) (rows : List FootRow) (again : Bool) (h : TileHdr) :
    State :=
  let out := j.final rows again
  let (t, _) := footPack j.ctl 0 out
  let done := decide (x.outDone + j.n = j.a.m)
  let hdr : TileHdr := { h with
    fmt := t.fmt, blk32 := j.a.blk32 && (bfmtOf t.fmt).isSome, wide := false, last := done
    rows := j.n - 1, cols := j.wt.vecs.length - 1 }
  let s1 := giveTile s c (2 + e) sid ⟨hdr, t.image, [], []⟩
  let g := getEng s1 c e
  let s2 := setEng s1 c e { g with
    tileCount := if x.replay then g.tileCount else tmod g.tileCount j.a.srStream 0 (· + 1)
    streams := if done then g.streams.eraseIdx i else g.streams.set i (x.put j.n) }
  let s3 := footOverflows s2 c h ((rows.flatMap id).map (·.2)).sum
  let s4 := if observed s3 c h then
      fillSpots (if j.a.fin then observe s3 c h.entry (fun o => o.blocksSeen (j.observed out))
        else observe s3 c h.entry (fun o => { o with tiles := o.tiles + 1 })) h.entry (footTileIndex s c e x h) j
    else s3
  if done then lint s4 c (2 + e) 8 0xFF 0 (x.e.word.toNat % 2 ^ 32) else s4

/-- The scale capture of an observed tile is replayed within the budget or counted as exhausted, unless the tile is
exhausted already (R181, R185); then the tile leaves. -/
def footCapture (s : State) (c e i sid : Nat) (x : AStream) (j : FootJob) (h : TileHdr) (exhausted : Bool) : State :=
  let rows := j.rows c e
  if observed s c h ∧ rows.any j.rowCaptured then
    if mayReplay s c e h.entry then footEmit (countReplay s c e h (2 + e)) c e i sid x j rows true h
    else footEmit (if exhausted then s else countExhausted s c e h) c e i sid x j rows false h
  else footEmit s c e i sid x j rows false h

/-- The L16 replay of an output tile (R181, R184): the saturations of the original issue are counted, its output tile
count and its partial tile are kept for the replay, and the re-issue enters, with a crease of its own where the engine
has another setting (R140). -/
def replayL16 (s : State) (c e i : Nat) (x : AStream) (part : Option STile) (j : FootJob) (h : TileHdr) : State :=
  let s1 := footOverflows (countReplay s c e h (2 + e)) c h (((j.rows c e).flatMap id).map (·.2)).sum
  let g := getEng s1 c e
  let y : AStream := { x with replay := true, waits := true, tileNo := tget g.tileCount j.a.srStream 0, part := part }
  enterReplay (setEng s1 c e { g with
    tileCount := tmod g.tileCount j.a.srStream 0 (· + 1), streams := g.streams.set i y }) c e

/-- The next output tile of stream `i`: the L16 trigger of an observed tile is replayed within the budget or counted as
exhausted, and the scale capture after it (R181 to R185). DESIGN CHOICE (log entry 77): a trigger on a tile that STAT
does not observe is neither replayed nor counted. -/
def footTile (s : State) (c e i sid : Nat) (x : AStream) (part : Option STile) : State :=
  let j := footJob s c e x part
  let h := footHdr s c e x part
  let sat := !x.replay && j.saturated && observed s c h
  if sat && mayReplay s c e h.entry then replayL16 s c e i x part j h
  else footCapture (if sat then countExhausted s c e h else s) c e i sid x j h sat

/-- The first stream of an engine whose next output tile has all its vectors in; a replay that waits to enter is not
yet there. -/
def footReady (s : State) (c e : Nat) : Option (Nat × AStream) :=
  (((getEng s c e).streams.zipIdx).find? (fun p =>
    p.1.started && !p.1.waits && decide (p.1.outDone + p.1.nextRows ≤ p.1.entered))).map (fun p => (p.2, p.1))

/-- The output tiles of a part that the foot's banks hold (R124): two in shapes S0 and S2, whose banks alternate, one in
S1 and S3, where each row band has its own bank. -/
def footDepth (shape : Nat) : Nat := if shape % 2 = 0 then 2 else 1

/-- Whether the banks of a part are full of tiles that wait for their output token (R124). -/
def bankFull (s : State) (c e sid : Nat) (a : ArrWord) : Bool :=
  let es := (ownFanout s c (2 + e) sid).map Prod.fst
  decide (footDepth a.shape ≤ ((getStn s c (2 + e)).out.filter (fun o => decide (o.1 = es))).length)

/-- FOOT_TILE_OUT (R118 to R124, R181 to R185): the next tile leaves stage 5 and waits in the foot's
bank for its output token. -/
def execFootTileOut (c e : Nat) (s : State) : Res :=
  .next (match footReady s c e with
    | none => s
    | some (i, x) =>
      let a := arrWord x.e.word
      match footSid s c e a.part with
      | none => s
      | some sid =>
        if coreRuns s c = false ∨ bankFull s c e sid a then s
        else if a.acc ∧ x.replay = false then
          match partialEp s c e a.part with
          | none => s
          | some ep => match headTile s ep with
            | none => s
            | some p => enterReplay (footTile (consume (takeTile s ep) c p) c e i sid x (some p)) c e
        else enterReplay (footTile s c e i sid x x.part) c e)

end Sys2Proof.Machine
end

