-- ==== Sys2Proof/Machine/Library.lean ====
section
/-! DEFINITION. PLAIN, SHAPE and GATHER at work: what a work word reads, checks, computes and gives
(R187, R198, R260, R262, R287, R288, R308 to R310). -/

namespace Sys2Proof.Machine

/-- The values of a tile in FP32: wide formats widened, quantised formats by the value each element
represents. -/
def tileMat (t : STile) : Mat :=
  if (bfmtOf t.hdr.fmt).isSome ∨ t.hdr.fmt = fmtLNS16 then
    let x := planeTile t
    x.vecs.zipIdx.map (fun p => (List.range p.1.codes.length).map (fun i => x.val32 p.2 i))
  else wideRows t

/-- The header that drives the output tiles of a work word: the streamed input's, `STALE` where either operand derives
from a substituted rack copy (R198, R220). -/
def driveHdr (a : STile) (b : Option STile) : TileHdr :=
  { a.hdr with stale := a.hdr.stale || b.toList.any (·.hdr.stale) }

/-- The header of an output tile (R198): format, block size and shape of its own, the rest as the streamed
input tile that drove the work. DESIGN CHOICE (log entry 79): a work word has no descriptor, and `LAST` stands on the
last tile that it gives. -/
def outHdr (h : TileHdr) (fmt blk rows cols : Nat) (last : Bool := true) : TileHdr :=
  { h with fmt := fmt, blk32 := decide (blk = 32), wide := false, last := last, rows := rows - 1, cols := cols - 1 }

/-- An output tile of 32-bit elements. -/
def matTile (h : TileHdr) (fmt : Nat) (m : Mat) : STile :=
  ⟨outHdr h fmt 0 m.length (m.headD []).length, m.image, [], []⟩

/-- An output tile of a quantised image. -/
def imgTile (h : TileHdr) (t : Tile) (img : List Byte) (last : Bool) : STile :=
  ⟨outHdr h t.fmt t.blk t.vecs.length (t.vecs.headD ⟨0, [], []⟩).codes.length last, img, [], []⟩

/-! ### QUANT -/

/-- The numeric events of quantising a matrix (R81, R82). -/
def matEvents (m : Mat) : NumEv :=
  m.foldl (fun a v => v.foldl (fun a x => a.add (finIn x).2) a) NumEv.none

/-- The forward entry of the layer of an entry, with its number. -/
def forwardEntry (s : State) (n : Nat) : Option (Nat × RuleEntry) :=
  let l := (tget s.pru.active n RuleEntry.zero).layer
  s.pru.active.find? (fun e => e.2.valid && decide (e.2.layer = l) && decide (e.2.pass = 0))

/-- The codebook of the layer of an entry (R55, R56). -/
def codebookOf (s : State) (n : Nat) : List Int :=
  match s.weave with
  | some w => w.codebook (tget s.pru.active n RuleEntry.zero).layer
  | none => codebookDefault

/-- The per-channel scales folded into a weight tile (R78, R79): row `k` of the reduction is multiplied by its scale,
where the layer has one folded in. -/
def foldScales (s : State) (h : TileHdr) (m : Mat) : Mat :=
  let l := (tget s.pru.active h.entry RuleEntry.zero).layer
  let meas := (s.weave.map (·.meas)).getD 0
  m.map (fun v => v.zipIdx.map (fun x => match Config.foldScale meas l h.tile x.2 with
    | some c => f32Mul c x.1
    | none => x.1))

/-- Whether QUANT feeds errors back for an entry: the forward entry of its layer has `EF` set (R187). -/
def feedsBack (s : State) (n : Nat) : Bool := ((forwardEntry s n).map (·.2.ef)).getD false

/-- The number of a weight tile of a layer, by its acting rank, in the tiles quantised since R190 marked the layer. -/
def efKey (rank tile : Nat) : Nat := rank * 2 ^ 18 + tile

/-- The layer of an entry. -/
def layerOf (s : State) (n : Nat) : Nat := (tget s.pru.active n RuleEntry.zero).layer

/-- Whether the residual of a tile stands at zero because R190 has marked its layer since the tile was last quantised. -/
def efMarked (s : State) (n key : Nat) : Bool :=
  match tget? s.pru.efZero (layerOf s n) with
  | some l => !l.contains key
  | none => false

/-- The residual that QUANT adds to a weight tile (R187, R190): zero where the layer is marked, and in a layer without
error feedback. -/
def efInput (s : State) (h : TileHdr) (key : Nat) (b : Option STile) (m : Mat) : Mat :=
  if feedsBack s h.entry && !efMarked s h.entry key then (b.map tileMat).getD [] else m.map (·.map (fun _ => 0#32))

/-- The published variants of the layers' forward entries in a rule table (R190). -/
def layerVariants (es : List (Nat × RuleEntry)) : Tbl Nat :=
  (es.filter (fun e => e.2.valid && decide (e.2.pass = 0))).foldl (fun t e => tset t e.2.layer e.2.cur) []

/-- Marks the layers for which `f` holds: every tile's residual stands at zero until it is quantised next (R190). -/
def markLayers (s : State) (ls : List Nat) : State :=
  { s with pru := { s.pru with efZero := ls.foldl (fun t l => tset t l []) s.pru.efZero } }

/-- The layers whose forward entry in a table has another variant than the one last published (R190). -/
def variantsMoved (old : Tbl Nat) (es : List (Nat × RuleEntry)) : List Nat :=
  ((layerVariants es).filter (fun e => match tget? old e.1 with
    | some v => decide (v ≠ e.2)
    | none => false)).map (·.1)

/-- The first quantisation of a tile after R190 marked its layer uses the mark for that tile. -/
def useMark (s : State) (n key : Nat) : State :=
  match tget? s.pru.efZero (layerOf s n) with
  | none => s
  | some l => if l.contains key then s else { s with pru := { s.pru with efZero := tset s.pru.efZero (layerOf s n) (key :: l) } }

/-- Scale capture in SHAPE (R181): within the budget the vectors are re-quantised, beyond it the trigger is
counted. The budget of engine 0 serves SHAPE (log entry 21). -/
def shapeCapture (s : State) (c : Nat) (h : TileHdr) (captured : Bool) : State × Bool :=
  if observed s c h ∧ captured then
    if mayReplay s c 0 h.entry then (countReplay s c 0 h 7, true) else (countExhausted s c 0 h, false)
  else (s, false)

/-- Whether STAT histograms what QUANT makes of a tile: streamed operands of every pass, weight tiles under the
forward entry only (R146). -/
def quantSeen (s : State) (c : Nat) (h : TileHdr) (weight : Bool) : Bool :=
  observed s c h && (!weight || decide ((tget s.pru.active h.entry RuleEntry.zero).pass = 0))

/-- The observations of a quantised matrix. -/
def observeQuant (s : State) (c : Nat) (h : TileHdr) (seen : Bool) (k : QuantCtl) (m : Mat) : State :=
  if seen then observe s c h.entry (fun o => o.blocksSeen (observeMat k.fmt k.cb k.blk (m.map k.values))) else s

/-- The owned logical columns of a tile of an entry, from the lowest (R155). -/
def ownedColumns (s : State) (entry t : Nat) : List Nat :=
  (sortBy id ((Config.ownedCols (selfRank s) entry (variantOf s entry) t).filter (· < 128))).dedup

/-- The weight tiles against which a tile that a core streams runs, by their index: those of its band of the reduction
(R154). -/
def bandTiles (s : State) (c : Nat) (h : TileHdr) : List Nat :=
  let v := variantOf s h.entry
  ((sortBy id (Config.weightTiles (selfRank s) c h.entry v)).dedup).filter (fun w =>
    decide (Config.weightBand h.entry v w = Config.streamBand h.entry v h.tile))

/-- One tile of an entry that SHAPE's wide rows stream against, if R154 picks it (R154, R155, R158, R159): a check opens
for an owned column while fewer than 8 are in flight, and else is counted as abandoned. -/
def spotTile (c : Nat) (h : TileHdr) (m : Mat) (r : State × Bool) (w : Nat) : State × Bool :=
  let s := r.1
  let t := w * Config.groups h.entry + Config.vectorGroup h.entry (variantOf s h.entry) h.tile
  let p := spotPick (jobSeed s) (selfRank s) (csrBits s O.pruSpotRate 4 0) h.step h.entry t h.pass
  let owned := ownedColumns s h.entry t
  if p.1 && !owned.isEmpty then
    let k := getCore s c
    if k.spots.length < 8 then
      (setCore s c { k with spots := k.spots ++ [⟨h.entry, t, owned.getD (p.2 % owned.length) 0, m, none⟩] }, true)
    else (observe s c h.entry (fun o => { o with spotAbandoned := o.spotAbandoned + 1 }), r.2)
  else r

/-- The spot checks of a streamed tile that SHAPE quantises (R154 to R159; log entry 11). Answers whether its wide rows
go to the plain unit. -/
def spotCheck (s : State) (c : Nat) (h : TileHdr) (m : Mat) : State × Bool :=
  if csrBit s O.pruCtrl 1 && observed s c h && decide (variantOf s h.entry ≠ 3) then
    (bandTiles s c h).foldl (spotTile c h m) (s, false)
  else (s, false)

/-- One image of QUANT: the scale capture, what STAT sees (log entry 76), and the tile on `OUT`. -/
def quantImage (s : State) (c : Nat) (h : TileHdr) (k : QuantCtl) (m : Mat) (seen wide last : Bool) (out : Nat)
    (image : QuantCtl → Tile × List Byte) : State × Tile :=
  let (s1, again) := shapeCapture s c h (m.any k.captured)
  let k1 := { k with replay := again }
  let (t, img) := image k1
  let x := imgTile h t img last
  (giveTile (observeQuant s1 c h seen k1 m) c 7 out { x with hdr := { x.hdr with wide := wide } }, t)

/-- QUANT: the images and, under error feedback, the new residual, in the order they go on `OUT` (R187,
R188, R199). The forward image is captured by its own vectors and the transposed image by those of Wᵀ (R181). With
`ARG`[7] but without `EF` in the forward entry nothing is fed back, and the residual is zero (R153, R187; log entry
80). DESIGN CHOICE (log entry 105): a scale that is folded into the weights (R79) is folded before the residual is added, and
the residual is that of the folded weight. -/
def runQuant (s : State) (c : Nat) (q : QEntry) (w : RoutineWord) (a : STile) (b : Option STile) (out : Nat) :
    State :=
  let blk := if bitOf w.arg 4 then 32 else 16
  let weight := bitOf w.arg 6
  let ef := bitOf w.arg 7
  let h := driveHdr a b
  let n0 := tget (getStn s c 7).made out 0 % 2 ^ 18
  let m0 := if weight then foldScales s h (tileMat a) else tileMat a
  let res := efInput s h (efKey q.rank h.tile) b m0
  let m1 : Mat := if ef then m0.zipIdx.map (fun p => p.1.zipIdx.map (fun x => f32Add x.1 (res.get p.2 x.2))) else m0
  let m := if bitOf w.arg 5 then m1.transpose else m1
  let key := srKey (jobSeed s) w.srStream q.rank (if ef then 2 else h.pass)
  let ctl (k : Nat) : QuantCtl :=
    ⟨w.arg % 16, codebookOf s h.entry, blk, decide (a.hdr.fmt = fmtA32), decide (w.rnd = 1), key, h.step, (n0 + k) % 2 ^ 18, false⟩
  let seen := quantSeen s c h weight
  let (s1, wide) := if weight then (s, false) else spotCheck (numEvents s c h (matEvents m)) c h m
  let s0 := if weight then useMark (numEvents s c h (matEvents m)) h.entry (efKey q.rank h.tile) else s1
  let (s2, fwd) := quantImage s0 c h (ctl 0) m seen wide (!weight && !ef) out (fun k => (quantMat k m, (quantMat k m).image))
  let s3 := if weight then
      (quantImage s2 c h (ctl 1) m.transpose seen false (!ef) out (fun k =>
        (quantTransposed k m, (quantTransposed k m).imageT))).1
    else s2
  if ef then
    if feedsBack s h.entry then
      let e := efResidual m fwd
      let s4 := if observed s3 c h then observe s3 c h.entry (fun o =>
          { o with resSq := sumSquares o.resSq e, sigSq := sumSquares o.sigSq m }) else s3
      giveTile s4 c 7 out (matTile h fmtFP32 e)
    else giveTile s3 c 7 out (matTile h fmtFP32 (m.map (·.map (fun _ => 0#32))))
  else s3

/-! ### CONVERT, arithmetic, TOPK -/

/-- CONVERT. -/
def runConvert (s : State) (c stn fmt : Nat) (a : STile) (out : Nat) : State :=
  let r := (tileMat a).map (fun v => v.map (convertElem fmt))
  let ev := r.foldl (fun e v => v.foldl (fun e x => e.add x.2) e) NumEv.none
  let img := padSection (packFields (elemBits fmt) (r.flatMap (fun v => v.map (·.1))))
  giveTile (numEvents s c a.hdr ev) c stn out
    ⟨outHdr a.hdr fmt 0 r.length (r.headD []).length, img, [], []⟩

/-- TOPK: the ranked attributions of a tile as records, zero-filled to `k` (R510). -/
def topkTile (a : STile) (k : Nat) : STile :=
  let l := (tileMat a).zipIdx.flatMap (fun p => p.1.zipIdx.map (fun x => (⟨p.2, x.2, x.1⟩ : Attr)))
  let bs := (rankAttrs k l).flatMap Attr.bytes
  let img := padSection (bs ++ List.replicate (8 * k - bs.length) 0#8)
  ⟨outHdr a.hdr fmtFP32 0 1 (2 * k), img, [], []⟩

/-! ### OPT_UPDATE -/

/-- The raw words of a completion tile: status, counts, chunk and step (R362). -/
def completionWords (a : STile) : List Nat := unpackFields 32 4 a.img

/-- The ranges that OPT_UPDATE reads. -/
def optReads (p : OptRec) (t : Nat) : List (Nat × Nat) :=
  let (wB, mB, vB) := optArrays p
  [(p.grad, 4 * p.elems), (p.state, 64), (wB, 4 * p.elems), (mB, 4 * p.elems), (vB, 4 * p.elems)] ++
    (if p.lrTable = 0 then [] else [(p.lrTable + 4 * min t (p.lrLen - 1), 4)])

/-- OPT_UPDATE on a completion tile (R288): nothing is applied when a page is denied or data is
uncorrectable. -/
def runOptUpdate (s : State) (c arg : Nat) (a : STile) : State :=
  let st := (completionWords a).getD 0 0
  let t := (completionWords a).getD 3 0
  let p := optRec (memGet s (scratchBase c + arg * 256) 64)
  let cls := coreClass s c
  let reads := if st = 1 ∨ st = 2 then [] else optReads p t
  let wr := optWrites s p st t
  if reads.all (fun r => mayAccess s cls false r.1 r.2) = false ∨
      wr.all (fun x => mayAccess s cls true x.1 x.2.length) = false then pageDenied s c
  else
    match reads.flatMap (fun r => badIn s r.1 r.2) with
    | [] => wr.foldl (fun s x => agentWrite s x.1 x.2) s
    | bs => bs.foldl (fun s b => memUncorrBy s c b) s

/-! ### LOOKUP -/

/-- A table record (R308). -/
structure TableRec where
  base : Nat
  rowBytes : Nat
  rows : Nat
  fmt : Nat
  rsv : Nat
  deriving DecidableEq, Repr

/-- Reads a table record of 32 bytes. -/
def tableRec (bs : List Byte) : TableRec :=
  let num (o n : Nat) : Nat := ofLe ((bs.drop o).take n)
  ⟨num 0 8, num 8 4, num 12 4, num 16 1, num 17 15⟩

/-- The conditions of R308. -/
def TableRec.ok (r : TableRec) : Bool :=
  decide (r.base < 2 ^ 40) && decide (r.rowBytes % 64 = 0) && decide (64 ≤ r.rowBytes) &&
  decide (r.rowBytes ≤ 16384) && fmtKnown r.fmt && decide (r.rsv = 0)

/-- One read that a stream engine issues: a piece of an image within one page, or the part of it that lies outside the
40-bit address space (R230, R231). -/
structure Piece where
  off : Nat
  addr : Int
  len : Nat
  ok : Bool
  deriving DecidableEq, Repr

/-- The pieces of `n` bytes at `a`, split at every page boundary, each with whether the map of a class permits it (R230,
R231). -/
def piecesOf (s : State) (cls : Nat) (a : Int) (n : Nat) : List Piece :=
  if n = 0 then []
  else
    let p0 := a / 0x200000
    (List.range ((a + n - 1) / 0x200000 - p0 + 1).toNat).map (fun i =>
      let lo := max a ((p0 + i) * 0x200000)
      let hi := min (a + n) ((p0 + i + 1) * 0x200000)
      ⟨(lo - a).toNat, lo, (hi - lo).toNat,
        decide (0 ≤ lo) && decide (hi ≤ 2 ^ 40) && mayAccess s cls false lo.toNat (hi - lo).toNat⟩)

/-- What a station reads: the bytes, with a free value for each that a squashed read did not bring, and which those are
(R231, R310). -/
def readPieces (s : State) (ps : List Piece) : List Byte × List Bool :=
  (ps.flatMap (fun p =>
      if p.ok then memGet s p.addr.toNat p.len
      else (List.range p.len).map (fun i => Config.squashedByte s.freeCtr (p.off + i))),
   ps.flatMap (fun p => List.replicate p.len (!p.ok)))

/-- The uncorrectable words that the permitted pieces of a read meet (R327). -/
def badPieces (s : State) (ps : List Piece) : List Nat :=
  (ps.filter (·.ok)).flatMap (fun p => badIn s p.addr.toNat p.len)

/-- The elements of an image that a squashed read leaves without data, by the bytes that are missing: an element's own, its
block's offset, its vector's exponent, or the codebook (R231). -/
def poisonElems (read : List Byte → Tile) (gone : List Bool) : List Nat :=
  let t := read (gone.map (fun g => if g then 0xFF#8 else 0#8))
  let cb := t.cb.any (fun x => decide (x ≠ 0))
  t.vecs.zipIdx.flatMap (fun v =>
    ((List.range v.1.codes.length).filter (fun e => cb || decide (v.1.E ≠ 0) || decide (v.1.codes.getD e 0 ≠ 0) ||
      (decide (t.blk ≠ 0) && decide (v.1.us.getD (e / t.blk) 0 ≠ 0)))).map (poisonKey v.2))

/-- A gathered row: where it was read, its bytes, which of them a squashed read did not bring, whether it was out of range, the
uncorrectable words it met, and whether it came from a substituted rack copy (R220, R309, R310, R327). -/
structure GRow where
  addr : Nat
  len : Nat
  bytes : List Byte
  gone : List Bool
  outside : Bool
  bad : List Nat
  stale : Bool
  deriving DecidableEq, Repr

/-- Gathers row `i` of a table; a row that the caches of the core hold is read there (R290). -/
def gatherRow (s : State) (c : Nat) (r : TableRec) (i : Nat) : GRow :=
  if r.rows ≤ i then ⟨0, 0, List.replicate r.rowBytes 0#8, List.replicate r.rowBytes false, true, [], false⟩
  else
    let a := r.base + i * r.rowBytes
    let ps := piecesOf s (coreClass s c) a r.rowBytes
    let (bs, gone) := readPieces s ps
    ⟨a, if ps.all (·.ok) then r.rowBytes else 0, bs, gone, false, if cacheHolds s c a r.rowBytes then [] else badPieces s ps,
      readsRack s c a⟩

/-- The items, one for each byte, that `n` bits from bit `lo` meet. -/
def slice8 {α : Type} (l : List α) (lo n : Nat) : List α := (l.drop (lo / 8)).take ((lo + n + 7) / 8 - lo / 8)

/-- LOOKUP of the indices of a tile: tiles of at most 128 rows, in index order (R309; the shape is log entry
22). -/
def runLookup (s : State) (c : Nat) (r : TableRec) (a : STile) (out : Nat) : State :=
  let idx := (unpackFields 32 ((a.hdr.rows + 1) * (a.hdr.cols + 1)) a.img)
  let cols := min 128 (r.rowBytes * 8 / elemBits r.fmt)
  let chunks := chunksOf 128 idx.length idx
  chunks.zipIdx.foldl (fun s0 ch =>
    let s := (ch.1.filter (· < r.rows)).foldl (fun s i => cacheMeets s c (r.base + i * r.rowBytes) r.rowBytes) s0
    let rows := ch.1.map (gatherRow s c r)
    let range := (rows.filter (·.outside)).length
    let s1 := if range = 0 then s else bump s O.hbmGatherRange range
    match rows.flatMap (·.bad) with
    | [] =>
      let h := outHdr a.hdr r.fmt 0 ch.1.length cols (decide (ch.2 + 1 = chunks.length))
      let poisoned := (rows.zipIdx.flatMap (fun x => ((List.range cols).filter (fun e =>
        (slice8 x.1.gone (e * elemBits r.fmt) (elemBits r.fmt)).any (fun g => g))).map (poisonKey x.2)))
      let s2 := rows.foldl (fun s r => fillCaches s c r.addr r.len) s1.useFree
      giveTile s2 c 8 out
        ⟨{ h with stale := h.stale || rows.any (·.stale) }, rows.flatMap (·.bytes), poisoned, []⟩
    | bs => bs.foldl (fun s b => memUncorrBy s c b) s1) s

/-! ### Starting a work word -/

/-- Whether the SR key of a work word is live, where it selects SR (R262, R187). -/
def routineKeyOk (s : State) (c : Nat) (q : QEntry) (w : RoutineWord) (h : TileHdr) : Bool :=
  decide (w.rnd = 0) || (decide (h.pass ≠ 3) &&
    keyLive s (clusterOf c) (srKey (jobSeed s) w.srStream q.rank
      (if w.routine = 1 ∧ bitOf w.arg 7 then 2 else h.pass)))

/-- The conditions checked when the station starts the work (R260, R262, R308). -/
def routineStartOk (s : State) (c : Nat) (q : QEntry) (w : RoutineWord) (h : TileHdr) : Bool :=
  routineKeyOk s c q w h &&
  (decide (w.routine ≠ 0x30) || (tableRec (memGet s (scratchBase c + w.arg * 256) 32)).ok)

/-- The record in the core's scratch that a work word names (R287, R288, R308). -/
def routineRecord (c : Nat) (w : RoutineWord) : Option (Nat × Nat) :=
  if w.routine = 0x40 then some (scratchBase c + w.arg * 256, 64)
  else if w.routine = 0x30 then some (scratchBase c + w.arg * 256, 32)
  else none

/-- The permitted ranges of memory that a work word reads or writes, beside its record (R288, R309); those that the caches
of the core hold do not count for a gather (R290). -/
def routineRanges (s : State) (c : Nat) (w : RoutineWord) (a : STile) : List (Nat × Nat) :=
  let rs :=
    if w.routine = 0x40 then
      let st := (completionWords a).getD 0 0
      let t := (completionWords a).getD 3 0
      let p := optRec (memGet s (scratchBase c + w.arg * 256) 64)
      (if st = 1 ∨ st = 2 then [] else optReads p t) ++ (optWrites s p st t).map (fun x => (x.1, x.2.length))
    else if w.routine = 0x30 then
      let r := tableRec (memGet s (scratchBase c + w.arg * 256) 32)
      (((unpackFields 32 ((a.hdr.rows + 1) * (a.hdr.cols + 1)) a.img).filter (fun i => decide (i < r.rows))).map
        (fun i => (r.base + i * r.rowBytes, r.rowBytes))).filter (fun r => !cacheHolds s c r.1 r.2)
    else []
  rs.filter (fun r => mayAccess s (coreClass s c) false r.1 r.2)

/-- The request of a station that works on a work word to a stack. -/
def routineReq (s : State) (c stn : Nat) : HbmReq := ⟨.station c stn, classPrio (coreClass s c)⟩

/-- The ranges of a work word that do not go on yet (R301, R317, R320). -/
def routineHolds (s : State) (c stn : Nat) (w : RoutineWord) (a : STile) : List (Nat × Nat) :=
  (routineRanges s c w a).filter (fun r => !mayGo s (routineReq s c stn) r.1 r.2)

/-- A work word reaches memory: its ranges are served, and reads meet the errors there. -/
def routineGoes (s : State) (c stn : Nat) (w : RoutineWord) (a : STile) : State :=
  (routineRanges s c w a).foldl (fun s r => readMeets (goOn s (routineReq s c stn) r.1 r.2) r.1 r.2) s

/-- The uncorrectable words of the record that a work word names (R327). -/
def recordBad (s : State) (c : Nat) (w : RoutineWord) : List Nat :=
  match routineRecord c w with
  | some r => badIn s r.1 r.2
  | none => []

/-- The results of a work word on its operands. -/
def runRoutine (s : State) (c stn : Nat) (q : QEntry) (w : RoutineWord) (a : STile) (b : Option STile) : State :=
  if w.routine = 0x01 then runQuant s c q w a b w.out
  else if w.routine = 0x02 then runConvert s c stn w.arg a w.out
  else if w.routine = 0x30 then runLookup s c (tableRec (memGet s (scratchBase c + w.arg * 256) 32)) a w.out
  else if w.routine = 0x40 then runOptUpdate s c w.arg a
  else if w.routine = 0x50 then (if w.arg = 0 then s else giveTile s c stn w.out (topkTile a w.arg))
  else giveTile s c stn w.out
    (matTile (driveHdr a b) fmtFP32 (arithRoutine w.routine w.arg (tileMat a) ((b.map tileMat).getD [])))

/-- A tile that a station other than the array and QUANT ran for an entry: the device contributes to the entry's record
(R152). -/
def tileRan (s : State) (c : Nat) (w : RoutineWord) (h : TileHdr) : State :=
  if observed s c h && decide (w.routine ≠ 1) then observe s c h.entry (fun o => { o with tiles := o.tiles + 1 }) else s

/-- Whether step `t` is one whose updates are checked and has not been (R382). -/
def checkDue (s : State) (t : Nat) : Bool :=
  csrBit s O.mendCtrl 0 && decide (t % 2 ^ csrBits s O.mendCheck 4 0 = 0) && s.mend.checkedStep.all (fun k => decide (k < t))

/-- Whether the update of step `t` must wait until the check of the step before has read the state (R382). -/
def updateChecked (s : State) (t : Nat) : Bool :=
  decide (0 < t) && checkDue s (t - 1) && s.mend.table.any (fun g => decide (1 < g.ranks))

/-- The chunk of a completion tile (R362), by tag and index. -/
def completionChunk (a : STile) : Nat × Nat := (a.hdr.tag, (completionWords a).getD 2 0)

/-- The step of a completion tile (R362). -/
def completionStep (a : STile) : Nat := (completionWords a).getD 3 0

/-- Whether the update that a completion tile asks for must wait: for a check that reads the state of the step before
(R382), or for a fill stream that has yet to send its chunk (R406). -/
def updateHeld (s : State) (a : STile) : Bool :=
  updateChecked s (completionStep a) || s.mend.srcs.any (fun x => !x.ended && x.left.contains (completionChunk a))

/-- The fill streams that have yet to send a chunk note that its update waits, so that it is sent next (R406). -/
def noteWaiting (s : State) (c : Nat × Nat) : State :=
  { s with mend := { s.mend with srcs := s.mend.srcs.map (fun x =>
    if !x.ended && x.left.contains c && !x.waiting.contains c then { x with waiting := x.waiting ++ [c] } else x) } }

/-- STATION_WORK_START of PLAIN, SHAPE and GATHER: the operand tiles are taken, the work word is checked and
computed, and its outputs wait for their streams. An update waits for the check of the step before it and for its chunk's
fill (R382, R406). A record with uncorrectable data is never delivered: the work word ends with its operand (R327). -/
def startRoutine (s : State) (c stn : Nat) (q : QEntry) (rest : List QEntry) : State :=
  let w := routineWord q.word
  let ub := usesB w.routine w.arg
  let s := match routineRecord c w with
    | some r => readMeets s r.1 r.2
    | none => s
  match fanin s c w.inA, (if ub then fanin s c w.inB else none) with
  | some (ea, _), fb =>
    match headTile s ea, fb.bind (fun p => headTile s p.1) with
    | some a, tb =>
      if ub ∧ tb.isNone then s
      else if recordBad s c w ≠ [] then
        let s1 := consume (takeTile s ea) c a
        (recordBad s c w).foldl (fun s b => memUncorrBy s c b) (setStn s1 c stn { getStn s1 c stn with queue := rest })
      else if routineStartOk s c q w a.hdr = false then refuseWork s c stn 5 q
      else if w.routine = 0x40 ∧ updateHeld s a = true then noteWaiting s (completionChunk a)
      else if (routineHolds s c stn w a).isEmpty = false then
        (routineHolds s c stn w a).foldl (fun s r => waitFor s (routineReq s c stn) r.1 r.2) s
      else
        let s1 := consume (takeTile (routineGoes s c stn w a) ea) c a
        let s2 := match fb, tb with
          | some p, some b => if p.1 = ea then s1 else consume (takeTile s1 p.1) c b
          | _, _ => s1
        let s3 := setStn s2 c stn { getStn s2 c stn with queue := rest, work := .routine q [a] tb.toList }
        tileRan (runRoutine (lint s3 c (lintRing stn) 7 0xFF a.hdr.lintEntry (q.word.toNat % 2 ^ 32)) c stn q w a tb) c w
          (driveHdr a tb)
    | none, _ => s
  | none, _ => refuseWork s c stn 5 q

end Sys2Proof.Machine
end

