-- ==== Sys2Proof/Machine/Walks.lean ====
section
/-! DEFINITION. FETCH and STORE: descriptor walks (R223), the page-map check and squash of reads (R230,
R231), run-ahead (R233), multicast (R225), rotation (R226), detector windows (R229) and writes (R234). -/

namespace Sys2Proof.Machine

/-- The number of images of a descriptor's walk. -/
def Desc.total (d : Desc) : Nat := d.counts.foldl (· * ·) 1

/-- The address of image `n` of a walk (R223), dimension 0 innermost. -/
def Desc.addrOf (d : Desc) (n : Nat) : Int :=
  ((d.strides.zip d.counts).foldl (fun (x : Int × Nat) p =>
    (x.1 + ((x.2 % p.2 : Nat) : Int) * p.1, x.2 / p.2)) ((d.addr : Int), n)).1

/-- The format of the tiles that a descriptor delivers (R224). -/
def Desc.outFmt (d : Desc) : Nat := if d.widen then fmtBI8 else d.fmt

/-- The block size of a descriptor's images. -/
def Desc.blk (d : Desc) : Nat := if (bfmtOf d.fmt).isNone then 0 else if d.blk32 then 32 else 16

/-- The bytes of one image of a descriptor (R51, R223). -/
def Desc.imageLen (d : Desc) : Nat := Sys2Proof.Machine.imageLen d.fmt d.blk (d.rows + 1) (d.cols + 1)

/-- The tile that FETCH reads out of stored bytes: the tile Wᵀ under TRANSPOSE (R199). -/
def Desc.read (d : Desc) (bs : List Byte) : Tile :=
  if d.layout = 2 then readImageT d.fmt d.blk (d.rows + 1) (d.cols + 1) bs
  else readImage d.fmt d.blk (d.rows + 1) (d.cols + 1) bs

/-- The image that FETCH delivers from stored bytes, widened under `WIDEN` (R57). -/
def Desc.deliver (d : Desc) (bs : List Byte) : List Byte :=
  let t := d.read bs
  if d.widen then t.widen.image else if d.layout = 2 then t.image else bs

/-- The bytes of an image as FETCH delivers it. -/
def Desc.deliveredLen (d : Desc) : Nat := Sys2Proof.Machine.imageLen d.outFmt d.blk (d.rows + 1) (d.cols + 1)

/-- Whether the address range of a write lies within 40 bits. -/
def addrValid (a : Int) (n : Nat) : Bool := decide (0 ≤ a) && decide (a + n ≤ 2 ^ 40)

/-! ### FETCH -/

/-- The ring of a descriptor and the core's place in it. -/
def ringPlace (s : State) (c : Nat) (d : Desc) : Option (Ring × Nat) :=
  if d.rot then (ringOf s d.ring).map (fun r => (r, r.members.idxOf c)) else none

/-- The images that a FETCH descriptor delivers: under `ROT`, as many walks as the ring has members
(R226). -/
def fetchTotal (s : State) (c : Nat) (d : Desc) : Nat :=
  match ringPlace s c d with
  | some (r, _) => d.total * r.members.length
  | none => d.total

/-- The header that FETCH builds (R197, R198): `TAG` is the descriptor's where the stream leads to SHIP (R143; log entry
100). -/
def fetchHdr (s : State) (c stn : Nat) (d : Desc) (n : Nat) (last stale : Bool) : TileHdr :=
  { fmt := d.outFmt, blk32 := d.blk32 && (bfmtOf d.outFmt).isSome, stale := stale, wide := false
    last := last, entry := d.entry, pass := if coreClass s c = 0 then 3 else d.pass
    rows := d.rows, cols := d.cols, tile := n % 2 ^ 18, cls := coreClass s c
    step := if coreClass s c = 1 then s.step else 0
    tag := if leadsToShip s 2 (fetchTargets s c stn d) then d.tag else 0 }

/-- Whether a FETCH may issue its next read, whose tile goes to each of the endpoint lists `ess`: what stands beyond the
streams' credits lies in the engine's own buffer, of `RA_DEPTH` tiles under run-ahead and of 32 KiB (R201, R225, R226,
R233). -/
def fetchRoom (s : State) (x : Station) (d : Desc) (ess : List (List Nat)) : Bool :=
  let beyond := ess.flatMap (fun es =>
    ((x.out.filter (fun o => o.1 = es)).map (fun o => o.2.img.length) ++ [d.deliveredLen]).drop (creditsOf s es))
  decide (beyond.length ≤ if d.ra then d.raDepth else 0) && decide (beyond.sum ≤ 32768)

/-- Queues a fetched tile for its endpoints. -/
def pushTile (s : State) (c stn : Nat) (es : List Nat) (t : STile) : State :=
  setStn s c stn { getStn s c stn with out := (getStn s c stn).out ++ [(es, t)] }

/-- The entry of the ring stream that a member produces, and the one it consumes (R226, R247). -/
def ringNext (s : State) (r : Ring) (p : Nat) : Option Nat :=
  ((fanout s (r.members.getD p 0) (r.sids.getD p 0)).find? (fun x => x.2.ring)).map (·.1)

/-- Opens a detector window for a read of a core while one of the 64 is free (R229): the window goes on the list. -/
def openWindow (c : Nat) (r : State × List (Nat × Nat)) (p : Piece) : State × List (Nat × Nat) :=
  let k := getCore r.1 c
  match (List.range 64).find? (fun n => (tget? k.windows n).isNone) with
  | none => r
  | some n => (setCore r.1 c { k with windows := tset k.windows n (p.addr.toNat, p.len) }, r.2 ++ [(c, n)])

/-- Advances a walk by one image. -/
def stepWalk (s : State) (c stn : Nat) (q : QEntry) (d : Desc) (n : Nat) : State :=
  setStn s c stn { getStn s c stn with work := .walk q d (n + 1) }

/-- Queues a tile for several endpoint lists; the detector windows go with the first. -/
def pushTiles (s : State) (c stn : Nat) (ess : List (List Nat)) (t : STile) : State :=
  match ess with
  | [] => s
  | es :: more => more.foldl (fun s e => pushTile s c stn e { t with src := [] }) (pushTile s c stn es t)

/-- The request of a stream engine to a stack: a read of a descriptor with a tag feeds a collective (Table 9 of *Memory
tiers and weight streaming*). -/
def stationReq (s : State) (c stn tag : Nat) : HbmReq :=
  ⟨.station c stn, if coreClass s c = 1 ∧ stn < 2 ∧ tag ≠ 0 then 2 else classPrio (coreClass s c)⟩

/-- Reads image `k` of a walk from memory and queues it as tile `n` (R228 to R231, R301, R327): a read that the page map
denies is squashed and poisons its elements; a permitted one waits for its domain and for its turn (R320); uncorrectable
data drops the tile. -/
def fetchImage (s : State) (c stn : Nat) (q : QEntry) (d : Desc) (n k : Nat) (last : Bool)
    (ess : List (List Nat)) : State :=
  let ps := piecesOf s (coreClass s c) (d.addrOf k) d.imageLen
  let r := stationReq s c stn d.tag
  let waits := ps.filter (fun p => p.ok && !mayGo s r p.addr.toNat p.len)
  if waits.isEmpty = false then waits.foldl (fun s p => waitFor s r p.addr.toNat p.len) s
  else
    let s := (ps.filter (·.ok)).foldl (fun s p => readMeets (goOn s r p.addr.toNat p.len) p.addr.toNat p.len) s
    match badPieces s ps with
    | b :: rest => (b :: rest).foldl (fun s b => memUncorrBy s c b) (stepWalk s c stn q d n)
    | [] =>
      let (bs, gone) := readPieces s ps
      let denied := (ps.filter (fun p => !p.ok)).length
      let s1 := if denied = 0 then s else bump s.useFree (O.coreRunaheadSquash c) denied
      let (s2, wins) := (ps.filter (·.ok)).foldl (openWindow c) (s1, [])
      let stale := ps.any (fun p => p.ok && readsRack s c p.addr.toNat)
      pushTiles (stepWalk s2 c stn q d n) c stn ess
        ⟨fetchHdr s c stn d n last stale, d.deliver bs, poisonElems d.read gone, wins⟩

/-- A tile of a later round: taken from the ring stream, delivered, and forwarded unless the round is the
last (R226). -/
def rotateImage (s : State) (c stn : Nat) (q : QEntry) (d : Desc) (n : Nat) (last : Bool) (ess : List (List Nat))
    (src : Nat) : State :=
  match headTile s src with
  | none => s
  | some t =>
    pushTiles (stepWalk (takeTile s src) c stn q d n) c stn ess
      { t with hdr := fetchHdr s c stn d n last t.hdr.stale, src := [] }

/-- FETCH_READ_ISSUE (R223 to R233). -/
def execFetchReadIssue (c stn : Nat) (s : State) : Res :=
  let x := getStn s c stn
  .next (match x.work with
    | .walk q d n =>
      let es := (fetchTargets s c stn d).map Prod.fst
      if stn < 2 ∧ coreRuns s c ∧ x.resetting = false ∧ n < fetchTotal s c d then
        let last := decide (n + 1 = fetchTotal s c d)
        match ringPlace s c d with
        | none => if fetchRoom s x d [es] then fetchImage s c stn q d n n last [es] else s
        | some (r, p) =>
          let len := r.members.length
          let round := n / d.total
          let ess := es :: (if round + 1 < len then (ringNext s r p).toList.map (fun e => [e]) else [])
          if fetchRoom s x d ess = false then s
          else if round = 0 then fetchImage s c stn q d n n last ess
          else match ringNext s r ((p + len - 1) % len) with
            | none => s
            | some src => rotateImage s c stn q d n last ess src
      else s
    | _ => s)

/-! ### STORE -/

/-- Whether every page of a write is permitted to the class of a core. -/
def mayWrite (s : State) (c a n : Nat) : Bool := mayAccess s (coreClass s c) true a n

/-- STORE_WRITE (R223, R229, R234, R299): the tile at the head of the stream is written at the walk's next
address, or the write is discarded with PAGE_DENIED. -/
def execStoreWrite (c stn : Nat) (s : State) : Res :=
  let x := getStn s c stn
  .next (match x.work with
    | .walk q d n =>
      match storeSource s c (stn - 9) d with
      | none => s
      | some (e, _) => match headTile s e with
        | none => s
        | some t =>
          let ai := d.addrOf n
          if (stn = 9 ∨ stn = 10) ∧ coreRuns s c ∧ x.resetting = false ∧ n < d.total then
            let ok := addrValid ai t.img.length && mayWrite s c ai.toNat t.img.length
            let r := stationReq s c stn 0
            if ok && !mayGo s r ai.toNat t.img.length then waitFor s r ai.toNat t.img.length
            else
              let s0 := if ok then goOn s r ai.toNat t.img.length else s
              let s1 := stepWalk (consume (takeTile s0 e) c t) c stn q d n
              if ok then agentWrite s1 ai.toNat t.img else pageDenied s1 c
          else s
    | _ => s)

/-! ### Starting a descriptor -/

/-- STATION_WORK_START of FETCH and STORE: the descriptor is read from the core's scratch and the walk
begins; one that no longer meets R227 is refused, and one with uncorrectable data is never delivered (R327). -/
def startWalk (s : State) (c stn : Nat) (q : QEntry) (rest : List QEntry) : State :=
  let s := readMeets s q.word.toNat 64
  let d := readDesc (memGet s q.word.toNat 64)
  let (inst, dir) := if stn < 2 then (stn, 0) else (stn - 9, 1)
  if badIn s q.word.toNat 64 ≠ [] then
    (badIn s q.word.toNat 64).foldl (fun s b => memUncorrBy s c b) (setStn s c stn { getStn s c stn with queue := rest })
  else if descOk s c inst dir d then
    lint (setStn s c stn { getStn s c stn with queue := rest, work := .walk q d 0 }) c (lintRing stn) 7 d.sid
      (d.entry + d.pass * 4096) (q.word.toNat % 2 ^ 32)
  else refuseWork s c stn 6 q

end Sys2Proof.Machine
end

