-- ==== Sys2Proof/Machine/Stations.lean ====
section
/-! DEFINITION. The meanings of the station and stream commands (R194 to R206, R257 to R262, R269). -/

namespace Sys2Proof.Machine

/-- STATION_WORK_START (R258, R260): the oldest entry of an idle station's queue. An ARRAY accepts its
next entry while earlier streams still pass through it. -/
def execStationWorkStart (c stn : Nat) (s : State) : Res :=
  let x := getStn s c stn
  .next (match x.queue with
    | [] => s
    | q :: rest =>
      if coreRuns s c = false ∨ x.resetting then s
      else if 2 ≤ stn ∧ stn < 6 then startArray s c stn q rest
      else if x.work ≠ .idle then s
      else if stn < 2 ∨ stn = 9 ∨ stn = 10 then startWalk s c stn q rest
      else startRoutine s c stn q rest)

/-- The first output of a station that may be placed: its stream has a credit for every endpoint (R201).
Outputs for the same endpoints keep their order, since they wait for the same credits. -/
def placeable (s : State) (l : List (List Nat × STile)) : Option (Nat × List Nat × STile) :=
  (l.zipIdx.find? (fun o => hasCredits s o.1.1)).map (fun o => (o.2, o.1))

/-- Places the next output of a station; where it was a foot's, its array may take vectors again (R124). -/
def placeNext (s : State) (c stn : Nat) : State :=
  let x := getStn s c stn
  match placeable s x.out with
  | none => s
  | some (i, es, t) =>
    let s1 := es.foldl feedEp (placeTile (setStn s c stn { x with out := x.out.eraseIdx i }) c stn es t)
    if 2 ≤ stn ∧ stn < 6 then feedEngine s1 c (stn - 2) else s1

/-- TILE_PLACE (R201, R233); a fence stops TAKE (R538). -/
def execTilePlace (c stn : Nat) (s : State) : Res :=
  .next (if coreRuns s c ∧ (getStn s c stn).resetting = false ∧ (stn ≠ 12 ∨ fenceStops s = false) then placeNext s c stn else s)

/-- Whether a walk has moved all its images. -/
def Work.complete (s : State) (c stn : Nat) : Work → Bool
  | .idle => false
  | .routine _ _ _ => true
  | .walk _ d n => decide (n = if stn < 2 then fetchTotal s c d else d.total)

/-- The word of the work in progress. -/
def Work.word : Work → Nat
  | .idle => 0
  | .routine e _ _ => e.word.toNat
  | .walk e _ _ => e.word.toNat

/-- STATION_WORK_DONE (R269, R276): the last output is handed to its stream, and the station takes its next
entry. A cluster whose queues are now empty may enter retention. -/
def execStationWorkDone (c stn : Nat) (s : State) : Res :=
  let x := getStn s c stn
  .next (if coreRuns s c ∧ x.resetting = false ∧ x.work.complete s c stn ∧ x.out.length ≤ 1 then
    let s1 := placeNext s c stn
    let y := getStn s1 c stn
    if y.out.isEmpty then
      retainCluster (lint (setStn s1 c stn { y with work := .idle }) c (lintRing stn) 8 0xFF 0 (x.work.word % 2 ^ 32))
        (clusterOf c)
    else s
  else s)

/-- Whether a foot still needs the partial tile it holds, for a replay under way (R181). -/
def footNeeds (s : State) (p : StreamEnt) : Bool :=
  decide (p.cStn = 2) && (getEng s p.cCore p.cInst).streams.any (fun x => x.replay)

/-- The engine whose crease waits for the next credit that an endpoint releases (R203). -/
def owesCrease (s : State) (e : Nat) : Bool :=
  let p := entryOf s e
  decide (p.cStn = 1) && (getEng s p.cCore p.cInst).crease == some ⟨e, true⟩

/-- The credit of a tile that is released: on its way back, or held by the crease that waits for one (R202, R203). -/
def releaseCredit (s : State) (e : Nat) : State :=
  let x := getStream s e
  if owesCrease s e then
    let p := entryOf s e
    setEng (setStream s e { x with crease := true }) p.cCore p.cInst
      { getEng s p.cCore p.cInst with crease := some ⟨e, false⟩ }
  else setStream s e { x with ret := x.ret + 1 }

/-- TILE_RELEASE (R202, R229): the oldest held tile goes, its detector windows close, and a credit is on its
way back; an ARRAY takes its next tile. -/
def execTileRelease (e : Nat) (s : State) : Res :=
  let x := getStream s e
  let p := entryOf s e
  .next (match x.held with
    | [] => s
    | t :: rest =>
      if coreRuns s p.cCore = false ∨ footNeeds s p then s
      else
        let s1 := closeWindow (releaseCredit (setStream s e { x with held := rest }) e) t
        feedEp (lint s1 p.cCore (ringOfStn p.cStn p.cInst) 4 p.cSid t.hdr.lintEntry t.hdr.tile) e)

/-- CREDIT_RETURN (R203, R205, R275, R277): a credit on its way back reaches its producer, whose foot may free a bank,
or waits at the router of a cluster that is not on; a surplus one, at a producer that holds D, is discarded with
TOKEN_OVERRUN. -/
def execCreditReturn (e : Nat) (s : State) : Res :=
  let x := getStream s e
  let p := entryOf s e
  .next (if p.depth ≤ x.credits then
      let s1 := setStream s e { x with ret := x.ret - 1 }
      let cls := coreClass s p.pCore
      let s2 := raise s1 0x9004 3 cls 1 p.pCore
      if cls = 0 then s2 else dropMicroBatch s2
    else if x.ret = 0 then s
    else if coreRuns s p.pCore then
      feedFoot (creditArrives (setStream s e { x with credits := x.credits + 1, ret := x.ret - 1 }) e) e
    else routerEvent (setStream s e { x with routerCr := x.routerCr + 1, ret := x.ret - 1 }) p.pCore)

/-- STATION_RESET_END (R203, R204). -/
def execStationResetEnd (c stn : Nat) (s : State) : Res :=
  .next (if (getStn s c stn).resetting then endStnReset s c stn else s)

/-- The reference column of a spot check (R157): for each vector, the FP32 sum over the tile's rows of the reduction, of the
wide streamed element times the wide stationary one, in ascending order from zero (log entry 85). -/
def Spot.ref (x : Spot) (s : State) : List (BitVec 32) :=
  x.wide.map (fun v => f32Sum (v.zipIdx.map (fun e =>
    f32Mul e.1 (memWord s (Config.wideAddr x.entry (variantOf s x.entry) x.tile x.col e.2)))))

/-- The L2 norm of a column in FP32 (log entry 85). -/
def f32Norm (v : List (BitVec 32)) : BitVec 32 := f32Sqrt (f32Sum (v.map (fun y => f32Mul y y)))

/-- The error of a spot check whose column the array has put out (R157). -/
def Spot.error (x : Spot) (s : State) (arr : List (BitVec 32)) : BitVec 32 :=
  let ref := x.ref s
  spotError (f32Norm ((arr.zip ref).map (fun p => f32Sub p.1 p.2))) (f32Norm ref) (f32Norm arr)

/-- SPOT_CHECK_DONE (R157, R158): the oldest check in flight whose column the array has put out completes. The error comes from
the columns, whatever numbers the command carries. -/
def execSpotCheckDone (c : Nat) (_ _ _ : BitVec 32) (s : State) : Res :=
  let k := getCore s c
  .next (match k.spots.zipIdx.find? (fun p => p.1.arr.isSome) with
    | none => s
    | some (x, i) =>
      let err := x.error s (x.arr.getD [])
      observe (setCore s c { k with spots := k.spots.eraseIdx i }) c x.entry (fun o =>
        { o with spotCount := min (o.spotCount + 1) 0xFFFFFFFF
                 spotMax := f32MaxRec o.spotMax err
                 spotSum := f32Add o.spotSum err }))

end Sys2Proof.Machine
end

