-- ==== Sys2Proof/Machine/Tags.lean ====
section
/-! DEFINITION. Tag descriptors and their installation (R342 to R346, R644), mangle groups (R338), the
membership that an instance follows (R365, R400, R411), and the hops of a chunk on this device (R339,
R340, R371). -/

namespace Sys2Proof.Machine

/-! ### Descriptors -/

/-- K, the number of chunks (R333). -/
def TagDesc.chunks (d : TagDesc) : Nat := (d.tiles + d.chunkTiles - 1) / d.chunkTiles

/-- The tiles of chunk `k`. -/
def TagDesc.tilesOf (d : TagDesc) (k : Nat) : List Nat :=
  (List.range (min d.chunkTiles (d.tiles - k * d.chunkTiles))).map (· + k * d.chunkTiles)

/-- `GRP_CFG` fields: wire W8. -/
def grpW8 (cfg : Nat) : Bool := bitOf cfg 22
/-- Policy FOLD. -/
def grpFold (cfg : Nat) : Bool := bitOf cfg 23

/-- The group table of a group: in the live table where one is held, otherwise in a template (R346). -/
def gtabIn (t : Option GroupT) (cfg : Nat) : Option GTab := t.bind (fun g => g.tables[bitsOf cfg 11 8]?)

/-- Whether a weave grants class 1 an area read-write, on pages of a role where one is asked. -/
def grantsP1 (w : Option Weave) (role : Option Nat) (a n : Nat) : Bool :=
  (pagesTouched a n).all (fun p =>
    match ((w.map (·.pages1)).getD []).find? (fun r => decide (r.first ≤ p) && decide (p < r.first + r.count)) with
    | some r => r.write && (role.isNone || role = some r.role)
    | none => false)

/-- The bytes of a bucket on the wire (R346). -/
def TagDesc.wireBytes (d : TagDesc) (cfg : Nat) : Nat :=
  if grpW8 cfg then d.tiles * d.elems * 33 / 32 else d.tiles * d.elems * 4

/-- The bytes of the fold area: own slot, predecessor slot, ledger words, each aligned to 64 (R345). -/
def TagDesc.foldBytes (d : TagDesc) (cfg : Nat) : Nat :=
  secLen (d.tiles * d.elems * 4) + secLen (d.wireBytes cfg) + 8 * d.chunks

/-- The bytes of the destination. -/
def TagDesc.dstBytes (d : TagDesc) : Nat :=
  if d.op = 1 then d.tiles * d.imgBytes else d.tiles * d.elems * 4

/-- Whether the reserved fields of a descriptor are zero. -/
def TagDesc.reservedClear (d : TagDesc) : Bool :=
  decide (d.f 0 30 24 + d.f 1 31 24 + d.f 1 15 13 + d.f 2 15 14 + d.f 3 31 20 + d.f 4 31 15 + d.f 11 31 30 +
    d.f 11 15 14 + d.f 12 31 14 + d.f 13 31 16 + d.f 14 31 0 + d.f 15 31 0 = 0)

/-- Whether the areas that an operation needs are granted (R346). -/
def TagDesc.areasOk (d : TagDesc) (cfg : Nat) (w : Option Weave) : Bool :=
  let area (a n : Nat) (role : Option Nat) : Bool := decide (a ≠ 0) && grantsP1 w role a n
  (d.op = 5 || area d.dst d.dstBytes none) &&
  (d.op ≠ 1 || (area d.rackA d.dstBytes (some 3) && area d.rackB d.dstBytes (some 3))) &&
  (!(isRed d.op && grpW8 cfg) || area d.resid (d.tiles * d.elems * 4) none) &&
  (!(isRed d.op && grpFold cfg) || area d.fold (d.foldBytes cfg) none)

/-- Whether the rack buffers agree with the gate records of the same tag (R346). -/
def TagDesc.gatesOk (d : TagDesc) (w : Option Weave) : Bool :=
  d.op ≠ 1 || (((w.map (·.blocks)).getD []).flatMap (·.gates)).all (fun g =>
    g.tag ≠ d.tag || (g.rackA * 256 = d.rackA && g.rackB * 256 = d.rackB))

/-- The conditions of R346 on a descriptor: `cfg` is its group's `GRP_CFG`, `t` the group table in which
the group size is read, `w` the weave whose grants hold, `taken` the tags installed at other indices. -/
def tagOk (cfg : Nat) (t : Option GroupT) (w : Option Weave) (taken : List Nat) (d : TagDesc) : Bool :=
  d.reservedClear && decide (d.op ≠ 0) && decide (d.op ≠ 7) && bitOf cfg 31 &&
  decide (1 ≤ d.tag) && decide (d.tag ≤ 0xFFEF) && !taken.contains d.tag &&
  decide (d.chunkTiles ≠ 0) && decide (d.tiles ≠ 0) &&
  (if d.op = 1 then decide (d.elems = 0) && decide (d.imgBytes ≠ 0) && decide (d.imgBytes % 64 = 0)
   else decide (1 ≤ d.elems) && decide (d.elems ≤ 16384) && (!grpW8 cfg || decide (d.elems % 32 = 0)) &&
     decide (d.imgBytes = 0) && decide (d.rackA = 0) && decide (d.rackB = 0)) &&
  ((isRed d.op && grpW8 cfg) || decide (d.resid = 0)) && ((isRed d.op && grpFold cfg) || decide (d.fold = 0)) &&
  (match gtabIn t cfg with
   | some g => decide (d.chunks ≤ g.positions.length)
   | none => false) &&
  d.areasOk cfg w && d.gatesOk w && (!isRed d.op || decide (d.wireBytes cfg ≤ 2 ^ 26))

/-- `MANGLE.GRP_CFGg`. -/
def grpCfg (s : State) (g : Nat) : Nat := csrGet s (O.mangleGrpCfg g)

/-- The installed descriptors with their indices. -/
def installed (s : State) : List (Nat × TagDesc) := s.mangle.desc.filter (fun e => e.2.valid)

/-- The table in which the device reads group sizes: the live one, else the template of the weave being
installed or staged. -/
def sizeTable (s : State) : Option GroupT :=
  match s.mend.table with
  | some t => some t
  | none => (s.installing.or s.staged).bind (·.group)

/-- A write to word `i` of the descriptor window: the staging copy at `TAG_SEL` changes (R644). -/
def stageTag (s : State) (i : Nat) (v : BitVec 32) : State :=
  let n := csrBits s O.mangleTagSel 11 0
  let base := (tget? s.mangle.staging n).getD (tget s.mangle.desc n TagDesc.zero)
  s.withMangle (fun m => { m with staging := tset m.staging n ⟨base.w.set i v⟩ })

/-- The weave whose grants R346 reads: the active one, else the staged one. -/
def grantWeave (s : State) : Option Weave :=
  match s.weave with
  | some w => some w
  | none => s.staged

/-- The descriptor that an installation at an index installs: the staging copy, its agreed exponent at
`E_INIT`. -/
def stagedTag (s : State) (n : Nat) : TagDesc :=
  let d := (tget? s.mangle.staging n).getD (tget s.mangle.desc n TagDesc.zero)
  (d.put 13 15 8 0).put 13 7 0 (d.f 1 23 16)

/-- Whether R346 accepts the staging copy at an index. -/
def tagFits (s : State) (n : Nat) : Bool :=
  let d := stagedTag s n
  tagOk (grpCfg s d.group) (sizeTable s) (grantWeave s)
    (((installed s).filter (fun e => decide (e.1 ≠ n))).map (fun e => e.2.tag)) d

/-- TAG_REFUSED (R346). -/
def refuseTag (s : State) (tag : Nat) : State := raise (bump16 s O.mangleRefused) 0x3005 0 3 9 tag

/-- Requests installation of the staging copy at an index (R346, R644). -/
def installTag (s : State) (n : Nat) : State :=
  let d := stagedTag s n
  let s1 := s.withMangle (fun m => { m with staging := tdel m.staging n })
  if tagFits s n then s1.withMangle (fun m => { m with
    desc := tset m.desc n (d.put 0 31 31 1)
    eGPrev := tdel m.eGPrev d.tag })
  else refuseTag s1 d.tag

/-- A write to the descriptor window: word 0 with `VALID` at 1 requests installation. -/
def writeTagWord (s : State) (i : Nat) (v : BitVec 32) : State :=
  let s1 := stageTag s i v
  if i = 0 ∧ v.getLsbD 31 then installTag s1 (csrBits s O.mangleTagSel 11 0) else s1

/-! ### Groups and membership -/

/-- A member of the live table. -/
def memOf (t : GroupT) (r : Nat) : Member := t.members.getD r ⟨0, .gone, false, 0⟩

/-- The descriptor of tag 0xFFFF (R342) for a group of `n` ranks. -/
def statDesc (n : Nat) : TagDesc :=
  ⟨[0x8030FFFF#32, 0#32, BitVec.ofNat 32 ((4096 + n - 1) / n * 65536), 4096#32] ++ List.replicate 12 0#32⟩

/-- The group table of a group of the live table. -/
def groupTab (s : State) (g : Nat) : Option GTab := gtabIn s.mend.table (grpCfg s g)

/-- The descriptor of a tag. Tag 0xFFFF is one of group 0, and none while that group is not valid (R342, R343). -/
def descOf (s : State) (tag : Nat) : Option TagDesc :=
  if tag = 0xFFFF then
    (if bitOf (grpCfg s 0) 31 then (groupTab s 0).map (fun g => statDesc g.positions.length) else none)
  else ((installed s).find? (fun e => decide (e.2.tag = tag))).map (·.2)

/-- The number of ranks of the job (R332). -/
def jobRanks (s : State) : Nat := (s.mend.table.map (·.ranks)).getD 1

/-- The owner of a chunk (R333). -/
def chunkOwner (s : State) (d : TagDesc) (k : Nat) : Nat := (d.firstRank + k) % jobRanks s

/-- Whether a rank takes part in an instance of a step: LIVE, and joined by then (R411). -/
def rankIn (s : State) (step r : Nat) : Bool :=
  match s.mend.table with
  | none => false
  | some t => decide (r < t.ranks) && decide ((memOf t r).st = .live) &&
      s.mend.joins.all (fun j => decide (j.1 ≠ r) || decide (j.2 ≤ step))

/-- The partner of a rank; none when N is 1 (R377). -/
def partnerOf (t : GroupT) (r : Nat) : Option Nat := if t.ranks ≤ 1 then none else some (memOf t r).partner

/-- The rank whose device serves a rank's chunks in a step: its own, or its partner's (R400, R411). -/
def serverOf (s : State) (step r : Nat) : Option Nat :=
  if rankIn s step r then some r
  else match s.mend.table with
    | none => none
    | some t => if (memOf t r).st = .lost then none else partnerOf t r

/-- Whether this device serves a rank in a step. -/
def serves (s : State) (step r : Nat) : Bool := decide (serverOf s step r = some (selfRank s))

/-! ### Paths -/

/-- The ranks of a ring from the one after the owner to the owner (R339). -/
def ringPath (order : List Nat) (owner : Nat) : List Nat :=
  (order.dropWhile (· ≠ owner)).drop 1 ++ order.takeWhile (· ≠ owner) ++ [owner]

/-- The order of ring `r` of a group (R339), reversed for the reverse direction (R371). -/
def ringOrder (g : GTab) (r : Nat) (rev : Bool) : List Nat :=
  let o := g.orders.getD (r % g.orders.length) []
  if rev then o.reverse else o

/-- The hop of this device at a level of a RING path. -/
def ringPlan (s : State) (step self owner level : Nat) (path : List Nat) : Option HopPlan :=
  let live := path.filter (rankIn s step)
  let stand := (serverOf s step owner).getD owner
  let i := live.idxOf self
  if level = 0 then
    if i < live.length then
      some ⟨decide (0 < i), live.getD (i - 1) 0, true, none,
        if self = owner then .final else .send (live.getD (i + 1) stand)⟩
    else none
  else if level = 16 ∧ rankIn s step owner = false ∧ stand = self then
    some ⟨!live.isEmpty, live.getLastD 0, false, none, .final⟩
  else none

/-- The bits of a position in the order in which HD2 takes them (R340, R371). -/
def hd2Bits (cfg m : Nat) (rev : Bool) : List Nat :=
  let a := bitsOf cfg 15 12
  let n := m.log2
  let cols := List.range (n - a)
  let rows := (List.range a).map (· + (n - a))
  if rev then rows ++ cols else cols ++ rows

/-- The first level at which two positions differ. -/
def firstDiff (bits : List Nat) (p q : Nat) : Nat := (bits.findIdx (fun b => bitOf p b ≠ bitOf q b))

/-- The position that differs from `p` in one bit. -/
def flipBit (p b : Nat) : Nat := p ^^^ 2 ^ b

/-- The next position of an HD2 path towards the owner's position whose rank takes part; the owner's
position where none does. -/
def hd2Succ (alive : Nat → Bool) (bits : List Nat) (own : Nat) : Nat → Nat → Nat
  | 0, _ => own
  | fuel + 1, p =>
    let l := firstDiff bits p own
    let q := flipBit p (bits.getD l 0)
    if p = own ∨ q = own ∨ alive q then (if p = own then own else q) else hd2Succ alive bits own fuel q

/-- The hop of this device at a level of an HD2 reduction. -/
def hd2Plan (s : State) (step self owner level : Nat) (pos bits : List Nat) : Option HopPlan :=
  let own := pos.idxOf owner
  let rank (p : Nat) : Nat := pos.getD p 0
  let alive (p : Nat) : Bool := rankIn s step (rank p)
  let stand := (serverOf s step owner).getD owner
  let n := bits.length
  let feeds (p l : Nat) : Bool := (List.range pos.length).any (fun q =>
    alive q && (bits.drop l).all (fun b => bitOf q b = bitOf (flipBit p (bits.getD l 0)) b))
  let plan (p l m : Nat) (base : Nat) (first : Bool) : HopPlan :=
    { needIn := decide (l < m) && feeds p l
      pred := rank (flipBit p (bits.getD l 0))
      own := first && decide (l = 0)
      prev := if l = 0 then none else some (base + l - 1)
      next := if l + 1 < m then .carry
        else if p = own then .final
        else
          let q := hd2Succ alive bits own n p
          .send (if q = own then stand else rank q) }
  if level < 16 then
    let p := pos.idxOf self
    let m := firstDiff bits p own
    if p < pos.length ∧ rankIn s step self ∧ level < max m 1 then some (plan p level m 0 true) else none
  else if rankIn s step owner = false ∧ stand = self ∧ level - 16 < max n 1 then
    some (plan own (level - 16) n 16 false)
  else none

/-- The hop of this device for a chunk, segment, direction and level (R339, R340, R371). -/
def hopPlan (s : State) (d : TagDesc) (step chunk seg : Nat) (rev : Bool) (level : Nat) : Option HopPlan :=
  let cfg := grpCfg s d.group
  let owner := chunkOwner s d chunk
  let self := selfRank s
  match groupTab s d.group with
  | none => none
  | some g =>
    if bitsOf cfg 21 20 = 1 then hd2Plan s step self owner level g.positions (hd2Bits cfg g.positions.length rev)
    else ringPlan s step self owner level
      (ringPath (ringOrder g (seg % (bitsOf cfg 19 16 + 1)) rev) owner)

/-- The hop of this device as it stands in an instance: the plan that it has kept through a join, else that of the membership
(R411). -/
def planOf (s : State) (i : Inst) (d : TagDesc) (key chunk seg : Nat) (rev : Bool) (level : Nat) : Option HopPlan :=
  (tget i.hops key HopSt.fresh).plan.or (hopPlan s d i.step chunk seg rev level)

/-- The levels that a hop may have. -/
def hopLevels : List Nat := List.range 32

/-- Passes over ranks that take no data themselves: the positions that a position serves under HD2 at the levels
below `m`, highest first; one whose device is not given the data is replaced by those that it would have served. -/
def hd2Children (takes : Nat → Bool) (bits : List Nat) : Nat → Nat → List Nat
  | 0, _ => []
  | m + 1, p =>
    let q := flipBit p (bits.getD m 0)
    (if takes q then [q] else hd2Children takes bits m q) ++ hd2Children takes bits m p

/-- The ranks to which this device passes a gathered segment on: next in the ring, or the levels below the
one at which it received under HD2 (R340). Ranks that take no part, and the device that serves the root, are passed over,
so that every other rank is reached (R336, R400). -/
def gatherNext (s : State) (d : TagDesc) (step seg root : Nat) : List Nat :=
  let cfg := grpCfg s d.group
  let self := selfRank s
  let stand := serverOf s step root
  let takes (r : Nat) : Bool := rankIn s step r && decide (stand ≠ some r)
  match groupTab s d.group with
  | none => []
  | some g =>
    if bitsOf cfg 21 20 = 1 then
      let bits := hd2Bits cfg g.positions.length false
      let me := if stand = some self then root else self
      let p := g.positions.idxOf me
      let rank (q : Nat) : Nat := g.positions.getD q 0
      (hd2Children (fun q => takes (rank q)) bits (firstDiff bits p (g.positions.idxOf root)) p).map rank
    else
      let path := ringPath (ringOrder g (seg % (bitsOf cfg 19 16 + 1)) false) root
      let after := if stand = some self then path.dropLast else (path.dropWhile (· ≠ self)).drop 1 |>.dropLast
      (after.filter takes).take 1

end Sys2Proof.Machine
end

