-- ==== Sys2Proof/Machine/GateOps.lean ====
section
/-! DEFINITION. The ready gate (R210 to R221): the arrival test, its decision, and the pins of running
blocks. -/

namespace Sys2Proof.Machine

/-- Changes the gate. -/
def State.withGate (s : State) (f : GateSt → GateSt) : State := { s with gate := f s.gate }

/-- The variant blocks of the active weave. -/
def gateBlocks (s : State) : List VBlock := (s.weave.map (·.blocks)).getD []

/-- Whether a running block reads a rack buffer or window slot that meets `n` bytes at `a` (R211, R311). -/
def pinnedNow (s : State) (a n : Nat) : Bool :=
  s.gate.pins.any (fun p => decide (p.2.1 < a + n) && decide (a < p.2.1 + p.2.2))

/-- The valid rack buffers of a gated input, with their addresses. -/
def validRacks (s : State) (r : GateRec) : List (Nat × RackBuf) :=
  [r.rackA * 256, r.rackB * 256].filterMap (fun a => match tget? s.gate.racks a with
    | some b => if b.valid then some (a, b) else none
    | none => none)

/-- The live buffer of a gated input for a step: the valid one with its tag. -/
def liveRack (s : State) (r : GateRec) (t : Nat) : Option (Nat × RackBuf) :=
  (validRacks s r).find? (fun p => decide (p.2.step = t))

/-- The newest valid buffer of a gated input with a tag before a step. -/
def newestBefore (s : State) (r : GateRec) (t : Nat) : Option (Nat × RackBuf) :=
  ((validRacks s r).filter (fun p => decide (p.2.step < t))).foldl (fun m p => match m with
    | none => some p
    | some q => if q.2.step < p.2.step then some p else m) none

/-- The bytes of the image that a tag gathers (R311); one byte where no descriptor tells. -/
def imageBytes (s : State) (tag : Nat) : Nat :=
  match (installed s).find? (fun e => decide (e.2.tag = tag) && decide (e.2.op = 1)) with
  | some e => e.2.dstBytes
  | none => 1

/-- Whether a GATHER descriptor is installed for the tag of a gate record. -/
def isGathered (s : State) (r : GateRec) : Bool := (installed s).any (fun e => decide (e.2.tag = r.tag) && decide (e.2.op = 1))

/-- Whether a gated input has arrived for a step (R212); HBM-sourced weights that no tag gathers are always there (log
entry 58). -/
def hasArrived (s : State) (r : GateRec) (t : Nat) : Bool :=
  if r.kind = 1 then decide (tget? s.gate.landed r.tag = some t) else (liveRack s r t).isSome || !isGathered s r

/-- The throttle level of the stack that holds an address; a stack in Over counts as L3 (R319). -/
def levelAt (s : State) (a : Nat) : Nat :=
  match placeOf a with
  | .hbm n => if (getStack s n).hot then 3 else (getStack s n).level
  | _ => 0

/-- Whether an arrived HBM input misses: its live copy lies below the floor and a rack copy above it
(R217). -/
def belowFloor (s : State) (r : GateRec) (t : Nat) : Bool :=
  decide (r.kind = 2) &&
  (match liveRack s r t, newestBefore s r t with
   | some l, some n => decide (3 ≤ levelAt s l.1) && decide (levelAt s n.1 ≤ 2)
   | _, _ => false)

/-- Ends the decision of a block: the variant it runs in and what it pins from its start to its end (R211,
R311). -/
def gateRun (s : State) (b entry : Nat) (variant : Nat) (pins : List (Nat × Nat)) (stale : List Nat) : State :=
  s.withGate (fun g => { g with
    decided := true
    variant := variant
    done := g.done ++ [b]
    pins := g.pins ++ pins.map (fun p => (b, p.1, p.2))
    stale := g.stale ++ stale.map (fun a => (b, entry, a)) })

/-- The gate returns DROP (R221): STALE_LIMIT, the micro-batch dropped, the block not run. -/
def gateDrop (s : State) (b : Nat) (v : VBlock) : State :=
  dropMicroBatch (raise (s.withGate (fun g => { g with block := none, decided := false, done := g.done ++ [b] }))
    0x2011 3 1 0 0 [v.entry])

/-- The substitutes of a block's gated inputs, where every one is within the limit and of one format
(R217). -/
def substitutes (s : State) (v : VBlock) : Option (List (Nat × RackBuf)) :=
  let subs := v.gates.map (fun r => newestBefore s r s.step)
  let fmt0 := ((subs.headD none).map (·.2.fmt)).getD 0
  if subs.all (fun x => match x with
    | some p => decide (s.step - p.2.step ≤ v.staleMax) && decide (p.2.fmt = fmt0)
    | none => false) then some (subs.filterMap id) else none

/-- The end of the gate's wait for a block (R217 to R219). -/
def gateFinish (s : State) (b : Nat) (v : VBlock) : State :=
  if !s.gate.miss then
    gateRun s b v.entry v.variant (v.gates.filterMap (fun r =>
      if r.kind = 1 then some (r.window * 256, imageBytes s r.tag) else (liveRack s r s.step).map (fun p => (p.1, p.2.len)))) []
  else match substitutes s v with
    | none => gateDrop s b v
    | some l =>
      let layer := (tget s.pru.active v.entry RuleEntry.zero).layer
      let s1 := l.foldl (fun s p => raise s 0x2010 0 1 0 0 [v.entry, layer, s.step - p.2.step]) s
      let s2 := gateRun s1 b v.entry ((l.head?.map (·.2.fmt)).getD v.variant) (l.map (fun p => (p.1, p.2.len))) (l.map (·.1))
      s2.withGate (fun g => { g with
        subs := tset g.subs v.entry (tget g.subs v.entry 0 + l.length)
        subTags := g.subTags ++ v.gates.map (fun r => (r.tag, s.step)) })

/-- The arrival tests of the gated inputs that have not yet passed, in order; `expired` once the wait has
ended. The gate decides when none is left (R217). -/
def gateTest (expired : Bool) (b : Nat) (v : VBlock) : List GateRec → State → State
  | [], s => gateFinish s b v
  | r :: rest, s =>
    if hasArrived s r s.step then
      gateTest expired b v rest (s.withGate (fun g => { g with pos := g.pos + 1, miss := g.miss || belowFloor s r s.step }))
    else if expired then
      gateTest expired b v rest (s.withGate (fun g => { g with pos := g.pos + 1, miss := true }))
    else s

/-- Tests an open gate (R216, R217). -/
def gateAgain (s : State) (expired : Bool) : State :=
  match s.gate.block with
  | some b =>
    if s.gate.decided then s
    else match (gateBlocks s)[b]? with
      | some v => gateTest expired b v (v.gates.drop s.gate.pos) s
      | none => s
  | none => s

end Sys2Proof.Machine
end

