-- ==== Sys2Proof/Machine/MangleOps.lean ====
section
/-! DEFINITION. Operations of the mangle: instances and slots (R347 to R351), segments and lanes (R355,
R370), the hop (R359), late contributions and ledgers (R363 to R367), delivery (R361, R362, R372), the
gathers (R335, R400, R401, R211 to R213). -/

namespace Sys2Proof.Machine

/-! ### Instances -/

/-- Changes a live instance. -/
def putInst (s : State) (i : Inst) : State :=
  s.withMangle (fun m => { m with insts := m.insts.map (fun x =>
    if x.tag = i.tag ∧ x.step = i.step then i else x) })

/-- Whether the wire of a tag is W8; tag 0xFFFF has a wire of its own. -/
def isW8 (s : State) (d : TagDesc) : Bool := grpW8 (grpCfg s d.group) && decide (d.tag ≠ 0xFFFF)

/-- The key of the sampled check (R369). -/
def checkKey (s : State) : BitVec 64 := srKey (jobSeed s) 0xFFFE 0 3

/-- The rank hash h (R369). -/
def rankHash (s : State) (r : Nat) : BitVec 64 :=
  (srWord (checkKey s) (BitVec.ofNat 64 r)) ++ (srWord (checkKey s) (BitVec.ofNat 64 (2 ^ 32 + r)))

/-- Whether an instance is checked (R342, R369). -/
def checkPick (s : State) (d : TagDesc) (step : Nat) : Bool :=
  d.tag = 0xFFFF ||
  (isRed d.op && isW8 s d && csrBit s O.mangleCtrl 1 &&
    decide ((srWord (checkKey s) (BitVec.ofNat 64 (step * 2 ^ 32 + 0x80000000 + d.tag))).toNat %
      2 ^ bitsOf (grpCfg s d.group) 28 24 = 0))

/-- Counts contributions that were dropped. -/
def lateDrop (s : State) (n : Nat) : State := if n = 0 then s else bump s O.mangleCntLateDrop n

/-- The key of a hop in its instance. -/
def hopKey (chunk seg : Nat) (rev : Bool) (level : Nat) : Nat :=
  ((chunk * 2 ^ 20 + seg) * 2 + b2n rev) * 32 + level

/-- The chunk of a hop key. -/
def hopChunk (k : Nat) : Nat := k / 2 ^ 26

/-- The hop state of an instance. -/
def Inst.hop (i : Inst) (k : Nat) : HopSt := tget i.hops k HopSt.fresh

/-- The key of a ledger. -/
def ledgerKey (tag chunk : Nat) : Nat := tag * 2 ^ 16 + chunk

/-- Whether every own tile of a chunk has come. -/
def Inst.hasOwn (i : Inst) (d : TagDesc) (k : Nat) : Bool :=
  if d.tag = 0xFFFF then !i.ownRecs.isEmpty
  else (d.tilesOf k).all (fun t => (tget? i.ownTiles t).isSome)

/-- Whether a partial has left the device from a hop of the instance of which `f` holds. -/
def Inst.sent (i : Inst) (f : Nat → Bool) : Bool := i.hops.any (fun e => f e.1 && e.2.done && e.2.sum.isNone)

/-- The contributions that an instance holds and will never forward or deliver (R349). Reverse partials are not
counted, since what they carry also travels forward (R371). -/
def Inst.heldCount (i : Inst) (d : TagDesc) (absent : Bool) : Nat :=
  let given (k : Nat) : Bool := (tget? i.delivered k).isSome
  ((List.range d.chunks).filter (fun k => !absent && i.hasOwn d k && !given k &&
    !i.sent (fun x => decide (hopChunk x = k)))).length +
  (i.hops.map (fun e => match e.2.inp with
    | some f =>
      if f.rev || given (hopChunk e.1) || i.sent (fun x => decide (x / 32 = e.1 / 32)) then 0 else f.contrib + f.folded
    | none => 0)).sum

/-! ### Memory of the mangle -/

/-- An access of the mangle that its page map does not permit, with the severity of R232 (R299). -/
def mangleDenied (s : State) (tag : Nat) : State := dropMicroBatch (raise s 0x2012 3 1 9 tag)

/-- Words that the mangle reads from memory; those that are uncorrectable or not permitted are not delivered and count
as zero (R290, R327; log entry 92). -/
def mangleWords (s : State) (a n : Nat) : List (BitVec 32) :=
  let ok := mayAccess s 1 false a (4 * n)
  (List.range n).map (fun i => if ok && (badIn s (a + 4 * i) 4).isEmpty then memWord s (a + 4 * i) else 0#32)

/-- Bytes that the mangle reads from memory, as `mangleWords`. -/
def mangleBytes (s : State) (a n : Nat) : List Byte :=
  let ok := mayAccess s 1 false a n
  (List.range n).map (fun i => if ok && (badIn s (a + i) 1).isEmpty then BitVec.ofNat 8 (memNum s.mem (a + i) 1) else 0#8)

/-- What a read of the mangle raises (R232, R290, R301, R327), once for each word of check code. -/
def mangleReads (s : State) (tag a n : Nat) : State :=
  if n = 0 then s
  else if mayAccess s 1 false a n then (badIn s a n).foldl (fun s w => memUncorr s 1 w) (wakeRange s a n)
  else mangleDenied s tag

/-- Whether memory delivers bytes to the mangle: they are permitted, and none is uncorrectable (R290, R327). -/
def mangleGood (s : State) (a n : Nat) : Bool := mayAccess s 1 false a n && (badIn s a n).isEmpty

/-- Writes bytes for the mangle: a write that the map of class 1 does not permit, or to memory that cannot answer, is
discarded with PAGE_DENIED (R290, R299, R316). The commands begin a write only when `writesGo` holds of its range. Its
bytes count in the window of a stack that throttles (R318). -/
def mangleWrite (s : State) (tag a : Nat) (bs : List Byte) : State :=
  if bs.isEmpty then s
  else if mayAccess s 1 true a bs.length then agentWrite (goOn s ⟨.hops tag, 3⟩ a bs.length) a bs
  else mangleDenied s tag

/-- Whether the writes of the mangle for a tag go on now: those that memory would take have their turn, and nothing holds
them (R301, R318, R320, R322). -/
def writesGo (s : State) (tag : Nat) (rs : List (Nat × Nat)) : Bool :=
  rs.all (fun r => decide (r.2 = 0) || !mayAccess s 1 true r.1 r.2 || mayGo s ⟨.hops tag, 3⟩ r.1 r.2)

/-- Writes that do not go on wait for their memory (R301, R320). -/
def writesWait (s : State) (tag : Nat) (rs : List (Nat × Nat)) : State :=
  (rs.filter (fun r => !writesGo s tag [r])).foldl (fun s r => waitFor s ⟨.hops tag, 3⟩ r.1 r.2) s

/-- The address of the predecessor slot and of the ledger words of a fold area (R345). -/
def predSlot (d : TagDesc) : Nat := d.fold + secLen (d.tiles * d.elems * 4)

/-- The address of the ledger word of a chunk (R345). -/
def ledgerWordAt (s : State) (d : TagDesc) (k : Nat) : Nat := predSlot d + secLen (d.wireBytes (grpCfg s d.group)) + 8 * k

/-! ### Ledger words -/

/-- Puts a ledger into the fold area's word, whose layout the spec does not give (a free value, log entry 91). -/
def putLedger (s : State) (d : TagDesc) (k : Nat) (l : Ledger) : State :=
  mangleWrite (s.withMangle (fun m => { m with ledger := tset m.ledger (ledgerKey d.tag k) l })) d.tag
    (ledgerWordAt s d k) (leBytes 8 (Config.ledgerWord l.count l.set).toNat)

/-- Takes a ledger out of the mangle and out of the fold area's word, which then holds nothing (R359, R367). -/
def clearLedger (s : State) (d : TagDesc) (k : Nat) : State :=
  mangleWrite (s.withMangle (fun m => { m with ledger := tdel m.ledger (ledgerKey d.tag k) })) d.tag
    (ledgerWordAt s d k) (leBytes 8 (Config.ledgerWord 0 0#64).toNat)

/-- Drops the ledgers of a tag for a step, counted (R367, R239). -/
def dropLedgers (s : State) (tag step : Nat) : State :=
  let mine := s.mangle.ledger.filter (fun e => decide (e.1 / 2 ^ 16 = tag) && decide (e.2.step = step))
  lateDrop (mine.foldl (fun s e => match descOf s tag with
    | some d => clearLedger s d (e.1 % 2 ^ 16)
    | none => s.withMangle (fun m => { m with ledger := tdel m.ledger e.1 })) s) (mine.map (fun e => e.2.count)).sum

/-- Whether the device adds no own contribution to an instance because its micro-batch is dropped
(R364, R152). -/
def absent (s : State) (i : Inst) : Bool :=
  decide (i.tag ≠ 0xFFFF) && (i.ownAbsent || (!i.began &&
    ((s.pru.dropped && decide (i.step = s.step)) || s.pru.droppedAt.contains i.step)))

/-- Frees the slot and the key of an instance (R351, R374); what it was declared absent from is remembered
(R364). -/
def freeInst (s : State) (i : Inst) : State :=
  s.withMangle (fun m => { m with
    insts := m.insts.filter (fun x => decide (x.tag ≠ i.tag) || decide (x.step ≠ i.step))
    keys := tdel m.keys i.slot
    absents := if absent s i then m.absents ++ [(i.tag, i.step)] else m.absents })

/-- Closes an instance early (R239, R349, R418): what a reduction holds is counted. -/
def closeEarly (s : State) (i : Inst) : State :=
  let s1 := freeInst s i
  match descOf s i.tag with
  | none => s1
  | some d =>
    if isRed d.op then
      lateDrop (if i.step = 0 then s1 else dropLedgers s1 i.tag (i.step - 1)) (i.heldCount d (absent s i))
    else s1

/-- Closes the instance two steps back (R349): a GATHER is abandoned. -/
def closeOld (s : State) (i : Inst) : State :=
  let s1 := closeEarly s i
  if (descOf s i.tag).any (fun d => decide (d.op = 1)) then raise (bump s1 O.mangleCntAbandon) 0x3004 0 1 9 i.tag else s1

/-- Whether instances may open at all (`MANGLE.CTRL.EN`, R538). -/
def mayOpen (s : State) : Bool := csrBit s O.mangleCtrl 0 && !fenceStops s

/-- Counts a wait for a slot (R350). -/
def slotWait (s : State) : State := if mayOpen s then bump s O.mangleCntSlotWait else s

/-- The agreed exponent of an instance that opens: that of its step, whenever it opens (R341, R357). -/
def eGOf (s : State) (d : TagDesc) (step : Nat) : Nat :=
  match tget? s.mangle.eGPrev d.tag with
  | some (t, e) => if step ≤ t then e else d.eG
  | none => d.eG

/-- Opens a bucket, closing the one two steps back (R348, R349, R351, R376, R538); `none` without a free slot. -/
def openInst (s : State) (d : TagDesc) (step : Nat) : Option State :=
  if mayOpen s = false then none else
  let old := s.mangle.insts.filter (fun i => decide (i.tag = d.tag) && decide (i.step + 2 ≤ step))
  let s1 := old.foldl closeOld s
  match freeSlot s1 d.tag with
  | none => none
  | some n =>
    let i : Inst := {
      tag := d.tag, step := step, epoch := epochOf s, eG := eGOf s d step, slot := n, ownTiles := [], ownBytes := [], ownRecs := [],
      ownLate := false, ownAbsent := false, qcache := [], hops := [], delivered := [],
      outcomes := [], got := [], checked := checkPick s d step, began := false, lostOut := false, tooBig := false }
    let s2 := s1.withMangle (fun m => { m with
      insts := m.insts ++ [i]
      newest := tset m.newest d.tag (max (tget m.newest d.tag 0) (step + 1))
      opened := tset m.opened d.tag (step :: (tget m.opened d.tag []).filter (fun x => decide (step ≤ x + 1)))
      keys := if isRed d.op then tset m.keys n (srKey (jobSeed s) d.tag (selfRank s) 3) else m.keys })
    let s3 := bump s2 O.mangleCntInst
    let s4 := if i.checked then bump s3 O.mangleCntChecked else s3
    some (csrPut s4 O.mangleStep (max (csrGet s4 O.mangleStep) step))

/-- One skip (R363 to R365): record, counter and event. -/
def skip (s : State) (kind rank tag step : Nat) : State :=
  let s1 := s.withMangle (fun m => { m with skips := (⟨kind, rank, tag, step⟩ :: m.skips).take 16 })
  raise (bump s1 O.mangleCntSkip) 0x3001 0 1 9 tag

/-! ### Segments -/

/-- Elements, bytes or records of a segment (Table 4). -/
def segSize (d : TagDesc) (i : Inst) : Nat :=
  if d.tag = 0xFFFF then 64 else if !isRed d.op then 16384 else if i.checked then 2048 else 4096

/-- Bytes of a tile in a move of bytes. -/
def tileBytes (d : TagDesc) : Nat := if d.op = 1 then d.imgBytes else d.elems * 4

/-- Elements, bytes or records of a chunk. -/
def chunkLen (d : TagDesc) (k : Nat) : Nat :=
  (d.tilesOf k).length * (if d.tag = 0xFFFF then 1 else if isRed d.op then d.elems else tileBytes d)

/-- Segments of a chunk. -/
def segCount (d : TagDesc) (i : Inst) (k : Nat) : Nat := (chunkLen d k + segSize d i - 1) / segSize d i

/-- Units of `OFFSET` in an element of a segment: records count as 256 bytes (R342). -/
def offUnit (d : TagDesc) : Nat := if d.tag = 0xFFFF then 256 else 1

/-- A slice of a list. -/
def slice {α : Type} (l : List α) (lo n : Nat) : List α := (l.drop lo).take n

/-- The segment of a frame. -/
def segOf (d : TagDesc) (i : Inst) (f : MFrame) : Nat := f.offset / (segSize d i * offUnit d)

/-! ### Lanes -/

/-- The values that a payload carries (Table 4). -/
def MFrame.values (f : MFrame) : List Dy :=
  match f.payload with
  | .w8 b => b.flatMap (fun k => (List.range 32).map (fun i => k.val f.eG i))
  | .f32 b => b.map a32Val
  | .exact b => b.map (fun i => ⟨i, (f.eG : Int) - 141⟩)
  | _ => []

/-- Whether a payload is decoded by the agreed exponent (R356). -/
def Payload.scaled : Payload → Bool
  | .w8 _ => true
  | .exact _ => true
  | .f32 _ => false
  | .bytes _ => false
  | .recs _ => false

/-- A value as an A32 element. -/
def toA32 (v : Dy) : BitVec 32 := (a32Of v .rne).1

/-- The least and the greatest integer of the exact lane (Table 4). -/
def laneMin : Int := -(2 ^ 47)
/-- The greatest integer of the exact lane. -/
def laneMax : Int := 2 ^ 47 - 1

/-- Whether an exact-lane integer stands for a saturated element: a saturated one keeps the largest magnitude of its
sign (R370; log entry 90). -/
def laneFull (i : Int) : Bool := decide (i ≤ laneMin) || decide (laneMax ≤ i)

/-- A value in the exact lane under an agreed exponent, saturating (R370). -/
def toLane (e : Nat) (v : Dy) : Int := clampInt ((v.scale (141 - (e : Int))).round .rne) laneMin laneMax

/-- Adds two elements of the exact lane. DESIGN CHOICE (log entry 90): one that has saturated stays saturated, so that
the final hop knows it by its value. -/
def addLane1 (a b : Int) : Int := if laneFull a then a else if laneFull b then b else clampInt (a + b) laneMin laneMax

/-- Adds two exact lanes, saturating. -/
def addLane (a b : List Int) : List Int := List.zipWith addLane1 a b

/-- The elements of a payload for an A32 sum: those of an F32 frame as its bits state (R355, R359). -/
def MFrame.elems (f : MFrame) : List (BitVec 32) :=
  match f.payload with
  | .f32 b => b
  | _ => f.values.map toA32

/-- Adds exact values to A32 elements with one rounding (R72, R366). -/
def addDy (a : List (BitVec 32)) (b : List Dy) : List (BitVec 32) :=
  List.zipWith (fun x v =>
    if v.m = 0 then (a32Add x 0#32 .rne).1
    else
      let w := (a32Val x).add v
      if w.m = 0 then 0#32 else toA32 w) a b

/-- Adds A32 elements (R72, RNE). -/
def addA32 (a b : List (BitVec 32)) : List (BitVec 32) := List.zipWith (fun x y => (a32Add x y .rne).1) a b

/-- Adds a term to a sum that may not have begun. -/
def plus {α : Type} (f : α → α → α) (a : Option α) (b : Option α) : Option α :=
  match a, b with
  | some x, some y => some (f x y)
  | none, y => y
  | x, none => x

/-- The elements of a tile handed to SHIP as a contribution, with the conversions and events of Table 5 of *Number
formats, scales and rounding* (R77, R81). -/
def shipElems (d : TagDesc) (t : STile) : List (BitVec 32) × NumEv :=
  let v := (wideRows t).flatten
  let xs := (List.range d.elems).map (fun i => f32Wire (v.getD i (Config.missingElem i)))
  (xs.map (·.1), xs.foldl (fun a x => a.add x.2) NumEv.none)

/-! ### W8 on the wire -/

/-- The sum of squares of A32 values, added to a start in ascending order. -/
def addSquares (a : BitVec 32) (v : List (BitVec 32)) : BitVec 32 := v.foldl (fun x y => f32Add x (f32Mul y y)) a

/-- Adds what a tag's blocks say to its counts for the next record close (R153, R358). -/
def wireStats (s : State) (tag : Nat) (bs : List W8Block) (xs res : List (BitVec 32)) : State :=
  let o := tget s.mangle.wire tag StatObs.zero
  let (n, c) := tget s.mangle.wireBlocks tag (0, 0)
  s.withMangle (fun m => { m with
    wire := tset m.wire tag { o with resSq := addSquares o.resSq res, sigSq := addSquares o.sigSq xs }
    wireBlocks := tset m.wireBlocks tag (n + bs.length, c + (bs.filter (·.clamp)).length) })

/-- Raises the events of R81 on a contribution with the tag as source (R82); those of a tag whose wire is W8 count for its
entry (R358). -/
def wireNum (s : State) (d : TagDesc) (ev : NumEv) : State :=
  let o := tget s.mangle.wire d.tag StatObs.zero
  let s1 := if ev.nan + ev.inf = 0 ∨ isW8 s d = false then s else
    s.withMangle (fun m => { m with wire := tset m.wire d.tag { o with nanInf := o.nanInf + ev.nan + ev.inf } })
  raiseN (raiseN s1 0x1001 0 1 9 d.tag ev.nan) 0x1002 0 1 9 d.tag ev.inf

/-- The residuals of `n` elements from element `g` of a bucket. -/
def readResid (s : State) (d : TagDesc) (g n : Nat) : List (BitVec 32) := mangleWords s (d.resid + 4 * g) n

/-- Writes residuals. -/
def writeResid (s : State) (d : TagDesc) (g : Nat) (v : List (BitVec 32)) : State :=
  mangleWrite s d.tag (d.resid + 4 * g) (v.flatMap (fun x => leBytes 4 x.toNat))

/-- Adds the residuals of elements from `g` on, quantises to W8 by R75 and R76 with the instance's agreed exponent, and
keeps the new residuals (R359). Residuals that memory does not deliver are not added (R327; log entry 92). -/
def quantW8 (s : State) (i : Inst) (d : TagDesc) (g : Nat) (v : List (BitVec 32)) : State × List W8Block :=
  let a := d.resid + 4 * g
  let xs := if mangleGood s a (4 * v.length) then addA32 v (readResid s d g v.length) else v
  let s0 := mangleReads s d.tag a (4 * v.length)
  let key := srKey (jobSeed s) d.tag (selfRank s) 3
  let (bs, _) := w8EncodeAll i.eG (xs.map a32Val) (rndAt true key (srCtrHop i.step g))
  let res := (bs.zipIdx.flatMap (fun p => w8Residual i.eG ((slice xs (32 * p.2) 32).map a32Val) p.1))
  (wireStats (writeResid s0 d g res) d.tag bs xs res, bs)

/-- The element number of the first element of a chunk within its bucket. -/
def chunkBase (d : TagDesc) (k : Nat) : Nat := k * d.chunkTiles * d.elems

/-- The own elements of a chunk. -/
def Inst.own (i : Inst) (d : TagDesc) (k : Nat) : List (BitVec 32) :=
  (d.tilesOf k).flatMap (fun t => tget i.ownTiles t [])

/-- The W8 blocks of a contribution of a checked instance, formed once, with the exponent that formed them (R370): `slot`
0 for the own contribution and 1 for a folded one. -/
def onceW8 (s : State) (i : Inst) (d : TagDesc) (k slot : Nat) (v : List (BitVec 32)) :
    State × Inst × Nat × List W8Block :=
  match tget? i.qcache (2 * k + slot) with
  | some (e, b) => (s, i, e, b)
  | none =>
    let (s1, b) := quantW8 s i d (chunkBase d k) v
    (s1, { i with qcache := tset i.qcache (2 * k + slot) (i.eG, b) }, i.eG, b)

/-- The exact-lane integers, under the exponent `e`, of `n` elements from `lo` of W8 blocks formed by the exponent
`eb`. -/
def w8Lane (e eb : Nat) (b : List W8Block) (lo n : Nat) : List Int :=
  slice (b.flatMap (fun k => (List.range 32).map (fun i => toLane e (k.val eb i)))) lo n

/-! ### Ledgers -/

/-- What a ledger gives a segment of `n` elements from `lo`: folded predecessor values, folded own
elements, the counts and the set hash (R359, R366), the exponents of the late partials that begin in it, and by element 0 or
the saturated integer that a late partial of the exact lane carries there (R370). Elements that no late partial covers get
nothing. -/
structure Fold where
  pred : Option (List Dy)
  own : Option (List (BitVec 32))
  cnt : Nat
  set : BitVec 64
  eGs : List Nat
  full : List Int

/-- The address of an element of the own slot of a fold area (R345). -/
def ownSlot (d : TagDesc) (g : Nat) : Nat := d.fold + 4 * g

/-- Elements of the own slot of a fold area, read from memory. -/
def readOwnSlot (s : State) (d : TagDesc) (g n : Nat) : List (BitVec 32) := mangleWords s (ownSlot d g) n

/-- Whether elements of the own slot can be delivered (R290, R327). -/
def ownSlotGood (s : State) (d : TagDesc) (g n : Nat) : Bool := mangleGood s (ownSlot d g) (4 * n)

/-- The part of the predecessor slot that holds `n` elements from element `g` of a bucket, where a late partial of the
payload's lane goes there: the lane is the wire of the group (R345). -/
def predPart (s : State) (d : TagDesc) (p : Payload) (g n : Nat) : Option (Nat × Nat) :=
  match p with
  | .w8 _ => some (predSlot d + g / 32 * 33, n / 32 * 33)
  | .f32 _ => if isW8 s d then none else some (predSlot d + 4 * g, 4 * n)
  | _ => none

/-- A W8 block from its bytes (R74). -/
def w8OfBytes (b : List Byte) : W8Block :=
  let h := (b.getD 32 0#8).toNat
  ⟨(b.take 32).map (·.toNat), h % 16, decide (16 ≤ h)⟩

/-- The payload of a late partial as the predecessor slot gives it back (R345, R366). -/
def predPayload (s : State) (d : TagDesc) (f : MFrame) : Payload :=
  match predPart s d f.payload (chunkBase d f.chunk + f.offset) f.payload.count, f.payload with
  | some (a, n), .w8 b => .w8 ((List.range b.length).map (fun j => w8OfBytes (slice (mangleBytes s a n) (33 * j) 33)))
  | some (a, _), .f32 b => .f32 (mangleWords s a b.length)
  | _, p => p

/-- Whether two late partials of a chunk share elements. -/
def MFrame.meets (a b : MFrame) : Bool :=
  decide (a.offset < b.offset + b.payload.count) && decide (b.offset < a.offset + a.payload.count)

/-- The late partials of a ledger as they are folded: one that a later one has overwritten in the predecessor slot is held by
the mangle (log entry 91), every other is read from the slot, and dropped where memory does not deliver it (R327). -/
def predFrames (s : State) (d : TagDesc) : List MFrame → List MFrame
  | [] => []
  | f :: rest =>
    if rest.any f.meets then f :: predFrames s d rest
    else
      let good := (predPart s d f.payload (chunkBase d f.chunk + f.offset) f.payload.count).all (fun r => mangleGood s r.1 r.2)
      if good then { f with payload := predPayload s d f } :: predFrames s d rest else predFrames s d rest

/-- Whether the ledger word in memory is the one that the mangle has written. -/
def wordKept (s : State) (d : TagDesc) (k : Nat) (l : Ledger) : Bool :=
  decide (mangleBytes s (ledgerWordAt s d k) 8 = leBytes 8 (Config.ledgerWord l.count l.set).toNat)

/-- The count and the set hash that a ledger word gives a segment: those of the late partials that the mangle has put in it,
unless something else has been written there since (log entry 91). -/
def wordGives (s : State) (d : TagDesc) (k : Nat) (l : Ledger) (cnt : Nat) (set : BitVec 64) : Nat × BitVec 64 :=
  if wordKept s d k l then (cnt, set)
  else Config.ledgerRead (BitVec.ofNat 64 (memNum s.mem (ledgerWordAt s d k) 8))

/-- The integers of a payload in the exact lane under another exponent, with RNE; one that has saturated stays so (R370). -/
def MFrame.laneInts (f : MFrame) (e : Nat) : List Int :=
  match f.payload with
  | .exact b => b.map (fun i => if laneFull i then (if i < 0 then laneMin else laneMax) else
      toLane e ⟨i, (f.eG : Int) - 141⟩)
  | _ => f.values.map (toLane e)

/-- The contents of the ledger of (tag, t − 1) for a segment. DEDUCED (log entry 89): the count and the set are those of
the late partials of the segment, and several of one segment are all folded, so that R368 holds. -/
def foldOf (s : State) (i : Inst) (d : TagDesc) (k lo n : Nat) : Option Fold :=
  match tget? s.mangle.ledger (ledgerKey d.tag k) with
  | none => none
  | some l =>
    if l.step + 1 ≠ i.step then none
    else if !mangleGood s (ledgerWordAt s d k) 8 then some ⟨none, none, 0, 0#64, [], []⟩
    else
      let laps := (predFrames s d l.pred).filter (fun f =>
        decide (f.offset < lo + n) && decide (lo < f.offset + f.payload.count))
      let at_ (j : Nat) : List MFrame := laps.filter (fun f => decide (f.offset ≤ j) && decide (j < f.offset + f.payload.count))
      let elem (j : Nat) : Dy := (at_ j).foldl (fun a f => a.add (f.values.getD (j - f.offset) Dy.zero)) Dy.zero
      let full (j : Nat) : Int := ((at_ j).map (fun f => match f.payload with
        | .exact b => b.getD (j - f.offset) 0
        | _ => 0)).foldl (fun a i => if a ≠ 0 then a else if laneFull i then i else 0) 0
      let sums := laps.map (fun p => ((laps.filter p.meets).map (fun q => q.contrib + q.folded)).sum)
      let most := sums.foldl max 0
      let sets := match laps[sums.idxOf most]? with
        | some p => ((laps.filter p.meets).map (fun q => q.set)).foldl (· + ·) 0#64
        | none => 0#64
      let own := l.own && ownSlotGood s d (chunkBase d k + lo) n
      let (cnt, set) := wordGives s d k l (b2n own + most) ((if own then rankHash s (selfRank s) else 0#64) + sets)
      some {
        pred := if laps.isEmpty then none else some ((List.range n).map (fun j => elem (lo + j)))
        own := if own then some (readOwnSlot s d (chunkBase d k + lo) n) else none
        cnt := cnt
        set := set
        eGs := (laps.filter (fun f => decide (lo ≤ f.offset) && f.payload.scaled)).map (fun f => f.eG)
        full := (List.range n).map (fun j => full (lo + j)) }

/-- A hop has consumed the ledger of its chunk: the word frees when every segment in every direction has
(R359). -/
def releaseLedger (s : State) (i : Inst) (d : TagDesc) (k : Nat) : State :=
  match tget? s.mangle.ledger (ledgerKey d.tag k) with
  | none => s
  | some l =>
    if l.used + 1 = segCount d i k * (if i.checked then 2 else 1) then clearLedger s d k
    else s.withMangle (fun m => { m with ledger := tset m.ledger (ledgerKey d.tag k) { l with used := l.used + 1 } })

/-- Whether a hop of a chunk of an instance has begun: one of its inputs is present (R360, R366). -/
def Inst.begunAt (i : Inst) (d : TagDesc) (k : Nat) : Bool :=
  i.hasOwn d k || i.hops.any (fun e => decide (hopChunk e.1 = k) && (e.2.done || e.2.inp.isSome || e.2.inSkipped))

/-- Whether a late contribution of a step may fold (R366). -/
def mayFold (s : State) (d : TagDesc) (step k : Nat) : Bool :=
  let nx := findInst s d.tag (step + 1)
  grpFold (grpCfg s d.group) && decide (d.tag ≠ 0xFFFF) &&
  decide (step + 1 + b2n nx.isSome = tget s.mangle.newest d.tag 0) &&
  !(match nx with
    | some i => i.begunAt d k
    | none => false)

/-- The ledger of a chunk for a step, its older contents dropped (R367). -/
def takeLedger (s : State) (d : TagDesc) (step k : Nat) : State × Ledger :=
  let fresh : Ledger := ⟨step, false, [], 0, 0#64, 0⟩
  match tget? s.mangle.ledger (ledgerKey d.tag k) with
  | none => (s, fresh)
  | some l => if l.step = step then (s, l) else (lateDrop s l.count, fresh)

/-- The parts of the fold area that a late own contribution of a chunk would write (R345, R366). -/
def ownLateWrites (s : State) (d : TagDesc) (step k : Nat) : List (Nat × Nat) :=
  if mayFold s d step k then [(ownSlot d (chunkBase d k), 4 * chunkLen d k), (ledgerWordAt s d k, 8)] else []

/-- The parts of the fold area that a late partial would write (R345, R366). -/
def predLateWrites (s : State) (d : TagDesc) (f : MFrame) : List (Nat × Nat) :=
  if f.rev ∨ mayFold s d f.step f.chunk = false then []
  else (predPart s d f.payload (chunkBase d f.chunk + f.offset) f.payload.count).toList ++ [(ledgerWordAt s d f.chunk, 8)]

/-- A late own contribution of a chunk, which goes to the own slot in A32 (R345, R366). -/
def lateOwnChunk (s : State) (d : TagDesc) (step k : Nat) (v : List (BitVec 32)) : State :=
  if mayFold s d step k then
    let (s1, l) := takeLedger s d step k
    let s2 := mangleWrite s1 d.tag (ownSlot d (chunkBase d k)) (v.flatMap (fun x => leBytes 4 x.toNat))
    bump (putLedger s2 d k { l with own := true, count := l.count + 1, set := l.set + rankHash s (selfRank s) }) O.mangleCntFold
  else lateDrop s 1

/-- Writes a late partial in its own lane to the predecessor slot, where its lane is the wire of the group (R345, R366);
one in the exact lane, for which the slot has no room, is held by the mangle alone (log entry 91). -/
def writePredSlot (s : State) (d : TagDesc) (f : MFrame) : State :=
  match predPart s d f.payload (chunkBase d f.chunk + f.offset) f.payload.count with
  | some (a, _) => mangleWrite s d.tag a f.payload.bytesOf
  | none => s

/-- A late partial (R366, R371): a reverse one is dropped uncounted. -/
def latePartial (s : State) (d : TagDesc) (f : MFrame) : State :=
  if f.rev then s
  else if mayFold s d f.step f.chunk then
    let (s1, l) := takeLedger s d f.step f.chunk
    bump (putLedger (writePredSlot s1 d f) d f.chunk
      { l with pred := l.pred ++ [f], count := l.count + f.contrib + f.folded, set := l.set + f.set }) O.mangleCntFold
  else lateDrop s (f.contrib + f.folded)

/-! ### The hop -/

/-- Whether a hop waits for the own contribution (R359, R364). -/
def needOwn (s : State) (i : Inst) (p : HopPlan) : Bool := p.own && !i.ownLate && !absent s i

/-- Whether the own contribution of a chunk is added at a hop. -/
def addsOwn (s : State) (i : Inst) (d : TagDesc) (p : HopPlan) (k : Nat) : Bool :=
  p.own && !absent s i && i.hasOwn d k

/-- Whether a hop has what it needs. -/
def hopReady (s : State) (i : Inst) (d : TagDesc) (p : HopPlan) (k seg : Nat) (rev : Bool) (level : Nat) : Bool :=
  let h := i.hop (hopKey k seg rev level)
  (!p.needIn || h.inp.isSome || h.inSkipped) && (!needOwn s i p || i.hasOwn d k) &&
  (match p.prev with
   | none => true
   | some l => (i.hop (hopKey k seg rev l)).done)

/-- Whether a hop quantises to W8: an unchecked one that sends, and a checked one that forms a contribution for the first
time (R359, R370). -/
def hopQuant (s : State) (i : Inst) (d : TagDesc) (p : HopPlan) (k : Nat) (folds : Bool) : Bool :=
  isW8 s d && (if i.checked then p.own && ((tget? i.qcache (2 * k)).isNone || (folds && (tget? i.qcache (2 * k + 1)).isNone))
    else decide (p.next ≠ .final) && decide (p.next ≠ .carry))

/-- The ledger that a hop of a chunk consumes, if any (R359). -/
def foldLedger (s : State) (i : Inst) (d : TagDesc) (p : HopPlan) (k : Nat) : Option Ledger :=
  if p.own then (tget? s.mangle.ledger (ledgerKey d.tag k)).filter (fun l => decide (l.step + 1 = i.step)) else none

/-- The parts of memory that a hop reads for a ledger that it consumes: its own slot, the late partials that the predecessor
slot holds, and the ledger word (R345, R359, R366). -/
def ledgerParts (s : State) (d : TagDesc) (k : Nat) (l : Ledger) : List (Nat × Nat) :=
  (if l.own then [(ownSlot d (chunkBase d k), 4 * chunkLen d k)] else []) ++
  l.pred.filterMap (fun f => predPart s d f.payload (chunkBase d f.chunk + f.offset) f.payload.count) ++
  [(ledgerWordAt s d k, 8)]

/-- The parts of memory that a hop reads: the residuals of its chunk where it quantises, and those of a ledger that it
consumes (R359, R366). -/
def hopReads (s : State) (i : Inst) (d : TagDesc) (p : HopPlan) (k : Nat) : List (Nat × Nat) :=
  let l := foldLedger s i d p k
  (if hopQuant s i d p k (l.any (·.own)) then [(d.resid + 4 * chunkBase d k, 4 * chunkLen d k)] else []) ++
    (l.map (ledgerParts s d k)).getD []

/-- The parts of memory that a hop writes: new residuals, and a ledger word that it frees. -/
def hopWrites (s : State) (i : Inst) (d : TagDesc) (p : HopPlan) (k : Nat) : List (Nat × Nat) :=
  let l := foldLedger s i d p k
  (if hopQuant s i d p k (l.any (·.own)) then [(d.resid + 4 * chunkBase d k, 4 * chunkLen d k)] else []) ++
    (if l.isSome then [(ledgerWordAt s d k, 8)] else [])

/-- A frame of a reduction instance from this device. -/
def mkFrame (s : State) (i : Inst) (d : TagDesc) (k off : Nat) (rev : Bool) (pl : Payload) : MFrame :=
  { tag := d.tag, chunk := k, step := i.step, epoch := epochOf s, contrib := 0, folded := 0, offset := off,
    eG := i.eG, rev := rev, final := false, checked := i.checked, outcome := false, set := 0#64, payload := pl }

/-- The sum of an unchecked hop (R359): a late partial is decoded exactly as it is added (R366). -/
def sumA32 (i : Inst) (d : TagDesc) (k lo n : Nat) (base : Option (List (BitVec 32))) (h : HopSt)
    (own : Bool) (fo : Option Fold) : Acc :=
  let mine := if own then some (slice (i.own d k) lo n) else none
  let so := plus addA32 (plus addA32 base (h.inp.map MFrame.elems)) mine
  let withPred := match so, fo.bind (·.pred) with
    | some v, some p => some (addDy v p)
    | none, some p => some (p.map toA32)
    | x, none => x
  .a32 ((plus addA32 withPred (fo.bind (·.own))).getD (List.replicate n 0#32))

/-- The sum of a checked hop (R370), and whether an element of it has saturated. -/
def sumExact (s : State) (i : Inst) (d : TagDesc) (k lo n : Nat) (base : Option (List Int)) (h : HopSt)
    (own : Bool) (fo : Option Fold) : State × Inst × Acc × Bool :=
  let start := base.getD (List.replicate n 0)
  let r1 := match h.inp with
    | some f => addLane start (f.laneInts i.eG)
    | none => start
  let (s1, i1, r2) := if own then
      let (s1, i1, e, b) := onceW8 s i d k 0 (i.own d k)
      (s1, i1, addLane r1 (w8Lane i.eG e b lo n))
    else (s, i, r1)
  let r3 := match fo, fo.bind (·.pred) with
    | some o, some v => addLane r2 (List.zipWith (fun x full => if full ≠ 0 then full else toLane i.eG x) v o.full)
    | _, _ => r2
  let (s2, i2, r4) := if fo.any (·.own.isSome) then
      let (s2, i2, e, b) := onceW8 s1 i1 d k 1 (readOwnSlot s1 d (chunkBase d k) (chunkLen d k))
      (s2, i2, addLane r3 (w8Lane i.eG e b lo n))
    else (s1, i1, r3)
  (s2, i2, .exact r4, r4.any laneFull)

/-- The sum of a hop on tag 0xFFFF: the incoming records first, then the own (R342). -/
def sumRecs (i : Inst) (d : TagDesc) (k lo n : Nat) (base : Option (List StatRec)) (h : HopSt) (own : Bool) : Acc :=
  let comb (a b : List StatRec) : List StatRec := List.zipWith StatRec.combine a b
  let inp := h.inp.bind (fun f => match f.payload with
    | .recs r => some r
    | _ => none)
  let mine := if own then some ((slice (d.tilesOf k) lo n).map (fun t => tget i.ownRecs t StatRec.zero)) else none
  .recs ((plus comb (plus comb base inp) mine).getD (List.replicate n StatRec.zero))

/-- The payload of a sum on its way to the next hop, quantised where the group's wire is W8 (R359). -/
def hopPayload (s : State) (i : Inst) (d : TagDesc) (k lo : Nat) (a : Acc) : State × Payload :=
  match a with
  | .recs r => (s, .recs r)
  | .exact v => (s, .exact v)
  | .a32 v =>
    if isW8 s d then
      let (s1, b) := quantW8 s i d (chunkBase d k + lo) v
      (s1, .w8 b)
    else (s, .f32 v)

/-- Performs a hop whose inputs are decided. Where memory does not deliver the residual that the own contribution is quantised
with, that contribution is dropped (Table 10 of *Memory tiers and weight streaming*; log entry 92). -/
def performHop (s : State) (i : Inst) (d : TagDesc) (p : HopPlan) (k seg : Nat) (rev : Bool) (level : Nat) : State :=
  let key := hopKey k seg rev level
  let h := i.hop key
  let lo := seg * segSize d i
  let n := min (segSize d i) (chunkLen d k - lo)
  let prev := p.prev.bind (fun l => (i.hop (hopKey k seg rev l)).sum)
  let spoilt := p.own && isW8 s d && hopQuant s i d p k false && !mangleGood s (d.resid + 4 * (chunkBase d k + lo)) (4 * n)
  let own := addsOwn s i d p k && !spoilt
  let fo := if p.own then foldOf s i d k lo n else none
  let taken := (h.inp.toList.filter (fun f => f.payload.scaled)).map (fun f => f.eG)
  let folded := if rev then [] else (fo.map (·.eGs)).getD []
  let odd := ((taken ++ folded).filter (· ≠ i.eG)).length
  let s0 := deepTrace (h.lost.foldl (fun s f => skip s 3 f d.tag i.step) (if odd = 0 then s else bump s O.mangleCntEgDiff odd))
  let s0 := ((foldLedger s i d p k).map (ledgerParts s d k)).getD [] |>.foldl (fun s r => mangleReads s d.tag r.1 r.2) s0
  let s1 := if p.own && (absent s i || spoilt) then skip s0 2 (selfRank s) d.tag i.step else s0
  let (s2, i2, acc, sat) : State × Inst × Acc × Bool :=
    if d.tag = 0xFFFF then
      (s1, i, sumRecs i d k lo n (prev.bind (fun x => match x.acc with
        | .recs r => some r
        | _ => none)) h own, false)
    else if i.checked then
      sumExact s1 i d k lo n (prev.bind (fun x => match x.acc with
        | .exact r => some r
        | _ => none)) h own fo
    else (s1, i, sumA32 i d k lo n (prev.bind (fun x => match x.acc with
        | .a32 r => some r
        | _ => none)) h own fo, false)
  let s3 := if fo.isSome then releaseLedger s2 i d k else s2
  let sum : SegSum :=
    { acc := acc
      eG := i.eG
      cnt := (prev.map (·.cnt)).getD 0 + (h.inp.map (·.contrib)).getD 0 + b2n own
      fld := (prev.map (·.fld)).getD 0 + (h.inp.map (·.folded)).getD 0 + (fo.map (·.cnt)).getD 0
      set := (prev.map (·.set)).getD 0#64 + (h.inp.map (·.set)).getD 0#64 +
        (if own then rankHash s (selfRank s) else 0#64) + (fo.map (·.set)).getD 0#64
      sat := sat || (prev.map (·.sat)).getD false }
  let done (x : Option SegSum) : Inst :=
    { i2 with hops := tset i2.hops key { h with done := true, sum := x }, began := i2.began || own }
  match p.next with
  | .send r =>
    let (s4, pl) := hopPayload s3 i2 d k lo acc
    sendFrame (putInst s4 (done none)) r (.mangle { mkFrame s i d k (lo * offUnit d) rev pl with
      contrib := sum.cnt, folded := sum.fld, set := sum.set })
  | _ => putInst s3 (done (some sum))

/-- Whether a partial can be taken by a hop of this device, and by which level: the earliest that has taken none, unless
that one has skipped its own (R365). -/
def takerOf (s : State) (i : Inst) (d : TagDesc) (f : MFrame) : Option Nat :=
  let hop (l : Nat) : HopSt := i.hop (hopKey f.chunk (segOf d i f) f.rev l)
  (hopLevels.find? (fun l =>
    match planOf s i d (hopKey f.chunk (segOf d i f) f.rev l) f.chunk (segOf d i f) f.rev l with
    | some p => p.needIn && (hop l).inp.isNone
    | none => false)).filter (fun l => !(hop l).inSkipped && !(hop l).done)

/-- Whether a plan names a rank. -/
def HopPlan.names (p : HopPlan) (f : Nat) : Bool := (p.needIn && decide (p.pred = f)) || decide (p.next = .send f)

/-- Applies to a live instance that rank `f` has failed (R365); `t` is the table before. A hop that would take its
partial from `f` and has none forwards without `f`; where it waits for that partial alone, it stops waiting at once. So does
the final hop that this device takes over from `f`. -/
def failRankIn (t : GroupT) (s : State) (i : Inst) (f : Nat) : State :=
  let was : State := { s with mend := { s.mend with table := some t } }
  match descOf s i.tag with
  | none => s
  | some d =>
    if !isRed d.op then s
    else
      (List.range d.chunks).foldl (fun s k => (List.range (segCount d i k)).foldl (fun s g =>
        ((if i.checked then [false, true] else [false]).foldl (fun s rev => hopLevels.foldl (fun s l =>
          match findInst s i.tag i.step with
          | none => s
          | some j =>
            let key := hopKey k g rev l
            let h := j.hop key
            let h1 := { h with plan := h.plan.filter (fun p => !p.names f) }
            let put (skips : Bool) : State :=
              putInst s { j with hops := tset j.hops key { h1 with inSkipped := h.inSkipped || skips, lost := h.lost ++ [f] } }
            let kept := if h1 = h then s else putInst s { j with hops := tset j.hops key h1 }
            if h.done then s
            else if h.inp.isSome || h.inSkipped then kept
            else match planOf was j d key k g rev l, hopPlan s d i.step k g rev l with
              | some p, _ =>
                if p.needIn && decide (p.pred = f) then
                  put ((!p.own || j.hasOwn d k || !needOwn s j p) && p.prev.all (fun q => (j.hop (hopKey k g rev q)).done))
                else kept
              | none, some _ => if l = 16 ∧ chunkOwner s d k = f then put false else kept
              | none, none => kept) s) s)) s) s

/-- Fixes, in a live instance of a step that a join takes in, the plans of the hops that have begun (R411): `was` is the
state before the join. DEDUCED (log entry 97): a hop for a chunk of the rank that joins sends to that rank, since its
partner serves it no more. -/
def keepBegun (was s : State) (i : Inst) (f : Nat) : State :=
  match descOf s i.tag with
  | none => s
  | some d =>
    if !isRed d.op then s
    else
      let keys := (List.range d.chunks).flatMap (fun k => (List.range (segCount d i k)).flatMap (fun g =>
        (if i.checked then [false, true] else [false]).flatMap (fun rev => (List.range 16).map (fun l => (k, g, rev, l)))))
      putInst s { i with hops := keys.foldl (fun t (k, g, rev, l) =>
        let key := hopKey k g rev l
        let h := i.hop key
        match planOf was i d key k g rev l with
        | none => t
        | some p =>
          let begun := h.inp.isSome || h.inSkipped || (p.own && i.hasOwn d k) ||
            p.prev.any (fun q => (i.hop (hopKey k g rev q)).done)
          let next := if chunkOwner s d k = f then ((hopPlan s d i.step k g rev l).map (·.next)).getD p.next else p.next
          if h.done || !begun then t else tset t key { h with plan := some { p with next := next } }) i.hops }

/-! ### Delivery -/

/-- The final hop's sum of a segment in a direction. -/
def finalSum (s : State) (i : Inst) (d : TagDesc) (k seg : Nat) (rev : Bool) : Option SegSum :=
  hopLevels.findSome? (fun l => match planOf s i d (hopKey k seg rev l) k seg rev l with
    | some p => if p.next = .final then (i.hop (hopKey k seg rev l)).sum else none
    | none => none)

/-- The final sums of every segment of a chunk in a direction, when all are there. -/
def finalSums (s : State) (i : Inst) (d : TagDesc) (k : Nat) (rev : Bool) : Option (List SegSum) :=
  let l := (List.range (segCount d i k)).map (fun g => finalSum s i d k g rev)
  if l.all Option.isSome then some (l.filterMap id) else none

/-- The bytes of a record that the check covers: all but `RES_SQ`, `SIG_SQ` and `SPOT_SUM` (R373). -/
def StatRec.checkBytes (r : StatRec) : List Byte :=
  let b := r.bytes
  b.take 0xD4 ++ slice b 0xDC 8 ++ b.drop 0xE8

/-- The bytes of a sum that the check covers (R372, R373). -/
def Acc.checkBytes : Acc → List Byte
  | .exact v => v.flatMap (fun i => leBytes 6 (i % 2 ^ 48).toNat)
  | .recs r => r.flatMap StatRec.checkBytes
  | .a32 v => v.flatMap (fun x => leBytes 4 x.toNat)

/-- The digest of one direction of a chunk (R372). -/
def sumsDigest (l : List SegSum) : BitVec 64 :=
  crc64 (l.flatMap (fun x => x.acc.checkBytes) ++
    l.flatMap (fun x => leBytes 2 x.cnt ++ leBytes 2 x.fld ++ leBytes 8 x.set.toNat))

/-- The outcome of a check (R372), as the status codes of R362: 0 OK, 1 MISMATCH, 3 VOID. -/
def checkOutcome (a b : List SegSum) : Nat :=
  if (a.zip b).any (fun p => decide (p.1.cnt ≠ p.2.cnt) || decide (p.1.fld ≠ p.2.fld) || decide (p.1.set ≠ p.2.set) ||
      p.1.sat || p.2.sat) then 3
  else if sumsDigest a = sumsDigest b then 0 else 1

/-- An A32 quotient by a count (R361). -/
def a32DivNat (x : BitVec 32) (n : Nat) : BitVec 32 :=
  let v := a32Val x
  if v.m = 0 then x else toA32 (quotSticky v ⟨n, 0⟩)

/-- The delivered elements of a segment (R361, R372). -/
def segResult (d : TagDesc) (x : SegSum) : List (BitVec 32) :=
  let v := match x.acc with
    | .a32 v => v
    | .exact v => v.map (fun i => toA32 ⟨i, (x.eG : Int) - 141⟩)
    | .recs _ => []
  if d.avg ∧ x.cnt + x.fld ≠ 0 then v.map (fun y => a32DivNat y (x.cnt + x.fld)) else v

/-- The address of an element of a chunk in `DST`. -/
def chunkAddr (d : TagDesc) (k : Nat) : Nat := d.dst + chunkBase d k * 4

/-- The completion tile of a chunk (R362). -/
def completionTile (d : TagDesc) (step k status cnt fld : Nat) : STile :=
  { hdr := { TileHdr.zero with fmt := fmtA32, cols := 3, tag := d.tag, step := step, entry := d.entry, pass := 2, cls := 1 }
    img := padSection ([status, cnt % 65536 + fld % 65536 * 65536, k, step].flatMap (leBytes 4))
    poison := [], src := [] }

/-- Hands a completion tile to TAKE of a core (R361). -/
def giveCompletion (s : State) (core sid : Nat) (t : STile) : State := giveTile s core 12 sid t

/-- Hands a completion tile on: that of an own chunk to `TAKE_CORE`, that of a rank that this device covers to
`MEND_CORE` (Table 2, R288, R400). -/
def complete (s : State) (d : TagDesc) (own : Bool) (t : STile) : State :=
  if own then giveCompletion s (d.f 11 7 0) (d.f 11 13 8) t else giveCompletion s (d.f 11 23 16) (d.f 11 29 24) t

/-- The least of a list of numbers, 0 of none. -/
def leastOf (l : List Nat) : Nat := match l with
  | [] => 0
  | x :: xs => xs.foldl min x

/-- The address of a rank's FINAL frames, if they are sent at all (R361, R402); a rank that has joined takes those of the
steps before its first from its partner still (R411, R412). -/
def finalDest (s : State) (step owner : Nat) : Option Nat :=
  match s.mend.table with
  | none => none
  | some t =>
    if rankIn s step owner then
      match partnerOf t owner with
      | none => none
      | some f => if (memOf t f).st = .live ∨ (memOf t f).st = .filling then some f else none
    else if (memOf t owner).st = .live then some owner
    else if (memOf t owner).st = .filling ∧ s.mend.srcs.any (fun x => decide (x.role = 1) && decide (x.subject = owner))
    then some owner else none

/-- A part of a delivered chunk that travels in one frame: its first element (record), its counts and its payload. -/
structure ResultPart where
  first : Nat
  cnt : Nat
  fld : Nat
  payload : Payload

/-- Joins the segments of the exact lane two by two to segments of the F32 lane (R339, Table 4). DESIGN CHOICE (log
entry 88): two whose counts differ go in a frame each, since a frame states one count. -/
def joinParts : List ResultPart → List ResultPart
  | a :: b :: rest =>
    match a.payload, b.payload with
    | .f32 v, .f32 w =>
      if a.cnt = b.cnt ∧ a.fld = b.fld then { a with payload := .f32 (v ++ w) } :: joinParts rest
      else a :: b :: joinParts rest
    | _, _ => a :: b :: joinParts rest
  | l => l

/-- The parts in which a delivered chunk is sent on. -/
def resultParts (i : Inst) (d : TagDesc) (sums : List SegSum) : List ResultPart :=
  let parts := sums.zipIdx.map (fun p => (⟨p.2 * segSize d i, p.1.cnt, p.1.fld, match p.1.acc with
    | .recs r => .recs r
    | _ => .f32 (segResult d p.1)⟩ : ResultPart))
  if i.checked ∧ d.tag ≠ 0xFFFF then joinParts parts else parts

/-- The number of a result's segment in its own lane, which chooses its ring (R339). -/
def laneSeg (d : TagDesc) (first : Nat) : Nat := first / (if d.tag = 0xFFFF then 64 else 4096)

/-- Sends the segments of a delivered chunk as F32 frames: FINAL to a partner, or on in the gather of an
ALL_REDUCE. -/
def sendResult (s : State) (i : Inst) (d : TagDesc) (k : Nat) (final : Bool) (outcome : Nat)
    (sums : List SegSum) (dest : Nat → List Nat) : State :=
  (resultParts i d sums).foldl (fun s p =>
    let f := { mkFrame s i d k (p.first * offUnit d) false p.payload with
      contrib := p.cnt, folded := p.fld, final := final, outcome := !final || i.checked
      set := BitVec.ofNat 64 outcome }
    (dest (laneSeg d p.first)).foldl (fun s r => sendFrame s r (.mangle f)) s) s

/-- The records of tag 0xFFFF in memory (R167). -/
def recAddr (s : State) (step entry : Nat) : Nat :=
  csrGet s O.pruRecBase * 256 + step % 2 * 0x100000 + entry * 256

/-- The place of a reduced record in the PRU: two steps are held (R167). -/
def recKey (step entry : Nat) : Nat := step % 2 * 4096 + entry

/-- Stores reduced records from entry `e` on. -/
def putRecords (s : State) (step e : Nat) (r : List StatRec) : State :=
  mangleWrite { s with pru := { s.pru with
      records := r.zipIdx.foldl (fun t p => tset t (recKey step (e + p.2)) p.1) s.pru.records } } 0xFFFF
    (recAddr s step e) (r.flatMap StatRec.bytes)

/-- Notes that a chunk of tag 0xFFFF has arrived with its outcome; once all have, the reduced records are
there when every outcome is OK (R342). -/
def statArrived (s : State) (step : Nat) : State :=
  match findInst s 0xFFFF step, descOf s 0xFFFF with
  | some i, some d =>
    if (List.range d.chunks).all (fun k => tget? i.delivered k = some 1) ∧
       (List.range d.chunks).all (fun k => tget i.outcomes k 0 = 0) then
      { s with pru := { s.pru with final := if s.pru.final.contains step then s.pru.final else s.pru.final ++ [step] } }
    else s
  | _, _ => s

/-- Delivers a chunk whose outcome is decided (R361, R362, R373). -/
def deliverChunk (s : State) (i : Inst) (d : TagDesc) (k outcome : Nat) (sums : List SegSum) : State :=
  let i1 := { i with delivered := tset i.delivered k 1, outcomes := tset i.outcomes k outcome }
  let s1 := putInst s i1
  let empty := sums.all (fun x => decide (x.cnt + x.fld = 0))
  let gather (s : State) : State :=
    if d.op = 3 then sendResult s i1 d k false outcome sums (fun g => gatherNext s d i.step g (chunkOwner s d k)) else s
  if d.tag = 0xFFFF then
    let r := sums.flatMap (fun x => match x.acc with
      | .recs r => r
      | _ => [])
    statArrived (gather (putRecords s1 i.step (k * d.chunkTiles) r)) i.step
  else
    let status := if outcome = 1 then 1 else if empty then 2 else outcome
    let s2 := if empty then s1 else
      mangleWrite s1 d.tag (chunkAddr d k) ((sums.flatMap (segResult d)).flatMap (fun x => leBytes 4 x.toNat))
    let s3 := gather s2
    let s4 := match finalDest s i.step (chunkOwner s d k) with
      | some r => sendResult s3 i1 d k true outcome sums (fun _ => [r])
      | none => s3
    let s5 := if outcome = 1 then
        notifyAll (raise (bump s4 O.mangleCntMismatch) 0x3002 0 1 9 d.tag) 0x0A07
          (leBytes 2 d.tag ++ leBytes 2 k ++ leBytes 4 i.step)
      else s4
    complete s5 d (decide (chunkOwner s d k = selfRank s))
      (completionTile d i.step k status (leastOf (sums.map (·.cnt))) (leastOf (sums.map (·.fld))))

/-! ### Moves of bytes -/

/-- The segment key of a move of bytes. -/
def gotKey (k seg : Nat) : Nat := k * 2 ^ 20 + seg

/-- The rack buffer that a gather of a step fills: the one it has begun, else the one with the older tag,
an invalid one counting as oldest (R211). -/
def rackFor (s : State) (d : TagDesc) (step : Nat) : Nat :=
  let get (a : Nat) : RackBuf := tget s.gate.racks a ⟨0, 0, false, 0⟩
  let a := get d.rackA
  let b := get d.rackB
  let age (r : RackBuf) : Nat := if r.valid then r.step + 1 else 0
  if a.step = step ∧ (tget? s.gate.racks d.rackA).isSome then d.rackA
  else if b.step = step ∧ (tget? s.gate.racks d.rackB).isSome then d.rackB
  else if age a ≤ age b then d.rackA else d.rackB

/-- The variant that a gather on a tag serves: the current one of the first entry that gates it (R211,
R219). -/
def servedVariant (s : State) (tag : Nat) : Nat :=
  match ((s.weave.map (·.blocks)).getD []).find? (fun b => b.gates.any (fun g => decide (g.tag = tag))) with
  | some b => tget s.pru.variants b.entry 0
  | none => 0

/-- Whether the gate has substituted a rack copy for the image of a tag in a step (R213). -/
def substituted (s : State) (tag step : Nat) : Bool := s.gate.subTags.contains (tag, step)

/-- Whether a segment of a move of bytes can be written now: no running block reads the rack buffer or the
window slot that it goes to (R211, R311). -/
def rackFree (s : State) (d : TagDesc) (step : Nat) : Bool :=
  d.op ≠ 1 || (!pinnedNow s (rackFor s d step) d.dstBytes && (substituted s d.tag step || !pinnedNow s d.dst d.dstBytes))

/-- The place of a segment of a move of bytes in its area. -/
def segAt (d : TagDesc) (k off : Nat) : Nat := k * d.chunkTiles * tileBytes d + off

/-- Writes a segment of a move of bytes where it belongs: the window slot and a rack buffer of a GATHER,
the result area otherwise (R211 to R213, R336); never beyond the area (R312). -/
def writeSegment (s : State) (d : TagDesc) (step k off : Nat) (bs : List Byte) : State :=
  let o := segAt d k off
  let fit := bs.take (d.dstBytes - o)
  if d.op = 1 then
    let r := rackFor s d step
    let s1 := if substituted s d.tag step then s else mangleWrite s d.tag (d.dst + o) fit
    let b := tget s1.gate.racks r ⟨0, 0, false, 0⟩
    let b1 := if b.step = step ∧ b.valid then b else ⟨step, servedVariant s d.tag, false, d.dstBytes⟩
    let s2 := { s1 with gate := { s1.gate with racks := tset s1.gate.racks r b1 } }
    mangleWrite s2 d.tag (r + o) fit
  else mangleWrite s d.tag (d.dst + o) fit

/-- Whether every segment of a move of bytes has come. -/
def bytesComplete (d : TagDesc) (i : Inst) : Bool :=
  (List.range d.chunks).all (fun k => (List.range (segCount d i k)).all (fun g => (tget? i.got (gotKey k g)).isSome))

/-- Marks an image that has arrived: its rack buffer is valid and, unless a rack copy was substituted for it,
its window holds the step (R212, R213); an open gate tests again (R217). -/
def landImage (s : State) (d : TagDesc) (step : Nat) : State :=
  if d.op = 1 then
    let r := rackFor s d step
    gateAgain (s.withGate (fun g => { g with
        racks := tset g.racks r { tget g.racks r ⟨step, 0, false, d.dstBytes⟩ with valid := true }
        landed := if substituted s d.tag step then g.landed else tset g.landed d.tag step })) false
  else s

/-- Whether a segment number lies beyond a chunk: it carries the surplus of images that exceed their places (log entry 30). -/
def beyondChunk (d : TagDesc) (i : Inst) (k seg : Nat) : Bool := decide (segCount d i k ≤ seg)

/-- Takes back that an image has arrived (R312). -/
def unlandImage (s : State) (d : TagDesc) (step : Nat) : State :=
  if d.op = 1 then
    let r := rackFor s d step
    s.withGate (fun g => { g with
      racks := tmod g.racks r ⟨step, 0, false, d.dstBytes⟩ (fun b => if b.step = step then { b with valid := false } else b)
      landed := if tget? g.landed d.tag = some step then tdel g.landed d.tag else g.landed })
  else s

/-- Takes a segment of a move of bytes: written here when this device is a receiver, and passed on. The surplus of an image
that exceeds its place is discarded, and the image does not count as arrived (R312). -/
def takeSegment (s : State) (i : Inst) (d : TagDesc) (k seg : Nat) (bs : List Byte) (pass : List Nat) : State :=
  let over_ := beyondChunk d i k seg || decide (d.dstBytes < segAt d k (seg * 16384) + bs.length)
  let i1 := { i with got := tset i.got (gotKey k seg) 1, tooBig := i.tooBig || over_ }
  let s1 := putInst (if d.op = 5 ∨ beyondChunk d i k seg then s else writeSegment s d i.step k (seg * 16384) bs) i1
  let s2 := pass.foldl (fun s r => sendFrame s r (.mangle (mkFrame s i d k (seg * 16384) false (.bytes bs)))) s1
  if i1.tooBig then (if bytesComplete d i then unlandImage s2 d i.step else s2)
  else if bytesComplete d i1 ∧ !bytesComplete d i then landImage s2 d i.step else s2

/-- The root of a move of bytes: the chunk's owner for GATHER, this device for SEND, `PEER` otherwise. -/
def rootOf (s : State) (d : TagDesc) (k : Nat) : Nat :=
  if d.op = 1 then chunkOwner s d k else if d.op = 5 then selfRank s else d.peer

/-- Whom this device passes a segment on to. -/
def passOn (s : State) (d : TagDesc) (step k seg : Nat) : List Nat :=
  if d.op = 5 then [d.peer] else if d.op = 6 then [] else gatherNext s d step seg (rootOf s d k)

/-- The bytes of a chunk that this device serves, when all its tiles have come; a tile's image is followed
by zeros up to its place (log entry 30). -/
def ownChunkBytes (i : Inst) (d : TagDesc) (k : Nat) : Option (List Byte) :=
  if (d.tilesOf k).all (fun t => (tget? i.ownBytes t).isSome) then
    some ((d.tilesOf k).flatMap (fun t =>
      let b := (tget i.ownBytes t []).take (tileBytes d)
      b ++ List.replicate (tileBytes d - b.length) 0#8))
  else none

/-- What the images of a chunk's tiles have beyond their places (R312), up to the offsets that a frame's segment number can
hold. -/
def surplusBytes (i : Inst) (d : TagDesc) (k : Nat) : List Byte :=
  ((d.tilesOf k).flatMap (fun t => (tget i.ownBytes t []).drop (tileBytes d)))

/-- The ranges that a segment of a move of bytes writes here (R211, R213, R336). -/
def segmentWrites (s : State) (i : Inst) (d : TagDesc) (k seg n : Nat) : List (Nat × Nat) :=
  let o := segAt d k (seg * 16384)
  let m := min n (d.dstBytes - o)
  if d.op = 5 ∨ beyondChunk d i k seg then []
  else if d.op = 1 then
    (if substituted s d.tag i.step then [] else [(d.dst + o, m)]) ++ [(rackFor s d i.step + o, m)]
  else [(d.dst + o, m)]

/-- Sends a served chunk, what exceeds the places of its images first. While the buffers that it also goes to here are pinned
or their memory is held, it waits (R211, R301, R311). -/
def serveChunk (s : State) (i : Inst) (d : TagDesc) (k : Nat) : State :=
  match ownChunkBytes i d k with
  | none => s
  | some bs =>
    let segs := List.range (segCount d i k)
    let waits := s.withMangle (fun m => { m with waitServe := m.waitServe ++ [(i.tag, i.step, k)] })
    let writes := segs.flatMap (fun g => segmentWrites s i d k g (slice bs (g * 16384) 16384).length)
    if !rackFree s d i.step then waits
    else if !writesGo s d.tag writes then writesWait waits d.tag writes
    else
      let extra := surplusBytes i d k
      let more := (List.range ((extra.length + 16383) / 16384)).map (fun g => (segCount d i k + g, slice extra (g * 16384) 16384))
      (more ++ segs.map (fun g => (g, slice bs (g * 16384) 16384))).foldl (fun s p =>
        match findInst s i.tag i.step with
        | some j => takeSegment s j d k p.1 p.2 (passOn s d i.step k p.1)
        | none => s) s

/-- Hands the merged records that wait to the mangle on tag 0xFFFF (R161, R165): to the instance of their
step, which opens if a slot is free. Records whose instance has closed are dropped and counted (R162). -/
def handRecords (s : State) : State :=
  let t := s.pru.step
  if s.pru.own.isEmpty then s
  else match descOf s 0xFFFF with
    | none => s
    | some d =>
      let taken (s : State) : State := { s with pru := { s.pru with own := [] } }
      let give (s : State) : State := match findInst s 0xFFFF t with
        | some i =>
          taken (if i.ownLate then lateDrop s d.chunks else putInst s { i with ownRecs := s.pru.own })
        | none => s
      if (findInst s 0xFFFF t).isSome then give s
      else if wasClosed s 0xFFFF t then taken (lateDrop s d.chunks)
      else match openInst s d t with
        | some s1 => give s1
        | none => slotWait s

end Sys2Proof.Machine
end

