-- ==== Sys2Proof/Machine/Mangle.lean ====
section
/-! DEFINITION. The meanings of the mangle commands (R332 to R376, R644). -/

namespace Sys2Proof.Machine

/-- Removes a delivered frame from the inbox, where it came over a link, with the receive slots that it holds. -/
def takeInbox (s : State) (b : FrameBody) : State × Option (Nat × Nat) :=
  let hit := s.inbox.find? (fun a => decide (a.frame.body = b))
  ({ s with inbox := s.inbox.eraseP (fun a => decide (a.frame.body = b)) },
   hit.bind (fun a => a.inbound.map (fun n => (n, a.frame.flits))))

/-- Frees the receive slots that a frame has held. -/
def freeHeld (s : State) (f : MFrame) (slots : Option (Nat × Nat)) : State :=
  match slots with
  | some (n, k) => freeSlots s n (FrameBody.mangle f).vc k
  | none => s

/-! ### SHIP -/

/-- A tile that SHIP may not hand over (R352). -/
def tagUnknown (s : State) (c _tag : Nat) : State :=
  let cls := coreClass s c
  let s1 := raise s 0x9005 3 cls 1 c
  if cls = 1 then dropMicroBatch s1 else s1

/-- Whether a late own tile is of a micro-batch that was declared absent (R364). -/
def lateGone (s : State) (d : TagDesc) (step : Nat) : Bool :=
  match findInst s d.tag step with
  | some i => absent s i
  | none => s.mangle.absents.contains (d.tag, step) ||
      (!(tget s.mangle.opened d.tag []).contains step && s.pru.droppedAt.contains step)

/-- The elements of an own tile of an instance: late, or in time. -/
def ownTileOf (s : State) (d : TagDesc) (step t : Nat) : Option (List (BitVec 32)) :=
  match s.mangle.lateOwn.find? (fun x => decide (x.1 = d.tag) && decide (x.2.1 = step) && decide (x.2.2.1 = t)) with
  | some x => some x.2.2.2
  | none => (findInst s d.tag step).bind (fun i => tget? i.ownTiles t)

/-- With the last tile of its chunk, a late own share goes to the ledger or is dropped (R363, R366), once memory takes it
(R301, R320). -/
def settleLate (s : State) (d : TagDesc) (step k : Nat) : State :=
  let mine (x : Nat × Nat × Nat × List (BitVec 32)) : Bool :=
    decide (x.1 = d.tag) && decide (x.2.1 = step) && decide (x.2.2.1 / d.chunkTiles = k)
  let tiles := (d.tilesOf k).map (ownTileOf s d step)
  if !s.mangle.lateOwn.any mine || !tiles.all Option.isSome then s
  else if !writesGo s d.tag (ownLateWrites s d step k) then writesWait s d.tag (ownLateWrites s d step k)
  else lateOwnChunk (s.withMangle (fun m => { m with lateOwn := m.lateOwn.filter (fun x => !mine x) })) d step k
    (tiles.flatMap (·.getD []))

/-- A late own tile (R363): with the last tile of its chunk, the share goes to the ledger or is dropped. What was
declared absent is never late and never folded (R364). -/
def lateOwnTile (s : State) (d : TagDesc) (step tile : Nat) (v : List (BitVec 32)) : State :=
  if lateGone s d step then s
  else settleLate (s.withMangle (fun m => { m with lateOwn := m.lateOwn ++ [(d.tag, step, tile, v)] })) d step (tile / d.chunkTiles)

/-- The key under which a tag and a step are kept. -/
def partKey (tag step : Nat) : Nat := tag * 2 ^ 32 + step

/-- Whether a tile has been received from SHIP in an instance (R352), or lies beyond the bucket. -/
def tileSeen (s : State) (d : TagDesc) (step n : Nat) : Bool :=
  (tget s.mangle.shipped (partKey d.tag step) []).contains n || decide (d.tiles ≤ n)

/-- Notes that a tile has been received. -/
def noteTile (s : State) (d : TagDesc) (step n : Nat) : State :=
  s.withMangle (fun m => { m with
    shipped := tset m.shipped (partKey d.tag step) (n :: tget m.shipped (partKey d.tag step) []) })

/-- A tile handed to a live instance. -/
def shipTo (s0 : State) (c : Nat) (i : Inst) (d : TagDesc) (t : STile) : State :=
  let n := t.hdr.tile
  if tileSeen s0 d i.step n then tagUnknown s0 c d.tag
  else
    let s := noteTile s0 d i.step n
    if isRed d.op then
      let (v, ev) := shipElems d t
      let s1 := wireNum s d ev
      if i.ownLate then lateOwnTile s1 d i.step n v
      else putInst s1 { i with ownTiles := tset i.ownTiles n v }
    else
      let i1 := { i with ownBytes := tset i.ownBytes n t.img }
      serveChunk (putInst s i1) i1 d (n / d.chunkTiles)

/-- A tile of an instance that is closed (R337, R352, R363): a share of a reduction is late, and what a move of bytes
would have carried is discarded. -/
def shipClosed (s : State) (c : Nat) (d : TagDesc) (t : STile) : State :=
  let n := t.hdr.tile
  if tileSeen s d t.hdr.step n then tagUnknown s c d.tag
  else if isRed d.op then
    let (v, ev) := shipElems d t
    lateOwnTile (wireNum (noteTile s d t.hdr.step n) d ev) d t.hdr.step n v
  else noteTile s d t.hdr.step n

/-- The mangle takes a tile from SHIP of a core (R348, R350, R352). -/
def shipIn (s : State) (c : Nat) (t : STile) : State :=
  match (if t.hdr.tag = 0xFFFF then none else descOf s t.hdr.tag) with
  | none => tagUnknown s c t.hdr.tag
  | some d =>
    match findInst s d.tag t.hdr.step with
    | some i => shipTo s c i d t
    | none =>
      if wasClosed s d.tag t.hdr.step then shipClosed s c d t
      else match openInst s d t.hdr.step with
        | none => slotWait (s.withMangle (fun m => { m with waitShip := m.waitShip ++ [(c, t)] }))
        | some s1 => match findInst s1 d.tag t.hdr.step with
          | some i => shipTo s1 c i d t
          | none => s1

/-- Whether SHIP of a core stalls on a tile (R350, `MANGLE.CTRL.EN`, R538). -/
def shipStalls (s : State) (c : Nat) (t : STile) : Bool :=
  fenceStops s || s.mangle.waitShip.any (fun w => decide (w.1 = c)) ||
  (decide (t.hdr.tag ≠ 0) && !csrBit s O.mangleCtrl 0)

/-- The first input of SHIP with a tile queued. -/
def shipInput (s : State) (c : Nat) : Option (Nat × STile) :=
  (inputsOf s c 7 0).findSome? (fun p => (headTile s p.1).map (fun t => (p.1, t)))

/-- SHIP_TILE (R196, R348 to R352). A tile without a tag goes out of the core's port and not to the
mangle. -/
def execShipTile (c : Nat) (s : State) : Res :=
  .next (match shipInput s c with
    | none => s
    | some (e, t) =>
      if coreRuns s c = false ∨ shipStalls s c t then s
      else
        let s1 := consume (takeTile s e) c t
        if t.hdr.tag = 0 then s1 else shipIn s1 c t)

/-! ### Frames -/

/-- The segments of a chunk that `n` elements (records) from `lo` meet. -/
def segsMet (d : TagDesc) (i : Inst) (k lo n : Nat) : List Nat :=
  (List.range (segCount d i k)).filter (fun g => decide (g * segSize d i < lo + n) && decide (lo < (g + 1) * segSize d i))

/-- The zeros of the segments without a contribution, once a chunk has come whole and some segment of it has one
(R361). -/
def zeroSegs (s : State) (i : Inst) (d : TagDesc) (k : Nat) : State :=
  let segs := List.range (segCount d i k)
  if segs.all (fun g => tget i.got (gotKey k g) 0 = 2) then s
  else (segs.filter (fun g => tget i.got (gotKey k g) 0 = 2)).foldl (fun s g =>
    let n := min (segSize d i) (chunkLen d k - g * segSize d i)
    mangleWrite s d.tag (chunkAddr d k + 4 * (g * segSize d i)) (List.replicate (4 * n) 0#8)) s

/-- A gather-phase frame of an ALL_REDUCE (R361) or of tag 0xFFFF (R373). Of a chunk without any contribution nothing is
written. One that comes a second time, from a partner that serves a failed rank, goes on as the first did (R401). -/
def gatherPhase (s : State) (i : Inst) (d : TagDesc) (f : MFrame) : State :=
  let first := f.offset / offUnit d
  let n := match f.payload with
    | .recs r => r.length
    | .f32 v => v.length
    | _ => 0
  let segs := segsMet d i f.chunk first n
  let isNew := segs.any (fun g => (tget? i.got (gotKey f.chunk g)).isNone)
  let zero := decide (f.contrib + f.folded = 0)
  let i1 := { i with got := segs.foldl (fun t g => tset t (gotKey f.chunk g) (if zero then 2 else 1)) i.got }
  let whole := (List.range (segCount d i f.chunk)).all (fun g => (tget? i1.got (gotKey f.chunk g)).isSome)
  let i2 := { i1 with
    delivered := if whole then tset i1.delivered f.chunk 1 else i1.delivered
    outcomes := tset i1.outcomes f.chunk f.set.toNat }
  let s1 := putInst s i2
  let s2 := match f.payload with
    | .recs r => putRecords s1 i.step (f.chunk * d.chunkTiles + first) r
    | .f32 v =>
      let s2 := if zero then s1
        else mangleWrite s1 d.tag (chunkAddr d f.chunk + 4 * first) (v.flatMap (fun x => leBytes 4 x.toNat))
      if whole && isNew then zeroSegs s2 i2 d f.chunk else s2
    | _ => s1
  let s3 := (gatherNext s d i.step (laneSeg d first) (chunkOwner s d f.chunk)).foldl (fun s r =>
      sendFrame s r (.mangle { f with epoch := epochOf s })) s2
  if d.tag = 0xFFFF then statArrived s3 i.step else s3

/-- A frame for a live instance (R355, R365, R366, R401). -/
def frameTo (s : State) (i : Inst) (d : TagDesc) (f : MFrame) : State :=
  if f.epoch < i.epoch then lateDrop s 1
  else if isRed d.op then
    if f.outcome then gatherPhase s i d f
    else match takerOf s i d f with
      | none => latePartial s d f
      | some l =>
        let key := hopKey f.chunk (segOf d i f) f.rev l
        putInst s { i with hops := tset i.hops key { i.hop key with inp := some f } }
  else match f.payload with
    | .bytes b =>
      let g := f.offset / 16384
      if (tget? i.got (gotKey f.chunk g)).isSome then
        (passOn s d i.step f.chunk g).foldl (fun s r => sendFrame s r (.mangle { f with epoch := epochOf s }))
          (if beyondChunk d i f.chunk g then s else writeSegment s d i.step f.chunk f.offset b)
      else takeSegment s i d f.chunk g b (passOn s d i.step f.chunk g)
    | _ => s

/-- What a frame for a live instance writes here: a gathered segment, the chunk of a gather-phase frame, or a late partial
(R211, R336, R361, R366). -/
def frameWrites (s : State) (i : Inst) (d : TagDesc) (f : MFrame) : List (Nat × Nat) :=
  if f.epoch < i.epoch then []
  else match f.payload, isRed d.op with
    | .bytes b, false => segmentWrites s i d f.chunk (f.offset / 16384) b.length
    | .recs r, true =>
      if f.outcome then [(recAddr s i.step (f.chunk * d.chunkTiles + f.offset / offUnit d), 256 * r.length)] else []
    | _, true =>
      if f.outcome then [(chunkAddr d f.chunk, 4 * chunkLen d f.chunk)]
      else if (takerOf s i d f).isNone then predLateWrites s d f else []
    | _, false => []

/-- Takes a frame that writes the parts of memory in `ws`, or keeps it in its VC buffer with its credits held while one
of them is held, has no turn, or is a buffer that a running block reads (`pinned`; R211, R301, R311, R320). -/
def takeFrame (s : State) (d : TagDesc) (f : MFrame) (slots : Option (Nat × Nat)) (pinned : Bool) (ws : List (Nat × Nat))
    (take : State → State) : State :=
  let wait := s.withMangle (fun m => { m with waitFrames := m.waitFrames ++ [⟨f, slots⟩] })
  if pinned then wait
  else if !writesGo s d.tag ws then writesWait wait d.tag ws
  else take (freeHeld s f slots)

/-- A frame for a live instance, or one that waits. -/
def frameLive (s : State) (i : Inst) (d : TagDesc) (f : MFrame) (slots : Option (Nat × Nat)) : State :=
  takeFrame s d f slots (!isRed d.op && decide (i.epoch ≤ f.epoch) && !rackFree s d i.step) (frameWrites s i d f)
    (fun s => frameTo s i d f)

/-- A frame of a tag with the receive slots that it holds, tried for the first time or `again`: its instance opens where
needed (R348), or the frame stays in its VC buffer while no slot is free (R350, `MANGLE.CTRL.EN`). A late partial of a
closed instance is one that R366 decides. -/
def frameRx (s : State) (d : TagDesc) (f : MFrame) (slots : Option (Nat × Nat)) (again : Bool) : State :=
  match findInst s d.tag f.step with
  | some i => frameLive s i d f slots
  | none =>
    if wasClosed s d.tag f.step then
      (if isRed d.op ∧ f.outcome = false then takeFrame s d f slots false (predLateWrites s d f) (fun s => latePartial s d f)
       else freeHeld s f slots)
    else match openInst s d f.step with
      | none =>
        let s1 := s.withMangle (fun m => { m with waitFrames := m.waitFrames ++ [⟨f, slots⟩] })
        if again then s1 else slotWait s1
      | some s1 => match findInst s1 d.tag f.step with
        | some i => frameLive s1 i d f slots
        | none => freeHeld s1 f slots

/-- Starts the reception again, with nothing held: the fills of a spare (R404, R408), or a rebuild, whose updates are held for
its chunks in the same way (R383; log entry 99). -/
def restartFill (s : State) (r : FillRecv) : State :=
  let fresh : FillRecv := ⟨r.rank, r.rebuild, false, false, 0, [], none, [], [], none, []⟩
  let s0 : State := { s with mend := { s.mend with recv := some fresh } }
  if r.rebuild then sendMend s0 r.rank { mendHdr s0 9 r.rank 0 with part := 1 }
  else
    let s1 := raise (bump s0 O.mendCntRestart) 0x4004 0 3 8 r.rank
    match s.mend.table with
    | none => s1
    | some t =>
      let own := sendMend s1 ((memOf t r.rank).partner) { mendHdr s1 9 r.rank 0 with part := 0 }
      match (List.range t.ranks).find? (fun q => decide ((memOf t q).partner = r.rank)) with
      | some q => sendMend own q { mendHdr s1 9 q 0 with part := 1 }
      | none => own

/-- A completed FINAL chunk is handed to MEND_CORE, unless a spare, or the receiver of a rebuild, must wait for its state or
already holds that step's (R361, R383, R407). -/
def finalDone (s : State) (d : TagDesc) (f : MFrame) (l : List (Nat × MFrame)) : State :=
  let empty := l.all (fun x => decide (x.2.contrib + x.2.folded = 0))
  let zero := if empty then s else l.foldl (fun s x =>
    if x.2.contrib + x.2.folded = 0 then
      mangleWrite s d.tag (chunkAddr d f.chunk + 4 * x.2.offset) (List.replicate (4 * x.1) 0#8)
    else s) s
  let status := if f.outcome && f.set = 1#64 then 1 else if empty then 2 else if f.outcome then f.set.toNat else 0
  let tile := completionTile d f.step f.chunk status (leastOf (l.map (fun x => x.2.contrib)))
    (leastOf (l.map (fun x => x.2.folded)))
  let give (s : State) : State := giveCompletion s (d.f 11 23 16) (d.f 11 29 24) tile
  match s.mend.recv with
  | none => give zero
  | some r =>
    match r.chunks.find? (fun x => decide (x.2.1 = f.tag) && decide (x.2.2.1 = f.chunk)) with
      | some x => if x.2.2.2 < f.step then give zero else zero
      | none =>
        let r1 := { r with waitingFinals := r.waitingFinals ++ [(f.tag, f.chunk, f.step, tile)] }
        { zero with mend := { zero.mend with recv := some r1 } }

/-- The FINAL frames of a chunk (R361, R380, R402, R407, R408). -/
def finalRx (s : State) (d : TagDesc) (f : MFrame) : State :=
  match s.mend.recv with
  | some r =>
    if r.waitingFinals.any (fun w => decide (w.1 = f.tag) && decide (w.2.2.1 < f.step)) then restartFill s r
    else go s
  | none => go s
where
  /-- Takes one frame. -/
  go (s : State) : State :=
    let v := match f.payload with
      | .f32 v => v
      | _ => []
    let bare := { f with payload := .bytes [] }
    let s1 := if f.contrib + f.folded = 0 then s
      else mangleWrite s d.tag (chunkAddr d f.chunk + 4 * f.offset) (v.flatMap (fun x => leBytes 4 x.toNat))
    let same (x : Nat × MFrame) : Bool := decide (x.2.tag = f.tag) && decide (x.2.chunk = f.chunk) && decide (x.2.step = f.step)
    let l := (s1.mangle.finals.filter (fun x => same x && decide (x.2.offset ≠ f.offset))) ++ [(v.length, bare)]
    let s2 := s1.withMangle (fun m => { m with finals := m.finals.filter (fun x => !same x) })
    if (l.map (·.1)).sum = chunkLen d f.chunk then finalDone s2 d f l
    else s2.withMangle (fun m => { m with finals := m.finals ++ l })

/-- A FINAL frame with the receive slots that it holds: it waits while memory does not take its chunk (R301, R320). -/
def finalLive (s : State) (d : TagDesc) (f : MFrame) (slots : Option (Nat × Nat)) : State :=
  takeFrame s d f slots false [(chunkAddr d f.chunk, 4 * chunkLen d f.chunk)] (fun s => finalRx s d f)

/-- A frame of a tag that has waited is tried again. -/
def frameAgain (s : State) (w : WaitFrame) : State :=
  match descOf s w.frame.tag with
  | some d => if w.frame.final then finalLive s d w.frame w.slots else frameRx s d w.frame w.slots true
  | none => freeHeld s w.frame w.slots

/-- MANGLE_FRAME_RX (R355, R365, R366): a frame of an unknown tag is discarded. -/
def execMangleFrameRx (f : MFrame) (s : State) : Res :=
  let (s1, slots) := takeInbox s (.mangle f)
  .next (match descOf s f.tag with
    | none => freeHeld s1 f slots
    | some d => if f.final then finalLive s1 d f slots else frameRx s1 d f slots false)

/-- FINAL_FRAME_RX (R361, R380). -/
def execFinalFrameRx (f : MFrame) (_src : Nat) (s : State) : Res :=
  let (s1, slots) := takeInbox s (.mangle f)
  .next (match descOf s f.tag with
    | some d => if f.final then finalLive s1 d f slots else s
    | none => freeHeld s1 f slots)

/-- The device begins its part in a move of bytes of a step (R337): its instance opens, or waits for a slot (R350). -/
def openPart (s : State) (tag step : Nat) : State :=
  match descOf s tag with
  | none => s
  | some d =>
    if (findInst s tag step).isNone ∧ wasClosed s tag step = false then
      (openInst s d step).getD (slotWait (s.withMangle (fun m => { m with waitParts := m.waitParts ++ [(tag, step)] })))
    else s

/-- Whether an instance that something waits for is open, is over, or would find a slot (R350). -/
def slotReady (s : State) (tag step : Nat) : Bool :=
  (findInst s tag step).isSome || wasClosed s tag step || (freeSlot s tag).isSome

/-- SLOT_FREE_OPEN (R350): the records that wait for their instance, then the oldest own part, tile or frame that
can go on, while instances may open. -/
def execSlotFreeOpen (s : State) : Res :=
  let part := s.mangle.waitParts.find? (fun p => slotReady s p.1 p.2)
  let ship := s.mangle.waitShip.find? (fun p => slotReady s p.2.hdr.tag p.2.hdr.step)
  let frame := s.mangle.waitFrames.find? (fun w => slotReady s w.frame.tag w.frame.step)
  .next (if mayOpen s = false then s
    else if s.pru.own ≠ [] ∧ slotReady s 0xFFFF s.pru.step then handRecords s
    else match part, ship, frame with
    | some p, _, _ => openPart (s.withMangle (fun m => { m with waitParts := m.waitParts.erase p })) p.1 p.2
    | none, some p, _ => shipIn (s.withMangle (fun m => { m with waitShip := m.waitShip.erase p })) p.1 p.2
    | none, none, some w => frameAgain (s.withMangle (fun m => { m with waitFrames := m.waitFrames.erase w })) w
    | none, none, none => s)

/-! ### Hops -/

/-- Acts on a hop of a live instance that is not done. -/
def atHop (s : State) (tag step k seg : Nat) (rev : Bool) (level : Nat) (f : Inst → TagDesc → HopPlan → State) : State :=
  match findInst s tag step, descOf s tag with
  | some i, some d =>
    if isRed d.op ∧ k < d.chunks ∧ seg < segCount d i k ∧ (rev = false ∨ i.checked) then
      match planOf s i d (hopKey k seg rev level) k seg rev level with
      | some p => if (i.hop (hopKey k seg rev level)).done then s else f i d p
      | none => s
    else s
  | _, _ => s

/-- The request of the hops of a tag to a stack: reads by the mangle feed a collective (Table 9 of *Memory tiers and weight
streaming*). -/
def hopReq (d : TagDesc) : HbmReq := ⟨.hops d.tag, 2⟩

/-- Performs a hop that has its inputs, once memory gives it what it reads and takes what it writes (R301, R317, R320);
its reads meet the errors there (R324). -/
def runHop (s : State) (i : Inst) (d : TagDesc) (p : HopPlan) (k seg : Nat) (rev : Bool) (level : Nat) : State :=
  let rs := (hopReads s i d p k).filter (fun r => mayAccess s 1 false r.1 r.2)
  let waits := rs.filter (fun r => !mayGo s (hopReq d) r.1 r.2)
  if hopReady s i d p k seg rev level = false then s
  else if waits ≠ [] then waits.foldl (fun s r => waitFor s (hopReq d) r.1 r.2) s
  else if !writesGo s d.tag (hopWrites s i d p k) then writesWait s d.tag (hopWrites s i d p k)
  else performHop (rs.foldl (fun s r => readMeets (goOn s (hopReq d) r.1 r.2) r.1 r.2) s) i d p k seg rev level

/-- HOP (R359, R370, R371). -/
def execHop (tag step k seg : Nat) (rev : Bool) (level : Nat) (s : State) : Res :=
  .next (atHop s tag step k seg rev level (fun i d p =>
    runHop s i d p k seg rev level))

/-- The skips of an expired wait (R359, R363). -/
def expireHop (s : State) (i : Inst) (d : TagDesc) (p : HopPlan) (k seg : Nat) (rev : Bool) (level : Nat) : State :=
  let key := hopKey k seg rev level
  let h := i.hop key
  let ownMissing := needOwn s i p && !i.hasOwn d k
  let inMissing := p.needIn && h.inp.isNone && !h.inSkipped
  let i1 := if ownMissing then { i with ownLate := true } else i
  let i2 := if inMissing then { i1 with hops := tset i1.hops key { h with inSkipped := true } } else i1
  let s1 := putInst s i2
  let s2 := if ownMissing then skip s1 0 (selfRank s) d.tag i.step else s1
  let s3 := if inMissing then skip s2 1 p.pred d.tag i.step else s2
  runHop s3 i2 d p k seg rev level

/-- HOP_WAIT_EXPIRE (R360, R363): the timer of a hop with an incoming partial has started once its first
input is present. -/
def execHopWaitExpire (tag step k seg : Nat) (rev : Bool) (level : Nat) (s : State) : Res :=
  .next (atHop s tag step k seg rev level (fun i d p =>
    let h := i.hop (hopKey k seg rev level)
    let started := !p.needIn || h.inp.isSome || (p.own && i.hasOwn d k) ||
      p.prev.any (fun l => (i.hop (hopKey k seg rev l)).done)
    if started && !hopReady s i d p k seg rev level then expireHop s i d p k seg rev level else s))

/-- LATE_CONTRIBUTION (R366, R371): a partial that no hop of this device takes any more. -/
def execLateContribution (f : MFrame) (s : State) : Res :=
  let (s1, slots) := takeInbox s (.mangle f)
  let late (d : TagDesc) : State := takeFrame s1 d f slots false (predLateWrites s d f) (fun s => latePartial s d f)
  .next (match descOf s f.tag, findInst s f.tag f.step with
    | some d, some i =>
      if isRed d.op ∧ f.final = false ∧ f.outcome = false ∧ i.epoch ≤ f.epoch ∧ takerOf s i d f = none then late d else s
    | some d, none =>
      if isRed d.op ∧ f.final = false ∧ f.outcome = false ∧ wasClosed s f.tag f.step then late d else s
    | none, _ => s)

/-- The memory that the delivery of a chunk writes: its records, or its place in `DST` (R361). -/
def deliverWrites (s : State) (d : TagDesc) (step k : Nat) : List (Nat × Nat) :=
  if d.tag = 0xFFFF then [(recAddr s step (k * d.chunkTiles), 256 * chunkLen d k)] else [(chunkAddr d k, 4 * chunkLen d k)]

/-- Delivers a chunk once memory takes it (R301, R320). -/
def deliverHeld (s : State) (i : Inst) (d : TagDesc) (k outcome : Nat) (sums : List SegSum) : State :=
  let ws := deliverWrites s d i.step k
  if writesGo s d.tag ws then
    deliverChunk (if outcome = 3 ∧ tget? i.outcomes k ≠ some 3 then bump s O.mangleCntVoid else s) i d k outcome sums
  else writesWait s d.tag ws

/-- FINAL_HOP_DELIVER (R361, R372, R373). -/
def execFinalHopDeliver (tag step k : Nat) (s : State) : Res :=
  .next (match findInst s tag step, descOf s tag with
    | some i, some d =>
      if isRed d.op = false ∨ d.chunks ≤ k ∨ serves s step (chunkOwner s d k) = false ∨ (tget? i.delivered k).isSome then s
      else
        match finalSums s i d k false with
        | none => s
        | some fwd =>
          if !i.checked then deliverHeld s i d k 0 fwd
          else if tget? i.outcomes k = some 3 then deliverHeld s i d k 3 fwd
          else
            match finalSums s i d k true with
            | some bwd => deliverHeld s i d k (checkOutcome fwd bwd) fwd
            | none => s
    | _, _ => s)

/-- REVERSE_WAIT_EXPIRE (R372): the outcome is VOID. -/
def execReverseWaitExpire (tag step k : Nat) (s : State) : Res :=
  .next (match findInst s tag step, descOf s tag with
    | some i, some d =>
      if isRed d.op ∧ k < d.chunks ∧ i.checked ∧ serves s step (chunkOwner s d k) ∧ (tget? i.delivered k).isNone ∧
          (tget? i.outcomes k).isNone ∧ (finalSums s i d k false).isSome ∧ (finalSums s i d k true).isNone then
        bump (putInst s { i with outcomes := tset i.outcomes k 3 }) O.mangleCntVoid
      else s
    | _, _ => s)

/-- Whether a frame of an instance of this device has not been acknowledged on its link (R337, R436). -/
def frameOut (s : State) (i : Inst) : Bool :=
  let mine (f : LinkFrame) : Bool := decide (f.src = selfRank s) && (match f.body with
    | .mangle m => decide (m.tag = i.tag) && decide (m.step = i.step)
    | _ => false)
  s.links.any (fun e => e.2.unacked.any (fun u => mine u.frame) || e.2.txq.any (fun q => mine q.frame))

/-- Whether the data of a SEND, or of a BROADCAST on its root, has left (R337); another instance has none to send of its
own. -/
def hasLeft (s : State) (i : Inst) (d : TagDesc) : Bool :=
  !(decide (d.op = 5) || (decide (d.op = 4) && decide (d.peer = selfRank s))) || (!i.lostOut && !frameOut s i)

/-- Whether an instance has nothing left to do on this device (R374). -/
def instDone (s : State) (i : Inst) (d : TagDesc) : Bool :=
  if isRed d.op then
    (List.range d.chunks).all (fun k =>
      (List.range (segCount d i k)).all (fun g =>
        (if i.checked then [false, true] else [false]).all (fun rev =>
          hopLevels.all (fun l => (planOf s i d (hopKey k g rev l) k g rev l).isNone || (i.hop (hopKey k g rev l)).done))) &&
      (!(serves s i.step (chunkOwner s d k) || d.op = 3) || (tget? i.delivered k).isSome))
  else bytesComplete d i && hasLeft s i d

/-- INSTANCE_CLOSE (R374). -/
def execInstanceClose (tag step : Nat) (s : State) : Res :=
  .next (match findInst s tag step, descOf s tag with
    | some i, some d => if instDone s i d then freeInst s i else s
    | _, _ => s)

/-- COLL_TIMEOUT (R337). -/
def execCollTimeout (tag step : Nat) (s : State) : Res :=
  .next (match findInst s tag step, descOf s tag with
    | some i, some d =>
      if (d.op = 4 ∨ d.op = 5 ∨ d.op = 6) ∧ instDone s i d = false then
        dropMicroBatch (raise (bump (freeInst s i) O.mangleCntTimeout) 0x3003 3 1 9 tag)
      else s
    | _, _ => s)

/-! ### Descriptors -/

/-- Whether the descriptor window and the group registers take a write (R353). -/
def tagsOpen (s : State) : Bool := s.dev = .idle || s.dev = .quiesced

/-- TAG_STAGE_WRITE (R353, R644): a WCP write to the window; refused outside IDLE and QUIESCED. -/
def execTagStageWrite (word : Nat) (v : BitVec 32) (s : State) : Res :=
  .next (if tagsOpen s ∧ word < 16 then writeTagWord s word v else s)

/-- TAG_INSTALL (R346, R644): a write of 1 to `VALID` with the rest of word 0 as it is staged. -/
def execTagInstall (s : State) : Res :=
  let n := csrBits s O.mangleTagSel 11 0
  .next (if tagsOpen s then installTag s n else s)

/-- The device begins its part in a move of bytes when a station program issues a descriptor with the
tag (R337). -/
def beginPart (s : State) (tag : Nat) : State :=
  match (if tag = 0 ∨ tag = 0xFFFF then none else descOf s tag) with
  | none => s
  | some d => if d.op = 6 ∨ (d.op = 4 ∧ d.peer ≠ selfRank s) then openPart s tag s.step else s

/-- Frames, own chunks and late shares that waited for a pinned buffer or for memory are tried again (R211, R301, R311). -/
def retryFrames (s : State) : State :=
  let s1 := s.mangle.waitFrames.foldl frameAgain (s.withMangle (fun m => { m with waitFrames := [] }))
  let s2 := s1.mangle.waitServe.foldl (fun s w => match findInst s w.1 w.2.1, descOf s w.1 with
    | some i, some d => serveChunk s i d w.2.2
    | _, _ => s) (s1.withMangle (fun m => { m with waitServe := [] }))
  ((s2.mangle.lateOwn.map (fun x => (x.1, x.2.1, x.2.2.1))).eraseDups).foldl (fun s x => match descOf s x.1 with
    | some d => settleLate s d x.2.1 (x.2.2 / d.chunkTiles)
    | none => s) s2

end Sys2Proof.Machine
end

