-- ==== Sys2Proof/Machine/WcpOps.lean ====
section
/-! DEFINITION. WCP requests from their receipt to their response (R482 to R495): sessions, duplicates,
the queue, background commands and completions. -/

namespace Sys2Proof.Machine

/-- An open session. -/
def findSession (s : State) (id : Nat) : Option Session := s.wcp.sessions.find? (fun x => decide (x.id = id))

/-- Changes WCP. -/
def State.withWcp (s : State) (f : WcpSt → WcpSt) : State := { s with wcp := f s.wcp }

/-- Changes an open session. -/
def setSession (s : State) (x : Session) : State :=
  s.withWcp (fun w => { w with sessions := w.sessions.map (fun y => if y.id = x.id then x else y) })

/-- Status codes (Table 5 of *Ethernet ports and the command set*). -/
def stOk : Nat := 0
/-- IN_PROGRESS. -/
def stInProgress : Nat := 1
/-- BUSY. -/
def stBusy : Nat := 2
/-- BAD_STATE. -/
def stBadState : Nat := 3
/-- DENIED. -/
def stDenied : Nat := 4
/-- MALFORMED. -/
def stMalformed : Nat := 5
/-- UNKNOWN_OPCODE. -/
def stUnknownOpcode : Nat := 6
/-- RANGE. -/
def stRange : Nat := 7
/-- REFUSED. -/
def stRefused : Nat := 8
/-- AUTH. -/
def stAuth : Nat := 9
/-- QUEUE_FULL. -/
def stQueueFull : Nat := 10
/-- MEM_ERROR. -/
def stMemError : Nat := 11
/-- NOT_KEEPER. -/
def stNotKeeper : Nat := 12
/-- NO_RESOURCE. -/
def stNoResource : Nat := 13
/-- INCOMPATIBLE. -/
def stIncompatible : Nat := 14

/-- Sends the response to a request and holds it among the last 64 of its session (R484, R492); nothing is
sent once the session has closed. -/
def respond (s : State) (r : Request) (status : Nat) (detail : Nat := 0) (body : List Byte := []) : State :=
  if r.session = 0 then s.emit (.resp r.bind 0 r.seq r.opcode status detail body)
  else match findSession s r.session with
  | some x => (setSession s { x with cache := (⟨r.seq, r.opcode, status, detail, body⟩ :: x.cache).take 64 }).emit
      (.resp x.bind x.id r.seq r.opcode status detail body)
  | none => s

/-- The COMPLETION notification of a background command, to every session that takes notifications (R490,
R497). -/
def completion (s : State) (r : Request) (status detail : Nat) : State :=
  notifyAll s 0x0A01 (leBytes 2 r.opcode ++ leBytes 2 status ++ leBytes 4 detail ++ leBytes 8 r.seq)

/-- The running background command of an opcode. -/
def runningBg (s : State) (op : Nat) : Option Running := s.wcp.running.find? (fun r => decide (r.req.opcode = op))

/-- Starts a background command: IN_PROGRESS is answered. -/
def startBg (s : State) (r : Request) (a b c : Nat) : State :=
  (respond s r stInProgress).withWcp (fun w => { w with running := w.running ++ [⟨r, a, b, c⟩] })

/-- A command whose response waits. -/
def deferResp (s : State) (r : Request) (a b c : Nat) : State :=
  s.withWcp (fun w => { w with running := w.running ++ [⟨r, a, b, c⟩] })

/-- Forgets a running command. -/
def dropRunning (s : State) (x : Running) : State := s.withWcp (fun w => { w with running := w.running.erase x })

/-- Ends a background command with its COMPLETION. -/
def endBg (s : State) (op status detail : Nat) : State :=
  match runningBg s op with
  | none => s
  | some x => completion (dropRunning s x) x.req status detail

/-- Ends a command whose response waited. -/
def endDeferred (s : State) (x : Running) (status detail : Nat) (body : List Byte := []) : State :=
  respond (dropRunning s x) x.req status detail body

/-! ### Receipt -/

/-- Closes a session (R488), whose latches go with it (R38): cause 0 CLOSE, 1 idle time, 3 `SEQ` (log entry 31). -/
def closeSession (s : State) (id cause : Nat) : State :=
  match findSession s id with
  | none => s
  | some x =>
    raise ((dropLatches s (sessionReader x.slot)).withWcp (fun w => { w with
      sessions := w.sessions.filter (fun y => decide (y.id ≠ id))
      queue := w.queue.filter (fun r => decide (r.session ≠ id)) })) 0x6004 0 3 6 x.bind.port [cause]

/-- A duplicate (R484): the cached response is sent again, if it is held. -/
def duplicate (s : State) (x : Session) (seq : Nat) : State :=
  let s1 := bump s O.ethCntDup
  match x.cache.find? (fun c => decide (c.seq = seq)) with
  | some c => s1.emit (.resp x.bind x.id c.seq c.opcode c.status c.detail c.body)
  | none => s1

/-- Whether an opcode is one of HELLO, CERTS and OPEN, which carry no session (R482). -/
def sessionless (op : Nat) : Bool := 1 ≤ op && op ≤ 3

/-- The commands of a group that Table 7 lists: as many as it numbers from 1 on. -/
def groupCommands : Nat → Nat
  | 0 => 8 | 1 => 4 | 2 => 5 | 3 => 3 | 4 => 8 | 5 => 3 | 6 => 5 | 7 => 4 | 8 => 4 | 9 => 3 | _ => 0

/-- Whether Table 7 lists an opcode (R492). -/
def knownOpcode (op : Nat) : Bool := decide (1 ≤ op % 256) && decide (op % 256 ≤ groupCommands (op / 256))

/-- Receives a request (R482, R484, R485, R488, R489, R492): it joins the queue, or is discarded, answered from
the cache, or answered QUEUE_FULL or UNKNOWN_OPCODE; `fits` says whether its datagrams are sound, else it is answered
MALFORMED (log entry 104). -/
def takeRequestIf (fits : Bool) (s : State) (r : Request) : State :=
  let full := decide (32 ≤ s.wcp.queue.length)
  let join (s : State) : State :=
    if fits = false then respond s r stMalformed
    else if r.session ≠ 0 ∧ knownOpcode r.opcode = false then respond s r stUnknownOpcode
    else s.withWcp (fun w => { w with queue := w.queue ++ [r] })
  if r.session = 0 then
    (if sessionless r.opcode = false then bump s O.ethCntBadTag
     else if full then s.emit (.resp r.bind 0 r.seq r.opcode stQueueFull 0 [])
     else join s)
  else
    match findSession s r.session with
    | none => bump s O.ethCntBadTag
    | some x0 =>
      let x := { x0 with bind := r.bind }
      let s1 := setSession s x
      if 2 ^ 63 < r.seq then closeSession s1 x.id 3
      else if x.accepted.contains r.seq then duplicate s1 x r.seq
      else if r.seq + 64 ≤ x.highest then s1
      else if full then s1.emit (.resp x.bind x.id r.seq r.opcode stQueueFull 0 [])
      else
        join (setSession s1 { x with highest := max x.highest r.seq, accepted := r.seq :: x.accepted })

/-- Receives a request whose datagrams are sound. -/
def takeRequest (s : State) (r : Request) : State := takeRequestIf true s r

/-- Whether a request is of the register group. -/
def regGroup (r : Request) : Bool := r.opcode / 256 = 5

/-- The request that executes next (R489): queued register commands first, each set in order. -/
def nextRequest (s : State) : Option Request :=
  match s.wcp.queue.find? regGroup with
  | some r => some r
  | none => s.wcp.queue.head?

/-- Whether two requests are the same. -/
def sameReq (a b : Request) : Bool :=
  decide (a.session = b.session) && decide (a.seq = b.seq) && decide (a.opcode = b.opcode)

/-- Whether a session opened before the owner fuse was programmed may send a command (R592). `img` is
whether the image type concerned is 0x0010. -/
def unownedMay (op : Nat) (img : Bool) : Bool :=
  op / 256 = 0 || op = 0x0104 || (img && (op = 0x0101 || op = 0x0102 || op = 0x0103))

/-- Whether the session of a request is limited by R592. -/
def limited (s : State) (r : Request) : Bool := ((findSession s r.session).map (·.unowned)).getD false

/-- A command row of Table 7: the request is received unless it is queued already, and when it is next, it
leaves the queue and executes. `ok` says whether the state accepts it (R494, R495), `busy` whether a
running command makes it BUSY (R490). No command is accepted in BOOT, because no port is up. -/
def wcpRowWith (fail : State → Request → Nat → State) (q : WcpReq) (op : Nat) (img : Bool) (ok : State → Bool)
    (busy : State → Bool) (run : Request → State → State) (s : State) : State :=
  let r : Request := ⟨q.session, q.seq, op, q.bind⟩
  let s1 := if s.wcp.queue.any (sameReq r) then s else takeRequest s r
  match nextRequest s1 with
  | none => s1
  | some n =>
    if s.dev = .boot ∨ s.power.thermalOff then s
    else if sameReq n r = false then s1
    else
      let s2 := s1.withWcp (fun w => { w with queue := w.queue.erase n })
      if (limited s2 r && !unownedMay op img) || !ok s2 then fail s2 n stBadState
      else if busy s2 then fail s2 n stBusy
      else if !q.ok then fail s2 n stMalformed
      else run n (deepTrace s2)

/-- A command row whose failure is a response alone. -/
def wcpRow (q : WcpReq) (op : Nat) (img : Bool) (ok : State → Bool) (busy : State → Bool)
    (run : Request → State → State) (s : State) : State :=
  wcpRowWith (fun s r st => respond s r st) q op img ok busy run s

/-- The request of a WCP command to a stack. -/
def cmdReq (q : WcpReq) : HbmReq := ⟨.request q.session q.seq, 4⟩

/-- A command that the state accepts and whose memory does not answer or gives it no turn yet (`held`) waits in the queue
(R301, R317, R320, R322). -/
def holdRow (q : WcpReq) (op a n : Nat) (ok : State → Bool) (held : Bool) (run : State → State) (s : State) : State :=
  if held && ok s && decide (s.dev ≠ .boot) && !s.power.thermalOff then
    let r : Request := ⟨q.session, q.seq, op, q.bind⟩
    waitFor (if s.wcp.queue.any (sameReq r) then s else takeRequest s r) (cmdReq q) a n
  else run s

/-- Accepted in every state after BOOT. -/
def inAny (_ : State) : Bool := true

/-- Accepted in every state after BOOT other than FENCED. -/
def notFenced (s : State) : Bool := s.dev ≠ .fenced

/-- Accepted in a list of states. -/
def inStates (l : List DevState) (s : State) : Bool := l.contains s.dev

/-- Never BUSY. -/
def neverBusy (_ : State) : Bool := false

/-- BUSY while a command of a list of opcodes runs. -/
def busyWith (l : List Nat) (s : State) : Bool := l.any (fun op => (runningBg s op).isSome)

end Sys2Proof.Machine
end

