-- ==== Sys2Proof/Machine/EthOps.lean ====
section
/-! DEFINITION. Operations of the logical Ethernet ports: which exist, link state, addresses (R459 to
R473). -/

namespace Sys2Proof.Machine

/-- The logical port `p`. -/
def getPort (s : State) (p : Nat) : Port := tget s.ports p Port.reset

/-- Changes a logical port. -/
def setPort (s : State) (p : Nat) (x : Port) : State := { s with ports := tset s.ports p x }

/-- The mode of the Ethernet port that holds a logical port: A holds 0 to 3, B 4 to 7. -/
def portMode (s : State) (p : Nat) : Nat :=
  if p < 4 then csrBits s O.ethMode 1 0 else csrBits s O.ethMode 3 2

/-- Whether a logical port exists in its port's mode (Table 1). -/
def portPresent (s : State) (p : Nat) : Bool := decide (p < 8) && decide (p % 4 < 2 ^ portMode s p)

/-- `ETH.PSTATUS.SPEED`. -/
def portSpeed (s : State) (p : Nat) : Nat := if portPresent s p then 3 - portMode s p else 0

/-- Whether the Ethernet domain of a logical port runs, and no sag holds its link down (R572). -/
def portRuns (s : State) (p : Nat) : Bool := domRuns s (54 + p / 4) && decide (s.power.level < 6)

/-- Whether a logical port can send and receive. -/
def portUpNow (s : State) (p : Nat) : Bool := portPresent s p && (getPort s p).up

/-- Whether an egress queue of a port has a frame that may leave: a received XOFF does not hold it, which counts only while the
queue's `EN` is set (R469). -/
def egressReady (s : State) (p q : Nat) : Bool :=
  !(getEgress s p q).isEmpty && !((getPort s p).held.contains q && csrBit s (O.ethpPfc p) q)

/-- The queue that a port serves next (R465): Q0, then Q1, then Q2 and Q3 in round robin, then Q4 to Q7 in round robin. -/
def nextEgress (s : State) (p : Nat) : Option Nat :=
  let turn (qs : List Nat) (last : Nat) : List Nat := qs.filter (fun q => decide (last < q)) ++ qs.filter (fun q => decide (q ≤ last))
  ([0, 1] ++ turn [2, 3] (tget s.egressTurn (2 * p) 3) ++ turn [4, 5, 6, 7] (tget s.egressTurn (2 * p + 1) 7)).find?
    (egressReady s p)

/-- A port sends the next frame of its egress queues. -/
def serveEgress (s : State) (p : Nat) : State :=
  if portUpNow s p = false then s
  else match nextEgress s p with
    | none => s
    | some q => match getEgress s p q with
      | [] => s
      | e :: rest =>
        let s1 := setEgress s p q rest
        let s2 := if q < 2 then s1 else { s1 with egressTurn := tset s1.egressTurn (2 * p + b2n (decide (4 ≤ q))) q }
        leave s2 e

/-- A port sends all that waits in its egress queues, at most `n` frames. -/
def flushEgress (p : Nat) : Nat → State → State
  | 0, s => s
  | n + 1, s => flushEgress p n (serveEgress s p)

/-- A port sends all that waits in its egress queues. -/
def flushPort (s : State) (p : Nat) : State :=
  flushEgress p (((List.range 8).map (fun q => (getEgress s p q).length)).sum) s

/-- The identifier of a port's DHCP client, of option 61: the first 16 bytes of the identity digest and the port index
(R470). -/
def dhcpClient (p : Nat) : List Byte := (digestBytes Config.identity).take 16 ++ [BitVec.ofNat 8 p]

/-- Sends a DHCP message: 0 request, 1 release, 2 discover (R470; log entry 103). -/
def sendDhcp (s : State) (p kind : Nat) : State :=
  s.emit (.dhcp p kind (dhcpClient p) (if kind = 1 then [] else [1, 3, 51]))

/-- A logical port's link comes up; the DHCP client starts where R470 has it. -/
def portUp (s : State) (p : Nat) : State :=
  if portPresent s p = false ∨ portRuns s p = false ∨ s.dev = .boot ∨ (getPort s p).up then s
  else
    let s1 := raise (setPort s p { getPort s p with up := true }) 0x6001 0 3 6 p [p]
    if csrBit s1 O.ethCtrl 2 ∧ csrGet s1 (O.ethpIpv4Addr p) = 0 then sendDhcp s1 p 2 else s1

/-- A logical port's link goes down: frames in flight on it are lost (R461, R500). -/
def portDown (s : State) (p : Nat) : State :=
  if (getPort s p).up then
    let s1 := { s with egress := s.egress.filter (fun e => decide (e.1 / 8 ≠ p)) }
    raise (setPort s1 p { getPort s p with up := false, fill := [], xoff := [], held := [] }) 0x6002 0 3 6 p [p]
  else s

/-- Takes down the links of Ethernet port A (0) or B (1). -/
def sideDown (s : State) (side : Nat) : State :=
  (List.range 4).foldl (fun s i => portDown s (4 * side + i)) s

/-- A write to the mode of one Ethernet port: 3 has no effect; otherwise the port's links go down, to come up
in the new mode (R461). -/
def writeSideMode (s : State) (side m : Nat) : State :=
  if m = 3 then s else csrPutBits (sideDown s side) O.ethMode (2 * side + 1) (2 * side) m

/-- A write to `ETH.MODE`. -/
def writeEthMode (s : State) (v : Nat) : State :=
  writeSideMode (writeSideMode s 0 (bitsOf v 1 0)) 1 (bitsOf v 3 2)

/-- A change of a port's lease and of its address registers (R470). -/
def setLease (s : State) (p : Nat) (l : Option Lease) (addr plen gw : Nat) : State :=
  let s1 := setPort s p { getPort s p with lease := l }
  let s2 := csrPut (csrPutBits (csrPut s1 (O.ethpIpv4Addr p) addr) (O.ethpIpv4Plen p) 5 0 plen) (O.ethpIpv4Gw p) gw
  raise s2 0x6003 0 3 6 p

/-- A host write to `ETH.IPV4_ADDR` (R470): a non-zero address releases the lease and is static. -/
def writeIpv4 (s : State) (p v : Nat) : State :=
  if v ≠ 0 ∧ (getPort s p).lease.isSome then
    raise (csrPut (sendDhcp (setPort s p { getPort s p with lease := none }) p 1) (O.ethpIpv4Addr p) v) 0x6003 0 3 6 p
  else csrPut s (O.ethpIpv4Addr p) v

/-- The MAC address of a logical port: the base plus its index (R462). -/
def macOf (p : Nat) : Nat := (Config.macBase.toNat + p) % 2 ^ 48

/-- Octets of a MAC address from octet `i` on, the first in the lowest byte. -/
def macOctets (p i n : Nat) : Nat :=
  ofLe ((List.range n).map (fun k => BitVec.ofNat 8 (macOf p / 2 ^ (8 * (5 - i - k)))))

/-- The IPv6 link-local address of a logical port: bits [63:0] of SHAKE256 of the identity public key and the port index
(R471; log entry 34). -/
def linkLocal6 (p : Nat) : Nat :=
  0xFE80 * 2 ^ 112 + ofLe ((digestBytes (Config.shake256 (Config.identityKey ++ [BitVec.ofNat 8 p]))).take 8)

/-- The global IPv6 address of a logical port; zero for none. -/
def global6 (s : State) (p : Nat) : Nat :=
  ((List.range 4).map (fun i => csrGet s (O.ethpIpv6G p i) * 2 ^ (96 - 32 * i))).sum

/-- Whether an address is one of the port's own (R472). -/
def ownAddress (s : State) (p a : Nat) : Bool :=
  (a ≠ 0 && (a = csrGet s (O.ethpIpv4Addr p) || a = global6 s p)) || a = linkLocal6 p

/-- The queue of a PCP (R464). -/
def queueOf (s : State) (p pcp : Nat) : Nat := csrBits s (O.ethpPcpMap p) (4 * pcp + 2) (4 * pcp)

/-- Whether PFC is enabled on a queue; never on Q0. -/
def pfcOn (s : State) (p q : Nat) : Bool := decide (0 < q) && csrBit s (O.ethpPfc p) q

/-- Sends XOFF or XON for a queue (R469). -/
def sendPfc (s : State) (p q : Nat) (xoff : Bool) : State :=
  bump (s.emit (.pfc p q xoff)) (O.ethpPfcTx p)

/-- The fill of an ingress queue is now `n` bytes: XOFF above 75 %, XON below 50 % of 256 KiB (R469). -/
def setFill (s : State) (p q n : Nat) : State :=
  let x := getPort s p
  let s1 := setPort s p { x with fill := tset x.fill q n }
  if pfcOn s p q = false then setPort s1 p { getPort s1 p with xoff := x.xoff.filter (fun y => decide (y ≠ q)) }
  else if 196608 < n ∧ x.xoff.contains q = false then
    sendPfc (setPort s1 p { getPort s1 p with xoff := x.xoff ++ [q] }) p q true
  else if n < 131072 ∧ x.xoff.contains q ∧ (s.power.level = 0 ∨ q < 4) then
    sendPfc (setPort s1 p { getPort s1 p with xoff := x.xoff.erase q }) p q false
  else s1

end Sys2Proof.Machine
end

