-- ==== Sys2Proof/Machine/MendOps.lean ====
section
/-! DEFINITION. Operations of mending: `keeper_fail` (R395), notices and their adoption (R396 to R399,
R418), failure reports (R393, R394, R645), fills (R404 to R414). -/

namespace Sys2Proof.Machine

/-- Changes the mend state. -/
def State.withMend (s : State) (f : MendSt → MendSt) : State := { s with mend := f s.mend }

/-- The rank whose partner a rank is. -/
def heldBy (t : GroupT) (f : Nat) : Option Nat :=
  if t.ranks ≤ 1 then none else (List.range t.ranks).find? (fun q => decide ((memOf t q).partner = f))

/-- Changes a member entry. -/
def putMem (t : GroupT) (c : Change) : GroupT :=
  match t.members[c.idx]? with
  | some m => { t with members := t.members.set c.idx { m with st := c.st, copy := c.copy, link := c.link } }
  | none => t

/-- Stops class 1 (R418): threads halted, stations reset, mangle instances closed, with what waits to open one. -/
def stopClass1 (s : State) : State :=
  let s1 := (coresOfClass s 1).foldl (fun s c => resetStations (haltCore s c) c) s
  let s2 := s1.mangle.insts.foldl closeEarly s1
  let s3 := s2.mangle.waitFrames.foldl (fun s w => freeHeld s w.frame w.slots) s2
  s3.withMangle (fun m => { m with waitShip := [], waitParts := [], waitServe := [], waitFrames := [], lateOwn := [] })

/-! ### `keeper_fail` -/

/-- What `keeper_fail` decides: changes and events (`code`, rank). -/
structure Verdict where
  changes : List Change
  events : List (Nat × Nat)

/-- Records a change, in place of an earlier one of the same member. -/
def Verdict.put (v : Verdict) (c : Change) : Verdict :=
  { v with changes := if v.changes.any (fun x => decide (x.idx = c.idx)) then
      v.changes.map (fun x => if x.idx = c.idx then c else x) else v.changes ++ [c] }

/-- `set` of R395: state and link; `COPY` stays for a rank that has not lost its device's partner. -/
def Verdict.set (v : Verdict) (t : GroupT) (i : Nat) (st : MState) (link : Nat) : Verdict :=
  v.put ⟨i, st, (memOf t i).copy, link⟩

/-- `assign_spare` of R395. -/
def assignSpare (t : GroupT) (v : Verdict) (r : Nat) : Verdict :=
  match ((List.range t.spares).map (· + t.ranks)).find? (fun s =>
    decide ((memOf t s).st = .ready) && !v.changes.any (fun c => decide (c.idx = s))) with
  | none => { v with events := v.events ++ [(0x4003, r)] }
  | some s => (v.set t r .filling s).set t s .assigned r

/-- `keeper_fail` (R395); `none` where nothing is to be done. -/
def keeperFail (t : GroupT) (f : Nat) : Option Verdict :=
  let m := memOf t f
  let v0 : Verdict := ⟨[], []⟩
  if f < t.ranks then
    if m.st ≠ .live then none
    else match heldBy t f with
      | none => some (v0.set t f .lost 0)
      | some q =>
        let mq := memOf t q
        let v1 := if mq.st = .covered ∨ mq.st = .filling then v0.set t q .lost 0
          else v0.put ⟨q, mq.st, false, mq.link⟩
        if (memOf t m.partner).st ≠ .live ∨ m.copy = false then some (v1.set t f .lost 0)
        else some (assignSpare t (v1.set t f .covered 0) f)
  else if m.st = .gone then none
  else
    let v1 := if m.st = .assigned then
        let v := assignSpare t (v0.set t m.link .covered 0) m.link
        { v with events := v.events ++ [(0x4004, m.link)] }
      else v0
    some (v1.put ⟨f, .gone, false, 0⟩)

/-! ### Notices -/

/-- Sends a notice to a member. -/
def sendNotice (s : State) (dest : Nat) (n : Notice) : State :=
  sendMend s dest { mendHdr s 5 0 n.fromStep with epoch := n.epoch } (.notice n)

/-- Sends NOTICE_ACK for an epoch. -/
def ackNotice (s : State) (dest epoch : Nat) : State :=
  sendMend s dest { mendHdr s 6 0 0 with epoch := epoch }

/-- Whether a member still counts as not failed for R396 and R645. -/
def notFailed (t : GroupT) (r : Nat) : Bool :=
  let st := (memOf t r).st
  st = .live || st = .ready || st = .assigned

/-- Reports a copy to the keeper (R383, R395). -/
def reportCopy (s : State) (valid : Bool) : State :=
  match s.mend.table with
  | none => s
  | some t => match heldRank t with
    | none => s
    | some r => sendMend s t.keeper (mendHdr s 7 r s.step) (.bytes (leBytes 4 (b2n valid)))

/-- Begins the reception of a fill. -/
def freshRecv (rank : Nat) (rebuild : Bool) : FillRecv :=
  ⟨rank, rebuild, false, false, 0, [], none, [], [], none, []⟩

/-- The domains that a spare wakes (R404): those that the weave has on, and the clusters that it has in retention too, in
which they wait in STANDBY (R39; log entry 98). -/
def spareDomains (s : State) : List Nat :=
  ((((s.weave.map (·.power)).getD []).zipIdx).filter (fun p => decide (p.1 = 2) || (decide (p.2 < 32) && decide (p.1 ≠ 0)))).map (·.2)

/-- Step 2 of R397 for one change: a standby rank that becomes ASSIGNED. -/
def adoptAssigned (s : State) (c : Change) : State :=
  if c.st ≠ .assigned then s
  else
    let s1 := { s with routes := tset s.routes c.link (routeOf s c.idx) }
    match s1.mend.table with
    | none => s1
    | some t =>
      if t.self = c.idx then
        let s2 := s1.withMend (fun m => { m with
          table := some { t with self := c.link }, recv := some (freshRecv c.link false), waking := true
          spareOf := some c.idx })
        let racks := s2.gate.racks.map (fun e => (e.1, { e.2 with valid := false }))
        let s3 : State := announceIds { s2 with gate := { s2.gate with racks := racks } }
        (spareDomains s3).foldl (fun s d => setMgmt s d .on) s3
      else s1

/-- Steps 3 and 4 of R397 for one change, `t` being the table before it: instances skip a failed rank, and the events are raised. -/
def adoptState (t : GroupT) (s : State) (n : Notice) (c : Change) : State :=
  let ranks := (s.mend.table.map (·.ranks)).getD 0
  if c.idx ≥ ranks then s
  else
    match c.st with
    | .covered | .filling =>
      let s1 := s.mangle.insts.foldl (fun s i => failRankIn t s i c.idx) s
      notifyGroup (raise s1 0x4001 0 3 8 c.idx) 0x0A08
        (leBytes 2 c.idx ++ leBytes 2 (if c.st = .filling then c.link else 0xFFFF) ++ leBytes 4 n.epoch)
    | .lost => s.mangle.insts.foldl (fun s i => failRankIn t s i c.idx) s
    | _ => s

/-- A rank that becomes LIVE (R397, R411). -/
def adoptJoin (s : State) (old : GroupT) (n : Notice) (c : Change) : State :=
  if c.idx < old.ranks ∧ c.st = .live ∧ (memOf old c.idx).st ≠ .live then
    let s0 := s.withMend (fun m => { m with joins := (c.idx, n.fromStep) :: m.joins.filter (fun j => decide (j.1 ≠ c.idx)) })
    let was : State := { s0 with mend := { s0.mend with table := some old } }
    let s1 := (s0.mangle.insts.filter (fun i => decide (n.fromStep ≤ i.step))).foldl (fun s i => keepBegun was s i c.idx) s0
    notifyGroup (raise s1 0x4002 0 3 8 c.idx) 0x0A09
      (leBytes 2 c.idx ++ leBytes 2 0 ++ leBytes 4 n.fromStep ++ leBytes 4 n.epoch)
  else s

/-- SHARD_LOST (R397, R418). -/
def adoptLost (s : State) (n : Notice) : State :=
  if n.lost then
    let ranks := (s.mend.table.map (fun t => (List.range t.ranks).filter (fun r => decide ((memOf t r).st = .lost)))).getD []
    let s1 := raise (s.withMend (fun m => { m with lost := true })) 0x4006 3 1 8 (selfRank s)
    let s2 := notifyGroup s1 0x0A0B (leBytes 4 n.epoch ++ leBytes 4 ranks.length ++ ranks.flatMap (leBytes 2))
    let s3 : State := { stopClass1 s2 with inStep := false }
    if s3.dev = .running ∨ s3.dev = .standby then setDev s3 .quiesced else s3
  else s

/-- R399: a device that its table marks failed fences itself; a spare that is filled for its rank is not so marked while the
table links the rank to it. -/
def evict (s : State) : State :=
  match s.mend.table with
  | none => s
  | some t =>
    let m := memOf t t.self
    if m.st = .covered ∨ m.st = .lost ∨ m.st = .gone ∨ (m.st = .filling ∧ s.mend.spareOf ≠ some m.link) then
      raise s 0x4007 4 3 8 t.self
    else s

/-- Answers the MARK_FAILED requests whose member the table no longer shows LIVE, READY or ASSIGNED (R645). -/
def settleMarks (s : State) : State :=
  match s.mend.table with
  | none => s
  | some t =>
    let ready := s.mend.marks.filter (fun m => !notFailed t m.1)
    let s1 := s.withMend (fun m => { m with marks := m.marks.filter (fun x => notFailed t x.1) })
    ready.foldl (fun s m =>
      match s.wcp.running.find? (fun x => decide (x.req.opcode = 0x0602) && decide (x.req.session = m.2.1) &&
          decide (x.req.seq = m.2.2)) with
      | some x => endDeferred s x stOk 0
      | none => s) s1

/-- Writes a list of changes into the table, with the epoch and the keeper that follows from them (R389). -/
def applyChanges (t : GroupT) (epoch : Nat) (cs : List Change) (keeper : Nat) : GroupT :=
  let t1 := cs.foldl putMem t
  let k := ((List.range t1.ranks).find? (fun r => decide ((memOf t1 r).st = .live))).getD keeper
  { t1 with epoch := epoch, keeper := k }

/-- Adopts a notice (R396 to R399, R411, R416). -/
def adoptNotice (s : State) (n : Notice) (cs : List Change) : State :=
  match s.mend.table with
  | none => s
  | some t =>
    let t1 := applyChanges t n.epoch cs n.keeper
    let s1 := bump (s.withMend (fun m => { m with
      table := some t1
      adopted := n :: m.adopted, before := some ⟨t, s.mend.joins, s.routes⟩
      srcs := m.srcs.filter (fun x =>
        let y := memOf t1 x.target
        if x.role = 3 then y.st = .live else y.st = .live || (decide (y.st = .filling) && decide (y.link = x.spare)))
      stopped := m.stopped && !(decide (t1.keeper = t1.self) && decide (t.epoch < n.epoch)) })) O.groupCntNotice
    let s2 := cs.foldl adoptAssigned s1
    let s3 := (cs.foldl (fun (x : State × GroupT) c => (adoptJoin (adoptState x.2 x.1 n c) t n c, putMem x.2 c)) (s2, t)).1
    let s4 := evict (adoptLost s3 n)
    let copyOk := ((heldRank t1).map (fun r => (memOf t1 r).copy)).getD true
    let s5 := if t1.keeper ≠ t.keeper ∧ t1.keeper ≠ t1.self then reportCopy s4 copyOk else s4
    settleMarks s5

/-- Adopts the notices that were held and have become next (R396). -/
def adoptHeld : Nat → State → State
  | 0, s => s
  | fuel + 1, s =>
    match s.mend.table with
    | none => s
    | some t => match s.mend.held.find? (fun n => decide (n.epoch = t.epoch + 1)) with
      | none => s
      | some n =>
        let s1 := adoptNotice (s.withMend (fun m => { m with held := m.held.erase n })) n n.changes
        adoptHeld fuel (ackNotice s1 n.keeper n.epoch)

/-- Issues a notice (R396): the keeper adopts it and sends it to every other member. -/
def issueNotice (s : State) (v : Verdict) (fromStep : Nat) : State :=
  match s.mend.table with
  | none => s
  | some t =>
    if s.mend.stopped ∨ v.changes.isEmpty then s
    else
      let n : Notice := ⟨t.epoch + 1, t.self, fromStep, v.changes.any (fun c => decide (c.st = .lost)), v.changes⟩
      let s1 := v.events.foldl (fun s e =>
        let s0 := if e.1 = 0x4004 then bump s O.mendCntRestart else s
        let s1 := raise s0 e.1 0 3 8 e.2
        if e.1 = 0x4003 then notifyGroup s1 0x0A0A (leBytes 2 e.2 ++ leBytes 2 0 ++ leBytes 4 n.epoch) else s1) s
      let t1 := applyChanges t n.epoch v.changes t.self
      let dests := (List.range t1.members.length).filter (fun r => decide (r ≠ t.self) &&
        (notFailed t1 r || decide ((memOf t1 r).st = .covered) || decide ((memOf t1 r).st = .filling)))
      let s2 := adoptNotice s1 n n.changes
      let s3 := s2.withMend (fun m => { m with unacked := m.unacked ++ (dests.filter (notFailed t1)).map (fun d => (d, n)) })
      dests.foldl (fun s d => sendNotice s d n) s3

/-- Runs `keeper_fail` for a member. -/
def runKeeperFail (s : State) (f : Nat) : State :=
  match s.mend.table.bind (fun t => keeperFail t f) with
  | some v => issueNotice s v 0
  | none => s

/-- Assigns a READY spare to the lowest COVERED rank (R419). -/
def coverAssign (s : State) : State :=
  match s.mend.table with
  | none => s
  | some t => match (List.range t.ranks).find? (fun r => decide ((memOf t r).st = .covered)) with
    | none => s
    | some r =>
      let v := assignSpare t ⟨[], []⟩ r
      if v.changes.isEmpty then s else issueNotice s v 0

/-! ### Fills -/

/-- The chunks of a rank's shard state, by tag and index: those of the installed reductions that it owns. -/
def ownedChunks (s : State) (r : Nat) : List (Nat × Nat) :=
  ((installed s).filter (fun e => isRed e.2.op)).flatMap (fun e =>
    ((List.range e.2.chunks).filter (fun k => decide (chunkOwner s e.2 k = r))).map (fun k => (e.2.tag, k)))

/-- Whether the shard state of a tag's chunks holds a weight residual: the forward entry of its layer has `EF` set
(R189, R288). -/
def holdsResidual (s : State) (tag : Nat) : Bool :=
  match (installed s).find? (fun e => decide (e.2.tag = tag)) with
  | some e =>
    let l := (tget s.pru.active e.2.entry RuleEntry.zero).layer
    e.2.hasEntry && s.pru.active.any (fun x => x.2.valid && decide (x.2.pass = 0) && decide (x.2.layer = l) && x.2.ef)
  | none => false

/-- The bytes of a chunk's shard state (R288, Table 10 of *The station control core*): the update record, the arrays W, M
and V, and with `EF` the array E, each from a 64-byte boundary. -/
def chunkBytes (s : State) (tag chunk : Nat) : Nat :=
  match (installed s).find? (fun e => decide (e.2.tag = tag)) with
  | some e => 64 + (3 + b2n (holdsResidual s tag)) * secLen (4 * (e.2.tilesOf chunk).length * e.2.elems)
  | none => 64

/-- The step number of a chunk's last update, from its update record in an area (R378, Table 10 of *The station control
core*). -/
def chunkStep (s : State) (base : Nat) (c : Nat × Nat) : Nat := memNum s.mem (base + Config.chunkOffset c.1 c.2) 4

/-- The lowest step number over the chunks of the copy held (R381). -/
def copyStep (s : State) : Nat :=
  match s.mend.table with
  | none => 0
  | some t => match heldRank t with
    | none => 0
    | some q => leastOf ((ownedChunks s q).map (chunkStep s t.copyBase))

/-- A 32-bit word in little-endian bytes. -/
def le32 (v : Nat) : List Byte := leBytes 4 v

/-- The payload of FILL_META (R413). -/
def metaBytes (s : State) : List Byte :=
  le32 (csrGet s O.groupSeed) ++ le32 s.pru.step ++ le32 (epochOf s) ++ le32 0 ++
  le32 (csrGet s O.pruCtrl) ++ le32 (csrGet s O.pruBudget) ++ le32 (csrGet s O.pruAlarmSteps) ++
  le32 (csrGet s O.pruSpotRate) ++ List.replicate 32 0#8 ++
  (List.range 4096).flatMap (fun n => (tget s.pru.active n RuleEntry.zero).w.flatMap (fun x => le32 x.toNat)) ++
  (List.range 4096).flatMap (fun n =>
    let r := tget s.pru.rstate n RuleState.zero
    le32 (r.wstreak + r.nstreak * 16 + r.run * 256)) ++
  (List.range 4096).flatMap (fun n =>
    match (installed s)[n]? with
    | some (_, d) => le32 (d.tag + d.eG * 65536 + d.f 13 15 8 * 2 ^ 24)
    | none => le32 0)

/-- Sends a run of FILL_META frames (R414), which counts in the bytes of the own-part stream to its receiver (R422). -/
def sendMeta (s0 : State) (dest : Nat) : State :=
  let b := metaBytes s0
  let s := s0.withMend (fun m => { m with srcs := m.srcs.map (fun x =>
    if x.role = 1 ∧ x.target = dest then { x with bytes := x.bytes + b.length } else x) })
  (List.range ((b.length + 16383) / 16384)).foldl (fun s i =>
    sendMend s dest { mendHdr s 0xA dest s.pru.step with offset := i * 16384 } (.bytes (slice b (i * 16384) 16384))) s

/-- Sends the two requests of a spare (R404). -/
def sendFillReqs (s : State) (f : Nat) : State :=
  match s.mend.table with
  | none => s
  | some t =>
    let s1 := sendMend s (memOf t f).partner { mendHdr s 9 f 0 with part := 0 }
    match heldBy t f with
    | some q => sendMend s1 q { mendHdr s1 9 q 0 with part := 1 }
    | none => s1

/-- Installs a FILL_META payload whole (R193, R413). DESIGN CHOICE (log entry 83): the rule-table digest is computed anew
over the installed table, as after a publication (R174). A payload that comes after another (`again`) may change the
variant of a layer, which marks its residuals (R190; log entry 83). -/
def installMeta (s : State) (m : Memory) (again : Bool) : State :=
  let w (o : Nat) : Nat := memNum m o 4
  let s1 := csrPut (csrPut (csrPut (csrPut (csrPut s O.groupSeed (w 0)) O.pruCtrl (w 0x10)) O.pruBudget (w 0x14))
    O.pruAlarmSteps (w 0x18)) O.pruSpotRate (w 0x1C)
  let entry (n : Nat) : RuleEntry := ⟨(List.range 16).map (fun i => BitVec.ofNat 32 (w (0x40 + 64 * n + 4 * i)))⟩
  let es := ((List.range 4096).map (fun n => (n, entry n))).filter (fun e => decide (e.2 ≠ RuleEntry.zero))
  let rs := ((List.range 4096).map (fun n =>
    let v := w (0x40040 + 4 * n)
    (n, (⟨bitsOf v 3 0, bitsOf v 7 4, bitsOf v 15 8⟩ : RuleState)))).filter (fun e => decide (e.2 ≠ RuleState.zero))
  let tags := (List.range 4096).map (fun n => w (0x44040 + 4 * n))
  let upd (e : Nat × TagDesc) : Nat × TagDesc :=
    match tags.find? (fun v => decide (v % 65536 = e.2.tag)) with
    | some v => (e.1, (e.2.put 13 7 0 (bitsOf v 23 16)).put 13 15 8 (bitsOf v 31 24))
    | none => e
  let s2 := { s1 with
    pru := { s1.pru with active := es, rstate := rs
                         variants := es.map (fun e => (e.1, e.2.cur)), layerVar := layerVariants es }
    mangle := { s1.mangle with desc := s1.mangle.desc.map (fun e => if e.2.valid then upd e else e) } }
  let s3 := if again then markLayers s2 (variantsMoved s.pru.layerVar es) else s2
  csrPut s3 O.pruDigest (ruleDigest es).toNat

/-- Whether the updates of a step have been applied to every chunk of this device's state and of the copy it holds
(R382, R412). -/
def updatesDone (s : State) (g : GroupT) (t : Nat) : Bool :=
  let here (base r : Nat) : Bool := (ownedChunks s r).all (fun c => decide (t ≤ chunkStep s base c))
  here g.shardBase g.self && (match heldRank g with
    | some q => here g.copyBase q
    | none => true)

/-- Makes `n` bytes at `a` zero. -/
def zeroArea (s : State) (a n : Nat) : State := if n = 0 then s else loseMem (dropLines s (a / 64) ((a + n - 1) / 64)) a n

/-- The hop residuals and the fold area of a descriptor start at zero (R412). -/
def zeroHops (s : State) (e : Nat × TagDesc) : State :=
  let cfg := grpCfg s e.2.group
  let s1 := if isRed e.2.op && grpW8 cfg then zeroArea s e.2.resid (e.2.tiles * e.2.elems * 4) else s
  if isRed e.2.op && grpFold cfg then zeroArea s1 e.2.fold (e.2.foldBytes cfg) else s1

/-- A spare that holds the FILL_META of the boundary before its first step and has applied every update of the steps below
leaves STANDBY and starts with that step: its hop residuals, fold areas and mangle keys at zero, its class-1 threads at
their entry points (R252, R412). -/
def spareEnter (s : State) : State :=
  match s.mend.table, s.mend.recv with
  | some t, some r =>
    match s.mend.joins.find? (fun j => decide (j.1 = t.self)) with
    | none => s
    | some j =>
      if s.dev = .standby ∧ s.mend.lost = false ∧ r.metaHeld.any (fun m => decide (m + 1 = j.2)) ∧ updatesDone s t (j.2 - 1) then
        let s0 := (installed s).foldl zeroHops s
        let s1 := setDev (s0.withMend (fun m => { m with recv := none, waking := false, spareOf := none })) .running
        let s2 := { s1 with
          step := j.2
          inStep := true
          mangle := { s1.mangle with ledger := [], keys := [] }
          pru := { s1.pru with stage := .none, dropped := false } }
        (coresOfClass s2 1).foldl startCore s2
      else s
  | _, _ => s

/-- Adds to the bytes that a fill has received. -/
def FillRecv.count (r : FillRecv) (n : Nat) : FillRecv := { r with bytes := r.bytes + n }

end Sys2Proof.Machine
end

