-- ==== Sys2Proof/Machine/CsrLive.lean ====
section
/-! DEFINITION. What the read-only registers show of the structured state: for each register, the fields that
mirror it, laid over the stored value (R12 and the register tables of the chapters). -/

namespace Sys2Proof.Machine

/-- A field of a register with its value: high bit, low bit, value. -/
abbrev Shown := List (Nat × Nat × Nat)

/-- A whole word shown. -/
def whole (v : Nat) : Shown := [(31, 0, v)]

/-- A count of the ranks or standby ranks of a table in a state. -/
def countMembers (t : GroupT) (st : MState) (spare : Bool) : Nat :=
  (t.members.zipIdx.filter (fun m => decide (m.1.st = st) && decide (decide (t.ranks ≤ m.2) = spare))).length

/-- `GLOBAL` (R37, R38, R39). -/
def liveGlobal (s : State) (off : Nat) : Shown :=
  if off = O.globalState then
    [(2, 0, s.dev.code), (8, 8, b2n ((List.range 32).any (fun g => csrBit s O.globalPartMap g)))]
  else if off = O.globalFail then [(0, 0, b2n s.power.failLow), (1, 1, b2n (s.dev = .fenced))]
  else []

/-- The effective duty of a cluster in sixteenths and its limiting cause: 0 none, 1 cap, 2 sag, 3 junction
(R558, R584). -/
def dutyOf (s : State) (g : Nat) : Nat × Nat :=
  let c0 := decide (clusterClass s g = 0)
  let cap := if c0 then 16 else tget s.power.capDuty g 16
  let sag := if c0 = false ∧ 2 ≤ s.power.level then 8 else 16
  let junc := tget s.power.juncDuty g 16
  let d := min cap (min sag junc)
  (d, if d = 16 then 0 else if d = cap then 1 else if d = sag then 2 else 3)

/-- The byte of `POWER.DUTYn` of a cluster. -/
def dutyByte (s : State) (g : Nat) : Nat := (dutyOf s g).1 + (dutyOf s g).2 * 32

/-- The hottest junction sensor of a list of pairs. -/
def hottest (s : State) (gs : List Nat) : Nat :=
  gs.foldl (fun m g => let t := tget s.power.tj g (0, 0); max m (max t.1 t.2)) 0

/-- Codes of the effective states of domains, two bits each from `lo` on. -/
def domCodes (s : State) (lo : Nat) : Nat :=
  ((List.range 16).map (fun i => if lo + i ≤ 57 then (getDom s (lo + i)).st.code * 4 ^ i else 0)).sum

/-- `POWER` (R584). -/
def livePower (s : State) (off : Nat) : Shown :=
  if off = O.powerShed then [(2, 0, s.power.level)]
  else if off = O.powerVin then [(15, 0, s.power.vinMv)]
  else if off = O.powerInput then [(15, 0, s.power.inputW)]
  else if off = O.powerTj then [(8, 0, hottest s (List.range 32)), (24, 16, hottest s [32, 33, 34, 35])]
  else if off = O.powerDomInfo then
    let d := csrBits s O.powerDomSel 5 0
    let x := getDom s d
    [(31, 16, min x.brownouts 0xFFFF), (6, 6, b2n x.wait), (5, 5, b2n (sagLimit s d ≠ .on)), (3, 2, x.mgmt.code),
     (1, 0, x.st.code)]
  else if O.powerDomState 0 ≤ off ∧ off < O.powerDomState 4 then
    whole (domCodes s ((off - O.powerDomState 0) / 4 * 16))
  else if O.powerDuty 0 ≤ off ∧ off < O.powerDuty 8 then
    let g := off - O.powerDuty 0
    whole (dutyByte s g + dutyByte s (g + 1) * 2 ^ 8 + dutyByte s (g + 2) * 2 ^ 16 + dutyByte s (g + 3) * 2 ^ 24)
  else []

/-- A word of an event record. -/
def recWord (r : Option EventRec) (i : Nat) : Nat :=
  match r with
  | some x => ofLe ((x.bytes.drop (4 * i)).take 4)
  | none => 0

/-- Records of a severity that wait. -/
def queuedAt (s : State) (sev : Nat) : Nat := (tget s.err.queues sev []).length

/-- `ERRLOG` (R553). -/
def liveErrlog (s : State) (off : Nat) : Shown :=
  if off = O.errlogStatus then
    [(8, 8, b2n s.err.fatal.isSome), (3, 3, b2n s.err.running.isSome), (2, 0, (s.err.running.map (·.sev)).getD 0)]
  else if off = O.errlogQdepth then
    [(4, 0, queuedAt s 0), (9, 5, queuedAt s 1), (14, 10, queuedAt s 2), (19, 15, queuedAt s 3), (24, 20, queuedAt s 4)]
  else if O.errlogRecW 0 ≤ off ∧ off < O.errlogRecW 12 then
    whole (recWord s.err.log[csrBits s O.errlogSel 7 0]? ((off - O.errlogRecW 0) / 4))
  else if O.errlogFatalW 0 ≤ off ∧ off < O.errlogFatalW 12 then
    whole (recWord s.err.fatal ((off - O.errlogFatalW 0) / 4))
  else []

/-- Entries of the stored key list of a role: 0 HOST, 1 WEAVE, 2 DEBUG. -/
def keysOf (s : State) (role : Nat) : Nat := (s.sec.keys.filter (fun k => decide (k.role = role))).length

/-- The level of the ROM of stepping A1 (R642). -/
def romLevel : Nat := 3

/-- Whether a partner table lists a type and level. -/
def listsParty (partners : List (Nat × Nat)) (type level : Nat) : Bool := partners.contains (type, level)

/-- Whether an image of a type and a party of another type form a tested pair (R596). -/
def pairTested (t1 : Nat) (a : LoadedImg) (t2 : Nat) (b : LoadedImg) : Bool :=
  listsParty a.partners t2 b.level || listsParty b.partners t1 a.level

/-- Whether an image forms an untested pair with the ROM or with a loaded image of another type (R596, R642). -/
def untestedWith (s : State) (type : Nat) (x : LoadedImg) : Bool :=
  !listsParty x.partners 0 romLevel ||
  s.sec.images.any (fun e => decide (e.1 ≠ type) && !pairTested type x e.1 e.2)

/-- Whether a loaded pair is untested (R599). -/
def untested (s : State) : Bool := s.sec.images.any (fun e => untestedWith s e.1 e.2)

/-- Word `i` of a digest: bytes 4i to 4i + 3. -/
def digestWord (d : BitVec 256) (i : Nat) : Nat := ofLe (((digestBytes d).drop (4 * i)).take 4)

/-- Four fuse counters from counter `m` on. -/
def counterWord (s : State) (m : Nat) : Nat :=
  ((List.range 4).map (fun i => tget s.sec.counters (m + i) 0 % 128 * 256 ^ i)).sum

/-- `SEC` (R609). -/
def liveSec (s : State) (off : Nat) : Shown :=
  if off = O.secStatus then
    [(7, 7, b2n s.sec.jtag), (6, 6, b2n s.sec.challenge.isSome), (5, 5, b2n (untested s)), (4, 2, s.sec.scopes),
     (1, 1, b2n s.sec.hasKeys), (0, 0, b2n s.sec.owner.isSome)]
  else if off = O.secUnlocks then whole s.sec.unlocks
  else if off = O.secKeylistSeq then whole s.sec.keySeq
  else if off = O.secKeys then [(21, 16, keysOf s 3), (13, 8, keysOf s 2), (5, 0, keysOf s 1)]
  else if off = O.secCounter0 then whole (counterWord s 0)
  else if off = O.secCounter1 then whole (counterWord s 4)
  else if off = O.secRevoke then [(3, 0, Config.revoked.toNat)]
  else if off = O.secRomLevel then whole romLevel
  else if O.secIdent 0 ≤ off ∧ off < O.secIdent 8 then whole (digestWord Config.identity ((off - O.secIdent 0) / 4))
  else if O.secOwner 0 ≤ off ∧ off < O.secOwner 8 then
    whole (digestWord (s.sec.owner.getD 0#256) ((off - O.secOwner 0) / 4))
  else if O.secImg 0 ≤ off ∧ off < O.secImg 4 then
    match tget? s.sec.images ((off - O.secImg 0) / 4 + 1) with
    | some i => [(17, 16, if i.forced then 2 else 1), (15, 0, i.level)]
    | none => []
  else []

/-- `PRU` (R192). -/
def livePru (s : State) (off : Nat) : Shown :=
  let n := csrBits s O.pruSel 11 0
  if off = O.pruSpend then whole (widthSpend s.pru.active)
  else if off = O.pruEntryCount then [(12, 0, (s.pru.active.filter (fun e => e.2.valid)).length)]
  else if off = O.pruPending then [(12, 0, s.pru.pending.length)]
  else if off = O.pruEntryState then
    let r := tget s.pru.rstate n RuleState.zero
    [(15, 8, r.run), (7, 4, r.nstreak), (3, 0, r.wstreak)]
  else if O.pruEntryW 0 ≤ off ∧ off < O.pruEntryW 16 then
    whole (((tget s.pru.active n RuleEntry.zero).w.getD ((off - O.pruEntryW 0) / 4) 0#32).toNat)
  else []

/-- The skip record that `SKIP_SEL` selects. -/
def skipShown (s : State) : Option SkipRec := s.mangle.skips[csrBits s O.mangleSkipSel 3 0]?

/-- Tags that hold ledger contents. -/
def ledgerTags (s : State) : Nat := ((s.mangle.ledger.map (fun e => e.1 / 2 ^ 16)).dedup).length

/-- `MANGLE` (R376). -/
def liveMangle (s : State) (off : Nat) : Shown :=
  if off = O.mangleStatus then [(28, 16, ledgerTags s), (9, 0, s.mangle.insts.length)]
  else if off = O.mangleTagCount then [(12, 0, (installed s).length)]
  else if off = O.mangleSkipA then
    match skipShown s with
    | some k => [(31, 30, k.kind), (29, 16, k.rank), (15, 0, k.tag)]
    | none => []
  else if off = O.mangleSkipB then whole ((skipShown s).map (·.step) |>.getD 0)
  else if O.mangleTagW 0 ≤ off ∧ off < O.mangleTagW 16 then
    let n := csrBits s O.mangleTagSel 11 0
    whole (((tget s.mangle.desc n TagDesc.zero).w.getD ((off - O.mangleTagW 0) / 4) 0#32).toNat)
  else []

/-- The two words of a member entry (Table 2 of *Mending: surviving device failure*). -/
def memberWords (m : Member) : Nat × Nat :=
  (m.partner % 2 ^ 14 + m.st.code * 2 ^ 16 + b2n m.copy * 2 ^ 19, m.link % 2 ^ 14)

/-- The bytes of a group table (Table 4 of *Mending: surviving device failure*). -/
def GTab.bytes (g : GTab) : List Byte :=
  leBytes 2 g.positions.length ++ leBytes 1 g.orders.length ++ List.replicate 13 0#8 ++
  g.positions.flatMap (leBytes 2) ++ g.orders.flatMap (fun o => o.flatMap (leBytes 2))

/-- `GROUP` (R421). -/
def liveGroup (s : State) (off : Nat) : Shown :=
  match s.mend.table with
  | none => if off = O.groupStatus then [(5, 5, b2n s.mend.lost)] else []
  | some t =>
    let m := memOf t (csrBits s O.groupSel 13 0)
    if off = O.groupStatus then
      [(5, 5, b2n s.mend.lost), (4, 4, b2n ((s.mend.recv.map (fun r => !r.rebuild)).getD false)),
       (3, 3, b2n ((List.range t.ranks).any (fun r => decide (r ≠ t.self) && serves s s.step r))),
       (2, 2, b2n (t.ranks ≤ t.self)), (1, 1, b2n (t.keeper = t.self)), (0, 0, 1)]
    else if off = O.groupEpoch then whole t.epoch
    else if off = O.groupSelf then [(13, 0, t.self)]
    else if off = O.groupSize then [(30, 16, t.spares), (14, 0, t.ranks)]
    else if off = O.groupKeeper then [(13, 0, t.keeper)]
    else if off = O.groupJob then whole t.job
    else if off = O.groupLive then [(14, 0, countMembers t .live false)]
    else if off = O.groupReady then [(14, 0, countMembers t .ready true)]
    else if off = O.groupMemberLo then
      whole (if csrBits s O.groupSel 13 0 < t.members.length then (memberWords m).1 else 0)
    else if off = O.groupMemberHi then
      whole (if csrBits s O.groupSel 13 0 < t.members.length then (memberWords m).2 else 0)
    else if off = O.groupTdata then
      match t.tables[csrBits s O.groupTsel 31 28]? with
      | some g => whole (ofLe ((g.bytes.drop (4 * csrBits s O.groupTsel 19 0)).take 4))
      | none => []
    else []

/-- The stream last started at `MEND.SRCn`. -/
def srcAt (s : State) (i : Nat) : Option FillSrc := (s.mend.srcs.filter (fun x => decide (x.slot = i))).getLast?

/-- `MEND.SRC0` or `MEND.SRC1`: a stream that has ended is none. -/
def srcShown (s : State) (i : Nat) : Shown :=
  match (srcAt s i).filter (fun x => !x.ended) with
  | some x => [(31, 30, x.role), (27, 14, x.target), (13, 0, x.subject)]
  | none => []

/-- `MEND` (R422). -/
def liveMend (s : State) (off : Nat) : Shown :=
  if off = O.mendSrc0 then srcShown s 0
  else if off = O.mendSrc1 then srcShown s 1
  else if off = O.mendSrc0Bytes then whole (((srcAt s 0).map (·.bytes)).getD 0)
  else if off = O.mendSrc1Bytes then whole (((srcAt s 1).map (·.bytes)).getD 0)
  else if off = O.mendCopyStep then whole (copyStep s)
  else if off = O.mendRecv then
    match s.mend.recv with
    | some r => [(31, 31, 1), (17, 17, b2n r.heldDone), (16, 16, b2n r.ownDone), (13, 0, r.rank)]
    | none => []
  else if off = O.mendRecvBytes then whole ((s.mend.recv.map (·.bytes)).getD 0)
  else
    match s.mend.table with
    | none => []
    | some t =>
      if off = O.mendShardBase then whole (t.shardBase / 256)
      else if off = O.mendCopyBase then whole (t.copyBase / 256)
      else if off = O.mendAreaBytes then whole t.areaBytes
      else if off = O.mendHeld then
        match heldRank t with
        | some r => [(31, 31, b2n (memOf t r).copy), (30, 30, b2n ((s.mend.recv.map (·.rebuild)).getD false)), (13, 0, r)]
        | none => []
      else if off = O.mendCover then
        match (List.range t.ranks).find? (fun r => decide (r ≠ t.self) && serves s s.step r) with
        | some r => [(31, 31, 1), (13, 0, r)]
        | none => []
      else []

/-- The power of a laser input as 13 bits: it saturates at +40.95 dBm, and below −40.95 dBm no light is detected (R11,
R458). -/
def laserPower : Option Int → Nat
  | some p => if p < -4095 then 0x1000 else (min p 4095 % 8192).toNat
  | none => 0x1000

/-- One laser input (R453, R458). -/
def laserShown (x : Laser) : Shown := [(14, 14, b2n x.off), (13, 13, b2n x.low), (12, 0, laserPower x.power)]

/-- `SEAM` of link `n` at offset `o` of its unit (R458). The registers of its engine show engine n / 3. -/
def liveSeam (s : State) (n o : Nat) : Shown :=
  let k := getLink s n
  let e := getOe s (n / 3)
  if o = 4 then
    [(17, 17, b2n k.preShed.isSome), (16, 16, b2n (bitOf k.active 4)), (15, 11, k.active), (10, 6, k.failed),
     (5, 2, laneCount k.active), (1, 0, k.st.code)]
  else if o = 0x20 then [(26, 16, k.credits.getD 1 0), (10, 0, k.credits.getD 0 0)]
  else if o = 0x24 then [(26, 16, k.credits.getD 3 0), (10, 0, k.credits.getD 2 0)]
  else if 0x100 ≤ o ∧ o < 0x114 then
    let l := (o - 0x100) / 4
    let x := if n % 3 * 5 + l < 8 then e.a else e.b
    [(22, 22, b2n (!x.off && x.power.isSome)), (21, 21, b2n (bitOf k.failed l)), (20, 20, b2n (bitOf k.lock l))]
  else if o = 0x300 then [(2, 0, e.st)]
  else if o = 0x304 then [(8, 0, e.temp)]
  else if o = 0x308 then laserShown e.a
  else if o = 0x30C then laserShown e.b
  else []

/-- `ETH` (R501). A port whose Ethernet domain is off shows as absent, as its reset values have it. -/
def liveEth (s : State) (off : Nat) : Shown :=
  if off = O.ethSessions then
    [(15, 8, (s.wcp.sessions.map (fun x => 2 ^ x.slot)).sum), (3, 0, s.wcp.sessions.length)]
  else if off = O.ethCmd then [(5, 0, s.wcp.queue.length)]
  else if off = O.ethRoce then
    [(24, 16, (s.wcp.windows.filter (fun e => e.2.win.isSome)).length), (6, 0, s.wcp.qps.length)]
  else if O.ethpPstatus 0 ≤ off ∧ off < O.ethpPstatus 8 then
    let p := (off - O.ethpPstatus 0) / 0x80
    let o := (off - O.ethpPstatus 0) % 0x80
    let x := getPort s p
    if o = 0 then
      let on := domRuns s (54 + p / 4)
      [(5, 5, b2n x.router.isSome), (4, 4, b2n x.lease.isSome), (3, 2, if on then portSpeed s p else 0),
       (1, 1, b2n (on && portPresent s p)), (0, 0, b2n (portUpNow s p))]
    else if o = 4 then whole (macOctets p 0 4)
    else if o = 8 then [(15, 0, macOctets p 4 2)]
    else if 0x28 ≤ o ∧ o < 0x38 then whole (bitsOf (linkLocal6 p) (127 - (o - 0x28) * 8) (96 - (o - 0x28) * 8))
    else []
  else []

/-- `SCORE` (R524). -/
def liveScore (s : State) (off : Nat) : Shown :=
  let ls := s.score.lanes
  if off = O.scoreStatus then
    [(15, 8, (ls.zipIdx.map (fun l => b2n l.1.serving * 2 ^ l.2)).sum), (7, 7, b2n (ls.any (·.bad))),
     (6, 6, b2n s.score.loaded), (5, 5, b2n (ls.any (·.switch))), (4, 4, b2n s.score.weights), (3, 0, ls.length)]
  else if off = O.scoreActiveVer then whole s.score.activeVer
  else if off = O.scoreLoadedVer then whole (if s.score.loaded then s.score.loadedVer else 0)
  else if off = O.scoreQueue then whole ((ls.zipIdx.map (fun l => l.1.queue.length * 8 ^ l.2)).sum)
  else []

/-- `HBM` (R330). -/
def liveHbm (s : State) (off : Nat) : Shown :=
  let bits (f : Nat → Bool) : Nat := ((List.range 8).map (fun n => b2n (f n) * 2 ^ n)).sum
  if off = O.hbmReady then
    [(23, 16, bits (fun n => decide ((getDom s (36 + n)).st = .retention) || (getStack s n).hot)), (15, 8, bits (fun n => (getStack s n).failed)),
     (7, 0, bits (fun n => (getStack s n).ready))]
  else if off = O.hbmLevels then
    [(23, 16, bits (fun n => (getStack s n).hot)), (15, 0, ((List.range 8).map (fun n => (getStack s n).level * 4 ^ n)).sum)]
  else if O.hbmTemp 0 ≤ off ∧ off < O.hbmTemp 8 then
    let k := getStack s ((off - O.hbmTemp 0) / 4)
    [(10, 9, k.level), (8, 0, k.temp)]
  else []

/-- `CORE` of core `c` at offset `o` of its block (R284). -/
def liveCore (s : State) (c o : Nat) : Shown :=
  let k := getCore s c
  if o = 4 then whole ((List.range 8).map (fun t => (getThread s c t).st.code * 16 ^ t)).sum
  else if 0x10 ≤ o ∧ o < 0x30 then [(19, 0, (getThread s c ((o - 0x10) / 4)).pc)]
  else if 0x30 ≤ o ∧ o < 0x50 then
    match tget? k.entryPts ((o - 0x30) / 4) with
    | some e => [(31, 31, 1), (19, 0, e)]
    | none => []
  else if 0x80 ≤ o ∧ o < 0xC0 then [(15, 0, tget k.sync ((o - 0x80) / 4) 0)]
  else if o = 0xC4 then
    let sid := csrBits s (O.coreStreamSel c) 5 0
    let outs := fanout s c sid
    let inp := fanin s c sid
    let depth := match outs, inp with
      | p :: _, _ => p.2.depth
      | [], some p => p.2.depth
      | [], none => 0
    [(25, 25, b2n inp.isSome), (24, 24, b2n (!outs.isEmpty)), (22, 16, depth),
     (14, 8, (inp.map (fun p => (getStream s p.1).queue.length)).getD 0), (6, 0, creditsOf s (outs.map Prod.fst))]
  else if o = 0x118 then [(14, 0, k.trace.length)]
  else []

/-- What a register shows of the structured state. -/
def live (s : State) (off : Nat) : Shown :=
  if off < 0x10000 then liveGlobal s off
  else if off < 0x20000 then livePower s off
  else if off < 0x30000 then liveErrlog s off
  else if off < 0x40000 then liveSec s off
  else if off < 0x50000 then livePru s off
  else if off < 0x60000 then liveMangle s off
  else if off < 0x70000 then liveGroup s off
  else if off < 0x80000 then liveMend s off
  else if off < 0x86000 then liveSeam s ((off - 0x80000) / 0x400) ((off - 0x80000) % 0x400)
  else if off < 0x90000 then []
  else if off < 0xA0000 then liveEth s off
  else if off < 0xB0000 then liveScore s off
  else if off < 0xC0000 then liveHbm s off
  else if 0x100000 ≤ off ∧ off < 0x200000 then liveCore s ((off - 0x100000) / 0x1000) ((off - 0x100000) % 0x1000)
  else []

/-- The value of a register: the stored value with what it shows of the structured state laid over it. -/
def csrValue (s : State) (off : Nat) : Nat :=
  (live s off).foldl (fun v f => setBits v f.1 f.2.1 (min f.2.2 (2 ^ (f.1 + 1 - f.2.1) - 1))) (csrGet s off)

end Sys2Proof.Machine
end

