-- ==== Sys2Proof/Machine/Images.lean ====
section
/-! DEFINITION. The meanings of the image, key-list, attestation and unlock commands (R585 to R610, R642,
R643). Staged image bytes are management working storage (log entry 39). -/

namespace Sys2Proof.Machine

/-- Changes the security state. -/
def State.withSec (s : State) (f : SecSt → SecSt) : State := { s with sec := f s.sec }

/-! ### Staging -/

/-- Whether a type can be staged: an image type or a key list (Table 2). -/
def stageable (type : Nat) : Bool := (1 ≤ type && type ≤ 4) || type = 0x0010

/-- IMG_BEGIN (R495). DESIGN CHOICE (log entry 39): a length beyond the 256 MiB of the image staging region (R294) is RANGE, as
one beyond the weave staging area is for WEAVE_BEGIN. -/
def execImgBegin (q : WcpReq) (type len : Nat) (s : State) : Res :=
  .next (wcpRow q 0x0101 (type = 0x0010) (inStates [.idle]) neverBusy (fun r s =>
    if !stageable type then respond s r stMalformed
    else if 2 ^ 28 < len then respond s r stRange
    else respond (s.withWcp (fun w => { w with img := some ⟨type, len, []⟩ })) r stOk) s)

/-- The type that is staged. -/
def stagedType (s : State) : Nat := (s.wcp.img.map (·.type)).getD 0

/-- IMG_DATA (R495). The bytes lie in the image staging region too while its stack is usable, once it answers and has a turn
for them (R294, R301, R316, R320; log entry 39). -/
def execImgData (q : WcpReq) (off : Nat) (bytes : List Byte) (s : State) : Res :=
  let a := imageArea + off
  let accepts (s : State) : Bool := inStates [.idle] s && s.wcp.img.isSome
  .next (holdRow q 0x0102 a bytes.length accepts ((getStack s 7).ready && !mayGo s (cmdReq q) a bytes.length)
    (wcpRow q 0x0102 (stagedType s = 0x0010) accepts neverBusy (fun r s =>
      match s.wcp.img with
      | none => s
      | some x =>
        if x.len < off + bytes.length then respond s r stRange
        else
          let s1 := if (getStack s 7).ready then agentWrite (goOn s (cmdReq q) a bytes.length) a bytes else s
          respond (s1.withWcp (fun w => { w with img := some { x with bytes := memWrites x.bytes off bytes } })) r stOk)) s)

/-- The bytes that an IMG_COMMIT names: the staged ones at source 0, otherwise those in HBM. -/
def imgMem (s : State) (src : Nat) : Memory :=
  if src = 0 then ((s.wcp.img.map (·.bytes)).getD []) else s.mem

/-- A little-endian number of an image at an offset. -/
def imgNum (s : State) (src off n : Nat) : Nat := memNum (imgMem s src) (src + off) n

/-- Bytes of an image. -/
def imgBytes (s : State) (src off n : Nat) : List Byte := memReads (imgMem s src) (src + off) n

/-- The type of the image or key list at a source. -/
def imgType (s : State) (src : Nat) : Nat :=
  if src = 0 then stagedType s
  else if imgNum s src 0 4 = 0x4B4C3031 then 0x0010 else imgNum s src 4 2

/-- The states in which IMG_COMMIT is accepted: IDLE, and for the supplement every other but FENCED. -/
def commitState (src : Nat) (s : State) : Bool :=
  s.dev = .idle || (notFenced s && decide (imgType s src = 4))

/-- IMG_COMMIT (R495, R596, R643): nothing staged is BAD_STATE, a source that R300 refuses DENIED. -/
def execImgCommit (q : WcpReq) (src flags : Nat) (s : State) : Res :=
  .next (wcpRow q 0x0103 (imgType s src = 0x0010) (fun s => commitState src s && (decide (src ≠ 0) || s.wcp.img.isSome))
    (busyWith [0x0103]) (fun r s =>
      if 2 ≤ flags then respond s r stMalformed
      else if src ≠ 0 ∧ class2May s false src 0x940 = false then respond s r stDenied
      else startBg s r src flags (imgType s src)) s)

/-! ### Checks -/

/-- Whether bytes are all zero. -/
def zeros (bs : List Byte) : Bool := bs.all (fun b => b = 0#8)

/-- The length of an image by its header (Table 3). -/
def imgLen (s : State) (src : Nat) : Nat := 0x940 + imgNum s src 0x14 4 + 3328

/-- Whether an image breaks its layout (Table 3, reason 0x03 of Table 4). -/
def imgBroken (s : State) (src type : Nat) : Bool :=
  decide (imgNum s src 0 4 ≠ 0x57494D31) || decide (imgNum s src 4 2 ≠ type) || !(1 ≤ type && type ≤ 4) ||
  decide (64 < imgNum s src 0x10 2) || decide (64 < imgNum s src 0x12 2) || decide (imgNum s src 0x14 4 % 64 ≠ 0) ||
  !zeros (imgBytes s src 0x18 40) || !zeros (imgBytes s src (0x140 + 1952) 96) ||
  !zeros (imgBytes s src (imgLen s src - 19) 19) ||
  (decide (src = 0) && decide ((s.wcp.img.map (·.len)).getD 0 ≠ imgLen s src))

/-- What an image says of itself. -/
def readImg (s : State) (src : Nat) (forced : Bool) : LoadedImg :=
  { level := imgNum s src 6 2
    iface := imgNum s src 8 4
    rollback := imgNum s src 0x10 2
    partners := (List.range (imgNum s src 0x12 2)).map (fun i => (imgNum s src (0x40 + 4 * i) 2, imgNum s src (0x42 + 4 * i) 2))
    forced := forced
    meas := Config.shake256 (imgBytes s src 0 (imgLen s src - 3328)) }

/-- The ROM's interface identifier of a type (R642). -/
def romInterface (type : Nat) : Nat := type * 65536 + 1

/-- Ends the IMG_COMMIT in progress with a refusal (R596, R597): counted in `CNT_REFUSED`; AUTH answers also in
`CNT_AUTH_FAIL`. -/
def refuseImg (s : State) (code status detail : Nat) : State :=
  let s1 := bump (raise s code 0 3 0 0) O.secCntRefused
  endBg (if status = stAuth then bump s1 O.secCntAuthFail else s1) 0x0103 status detail

/-- The power domains that an image type serves (R597). -/
def servedDoms (type : Nat) : List Nat :=
  if type = 2 then (List.range 8).map (· + 44) else if type = 3 then (List.range 8).map (· + 36) else []

/-- Turns the domains of a firmware image off where one was loaded before, then on (R571, R598): every seam link, or
every stack, trains again. -/
def restartDoms (s : State) (type : Nat) (again : Bool) : State :=
  let ds := servedDoms type
  let s1 := if again then ds.foldl (fun s d => retrainLinks (domOff (darkLinks s d) d) d) s else s
  ds.foldl (fun s d => setMgmt s d .on) s1

/-- Loads an image (R571, R595, R598). -/
def loadImg (s : State) (type : Nat) (x : LoadedImg) : State :=
  let again := (tget? s.sec.images type).isSome
  let n := tget s.sec.counters (type - 1) 0
  let s1 := s.withSec (fun c => { c with
    images := tset c.images type x, counters := tset c.counters (type - 1) (max n x.rollback) })
  restartDoms s1 type again

/-- `img_commit` (R596) on an image whose signature holds or not. -/
def commitImage (s : State) (src type : Nat) (force sigOk : Bool) : State :=
  let x := readImg s src false
  if imgBroken s src type then refuseImg s 0x8010 stRefused 3
  else if imgNum s src 0xC 4 ≠ csrValue s O.globalId then refuseImg s 0x8010 stRefused 2
  else if !sigOk then refuseImg s 0x8010 stAuth 0
  else if x.iface ≠ romInterface type then refuseImg s 0x8010 stRefused 4
  else if x.rollback < tget s.sec.counters (type - 1) 0 then refuseImg s 0x8012 stRefused 5
  else
    let odd := untestedWith s type x
    if odd && !force then refuseImg s 0x8011 stIncompatible 0
    else if odd ∧ s.sec.scopes = 0 then endBg (bump s O.secCntAuthFail) 0x0103 stAuth 0
    else
      let s1 := loadImg s type { x with forced := odd }
      endBg (if odd then raise s1 0x8013 0 3 0 0 else s1) 0x0103 stOk 0

/-- The offset of entry `i` of a key list. -/
def keyOff (i : Nat) : Nat := 0x840 + 2048 * i

/-- Whether an entry of a key list breaks Table 1. -/
def keyBroken (s : State) (src i : Nat) : Bool :=
  let o := keyOff i
  let role := imgNum s src o 1
  let mask := imgNum s src (o + 1) 1
  !(1 ≤ role && role ≤ 3) || (decide (role ≠ 3) && decide (mask ≠ 0)) || decide (8 ≤ mask) || !zeros (imgBytes s src (o + 2) 94)

/-- Whether a key list breaks its layout (R643). -/
def keyListBroken (s : State) (src : Nat) : Bool :=
  let n := imgNum s src 8 2
  decide (imgNum s src 0 4 ≠ 0x4B4C3031) || !(1 ≤ n && n ≤ 32) || !zeros (imgBytes s src 0xA 54) ||
  !zeros (imgBytes s src (0x40 + 1952) 96) || (List.range n).any (keyBroken s src) ||
  !zeros (imgBytes s src (keyOff n + 3309) 19) ||
  (decide (src = 0) && decide ((s.wcp.img.map (·.len)).getD 0 ≠ keyOff n + 3328))

/-- The digest of the owner root key of a key list: its 1,952 bytes. -/
def ownerDigest (s : State) (src : Nat) : BitVec 256 := Config.shake256 (imgBytes s src 0x40 1952)

/-- The entries of a key list. -/
def readKeys (s : State) (src : Nat) : List KeyEntry :=
  (List.range (imgNum s src 8 2)).map (fun i =>
    ⟨imgNum s src (keyOff i) 1, imgNum s src (keyOff i + 1) 1, Config.shake256 (imgBytes s src (keyOff i + 96) 1952)⟩)

/-- The check and load of a key list (R590, R591, R643). -/
def commitKeys (s : State) (src : Nat) (sigOk : Bool) : State :=
  let seq := imgNum s src 4 4
  let d := ownerDigest s src
  if s.dev ≠ .idle then endBg s 0x0103 stBadState 0
  else if keyListBroken s src then refuseImg s 0x8010 stRefused 3
  else if (match s.sec.owner with
      | some o => decide (o ≠ d)
      | none => false) || !sigOk then refuseImg s 0x8010 stAuth 0
  else if seq < tget s.sec.counters 4 0 ∨ seq ≤ s.sec.keySeq then refuseImg s 0x8012 stRefused 5
  else
    let s1 := s.withSec (fun c => { c with
      keys := readKeys s src, keySeq := seq, hasKeys := true, owner := some d
      counters := tset c.counters 4 (max (tget c.counters 4 0) (min seq 64)) })
    endBg s1 0x0103 stOk 0

/-- The bytes that a running IMG_COMMIT reads. -/
def commitLen (s : State) (src type : Nat) : Nat :=
  if type = 0x0010 then keyOff (imgNum s src 8 2) + 3328 else imgLen s src

/-- IMG_COMMIT_DONE (R596, R643): `sigOk` is whether the signature and its key hold. An image in HBM is read once its memory
answers and has a turn for it, and its read meets the errors there (R301, R320, R324, R327). -/
def execImgCommitDone (sigOk : Bool) (s : State) : Res :=
  .next (match runningBg s 0x0103 with
    | none => s
    | some x =>
      let n := commitLen s x.a x.c
      let req : HbmReq := ⟨.background 0x0103, 4⟩
      let commit (s : State) : State := if x.c = 0x0010 then commitKeys s x.a sigOk else commitImage s x.a x.c (x.b = 1) sigOk
      if x.a = 0 then commit s
      else if class2May s false x.a n = false then endBg s 0x0103 stDenied 0
      else if mayGo s req x.a n = false then waitFor s req x.a n
      else
        let s1 := readMeets (goOn s req x.a n) x.a n
        match (badIn s1 x.a n).head? with
        | some b => endBg (memUncorr s1 2 b) 0x0103 stMemError 0
        | none => commit s1)

/-- IMG_LIST (R495). -/
def execImgList (q : WcpReq) (s : State) : Res :=
  .next (wcpRow q 0x0104 false inAny neverBusy (fun r s =>
    respond s r stOk 0 (leBytes 4 s.sec.images.length ++ s.sec.images.flatMap (fun e =>
      leBytes 2 e.1 ++ leBytes 2 e.2.level ++ leBytes 4 e.2.iface ++ leBytes 4 (if e.2.forced then 2 else 1)))) s)

/-! ### Attestation -/

/-- The bytes of a member entry (Table 2 of *Mending: surviving device failure*). -/
def memberBytes (m : Member) : List Byte := leBytes 4 (memberWords m).1 ++ leBytes 4 (memberWords m).2

/-- Zeros to the next 64-byte boundary. -/
def padTo64 (bs : List Byte) : List Byte := bs ++ List.replicate ((64 - bs.length % 64) % 64) 0#8

/-- The bytes of a live group table (R385). -/
def groupBytes (t : GroupT) : List Byte :=
  padTo64 (leBytes 4 t.job ++ leBytes 2 t.ranks ++ leBytes 2 t.spares ++ leBytes 2 t.self ++ leBytes 1 t.tables.length ++
    leBytes 1 0 ++ leBytes 4 t.epoch ++ leBytes 2 t.keeper ++ leBytes 2 0 ++ leBytes 4 (t.shardBase / 256) ++
    leBytes 4 (t.copyBase / 256) ++ leBytes 4 t.areaBytes ++ List.replicate 32 0#8 ++ t.members.flatMap memberBytes) ++
  t.tables.flatMap (fun g => padTo64 g.bytes)

/-- The slot of a loaded image in the report (Table 5). -/
def imageSlot (s : State) (type : Nat) : List Byte :=
  match tget? s.sec.images type with
  | some x => leBytes 2 type ++ leBytes 2 x.level ++ leBytes 4 x.iface ++ leBytes 2 x.rollback ++
      leBytes 2 (if x.forced then 2 else 1) ++ leBytes 4 0 ++ digestBytes x.meas
  | none => List.replicate 48 0#8

/-- The attestation report before its signature (Table 5). -/
def attestBody (s : State) (nonce : BitVec 256) : List Byte :=
  leBytes 4 0x41545331 ++ leBytes 2 1 ++
  leBytes 2 (b2n (untested s) + 2 * b2n (s.sec.scopes ≠ 0) + 4 * b2n s.sec.owner.isNone) ++
  digestBytes nonce ++ digestBytes Config.identity ++ leBytes 4 (csrValue s O.globalId) ++
  leBytes 4 (csrValue s O.globalBoardTag) ++ leBytes 4 romLevel ++ leBytes 4 (csrValue s O.globalState) ++
  leBytes 4 (csrValue s O.globalResetCause) ++ leBytes 4 s.sec.scopes ++ digestBytes (s.sec.owner.getD 0#256) ++
  leBytes 4 s.sec.keySeq ++ (List.range 8).flatMap (fun i => leBytes 1 (tget s.sec.counters i 0)) ++
  leBytes 4 s.sec.unlocks ++ digestBytes Config.romMeas ++ [1, 2, 3, 4].flatMap (imageSlot s) ++
  digestBytes ((s.weave.map (·.meas)).getD 0#256) ++ leBytes 4 (csrValue s O.globalWeaveSeq) ++
  leBytes 4 ((s.weave.map (·.job)).getD 0) ++
  digestBytes ((s.mend.table.map (fun t => Config.shake256 (groupBytes t))).getD 0#256) ++ leBytes 4 (epochOf s) ++ leBytes 4 0

/-- ATTEST (R603). -/
def execAttest (q : WcpReq) (nonce : BitVec 256) (s : State) : Res :=
  .next (wcpRow q 0x0006 false inAny neverBusy (fun r s =>
    let b := attestBody s nonce
    respond s r stOk 0 (b ++ Config.signature b)) s)

/-! ### Unlock -/

/-- UNLOCK_CHALLENGE (R605): a new challenge replaces the one held. -/
def execUnlockChallenge (q : WcpReq) (scope : Nat) (s : State) : Res :=
  .next (wcpRow q 0x0801 false inAny neverBusy (fun r s =>
    if scope = 0 ∨ 8 ≤ scope then respond s r stRange
    else
      let n := Config.nonce s.freeCtr
      respond (s.useFree.withSec (fun c => { c with challenge := some (scope, n, s.cycle) })) r stOk 0
        (digestBytes n ++ digestBytes Config.identity)) s)

/-- Whether a DEBUG entry whose key signed the response covers a scope (R606). -/
def signerCovers (s : State) (scope : Nat) (signers : List (BitVec 256)) : Bool :=
  s.sec.keys.any (fun k => decide (k.role = 3) && decide (scope &&& k.scope = scope) && signers.contains k.digest)

/-- A refused unlock: the nonce is used up (R606). -/
def refuseUnlock (s : State) (r : Request) : State :=
  respond (bump (raise (s.withSec (fun c => { c with challenge := none })) 0x8021 0 3 6 r.bind.port) O.secCntAuthFail)
    r stAuth

/-- Grants scopes (R605, R608): the SCAN wipe begins after the response. -/
def grantScopes (s : State) (r : Request) (scope : Nat) : State :=
  let s1 := s.withSec (fun c => { c with
    challenge := none, unlocks := c.unlocks + 1, scopes := c.scopes ||| scope, wiping := decide (4 ≤ scope) })
  respond (raise s1 0x8020 0 3 6 r.bind.port) r stOk

/-- UNLOCK_RESPONSE (R605 to R608): `signers` are the keys that verify the signature over the nonce held, the identity
digest, the scope and the count. A nonce is valid for 60 s. -/
def execUnlockResponse (q : WcpReq) (scope count : Nat) (signers : List (BitVec 256)) (s : State) : Res :=
  .next (wcpRow q 0x0802 false inAny neverBusy (fun r s =>
    if 4 ≤ scope ∧ ¬ (s.dev = .idle ∨ s.dev = .fenced) then respond s r stBadState
    else match s.sec.challenge with
      | none => refuseUnlock s r
      | some (held, _, at_) =>
        if held = scope ∧ count = s.sec.unlocks + 1 ∧ s.cycle ≤ at_ + 6000000000 ∧ signerCovers s scope signers then
          grantScopes s r scope
        else refuseUnlock s r) s)

/-- SCAN_WIPE_DONE (R605): every session closed, on-chip memory and planes zeroed, JTAG open. -/
def execScanWipeDone (s : State) : Res :=
  .next (if s.sec.wiping = false then s
    else
      let s1 := s.wcp.sessions.foldl (fun s x => closeSession s x.id 2) s
      let wipe (k : Core) : Core := { k with l1 := [], engines := k.engines.map (fun e => (e.1, { e.2 with planes := [] })) }
      let s2 : State := { s1 with
        mem := memZero (memZero s1.mem 0 0x500000000) 0x800000000 0x810000000
        bad := s1.bad.filter (fun w => decide (0x810000000 ≤ w))
        upsets := s1.upsets.filter (fun u => decide (0x810000000 ≤ u.1))
        ccache := []
        cacheErr := []
        cores := s1.cores.map (fun e => (e.1, wipe e.2))
        wcp := { s1.wcp with nonces := [], queue := [], running := [], img := none, reasm0 := [] } }
      s2.withSec (fun c => { c with wiping := false, jtag := true }))

end Sys2Proof.Machine
end

