-- ==== Sys2Proof/Machine/Seam.lean ====
section
/-! DEFINITION. The meanings of the seam-link commands (R423 to R458, R640, R641). -/

namespace Sys2Proof.Machine

/-- LANE_FAIL (R425). -/
def execLaneFail (n lane : Nat) (s : State) : Res := .next (failLane s n lane)

/-- LANE_ERROR_WINDOW (R425, R432): a 1 ms window ends; the lane's count of corrected symbol errors is
shown in `SEAM.LANEl.ERRORS`, and a count above the threshold in force fails the lane. `symbols` is the
count of the window and `errors` the corrected codewords that it adds to `CNT_FEC_CORR`. -/
def execLaneErrorWindow (n lane symbols errors : Nat) (s : State) : Res :=
  let s1 := csrPutBits (bump s (O.seamCntFecCorr n) errors) (O.seamLane n lane) 19 0
    (min symbols 0xFFFFF)
  .next (if (getLink s n).laneThr < symbols then failLane s1 n lane else s1)

/-- Applies a bitmap of active lanes that the partner named (R426, R427, R429, R447). DESIGN CHOICE (log entry 96): a map of the
same width is a substitution, one lane fewer a narrowing, two lanes fewer at once a shedding, and a wider one the return from
it. -/
def applyLaneMap (s : State) (n map : Nat) : State :=
  let k := { getLink s n with mapNext := none }
  let m := map % 32
  if k.st ≠ .up then s
  else if m = k.active then setLink s n k
  else if laneCount m < 2 then takeDown s n true
  else
    let gone := k.active &&& (31 - m)
    let fewer := { k with failed := k.failed ||| gone, preShed := k.preShed.map (fun p => (p &&& (31 - gone)) ||| m) }
    let s1 :=
      if laneCount m = laneCount k.active then
        raise (bump (setLink s n { fewer with active := m }) (O.seamCntSpare n)) 0x5001 1 3 5 n
      else if laneCount m + 1 = laneCount k.active then
        raise (setLink s n { fewer with active := m, reform := true }) 0x5002 0 3 5 n
      else if laneCount m < laneCount k.active then
        setLink s n { k with preShed := some k.full, active := m, reform := true }
      else setLink s n { k with active := m, preShed := none, failed := k.failed &&& (31 - m) }
    replayWaited (settleLanes s1 n) n

/-- LANE_MAP_RX (R429): the map applies at the flit it names. -/
def execLaneMapRx (n map seq : Nat) (s : State) : Res :=
  let k := getLink s n
  .next (if k.st ≠ .up then s
    else if k.rxSeq = seq then applyLaneMap s n map
    else setLink s n { k with mapNext := some (map, seq) })

/-- Forgets the flits that an `ACK` covers (R436). -/
def ackFlits (us : List TxFlit) (ack : Nat) : List TxFlit :=
  if us.any (fun u => u.seq = ack) then (us.dropWhile (fun u => u.seq ≠ ack)).drop 1 else us

/-- Discards a flit and asks for the expected one, once (R437). -/
def nakFlit (s : State) (n : Nat) : State :=
  let k := getLink s n
  if k.nakSent then s
  else sendCtl (setLink s n { k with nakSent := true }) n (.nak k.rxSeq)

/-- Accepts a DATA flit in order (R437). -/
def acceptFlit (s : State) (n : Nat) (f : Flit) : State :=
  let k := getLink s n
  let part := k.rxPart.getD f.vc 0 + 1
  let k1 : Link := { k with
    rxSeq := (k.rxSeq + 1) % 4096
    accepted := true
    nakSent := false
    rxPart := k.rxPart.set f.vc (if f.eof then 0 else part)
    rxq := match f.eof, f.frame with
      | true, some fr => k.rxq ++ [(f.vc, fr)]
      | _, _ => k.rxq }
  let s1 := bump (setLink s n k1) (O.seamCntRx n)
  match k1.mapNext with
  | some (m, q) => if q = k1.rxSeq then applyLaneMap s1 n m else s1
  | none => s1

/-- FLIT_RX (R432 to R437, R641). -/
def execFlitRx (n : Nat) (f : Flit) (s : State) : Res :=
  let s1 := if f.codeword = 1 then bump s (O.seamCntFecCorr n)
    else if f.codeword = 2 then bump s (O.seamCntFecUncorr n) else s
  let k := getLink s1 n
  if !f.good || decide (f.codeword = 2) then
    let s2 := bump s1 (O.seamCntCrc n)
    .next (if k.st = .up then nakFlit s2 n else s2)
  else if f.kind = 3 ∨ k.st ≠ .up then .next s1
  else
    let s2 := if f.ackv then pump (setLink s1 n { k with unacked := ackFlits k.unacked f.ack }) n else s1
    .next (if f.kind ≠ 0 then s2
      else if f.seq = (getLink s2 n).rxSeq then acceptFlit s2 n f
      else nakFlit s2 n)

/-- NAK_RX (R437, R438): replays from the named flit; during a change of lanes the replay waits, and then starts from the
oldest unacknowledged flit. -/
def execNakRx (n seq : Nat) (s : State) : Res :=
  let k := getLink s n
  .next (if k.st ≠ .up then s else replayFrom s n (k.unacked.dropWhile (fun u => u.seq ≠ seq)))

/-- ACK_TIMEOUT (R437, R438). -/
def execAckTimeout (n : Nat) (s : State) : Res :=
  let k := getLink s n
  .next (if k.st = .up then replayFrom s n k.unacked else s)

/-- The credits after a CREDIT flit, by VC: how far each count rose, and whether a VC would hold more
than its buffer (R440, R441). -/
def takeCredits (cfg credits last counts : List Nat) : List Nat × Bool :=
  let up := (List.range 4).map (fun v =>
    credits.getD v 0 + (counts.getD v 0 + 65536 - last.getD v 0) % 65536)
  ((List.range 4).map (fun v => min (up.getD v 0) (cfg.getD v 0)),
   (List.range 4).any (fun v => decide (cfg.getD v 0 < up.getD v 0)))

/-- CREDIT_RX (R440, R441, R641). -/
def execCreditRx (n : Nat) (counts : List Nat) (s : State) : Res :=
  let k := getLink s n
  if k.st ≠ .up ∧ ¬ (k.st = .training ∧ k.stage = .identity) then .next s
  else
    let (c, tooMany) := takeCredits k.cfg k.credits k.lastCount counts
    let s1 := setLink s n { k with credits := c, lastCount := counts, gotCredit := true }
    .next (if tooMany then takeDown (raise s1 0x5005 2 3 5 n) n (k.st = .up) else pump s1 n)

/-- CREDIT_SEND (R440): not while the interleave re-forms (R427). -/
def execCreditSend (n : Nat) (s : State) : Res :=
  let k := getLink s n
  .next (if k.st = .up ∧ k.reform = false ∧ k.freed ≠ k.reported then sendCredit s n else s)

/-- KEEPALIVE_SEND (R442): not while the interleave re-forms (R427). -/
def execKeepaliveSend (n : Nat) (s : State) : Res :=
  .next (if linkUpNow s n ∧ (getLink s n).reform = false then emitCtl s n .keepalive else s)

/-- LINK_SILENCE (R442). -/
def execLinkSilence (n : Nat) (s : State) : Res :=
  .next (if linkUpNow s n then takeDown s n true else s)

/-- Whether a received frame is for this device (R450). A device without a live group table takes
only link management. -/
def frameForUs (s : State) (f : LinkFrame) : Bool :=
  match s.mend.table with
  | none => decide (f.proto = 3)
  | some t => decide (f.dst = t.self) || decide ((routeOf s f.dst).1 = 0xFE) ||
      (!linkUpNow s (routeOf s f.dst).1 && decide ((routeOf s f.dst).2 = 0xFE))

/-- Whether a frame is a mend frame of a reserved kind (Table 6 of *Mending: surviving device failure*). -/
def reservedKind : FrameBody → Bool
  | .mend h _ => decide (h.kind = 0) || decide (0xD < h.kind)
  | _ => false

/-- Acts on a received frame (R435, R450, R505): `CNT_FWD` counts a frame that leaves on a link. -/
def frameIn (s : State) (n vc : Nat) (f : LinkFrame) : State :=
  let drop := countDiscard (freeSlots s n vc f.flits) n
  if f.body.proto = 0 ∨ f.body.vc ≠ vc then drop
  else if frameForUs s f then
    if f.proto = 4 then drop
    else if reservedKind f.body then bump (freeSlots s n vc f.flits) O.groupCntBadFrame
    else deliverFrom s vc f (some n)
  else if s.mend.table = none then drop
  else if f.ttl = 0 then raise drop 0x5007 0 3 5 n
  else sendOn (if wayOf s f.dst = .none then s else bump s (O.seamCntFwd n)) vc { f with ttl := f.ttl - 1 } (some n)

/-- FRAME_RX (R450): the oldest frame that the link has received whole. -/
def execFrameRx (n : Nat) (s : State) : Res :=
  let k := getLink s n
  .next (match k.rxq with
    | [] => s
    | (vc, f) :: rest => frameIn (setLink s n { k with rxq := rest }) n vc f)

/-- OPTICAL_READY (R444). -/
def execOpticalReady (n : Nat) (s : State) : Res :=
  let k := getLink s n
  let o := getOe s (n / 3)
  .next (if k.st = .training ∧ k.stage = .optical ∧ (o.st = 2 ∨ o.st = 3) then
      setLink (setOe s (n / 3) { o with st := 3 }) n { k with stage := .lock }
    else s)

/-- The lanes of a link whose laser input is off (R452, R454). -/
def darkLanes (s : State) (n : Nat) : Nat :=
  let o := getOe s (n / 3)
  ((List.range 5).filter (fun l => if n % 3 * 5 + l < 8 then o.a.off else o.b.off)).foldl (fun a l => a + 2 ^ l) 0

/-- LANE_LOCK (R444, R445): a lane whose transmitter has no laser input has failed (R425, R454); with fewer than two lanes
locked, training starts again. -/
def execLaneLock (n locked : Nat) (s : State) : Res :=
  let k := getLink s n
  let m := locked % 32 &&& (31 - darkLanes s n)
  .next (if k.st = .training ∧ k.stage = .lock then
      if laneCount m < 2 then startTraining s n
      else setLink s n { k with lock := m, active := lowestLanes m 4, failed := 31 - m, stage := .equalise }
    else s)

/-- EQUALISATION (R444). -/
def execEqualisation (n : Nat) (s : State) : Res :=
  let k := getLink s n
  .next (if k.st = .training ∧ k.stage = .equalise then setLink s n { k with stage := .fec } else s)

/-- FEC_LOCK (R641): the end starts sending LINK_ID and CREDIT. -/
def execFecLock (n : Nat) (s : State) : Res :=
  let k := getLink s n
  .next (if k.st = .training ∧ k.stage = .fec then
      let s1 := setLink s n { k with stage := .identity }
      sendCredit (emitCtl s1 n (ownLinkId s1 n)) n
    else s)

/-- LINK_ID_RESEND (R641). -/
def execLinkIdResend (n : Nat) (s : State) : Res :=
  let k := getLink s n
  .next (if k.st = .training ∧ k.stage = .identity then
      sendCredit (emitCtl s n (ownLinkId s n)) n
    else s)

/-- LINK_ID_RX (R446): `a` is the partner's board tag, `b` holds its `SELF` with bit 15 and its link
number above. -/
def execLinkIdRx (n : Nat) (a b : BitVec 32) (s : State) : Res :=
  let k := getLink s n
  if k.st = .up ∨ (k.st = .training ∧ k.stage = .identity) then
    let v := 0x80000000 + bitsOf b.toNat 15 15 * 0x40000000 + bitsOf b.toNat 21 16 * 0x10000 +
      bitsOf b.toNat 13 0
    .next (csrPut (csrPut (setLink s n { k with gotId := true }) (O.seamPartnerA n) v)
      (O.seamPartnerB n) a.toNat)
  else .next s

/-- LINK_UP (R445, R447, R641). -/
def execLinkUp (n : Nat) (s : State) : Res :=
  let k := getLink s n
  if k.st = .training ∧ k.stage = .identity ∧ k.gotId ∧ k.gotCredit ∧ k.credits = k.cfg then
    let s1 := raise (setLink s n { k with st := .up }) 0x5004 0 3 5 n
    let s2 := if laneCount k.active < 4 then raise s1 0x5002 0 3 5 n else s1
    .next (if csrBit s2 (O.seamCtrl n) 2 ∨ 3 ≤ s2.power.level then shedLanes s2 n else s2)
  else .next s

/-- TRAINING_TIMEOUT (R445). -/
def execTrainingTimeout (n : Nat) (s : State) : Res :=
  .next (if (getLink s n).st = .training then startTraining s n else s)

/-- SEAM_RETRAIN (R640). -/
def execSeamRetrain (n : Nat) (s : State) : Res :=
  .next (if (getLink s n).st = .off then
      (if csrBit s (O.seamCtrl n) 0 then startTraining s n else s)
    else takeDown s n (linkUpNow s n))

/-- SEAM_ENABLE (R444, R640). -/
def execSeamEnable (n : Nat) (en : Bool) (s : State) : Res :=
  let s1 := csrPutBits s (O.seamCtrl n) 0 0 (b2n en)
  .next (match en, decide ((getLink s n).st = .off) with
    | true, true => startTraining s1 n
    | true, false => s1
    | false, true => s1
    | false, false => takeDown s1 n (linkUpNow s n))

/-- SEAM_FORCE_MIN (R447). -/
def execSeamForceMin (n : Nat) (on : Bool) (s : State) : Res :=
  let s1 := csrPutBits s (O.seamCtrl n) 2 2 (b2n on)
  .next (if on then shedLanes s1 n
    else if s1.power.level < 3 then unshedLanes s1 n else s1)

/-- The lanes, by link and lane, that an input of an engine feeds (R452): engine lanes 0 to 7 from A,
8 to 14 from B. -/
def fedLanes (oe : Nat) (inputB : Bool) : List (Nat × Nat) :=
  ((List.range 15).filter (fun e => decide (8 ≤ e) = inputB)).map (fun e => (3 * oe + e / 5, e % 5))

/-- Fails lanes that fail together: all are marked before their links act on them (R428, R429). -/
def failLanes (s : State) (ls : List (Nat × Nat)) : State :=
  (ls.map Prod.fst).eraseDups.foldl actOnFailed (ls.foldl (fun s p => markFailed s p.1 p.2) s)

/-- One laser input measured (R453, R454), with whether LASER_LOW is raised and whether its
transmitters turn off now. -/
def measureLaser (x : Laser) (p : Option Int) : Laser × Bool × Bool :=
  let low := match p with
    | some v => decide (v < 1600)
    | none => true
  let off := match p with
    | some v => decide (v < 1400)
    | none => true
  (⟨p, low, x.off || off⟩, low && !x.low, off && !x.off)

/-- Acts on one measured input of an engine. -/
def laserInput (s : State) (oe : Nat) (inputB : Bool) (p : Option Int) : State :=
  let o := getOe s oe
  let (x, isLow, goesOff) := measureLaser (if inputB then o.b else o.a) p
  let s1 := setOe s oe (if inputB then { o with b := x } else { o with a := x })
  let s2 := if isLow then raise s1 0x7002 0 3 11 oe else s1
  if goesOff then failLanes s2 (fedLanes oe inputB) else s2

/-- LASER_MEASURE (R453, R454): powers in units of 0.01 dBm, none below −40.95 dBm. An engine whose
domain is off measures nothing. -/
def execLaserMeasure (oe : Nat) (a b : Option Int) (s : State) : Res :=
  .next (if (getOe s oe).st = 0 then s else laserInput (laserInput s oe false a) oe true b)

/-- LASER_RECOVER (R455). -/
def execLaserRecover (oe : Nat) (inputB : Bool) (s : State) : Res :=
  let o := getOe s oe
  let x := if inputB then o.b else o.a
  let y := { x with off := false }
  .next (match x.power with
    | some v => if x.off ∧ 1700 ≤ v then
        setOe s oe (if inputB then { o with b := y } else { o with a := y })
      else s
    | none => s)

/-- OE_OVERTEMP (R456): the reading in units of 0.5 °C. -/
def execOeOvertemp (oe temp : Nat) (s : State) : Res :=
  let o := getOe s oe
  .next (if o.st = 0 then s
    else if 190 ≤ temp ∧ o.st ≠ 4 then
      engineLinksDown (raise (setOe s oe { o with temp := temp, st := 4, back := o.st }) 0x7003 2 3 11 oe) oe
    else setOe s oe { o with temp := temp })

/-- OE_COOLED (R456): the engine resumes in the state in which it became hot. -/
def execOeCooled (oe temp : Nat) (s : State) : Res :=
  let o := getOe s oe
  .next (if o.st = 0 then s
    else setOe s oe { o with temp := temp, st := if o.st = 4 ∧ temp < 180 then o.back else o.st })

/-- INTERLEAVE_REFORM_DONE (R427, R429, R438): the control flits that waited and the flits go again, the replay from the oldest
unacknowledged flit, and a further failed lane is then taken. -/
def execInterleaveReformDone (n : Nat) (s : State) : Res :=
  let k := getLink s n
  .next (if k.st = .up ∧ k.reform then
      let s1 := k.waitCtl.foldl (fun s c => emitCtl s n c) (setLink s n { k with reform := false, waitCtl := [] })
      let s2 := if k.mapNext.isSome then setLink s1 n { getLink s1 n with replayDue := true }
        else replayFlits (setLink s1 n { getLink s1 n with replayDue := false }) n k.unacked
      settleLanes (pump s2 n) n
    else s)

end Sys2Proof.Machine
end

