-- ==== Sys2Proof/Machine/Csr.lean ====
section
/-! DEFINITION. Reading and writing CSRs: access codes (R12 to R14), latches (R38, R554), the states that
refuse a write (R40, R285, R353), and what a write does beside storing its value. -/

namespace Sys2Proof.Machine

/-! ### Reading -/

/-- Whether a block is unpowered after a hard fence (R539): all but management, security and Ethernet. -/
def blockDark (s : State) (off : Nat) : Bool :=
  s.err.hard && decide (s.dev = .fenced) && decide (0x40000 ≤ off) &&
    !(decide (0x90000 ≤ off) && decide (off < 0xA0000))

/-- The engine counter at an offset: core, key and whether its upper half (Table 11 of *Errors, counters,
trace and hang analysis*). -/
def engCounter (off : Nat) : Option (Nat × Nat × Bool) :=
  if off < 0x100000 ∨ 0x200000 ≤ off then none
  else
    let c := (off - 0x100000) / 0x1000
    let o := (off - 0x100000) % 0x1000
    if o < 0x400 ∨ 0x600 ≤ o ∨ 0x60 ≤ (o - 0x400) % 0x80 then none
    else some (c, perfKeyOf ((o - 0x400) / 0x80) ((o - 0x400) % 0x80 / 8), decide (o % 8 = 4))
where
  /-- The key of counter `k` of engine `e`: busy 0, stalled 1, idle 2, reason r 3 + r. -/
  perfKeyOf (e k : Nat) : Nat := e * 16 + k

/-- Clears the RC fields of a register that has been read (R12). -/
def readClear (s : State) (off : Nat) : State :=
  let v := (csrFields off).foldl (fun w f =>
    if f.acc = .rc then setBits w f.hi f.lo (if off = O.powerVin then 0xFFFF else 0) else w) (csrGet s off)
  if v = csrGet s off then s else csrPut s off v

/-- A read of `GLOBAL.CYCLE_LO`: the upper half is latched for the reader (R38). -/
def readCycleLo (s : State) (reader : Nat) : State × Nat :=
  ({ s with cycleHi := tset s.cycleHi reader (BitVec.ofNat 32 (s.cycle / 2 ^ 32)) }, s.cycle % 2 ^ 32)

/-- A read of the lower half of an engine counter: the upper half is latched for the reader (R554). -/
def readEngLo (s : State) (reader c key : Nat) : State × Nat :=
  let v := tget (getCore s c).perf key 0
  ({ s with engHi := tset s.engHi reader (tset (tget s.engHi reader []) (c * 64 + key) (v / 2 ^ 32)) }, v % 2 ^ 32)

/-- Whether a register lies in the blocks that R40 protects: PRU, MANGLE, GROUP, MEND, SCORE, CORE. -/
def activationGuards (off : Nat) : Bool :=
  (decide (0x40000 ≤ off) && decide (off < 0x80000)) || (decide (0xA0000 ≤ off) && decide (off < 0xB0000)) ||
    decide (0x100000 ≤ off)

/-- What the registers of the guarded blocks show: in ACTIVATING what they showed when it was entered (R41). -/
def shown (s : State) : State :=
  match s.before with
  | some b =>
    if s.dev = .activating then
      { s with csr := b.csr, weave := b.weave, step := b.step, streams := b.streams, cores := b.cores, pru := b.pru
               mangle := b.mangle, mend := b.mend, score := b.score }
    else s
  | none => s

/-- Whether a register clears as it is read (R12). -/
def clearsOnRead (off : Nat) : Bool := (csrFields off).any (fun f => decide (f.acc = .rc))

/-- The value that a read of a register answers (R41). A register that clears as it is read, which counts on through
activation, answers its count. DESIGN CHOICE (log entry 113): the registers outside the blocks of R40, and those that show
power (`POWER.DOM_STATE`, `DOM_INFO`, `HBM.READY`) as R566 and R639 have them, answer live during an activation. -/
def readValue (s : State) (off : Nat) : Nat :=
  csrValue (if activationGuards off ∧ clearsOnRead off = false then shown s else s) off

/-- A read of a CSR by a reader (R12, R14, R41, R44). -/
def csrRead (s : State) (reader off : Nat) : State × Nat :=
  if (csrLocate off).isNone then (bump16 s O.globalCsrMiss, 0)
  else if blockDark s off then (s, 0)
  else if off = O.globalCycleLo then readCycleLo s reader
  else if off = O.globalCycleHi then (s, (tget s.cycleHi reader 0#32).toNat)
  else match engCounter off with
    | some (c, k, false) => readEngLo s reader c k
    | some (c, k, true) => (s, tget (tget s.engHi reader []) (c * 64 + k) 0)
    | none => (readClear s off, readValue s off)

/-! ### The fields a write leaves alone -/

/-- Whether the value written to a field has an effect, where its description gives values that have none.
`v` is the whole word written. -/
def fieldTakes (s : State) (off : Nat) (f : Fld) (v : Nat) : Bool :=
  let x := bitsOf v f.hi f.lo
  if off = O.pruAlarmSteps ∨ off = O.mendFillRate ∨ off = O.errlogHangMs ∨ off = O.hbmScrub then decide (x ≠ 0)
  else if off = O.pruSpotRate then decide (10 ≤ x) && decide (x ≤ 20)
  else if off = O.mendCheck then decide (x ≤ 16)
  else if off = O.powerCap then decide (400 ≤ x) && decide (x ≤ 1200)
  else if off = O.powerDomSel then decide (x ≤ 57)
  else if off = O.ethWcpPort then decide (x ≠ 0 ∧ x ≠ 4791 ∧ x ≠ 68 ∧ x ≠ csrGet s O.ethScorePort)
  else if off = O.ethScorePort then decide (x ≠ 0 ∧ x ≠ 4791 ∧ x ≠ 68 ∧ x ≠ csrGet s O.ethWcpPort)
  else if 0x50100 ≤ off ∧ off < 0x50180 then
    if off % 8 = 4 then decide (x ≠ 0)
    else if f.hi = 28 then decide (x ≤ 16)
    else if f.hi = 21 then decide (x < 2)
    else if f.hi = 19 then decide (x ≤ 11)
    else true
  else if 0x80000 ≤ off ∧ off < 0x86000 then
    let n := (off - 0x80000) / 0x400
    if off = O.seamArb n then decide (x ≠ 0)
    else if off = O.seamVcCredA n then
      decide (bitsOf v 10 0 + bitsOf v 26 16 + csrBits s (O.seamVcCredB n) 10 0 + csrBits s (O.seamVcCredB n) 26 16 ≤ 1536)
    else if off = O.seamVcCredB n then
      decide (bitsOf v 10 0 + bitsOf v 26 16 + csrBits s (O.seamVcCredA n) 10 0 + csrBits s (O.seamVcCredA n) 26 16 ≤ 1536)
    else true
  else if 0x90100 ≤ off ∧ off < 0x90500 then
    let o := (off - 0x90100) % 0x80
    if o = 0x0C ∧ f.hi = 11 then decide (x ≠ 4095)
    else if o = 0x18 then decide (1280 ≤ x) && decide (x ≤ 9000)
    else if o = 0x20 then decide (x ≤ 32)
    else if o = 0x48 then decide (x ≤ 128)
    else true
  else if 0x100000 ≤ off then
    let c := (off - 0x100000) / 0x1000
    if off = O.corePwrReq c then decide (x < 2)
    else if off = O.coreTraceBase c then !csrBit s (O.coreTraceCtrl c) 0
    else if off = O.coreTraceSize c then !csrBit s (O.coreTraceCtrl c) 0 && decide (12 ≤ x) && decide (x ≤ 30)
    else true
  else true

/-- The bits of a word written that a register can hold: the reserved bits of `ETH.PCP_MAP` stay zero. -/
def heldBits (off v : Nat) : Nat :=
  if 0x90100 ≤ off ∧ off < 0x90500 ∧ (off - 0x90100) % 0x80 = 0x10 then v &&& 0x77777777 else v

/-- The stored value of a register after a write, by the access code of each field (R12). -/
def writtenValue (s : State) (off v : Nat) : Nat :=
  (csrFields off).foldl (fun w f =>
    match f.acc with
    | .rw => if fieldTakes s off f v then setBits w f.hi f.lo (bitsOf (heldBits off v) f.hi f.lo) else w
    | .rwl => if csrBit s O.globalLock 0 then w else setBits w f.hi f.lo (bitsOf v f.hi f.lo)
    | .w1c => if bitsOf v f.hi f.lo = 1 then setBits w f.hi f.lo 0 else w
    | _ => w) (csrGet s off)

/-- A write that only stores. -/
def csrStore (s : State) (off v : Nat) : State :=
  if writtenValue s off v = csrGet s off then s else csrPut s off (writtenValue s off v)

/-! ### Effects of a write -/

/-- Writes one chunk of 4 KiB of a trace buffer to its ring in HBM, padded with zeros (R290, R543). A write that R300
refuses discards the buffer and stops the trace (R544). -/
def traceChunk (s : State) (c : Nat) : State :=
  let k := getCore s c
  let wr := csrGet s (O.coreTraceWr c)
  let a := csrBits s (O.coreTraceBase c) 27 0 * 4096 + wr
  let may := class2May s true a 4096 && inHbm a 4096
  if may ∧ mayGo s ⟨.drain c, 4⟩ a 4096 = false then waitFor s ⟨.drain c, 4⟩ a 4096
  else if may then
    let bs := k.trace.take 4096
    let s1 := agentWrite (setCore (goOn s ⟨.drain c, 4⟩ a 4096) c { k with trace := k.trace.drop 4096 }) a
      (bs ++ List.replicate (4096 - bs.length) 0#8)
    let w := (wr + 4096) % ringBytes s c
    let full := decide (w = csrGet s (O.coreTraceRd c) % ringBytes s c)
    tracePump (csrPut (setCore s1 c { getCore s1 c with ringFull := full }) (O.coreTraceWr c) w) c
  else
    raise (csrPutBits (setCore s c { k with trace := [], tracePend := [] }) (O.coreTraceCtrl c) 0 0 0) 0x9013 0 3 1 c

/-- Whether a drain may write now: the buffer holds `n` bytes, the ring has room, no sag holds class-2
traffic (R572). -/
def mayDrain (s : State) (c n : Nat) : Bool :=
  decide (n ≤ (getCore s c).trace.length) && ringRoom s c && decide (s.power.level = 0)

/-- Drains every full chunk and the last part of a trace buffer, at most `fuel` chunks. -/
def traceFlushN (s : State) (c : Nat) : Nat → State
  | 0 => s
  | fuel + 1 => if mayDrain s c 1 then traceFlushN (traceChunk s c) c fuel else s

/-- Flushes a trace buffer of at most 16 KiB (R543). -/
def traceFlushCore (s : State) (c : Nat) : State := traceFlushN s c 4

/-- A write to `CORE.TRACE_CTRL` (R281 to R283): a thread that starts tracing writes a SYNC, one that stops
writes the outcomes it has collected; `FLUSH` drains the buffer. -/
def writeTraceCtrl (s : State) (c v : Nat) : State :=
  let stops (t : Nat) : Bool := traceArmed s c t && !(bitOf v 0 && bitOf v (8 + t))
  let was := (List.range 8).filter (traceArmed s c)
  let s1 := (List.range 8).foldl (fun s t => if stops t then traceTnt s c t else s) s
  let s2 := tracePump (csrStore s1 (O.coreTraceCtrl c) v) c
  let s3 := (List.range 8).foldl (fun s t =>
    let st := (getThread s c t).st
    if was.contains t || st = .halted || st = .exception then s else traceStart s c t) s2
  if bitOf v 16 then traceFlushCore s3 c else s3

/-- Restarts threads at their entry points (R252, R284). -/
def restartThreads (s : State) (c bits : Nat) : State :=
  (List.range 8).foldl (fun s t => if bitOf bits t then startThread s c t else s) s

/-- Halts threads (R284). -/
def haltThreads (s : State) (c bits : Nat) : State :=
  (List.range 8).foldl (fun s t => if bitOf bits t then stopThread s c t .halted else s) s

/-- Resets stations (R204, R284). -/
def resetStns (s : State) (c bits : Nat) : State :=
  (List.range 13).foldl (fun s n => if bitOf bits n then startStnReset s c n else s) s

/-- Zeroes every engine counter of a core (R554). -/
def clearPerf (s : State) (c : Nat) : State := setCore s c { getCore s c with perf := [] }

/-- A write to a CORE register beside its stored fields. -/
def writeCore (s : State) (c o v : Nat) : State :=
  let off := 0x100000 + c * 0x1000 + o
  if o = 0 then restartThreads (haltThreads s c (bitsOf v 7 0)) c (bitsOf v 15 8)
  else if o = 8 then resetStns s c (bitsOf v 12 0)
  else if o = 0x100 then writeTraceCtrl s c v
  else if o = 0x600 then
    let s1 := csrStore s off v
    if bitOf v 0 then clearPerf s1 c else s1
  else if o = 0x110 then
    (let s1 := csrStore s off v
     tracePump (setCore s1 c { getCore s1 c with ringFull := false }) c)
  else if o = 0x64 then retainCluster (csrStore s off v) (clusterOf c)
  else csrStore s off v

/-- A write to a word of the PRU entry window (R170): the pending copy of the selected entry changes, which
starts as a copy of the active entry. -/
def writePending (s : State) (i : Nat) (v : BitVec 32) : State :=
  let n := csrBits s O.pruSel 11 0
  let e := (tget? s.pru.pending n).getD (tget s.pru.active n RuleEntry.zero)
  { s with pru := { s.pru with pending := tset s.pru.pending n ⟨e.w.set i v⟩ } }

/-- The newest step whose preceding boundary has begun (R173). -/
def begunTo (s : State) : Nat := if s.pru.stage = .none then s.step else s.pru.step + 1

/-- A write to `PRU.APPLY_STEP` (R173): RANGE for a boundary that has begun. -/
def writeApply (s : State) (v : Nat) : State × Nat :=
  if v = 0xFFFFFFFF ∨ begunTo s < v then (csrPut s O.pruApplyStep v, 0) else (s, stRange)

/-- Discards every pending entry (R192). -/
def discardPending (s : State) : State := { s with pru := { s.pru with pending := [] } }

/-- Whether the live table may be released now (R384). -/
def mayRelease (s : State) : Bool := s.dev = .idle || (s.dev = .quiesced && s.mend.lost)

/-- Releases the live table (R384): nothing of the membership stays, and a request that waits for it is
answered BAD_STATE. -/
def releaseGroup (s : State) : State :=
  if s.mend.table.isNone then s
  else
    let s1 := (s.wcp.running.filter (fun x => x.req.opcode = 0x0602 || x.req.opcode = 0x0603)).foldl
      (fun s x => endDeferred s x stBadState 0) s
    announceIds { s1 with mend := MendSt.reset }

/-- Empties the log and the fatal record (R553). -/
def clearLog (s : State) : State := s.withErr (fun e => { e with log := [], fatal := none })

/-- The state that a meaning answers. -/
def stateOf (r : Res) (s : State) : State := match r with | .next t => t | _ => s

/-- A write to `SEAM.CTRL` of a link (R444, R447, R640). -/
def writeSeamCtrl (s : State) (n v : Nat) : State :=
  let s1 := if bitOf v 0 = csrBit s (O.seamCtrl n) 0 then s else stateOf (execSeamEnable n (bitOf v 0) s) s
  let s2 := if bitOf v 2 = csrBit s1 (O.seamCtrl n) 2 then s1 else stateOf (execSeamForceMin n (bitOf v 2) s1) s1
  if bitOf v 1 then stateOf (execSeamRetrain n s2) s2 else s2

/-- What a write does, with its status: 0, or RANGE. -/
def csrEffect (s : State) (off : Nat) (v : BitVec 32) : State × Nat :=
  let n := v.toNat
  if 0x100000 ≤ off then (writeCore s ((off - 0x100000) / 0x1000) ((off - 0x100000) % 0x1000) n, 0)
  else if off = O.globalBoardTag then
    (let s1 := csrStore s off n
     if csrGet s1 off = csrGet s off then s1 else announceIds s1, 0)
  else if off = O.powerCtrl then
    (let s1 := csrStore s off n
     if bitOf n 0 then s1 else { s1 with power := { s1.power with capDuty := [] } }, 0)
  else if off = O.errlogClear then (if bitOf n 0 then clearLog s else s, 0)
  else if O.pruEntryW 0 ≤ off ∧ off < O.pruEntryW 16 then (writePending s ((off - O.pruEntryW 0) / 4) v, 0)
  else if off = O.pruApplyStep then writeApply s n
  else if off = O.pruPending then (if bitOf n 31 then discardPending s else s, 0)
  else if O.mangleTagW 0 ≤ off ∧ off < O.mangleTagW 16 then (writeTagWord s ((off - O.mangleTagW 0) / 4) v, 0)
  else if off = O.groupCtrl then (if bitOf n 0 ∧ mayRelease s then releaseGroup s else s, 0)
  else if 0x80000 ≤ off ∧ off < 0x86000 ∧ (off - 0x80000) % 0x400 = 0 then (writeSeamCtrl s ((off - 0x80000) / 0x400) n, 0)
  else if off = O.ethMode then (writeEthMode s n, 0)
  else if O.ethpPstatus 0 ≤ off ∧ off < O.ethpPstatus 8 ∧ (off - O.ethpPstatus 0) % 0x80 = 0x1C then
    (writeIpv4 s ((off - O.ethpPstatus 0) / 0x80) n, 0)
  else (csrStore s off n, 0)

/-- Whether the state refuses a WCP write to a register with BUSY (R40, R285, R353, `GROUP.SEED`). -/
def writeBusy (s : State) (off : Nat) : Bool :=
  if s.dev = .activating ∧ activationGuards off then true
  else if 0x100000 ≤ off ∧ ((off - 0x100000) % 0x1000 = 0 ∨ (off - 0x100000) % 0x1000 = 8) then
    !(s.dev = .quiesced || (s.dev = .running && coreClass s ((off - 0x100000) / 0x1000) = 0))
  else if (0x50100 ≤ off ∧ off < 0x50180) ∨ (O.mangleTagW 0 ≤ off ∧ off < O.mangleTagW 16) ∨ off = O.groupSeed then
    !(s.dev = .idle || s.dev = .quiesced)
  else false

/-- A WCP write to a CSR, with its status: OK, BUSY or RANGE. -/
def csrWrite (s : State) (off : Nat) (v : BitVec 32) : State × Nat :=
  if (csrLocate off).isNone then (bump16 s O.globalCsrMiss, 0)
  else if writeBusy s off then (s, stBusy)
  else if blockDark s off then (s, 0)
  else csrEffect s off v

/-- A WCP write as a command of its own: a refused one changes nothing. -/
def hostWrite (s : State) (off : Nat) (v : BitVec 32) : State := (csrWrite s off v).1

/-- A write by the CSRW of a thread to its own core's block (R45). -/
def coreWrite (s : State) (c o : Nat) (v : BitVec 32) : State := (csrEffect s (0x100000 + c * 0x1000 + o) v).1

end Sys2Proof.Machine
end

