-- ==== Sys2Proof/Machine/WeaveParse.lean ====
section
/-! DEFINITION. A weave image read out of memory (R235, R245 to R249): its directory, and what each
section says. Nothing is checked here. -/

namespace Sys2Proof.Machine

/-- A directory entry (R235). -/
structure WSec where
  type : Nat
  rsv : Nat
  off : Nat
  len : Nat
  crc : Nat
  deriving DecidableEq, Repr

/-- An image in memory: where it starts. -/
structure WImg where
  mem : Memory
  base : Nat
  deriving DecidableEq, Repr

/-- A little-endian number of an image. -/
def WImg.num (w : WImg) (off n : Nat) : Nat := memNum w.mem (w.base + off) n

/-- Bytes of an image. -/
def WImg.bytes (w : WImg) (off n : Nat) : List Byte := memReads w.mem (w.base + off) n

/-- Whether bytes of an image are all zero. -/
def WImg.zero (w : WImg) (off n : Nat) : Bool := (w.bytes off n).all (fun b => b = 0#8)

/-- `LENGTH` of the header (Table 8). -/
def WImg.length (w : WImg) : Nat := w.num 0x10 8

/-- The directory, of at most 16 entries. -/
def WImg.secs (w : WImg) : List WSec :=
  (List.range (min (w.num 6 2) 16)).map (fun i =>
    let o := 0x40 + 16 * i
    ⟨w.num o 2, w.num (o + 2) 2, w.num (o + 4) 4, w.num (o + 8) 4, w.num (o + 12) 4⟩)

/-- The section of a type. -/
def WImg.sec (w : WImg) (t : Nat) : Option WSec := w.secs.find? (fun x => decide (x.type = t))

/-- Whether a section of a type stands in the image. -/
def WImg.has (w : WImg) (t : Nat) : Bool := (w.sec t).isSome

/-- `COUNT` of a section with a 64-byte header, within what its length can hold. -/
def WImg.count (w : WImg) (x : WSec) (size : Nat) : Nat := min (w.num x.off 4) (x.len / size)

/-- The items of a section with a 64-byte header, each of `size` bytes, read from its offset. -/
def WImg.items {α : Type} (w : WImg) (t size : Nat) (f : Nat → α) : List α :=
  match w.sec t with
  | some x => (List.range (w.count x size)).map (fun i => f (x.off + 0x40 + size * i))
  | none => []

/-- A stream-table entry (Table 10). -/
def WImg.stream (w : WImg) (o : Nat) : StreamEnt :=
  let n (i k : Nat) : Nat := w.num (o + i) k
  { pCore := n 0 1, pStn := n 1 1 % 16, pInst := n 1 1 / 16, pSid := n 2 1 % 64, depth := n 3 1
    cCore := n 4 1, cStn := n 5 1 % 16, cInst := n 5 1 / 16, cSid := n 6 1 % 64, ring := bitOf (n 7 1) 0
    slots := n 8 4, slotBytes := n 0xC 4 }

/-- A ring record (Table 18). -/
def WImg.ring (w : WImg) (o : Nat) : Ring :=
  ⟨(List.range (w.num o 1)).map (fun p => w.num (o + 0x40 + p) 1),
   (List.range (w.num o 1)).map (fun p => w.num (o + 0x80 + p) 1 % 64)⟩

/-- The rings of GRAPH (R247). -/
def WImg.rings (w : WImg) : List Ring :=
  match w.sec 4 with
  | some x => (List.range (min (w.num (x.off + 4) 4) 16)).map (fun r => w.ring (x.off + w.num (x.off + 8) 4 + 192 * r))
  | none => []

/-- A core record of PROGRAMS (Table 15) at `o`, in the section at `x`. -/
def WImg.prog (w : WImg) (x o : Nat) : CoreProg :=
  { core := w.num o 1, threads := w.num (o + 1) 1, load := w.num (o + 0xC) 4
    code := w.bytes (x + w.num (o + 4) 4) (w.num (o + 8) 4)
    entries := (List.range 8).map (fun t => w.num (o + 0x10 + 4 * t) 4)
    drives := (List.range 13).map (fun n => w.num (o + 0x30) 8 / 16 ^ n % 16) }

/-- An ALLOC region (Table 16) at `o`, in the section at `x`. -/
def WImg.region (w : WImg) (x o : Nat) : Region :=
  { base := w.num o 8, length := w.num (o + 8) 4, kind := w.num (o + 0xC) 1, cls := w.num (o + 0xD) 1
    init := if w.num (o + 0xC) 1 = 6 then w.bytes (x + w.num (o + 0x10) 4) (w.num (o + 8) 4) else [] }

/-- A page-map range entry (Table 5 of *Memory tiers and weight streaming*). -/
def WImg.pageRun (w : WImg) (o : Nat) : PageRun :=
  let v := w.num o 8
  { first := bitsOf v 18 0, count := bitsOf v 37 19, write := bitOf v 39, cache := bitOf v 40, role := bitsOf v 43 41 }

/-- A gate record (Table 4). -/
def WImg.gate (w : WImg) (o : Nat) : GateRec :=
  ⟨w.num o 1, w.num (o + 1) 1, w.num (o + 2) 2, w.num (o + 4) 4, w.num (o + 8) 4, w.num (o + 0xC) 4⟩

/-- A variant-block entry (Table 3) at `o`, in the section at `x`. -/
def WImg.block (w : WImg) (x o : Nat) : VBlock :=
  { entry := w.num o 2 % 4096, variant := w.num o 2 / 4096 % 4, staleMax := w.num (o + 3) 1 % 16
    program := w.num (o + 4) 4, gateWait := w.num (o + 8) 4 % 2 ^ 24
    gates := (List.range (w.num (o + 2) 1)).map (fun i => w.gate (x + w.num (o + 0xC) 4 + 16 * i)) }

/-- The offsets of the entries of VARIANTS from `o` on: each is followed by its gate records (R210). -/
def WImg.blockOffs (w : WImg) (hi : Nat) : Nat → Nat → List Nat
  | 0, _ => []
  | fuel + 1, o => if o + 32 ≤ hi then o :: w.blockOffs hi fuel (o + 32 + 16 * w.num (o + 2) 1) else []

/-- The entries of VARIANTS, by their offsets in the image. -/
def WImg.variantOffs (w : WImg) : List Nat :=
  match w.sec 0xA with
  | some x => w.blockOffs (x.off + x.len) (x.len / 32) x.off
  | none => []

/-- A rule entry. -/
def WImg.rule (w : WImg) (o : Nat) : RuleEntry := ⟨(List.range 16).map (fun i => BitVec.ofNat 32 (w.num (o + 4 * i) 4))⟩

/-- A member entry (Table 2 of *Mending: surviving device failure*); a reserved state reads as GONE. -/
def WImg.member (w : WImg) (o : Nat) : Member :=
  let v := w.num o 8
  ⟨bitsOf v 13 0, (mstateOf (bitsOf v 18 16)).getD .gone, bitOf v 19, bitsOf v 45 32⟩

/-- The length of the group table at `o`, to a 64-byte boundary (R385). -/
def WImg.gtabLen (w : WImg) (o : Nat) : Nat :=
  (0x10 + 2 * w.num o 2 + 2 * w.num o 2 * w.num (o + 2) 1 + 63) / 64 * 64

/-- The group table at `o` (Table 4). -/
def WImg.gtab (w : WImg) (o : Nat) : GTab :=
  let m := w.num o 2
  ⟨(List.range m).map (fun i => w.num (o + 0x10 + 2 * i) 2),
   (List.range (w.num (o + 2) 1)).map (fun r => (List.range m).map (fun i => w.num (o + 0x10 + 2 * m + 2 * m * r + 2 * i) 2))⟩

/-- The offsets of `n` group tables from `o` on, below `hi`. -/
def WImg.gtabOffs (w : WImg) (hi : Nat) : Nat → Nat → List Nat
  | 0, _ => []
  | n + 1, o => if o + 0x10 ≤ hi then o :: w.gtabOffs hi n (o + w.gtabLen o) else []

/-- Where the group tables of GROUP stand. -/
def WImg.tableOffs (w : WImg) : List Nat :=
  match w.sec 0xC with
  | some x =>
    let n := w.num (x.off + 4) 2 + w.num (x.off + 6) 2
    w.gtabOffs (x.off + x.len) (min (w.num (x.off + 0xA) 1) 16) (x.off + (64 + 8 * n + 63) / 64 * 64)
  | none => []

/-- The group-table template (Table 1, R385); a template's epoch and keeper are zero. -/
def WImg.group (w : WImg) : Option GroupT :=
  (w.sec 0xC).map (fun x =>
    let n (i k : Nat) : Nat := w.num (x.off + i) k
    { job := n 0 4, ranks := n 4 2, spares := n 6 2, self := n 8 2, epoch := n 0xC 4, keeper := n 0x10 2
      shardBase := n 0x14 4 * 256, copyBase := n 0x18 4 * 256, areaBytes := n 0x1C 4
      members := (List.range (min (n 4 2 + n 6 2) 16384)).map (fun i => w.member (x.off + 64 + 8 * i))
      tables := w.tableOffs.map w.gtab })

/-- Numbers of `k` bytes that fill a section from its start. -/
def WImg.plain (w : WImg) (t k n : Nat) : List Nat :=
  match w.sec t with
  | some x => (List.range n).map (fun i => w.num (x.off + k * i) k)
  | none => []

/-- The path entries of ROUTES (R248). -/
def WImg.paths (w : WImg) : List PathEnt :=
  match w.sec 2 with
  | some x => (List.range (min (w.num (x.off + 65536) 4) ((x.len - 65600) / 8))).map (fun i =>
      let o := x.off + 65600 + 8 * i
      ⟨w.num o 4, w.num (o + 4) 1 % 4, w.num (o + 4) 1 / 4 % 2⟩)
  | none => []

/-- The initial rule entries that are not all zero. -/
def WImg.rules (w : WImg) : List (Nat × RuleEntry) :=
  match w.sec 0xB with
  | some x => ((List.range 4096).map (fun n => (n, w.rule (x.off + 64 * n)))).filter (fun e => decide (e.2 ≠ RuleEntry.zero))
  | none => []

/-- The measurement held in the signature block (R601). -/
def WImg.meas (w : WImg) : BitVec 256 := BitVec.ofNat 256 (w.num (w.length - 3392 + 32) 32)

/-- What an image says. -/
def WImg.read (w : WImg) : Weave :=
  let at_ (t : Nat) : Nat := ((w.sec t).map (·.off)).getD 0
  { meas := w.meas
    spare := bitOf (w.num 0xE 2) 0
    devices := w.num 0x18 4
    job := w.num 0x1C 4
    classMap := (w.plain 1 4 2).getD 0 0
    usedMap := (w.plain 1 4 2).getD 1 0
    routes := w.plain 2 4 16384
    paths := w.paths
    ladder := w.plain 3 1 1024
    streams := w.items 4 16 w.stream
    rings := w.rings
    progs := w.items 5 64 (w.prog (at_ 5))
    regions := w.items 6 24 (w.region (at_ 6))
    pages0 := w.items 7 8 w.pageRun
    pages1 := w.items 8 8 w.pageRun
    pages2 := w.items 9 8 w.pageRun
    hasVariants := w.has 0xA
    blocks := w.variantOffs.map (w.block (at_ 0xA))
    rules := w.rules
    pruInit := (List.range (if w.has 0xB then 5 else 0)).map (fun i => w.num (at_ 0xB + 0x40000 + 4 * i) 4)
    group := w.group
    power := w.plain 0xD 1 58
    preset := w.items 0xE 8 (fun o => (w.num o 4, w.num (o + 4) 4)) }

end Sys2Proof.Machine
end

