-- ==== Sys2Proof/Machine/WeaveCheck.lean ====
section
/-! DEFINITION. The load check of a weave (R237, Table 11 of *Weave images, stations and tile streams*). Of
several faults, the first in table order gives the reason (log entry 41). -/

namespace Sys2Proof.Machine

/-! ### Shared tests -/

/-- Whether no two of a list of ranges (start, length) meet. -/
def rangesApart : List (Nat × Nat) → Bool
  | [] => true
  | r :: rs => rs.all (fun q => decide (r.1 + r.2 ≤ q.1) || decide (q.1 + q.2 ≤ r.1)) && rangesApart rs

/-- Whether a list of keys rises strictly. -/
def rises : List Nat → Bool
  | a :: b :: l => decide (a < b) && rises (b :: l)
  | _ => true

/-- The class that a weave gives a cluster. -/
def Weave.cls (w : Weave) (g : Nat) : Nat := if bitOf w.classMap g then 0 else 1

/-- Whether a cluster has station programs in a weave. -/
def Weave.programmed (w : Weave) (g : Nat) : Bool := w.progs.any (fun p => decide (clusterOf p.core = g))

/-- Whether a class-1 cluster has station programs. -/
def Weave.trains (w : Weave) : Bool := (List.range 32).any (fun g => decide (w.cls g = 1) && w.programmed g)

/-- Whether some cluster is in a class. -/
def Weave.hasClass (w : Weave) (c : Nat) : Bool := (List.range 32).any (fun g => decide (w.cls g = c))

/-- The clusters whose SRAM slices or core scratch `n` bytes at `a` touch; `none` where a byte lies in
neither. -/
def clustersAt (a n : Nat) : Option (List Nat) :=
  if a + n ≤ 0x500000000 then
    some ((List.range 32).filter (fun g => decide (sliceBase g < a + max n 1) && decide (a < sliceBase g + sliceBytes)))
  else if 0x800000000 ≤ a ∧ a + n ≤ 0x810000000 then
    some ((List.range 32).filter (fun g =>
      decide (scratchBase (8 * g) < a + max n 1) && decide (a < scratchBase (8 * g) + 0x800000)))
  else none

/-- Whether bytes lie inside the slices and scratch of clusters of a class. -/
def Weave.inClass (w : Weave) (c a n : Nat) : Bool :=
  match clustersAt a n with
  | some gs => gs.all (fun g => decide (w.cls g = c))
  | none => false

/-- Whether bytes lie wholly inside a region of a kind, of a class where one is asked. -/
def Weave.inRegion (w : Weave) (kind : Nat) (cls : Option Nat) (a n : Nat) : Bool :=
  w.regions.any (fun r => decide (r.kind = kind) && (cls.isNone || decide (cls = some r.cls)) &&
    decide (r.base ≤ a) && decide (a + n ≤ r.base + r.length))

/-! ### MALFORMED: header, directory and lengths (R235) -/

/-- Whether the header is as Table 8 gives it. -/
def WImg.headOk (w : WImg) : Bool :=
  let n := w.num 6 2
  decide (w.num 0 4 = 0x56574531) && decide (w.num 4 2 = 1) && decide (1 ≤ n) && decide (n ≤ 16) &&
  decide (w.num 0xE 2 ≤ 1) && w.zero 0x20 32 && decide (1 ≤ w.num 0x18 4) && decide (w.num 0x18 4 ≤ 16384) &&
  decide (w.length ≤ 2 ^ 28) && decide (0x40 + 16 * n + 3392 ≤ w.length)

/-- Whether the directory is sound: reserved bytes, alignment, place, no overlap, CRC. -/
def WImg.dirOk (w : WImg) : Bool :=
  w.secs.all (fun x => decide (x.rsv = 0) && decide (x.off % 64 = 0) && decide (0x40 + 16 * w.num 6 2 ≤ x.off) &&
    decide (x.off + x.len ≤ w.length - 3392) && decide (crc32 (w.bytes x.off x.len) = BitVec.ofNat 32 x.crc)) &&
  rangesApart (w.secs.map (fun x => (x.off, x.len)))

/-- Whether a section with a 64-byte header of `COUNT` holds its items, its header otherwise zero. -/
def WImg.countOk (w : WImg) (x : WSec) (size : Nat) (exact : Bool) : Bool :=
  let n := 64 + size * w.num x.off 4
  decide (64 ≤ x.len) && w.zero (x.off + 4) 60 && (if exact then decide (x.len = n) else decide (n ≤ x.len))

/-- Whether a section has the length and the reserved bytes of its type. -/
def WImg.shapeOk (w : WImg) (x : WSec) : Bool :=
  match x.type with
  | 1 => decide (x.len = 32) && w.zero (x.off + 8) 24
  | 2 => decide (w.num (x.off + 65536) 4 ≤ 65536) && decide (x.len = 65600 + 8 * w.num (x.off + 65536) 4) && w.zero (x.off + 65540) 60
  | 3 => decide (x.len = 1024) && (w.plain 3 1 1024).all (fun v => decide (v < 128))
  | 5 => w.countOk x 64 false
  | 6 => w.countOk x 24 false
  | 0xB => decide (x.len = 0x40014)
  | 0xC => decide (64 ≤ x.len)
  | 0xD => decide (x.len = 64) && w.zero (x.off + 58) 6 && (w.plain 0xD 1 58).all (fun v => decide (v ≤ 2))
  | 0xE => w.countOk x 8 true
  | _ => true

/-! ### MALFORMED: PROGRAMS (R245), ALLOC (R246), ROUTES (R248) -/

/-- Whether a core record of PROGRAMS is sound. -/
def WImg.progOk (w : WImg) (x : WSec) (v : Weave) (o : Nat) : Bool :=
  let p := w.prog x.off o
  let off := w.num (o + 4) 4
  let len := w.num (o + 8) 4
  let at_ := scratchBase p.core + p.load
  decide (w.num (o + 2) 2 = 0) && decide (off % 64 = 0) && decide (len % 4 = 0) && decide (off + len ≤ x.len) &&
  decide (p.load % 64 = 0) && decide (p.load + len ≤ 0x100000) &&
  v.regions.all (fun r => decide (r.base + r.length ≤ at_) || decide (at_ + len ≤ r.base)) &&
  (p.entries.zipIdx.all (fun e =>
    if bitOf p.threads e.2 then decide (p.load ≤ e.1) && decide (e.1 < p.load + len) else decide (e.1 = 0))) &&
  p.drives.all (fun d => d = 15 || (decide (d < 8) && bitOf p.threads d)) &&
  decide (w.num (o + 0x30) 8 / 2 ^ 52 = 0) && w.zero (o + 0x38) 8

/-- R245. -/
def WImg.programsOk (w : WImg) (v : Weave) : Bool :=
  match w.sec 5 with
  | none => true
  | some x => (w.items 5 64 id).all (w.progOk x v) && rises (v.progs.map (·.core))

/-- The value that PRESET writes last to a register, zero where it writes none. -/
def Weave.presetOf (w : Weave) (off : Nat) : Nat :=
  ((w.preset.reverse.find? (fun p => decide (p.1 = off))).map (·.2)).getD 0

/-- Whether an ALLOC entry is sound by itself. -/
def WImg.regionOk (w : WImg) (x : WSec) (v : Weave) (o : Nat) : Bool :=
  let r := w.region x.off o
  let d := w.num (o + 0x10) 4
  decide (r.base < 2 ^ 40) && decide (r.base % 64 = 0) && decide (r.length % 64 = 0) && decide (r.kind ≤ 6) &&
  decide (r.cls ≤ 1) && decide (w.num (o + 0xE) 2 = 0) && decide (w.num (o + 0x14) 4 = 0) &&
  (if r.kind = 6 then decide (d + r.length ≤ x.len) else decide (d = 0)) && v.inClass r.cls r.base r.length &&
  (!(r.kind = 4 || r.kind = 5) || v.inClass 0 r.base r.length)

/-- Whether lane `n` on cluster `g` has its two weight buffers as R246 asks. -/
def Weave.laneOk (w : Weave) (n g : Nat) : Bool :=
  let here (k : Nat) : List Region := w.regions.filter (fun r => decide (r.kind = k) && decide (sliceBase g ≤ r.base) &&
    decide (r.base + r.length ≤ sliceBase g + sliceBytes))
  match here 4, here 5 with
  | [a], [b] => decide (a.length = b.length) && decide (a.length = w.presetOf O.scoreBufBytes) &&
      decide (a.base = w.presetOf (O.scoreBufA n) * 256) && decide (b.base = w.presetOf (O.scoreBufB n) * 256)
  | _, _ => false

/-- The class-0 clusters of a weave, in ascending order: its lanes (R502). -/
def Weave.lanes (w : Weave) : List Nat := (List.range 32).filter (fun g => decide (w.cls g = 0))

/-- R246. -/
def WImg.allocOk (w : WImg) (v : Weave) : Bool :=
  match w.sec 6 with
  | none => true
  | some x => (w.items 6 24 id).all (w.regionOk x v) && rangesApart (v.regions.map (fun r => (r.base, r.length))) &&
      v.lanes.zipIdx.all (fun e => v.laneOk e.2 e.1)

/-- A route number: a link, this device, or none. -/
def routeOk (n : Nat) : Bool := n < 24 || n = 0xFE || n = 0xFF

/-- Whether a stream leaves a cluster. -/
def StreamEnt.leaves (e : StreamEnt) : Bool := decide (clusterOf e.pCore ≠ clusterOf e.cCore)

/-- R248. -/
def WImg.routesOk (w : WImg) (v : Weave) : Bool :=
  match w.sec 2 with
  | none => true
  | some x => v.routes.all (fun r => decide (r < 65536) && routeOk (r % 256) && routeOk (r / 256)) &&
      (List.range v.paths.length).all (fun i => w.zero (x.off + 65600 + 8 * i + 5) 3 &&
        decide (w.num (x.off + 65600 + 8 * i + 4) 1 < 8)) &&
      v.paths.all (fun p => match v.streams[p.stream]? with
        | some e => e.leaves
        | none => false) && decide (v.paths.map (·.stream)).Nodup

/-! ### MALFORMED: VARIANTS layout (R210), GROUP (R386), POWER (R570) -/

/-- Whether the entries of VARIANTS stand in order, each followed by its gate records, reserved fields
zero (R210). -/
def WImg.variantsShaped (w : WImg) (v : Weave) : Bool :=
  match w.sec 0xA with
  | none => true
  | some x =>
    w.variantOffs.all (fun o => decide (w.num o 2 < 0x4000) && decide (w.num (o + 3) 1 < 16) && decide (w.num (o + 8) 4 < 2 ^ 24) &&
      w.zero (o + 0x10) 16 && (decide (w.num (o + 2) 1 = 0) || decide (x.off + w.num (o + 0xC) 4 = o + 32))) &&
    rises (v.blocks.map (fun b => b.entry * 4 + b.variant)) &&
    decide ((v.blocks.map (fun b => 32 + 16 * b.gates.length)).sum = x.len) &&
    v.blocks.all (fun b => b.gates.all (fun g => decide (g.kind ≠ 2) || decide (g.window = 0)))

/-- Whether a list of ranks is `n` distinct ranks below `n`. -/
def isPerm (l : List Nat) (n : Nat) : Bool := decide (l.length = n) && l.all (fun r => decide (r < n)) && decide l.Nodup

/-- Whether an area lies wholly on pages of a role that PAGES1 grants read-write. -/
def Weave.areaOn (w : Weave) (role a n : Nat) : Bool := decide (n = 0) || grantsP1 (some w) (some role) a n

/-- Whether member `i` of a template is as R386 asks. -/
def memberOk (t : GroupT) (i : Nat) (m : Member) : Bool :=
  if i < t.ranks then decide (m.st = .live) && m.copy && decide (m.link = 0)
  else decide (m.st = .ready) && !m.copy && decide (m.partner = 0) && decide (m.link = 0)

/-- R386 on a template, with the job of the header. -/
def templateOk (w : Weave) (t : GroupT) : Bool :=
  let n := t.ranks
  let partners := (t.members.take n).map (·.partner)
  decide (1 ≤ n) && decide (n + t.spares ≤ 16384) && decide (t.self < n + t.spares) &&
  decide (1 ≤ t.tables.length) && decide (t.epoch = 0) && decide (t.keeper = 0) && decide (t.job = w.job) &&
  decide (t.areaBytes % 64 = 0) &&
  (n < 2 || (isPerm partners n && partners.zipIdx.all (fun p => decide (p.1 ≠ p.2)))) &&
  t.members.zipIdx.all (fun m => memberOk t m.2 m.1) &&
  isPerm ((t.tables.headD ⟨[], []⟩).positions) n &&
  t.tables.all (fun g => decide g.positions.Nodup && g.positions.all (fun r => decide (r < n)) &&
    decide (1 ≤ g.orders.length) && decide (g.orders.length ≤ 12) &&
    g.orders.all (fun o => decide o.Nodup && o.all (fun r => g.positions.contains r))) &&
  w.areaOn 1 t.shardBase t.areaBytes && w.areaOn 2 t.copyBase t.areaBytes

/-- R386: the layout's reserved fields and sizes, and the template. -/
def WImg.groupOk (w : WImg) (v : Weave) : Bool :=
  match w.sec 0xC, v.group with
  | some x, some t =>
    w.zero (x.off + 0xB) 1 && w.zero (x.off + 0x12) 2 && w.zero (x.off + 0x20) 32 &&
    decide (t.tables.length = w.num (x.off + 0xA) 1) && decide (w.num (x.off + 0xA) 1 ≤ 16) &&
    decide (((64 + 8 * t.members.length + 63) / 64 * 64 + (w.tableOffs.map w.gtabLen).sum + 63) / 64 * 64 ≤ (x.len + 63) / 64 * 64) &&
    (List.range t.members.length).all (fun i =>
      let m := w.num (x.off + 64 + 8 * i) 8
      decide (bitsOf m 15 14 = 0) && decide (bitsOf m 31 20 = 0) && decide (bitsOf m 63 46 = 0) && decide (bitsOf m 18 16 ≠ 7)) &&
    w.tableOffs.all (fun o => w.zero (o + 3) 13) && templateOk v t
  | _, _ => true

/-- The HBM stacks of which some map grants a page. -/
def Weave.stacksUsed (w : Weave) : List Nat :=
  (List.range 8).filter (fun n =>
    let lo := pageOf (stackBase n)
    (w.pages0 ++ w.pages1 ++ w.pages2).any (fun r => decide (r.first < lo + 0x4800) && decide (lo < r.first + r.count)))

/-- R570, the states beyond their range apart. -/
def Weave.powerOk (w : Weave) : Bool :=
  let p (d : Nat) : Nat := w.power.getD d 0
  w.power.isEmpty ||
  (([52, 54, 55, 56, 57].all (fun d => decide (p d = 2))) &&
  (List.range 32).all (fun g => (decide (w.cls g = 1) || decide (p g = 2)) && (!bitOf w.usedMap g || decide (p g ≠ 0))) &&
  (!w.trains || decide (p 53 = 2)) && w.stacksUsed.all (fun n => decide (p (36 + n) ≠ 0)))

/-! ### PRESET (R249) -/

/-- The SCORE registers that R524 marks RO and PRESET writes. -/
def scorePreset (off : Nat) : Bool :=
  off = O.scoreModel || off = O.scoreFeatures || off = O.scoreSNs || off = O.scoreBufBytes ||
    (decide (O.scoreBufA 0 ≤ off) && decide (off < O.scoreBufA 8))

/-- A pair writes every writable field of its register; status and counter fields stay (R249). -/
def presetStore (s : State) (off v : Nat) : State :=
  csrPut s off ((csrFields off).foldl (fun w f =>
    if f.acc = .rw then (if fieldTakes s off f v then setBits w f.hi f.lo (bitsOf v f.hi f.lo) else w)
    else if scorePreset off then setBits w f.hi f.lo (bitsOf v f.hi f.lo)
    else w) (csrGet s off))

/-- Whether an offset lies in the MANGLE, SCORE or HBM block. -/
def presetBlock (off : Nat) : Bool :=
  off % 4 = 0 && ((decide (0x50000 ≤ off) && decide (off < 0x60000)) || (decide (0xA0000 ≤ off) && decide (off < 0xC0000)))

/-- Whether a pair asks for the installation of a descriptor. -/
def installsTag (p : Nat × Nat) : Bool := p.1 = O.mangleTagW 0 && bitOf p.2 31

/-- Applies one pair of PRESET. -/
def presetPair (s : State) (p : Nat × Nat) : State :=
  if O.mangleTagW 0 ≤ p.1 ∧ p.1 < O.mangleTagW 16 then writeTagWord s ((p.1 - O.mangleTagW 0) / 4) (BitVec.ofNat 32 p.2)
  else if (csrFields p.1).isEmpty then s
  else presetStore s p.1 p.2

/-- Applies the pairs of PRESET in order. -/
def applyPreset (s : State) (ps : List (Nat × Nat)) : State := ps.foldl presetPair s

/-- Runs the pairs of PRESET as the load check does: the tags of the descriptors that R346 refuses come
with the state. -/
def presetRun : List (Nat × Nat) → State → State × List Nat
  | [], s => (s, [])
  | p :: ps, s =>
    let bad := if installsTag p then
        (let s1 := stageTag s 0 (BitVec.ofNat 32 p.2)
         let n := csrBits s1 O.mangleTagSel 11 0
         if tagFits s1 n then [] else [(stagedTag s1 n).tag])
      else []
    let r := presetRun ps (presetPair s p)
    (r.1, bad ++ r.2)

/-- The state on which the load check tries a weave's pairs (R249): the weave's grants hold, and group sizes come
from its template, or from the live table where it has none. -/
def trialState (s : State) (w : Weave) : State :=
  { s with weave := some w, staged := none, installing := none
           mend := { s.mend with table := w.group.or s.mend.table } }

/-- Whether PRESET is sound: every offset in the three blocks, every descriptor accepted (R249). -/
def presetOk (s : State) (w : Weave) : Bool :=
  w.preset.all (fun p => presetBlock p.1) && (presetRun w.preset (trialState s w)).2.isEmpty

/-- The MALFORMED check (reason 0x03). -/
def WImg.wellFormed (w : WImg) (s : State) (v : Weave) : Bool :=
  w.headOk && w.dirOk && w.secs.all w.shapeOk && w.programsOk v && w.allocOk v && w.routesOk v && w.variantsShaped v &&
  w.groupOk v && v.powerOk && presetOk s v

/-! ### SECTIONS and PARTITION -/

/-- The section types that a weave must hold (Table 9). -/
def WImg.needed (w : WImg) (v : Weave) : List Nat :=
  [1, 3, 4, 5, 6, 0xD] ++ (if v.streams.any StreamEnt.leaves then [2] else []) ++ (if v.hasClass 0 then [7] else []) ++
  (if v.hasClass 1 then [8] else []) ++ (if v.trains then [0xA] else []) ++ (if w.has 0xA then [0xB, 0xC] else [])

/-- The SECTIONS check (reason 0x04). -/
def WImg.sectionsOk (w : WImg) (v : Weave) : Bool :=
  w.secs.all (fun x => decide (1 ≤ x.type) && decide (x.type ≤ 0xE)) && decide (w.secs.map (·.type)).Nodup &&
  (w.needed v).all w.has

/-- The class of a variant block: that of the core whose code holds its entry point. -/
def WImg.blockClass (w : WImg) (b : VBlock) : Nat :=
  match (w.items 5 64 id).find? (fun o => decide (w.num (o + 4) 4 ≤ b.program) &&
      decide (b.program < w.num (o + 4) 4 + w.num (o + 8) 4)) with
  | some o => if bitOf ((w.plain 1 4 2).getD 0 0) (clusterOf (w.num o 1)) then 0 else 1
  | none => 1

/-- The PARTITION check (reason 0x05): R27, and every cluster with programs is named as used. A program's class is
its cluster's (log entry 42). -/
def Weave.partitionOk (w : Weave) : Bool :=
  decide (w.lanes.length ≤ 8) && w.progs.all (fun p => bitOf w.usedMap (clusterOf p.core))

/-! ### GRAPH and LADDER -/

/-- Whether a station of Table 1 stands at a core. -/
def stationAt (code idx : Nat) : Bool := (stnNumber code idx).isSome || (code = 2 && decide (idx < 4)) || (code = 9 && decide (idx = 0))

/-- Whether a stream-table entry is sound. -/
def Weave.streamOk (w : Weave) (e : StreamEnt) : Bool :=
  let c := w.cls (clusterOf e.cCore)
  decide (w.cls (clusterOf e.pCore) = c) && decide (1 ≤ e.depth) && decide (e.depth ≤ 64) && stationAt e.pStn e.pInst &&
  stationAt e.cStn e.cInst &&
  (List.range e.depth).all (fun i => w.inRegion 3 (some c) (e.slots * 256 + i * e.slotBytes) e.slotBytes)

/-- Whether a core is an endpoint of at most 64 streams. -/
def Weave.endpointsOk (w : Weave) (c : Nat) : Bool :=
  ((w.streams.filter (fun e => decide (e.pCore = c) || decide (e.cCore = c))).map
    (fun e => (e.pCore, e.pStn, e.pInst, e.pSid))).eraseDups.length ≤ 64

/-- Whether a ring is sound (R247, R503). -/
def Weave.ringOk (w : Weave) (r : Ring) : Bool :=
  let n := r.members.length
  decide (2 ≤ n) && decide (n ≤ 64) &&
  r.members.all (fun c => decide (w.cls (clusterOf c) = 0) && decide (clusterOf c = clusterOf (r.members.headD 0))) &&
  r.members.zipIdx.all (fun m => w.streams.any (fun e => e.ring && decide (e.pCore = m.1) && decide (e.pSid = r.sids.getD m.2 64) &&
    decide (e.cCore = r.members.getD ((m.2 + 1) % n) 256)))

/-- Whether GRAPH has its layout (R247). DESIGN CHOICE (log entry 112): the SIDs of a ring beyond its length must be zero, as its
members must. -/
def WImg.graphShaped (w : WImg) : Bool :=
  match w.sec 4 with
  | none => true
  | some x =>
    let n := w.num x.off 4
    let k := w.num (x.off + 4) 4
    let ro := w.num (x.off + 8) 4
    decide (64 + 16 * n ≤ x.len) && decide (k ≤ 16) && decide (ro % 64 = 0) && w.zero (x.off + 0xC) 52 &&
    (k = 0 || (decide (64 + 16 * n ≤ ro) && decide (ro + 192 * k ≤ x.len))) &&
    (w.items 4 16 id).all (fun o => decide (w.num (o + 7) 1 ≤ 1) && decide (w.num (o + 2) 1 < 64) && decide (w.num (o + 6) 1 < 64)) &&
    (List.range k).all (fun r =>
      let o := x.off + ro + 192 * r
      let l := w.num o 1
      w.zero (o + 1) 63 && w.zero (o + 0x40 + l) (64 - l) && w.zero (o + 0x80 + l) (64 - l) &&
      (List.range l).all (fun p => decide (w.num (o + 0x80 + p) 1 < 64)))

/-- The GRAPH check (reason 0x06). -/
def WImg.graphOk (w : WImg) (v : Weave) : Bool :=
  w.graphShaped && v.streams.all v.streamOk && (List.range 256).all v.endpointsOk && v.rings.all v.ringOk

/-- The LADDER check (reason 0x07): modes and shapes within `GLOBAL.IMPL_ARRAY`. -/
def ladderOk (s : State) (w : Weave) : Bool :=
  w.ladder.all (fun v => decide (v % 8 &&& csrBits s O.globalImplArray 26 24 = v % 8) &&
    decide (v / 8 % 16 &&& csrBits s O.globalImplArray 31 28 = v / 8 % 16))

/-! ### VARIANTS and RULES -/

/-- The bytes of a gathered image: those of the descriptor of its tag (R311). -/
def imageBytesOf (s : State) (tag : Nat) : Nat :=
  match (installed s).find? (fun e => decide (e.2.tag = tag)) with
  | some e => e.2.dstBytes
  | none => 1

/-- The stack that holds an address. -/
def stackOf (a : Nat) : Option Nat := match placeOf a with | .hbm n => some n | _ => none

/-- Whether a gate record is sound; `s` holds the descriptors as PRESET leaves them. -/
def Weave.gateOk (w : Weave) (s : State) (g : GateRec) : Bool :=
  decide (g.image ≤ 1) && (stackOf (g.rackA * 256)).isSome && (stackOf (g.rackB * 256)).isSome &&
  (if g.kind = 1 then w.inRegion 1 none (g.window * 256) (imageBytesOf s g.tag)
   else decide (g.kind = 2) && decide (stackOf (g.rackA * 256) ≠ stackOf (g.rackB * 256)))

/-- The variants for which a rule entry needs a block (R206, R219): those it allows, and those that a rack copy of
its gated inputs can serve, which are the ones that any entry gating the same tag allows. -/
def Weave.variantsFor (w : Weave) (n : Nat) : List Nat :=
  let allowed (e : Nat) : List Nat := match w.rules.find? (fun r => decide (r.1 = e)) with
    | some r => if r.2.valid then (List.range 4).filter r.2.allowed else []
    | none => []
  let tags := (w.blocks.filter (fun b => decide (b.entry = n))).flatMap (fun b => b.gates.map (·.tag))
  allowed n ++ ((w.blocks.filter (fun b => b.gates.any (fun g => tags.contains g.tag))).map (·.entry)).flatMap allowed

/-- The VARIANTS check (reason 0x08). -/
def WImg.variantsOk (w : WImg) (s : State) (v : Weave) : Bool :=
  !v.hasVariants ||
  (v.blocks.all (fun b => decide (b.gates.length ≤ 8) && b.gates.all (v.gateOk s) &&
      (if b.gates.isEmpty then decide (b.staleMax = 0) else decide (1 ≤ b.staleMax) && decide (w.blockClass b = 1))) &&
   (v.rules.filter (fun r => r.2.valid)).all (fun r => (v.variantsFor r.1).all (fun c =>
      v.blocks.any (fun b => decide (b.entry = r.1) && decide (b.variant = c)))))

/-- Whether some engine of a class-1 cluster with programs has every allowed mode of an entry on its ladder: each engine that
runs the layer-pass must (R169, R237; log entry 43). P32 needs no engine. -/
def Weave.engineFor (w : Weave) (r : RuleEntry) : Bool :=
  (List.range 3).all (fun c => !r.allowed c) ||
  w.ladder.zipIdx.any (fun e => decide (w.cls (e.2 / 32) = 1) && w.programmed (e.2 / 32) &&
    (List.range 3).all (fun c => !r.allowed c || bitOf e.1 c))

/-- The RULES check (reason 0x09), with the codebooks of R56. -/
def Weave.rulesOk (w : Weave) : Bool :=
  w.rules.all (fun r => r.2.ok && (!r.2.valid ||
    (w.engineFor r.2 &&
      (w.codebook r.2.layer).any (fun c => decide (0 < c)) && (w.codebook r.2.layer).any (fun c => decide (c < 0))))) &&
  (w.rules.filter (fun r => r.2.valid)).all (fun a => w.rules.all (fun b => decide (a.1 = b.1) || !a.2.clashes b.2))

/-! ### PAGES and GROUP -/

/-- Whether a page lies in the reach of a class (R297). -/
def Weave.reaches (w : Weave) (s : State) (c page : Nat) : Bool :=
  if page < 10240 then c < 2 && decide (w.cls (page / 320) = c)
  else if 16384 ≤ page ∧ page < 16512 then c < 2 && decide (w.cls ((page - 16384) / 4) = c)
  else if 32768 ≤ page ∧ page < 179968 then !(getStack s ((page - 32768) / 0x4800)).failed
  else false

/-- The region of Table 3 that holds a page. -/
def pageRegion (page : Nat) : Nat :=
  if page < 10240 then 1 else if page < 16384 then 0 else if page < 16512 then 2 else if page < 32768 then 0
  else if page < 180224 then 3 else 0

/-- The roles that a map may use (R298). -/
def roleFits (c role : Nat) : Bool :=
  if role = 0 then true else if role ≤ 3 then c = 1 else role = 4 && c = 0

/-- Whether the map of a class is sound (R296, R298). -/
def WImg.mapOk (w : WImg) (s : State) (v : Weave) (c : Nat) (runs : List PageRun) : Bool :=
  match w.sec (7 + c) with
  | none => true
  | some x =>
    decide (1 ≤ w.num x.off 4) && decide (w.num x.off 4 ≤ 4096) && w.countOk x 8 true &&
    (w.items (7 + c) 8 id).all (fun o => decide (bitsOf (w.num o 8) 63 44 = 0) && bitOf (w.num o 8) 38) &&
    runs.all (fun r => decide (1 ≤ r.count) && roleFits c r.role && decide (pageRegion r.first ≠ 0) &&
      decide (pageRegion r.first = pageRegion (r.first + r.count - 1)) &&
      (List.range r.count).all (fun i => v.reaches s c (r.first + i))) &&
    rangesApart (runs.map (fun r => (r.first, r.count)))

/-- Whether a range of one map meets a range of another. -/
def runsMeet (a b : List PageRun) : Bool :=
  a.any (fun p => b.any (fun q => decide (p.first < q.first + q.count) && decide (q.first < p.first + p.count)))

/-- The PAGES check (reason 0x0A). -/
def WImg.pagesOk (w : WImg) (s : State) (v : Weave) : Bool :=
  w.mapOk s v 0 v.pages0 && w.mapOk s v 1 v.pages1 && w.mapOk s v 2 v.pages2 && !runsMeet v.pages0 (v.pages1 ++ v.pages2)

/-- Whether a template agrees with the live table (Table 11, reason 0x0B). -/
def agrees (live t : GroupT) : Bool :=
  decide (live.job = t.job) && decide (live.ranks = t.ranks) && decide (live.spares = t.spares) && decide (live.self = t.self) &&
  decide (live.tables.map (·.positions.length) = t.tables.map (·.positions.length))

/-- The GROUP check (reason 0x0B); `s1` is the state after PRESET. -/
def groupFits (s s1 : State) (w : Weave) : Bool :=
  (match s.mend.table, w.group with
   | some live, some t => agrees live t
   | _, _ => true) &&
  (!w.hasVariants || (csrBit s1 O.mangleCtrl 0 && csrBit s1 (O.mangleGrpCfg 0) 31))

/-! ### The check -/

/-- The reason with which a weave is refused, zero where it is accepted (R237, Table 11). -/
def weaveReason (s : State) (w : WImg) (sigOk : Bool) : Nat :=
  let v := w.read
  let arch := w.num 0xC 2
  if !sigOk then 1
  else if w.num 8 4 ≠ csrGet s O.globalId ∨ arch / 256 ≠ csrBits s O.globalArch 15 8 ∨ csrBits s O.globalArch 7 0 < arch % 256 then 2
  else if !w.wellFormed s v then 3
  else if !w.sectionsOk v then 4
  else if !v.partitionOk then 5
  else if !w.graphOk v then 6
  else if !ladderOk s v then 7
  else
    let s1 := (presetRun v.preset (trialState s v)).1
    if !w.variantsOk s1 v then 8
    else if !v.rulesOk then 9
    else if !w.pagesOk s v then 10
    else if !groupFits s s1 v then 11
    else 0

end Sys2Proof.Machine
end

