-- ==== Sys2Proof/Machine/Activation.lean ====
section
/-! DEFINITION. The meanings of the weave commands and of the stages of activation (R236 to R242, Table 12 of
*Weave images, stations and tile streams*). -/

namespace Sys2Proof.Machine

/-! ### Loading -/

/-- The states in which a weave may be loaded (R236). -/
def loadStates : State → Bool := inStates [.idle, .running, .quiesced, .standby]

/-- WEAVE_BEGIN (R236, R495). -/
def execWeaveBegin (q : WcpReq) (len : Nat) (s : State) : Res :=
  .next (wcpRow q 0x0201 false loadStates neverBusy (fun r s =>
    if 2 ^ 28 < len then respond s r stRange
    else respond (s.withWcp (fun w => { w with weave := some (r.session, len) })) r stOk) s)

/-- WEAVE_DATA (R495): bytes reach the staging area of R294 while its stack is usable (R314), once it answers and has a turn
for them (R301, R320, R322). -/
def execWeaveData (q : WcpReq) (off : Nat) (bytes : List Byte) (s : State) : Res :=
  let a := weaveArea + off
  let accepts (s : State) : Bool := loadStates s && ((s.wcp.weave.map (fun p => decide (p.1 = q.session))).getD false)
  .next (holdRow q 0x0202 a bytes.length accepts ((getStack s 7).ready && !mayGo s (cmdReq q) a bytes.length)
    (wcpRow q 0x0202 false accepts neverBusy (fun r s =>
      if (s.wcp.weave.map (·.2)).getD 0 < off + bytes.length then respond s r stRange
      else if (getStack s 7).ready = false then respond s r stDenied
      else respond (agentWrite (goOn s (cmdReq q) a bytes.length) a bytes) r stOk)) s)

/-- WEAVE_COMMIT (R495): nothing staged is BAD_STATE, a source that R300 refuses DENIED. -/
def execWeaveCommit (q : WcpReq) (src : Nat) (s : State) : Res :=
  .next (wcpRow q 0x0203 false (fun s => loadStates s && (decide (src ≠ 0) || s.wcp.weave.isSome))
    (busyWith [0x0203, 0x0204]) (fun r s =>
      if src ≠ 0 ∧ class2May s false src 64 = false then respond s r stDenied
      else startBg s r src ((s.wcp.weave.map (·.2)).getD 0) 0) s)

/-- WEAVE_REFUSED (R237, R242), with its notification and its count (R609). -/
def weaveRefused (s : State) (reason job : Nat) : State :=
  notifyAll (bump (raise s 0x9006 0 3 0 0 [reason]) O.secCntRefused) 0x0A06 (leBytes 4 reason ++ leBytes 4 job)

/-- The check of the image at `base`; `len` is the length that WEAVE_BEGIN gave, zero for an image in HBM. A weave that
passes replaces the one staged; a refused one leaves it (R237). Every descriptor that R346 refuses raises TAG_REFUSED. -/
def checkWeave (s : State) (base len : Nat) (sigOk : Bool) : State :=
  let w : WImg := ⟨s.mem, base⟩
  let n := weaveReason s w sigOk
  let reason := if n ≠ 1 ∧ n ≠ 2 ∧ len ≠ 0 ∧ w.length ≠ len then 3 else n
  if reason = 0 then endBg { s with staged := some w.read } 0x0203 stOk 0
  else
    let bad := if 3 ≤ n ∧ w.headOk ∧ w.dirOk then (presetRun w.read.preset (trialState s w.read)).2 else []
    endBg (weaveRefused (bad.foldl refuseTag s) reason (w.num 0x1C 4)) 0x0203 stRefused reason

/-- WEAVE_COMMIT_DONE (R237): `sigOk` is whether R602 holds of the signature block. The image is read from HBM, in the staging
area too (R290, R301, R316, R320, R327). -/
def execWeaveCommitDone (sigOk : Bool) (s : State) : Res :=
  .next (match runningBg s 0x0203 with
    | none => s
    | some x =>
      let base := if x.a = 0 then weaveArea else x.a
      let n := memNum s.mem (base + 0x10) 8
      let m := min n (2 ^ 28)
      let reach := if x.a = 0 then (getStack s 7).ready else class2May s false x.a m
      if !reach then endBg s 0x0203 stDenied 0
      else if mayGo s ⟨.background 0x0203, 4⟩ base m = false then waitFor s ⟨.background 0x0203, 4⟩ base m
      else
        let s1 := readMeets (goOn s ⟨.background 0x0203, 4⟩ base m) base m
        match (badIn s1 base m).head? with
        | some b => endBg (memUncorr s1 2 b) 0x0203 stMemError 0
        | none =>
          checkWeave (if x.a = 0 then s1.withWcp (fun w => { w with weave := none }) else s1) base
            (if x.a = 0 then x.b else 0) sigOk)

/-- WEAVE_DISCARD (R495). -/
def execWeaveDiscard (q : WcpReq) (s : State) : Res :=
  .next (wcpRow q 0x0205 false notFenced neverBusy (fun r s =>
    respond ({ s with staged := none }.withWcp (fun w => { w with weave := none })) r stOk) s)

/-! ### Entry, drain and dismantling -/

/-- WEAVE_ACTIVATE (R238, R490): the station library must be loaded (R597) and a weave staged; BUSY while one runs. -/
def execWeaveActivate (q : WcpReq) (s : State) : Res :=
  .next (wcpRow q 0x0204 false (fun s => inStates [.idle, .quiesced] s || busyWith [0x0204] s)
    (busyWith [0x0203, 0x0204]) (fun r s =>
      if s.staged.isSome && (tget? s.sec.images 1).isSome then
        startBg { s with act := .entry, installing := s.staged, staged := none } r 0 0 0
      else respond s r stBadState) s)

/-- Keeps what the registers show, for the reads of an activation (R41). -/
def keepShown (s : State) : State :=
  { s with before := some ⟨s.csr, s.weave, s.step, s.streams, s.cores, s.pru, s.mangle, s.mend, s.score⟩ }

/-- ACTIVATION_ENTRY_DONE (R39, R238): ACTIVATING is entered from IDLE or QUIESCED. -/
def execActivationEntryDone (s : State) : Res :=
  .next (if s.act = .entry ∧ inStates [.idle, .quiesced] s then setDev { keepShown s with act := .drain } .activating
    else s)

/-- CLASS0_DRAIN_DONE (R238): every admitted request has been answered. -/
def execClass0DrainDone (s : State) : Res :=
  .next (if s.act = .drain ∧ s.score.lanes.all (fun l => l.queue.isEmpty) then { s with act := .dismantle } else s)

/-- Frees every mangle slot; what the mangle holds, ledgers included, is counted in LATE_DROP (R239). -/
def emptyMangle (s : State) : State :=
  let s1 := s.mangle.insts.foldl closeEarly s
  lateDrop (s1.withMangle (fun m => { m.emptied with ledger := [], wire := [], wireBlocks := [] })) ((s1.mangle.ledger.map (fun e => e.2.count)).sum)

/-- Takes the old weave apart: every thread stopped, every station reset, key tables and mangle slots empty, pending rule
entries discarded (R173, R238). -/
def dismantle (s : State) : State :=
  let s1 := (s.cores.map Prod.fst).foldl (fun s c => resetStations (haltCore s c) c) s
  let s2 := csrPut (csrPut (discardPending (emptyMangle s1)) O.pruApplyStep 0xFFFFFFFF) O.scoreThreshold 0
  { s2 with weave := none, keyTab := [], streams := [], inStep := false, score := ScoreSt.reset
            gate := { GateSt.reset with racks := s2.gate.racks }
            pru := { PruSt.reset with active := s2.pru.active } }

/-- The state that a weave's POWER section gives a domain. -/
def powerState (w : Weave) (d : Nat) : PState :=
  match w.power.getD d 0 with
  | 0 => .off
  | 1 => .retention
  | _ => .on

/-- DISMANTLE_DONE (R238, R239): the Power stage begins, and every domain moves towards its POWER state. -/
def execDismantleDone (s : State) : Res :=
  .next (match s.act, s.installing with
    | .dismantle, some w =>
      (List.range 58).foldl (fun s d => setMgmt (setDom s d { getDom s d with wait := false }) d (powerState w d))
        { dismantle s with act := .power }
    | _, _ => s)

/-! ### Power -/

/-- Whether a domain has reached the state that is demanded of it. -/
def domSettled (s : State) (d : Nat) : Bool :=
  decide ((getDom s d).st = demanded s d) && (getDom s d).entering.isNone && !(getDom s d).queued

/-- ACTIVATION_POWER_DONE (R238). -/
def execActivationPowerDone (s : State) : Res :=
  .next (if s.act = .power ∧ (List.range 58).all (domSettled s) then { s with act := .clear } else s)

/-- An activation fails in its Power stage: IDLE, no weave, the maps zero, WEAVE_REFUSED with reason POWER (R42,
R242). -/
def activationFails (s : State) : State :=
  if s.act ≠ .power then s
  else
    let job := (s.installing.map (·.job)).getD 0
    let s1 := csrPut (csrPut { s with act := .none, installing := none, before := none } O.globalPartMap 0) O.globalClusterUsed 0
    endBg (weaveRefused (setDev s1 .idle) 0xC job) 0x0204 stRefused 0xC

/-! ### Clear and install -/

/-- A core with clear planes and an empty cache. -/
def clearPlanes (k : Core) : Core := { k with l1 := [], engines := k.engines.map (fun e => (e.1, { e.2 with planes := [] })) }

/-- ACTIVATION_CLEAR_DONE (R99, R214, R238). -/
def execActivationClearDone (s : State) : Res :=
  .next (if s.act ≠ .clear then s
    else
      { s with
        act := .install
        mem := memZero (memZero s.mem 0 0x500000000) 0x800000000 0x810000000
        bad := s.bad.filter (fun a => decide (0x810000000 ≤ a))
        upsets := s.upsets.filter (fun u => decide (0x810000000 ≤ u.1))
        ccache := []
        cacheErr := []
        cores := s.cores.map (fun e => (e.1, clearPlanes e.2))
        gate := GateSt.reset })

/-- A core as its record of PROGRAMS sets it up (R245); a core without one runs nothing. -/
def installCore (s : State) (w : Weave) (c : Nat) : State :=
  let k := getCore s c
  let k0 : Core := { Core.reset with
    predictor := k.predictor, trace := k.trace, traceSince := k.traceSince, traceLost := k.traceLost
    traceThread := k.traceThread, tracePc := k.tracePc, traceGap := k.traceGap, tracePend := k.tracePend
    ringFull := k.ringFull, perf := k.perf, lint := k.lint, engines := k.engines }
  match w.progs.find? (fun p => decide (p.core = c)) with
  | none => if (tget? s.cores c).isSome then setCore s c k0 else s
  | some p =>
    setCore (memPut s (scratchBase c + p.load) p.code) c { k0 with
      entryPts := p.entries.zipIdx.foldl (fun t e => if bitOf p.threads e.2 then tset t e.2 e.1 else t) []
      drives := p.drives.zipIdx.foldl (fun t e => if e.1 = 15 then t else tset t e.2 e.1) [] }

/-- The route table of a weave (R448): entries that hold 0xFF in both fields are not listed. -/
def routeTable (w : Weave) : Tbl (Nat × Nat) :=
  (w.routes.zipIdx.filter (fun e => decide (e.1 % 65536 ≠ 0xFFFF))).map (fun e => (e.2, (e.1 % 256, e.1 / 256 % 256)))

/-- The group table that activation leaves: the live one stays (R241), otherwise the template with its lowest LIVE
rank as keeper (R389). -/
def installGroup (s : State) (w : Weave) : State :=
  match s.mend.table, w.group with
  | none, some t => announceIds { s with mend := { MendSt.reset with table := some t } }
  | _, _ => s

/-- The five PRU registers that follow the rule table. -/
def installPru (s : State) (w : Weave) : State :=
  match w.pruInit with
  | [a, b, c, d, e] => csrPut (csrPut (csrPut (csrPut (csrPut s O.pruCtrl a) O.pruBudget b) O.pruAlarmSteps c) O.pruSpotRate d) O.pruRecBase e
  | _ => s

/-- The rule table, with every rule state zero, and its digest (R174). -/
def installRules (s : State) (w : Weave) : State :=
  let s1 := installPru { s with pru := { PruSt.reset with active := w.rules, variants := w.rules.map (fun e => (e.1, e.2.cur)), layerVar := layerVariants w.rules } } w
  csrPut s1 O.pruDigest (ruleDigest w.rules).toNat

/-- The agreed exponents at activation: `E_INIT` in every descriptor (R357). -/
def resetScales (s : State) : State :=
  s.withMangle (fun m => { m with desc := m.desc.map (fun e => (e.1, (e.2.put 13 15 8 0).put 13 7 0 (e.2.f 1 23 16))) })

/-- The Install stage (Table 12, R33, R174, R245 to R249). -/
def install (s : State) (w : Weave) : State :=
  let s1 : State := { s with
    weave := some w
    routes := routeTable w
    streams := w.streams.zipIdx.map (fun e => (e.2, StreamSt.fresh e.1.depth)) }
  let s2 := (List.range 256).foldl (fun s c => installCore s w c) s1
  let s3 := (w.regions.filter (fun r => decide (r.kind = 6))).foldl (fun s r => memPut s r.base r.init) s2
  installGroup (resetScales (applyPreset (installRules s3 w) w.preset)) w

/-- ACTIVATION_INSTALL_DONE (R238). -/
def execActivationInstallDone (s : State) : Res :=
  .next (match s.act, s.installing with
    | .install, some w => { install s w with act := .publish }
    | _, _ => s)

/-! ### Publish -/

/-- ACTIVATION_PUBLISH (R42, R238, R252, R502): the maps, `WEAVE_SEQ` and `STATE` change together, and the threads that have
an entry point start. The clusters of a spare wait in retention for its rank (R39; log entry 98). -/
def execActivationPublish (s : State) : Res :=
  .next (match s.act, s.installing with
    | .publish, some w =>
      let s1 := csrPut (csrPut (csrPut s O.globalPartMap w.classMap) O.globalClusterUsed w.usedMap) O.globalWeaveSeq
        ((csrGet s O.globalWeaveSeq + 1) % 2 ^ 32)
      let s2 : State := { s1 with
        act := .none, installing := none, before := none, step := 0, inStep := !w.spare && w.trains
        score := { ScoreSt.reset with lanes := w.lanes.map Lane.fresh } }
      let s3 := setDev s2 (if w.spare then .standby else .running)
      let s4 := (w.progs.map (·.core)).foldl startCore s3
      let s5 := if w.spare then ((List.range 32).filter (fun d => (getDom s4 d).mgmt = .on)).foldl (fun s d => setMgmt s d .retention) s4
        else s4
      endBg s5 0x0204 stOk 0
    | _, _ => s)

end Sys2Proof.Machine
end

