-- ==== Sys2Proof/Machine/Power.lean ====
section
/-! DEFINITION. The meanings of the power commands and events: supply sag, temperature, the power cap, PMBus,
power domains and telemetry (R558 to R579, R583). -/

namespace Sys2Proof.Machine

/-- Changes the power state. -/
def State.withPower (s : State) (f : PowerSt → PowerSt) : State := { s with power := f s.power }

/-- Whether VSB is up. -/
def powered (s : State) : Bool := s.power.boot ≠ .down

/-- What a reset closes is told once the device has reset: each logical port that was up, and each session (R488, R500). -/
def tellClosed (s old : State) : State :=
  let s1 := ((List.range 8).filter (fun p => (getPort old p).up)).foldl (fun s p => raise s 0x6002 0 3 6 p [p]) s
  old.wcp.sessions.foldl (fun s x => raise s 0x6004 0 3 6 x.bind.port [2]) s1

/-- A reset other than VSB rising with the bit of its cause; `FAIL_N` stays low under `TEST_EN` (R580, R621). -/
def resetBy (s : State) (cause : Nat) (stage : BootStage) (keepLow : Bool) : State :=
  tellClosed (csrPutBits (deviceReset s stage (keepLow || s.power.testEn)) O.globalResetCause cause cause 1) s

/-! ### Supply sag -/

/-- The threshold of a shedding level in mV (Table 7). -/
def sagMv : Nat → Nat
  | 1 => 1740 | 2 => 1720 | 3 => 1700 | 4 => 1680 | 5 => 1650 | 6 => 1620 | _ => 0

/-- A reading of VIN at the package: the last one and the minima; it saturates in its 16 bits (R11, R583, R584). -/
def noteVin (s : State) (mv : Nat) : State :=
  let v := min mv 0xFFFF
  csrPutBits (s.withPower (fun p => { p with vinMv := v, minTele := min p.minTele v })) O.powerVin 31 16
    (min (csrBits s O.powerVin 31 16) v)

/-- `POWER.SHED.DEEPEST` is at least `n`. -/
def noteDeepest (s : State) (n : Nat) : State :=
  csrPutBits s O.powerShed 10 8 (max (csrBits s O.powerShed 10 8) n)

/-- XOFF for the class-2 queues of a port (R572), where none is out. -/
def shedPort (s : State) (p : Nat) : State :=
  [4, 5, 6, 7].foldl (fun s q =>
    let x := getPort s p
    if portUpNow s p && pfcOn s p q && !x.xoff.contains q then
      sendPfc (setPort s p { x with xoff := x.xoff ++ [q] }) p q true
    else s) s

/-- XON for the class-2 queues of a port whose fill is below the lower mark (R469, R573). -/
def unshedPort (s : State) (p : Nat) : State :=
  [4, 5, 6, 7].foldl (fun s q =>
    let x := getPort s p
    if portUpNow s p && pfcOn s p q && x.xoff.contains q && decide (tget x.fill q 0 < 131072) then
      sendPfc (setPort s p { x with xoff := x.xoff.erase q }) p q false
    else s) s

/-- What a level sheds beside what the level itself says of duties, limits and held transfers (Table 7). -/
def shedAct (s : State) (n : Nat) : State :=
  match n with
  | 1 => (List.range 8).foldl shedPort s
  | 3 => (List.range 24).foldl shedLanes s
  | 6 => sideDown (sideDown s 0) 1
  | _ => s

/-- One downward crossing (R572, R573). -/
def enterLevel (mv : Nat) (s : State) (n : Nat) : State :=
  let s1 := shedAct (noteDeepest (s.withPower (fun p => { p with level := n })) n) n
  settleDoms (bump (raise s1 0x7010 0 3 0 0 [n, mv]) O.powerCntShed) (List.range 57)

/-- VIN_SAG_DOWN (R572): the level named, and every level above it that does not hold yet. -/
def execVinSagDown (level mv : Nat) (s : State) : Res :=
  .next (if powered s = false ∨ s.power.sagOff ∨ level = 0 ∨ 6 < level ∨ level ≤ s.power.level ∨ sagMv level < mv then s
    else ((List.range (level - s.power.level)).map (· + s.power.level + 1)).foldl (enterLevel mv) (noteVin s mv))

/-- What the return of a level undoes (R573). -/
def unshedAct (s : State) (n : Nat) : State :=
  match n with
  | 1 => (List.range 8).foldl unshedPort s
  | 3 => (List.range 24).foldl (fun s l => if csrBit s (O.seamCtrl l) 2 then s else unshedLanes s l) s
  | _ => s

/-- SAG_LEVEL_RETURN (R573): the level that holds returns, VIN having stayed 10 mV above its threshold for 100 µs.
When none holds any more, trace resumes (*The station control core*, after R283). -/
def execSagLevelReturn (level mv : Nat) (s : State) : Res :=
  .next (if powered s = false ∨ level = 0 ∨ level ≠ s.power.level ∨ mv < sagMv level + 10 then s
    else
      let s1 := noteVin (s.withPower (fun p => { p with level := level - 1 })) mv
      let s2 := settleDoms (raise (unshedAct s1 level) 0x7011 0 3 0 0 [level, mv]) (List.range 57)
      if level = 1 then (List.range 256).foldl traceResume s2 else s2)

/-- VIN_RESET (R574). After a junction shutdown the domains are off already, and the device still waits for its temperature
(R576). -/
def execVinReset (mv : Nat) (s : State) : Res :=
  .next (if powered s = false ∨ 1600 ≤ mv then s
    else if s.power.sagOff then noteVin s mv
    else if s.power.thermalOff then
      noteVin (noteDeepest ((csrPutBits s O.globalResetCause 3 3 1).withPower (fun p => { p with sagOff := true })) 7) mv
    else noteVin (noteDeepest ((resetBy s 3 .selfTest false).withPower (fun p => { p with sagOff := true })) 7) mv)

/-- VIN_RECOVER_BOOT (R574): boot goes on from the Self-test step. -/
def execVinRecoverBoot (mv : Nat) (s : State) : Res :=
  .next (if powered s = false ∨ mv < 1746 then s
    else noteVin (s.withPower (fun p => { p with sagOff := false })) mv)

/-! ### Temperature -/

/-- The source of an event of a pair of junction sensors: its cluster, or the device for the IOD. -/
def junctionSource (pair : Nat) : Nat × Nat := if pair < 32 then (3, pair) else (0, 0)

/-- JUNCTION_SHUTDOWN (R576, R638): every domain but management goes off, whatever the state; the record is the fatal
record, no DEPART is sent, and no command is answered. -/
def junctionShutdown (s : State) (pair : Nat) : State :=
  let (k, n) := junctionSource pair
  let r0 : EventRec := ⟨0x7014, 4, 4, 3, 0, s.cycle, if s.inStep then s.step else 0, 1, k, n, epochOf s, [0, 0, 0, 0], s.inStep⟩
  let (s1, r) := takeSeq (countEvent s 0x7014 4) r0
  let s2 := (List.range 8).foldl portDown (domsOffBut (logRec s1 r) [])
  let s3 : State := { s2 with
    dev := .fenced, act := .none, inStep := false, mem := [], bad := [], inbox := []
    ports := s2.ports.map (fun e => (e.1, Port.reset)), mend := { s2.mend with table := none } }
  let s4 := s3.withErr (fun e => { e with
    fatal := some r, fence := none, cause := none, hard := true, running := e.running.filter (fun r => decide (r.sev ≠ 4))
    queues := tdel e.queues 4, frozen := false, dump := none, collecting := none })
  failLow (s4.withPower (fun p => { p with thermalOff := true }))

/-- The junction duty of a cluster at the end of a 100 µs period (R575). -/
def adjustJunction (s : State) (g a b : Nat) : State :=
  let d := tget s.power.juncDuty g 16
  let d1 := if 210 ≤ max a b then max (d - 1) 4 else if max a b < 204 then min (d + 1) 16 else d
  let s1 := s.withPower (fun p => { p with juncDuty := tset p.juncDuty g d1 })
  let s2 := if (d = 16) = (d1 = 16) then s1 else raise s1 0x7013 0 3 3 g []
  if d1 < 16 then bump s2 O.powerCntThrottle else s2

/-- JUNCTION_SENSOR_READ (R575, R576): a pair of readings in units of 0.5 °C, of a cluster (pairs 0 to 31) or of the IOD
(32 to 35); `periodEnd` says that a period of 100 µs ends. -/
def execJunctionSensorRead (cluster a b : Nat) (periodEnd : Bool) (s : State) : Res :=
  .next (if powered s = false ∨ 36 ≤ cluster then s
    else
      let s1 := s.withPower (fun p => { p with tj := tset p.tj cluster (a, b) })
      if s.power.thermalOff then s1
      else if 230 ≤ max a b then junctionShutdown s1 cluster
      else if cluster < 32 ∧ periodEnd then adjustJunction s1 cluster a b
      else s1)

/-- THERMAL_RECOVER_BOOT (R576): `FAIL_N` stays low until IDLE. A supply that has not recovered still holds the boot
(R574). -/
def execThermalRecoverBoot (s : State) : Res :=
  .next (if powered s ∧ s.power.thermalOff ∧ s.power.tj.all (fun e => decide (max e.2.1 e.2.2 < 190)) then
      (resetBy s 4 .selfTest true).withPower (fun p => { p with sagOff := s.power.sagOff })
    else s)

/-! ### The power cap -/

/-- The class-1 clusters. -/
def class1Clusters (s : State) : List Nat := (List.range 32).filter (fun g => decide (clusterClass s g = 1))

/-- The demand of a cluster that drew `w` watts (R577). -/
def capDemand (s : State) (w g : Nat) : Nat := w * 16 / (dutyOf s g).1

/-- The grant of a demand `d` of a total `want`, with `avail` to give (R577). -/
def capShare (avail want d : Nat) : Nat := if d = 0 then 0 else if want ≤ avail then d else avail * d / want

/-- The cap duty of a demand and its grant (R577). -/
def capDutyOf (d g : Nat) : Nat := if d = 0 then 16 else min (max (16 * g / d) 1) 16

/-- One interval of 10 µs (R577, R578): `other` is what the domains that are no cluster drew, `clusters` what each cluster
drew, in whole watts. A total that does not fit its field reads as the largest value (R11; log entry 69). -/
def grantCap (s : State) (other : Nat) (clusters : List Nat) : State :=
  let cap := csrBits s O.powerCap 15 0
  let c1 := class1Clusters s
  let fixed := other + 24 * (32 - c1.length)
  let avail := cap - fixed
  let ds := c1.map (fun g => (g, capDemand s (clusters.getD g 0) g))
  let want := (ds.map Prod.snd).sum
  let gs := ds.map (fun x => (x.1, x.2, capShare avail want x.2))
  let on := csrBit s O.powerCtrl 0
  let duty := if on then gs.foldl (fun t x => tset t x.1 (capDutyOf x.2.1 x.2.2)) [] else []
  let granted := min (fixed + (gs.map (fun x => x.2.2)).sum) cap
  let total := other + (clusters.take 32).sum
  let s1 := csrPut (s.withPower (fun p => { p with capDuty := duty, inputW := min total 0xFFFF })) O.powerTokens
    ((cap - granted) * 65536 + granted)
  let s2 := csrPutBits s1 O.powerInput 31 16 (max (csrBits s1 O.powerInput 31 16) (min total 0xFFFF))
  let low := (duty.filter (fun e => decide (e.2 < 16))).map Prod.fst
  let s3 := if low.isEmpty then s2 else bump s2 O.powerCntCapped
  low.foldl (fun s g => raise s 0x7015 0 1 3 g []) s3

/-- CAP_GRANT (R577, R578). -/
def execCapGrant (other : Nat) (clusters : List Nat) (s : State) : Res :=
  .next (if powered s then grantCap s other clusters else s)

/-! ### PMBus -/

/-- PMBUS_FAULT (R561), with its count. -/
def pmbusFault (s : State) : State := bump (raise s 0x7016 0 3 0 0 []) O.powerCntPmbFault

/-- PMBUS_POLL (R560, R561): `none` is a transaction that failed three times in succession. A reading that does not fit
its field reads as the largest value (R11; log entry 69). -/
def execPmbusPoll (page : Nat) (reading : Option PmReading) (s : State) : Res :=
  .next (if powered s = false ∨ csrBit s O.powerCtrl 1 = false ∨ 3 ≤ page then s
    else match reading with
      | some x =>
        if x.faulty then pmbusFault (csrPut s (O.powerRail page) 0xFFFFFFFF)
        else csrPut s (O.powerRail page) (min x.da 0xFFFF * 65536 + min x.mv 0xFFFF)
      | none => pmbusFault (csrPut s (O.powerRail page) 0xFFFFFFFF))

/-- PMB_ALERT (R561). -/
def execPmbAlert (s : State) : Res :=
  .next (if powered s then pmbusFault ([0, 1, 2].foldl (fun s p => csrPut s (O.powerRail p) 0xFFFFFFFF) s) else s)

/-! ### Domains -/

/-- Domains that wake from off. -/
def wakingFromOff (s : State) : Nat :=
  ((List.range 57).filter (fun d => decide ((getDom s d).st = .waking) && (getDom s d).fromOff)).length

/-- Whether a queued domain is the next in the order of R567. -/
def nextInQueue (s : State) (d : Nat) : Bool := (List.range d).all (fun e => !(getDom s e).queued)

/-- DOMAIN_WAKE_START (R566, R567): a wake from off starts when its turn has come. -/
def execDomainWakeStart (d : Nat) (s : State) : Res :=
  .next (let x := getDom s d
    if 57 ≤ d ∨ x.queued = false then s
    else if demanded s d = .off then setDom s d { x with queued := false }
    else if nextInQueue s d ∧ wakingFromOff s < 4 then
      setDom s d { x with queued := false, st := .waking, fromOff := true }
    else s)

/-- An HBM stack whose domain runs again trains, unless it kept its contents (R314, R317). -/
def trainStack (s : State) (d : Nat) : State :=
  if 36 ≤ d ∧ d < 44 then
    let k := getStack s (d - 36)
    if k.ready ∨ k.failed then s else setStack s (d - 36) { k with training := true }
  else s

/-- The engine of an optical-engine domain that comes on: with its firmware loaded the modulators lock (Table 10 of
*Seam links and co-packaged optics*). -/
def startEngine (s : State) (d : Nat) : State :=
  if 44 ≤ d ∧ d < 52 ∧ (getOe s (d - 44)).st = 0 then
    setOe s (d - 44) { OptEngine.reset with st := if (tget? s.sec.images 2).isSome then 2 else 1 }
  else s

/-- The cores of a cluster whose domain comes on are there to be ticked (R541). -/
def holdCores (s : State) (d : Nat) : State :=
  if d < 32 then (coresOf d).foldl (fun s c => setCore s c (getCore s c)) s else s

/-- DOMAIN_WAKE_DONE (R566, R568, R639): a wake from off towards retention ends in retention. -/
def execDomainWakeDone (d : Nat) (s : State) : Res :=
  .next (let x := getDom s d
    if x.st ≠ .waking then s
    else if x.fromOff ∧ demanded s d = .retention then settleDom (setDom s d { x with st := .retention, fromOff := false }) d
    else
      let s0 := setDom s d { x with st := .on, fromOff := false }
      let s1 := settleDom (startEngine (trainStack (holdCores s0 d) d) d) d
      if domRuns s1 d then deliverRouter s1 d else s1)

/-- DOMAIN_WAKE_TIMEOUT (R242): a step of a domain's wake, or its entry into retention or off, has outlived its bound. -/
def execDomainWakeTimeout (d : Nat) (s : State) : Res :=
  .next (if (getDom s d).st = .waking ∨ (getDom s d).entering.isSome then activationFails s else s)

/-- REGULATOR_OR_PLL_FAULT (R242). -/
def execRegulatorOrPllFault (d : Nat) (s : State) : Res := .next (if d < 57 then activationFails s else s)

/-- DOMAIN_ENTRY_DONE (R563, R564, R568): the links of an optical engine that goes off go down with it (R428, R442). -/
def execDomainEntryDone (d : Nat) (s : State) : Res :=
  .next (match (getDom s d).entering with
    | none => s
    | some e =>
      let s0 := if e = .off then darkLinks s d else s
      let s1 := setDom s0 d { getDom s d with st := e, entering := none }
      if e = .off then retrainLinks (settleDom (loseDomain s1 d) d) d else settleDom s1 d)

/-- The severity and class of DOMAIN_BROWNOUT (Table 2 of *Errors, counters, trace and hang analysis*). -/
def brownoutSev (s : State) (d : Nat) : Nat × Nat :=
  if 32 ≤ d then (4, 3) else if clusterClass s d = 1 then (3, 1) else (2, 0)

/-- The lane of a cluster has lost both weight buffers (R565). -/
def loseWeights (s : State) (g : Nat) : State :=
  { s with score := { s.score with lanes := s.score.lanes.map (fun l =>
      if l.cluster = g then { l with bufA := ⟨0, 0#32⟩, bufB := ⟨0, 0#32⟩, failed := l.failed || l.serving } else l) } }

/-- DOMAIN_BROWNOUT (R565): a domain in low-power mode goes off and wakes again. -/
def execDomainBrownout (d : Nat) (s : State) : Res :=
  .next (let x := getDom s d
    if x.st ≠ .retention ∨ 57 ≤ d then s
    else
      let s1 := loseDomain (setDom (darkLinks s d) d { x with
        st := .off, entering := none, wait := false, brownouts := min (x.brownouts + 1) 0xFFFF }) d
      let s2 := bump (retrainLinks (settleDom s1 d) d) O.powerCntBrownout
      let s3 := if d < 32 ∧ clusterClass s d = 0 then loseWeights s2 d
        else if d < 32 then dropMicroBatch s2 else s2
      raise s3 0x7012 (brownoutSev s d).1 (brownoutSev s d).2 10 d [])

/-- Whether R569 refuses a DOMAIN_SET with BAD_STATE. -/
def domainBarred (s : State) (d p : Nat) : Bool :=
  (decide (d < 32) && decide (clusterClass s d = 0) && s.weave.isSome) ||
  (((decide (d < 32) && decide (clusterClass s d = 1)) || decide (d = 53)) && decide (s.dev = .running)) ||
  (decide (36 ≤ d) && decide (d < 44) && decide (p = 0) && s.weave.isSome)

/-- DOMAIN_SET (R569). -/
def execDomainSet (q : WcpReq) (d p : Nat) (s : State) : Res :=
  .next (wcpRow q 0x0702 false notFenced neverBusy (fun r s =>
    if d = 52 ∨ (54 ≤ d ∧ d ≤ 57) ∨ 57 < d ∨ 2 < p then respond s r stRange
    else if domainBarred s d p then respond s r stBadState
    else respond (setMgmt s d (if p = 0 then .off else if p = 1 then .retention else .on)) r stOk) s)

/-- POWER_CAP (R577). -/
def execPowerCap (q : WcpReq) (watts : Nat) (s : State) : Res :=
  .next (wcpRow q 0x0703 false notFenced neverBusy (fun r s =>
    if watts < 400 ∨ 1200 < watts then respond s r stRange
    else respond (csrPutBits s O.powerCap 15 0 watts) r stOk) s)

/-! ### Telemetry -/

/-- The bytes of Table 10. -/
def telemetryBytes (s : State) : List Byte :=
  let rail (p : Nat) : Nat := csrGet s (O.powerRail p)
  let two (n : Nat) : List Byte := leBytes 2 n
  two s.power.vinMv ++ two s.power.minTele ++ two s.power.inputW ++ two (csrBits s O.powerCap 15 0) ++
  two (csrBits s O.powerTokens 15 0) ++ two (csrBits s O.powerTokens 31 16) ++
  leBytes 1 s.power.level ++ leBytes 3 0 ++
  two (rail 1 % 65536) ++ two (rail 2 % 65536) ++ two (Config.vsbMv s.freeCtr) ++ two 0 ++
  two (rail 0 / 65536) ++ two (rail 1 / 65536) ++ two (rail 2 / 65536) ++ two 0xFFFF ++
  (List.range 4).flatMap (fun n => two (hottest s ((List.range 8).map (· + 8 * n)))) ++
  two (hottest s [32, 33, 34, 35]) ++ two 0 ++
  (List.range 8).flatMap (fun n => two (getStack s n).temp) ++
  (List.range 8).flatMap (fun n => two (getOe s n).temp) ++
  (List.range 32).flatMap (fun g => leBytes 1 (dutyOf s g).1) ++
  (List.range 4).flatMap (fun n => leBytes 4 (domCodes s (16 * n))) ++ leBytes 4 0

/-- TELEMETRY (R583): the lowest VIN is counted afresh. -/
def execTelemetry (q : WcpReq) (s : State) : Res :=
  .next (wcpRow q 0x0701 false inAny neverBusy (fun r s =>
    respond (s.useFree.withPower (fun p => { p with minTele := 0xFFFF })) r stOk 0 (telemetryBytes s)) s)

/-- RESET (R580): the response goes out first; the whole of Table 9 follows. -/
def execWcpReset (q : WcpReq) (s : State) : Res :=
  .next (wcpRow q 0x0704 false inAny neverBusy (fun r s => resetBy (flushPort (respond s r stOk) r.bind.port) 2 .romStart false) s)

end Sys2Proof.Machine
end

