-- ==== Sys2Proof/Machine/Boot.lean ====
section
/-! DEFINITION. The meanings of the supply and boot events, of the HBM stacks' temperature, training and scrub, and of JTAG
(R314 to R328, R580 to R582, R608, R621, R622, R629). -/

namespace Sys2Proof.Machine

/-! ### VSB and boot -/

/-- What the loss of VSB keeps: the key store and the fuses (R588), and what waits outside. -/
def withoutSupply (s : State) (p : PowerSt) : State :=
  { State.reset with
    power := p
    sec := { s.sec with scopes := 0, challenge := none, images := [], jtag := false, wiping := false }
    freeCtr := s.freeCtr, out := s.out, wire := s.wire, pending := s.pending }

/-- VSB_RISE (R580, R581, R621): `testEn` is whether `TEST_EN` reads high. -/
def execVsbRise (testEn : Bool) (s : State) : Res :=
  .next (if s.power.boot = .down then withoutSupply s { PowerSt.reset with testEn := testEn } else s)

/-- VSB_FALL (R620, R629): every domain goes off, and `FAIL_N` is no longer driven. -/
def execVsbFall (s : State) : Res :=
  .next (if s.power.boot = .down then s
    else
      let s1 := withoutSupply s { PowerSt.reset with doms := [], boot := .down }
      if s.power.failLow then s1.emit (.failN false) else s1)

/-- Whether boot goes on from a step (R574, R576, R638). -/
def bootsFrom (s : State) (b : BootStage) : Bool :=
  decide (s.power.boot = b) && decide (s.dev = .boot) && !s.err.bootStopped && !s.power.sagOff && !s.power.thermalOff

/-- Changes the step of boot. -/
def setBoot (s : State) (b : BootStage) : State := s.withPower (fun p => { p with boot := b })

/-- ROM_START_DONE (R581, R621): with `TEST_EN` high the ROM stops at the Self-test step and drives `FAIL_N` low. -/
def execRomStartDone (s : State) : Res :=
  .next (if bootsFrom s .romStart then
      (if s.power.testEn then failLow (setBoot s .selfTest) else setBoot s .selfTest)
    else s)

/-- Sends OPERATION ON to pages 0 to 2 (R560, R581). -/
def operationOn (s : State) : State := [0, 1, 2].foldl (fun s p => s.emit (.operationOn p)) s

/-- SELF_TEST_DONE (R581, R621). -/
def execSelfTestDone (s : State) : Res :=
  .next (if bootsFrom s .selfTest ∧ s.power.testEn = false then operationOn (setBoot s .rails) else s)

/-- The domains that the Uncore step brings on (Table 9). -/
def uncoreDoms : List Nat := [52, 54, 55, 56]

/-- RAILS_DONE (R581). -/
def execRailsDone (s : State) : Res :=
  .next (if bootsFrom s .rails then uncoreDoms.foldl (fun s d => setMgmt s d .on) (setBoot s .uncore) else s)

/-- RAILS_RETRY (R582): PMBUS_FAULT, and the step starts again. -/
def execRailsRetry (s : State) : Res :=
  .next (if bootsFrom s .rails then operationOn (pmbusFault s) else s)

/-- Releases `FAIL_N` (R576). -/
def releaseFail (s : State) : State :=
  if s.power.failLow then (s.withPower (fun p => { p with failLow := false })).emit (.failN false) else s

/-- UNCORE_DONE (R576, R581): `STATE` reads IDLE. -/
def execUncoreDone (s : State) : Res :=
  .next (if bootsFrom s .uncore ∧ uncoreDoms.all (domRuns s) then setDev (releaseFail (setBoot s .done)) .idle else s)

/-! ### HBM -/

/-- The throttle level that a reading enters (Table 8 of *Memory tiers and weight streaming*). -/
def hbmEnters (temp : Nat) : Nat := if 190 ≤ temp then 3 else if 180 ≤ temp then 2 else if 170 ≤ temp then 1 else 0

/-- The reading below which a level is left (Table 8). -/
def hbmLeft : Nat → Nat
  | 1 => 164 | 2 => 174 | 3 => 184 | _ => 0

/-- The level after a reading (R319). -/
def hbmLevel (level temp : Nat) : Nat :=
  if level < hbmEnters temp then hbmEnters temp else if temp < hbmLeft level then level - 1 else level

/-- HBM_TEMP_READ (R318, R319, R322, R329): the controller lies in the die uncore; 100.0 °C is Over, which is not left before
reset. -/
def execHbmTempRead (stack reading : Nat) (s : State) : Res :=
  let temp := min reading 0x1FF
  .next (if 8 ≤ stack ∨ domRuns s (32 + stack / 2) = false then s
    else
      let k := getStack s stack
      let s0 := csrPutBits s (O.hbmTemp stack) 11 11 1
      if k.hot then setStack s0 stack { k with temp := temp }
      else if 200 ≤ temp then
        raise (setStack s0 stack { k with temp := temp, level := 3, hot := true }) 0x7001 4 3 4 stack
      else
        let n := hbmLevel k.level temp
        let s1 := setStack s0 stack { k with temp := temp, level := n }
        if n = k.level then s1 else raise s1 0x2020 0 3 4 stack [stack, temp, n])

/-- HBM_TRAINING_DONE (R314, R315): a trained stack reads as zeros; one that fails stays unusable, its domain off, until
reset. -/
def execHbmTrainingDone (stack : Nat) (ok : Bool) (s : State) : Res :=
  .next (let k := getStack s stack
    if k.training = false then s
    else if ok then setStack (loseMem s (stackBase stack) 0x900000000) stack { k with training := false, ready := true }
    else raise (settleDom (setStack s stack { k with training := false, failed := true }) (36 + stack)) 0x2021 0 3 4 stack)

/-- HANDLER_FAULT (R537): the running handler is abandoned, and its record notified (R499). -/
def handlerLost (s : State) (info : EventRec → List Nat) : State :=
  match s.err.running with
  | some r => raise (notifyEvent (s.withErr (fun e => { e with running := none })) r) 0x9010 4 3 0 0 (info r)
  | none => s

/-- Uncorrectable data in the ROM or in management working storage (R540). -/
def storageFault (s : State) (a : Nat) : State :=
  let info (code : Nat) : List Nat := [0x2002, a % 2 ^ 32, a / 2 ^ 32, code]
  let s1 := countUe s a
  if s1.err.running.isSome then handlerLost s1 (fun r => info r.code) else raise s1 0x9010 4 3 0 0 (info 0)

/-- Whether a scrub reaches an address: its enable is set, its domain runs, and no sag holds class-2 traffic (R328, R572). -/
def scrubs (s : State) (a : Nat) : Bool :=
  decide (s.power.level = 0) &&
  (match placeOf a with
   | .sram g => csrBit s O.hbmCtrl 1 && domRuns s g
   | .scratch c => csrBit s O.hbmCtrl 1 && domRuns s (clusterOf c)
   | .hbm n => csrBit s O.hbmCtrl 0 && domRuns s (36 + n) && (getStack s n).ready && !(getStack s n).hot
   | .reserved => csrBit s O.hbmCtrl 0 && domRuns s 43 && (getStack s 7).ready && !(getStack s 7).hot
   | _ => false)

/-- The lowest class that a page map grants a page to; 2 for none. -/
def classOfPage (s : State) (page : Nat) : Nat := ([0, 1, 2].find? (fun c => (grantOf s c page).isSome)).getD 2

/-- An uncorrectable word or burst found by the scrub: it stays so until it is written (R325, R327). -/
def scrubBad (s : State) (a : Nat) : State :=
  if scrubs s a = false then s
  else
    let w := a / 8 * 8
    let s1 := meetUpset s (a, .lost)
    if placeOf a = .reserved then storageFault s1 a else memUncorr s1 (classOfPage s (pageOf a)) w

/-- An error in memory that the scrub meets (R328). -/
def scrubMeets (s : State) (u : Nat × Upset) : State :=
  if scrubs s u.1 = false then s
  else match u.2 with
    | .lost => scrubBad { s with upsets := s.upsets.erase u } u.1
    | _ => meetUpset s u

/-- SCRUB_PASS (R324, R325, R327, R328): the errors in memory that the scrub reaches, and the addresses of words found
corrected and uncorrectable beside them. -/
def execScrubPass (corrected uncorrectable : List Nat) (s : State) : Res :=
  let s1 := s.upsets.foldl scrubMeets s
  .next (uncorrectable.foldl scrubBad (corrected.foldl (fun s a => if scrubs s a then memCorrected s a else s) s1))

/-! ### JTAG -/

/-- JTAG_IDCODE (R622). -/
def execJtagIdcode (s : State) : Res :=
  .next (if powered s then (s.withPower (fun p => { p with bypass := false })).emit (.jtag 0x1000A2F3#32) else s)

/-- JTAG_BYPASS (R622). -/
def execJtagBypass (s : State) : Res :=
  .next (if powered s then s.withPower (fun p => { p with bypass := true }) else s)

/-- JTAG_RESET (R608): only under a SCAN grant, once its wipe has ended. -/
def execJtagReset (s : State) : Res :=
  .next (if powered s ∧ s.sec.jtag then resetBy s 1 .romStart false else s)

end Sys2Proof.Machine
end

