-- ==== Sys2Proof/Machine/Operands.lean ====
section
/-! DEFINITION. The operand forms of control-core instructions: immediates and the ALU operations
(R253, R254, Table 3 of *The station control core*). -/

namespace Sys2Proof.Machine

/-- Sign-extends a 16-bit immediate (R253). -/
def sext16 (i : BitVec 16) : BitVec 64 := i.signExtend 64

/-- Zero-extends a 16-bit immediate (R253). -/
def zext16 (i : BitVec 16) : BitVec 64 := i.setWidth 64

/-- 1 or 0 in 64 bits. -/
def flag64 (b : Bool) : BitVec 64 := if b then 1#64 else 0#64

/-- Leading zeros of a 64-bit word, 0 to 64. -/
def clz64 (a : BitVec 64) : Nat := ((List.range 64).takeWhile (fun i => !a.getLsbD (63 - i))).length

/-- Set bits of a 64-bit word. -/
def popc64 (a : BitVec 64) : Nat := ((List.range 64).filter (fun i => a.getLsbD i)).length

/-- The ALU operation of a `FUNC` code (Table 3). -/
def aluOp (func : Nat) (a b : BitVec 64) : BitVec 64 :=
  match func with
  | 0x0 => a + b
  | 0x1 => a - b
  | 0x2 => a &&& b
  | 0x3 => a ||| b
  | 0x4 => a ^^^ b
  | 0x5 => a <<< (b.toNat % 64)
  | 0x6 => a >>> (b.toNat % 64)
  | 0x7 => a.sshiftRight (b.toNat % 64)
  | 0x8 => a * b
  | 0x9 => BitVec.ofInt 64 (a.toInt * b.toInt / 2 ^ 64)
  | 0xA => flag64 (a.slt b)
  | 0xB => flag64 (a.ult b)
  | 0xC => if a.slt b then a else b
  | 0xD => if a.slt b then b else a
  | 0xE => BitVec.ofNat 64 (clz64 a)
  | _ => BitVec.ofNat 64 (popc64 a)

/-- The reserved fields of an ALU word are zero: [10:4], and gb for CLZ and POPC (R254). -/
def aluLegal (func gb rsv : Nat) : Bool := decide (rsv = 0) && (decide (func < 0xE) || decide (gb = 0))

/-- The shift of SHIFTI: imm[5:0] is the amount, imm[7:6] the kind (R254). -/
def shiftImm (a : BitVec 64) (imm : BitVec 16) : BitVec 64 :=
  let n := bitsOf imm.toNat 5 0
  match bitsOf imm.toNat 7 6 with
  | 0 => a <<< n
  | 1 => a >>> n
  | _ => a.sshiftRight n

/-- SHIFTI is legal when imm[15:8] is zero and the kind is not reserved. -/
def shiftLegal (imm : BitVec 16) : Bool :=
  decide (bitsOf imm.toNat 15 8 = 0) && decide (bitsOf imm.toNat 7 6 ≠ 3)

/-- The conditions of the branches, BEQ to BGEU as 0 to 5 (R254). -/
def branchTaken (kind : Nat) (a b : BitVec 64) : Bool :=
  match kind with
  | 0 => decide (a = b)
  | 1 => decide (a ≠ b)
  | 2 => a.slt b
  | 3 => !a.slt b
  | 4 => a.ult b
  | _ => !a.ult b

/-- A program counter moved by a signed number of instructions, within 20 bits (R251, R253). -/
def pcRel (pc : Nat) (off : Int) : Nat := (((pc : Int) + 4 * off) % 2 ^ 20).toNat

/-- The next instruction. -/
def pcNext (pc : Nat) : Nat := (pc + 4) % 2 ^ 20

end Sys2Proof.Machine
end

