-- ==== Sys2Proof/Machine/CoreExec.lean ====
section
/-! DEFINITION. The execution of control-core instructions: issue, hazards and the issue buffer (R270,
R271), loads and stores (R255, R256), and the effect of each instruction that changes more than registers. -/

namespace Sys2Proof.Machine

/-! ### Registers -/

/-- A general register; g0 reads as zero (R250). -/
def Thread.reg (x : Thread) (g : Nat) : BitVec 64 := if g = 0 then 0#64 else tget x.regs g 0#64

/-- A register table with one register written; writes to g0 are discarded (R250). -/
def setReg (r : Tbl (BitVec 64)) (g : Nat) (v : BitVec 64) : Tbl (BitVec 64) := if g = 0 then r else tset r g v

/-- Writes a register of a thread. -/
def Thread.put (x : Thread) (g : Nat) (v : BitVec 64) : Thread := { x with regs := setReg x.regs g v }

/-- Writes a register of a thread now and in the registers that later instructions would be returned to. -/
def Thread.putAll (x : Thread) (g : Nat) (v : BitVec 64) : Thread :=
  { x with regs := setReg x.regs g v
           buffer := x.buffer.map (fun w => { w with regs := setReg w.regs g v })
           branches := x.branches.map (fun b => { b with regs := setReg b.regs g v }) }

/-- The register that an instruction writes; 0 for none. -/
def CoreOp.writes : CoreOp → Nat
  | .load _ _ gd _ => gd
  | .aadd gd _ _ => gd
  | .jalr gd _ => gd
  | .twait gd _ _ _ _ => gd
  | .kopen gd _ => gd
  | .csrr gd _ _ => gd
  | _ => 0

/-- Whether a register is the result of an instruction that still waits in the buffer. -/
def Thread.awaited (x : Thread) (g : Nat) : Bool := g ≠ 0 && x.buffer.any (fun w => decide (w.op.writes = g))

/-! ### Issue -/

/-- Whether a thread issues an instruction now (R272, R283). -/
def mayIssue (s : State) (c t : Nat) : Bool :=
  coreRuns s c && decide ((getThread s c t).st = .running) && !traceStalls s c t

/-- A thread stops issuing: it switches out if it runs. -/
def park (s : State) (c t : Nat) (st : TState) (b : Blocked) : State :=
  if (getThread s c t).st = .running then switchOut s c t st b
  else setThread s c t { getThread s c t with st := st, blocked := b }

/-- The address of a control-core access is checked for size and page (R255, R256): 0 allowed, 2 MISALIGNED,
3 MEM_ACCESS. -/
def accessCause (s : State) (c n : Nat) (write : Bool) (a : BitVec 64) : Nat :=
  if a.toNat % n ≠ 0 then 2
  else if mayAccess s (coreClass s c) write a.toNat n then 0
  else 3

/-- Whether an address lies in a core's own scratch. -/
def ownScratch (c a : Nat) : Bool := decide (scratchBase c ≤ a) && decide (a < scratchBase c + 0x100000)

/-- The value loaded from memory, extended to 64 bits. -/
def loadValue (s : State) (bytes : Nat) (signed : Bool) (a : Nat) : BitVec 64 :=
  let v := memNum s.mem a bytes
  if signed then (BitVec.ofNat 32 v).signExtend 64 else BitVec.ofNat 64 v

/-- The request of a thread to a stack. -/
def threadReq (s : State) (c t : Nat) : HbmReq := ⟨.thread c t, classPrio (coreClass s c)⟩

/-- Whether an access misses: it must wait for its domain, or lies outside the own scratch and its line is not in the L1
data cache (R256, R273, R290, R301; log entry 8). -/
def missTaken (s : State) (c a n : Nat) : Bool := accessHeld s a || (!ownScratch c a && !l1Holds s c a n)

/-- An access that misses reaches memory, unless the cache of the cluster holds its line. -/
def sendMiss (s : State) (c t a n : Nat) : State :=
  if cacheHolds s c a n then s else waitFor s (threadReq s c t) (a / 64 * 64) 64

/-- A load (R255, R256, R273, R324, R326, R327): a line in the L1 data cache is read there, unless it is found bad. -/
def doLoad (s0 : State) (c t pc bytes : Nat) (signed : Bool) (gd : Nat) (a : BitVec 64) : State :=
  match accessCause s0 c bytes false a with
  | 0 =>
    let n := a.toNat
    let s := if ownScratch c n then s0 else cacheMeets s0 c n bytes
    let v := loadValue s bytes signed n
    let missed := missTaken s c n bytes
    if ownScratch c n = false ∧ missed = false then setThread s c t ((getThread s c t).putAll gd v)
    else if ownScratch c n = false ∧ cacheHolds s c n bytes then park s c t .miss (.miss gd v n true)
    else
      let s1 := readMeets s n bytes
      if badIn s1 n bytes ≠ [] then memUncorrBy (park s1 c t .miss .none) c n
      else if missed then park (sendMiss s1 c t n bytes) c t .miss (.miss gd v n true)
      else setThread s1 c t ((getThread s1 c t).putAll gd v)
  | k => coreExc s0 c t k a.toNat 0 false pc

/-- A store of a core: the lines written stay in its own L1 data cache and in the cache of its cluster, where they are held
(R303). -/
def storePut (s : State) (c a : Nat) (bs : List Byte) : State :=
  let s1 := agentWrite s a bs
  let s2 := setCore s1 c { getCore s1 c with l1 := (getCore s c).l1 }
  match tget? s.ccache (clusterOf c) with
  | some l => { s2 with ccache := tset s2.ccache (clusterOf c) l }
  | none => s2

/-- A store (R255, R256, R273, R303). -/
def doStore (s : State) (c t pc bytes : Nat) (v a : BitVec 64) : State :=
  match accessCause s c bytes true a with
  | 0 =>
    let s1 := storePut s c a.toNat (leBytes bytes v.toNat)
    if missTaken s1 c a.toNat bytes then
      park (waitFor s1 (threadReq s1 c t) (a.toNat / 64 * 64) 64) c t .miss (.miss 0 0#64 a.toNat false)
    else s1
  | k => coreExc s c t k a.toNat 0 false pc

/-- AADD (R254, R256). -/
def doAadd (s : State) (c t pc gd : Nat) (v a : BitVec 64) : State :=
  match (if a.toNat % 8 ≠ 0 then 2 else if ownScratch c a.toNat then accessCause s c 8 true a else 3) with
  | 0 =>
    let s0 := readMeets s a.toNat 8
    if badIn s0 a.toNat 8 = [] then
      let old := loadValue s0 8 false a.toNat
      let s1 := agentWrite s0 a.toNat (leBytes 8 (old + v).toNat)
      setThread s1 c t ((getThread s1 c t).putAll gd old)
    else memUncorrBy (park s0 c t .miss .none) c a.toNat
  | k => coreExc s c t k a.toNat 0 false pc

/-- JALR (R254, R255, R273): the thread switches until the target is known, and is ready at once. -/
def doJalr (s : State) (c t pc gd : Nat) (a : BitVec 64) : State :=
  if a.toNat % 4 ≠ 0 then coreExc s c t 2 a.toNat 0 false pc
  else if 2 ^ 20 ≤ a.toNat then coreExc s c t 8 a.toNat 0 false pc
  else
    let s0 := traceTarget s c t pc a.toNat
    let x := (getThread s0 c t).putAll gd (BitVec.ofNat 64 (pcNext pc))
    let s1 := setThread s0 c t { x with pc := a.toNat }
    if (getThread s1 c t).st = .running then switchOut s1 c t .ready .none else s1

/-- TISSUE (R257 to R259). -/
def doTissue (s : State) (c t pc : Nat) (w : BitVec 64) (stn idx : Nat) : State :=
  if tissueOk s c t stn idx w then
    let n := (stnNumber stn idx).getD 0
    if queueFull s c n then park s c t .queueFull (.queueFull (.tissue w stn idx) pc)
    else enqueueWork s c n t pc w
  else coreExc s c t 5 w.toNat (stn + idx * 16) false pc

/-- SISSUE (R258, R259): a descriptor with a tag begins the device's part in a move of bytes (R337). One with uncorrectable
data is never delivered (R327). -/
def doSissue (s0 : State) (c t pc : Nat) (a : BitVec 64) (stn idx : Nat) : State :=
  let own := a.toNat % 64 = 0 ∧ ownScratch c a.toNat
  let s := if own then readMeets s0 a.toNat 64 else s0
  if own ∧ badIn s a.toNat 64 ≠ [] then memUncorrBy (park s c t .miss .none) c a.toNat
  else if sissueOk s c t stn idx a then
    let n := (stnNumber stn idx).getD 0
    if queueFull s c n then park s c t .queueFull (.queueFull (.sissue a stn idx) pc)
    else
      let d := readDesc (memGet s a.toNat 64)
      beginPart (enqueueWork s c n t pc a) d.tag
  else coreExc s c t 6 a.toNat (stn + idx * 16) false pc

/-- What a TWAIT finds: `none` for TOKEN, else the count to write when it is satisfied (R264, R265). -/
def twaitCount (s : State) (c kind idx side n : Nat) : Option (Option Nat) :=
  if kind = 1 then
    (let v := tget (getCore s c).sync idx 0
     some (if n ≤ v then some (v - n) else none))
  else if side = 0 then
    match fanin s c idx with
    | some p =>
      if n = 0 ∨ p.2.depth < n then none
      else
        let q := (getStream s p.1).queue.length
        some (if n ≤ q then some q else none)
    | none => none
  else
    match fanout s c idx with
    | [] => none
    | p :: ps =>
      if n = 0 ∨ p.2.depth < n then none
      else
        let q := creditsOf s ((p :: ps).map Prod.fst)
        some (if n ≤ q then some q else none)

/-- A TWAIT that is satisfied: the count goes to gd; a sync counter keeps the remainder (R265). -/
def twaitDone (s : State) (c t gd kind idx v : Nat) : State :=
  let k := getCore s c
  let s1 := if kind = 1 then setCore s c { k with sync := tset k.sync idx v } else s
  setThread s1 c t ((getThread s1 c t).putAll gd (BitVec.ofNat 64 v))

/-- TWAIT. -/
def doTwait (s : State) (c t pc gd kind idx side n : Nat) : State :=
  match twaitCount s c kind idx side n with
  | none => coreExc s c t 7 0 0 false pc
  | some (some v) => twaitDone s c t gd kind idx v
  | some none => park s c t .twait (.twait gd kind idx side n)

/-- Serves a thread that waits on a sync counter which now holds enough (R265). -/
def serveTwait (d idx : Nat) (s : State) (t : Nat) : State :=
  match (getThread s d t).blocked with
  | .twait gd 1 i _ n =>
    let v := tget (getCore s d).sync idx 0
    if i = idx ∧ n ≤ v then releaseThread (twaitDone s d t gd 1 idx (v - n)) d t else s
  | _ => s

/-- TSIG (R266): n is added to a counter of a core of the same cluster, which sees a wake event (R275); the
threads that wait on it are served in ascending number (R265). -/
def doTsig (s : State) (c t pc core counter n : Nat) : State :=
  let d := clusterOf c * 8 + core
  let k := getCore s d
  let v := tget k.sync counter 0 + n
  if 0xFFFF < v then coreExc s c t 7 0 0 false pc
  else coreEvent ((List.range 8).foldl (serveTwait d counter) (setCore s d { k with sync := tset k.sync counter v })) d 0

/-- KOPEN (R261). -/
def doKopen (s : State) (c t gd : Nat) (v : BitVec 64) : State :=
  let (s1, r) := openKey s c t (bitsOf v.toNat 15 0) (bitsOf v.toNat 17 16) (bitsOf v.toNat 31 18)
  setThread s1 c t ((getThread s1 c t).putAll gd (BitVec.ofNat 64 r))

/-- Forgets a key in every thread of a core. -/
def forgetKey (k : BitVec 64) (s : State) (c : Nat) : State :=
  let x := getCore s c
  setCore s c { x with threads := x.threads.map (fun e =>
    (e.1, { e.2 with keys := e.2.keys.filter (fun y => decide (y ≠ k)) })) }

/-- KCLOSE (R261): a key that is not live has no effect. -/
def doKclose (s : State) (c : Nat) (v : BitVec 64) : State :=
  let k := srKey (jobSeed s) (bitsOf v.toNat 15 0) (bitsOf v.toNat 31 18) (bitsOf v.toNat 17 16)
  if bitsOf v.toNat 17 16 ≠ 3 ∧ keyLive s (clusterOf c) k then
    (coresOf (clusterOf c)).foldl (forgetKey k) (retireKey s (clusterOf c) k)
  else s

/-- The thread that issued the work a station does. -/
def Work.owner : Work → Option Nat
  | .idle => none
  | .routine e _ _ => some e.thread
  | .walk e _ _ => some e.thread

/-- Whether a thread has a stream at a STORE that has not written its last byte. -/
def storePending (s : State) (c t : Nat) : Bool :=
  [9, 10].any (fun n =>
    let x := getStn s c n
    x.queue.any (fun e => decide (e.thread = t)) || decide (x.work.owner = some t))

/-- Whether a station of a thread is empty and has handed on its last output. -/
def stationQuiet (s : State) (c n : Nat) : Bool :=
  let x := getStn s c n
  let e := getEng s c (n - 2)
  x.queue.isEmpty && decide (x.work = .idle) && x.out.isEmpty &&
    (!(2 ≤ n && n < 6) || (e.loads.isEmpty && e.streams.isEmpty))

/-- Whether every condition of a FENCE mask holds (R269). Loads, stores and issues of the thread are complete
when its next instruction executes. -/
def fenceHolds (s : State) (c t mask : Nat) : Bool :=
  (!bitOf mask 2 || !storePending s c t) &&
  (!bitOf mask 3 || (List.range 13).all (fun n => decide (driverOf s c n ≠ t) || stationQuiet s c n))

/-- FENCE (R269). -/
def doFence (s : State) (c t mask : Nat) : State :=
  if fenceHolds s c t mask then s else park s c t .fence (.fence mask)

/-- WAIT (R275, R276): a latched event completes it at once. -/
def doWait (s : State) (c t mask : Nat) : State :=
  let x := getThread s c t
  if x.latch &&& mask = 0 then retainCluster (park s c t .wait (.wait mask)) (clusterOf c)
  else setThread s c t { x with latch := x.latch - (x.latch &&& mask) }

/-- The offset in CSR space that a CSR instruction names, when R45 lets it: space 0 the own CORE block, space 1
GLOBAL. -/
def csrTarget (c space off : Nat) : Option Nat :=
  if space = 1 then (if off * 4 < 0x10000 then some (off * 4) else none)
  else if off * 4 < 0x1000 then some (0x100000 + c * 0x1000 + off * 4)
  else none

/-- The address that a refused CSR instruction names. -/
def csrAddr (c space off : Nat) : Nat := csrSpace + (if space = 1 then 0 else 0x100000 + c * 0x1000) + off * 4

/-- CSRR (R45). -/
def doCsrr (s : State) (c t pc gd space off : Nat) : State :=
  match csrTarget c space off with
  | none => coreExc s c t 4 (csrAddr c space off) 0 false pc
  | some o =>
    let (s1, v) := csrRead s (threadReader c t) o
    setThread s1 c t ((getThread s1 c t).putAll gd (BitVec.ofNat 64 v))

/-- CSRW (R45). -/
def doCsrw (s : State) (c t pc : Nat) (v : BitVec 64) (space off : Nat) : State :=
  if space = 1 ∨ 0x1000 ≤ off * 4 then coreExc s c t 4 (csrAddr c space off) 0 false pc
  else coreWrite s c (off * 4) (v.setWidth 32)

/-- TRACE (R281, R282): 0 MARK, 1 start this thread, 2 stop this thread. -/
def doTrace (s : State) (c t pc : Nat) (v : BitVec 64) (action : Nat) : State :=
  match action with
  | 0 => traceMark s c t pc (v.toNat % 2 ^ 32)
  | 1 => traceStart (csrPutBits s (O.coreTraceCtrl c) (8 + t) (8 + t) 1) c t
  | _ => csrPutBits (traceTnt s c t) (O.coreTraceCtrl c) (8 + t) (8 + t) 0

/-- Performs an instruction of a thread; `pc` is its address. -/
def performOp (s : State) (c t pc : Nat) : CoreOp → State
  | .load n sg gd a => doLoad s c t pc n sg gd a
  | .store n v a => doStore s c t pc n v a
  | .aadd gd v a => doAadd s c t pc gd v a
  | .jalr gd a => doJalr s c t pc gd a
  | .tissue w stn idx => doTissue s c t pc w stn idx
  | .sissue a stn idx => doSissue s c t pc a stn idx
  | .twait gd k i sd n => doTwait s c t pc gd k i sd n
  | .tsig core counter n => doTsig s c t pc core counter n
  | .kopen gd v => doKopen s c t gd v
  | .kclose v => doKclose s c v
  | .fence m => doFence s c t m
  | .wait m => doWait s c t m
  | .csrr gd sp off => doCsrr s c t pc gd sp off
  | .csrw v sp off => doCsrw s c t pc v sp off
  | .trace v a => doTrace s c t pc v a
  | .halt => retainCluster (stopThread s c t .halted) (clusterOf c)
  | .illegal => coreExc s c t 1 0 0 false pc

/-- A thread that took an exception stands at the faulting instruction (R278). -/
def settlePc (s : State) (c t pc : Nat) (regs : Tbl (BitVec 64)) : State :=
  let x := getThread s c t
  if x.st = .exception then setThread s c t { x with pc := pc, regs := regs } else s

/-- Issues an instruction that changes more than registers (R270, R271): it is performed, or waits in the
issue buffer under an unresolved branch; a full buffer switches the thread, and so does a JALR in it. -/
def issueOp (s : State) (c t : Nat) (op : CoreOp) : State :=
  let x := getThread s c t
  let y := { x with pc := pcNext x.pc, run := x.run + 1 }
  if x.branches.isEmpty ∧ x.buffer.isEmpty then
    settlePc (performOp (setThread s c t y) c t x.pc op) c t x.pc x.regs
  else if 4 ≤ x.buffer.length then switchOut s c t .queueFull .none
  else
    let s1 := setThread s c t { y with buffer := x.buffer ++ [⟨x.branches.length, x.pc, op, x.regs⟩] }
    match op with
    | .jalr _ _ => switchOut s1 c t .queueFull .none
    | _ => s1

/-- Performs the waiting instructions that no unresolved branch stands before, in order, until one blocks the
thread. -/
def drainN (s : State) (c t : Nat) : Nat → State
  | 0 => s
  | fuel + 1 =>
    let x := getThread s c t
    match x.buffer with
    | [] => s
    | w :: rest =>
      if w.depth ≠ 0 ∨ x.blocked ≠ .none ∨ x.st = .halted ∨ x.st = .exception ∨ x.st = .miss then s
      else
        let s1 := performOp (setThread s c t { x with buffer := rest }) c t w.pc w.op
        drainN (settlePc s1 c t w.pc w.regs) c t fuel

/-- Performs what may be performed, and makes a thread ready that waited for the buffer alone. -/
def drainBuffer (s : State) (c t : Nat) : State :=
  let s1 := drainN s c t 5
  let x := getThread s1 c t
  if x.st = .queueFull ∧ x.blocked = .none ∧ x.behind = false then makeReady s1 c t else s1

/-- A blocked thread continues: what waited behind the instruction proceeds, and the thread is ready unless its buffer holds
it (R273). -/
def resumeThread (s : State) (c t : Nat) : State := drainBuffer (releaseThread s c t) c t

/-- Issues an instruction that changes only registers (R270): not while an operand is the result of a waiting
instruction. -/
def issueReg (s0 : State) (c t : Nat) (uses : List Nat) (f : Thread → Thread) : State :=
  let s := drainBuffer s0 c t
  let x := getThread s c t
  if mayIssue s c t = false ∨ uses.any x.awaited then s
  else
    let y := f x
    setThread s c t { y with pc := pcNext x.pc, run := x.run + 1 }

/-- Issues an ALU or immediate instruction, or an illegal one (R254). -/
def issueAlu (s : State) (c t gd : Nat) (uses : List Nat) (legal : Bool) (v : Thread → BitVec 64) : State :=
  if legal then issueReg s c t (gd :: uses) (fun x => x.put gd (v x))
  else
    let s1 := drainBuffer s c t
    if mayIssue s1 c t then issueOp s1 c t .illegal else s1

/-- Issues any other instruction, taking its operands now (R270). -/
def issueOther (s0 : State) (c t : Nat) (uses : List Nat) (legal : Bool) (op : Thread → CoreOp) : State :=
  let s := drainBuffer s0 c t
  let x := getThread s c t
  if mayIssue s c t = false ∨ uses.any x.awaited then s
  else issueOp s c t (if legal then op x else .illegal)

/-! ### Branches -/

/-- The predictor entry of a branch. -/
def predIndex (pc t : Nat) : Nat := bitsOf pc 10 2 ^^^ t

/-- Issues a conditional branch (R253, R254, R270): the thread goes on along the predicted path. -/
def issueBranch (s0 : State) (c t kind ga gb : Nat) (off : BitVec 16) : State :=
  let s := drainBuffer s0 c t
  let x := getThread s c t
  if mayIssue s c t = false ∨ x.awaited ga ∨ x.awaited gb then s
  else
    let i := predIndex x.pc t
    let predicted := decide (2 ≤ tget (getCore s c).predictor i 0)
    let target := pcRel x.pc off.toInt
    let b : Branch := ⟨x.pc, branchTaken kind (x.reg ga) (x.reg gb), predicted,
      if predicted then pcNext x.pc else target, i, x.regs⟩
    setThread s c t { x with pc := if predicted then target else pcNext x.pc
                             run := x.run + 1
                             branches := x.branches ++ [b] }

/-- The counter of a predictor entry after an outcome. -/
def predNext (v : Nat) (taken : Bool) : Nat := if taken then min (v + 1) 3 else v - 1

/-- The oldest branch of a thread resolves (R270, R271). -/
def resolveBranch (s : State) (c t : Nat) (b : Branch) (rest : List Branch) : State :=
  let k := getCore s c
  let s1 := setCore s c { k with predictor := tset k.predictor b.index (predNext (tget k.predictor b.index 0) b.taken) }
  let x := getThread s1 c t
  if b.taken = b.predicted then
    let y := { x with branches := rest, buffer := x.buffer.map (fun w => { w with depth := w.depth - 1 }) }
    drainBuffer (traceOutcome (setThread s1 c t y) c t b.pc b.taken) c t
  else
    let y := { x with branches := [], buffer := x.buffer.filter (fun w => decide (w.depth = 0)), regs := b.regs, pc := b.other }
    drainBuffer (traceOutcome (bump (setThread s1 c t y) (O.coreBpMiss c)) c t b.pc b.taken) c t

end Sys2Proof.Machine
end

