-- ==== Sys2Proof/Machine/Control.lean ====
section
/-! DEFINITION. The meanings of the control-core instructions (R250 to R286). -/

namespace Sys2Proof.Machine

/-- ALU (R254, Table 3). -/
def execAlu (core thread gd ga gb rsv func : Nat) (s : State) : Res :=
  .next (issueAlu s core thread gd [ga, gb] (aluLegal func gb rsv) (fun x => aluOp func (x.reg ga) (x.reg gb)))

/-- ADDI (R254). -/
def execAddi (core thread gd ga : Nat) (imm : BitVec 16) (s : State) : Res :=
  .next (issueAlu s core thread gd [ga] true (fun x => x.reg ga + sext16 imm))

/-- ANDI (R254). -/
def execAndi (core thread gd ga : Nat) (imm : BitVec 16) (s : State) : Res :=
  .next (issueAlu s core thread gd [ga] true (fun x => x.reg ga &&& zext16 imm))

/-- ORI (R254). -/
def execOri (core thread gd ga : Nat) (imm : BitVec 16) (s : State) : Res :=
  .next (issueAlu s core thread gd [ga] true (fun x => x.reg ga ||| zext16 imm))

/-- XORI (R254). -/
def execXori (core thread gd ga : Nat) (imm : BitVec 16) (s : State) : Res :=
  .next (issueAlu s core thread gd [ga] true (fun x => x.reg ga ^^^ zext16 imm))

/-- SLTI (R254). -/
def execSlti (core thread gd ga : Nat) (imm : BitVec 16) (s : State) : Res :=
  .next (issueAlu s core thread gd [ga] true (fun x => flag64 ((x.reg ga).slt (sext16 imm))))

/-- SHIFTI (R254). -/
def execShifti (core thread gd ga : Nat) (imm : BitVec 16) (s : State) : Res :=
  .next (issueAlu s core thread gd [ga] (shiftLegal imm) (fun x => shiftImm (x.reg ga) imm))

/-- LUI (R254). -/
def execLui (core thread gd ga : Nat) (imm : BitVec 16) (s : State) : Res :=
  .next (issueAlu s core thread gd [] (decide (ga = 0)) (fun _ => sext16 imm <<< 16))

/-- SHORI (R254). -/
def execShori (core thread gd ga : Nat) (imm : BitVec 16) (s : State) : Res :=
  .next (issueAlu s core thread gd [ga] true (fun x => (x.reg ga <<< 16) ||| zext16 imm))

/-- LD (R254 to R256). -/
def execLd (core thread gd ga : Nat) (imm : BitVec 16) (s : State) : Res :=
  .next (issueOther s core thread [gd, ga] true (fun x => .load 8 false gd (x.reg ga + sext16 imm)))

/-- LW (R254 to R256). -/
def execLw (core thread gd ga : Nat) (imm : BitVec 16) (s : State) : Res :=
  .next (issueOther s core thread [gd, ga] true (fun x => .load 4 true gd (x.reg ga + sext16 imm)))

/-- LWU (R254 to R256). -/
def execLwu (core thread gd ga : Nat) (imm : BitVec 16) (s : State) : Res :=
  .next (issueOther s core thread [gd, ga] true (fun x => .load 4 false gd (x.reg ga + sext16 imm)))

/-- LBU (R254 to R256). -/
def execLbu (core thread gd ga : Nat) (imm : BitVec 16) (s : State) : Res :=
  .next (issueOther s core thread [gd, ga] true (fun x => .load 1 false gd (x.reg ga + sext16 imm)))

/-- SD (R254 to R256). -/
def execSd (core thread gd ga : Nat) (imm : BitVec 16) (s : State) : Res :=
  .next (issueOther s core thread [gd, ga] true (fun x => .store 8 (x.reg gd) (x.reg ga + sext16 imm)))

/-- SW (R254 to R256). -/
def execSw (core thread gd ga : Nat) (imm : BitVec 16) (s : State) : Res :=
  .next (issueOther s core thread [gd, ga] true (fun x => .store 4 (x.reg gd) (x.reg ga + sext16 imm)))

/-- SB (R254 to R256). -/
def execSb (core thread gd ga : Nat) (imm : BitVec 16) (s : State) : Res :=
  .next (issueOther s core thread [gd, ga] true (fun x => .store 1 (x.reg gd) (x.reg ga + sext16 imm)))

/-- AADD (R254, R256). -/
def execAadd (core thread gd ga : Nat) (imm : BitVec 16) (s : State) : Res :=
  .next (issueOther s core thread [gd, ga] true (fun x => .aadd gd (x.reg gd) (x.reg ga + sext16 imm)))

/-- BEQ (R253, R254, R270). -/
def execBeq (core thread ga gb : Nat) (off : BitVec 16) (s : State) : Res :=
  .next (issueBranch s core thread 0 ga gb off)

/-- BNE (R253, R254, R270). -/
def execBne (core thread ga gb : Nat) (off : BitVec 16) (s : State) : Res :=
  .next (issueBranch s core thread 1 ga gb off)

/-- BLT (R253, R254, R270). -/
def execBlt (core thread ga gb : Nat) (off : BitVec 16) (s : State) : Res :=
  .next (issueBranch s core thread 2 ga gb off)

/-- BGE (R253, R254, R270). -/
def execBge (core thread ga gb : Nat) (off : BitVec 16) (s : State) : Res :=
  .next (issueBranch s core thread 3 ga gb off)

/-- BLTU (R253, R254, R270). -/
def execBltu (core thread ga gb : Nat) (off : BitVec 16) (s : State) : Res :=
  .next (issueBranch s core thread 4 ga gb off)

/-- BGEU (R253, R254, R270). -/
def execBgeu (core thread ga gb : Nat) (off : BitVec 16) (s : State) : Res :=
  .next (issueBranch s core thread 5 ga gb off)

/-- JAL (R254): always taken, so only registers and the program counter change. -/
def execJal (core thread gd : Nat) (off : BitVec 21) (s0 : State) : Res :=
  let s := drainBuffer s0 core thread
  let x := getThread s core thread
  .next (if mayIssue s core thread = false ∨ x.awaited gd then s
    else setThread s core thread { x.put gd (BitVec.ofNat 64 (pcNext x.pc)) with
      pc := pcRel x.pc off.toInt, run := x.run + 1 })

/-- JALR (R254, R255, R273). -/
def execJalr (core thread gd ga : Nat) (imm : BitVec 16) (s : State) : Res :=
  .next (issueOther s core thread [gd, ga] true (fun x => .jalr gd (x.reg ga + sext16 imm)))

/-- TISSUE (R254, R257 to R259): the work word is in the register of bits [25:21]. -/
def execTissue (core thread gd ga : Nat) (imm : BitVec 16) (s : State) : Res :=
  .next (issueOther s core thread [gd] (decide (ga = 0) && decide (bitsOf imm.toNat 7 0 = 0))
    (fun x => .tissue (x.reg gd) (bitsOf imm.toNat 15 12) (bitsOf imm.toNat 11 8)))

/-- SISSUE (R254, R258, R259): the descriptor address is in the register of bits [25:21]. -/
def execSissue (core thread gd ga : Nat) (imm : BitVec 16) (s : State) : Res :=
  .next (issueOther s core thread [gd] (decide (ga = 0) && decide (bitsOf imm.toNat 7 0 = 0))
    (fun x => .sissue (x.reg gd) (bitsOf imm.toNat 15 12) (bitsOf imm.toNat 11 8)))

/-- TWAIT (R254, R264, R265). -/
def execTwait (core thread gd : Nat) (low : BitVec 21) (s : State) : Res :=
  let n := low.toNat
  let kind := bitsOf n 20 20
  .next (issueOther s core thread [gd]
    (decide (kind = 0) || (decide (bitsOf n 13 13 = 0) && decide (bitsOf n 19 14 < 16)))
    (fun _ => .twait gd kind (bitsOf n 19 14) (bitsOf n 13 13) (bitsOf n 12 0)))

/-- TSIG (R254, R266). -/
def execTsig (core thread gd : Nat) (low : BitVec 21) (s : State) : Res :=
  let n := low.toNat
  .next (issueOther s core thread [] (decide (gd = 0) && decide (bitsOf n 13 0 ≠ 0))
    (fun _ => .tsig (bitsOf n 20 18) (bitsOf n 17 14) (bitsOf n 13 0)))

/-- KOPEN (R254, R261). -/
def execKopen (core thread gd ga : Nat) (imm : BitVec 16) (s : State) : Res :=
  .next (issueOther s core thread [gd, ga] (decide (imm = 0#16)) (fun x => .kopen gd (x.reg ga)))

/-- KCLOSE (R254, R261). -/
def execKclose (core thread gd ga : Nat) (imm : BitVec 16) (s : State) : Res :=
  .next (issueOther s core thread [ga] (decide (gd = 0) && decide (imm = 0#16)) (fun x => .kclose (x.reg ga)))

/-- FENCE (R254, R269): a mask of zero is illegal. -/
def execFence (core thread _gd _ga : Nat) (imm : BitVec 16) (s : State) : Res :=
  .next (issueOther s core thread [] (decide (0 < imm.toNat) && decide (imm.toNat < 16)) (fun _ => .fence imm.toNat))

/-- WAIT (R254, R275): a mask of zero is illegal. -/
def execWaitEv (core thread _gd _ga : Nat) (imm : BitVec 16) (s : State) : Res :=
  .next (issueOther s core thread [] (decide (0 < imm.toNat) && decide (imm.toNat < 16)) (fun _ => .wait imm.toNat))

/-- CSRR (R45, R254). -/
def execCsrr (core thread gd _ga : Nat) (imm : BitVec 16) (s : State) : Res :=
  .next (issueOther s core thread [gd] (!imm.getLsbD 14)
    (fun _ => .csrr gd (bitsOf imm.toNat 15 15) (bitsOf imm.toNat 13 0)))

/-- CSRW (R45, R254). -/
def execCsrw (core thread gd ga : Nat) (imm : BitVec 16) (s : State) : Res :=
  .next (issueOther s core thread [ga] (decide (gd = 0) && !imm.getLsbD 14)
    (fun x => .csrw (x.reg ga) (bitsOf imm.toNat 15 15) (bitsOf imm.toNat 13 0)))

/-- TRACE (R254, R281): action 3 and bits [15:2] are reserved. -/
def execTraceOp (core thread _gd ga : Nat) (imm : BitVec 16) (s : State) : Res :=
  .next (issueOther s core thread [ga] (decide (imm.toNat < 3)) (fun x => .trace (x.reg ga) imm.toNat))

/-- HALT (R254): all fields are zero. -/
def execHaltThread (core thread gd ga : Nat) (imm : BitVec 16) (s : State) : Res :=
  .next (issueOther s core thread [] (decide (gd = 0) && decide (ga = 0) && decide (imm = 0#16)) (fun _ => .halt))

/-- The issue of a word whose opcode no row of Table 2 lists (R254): ILLEGAL. -/
def execUnlisted (core thread : Nat) (s : State) : Res := .next (issueOther s core thread [] false (fun _ => .illegal))

end Sys2Proof.Machine
end

