-- ==== Sys2Proof/Machine/ControlEvents.lean ====
section
/-! DEFINITION. The meanings of the events of the control cores: branches, switches, and the ends of what
threads wait for (R258, R265, R269 to R275). -/

namespace Sys2Proof.Machine

/-- BRANCH_RESOLVE (R270, R271). -/
def execBranchResolve (core thread : Nat) (s : State) : Res :=
  .next (match (getThread s core thread).branches with
    | [] => s
    | b :: rest => if coreRuns s core then resolveBranch s core thread b rest else s)

/-- THREAD_QUANTUM_EXPIRE (R273). -/
def execThreadQuantumExpire (core : Nat) (s : State) : Res :=
  let k := getCore s core
  .next (match runningOf k, nextReady k with
    | some t, some _ =>
      if coreRuns s core ∧ 256 ≤ (getThread s core t).run then switchOut s core t .ready .none else s
    | _, _ => s)

/-- A miss whose line is found uncorrectable (R326, R327): a line of a cache is forgotten, to be fetched again, and counts as
corrected; data of memory is never delivered. -/
def badLine (s : State) (c t a : Nat) : State :=
  if cacheHolds s c a 1 then memCorrected (forgetLines s c a 1) (scratchBase c)
  else
    let s1 := meetUpset s (a, .lost)
    memUncorrBy (setThread s1 c t { getThread s1 c t with blocked := .none }) c a

/-- MISS_COMPLETE (R256, R273, R301, R320, R326, R327, R540): an access that no cache serves completes when memory answers
and it has its turn; a load completes into its register and its line into the caches. For a thread that runs, the miss is of
its instruction fetch: uncorrectable code raises FETCH. -/
def execMissComplete (core thread : Nat) (bad : Bool) (s0 : State) : Res :=
  let x := getThread s0 core thread
  let s := match x.blocked with
    | .miss _ _ a true => if coreRuns s0 core then cacheMeets s0 core a 1 else s0
    | _ => s0
  .next (if coreRuns s core = false then s
    else match x.st, x.blocked with
      | .miss, .miss gd v a read =>
        let line := a / 64 * 64
        let cached := read && cacheHolds s core a 1
        if bad ∧ read then badLine s core thread a
        else if cached = false ∧ mayGo s (threadReq s core thread) line 64 = false then waitFor s (threadReq s core thread) line 64
        else
          let s1 := if cached then s else goOn s (threadReq s core thread) line 64
          let s2 := if read then fillCaches s1 core a 1 else s1
          resumeThread (setThread s2 core thread (x.putAll gd v)) core thread
      | .running, _ =>
        if bad then
          coreExc (memUncorr s (coreClass s core) (scratchBase core + x.pc)) core thread 8 x.pc 0 false x.pc
        else switchOut s core thread .ready .none
      | _, _ => s)

/-- Whether a thread of a lower number waits on the same sync counter and is served first (R265). -/
def servedBefore (s : State) (c t idx : Nat) : Bool :=
  (List.range t).any (fun u => match (getThread s c u).blocked with
    | .twait _ 1 i _ n => decide (i = idx) && decide (n ≤ tget (getCore s c).sync idx 0)
    | _ => false)

/-- TWAIT_SATISFIED (R264, R265). -/
def execTwaitSatisfied (core thread : Nat) (s : State) : Res :=
  .next (match (getThread s core thread).blocked with
    | .twait gd kind idx side n =>
      match twaitCount s core kind idx side n with
      | some (some v) =>
        if coreRuns s core = false ∨ (kind = 1 ∧ servedBefore s core thread idx) then s
        else resumeThread (twaitDone s core thread gd kind idx v) core thread
      | _ => s
    | _ => s)

/-- FENCE_COMPLETE (R269). -/
def execFenceComplete (core thread : Nat) (s : State) : Res :=
  .next (match (getThread s core thread).blocked with
    | .fence m => if coreRuns s core ∧ fenceHolds s core thread m then resumeThread s core thread else s
    | _ => s)

/-- WAIT_WAKE (R275, R277): the thread resumes, or latches the event; the wake of a retained cluster starts. -/
def execWaitWake (core thread ev : Nat) (s : State) : Res :=
  let x := getThread s core thread
  .next (if 4 ≤ ev then s
    else if x.awaits ev then wakeCluster (resumeThread s core thread) (clusterOf core)
    else setThread s core thread (x.event ev))

/-- A thread that waits for room in a station's queue tries again (R258). -/
def retryIssue (stn core : Nat) (s : State) (t : Nat) : State :=
  let x := getThread s core t
  match x.blocked with
  | .queueFull op pc =>
    let target : Option Nat := match op with
      | .tissue _ st i => stnNumber st i
      | .sissue _ st i => stnNumber st i
      | _ => none
    if target = some stn ∧ queueFull s core stn = false then
      let s1 := setThread s core t { x with st := .ready, blocked := .none }
      let s2 := settlePc (performOp s1 core t pc op) core t pc x.regs
      if (getThread s2 core t).st = .ready then resumeThread s2 core t else s2
    else s
  | _ => s

/-- STATION_QUEUE_FREE (R258). -/
def execStationQueueFree (core stn : Nat) (s : State) : Res :=
  .next (if coreRuns s core then (List.range 8).foldl (retryIssue stn core) s else s)

/-- CORE_TIMER_ZERO (R275): the count reaches zero, which is a wake event. -/
def execCoreTimerZero (core : Nat) (s : State) : Res :=
  .next (if csrGet s (O.coreTimer core) = 0 then s else coreEvent (csrPut s (O.coreTimer core) 0) core 2)

end Sys2Proof.Machine
end

