-- ==== Sys2Proof/Machine/WaitGraph.lean ====
section
/-! DEFINITION. The wait-for graph: its edges, read off the state, and its layout (R546 to R548). -/

namespace Sys2Proof.Machine

/-- A node (Table 8): its kind in bits [31:28] and its index. -/
def node (kind idx : Nat) : Nat := kind * 2 ^ 28 + idx % 2 ^ 28

/-- The code and number of a station (R246) by its number in `CORE.STN_RESET`. -/
def stnCode (n : Nat) : Nat × Nat :=
  if n < 2 then (0, n) else if n < 6 then (1, n - 2) else if n < 9 then (n - 3, 0) else if n < 11 then (6, n - 9)
  else (n - 4, 0)

/-- The node of a station of a core by code and number. -/
def stnNode (c code idx : Nat) : Nat := node 1 (c * 256 + code * 16 + idx)

/-- The node of a station of a core by its number in `CORE.STN_RESET`. -/
def stnNodeOf (c n : Nat) : Nat := stnNode c (stnCode n).1 (stnCode n).2

/-- The node of a stream endpoint. -/
def epNode (c sid : Nat) : Nat := node 2 (c * 64 + sid)

/-- The node of a mangle slot. -/
def slotNode (tag slot : Nat) : Nat := node 4 (tag * 512 + slot)

/-- An edge within the device; how long it has waited is a free value (log entry 46). -/
def ownEdge (s : State) (waiter target reason : Nat) : GEdge :=
  ⟨selfRank s, selfRank s, waiter, target, reason, Config.waitAge s.freeCtr (waiter * 2 ^ 32 + target)⟩

/-- An edge to a node of another rank. -/
def farEdge (s : State) (waiter rank reason : Nat) : GEdge :=
  ⟨selfRank s, rank, waiter, node 8 rank, reason, Config.waitAge s.freeCtr (waiter * 2 ^ 32 + node 8 rank)⟩

/-- What a thread waits for. -/
def threadEdges (s : State) (c t : Nat) : List GEdge :=
  let me := node 0 (c * 8 + t)
  match (getThread s c t).blocked with
  | .twait _ kind idx side _ =>
    if kind = 1 then [ownEdge s me (node 3 (c * 16 + idx)) 3] else [ownEdge s me (epNode c idx) (if side = 0 then 1 else 2)]
  | .fence m =>
    if bitOf m 3 then
      ((List.range 13).filter (fun n => decide (driverOf s c n = t) && !stationQuiet s c n)).map
        (fun n => ownEdge s me (stnNodeOf c n) 4)
    else []
  | .queueFull op _ => match op with
    | .tissue _ st i => [ownEdge s me (stnNode c st i) 5]
    | .sissue _ st i => [ownEdge s me (stnNode c st i) 5]
    | _ => []
  | _ => []

/-- The inputs that the first work word of PLAIN, SHAPE or GATHER waits for. -/
def inputEdges (s : State) (c n : Nat) : List GEdge :=
  let x := getStn s c n
  match x.work, x.queue with
  | .idle, q :: _ =>
    if 6 ≤ n ∧ n < 9 then
      let w := routineWord q.word
      ((if usesB w.routine w.arg then [w.inA, w.inB] else [w.inA]).filter (fun sid =>
        match fanin s c sid with
        | some p => (headTile s p.1).isNone
        | none => false)).map (fun sid => ownEdge s (stnNodeOf c n) (epNode c sid) 1)
    else []
  | _, _ => []

/-- The credits that the finished tiles of a station wait for. -/
def outputEdges (s : State) (c n : Nat) : List GEdge :=
  (getStn s c n).out.flatMap (fun o => (o.1.filter (fun e => decide ((getStream s e).credits = 0))).map (fun e =>
    ownEdge s (stnNodeOf c n) (epNode c (entryOf s e).pSid) 2))

/-- The activation tiles that the streams of an engine wait for. -/
def engineEdges (s : State) (c e : Nat) : List GEdge :=
  ((getEng s c e).streams.filter (fun a => a.started && a.inside.isEmpty)).filterMap (fun a =>
    (actEp s c e (arrWord a.e.word).part).map (fun ep => ownEdge s (stnNode c 1 e) (epNode c (entryOf s ep).cSid) 1))

/-- A SHIP tile waits for a mangle slot (R350). -/
def shipEdges (s : State) : List GEdge :=
  s.mangle.waitShip.flatMap (fun w =>
    (s.mangle.insts.filter (fun i => decide (i.tag = w.2.hdr.tag))).map (fun i =>
      ownEdge s (stnNode w.1 7 0) (slotNode i.tag i.slot) 9))

/-- An empty stream endpoint waits for its producer, one without credits for its consumer. -/
def streamEdges (s : State) : List GEdge :=
  (streamIdx s).flatMap (fun p =>
    (if (headTile s p.1).isNone then [ownEdge s (epNode p.2.cCore p.2.cSid) (stnNode p.2.pCore p.2.pStn p.2.pInst) 1] else []) ++
    (if (getStream s p.1).credits = 0 then [ownEdge s (epNode p.2.pCore p.2.pSid) (stnNode p.2.cCore p.2.cStn p.2.cInst) 2]
     else []))

/-- The gate waits for the first input that has not arrived: its bucket, or the stack of its live buffer. -/
def gateEdges (s : State) : List GEdge :=
  match s.gate.block.bind (fun b => (gateBlocks s)[b]?) with
  | some v =>
    if s.gate.decided then []
    else match v.gates[s.gate.pos]? with
      | some r =>
        let t := match findInst s r.tag s.step with
          | some i => slotNode i.tag i.slot
          | none => match placeOf (r.rackA * 256) with
            | .hbm n => node 6 n
            | _ => slotNode r.tag 0
        [ownEdge s (node 5 v.entry) t 6]
      | none => []
  | none => []

/-- The hops of a bucket that wait for the partial of another rank. -/
def instEdges (s : State) (i : Inst) : List GEdge :=
  match descOf s i.tag with
  | none => []
  | some d =>
    if isRed d.op = false then []
    else
      let preds := (List.range d.chunks).flatMap (fun k => (List.range (segCount d i k)).flatMap (fun g =>
        hopLevels.filterMap (fun l =>
          let h := i.hop (hopKey k g false l)
          match hopPlan s d i.step k g false l with
          | some p => if p.needIn && !h.done && !h.inSkipped && h.inp.isNone then some p.pred else none
          | none => none)))
      preds.dedup.map (fun r => farEdge s (slotNode i.tag i.slot) r 7)

/-- A link holds frames of a VC without credits. -/
def linkEdges (s : State) (n : Nat) : List GEdge :=
  let k := getLink s n
  ((k.txq.filter (fun e => decide (k.credits.getD e.vc 0 = 0))).map (fun e => e.frame.dst)).dedup.map
    (fun r => farEdge s (node 7 n) r 8)

/-- The device's own edges. -/
def ownEdges (s : State) : List GEdge :=
  (s.cores.map Prod.fst).flatMap (fun c =>
    (List.range 8).flatMap (threadEdges s c) ++ (List.range 13).flatMap (inputEdges s c) ++
    (List.range 13).flatMap (outputEdges s c) ++ (List.range 4).flatMap (engineEdges s c)) ++
  streamEdges s ++ shipEdges s ++ gateEdges s ++ s.mangle.insts.flatMap (instEdges s) ++ (List.range 24).flatMap (linkEdges s)

/-! ### Reachability -/

/-- A node of a rank. -/
abbrev GNode := Nat × Nat

/-- The waiting end of an edge. -/
def GEdge.src (e : GEdge) : GNode := (e.wRank, e.waiter)
/-- The awaited end of an edge. -/
def GEdge.dst (e : GEdge) : GNode := (e.tRank, e.target)

/-- The nodes reached in at most `fuel` more edges. -/
def reachN (es : List GEdge) : Nat → List GNode → List GNode
  | 0, seen => seen
  | fuel + 1, seen =>
    let more := ((es.filter (fun e => seen.contains e.src && !seen.contains e.dst)).map GEdge.dst).dedup
    if more.isEmpty then seen else reachN es fuel (seen ++ more)

/-- The nodes reached from a node, itself among them. -/
def reach (es : List GEdge) (n : GNode) : List GNode := reachN es es.length [n]

/-- Whether an edge lies on a cycle. -/
def onCycle (es : List GEdge) (e : GEdge) : Bool := (reach es e.dst).contains e.src

/-- The edges ordered by their distance to a cycle: those on one, those that end where one begins, and so on; those from
which no cycle is reached come last. -/
def layersN : Nat → List GEdge → List GNode → List GEdge
  | 0, rest, _ => rest
  | fuel + 1, rest, seen =>
    let (near, far) := rest.partition (fun e => seen.contains e.dst)
    if near.isEmpty then far else near ++ layersN fuel far (seen ++ near.map GEdge.src)

/-- The edges in the order in which they are kept (R546). -/
def keptOrder (es : List GEdge) : List GEdge :=
  let (on, off) := es.partition (onCycle es)
  on ++ layersN es.length off (on.map GEdge.src)

/-! ### Layout -/

/-- An edge as it lies in memory (Table 8). -/
def GEdge.bytes (cyc : Bool) (e : GEdge) : List Byte :=
  leBytes 2 e.wRank ++ leBytes 2 e.tRank ++ leBytes 4 e.waiter ++ leBytes 4 e.target ++ leBytes 1 e.reason ++
  leBytes 1 (b2n cyc) ++ leBytes 2 (min e.age 0xFFFF)

/-- A wait-for graph with its header (Table 7). -/
def Wfg.bytes (s : State) (w : Wfg) : List Byte :=
  let kept := (keptOrder w.edges).take 4092
  let flags := b2n w.cross + 2 * b2n (decide (4092 < w.edges.length)) + 4 * b2n (w.edges.any (onCycle w.edges))
  leBytes 2 0x4657 ++ leBytes 1 1 ++ leBytes 1 flags ++ leBytes 2 (selfRank s) ++
  leBytes 2 ((kept.map GEdge.wRank).dedup.length) ++ leBytes 8 w.cycle ++ leBytes 4 w.step ++ leBytes 4 kept.length ++
  leBytes 4 (epochOf s) ++ leBytes 4 0 ++ kept.flatMap (fun e => e.bytes (onCycle w.edges e))

/-- The ranks of the remote-rank nodes in which edges end, with the node awaited there: the waiting bucket's (log entry
48). -/
def farNodes (es : List GEdge) : List (Nat × Nat) :=
  (es.filter (fun e => decide (e.target / 2 ^ 28 = 8))).map (fun e => (e.target % 2 ^ 28, e.waiter))

/-- Whether graphs are expanded over the devices of the job (R548). -/
def expands (s : State) : Bool := (s.weave.map (fun w => decide (w.devices ≤ 64))).getD false

/-- Sends a WFG_QUERY to each rank that has not been queried (R548). -/
def queryRanks (s : State) (w : Wfg) (es : List GEdge) : State × Wfg :=
  (farNodes es).foldl (fun p x =>
    if p.2.queried.contains x.1 ∨ x.1 = selfRank s then p
    else (sendFrame p.1 x.1 (.wfgQuery x.2 p.2.step),
      { p.2 with queried := p.2.queried ++ [x.1], awaiting := p.2.awaiting ++ [x.1] })) (s, w)

/-- Whether an own node stands for the node that a query names: a bucket stands for that of the same tag. -/
def sameNode (a b : Nat) : Bool :=
  decide (a = b) || (decide (a / 2 ^ 28 = 4) && decide (b / 2 ^ 28 = 4) && decide (a / 512 = b / 512))

/-- The own edges reachable from a node that a query names (R548). -/
def reachable (s : State) (n : Nat) : List GEdge :=
  let es := ownEdges s
  let seen := (es.filter (fun e => sameNode e.waiter n)).flatMap (fun e => reach es e.src)
  es.filter (fun e => seen.contains e.src)

end Sys2Proof.Machine
end

