-- ==== Sys2Proof/Machine/Errors.lean ====
section
/-! DEFINITION. The meanings of event handling, of the fence of a DEVICE event, of lint dumps and of the wait-for graph
(R525 to R552). -/

namespace Sys2Proof.Machine

/-! ### Lint dumps (R549 to R552) -/

/-- The bytes of a dump. -/
def dumpLen : Nat := 4718656

/-- One lint entry (Table 9). -/
def LintRec.bytes (r : LintRec) : List Byte :=
  leBytes 4 r.time ++ leBytes 1 r.kind ++ leBytes 1 r.sid ++ leBytes 2 r.entry ++ leBytes 4 r.step ++ leBytes 4 r.arg

/-- One ring: oldest entry first, unused entries zero. -/
def ringDump (l : List LintRec) : List Byte :=
  l.reverse.flatMap LintRec.bytes ++ List.replicate ((64 - l.length) * 16) 0#8

/-- A dump (R551). -/
def dumpBytes (s : State) (seq code : Nat) : List Byte :=
  leBytes 8 0x4C44 ++ leBytes 8 s.cycle ++ leBytes 4 seq ++ leBytes 4 code ++ List.replicate 40 0#8 ++
  (List.range 256).flatMap (fun c => (List.range 18).flatMap (fun r => ringDump (tget (getCore s c).lint r [])))

/-- Writes a dump, or sets `FAILED` where R300 refuses it (R552). -/
def writeDump (s : State) (d : Dump) : State :=
  if class2May s true d.addr dumpLen then
    let s1 := bump16 (agentWrite s d.addr (dumpBytes s d.seq d.code)) O.errlogLintStatus
    if d.auto then csrPutBits s1 O.errlogLintStatus 31 31 1 else s1
  else csrPutBits s O.errlogLintStatus 30 30 1

/-- The automatic dump of an event, where R552 has one written. -/
def autoDump (s : State) (r : EventRec) : Option Dump :=
  let base := csrGet s O.errlogLintBase
  if csrBit s O.errlogCtrl 2 ∧ base ≠ 0 ∧ csrBit s O.errlogLintStatus 31 = false then some ⟨true, base * 256, r.seq, r.code⟩
  else none

/-- Whether something still keeps the lint rings frozen: a STEP record that waits, a dump, or a fence before its dump
has ended (R550). -/
def keepsFrozen (s : State) : Bool :=
  !(tget s.err.queues 3 []).isEmpty || s.err.dump.isSome || (runningBg s 0x0803).isSome ||
  (match s.err.fence with
   | some .flush => false
   | some .power => false
   | some _ => true
   | none => false)

/-- Lets the rings record again once nothing keeps them frozen. -/
def thaw (s : State) : State := s.withErr (fun e => { e with frozen := keepsFrozen s })

/-- LINT_DUMP (R490, R550, R552); after a hard fence BAD_STATE (R539). -/
def execLintDump (q : WcpReq) (addr : Nat) (s : State) : Res :=
  .next (wcpRow q 0x0803 false (fun s => !(s.err.hard && decide (s.dev = .fenced))) (busyWith [0x0803]) (fun r s =>
    (startBg s r addr 0 0).withErr (fun e => { e with frozen := true })) s)

/-! ### Handlers (R527, R528, R534) -/

/-- The highest severity with a record that waits. -/
def topQueue (s : State) : Option Nat := [4, 3, 2, 1, 0].find? (fun n => !(tget s.err.queues n []).isEmpty)

/-- Takes the oldest record of a queue to be handled. -/
def takeHandler (s : State) (n : Nat) : State :=
  match tget s.err.queues n [] with
  | [] => s
  | r :: rest => s.withErr (fun e => { e with queues := tset e.queues n rest, running := some r })

/-- The management core takes up what comes next: the suspended handler, once no queue of higher severity holds a
record, else the oldest record of the highest queue. -/
def nextHandler (s : State) : State :=
  match s.err.suspended, topQueue s with
  | x :: xs, some n =>
    if x.sev < n then takeHandler s n else s.withErr (fun e => { e with running := some x, suspended := xs })
  | x :: xs, none => s.withErr (fun e => { e with running := some x, suspended := xs })
  | [], some n => takeHandler s n
  | [], none => s

/-- Whether the management core runs handlers: VSB is up and no junction shutdown holds. -/
def handles (s : State) : Bool := powered s && !s.power.thermalOff

/-- HANDLER_START (R533, R534, R610). -/
def execHandlerStart (s : State) : Res :=
  .next (if handles s = false ∨ s.err.running.isSome ∨ (s.err.suspended.isEmpty ∧ (topQueue s).isNone) then s
    else deepTrace (nextHandler s))

/-- HANDLER_YIELD (R534). -/
def execHandlerYield (s : State) : Res :=
  .next (match s.err.running, topQueue s with
    | some r, some n =>
      if r.sev < n then deepTrace (takeHandler (s.withErr (fun e => { e with suspended := r :: e.suspended })) n) else s
    | _, _ => s)

/-- Halts every class-1 thread and resets every class-1 station (R204, R252, R527). -/
def haltClass1 (s : State) : State := (coresOfClass s 1).foldl (fun s c => resetStations (haltCore s c) c) s

/-- Resets one station of a core at once. -/
def resetOne (s : State) (c n : Nat) : State := endStnReset (startStnReset s c n) c n

/-- Resets the stations of a source (R528): those of a core or of a cluster, or the ARRAY of an engine. -/
def resetSource (s : State) (kind n : Nat) : State :=
  if kind = 1 then resetStations s n
  else if kind = 2 then resetOne s (n / 4) (2 + n % 4)
  else if kind = 3 then (coresOf n).foldl resetStations s
  else s

/-- The consequence of a STEP record (R527, R528); SHARD_LOST restarts nothing. -/
def stepHandled (s : State) (r : EventRec) : State :=
  if r.live then
    let s1 := dropMicroBatch (haltClass1 s)
    if r.code = 0x4006 then s1 else { s1 with pru := { s1.pru with restart := true } }
  else resetSource s r.srcKind r.src

/-- Ends the running handler: its record is logged and notified, and what was suspended goes on (R531, R534). -/
def endHandler (s : State) (r : EventRec) : State :=
  let s1 := notifyEvent (logRec (s.withErr (fun e => { e with running := none })) r) r
  match s1.err.suspended with
  | [] => s1
  | _ => nextHandler s1

/-- HANDLER_DONE (R527, R528, R531, R552): a STEP handler whose dump is written ends with it; a DEVICE record is handled by
the fence, and ends with it (R538). -/
def execHandlerDone (s : State) : Res :=
  .next (match s.err.running with
    | none => s
    | some r =>
      if r.sev = 4 ∨ s.err.dump.isSome then s
      else if r.sev = 3 then
        let s1 := deepTrace (stepHandled s r)
        match (if s1.err.fence.isSome then none else autoDump s1 r) with
        | some d => s1.withErr (fun e => { e with dump := some d })
        | none => endHandler (thaw s1) r
      else endHandler (deepTrace s) r)

/-- HANDLER_FAULT (R537, R540): `none` is a handler that faulted, an address uncorrectable data in management storage. -/
def execHandlerFault (bad : Option Nat) (s : State) : Res :=
  .next (match bad with
    | some a => if handles s then storageFault (deepTrace s) a else s
    | none => match s.err.running with
      | none => s
      | some _ => handlerLost (deepTrace s) (fun r => [r.code]))

/-- Ends the automatic dump of a STEP record with its handler. -/
def endAuto (s : State) (d : Dump) : State :=
  let s1 := thaw ((writeDump s d).withErr (fun e => { e with dump := none }))
  match s1.err.running with
  | some r => if r.sev = 3 then endHandler s1 r else s1
  | none => s1

/-- LINT_DUMP_DONE (R551, R552): the automatic dump, else the command's, is written or refused. Supply sag holds it, as does
memory that does not answer (R301, R317, R572). -/
def execLintDumpDone (s : State) : Res :=
  .next (if 0 < s.power.level then s
    else match s.err.dump, runningBg s 0x0803 with
    | some d, _ =>
      if s.err.fence.isSome then s
      else if class2May s true d.addr dumpLen ∧ mayGo s ⟨.dump, 4⟩ d.addr dumpLen = false then waitFor s ⟨.dump, 4⟩ d.addr dumpLen
      else endAuto (goOn s ⟨.dump, 4⟩ d.addr dumpLen) d
    | none, some x =>
      if class2May s true x.a dumpLen ∧ mayGo s ⟨.background 0x0803, 4⟩ x.a dumpLen = false then
        waitFor s ⟨.background 0x0803, 4⟩ x.a dumpLen
      else
        let ok := class2May s true x.a dumpLen
        thaw (endBg (writeDump (goOn s ⟨.background 0x0803, 4⟩ x.a dumpLen) ⟨false, x.a, 0, 0⟩) 0x0803 (if ok then stOk else stDenied) 0)
    | none, none => s)

/-! ### The fence (R538, Table 5) -/

/-- Goes from one stage of the fence to the next. -/
def atStage (s : State) (st : FStage) (f : State → State) : State := if s.err.fence = some st then f s else s

/-- Enters a stage. -/
def stage (s : State) (st : FStage) : State := s.withErr (fun e => { e with fence := some st })

/-- FENCE_FREEZE_DONE: every class-0 and class-1 thread is halted. -/
def execFenceFreezeDone (s : State) : Res :=
  .next (atStage s .freeze (fun s => stage ((s.cores.map Prod.fst).foldl haltCore s) .depart))

/-- Sends DEPART on every link that is up, to the partner and to the lowest other LIVE rank (R392, R393). -/
def sendDeparts (s : State) : State :=
  match s.mend.table with
  | none => s
  | some t =>
    let ds := ((partnerOf t t.self).toList ++ (lowestLiveBut t t.self).toList).dedup
    ((List.range 24).filter (linkUpNow s)).foldl (fun s n => ds.foldl (fun s d =>
      let b : FrameBody := .mend (mendHdr s 1 t.self 0) .none
      queueOn s n b.vc ⟨d, t.self, b.len, 16, b.proto, b⟩ none) s) s

/-- FENCE_DEPART_DONE. -/
def execFenceDepartDone (s : State) : Res := .next (atStage s .depart (fun s => stage (sendDeparts s) .fence))

/-- FENCE_STAGE_DONE: `FAIL_N` is low, `STATE` reads FENCED, and the two notifications are queued. -/
def execFenceStageDone (s : State) : Res :=
  .next (atStage s .fence (fun s =>
    let s1 := setDev (failLow { s with act := .none, installing := none, inStep := false }) .fenced
    let s2 := match s1.err.cause with
      | some r => notifyEvent (notifyAll s1 0x0A0C (leBytes 2 r.code ++ leBytes 2 0)) r
      | none => s1
    stage s2 .links))

/-- FENCE_LINKS_DONE: the seam transmitters are dark, and the dump begins (R552). -/
def execFenceLinksDone (s : State) : Res :=
  .next (atStage s .links (fun s =>
    let s1 : State := { s with links := s.links.map (fun e => (e.1, e.2.lost (if e.2.st = .off then .off else .down))) }
    stage (s1.withErr (fun e => { e with dump := s1.err.cause.bind (autoDump s1) })) .lint))

/-- FENCE_LINT_DONE: the dump is written, or skipped while sag or its memory holds it (R301, R322). -/
def execFenceLintDone (s : State) : Res :=
  .next (atStage s .lint (fun s =>
    let s1 := match s.err.dump with
      | some d =>
        if 0 < s.power.level then s
        else if class2May s true d.addr dumpLen && !mayGo s ⟨.dump, 4⟩ d.addr dumpLen then s
        else writeDump (goOn s ⟨.dump, 4⟩ d.addr dumpLen) d
      | none => s
    thaw (stage (s1.withErr (fun e => { e with dump := none })) .flush)))

/-- FENCE_FLUSH_DONE: every trace buffer is drained (R543), and the cluster domains go off. -/
def execFenceFlushDone (s : State) : Res :=
  .next (atStage s .flush (fun s =>
    let s1 := (s.cores.map Prod.fst).foldl traceFlushCore s
    stage ((List.range 32).foldl (fun s d => setMgmt s d .off) s1) .power))

/-- FENCE_POWER_DONE: every cluster domain is off, and DEVICE handling ends with the log entry (R531, R536). -/
def execFencePowerDone (s : State) : Res :=
  .next (atStage s .power (fun s =>
    if (List.range 32).all (fun d => decide ((getDom s d).st = .off)) then
      let s1 := match s.err.cause with
        | some r => logRec s r
        | none => s
      let s2 := s1.withErr (fun e => { e with
        fence := none, cause := none, queues := tdel e.queues 4
        running := if (e.running.map (fun r => decide (r.sev = 4))).getD false then none else e.running })
      match s2.err.running, s2.err.suspended with
      | none, _ :: _ => nextHandler s2
      | _, _ => s2
    else s))

/-! ### Hang analysis (R545 to R548) -/

/-- Begins a graph, for a WAITFOR or to be held, and queries the ranks that its edges end in. -/
def beginGraph (s : State) (req : Option Request) : State × Wfg :=
  let es := ownEdges s
  let x := expands s
  let w : Wfg := ⟨es, x, s.cycle, s.step, [], [], req⟩
  let s1 := s.useFree
  if x then queryRanks s1 w es else (s1, w)

/-- Ends a graph: it answers its WAITFOR, or is held. -/
def endGraph (s : State) (w : Wfg) : State :=
  let s1 := s.withErr (fun e => { e with collecting := none })
  match w.req with
  | some r => respond s1 r stOk 0 (w.bytes s1)
  | none => s1.withErr (fun e => { e with held := some w })

/-- Keeps a graph that awaits replies, or ends it. -/
def settleGraph (s : State) (w : Wfg) : State :=
  if w.awaiting.isEmpty then endGraph s w else s.withErr (fun e => { e with collecting := some w })

/-- HANG_CHECK (R545). -/
def execHangCheck (s : State) : Res :=
  .next (if csrBit s O.errlogCtrl 1 = false ∨ s.dev ≠ .running ∨ s.err.hang ∨ s.err.collecting.isSome then s
    else
      let p := beginGraph ((raise s 0x9012 0 3 0 0 []).withErr (fun e => { e with hang := true })) none
      settleGraph p.1 p.2)

/-- WAITFOR (R539, R546): the graph held, or one built now. -/
def execWaitfor (q : WcpReq) (s : State) : Res :=
  .next (wcpRow q 0x0804 false (fun s => !(s.err.hard && decide (s.dev = .fenced))) (fun s => s.err.collecting.isSome)
    (fun r s => match s.err.held with
      | some w => endGraph (s.withErr (fun e => { e with held := none })) { w with req := some r }
      | none =>
        let p := beginGraph s (some r)
        settleGraph p.1 p.2) s)

/-- WFG_QUERY_RX (R548): the edges reachable from the node named go back. -/
def execWfgQueryRx (src n step : Nat) (s : State) : Res :=
  .next (let s1 := (takeInbox s (.wfgQuery n step)).1
    if s1.mend.table.isNone ∨ s1.dev = .fenced then s1
    else sendFrame s1.useFree src (.wfgReply (reachable s1 n)))

/-- WFG_REPLY_RX (R548): the graph grows, and new ranks are queried. -/
def execWfgReplyRx (src : Nat) (edges : List GEdge) (s : State) : Res :=
  .next (let s1 := (takeInbox s (.wfgReply edges)).1
    match s1.err.collecting with
    | none => s1
    | some w =>
      if w.awaiting.contains src then
        let w1 := { w with edges := w.edges ++ edges.filter (fun e => !w.edges.contains e), awaiting := w.awaiting.erase src }
        let p := queryRanks s1 w1 edges
        settleGraph p.1 p.2
      else s1)

/-- WFG_QUERY_TIMEOUT (R548): the rank stays a leaf. -/
def execWfgQueryTimeout (rank : Nat) (s : State) : Res :=
  .next (match s.err.collecting with
    | none => s
    | some w => if w.awaiting.contains rank then settleGraph s { w with awaiting := w.awaiting.erase rank } else s)

end Sys2Proof.Machine
end

