-- ==== Sys2Proof/Machine/Ethernet.lean ====
section
/-! DEFINITION. The meanings of the Ethernet port commands (R459 to R473, R500). -/

namespace Sys2Proof.Machine

/-- PORT_LINK_UP (R462, R470, R500). -/
def execPortLinkUp (p : Nat) (s : State) : Res := .next (portUp s p)

/-- PORT_LINK_DOWN (R500). -/
def execPortLinkDown (p : Nat) (s : State) : Res := .next (portDown s p)

/-- Whether a port accepts the VLAN tags of a frame (R463). -/
def acceptsTags (s : State) (p : Nat) (vids : List Nat) : Bool :=
  let vid := csrBits s (O.ethpVlan p) 11 0
  match vids with
  | [] => vid = 0
  | [v] => v = 0 || v = vid
  | _ => false

/-- The PCP of a frame: an untagged one takes `UNTAG_PCP` (R463). -/
def framePcp (s : State) (p : Nat) (f : EthFrame) : Nat :=
  if f.vids.isEmpty then csrBits s (O.ethpVlan p) 14 12 else f.pcp

/-- Whether a packet is for the port: to one of its addresses, a broadcast or multicast of ARP, ND or DHCP, or for the DHCP
client, to which a server may send at the address that it offers (R470, R473). -/
def forPort (s : State) (p : Nat) (f : EthFrame) : Bool :=
  f.basicGroup || decide (f.udpDst = some 68) || ownAddress s p f.dst

/-- Whether R473 drops a packet. -/
def droppedByIp (s : State) (p : Nat) (f : EthFrame) : Bool :=
  f.fragment || f.optionsOrExt || (f.isIp && !forPort s p f) || f.otherMulticast ||
  (match f.udpDst with
   | some d => !(d = csrBits s O.ethWcpPort 15 0 || d = csrBits s O.ethScorePort 15 0 || d = 4791 || d = 68)
   | none => false)

/-- Whether R466 drops a frame: a scoring request off Q0, or anything else on it. -/
def misqueued (s : State) (q : Nat) (f : EthFrame) : Bool :=
  decide (q = 0) != decide (f.udpDst = some (csrBits s O.ethScorePort 15 0))

/-- ETH_FRAME_RX (R460, R463 to R467, R469, R473): the port's part in the reception of a frame. What the
frame asks for is the effect of the row of its protocol. -/
def execEthFrameRx (p : Nat) (f : EthFrame) (s : State) : Res :=
  .next (if portUpNow s p = false then s
    else if 9216 < f.len ∨ f.fcsOk = false then bump s (O.ethpRxErr p)
    else
      let s1 := bump s (O.ethpRxFrames p)
      if acceptsTags s1 p f.vids = false then bump s1 (O.ethpRxDrop p)
      else
        let q := queueOf s1 p (framePcp s1 p f)
        if q = 0 ∧ 262144 < f.fill + f.len then s1
        else
          let s2 := setFill s1 p q (f.fill + f.len)
          if misqueued s2 q f then bump s2 O.ethCntMisqueue
          else if droppedByIp s2 p f then bump s2 (O.ethpRxDrop p)
          else s2)

/-- PFC_REFRESH (R469): the queue's fill is read again, and XOFF goes out again while it stays above the lower
mark. -/
def execPfcRefresh (p q fill : Nat) (s : State) : Res :=
  .next (if portUpNow s p = false ∨ 8 ≤ q then s
    else
      let s1 := setFill s p q fill
      if pfcOn s p q ∧ (getPort s p).xoff.contains q ∧ (getPort s1 p).xoff.contains q then sendPfc s1 p q true else s1)

/-- PFC_FRAME_RX (R469): the named egress queues with PFC enabled are held. -/
def execPfcFrameRx (p : Nat) (queues : List Nat) (s : State) : Res :=
  .next (if portUpNow s p = false then s
    else
      let s1 := bump (bump s (O.ethpRxFrames p)) (O.ethpPfcRx p)
      let x := getPort s1 p
      let held := queues.filter (fun q => decide (q < 8) && pfcOn s1 p q && !x.held.contains q)
      setPort s1 p { x with held := x.held ++ held.dedup })

/-- PFC_QUANTA_EXPIRE (R469): the held egress queue is served again. -/
def execPfcQuantaExpire (p q : Nat) (s : State) : Res :=
  .next (if (getPort s p).held.contains q then setPort s p { getPort s p with held := (getPort s p).held.erase q } else s)

/-- ARP_ND_RX (R472): the answer, and the neighbour enters the cache of 256. -/
def execArpNdRx (p target sender : Nat) (s : State) : Res :=
  .next (if portUpNow s p = false ∨ ownAddress s p target = false then s
    else
      let x := getPort s p
      (setPort s p { x with neighbours := (sender :: x.neighbours.filter (fun n => decide (n ≠ sender))).take 256 }).emit
        (.neighbour p target sender))

/-- ICMP_ECHO_RX (R472): the echo reply. -/
def execIcmpEchoRx (p src len : Nat) (payload : List Byte) (s : State) : Res :=
  .next (if portUpNow s p = true ∧ csrBit s O.ethCtrl 0 ∧ len ≤ 1472 ∧ payload.length = len then
      s.emit (.echo p src payload)
    else s)

/-- Whether the DHCP client of a port runs: it is enabled, and the address is not static (R470). -/
def dhcpRuns (s : State) (p : Nat) : Bool :=
  csrBit s O.ethCtrl 2 && (decide (csrGet s (O.ethpIpv4Addr p) = 0) || (getPort s p).lease.isSome)

/-- DHCP_REPLY_RX (R470): a lease is obtained, changed or renewed; a client without one requests what it was offered (log entry
103). -/
def execDhcpReplyRx (p : Nat) (l : Lease) (s : State) : Res :=
  .next (if portUpNow s p = false ∨ dhcpRuns s p = false ∨ (getPort s p).lease = some l then s
    else setLease (if (getPort s p).lease.isNone then sendDhcp s p 0 else s) p (some l) l.addr l.plen l.gw)

/-- DHCP_RENEW (R470). -/
def execDhcpRenew (p : Nat) (s : State) : Res :=
  .next (if portUpNow s p = true ∧ (getPort s p).lease.isSome then sendDhcp s p 0 else s)

/-- DHCP_LEASE_EXPIRE (R470): the address is lost, and an enabled client asks again. -/
def execDhcpLeaseExpire (p : Nat) (s : State) : Res :=
  .next (if (getPort s p).lease.isNone then s
    else
      let s1 := setLease s p none 0 0 0
      if portUpNow s1 p && csrBit s1 O.ethCtrl 2 then sendDhcp s1 p 2 else s1)

/-- ROUTER_ADVERT_RX (R471): the router's address is a free value, as no operand gives it (log entry 102). -/
def execRouterAdvertRx (p : Nat) (s : State) : Res :=
  .next (if portUpNow s p then setPort s.useFree p { getPort s p with router := some (Config.routerAddress s.freeCtr) } else s)

end Sys2Proof.Machine
end

