-- ==== Sys2Proof/Machine/Mend.lean ====
section
/-! DEFINITION. The meanings of the mend commands (R377 to R422, R645). -/

namespace Sys2Proof.Machine

/-- Acts with the live group table; without one a mend frame is discarded. -/
def withTable (s : State) (f : GroupT → State) : State :=
  match s.mend.table with
  | some t => f t
  | none => s

/-- Removes a mend frame of a header from the inbox. -/
def takeMend (s : State) (h : MendHdr) : State :=
  { s with inbox := s.inbox.eraseP (fun f => match f.frame.body with
      | .mend g _ => decide (g = h)
      | _ => false) }

/-- Whether a mend frame of a kind that R396 discards by epoch is of the device's epoch or a later one. -/
def current (s : State) (h : MendHdr) : Bool := epochOf s ≤ h.epoch

/-- DEPART_RX (R392, R393): the rank that its own table names treats the sender as failed. -/
def execDepartRx (h : MendHdr) (s : State) : Res :=
  let s1 := takeMend s h
  .next (withTable s1 (fun t => if lowestLiveBut t h.src = some t.self then runKeeperFail s1 h.src else s1))

/-- SUSPECT_RX (R393, R394, R645). -/
def execSuspectRx (h : MendHdr) (s : State) : Res :=
  let s1 := takeMend s h
  .next (withTable s1 (fun t =>
    let s2 := bump s1 O.groupCntSuspect
    match lowestLiveBut t h.subject with
    | none => s2
    | some k =>
      if k ≠ t.self then
        (if h.passed then s2 else sendMend s2 k { mendHdr s2 2 h.subject h.step with marked := h.marked, passed := true })
      else if h.marked then runKeeperFail s2 h.subject
      else if notFailed t h.subject then probeRank s2 h.subject
      else s2))

/-- SUSPECT_RESEND (R645). -/
def execSuspectResend (rank : Nat) (s : State) : Res :=
  .next (withTable s (fun t =>
    if s.mend.marks.any (fun m => decide (m.1 = rank)) ∧ notFailed t rank then
      match lowestLiveBut t rank with
      | some k => sendMend s k { mendHdr s 2 rank 0 with marked := true }
      | none => s
    else s))

/-- Whether a rank or standby rank is this device's: its `SELF`, or the standby rank under which it was assigned it. -/
def isSelf (t : GroupT) (r : Nat) : Bool :=
  decide (r = t.self) || (decide ((memOf t r).st = .assigned) && decide ((memOf t r).link = t.self))

/-- PROBE_RX (R394): the subject answers every copy, a spare also for its standby rank. -/
def execProbeRx (h : MendHdr) (s : State) : Res :=
  let s1 := takeMend s h
  .next (withTable s1 (fun t => if isSelf t h.subject then sendMend s1 h.src (mendHdr s1 4 h.subject 0) else s1))

/-- The ADD_SPARE requests that wait for the probe of a rank (R496). -/
def addSparesFor (s : State) (rank : Nat) : List Running :=
  s.wcp.running.filter (fun x => decide (x.req.opcode = 0x0603) && decide (x.a = rank))

/-- Answers requests that waited, in order. -/
def endAll (s : State) (xs : List Running) (status : Nat) : State := xs.foldl (fun s x => endDeferred s x status 0) s

/-- PROBE_ACK_RX (R394, R419, R496). -/
def execProbeAckRx (h : MendHdr) (s : State) : Res :=
  let s1 := takeMend s h
  .next (withTable s1 (fun t =>
    if s1.mend.probes.contains h.subject then
      let s2 := s1.withMend (fun m => { m with probes := m.probes.erase h.subject })
      match addSparesFor s2 h.subject with
      | x :: xs =>
        let s3 := if (memOf t h.subject).st = .gone then
            issueNotice s2 ⟨[⟨h.subject, .ready, false, 0⟩], []⟩ 0
          else s2
        coverAssign (endAll s3 (x :: xs) stOk)
      | [] => s2
    else s1))

/-- PROBE_TIMEOUT (R394, R496). -/
def execProbeTimeout (rank : Nat) (s : State) : Res :=
  .next (if s.mend.probes.contains rank then
      let s1 := bump (s.withMend (fun m => { m with probes := m.probes.erase rank })) O.groupCntProbeFail
      match addSparesFor s1 rank with
      | x :: xs => endAll s1 (x :: xs) stBadState
      | [] => runKeeperFail s1 rank
    else s)

/-- Whether notice `n` leaves a change of notice `m` to be undone: it does not change the member, or lets it join at
another step. -/
def undoes (m n : Notice) (c : Change) : Bool :=
  !n.changes.any (fun d => decide (d.idx = c.idx)) || (decide (c.st = .live) && decide (m.fromStep ≠ n.fromStep))

/-- Undoes what notice `m` changed and notice `n`, kept in its place, does not (R398): those entries with their joins and
their copied routes, and this device's `SELF` unless both give it, stand as before `m`. -/
def undoNotice (s : State) (t : GroupT) (b : BeforeNotice) (m n : Notice) : State :=
  let back := m.changes.filter (undoes m n)
  let same := decide (t.self = b.table.self) ||
    n.changes.any (fun d => decide (d.idx = b.table.self) && decide (d.st = .assigned) && decide (d.link = t.self))
  let t1 := back.foldl (fun t c => let x := memOf b.table c.idx; putMem t ⟨c.idx, x.st, x.copy, x.link⟩) t
  let gone (r : Nat) : Bool := back.any (fun c => decide (c.idx = r))
  let s1 := s.withMend (fun x => { x with
    table := some { t1 with self := if same then t.self else b.table.self }
    recv := if same then x.recv else none
    spareOf := if same then x.spareOf else none
    joins := x.joins.filter (fun j => !gone j.1) ++ b.joins.filter (fun j => gone j.1)
    waking := x.waking && same })
  let s2 : State := { s1 with routes := (back.filter (fun c => decide (c.st = .assigned))).foldl (fun r c =>
      match tget? b.routes c.link with
      | some v => tset r c.link v
      | none => tdel r c.link) s1.routes }
  if same then s2 else announceIds s2

/-- Whether a change differs from what a table holds. -/
def differs (t : GroupT) (c : Change) : Bool :=
  let x := memOf t c.idx
  !(decide (x.st = c.st) && decide (x.copy = c.copy) && decide (x.link = c.link))

/-- The notice of the device's own epoch differs (R398): the one of the lower keeper is kept. -/
def noticeConflict (s : State) (t : GroupT) (n : Notice) (mine : Option Notice) : State :=
  match mine with
  | none => s
  | some m =>
    let s0 := bump s O.groupCntConflict
    if n.keeper < m.keeper then
      let b := s.mend.before.getD ⟨t, s.mend.joins, s.routes⟩
      let s1 := raise s0 0x4008 0 3 8 n.keeper
      let s2 := if m.keeper = t.self ∨ t.keeper = t.self then s1.withMend (fun x => { x with stopped := true, unacked := [] }) else s1
      let u := undoNotice s2 t b m n
      let s3 := (adoptNotice u n (n.changes.filter (differs (u.mend.table.getD t)))).withMend (fun x => { x with before := some b })
      ackNotice s3 n.keeper n.epoch
    else s0

/-- NOTICE_RX (R396 to R399): adopted, held, acknowledged again, or a conflict. -/
def execNoticeRx (h : MendHdr) (n : Notice) (s : State) : Res :=
  let s1 := takeMend s h
  .next (withTable s1 (fun t =>
    if n.epoch = t.epoch + 1 then
      adoptHeld s1.mend.held.length (ackNotice (adoptNotice s1 n n.changes) n.keeper n.epoch)
    else if t.epoch + 1 < n.epoch then
      (if s1.mend.held.contains n then s1 else s1.withMend (fun m => { m with held := m.held ++ [n] }))
    else if s1.mend.adopted.contains n then ackNotice s1 n.keeper n.epoch
    else if n.epoch = t.epoch then noticeConflict s1 t n (s1.mend.adopted.find? (fun m => decide (m.epoch = n.epoch)))
    else s1))

/-- Whether an acknowledgement from `src` is that of member `d`: a spare acknowledges under the rank that it takes
(R397, step 2). -/
def acksFor (s : State) (src d : Nat) : Bool :=
  d = src || (match s.mend.table with
    | some t => decide ((memOf t d).st = .assigned) && decide ((memOf t d).link = src)
    | none => false)

/-- NOTICE_ACK_RX (R396). -/
def execNoticeAckRx (h : MendHdr) (s : State) : Res :=
  .next ((takeMend s h).withMend (fun m => { m with
    unacked := m.unacked.filter (fun x => !(acksFor s h.src x.1 && decide (x.2.epoch = h.epoch))) }))

/-- NOTICE_RESEND (R396). -/
def execNoticeResend (s : State) : Res :=
  .next (withTable s (fun t =>
    let l := s.mend.unacked.filter (fun x => notFailed t x.1)
    let s1 := s.withMend (fun m => { m with unacked := l })
    l.foldl (fun s x => bump (sendNotice s x.1 x.2) O.groupCntResend) s1))

/-- COPY_REPORT_RX (R395): the keeper's `COPY`, without an epoch. -/
def execCopyReportRx (h : MendHdr) (valid : Bool) (s : State) : Res :=
  let s1 := takeMend s h
  .next (withTable s1 (fun t =>
    if current s h ∧ t.keeper = t.self ∧ h.subject < t.ranks then
      s1.withMend (fun m => { m with table := some (setCopy t h.subject valid) })
    else s1))

/-- Shows a digest just computed in `MEND.DIGEST_LO` and `MEND.DIGEST_HI`. -/
def showDigest (s : State) (d : BitVec 64) : State :=
  csrPut (csrPut s O.mendDigestLo (d.toNat % 2 ^ 32)) O.mendDigestHi (d.toNat / 2 ^ 32)

/-- The partner compares the owner's digest of a checked step with that of its copy (R382, R383). -/
def compareDigests (s : State) (owner : Nat) (mine theirs : BitVec 64) : State :=
  let s1 := bump (s.withMend (fun m => { m with ownDigest := none, rxDigest := none })) O.mendCntCheck
  if mine = theirs then s1 else copyInvalid (raise (bump s1 O.mendCntDiverged) 0x4005 2 3 8 owner)

/-- What the MEND engine's read of an area raises, where memory does not deliver it all (R232, R290, R327). -/
def areaErrors (s : State) (a n : Nat) : Option State :=
  if mayAccess s 1 false a n = false then some (mangleDenied s 0)
  else if badIn s a n = [] then none
  else some ((badIn s a n).foldl (fun s b => memUncorr s 1 b) s)

/-- Whether a check compares the copy that this device holds (R382): the held rank is LIVE and the copy valid. -/
def copyChecked (t : GroupT) : Option Nat :=
  (heldRank t).filter (fun q => decide ((memOf t q).st = .live) && (memOf t q).copy)

/-- The copy's part of a check (R382): a digest of the check before that has not come is counted as discarded; the copy's
digest of step `k` is compared with the owner's where that has come, and otherwise waits for it. Uncorrectable data in the
copy is never delivered, and ends the check (R327, R383). -/
def checkCopy (s : State) (t : GroupT) (k : Nat) : State :=
  match copyChecked t with
  | none => s
  | some q =>
    match areaErrors s t.copyBase t.areaBytes with
    | some s1 => s1
    | none =>
      let c := crc64 (memGet s t.copyBase t.areaBytes)
      let s1 := showDigest (if s.mend.ownDigest.isSome then bump s O.mendCntCheckLost else s) c
      let waits := s1.withMend (fun m => { m with ownDigest := some (k, c) })
      match s.mend.rxDigest with
      | some (j, d) => if j = k then compareDigests s1 q c d else waits
      | none => waits

/-- The checked step that is due at step `t`: the one before where it still is, else `t` itself. -/
def dueStep (s : State) : Option Nat := [s.step - 1, s.step].find? (checkDue s)

/-- The areas that a check reads (R382). -/
def checkAreas (s : State) (g : GroupT) : List (Nat × Nat) :=
  ([(g.shardBase, g.areaBytes)] ++ (if (copyChecked g).isSome then [(g.copyBase, g.areaBytes)] else [])).filter
    (fun r => mayAccess s 1 false r.1 r.2)

/-- The request of the MEND engine's check to a stack (Table 9 of *Memory tiers and weight streaming*). -/
def checkReq : HbmReq := ⟨.check, 3⟩

/-- DIGEST_CHECK (R382): the updates of a checked step have been applied to the copy held and to the SHARD area, and the
owner sends the digest of its SHARD area. The areas are read once their memory answers and has a turn for it (R301, R317,
R320, R324). -/
def execDigestCheck (s : State) : Res :=
  .next (withTable s (fun g =>
    match partnerOf g g.self, dueStep s with
    | some p, some t =>
      let rs := checkAreas s g
      let waits := rs.filter (fun r => !mayGo s checkReq r.1 r.2)
      if updatesDone s g t = false then s
      else if waits ≠ [] then waits.foldl (fun s r => waitFor s checkReq r.1 r.2) s
      else
        let s0 := rs.foldl (fun s r => readMeets (goOn s checkReq r.1 r.2) r.1 r.2) s
        let s1 := (checkCopy s0 g t).withMend (fun m => { m with checkedStep := some t })
        match areaErrors s1 g.shardBase g.areaBytes with
        | some s2 => s2
        | none =>
          let d := crc64 (memGet s1 g.shardBase g.areaBytes)
          let s2 := showDigest s1 d
          sendMend s2 p (mendHdr s2 8 g.self t) (.bytes (leBytes 8 d.toNat))
    | _, _ => s))

/-- DIGEST_RX (R382, R383): the digest is compared with that of the copy, once the copy's check of its step has come; one
of a check that is over is discarded. -/
def execDigestRx (h : MendHdr) (digest : BitVec 64) (s : State) : Res :=
  let s1 := takeMend s h
  let holds := s1.withMend (fun m => { m with rxDigest := some (h.step, digest) })
  .next (withTable s1 (fun t =>
    if !current s h ∨ heldRank t ≠ some h.src ∨ csrBit s O.mendCtrl 0 = false then s1
    else match s.mend.ownDigest with
      | some (k, c) =>
        if h.step = k then compareDigests s1 h.src c digest else if k < h.step then holds else s1
      | none => if s.mend.checkedStep.any (fun k => decide (h.step ≤ k)) then s1 else holds))

/-- FILL_REQ_RX (R383, R404, R405, R409): a source starts a stream, at most two at once. -/
def execFillReqRx (h : MendHdr) (s : State) : Res :=
  let s1 := takeMend s h
  .next (withTable s1 (fun t =>
    let own := decide (h.part = 0)
    let role := if own then 1 else if (memOf t h.src).st = .live then 3 else 2
    let mine := if own then decide ((memOf t h.subject).partner = t.self) else decide (h.subject = t.self)
    let others := s1.mend.srcs.filter (fun x => !(decide (x.role = role) && decide (x.target = h.src)))
    let open_ := others.filter (fun x => !x.ended)
    if !current s h ∨ mine = false ∨ 2 ≤ open_.length then s1
    else
      let slot := b2n (open_.any (fun x => decide (x.slot = 0)))
      let s2 := bump (s1.withMend (fun m => { m with
        srcs := others ++ [⟨role, h.src, h.subject, ownedChunks s h.subject, [], 0, false, (memOf t h.src).link, slot⟩] }))
        O.mendCntFill
      if own then sendMeta s2 h.src else s2))

/-- The base of the area from which a stream is read: the copy for an own part, SHARD otherwise. -/
def srcBase (t : GroupT) (x : FillSrc) : Nat := if x.role = 1 then t.copyBase else t.shardBase

/-- Changes a fill stream being sourced. -/
def putSrc (s : State) (x : FillSrc) : State :=
  s.withMend (fun m => { m with srcs := m.srcs.map (fun y =>
    if y.target = x.target ∧ y.role = x.role then x else y) })

/-- Sends the state of a chunk in frames of at most 16,384 bytes (R391, R405). -/
def sendChunk (s : State) (t : GroupT) (x : FillSrc) (c : Nat × Nat) : State :=
  let off := Config.chunkOffset c.1 c.2
  let n := chunkBytes s c.1 c.2
  let b := memGet s (srcBase t x + off) n
  let step := chunkStep s (srcBase t x) c
  (List.range ((n + 16383) / 16384)).foldl (fun s i =>
    sendMend s x.target { mendHdr s 0xB x.subject step with
      part := b2n (decide (x.role ≠ 1)), tag := c.1, chunk := c.2, offset := off + i * 16384 }
      (.bytes (slice b (i * 16384) 16384))) s

/-- The range of a chunk's state that a fill stream reads, and its request, which feeds a collective (Table 9 of *Memory
tiers and weight streaming*). -/
def fillRange (s : State) (t : GroupT) (x : FillSrc) (c : Nat × Nat) : HbmReq × Nat × Nat :=
  (⟨.fill x.target, 2⟩, srcBase t x + Config.chunkOffset c.1 c.2, chunkBytes s c.1 c.2)

/-- FILL_CHUNK_SEND (R405, R406): a chunk whose update waits, else the lowest unstreamed one; FILL_END after
the last. The read waits for its memory and its turn (R317, R320); data that is uncorrectable or on a page that class 1 may
not read is not sent (R290, R327). -/
def execFillChunkSend (target : Nat) (s : State) : Res :=
  .next (withTable s (fun t =>
    match s.mend.srcs.find? (fun x => decide (x.target = target) && !x.ended) with
    | none => s
    | some x =>
      match x.waiting.head?.or x.left.head? with
      | some c =>
        let (r, a, n) := fillRange s t x c
        if mayAccess s 1 false a n = false then mangleDenied s c.1
        else if mayGo s r a n = false then waitFor s r a n
        else
          let s1 := readMeets (goOn s r a n) a n
          match badIn s1 a n with
          | b :: rest => (b :: rest).foldl (fun s b => memUncorr s 1 b) s1
          | [] =>
            putSrc (sendChunk s1 t x c) { x with
              left := x.left.erase c, waiting := x.waiting.erase c, bytes := x.bytes + chunkBytes s c.1 c.2 }
      | none => putSrc (sendMend s target { mendHdr s 0xC x.subject 0 with part := b2n (decide (x.role ≠ 1)) })
          { x with ended := true }))

/-- FILL_META_RX (R413, R414): assembled by offset, installed when whole. -/
def execFillMetaRx (h : MendHdr) (bytes : List Byte) (s : State) : Res :=
  let s1 := takeMend s h
  .next (match s1.mend.recv with
    | none => s1
    | some r =>
      if !current s h ∨ r.rebuild ∨ h.step < r.metaHeld.getD 0 ∨ h.step < r.metaStep.getD 0 then s1
      else
        let same := decide (r.metaStep = some h.step)
        let have_ := if r.metaHave.contains h.offset && same then r.metaHave else (if same then r.metaHave else []) ++ [h.offset]
        let m := memWrites (if same then r.metaBytes else []) h.offset bytes
        let r1 := { r.count bytes.length with metaStep := some h.step, metaBytes := m, metaHave := have_ }
        if have_.length = 19 then
          let r2 := { r1 with metaStep := none, metaBytes := [], metaHave := [], metaHeld := some h.step }
          spareEnter (installMeta (s1.withMend (fun x => { x with recv := some r2 })) m r.metaHeld.isSome)
        else s1.withMend (fun x => { x with recv := some r1 }))

/-- The gradients that waited for a chunk's state are handed on, those above its step number (R407). -/
def releaseFinals (s : State) (r : FillRecv) (tag chunk step : Nat) : State :=
  let mine (w : Nat × Nat × Nat × STile) : Bool := decide (w.1 = tag) && decide (w.2.1 = chunk)
  let s1 := s.withMend (fun m => { m with recv := some { r with waitingFinals := r.waitingFinals.filter (fun w => !mine w) } })
  match descOf s tag with
  | none => s1
  | some d => (r.waitingFinals.filter (fun w => mine w && decide (step < w.2.2.1))).foldl (fun s w =>
      giveCompletion s (d.f 11 23 16) (d.f 11 29 24) w.2.2.2) s1

/-- FILL_CHUNK_RX (R391, R406, R407): the own part goes to the SHARD area, the held part and a rebuild to the
MEND area. The frame waits while memory does not take it (R301, R320); a page that class 1 may not write takes nothing
(R290, R299). -/
def execFillChunkRx (h : MendHdr) (bytes : List Byte) (s : State) : Res :=
  let s1 := takeMend s h
  .next (withTable s (fun t =>
    match s.mend.recv with
    | none => s1
    | some r =>
      let a := (if h.part = 0 then t.shardBase else t.copyBase) + h.offset
      let req : HbmReq := ⟨.fillIn, 3⟩
      if !current s h then s1
      else if mayAccess s 1 true a bytes.length = false then mangleDenied s1 h.tag
      else if mayGo s req a bytes.length = false then waitFor s req a bytes.length
      else
        let s2 := agentWrite (goOn s1 req a bytes.length) a bytes
        let r1 := r.count bytes.length
        if h.offset + bytes.length < Config.chunkOffset h.tag h.chunk + chunkBytes s h.tag h.chunk then
          s2.withMend (fun m => { m with recv := some r1 })
        else releaseFinals s2 { r1 with chunks := r1.chunks ++ [(h.part, h.tag, h.chunk, h.step)] } h.tag h.chunk h.step))

/-- FILL_END_RX (R383, R404): FILL_DONE once both parts have ended; the end of a rebuild makes the copy
valid. -/
def execFillEndRx (h : MendHdr) (s : State) : Res :=
  let s1 := takeMend s h
  .next (withTable s1 (fun t =>
    match s1.mend.recv with
    | none => s1
    | some r =>
      if !current s h then s1
      else if r.rebuild then
        let s2 := s1.withMend (fun m => { m with recv := none, table := some (setCopy t r.rank true) })
        reportCopy (bump s2 O.mendCntRebuild) true
      else
        let needHeld := (heldBy t r.rank).isSome
        let r1 := if h.part = 0 then { r with ownDone := true } else { r with heldDone := true }
        let s2 := s1.withMend (fun m => { m with recv := some r1 })
        if r1.ownDone ∧ (r1.heldDone ∨ needHeld = false) then sendMend s2 t.keeper (mendHdr s2 0xD r.rank 0) else s2))

/-- FILL_DONE_RX (R410): the join notice, whose first step is `MANGLE.STEP` + 2 on the keeper. -/
def execFillDoneRx (h : MendHdr) (s : State) : Res :=
  let s1 := takeMend s h
  .next (withTable s1 (fun t =>
    let f := h.subject
    let m := memOf t f
    if current s h ∧ t.keeper = t.self ∧ f < t.ranks ∧ m.st = .filling ∧ (h.src = m.link ∨ h.src = f) then
      let held : List Change := match heldBy t f with
        | some q => [⟨q, (memOf t q).st, true, (memOf t q).link⟩]
        | none => []
      issueNotice s1 ⟨[⟨f, .live, true, 0⟩] ++ held ++ [⟨m.link, .gone, false, 0⟩], []⟩
        (csrGet s1 O.mangleStep + 2)
    else s1))

/-- SPARE_WAKE_DONE (R404): the spare's domains are awake, and both requests go. -/
def execSpareWakeDone (s : State) : Res :=
  .next (match s.mend.recv with
    | some r =>
      if s.mend.waking ∧ (spareDomains s).all (domRuns s) then
        sendFillReqs (s.withMend (fun m => { m with waking := false })) r.rank
      else s
    | none => s)

end Sys2Proof.Machine
end

