-- ==== Sys2Proof/Machine/Registers.lean ====
section
/-! DEFINITION. The meanings of the register commands that have a row of their own, and of the write to any
other register (R12, R38, R170, R173, R192, R280, R284, R285, R384, R543, R553, R554). -/

namespace Sys2Proof.Machine

/-- TRACE_DRAIN (R543, R544): a buffer of at least 4 KiB drains one chunk. -/
def execTraceDrain (core : Nat) (s : State) : Res :=
  .next (if mayDrain s core 4096 then traceChunk s core else s)

/-- TRACE_FLUSH (R543). -/
def execTraceFlush (core : Nat) (s : State) : Res :=
  .next (if writeBusy s (O.coreTraceCtrl core) then s else traceFlushCore s core)

/-- THREAD_RESTART (R252, R284, R285). -/
def execThreadRestart (core bits : Nat) (s : State) : Res :=
  .next (hostWrite s (O.coreThreadCtrl core) (BitVec.ofNat 32 (bits % 256 * 256)))

/-- THREAD_HALT (R284, R285). -/
def execThreadHalt (core bits : Nat) (s : State) : Res :=
  .next (hostWrite s (O.coreThreadCtrl core) (BitVec.ofNat 32 (bits % 256)))

/-- STATION_RESET (R204, R285). -/
def execStationReset (core bits : Nat) (s : State) : Res :=
  .next (hostWrite s (O.coreStnReset core) (BitVec.ofNat 32 (bits % 2 ^ 13)))

/-- PERF_CLEAR (R554). -/
def execPerfClear (core : Nat) (s : State) : Res :=
  .next (if writeBusy s (O.corePerfCtrl core) then s else clearPerf s core)

/-- EXC_COUNT_READ (R280). -/
def execExcCountRead (core : Nat) (s : State) : Res := .next (csrRead s 0 (O.coreExcCount core)).1

/-- CYCLE_LO_READ (R38). -/
def execCycleLoRead (reader : Nat) (s : State) : Res := .next (readCycleLo s reader).1

/-- ENG_COUNTER_LO_READ (R554). -/
def execEngCounterLoRead (reader core off : Nat) (s : State) : Res :=
  .next (match engCounter (0x100000 + core * 0x1000 + off) with
    | some (c, k, false) => (readEngLo s reader c k).1
    | _ => s)

/-- ERRLOG_CLEAR (R553). -/
def execErrlogClear (s : State) : Res := .next (clearLog s)

/-- PRU_ENTRY_WRITE (R40, R170). -/
def execPruEntryWrite (word : Nat) (v : BitVec 32) (s : State) : Res :=
  .next (if word < 16 then hostWrite s (O.pruEntryW word) v else s)

/-- PRU_APPLY_STEP_WRITE (R40, R173). -/
def execPruApplyStepWrite (v : BitVec 32) (s : State) : Res := .next (hostWrite s O.pruApplyStep v)

/-- PRU_PENDING_DISCARD (R40, R192). -/
def execPruPendingDiscard (s : State) : Res := .next (hostWrite s O.pruPending 0x80000000#32)

/-- GROUP_CTRL_RELEASE (R40, R384). -/
def execGroupCtrlRelease (s : State) : Res := .next (hostWrite s O.groupCtrl 1#32)

/-- CSR_WRITE (R12, R14, R40, R44, R353). -/
def execCsrWrite (off : Nat) (v : BitVec 32) (s : State) : Res :=
  .next (if off % 4 = 0 then hostWrite s off v else s)

/-- ETH_MODE_WRITE (R461). -/
def execEthModeWrite (v : BitVec 32) (s : State) : Res := .next (hostWrite s O.ethMode v)

/-- IPV4_ADDR_WRITE (R470). -/
def execIpv4AddrWrite (port : Nat) (v : BitVec 32) (s : State) : Res :=
  .next (if port < 8 then hostWrite s (O.ethpIpv4Addr port) v else s)

end Sys2Proof.Machine
end

