-- ==== Sys2Proof/Machine/Roce.lean ====
section
/-! DEFINITION. The RoCEv2 responder (R474 to R480). What happens to a packet of an unsupported operation, out of
sequence or for a queue pair in the error state is the reliable-connection responder's answer, by log entry
38. -/

namespace Sys2Proof.Machine

/-- The queue pair `n`. -/
def getQp (s : State) (n : Nat) : Option QP := tget? s.wcp.qps n

/-- Changes a queue pair. -/
def setQp (s : State) (n : Nat) (x : QP) : State := s.withWcp (fun w => { w with qps := tset w.qps n x })

/-- The open window of an R_Key (R476): the index's window, its generation; one that WIN_CLOSE has named serves only packets
`accepted` before (R478). -/
def windowOf (s : State) (rkey : Nat) (accepted : Bool) : Option Window :=
  match tget? s.wcp.windows (rkey / 2 ^ 24 % 256) with
  | some x =>
    if rkey / 2 ^ 32 = 0 ∧ x.gen = rkey % 2 ^ 24 then x.win.bind (fun w => if w.closing && !accepted then none else some w)
    else none
  | none => none

/-- The checks of R477 on `n` bytes at `a`: R_Key, range, access, then R300 for each page. -/
def roceMay (s : State) (rkey : Nat) (accepted write : Bool) (a n : Nat) : Bool :=
  match windowOf s rkey accepted with
  | none => false
  | some w => decide (w.base ≤ a) && decide (a + n ≤ w.base + w.len) && (if write then w.wr else w.rd) && class2May s write a n

/-- A packet sequence number `n` further on. -/
def psnPlus (psn n : Nat) : Nat := (psn + n) % 2 ^ 24

/-- Sends a packet of a queue pair, with the PSN `psn` and the messages that the pair has completed. -/
def roceSend (s : State) (p : RocePkt) (kind psn : Nat) (body : List Byte := []) : State :=
  s.emit (.roce p.port p.qpn kind psn (((getQp s p.qpn).map (·.msn)).getD 0) body)

/-- Sends READ response data in packets of the path MTU, from the PSN of the request on. -/
def roceData (s : State) (p : RocePkt) (x : QP) (bs : List Byte) : State :=
  (chunksOf (max 1 x.mtu) bs.length bs).zipIdx.foldl (fun s b => roceSend s p 4 (psnPlus p.psn b.2) b.1) s

/-- A NAK, after which the queue pair is in the error state: QP_ERROR (R475, R477, R479). -/
def qpFail (s : State) (p : RocePkt) (kind : Nat) : State :=
  let s1 := roceSend s p kind p.psn
  let s2 := match getQp s1 p.qpn with
    | some x => setQp s1 p.qpn { x with error := true, msg := none, taken := [] }
    | none => s1
  raise s2 0x6005 2 2 6 p.port

/-- The CNP that a packet with ECN CE draws, at most one in 50 µs (R480). -/
def sendCnp (s : State) (p : RocePkt) (x : QP) : State :=
  let due := match x.cnpAt with
    | some t => decide (t + 5000 ≤ s.cycle)
    | none => true
  if p.ce && due then roceSend (bump (setQp s p.qpn { x with cnpAt := some s.cycle }) O.ethCntCnp) p 5 0 else s

/-- How far a packet is ahead of the PSN that its queue pair expects. -/
def psnAhead (p : RocePkt) (x : QP) : Nat := (p.psn % 2 ^ 24 + 2 ^ 24 - x.recvPsn % 2 ^ 24) % 2 ^ 24

/-- Whether a packet is one that its queue pair has accepted and that waits for memory. -/
def QP.holds (x : QP) (p : RocePkt) : Bool := x.taken.any (fun t => decide (t.psn = p.psn))

/-- A packet out of the sequence of its queue pair (log entry 38): one after a gap draws one NAK PSN Sequence Error, which
names the PSN that is missing. -/
def afterGap (s : State) (p : RocePkt) (x : QP) : State :=
  if x.nakSent then s else roceSend (setQp s p.qpn { x with nakSent := true }) p 6 x.recvPsn

/-- Receives a packet (R474): `run` executes it on its queue pair, `again` answers one that has been executed before. After a
hard fence packets are dropped (R539). -/
def roceRx (s : State) (p : RocePkt) (run again : QP → State → State) : State :=
  if portUpNow s p.port = false ∨ csrBit s O.ethCtrl 1 = false then s
  else if s.err.hard ∧ s.dev = .fenced then bump s O.ethCntRoceDrop
  else match getQp s p.qpn with
    | none => bump s O.ethCntRoceDrop
    | some x =>
      if p.icrcOk = false ∨ x.connected = false then bump s O.ethCntRoceDrop
      else if x.error then s
      else
        let s1 := sendCnp s p x
        let y := (getQp s1 p.qpn).getD x
        if psnAhead p x = 0 ∨ x.holds p then (if p.supported = false then qpFail s1 p 1 else run y s1)
        else if psnAhead p x < 2 ^ 23 then afterGap s1 p y
        else again y s1

/-- The request of a queue pair to a stack. -/
def pairReq (p : RocePkt) : HbmReq := ⟨.pair p.qpn, 4⟩

/-- A queue pair that has accepted a packet which waits for memory (R475, R478). -/
def QP.take (x : QP) (p : RocePkt) (rkey : Nat) (read : Bool) : QP :=
  if x.holds p then x else { x with taken := x.taken ++ [⟨p.psn, rkey, read⟩] }

/-- A queue pair past a packet: it expects the PSN `next` and no longer holds the packet. -/
def QP.past (x : QP) (p : RocePkt) (next : Nat) : QP :=
  { x with recvPsn := next, nakSent := false, taken := x.taken.filter (fun t => decide (t.psn ≠ p.psn)) }

/-- Moves the data of one WRITE packet, or fails the queue pair (R477); `left` bytes of the message remain
after it. -/
def roceWrite (s : State) (p : RocePkt) (x : QP) (rkey addr left : Nat) : State :=
  if roceMay s rkey (x.holds p) true addr p.data.length = false then qpFail s p 2
  else if mayGo s (pairReq p) addr p.data.length = false then
    waitFor (setQp s p.qpn (x.take p rkey false)) (pairReq p) addr p.data.length
  else
    let s1 := agentWrite (goOn s (pairReq p) addr p.data.length) addr p.data
    let msg := if left = 0 then none else some ⟨rkey, addr + p.data.length, left⟩
    let s2 := setQp s1 p.qpn { x.past p (psnPlus p.psn 1) with msg := msg, msn := if left = 0 then psnPlus x.msn 1 else x.msn }
    if left = 0 then roceSend s2 p 0 p.psn else s2

/-- ROCE_WRITE_RX (R474, R477, R480). One executed before is acknowledged again. -/
def execRoceWriteRx (p : RocePkt) (s : State) : Res :=
  .next (roceRx s p (fun x s =>
    let n := p.data.length
    match p.place, x.msg with
    | 0, none => if n < p.len then roceWrite s p x p.rkey p.addr (p.len - n) else qpFail s p 1
    | 3, none => if n = p.len then roceWrite s p x p.rkey p.addr 0 else qpFail s p 1
    | 1, some m => if n < m.left then roceWrite s p x m.rkey m.addr (m.left - n) else qpFail s p 1
    | 2, some m => if n = m.left then roceWrite s p x m.rkey m.addr 0 else qpFail s p 1
    | _, _ => qpFail s p 1) (fun x s => roceSend s p 0 (psnPlus x.recvPsn (2 ^ 24 - 1))))

/-- The packets of the response to a READ Request, each of which takes a PSN. -/
def readPsns (p : RocePkt) (x : QP) : Nat := max 1 ((p.len + max 1 x.mtu - 1) / max 1 x.mtu)

/-- The READ Requests that a queue pair has accepted and not answered. -/
def QP.reads (x : QP) : List Taken := x.taken.filter (·.read)

/-- Answers a READ Request on a queue pair `x` that has moved past it; the data before the first uncorrectable line goes out
(R479). -/
def answerRead (s : State) (p : RocePkt) (x : QP) : State :=
  let s1 := readMeets (goOn (setQp s p.qpn x) (pairReq p) p.addr p.len) p.addr p.len
  match (sortBy id (badIn s1 p.addr p.len)).head? with
  | none => roceData s1 p x (memGet s1 p.addr p.len)
  | some b => qpFail (memUncorr (roceData s1 p x (memGet s1 p.addr (b / 64 * 64 - p.addr))) 2 b true) p 3

/-- A READ Request on its queue pair (R475, R477): it goes once memory answers and no earlier one waits. -/
def roceRead (outstanding : Nat) (p : RocePkt) (x : QP) (s : State) : State :=
  let next := if x.holds p then x.recvPsn else psnPlus p.psn (readPsns p x)
  if x.holds p = false ∧ 16 ≤ max outstanding x.reads.length then qpFail s p 1
  else if roceMay s p.rkey (x.holds p) false p.addr p.len = false then qpFail s p 2
  else if mayGo s (pairReq p) p.addr p.len = false ∨ x.reads.head?.any (fun t => decide (t.psn ≠ p.psn)) then
    waitFor (setQp s p.qpn { x.take p p.rkey true with recvPsn := next, nakSent := false }) (pairReq p) p.addr p.len
  else answerRead s p { x.past p next with msn := psnPlus x.msn 1 }

/-- ROCE_READ_RX (R475, R477, R479): `outstanding` reads are in progress before it, beside those that the queue pair holds. One
executed before is answered again. -/
def execRoceReadRx (p : RocePkt) (outstanding : Nat) (s : State) : Res :=
  .next (roceRx s p (roceRead outstanding p) (fun x s =>
    if roceMay s p.rkey false false p.addr p.len = false then qpFail s p 2
    else if mayGo s (pairReq p) p.addr p.len = false then waitFor s (pairReq p) p.addr p.len
    else answerRead s p x))

end Sys2Proof.Machine
end

