-- ==== Sys2Proof/Machine/Scoring.lean ====
section
/-! DEFINITION. Live scoring (R502 to R523): requests, lanes, results with their attributions, and the weight
swap. -/

namespace Sys2Proof.Machine

/-- Changes scoring. -/
def State.withScore (s : State) (f : ScoreSt → ScoreSt) : State := { s with score := f s.score }

/-- Changes a lane. -/
def setLane (s : State) (n : Nat) (l : Lane) : State := s.withScore (fun x => { x with lanes := x.lanes.set n l })

/-- The weight buffer that a lane serves from. -/
def Lane.active (l : Lane) : WBuf := if l.activeB then l.bufB else l.bufA

/-! ### Result frames -/

/-- A result frame (Table 2). -/
def resultBytes (r : ScoreReq) (alarm attr : Bool) (status lane reason : Nat) (buf : WBuf) (score : BitVec 32) (ns : Nat)
    (recs : List (List Byte)) : List Byte :=
  leBytes 2 0x5352 ++ leBytes 1 1 ++ leBytes 1 (b2n alarm + 2 * b2n attr + 0x80) ++ leBytes 1 status ++ leBytes 1 lane ++
  leBytes 1 recs.length ++ leBytes 1 reason ++ leBytes 8 r.reqId ++ leBytes 8 r.hostTime ++ leBytes 4 buf.ver ++
  leBytes 4 score.toNat ++ leBytes 4 buf.thr.toNat ++ leBytes 4 (min ns 0xFFFFFFFF) ++ leBytes 8 0 ++ recs.flatten

/-- An answer of the ingress path (R513); how long it took is a free value (log entry 44). -/
def answerNow (s : State) (r : ScoreReq) (status reason cnt : Nat) : State :=
  ((bump s cnt).useFree).emit (.result r.bind
    (resultBytes r false false status 0xFF reason ⟨0, 0#32⟩ 0#32 (Config.ingressNs s.freeCtr) []))

/-! ### Admission -/

/-- I and F: the identifiers and the features of one event (R506). -/
def scoreShape (s : State) : Nat × Nat := (csrBits s O.scoreModel 27 24, csrBits s O.scoreFeatures 9 0)

/-- Where feature `f` of event `e` begins among the bytes of a request's events (R506). -/
def featureOffset (shape : Nat × Nat) (e f : Nat) : Nat := e * (4 * shape.1 + 2 * shape.2) + 4 * shape.1 + 2 * f

/-- Whether a request is malformed (Table 3). -/
def malformedReq (s : State) (r : ScoreReq) : Bool :=
  decide (r.magic ≠ 0x5352) || decide (r.version ≠ 1) || decide (4 ≤ r.flags) || decide (r.rsv ≠ 0) ||
  decide (r.body.length ≠ featureOffset (scoreShape s) r.events 0 - 4 * (scoreShape s).1) ||
  decide (r.features ≠ (scoreShape s).2) || decide (r.events = 0) ||
  decide (csrBits s O.scoreModel 12 0 < r.events) || decide (32 < r.k) || decide (r.flags = 3) ||
  (decide (r.lane ≠ 0xFF) && decide (s.score.lanes.length ≤ r.lane))

/-- The lane with the fewest admitted requests, the lowest on a tie (R511). -/
def shortestLane (ls : List Lane) : Nat :=
  (ls.zipIdx.foldl (fun m e => match m with
    | none => some (e.1.queue.length, e.2)
    | some b => if e.1.queue.length < b.1 then some (e.1.queue.length, e.2) else some b) none).map (·.2) |>.getD 0

/-- Admits a well-formed request to its lane, or answers it (R511, R512). -/
def admitScore (s : State) (r : ScoreReq) : State :=
  let n := if r.lane = 0xFF then shortestLane s.score.lanes else r.lane
  match s.score.lanes[n]? with
  | none => s
  | some l =>
    if l.active.ver = 0 then answerNow s r 3 0 O.scoreCntNoWeights
    else if 4 ≤ l.queue.length then answerNow s r 1 0 O.scoreCntBusy
    else setLane s n { l with queue := l.queue ++ [{ r with ahead := l.queue.length }] }

/-- SCORE_REQUEST_RX (R506, R511 to R516). At shedding level 5 requests are answered SHED, from level 6 on, in BOOT and in
FENCED they are dropped. -/
def execScoreRequestRx (r : ScoreReq) (s : State) : Res :=
  .next (if s.dev = .boot ∨ s.dev = .fenced ∨ 6 ≤ s.power.level then bump s O.scoreCntDrop
    else
      let s1 := bump s O.scoreCntReq
      if s.power.level = 5 then answerNow s1 r 5 0 O.scoreCntShed
      else if s.dev = .activating then answerNow s1 r 1 1 O.scoreCntBusy
      else if csrBit s O.scoreCtrl 0 = false ∨ s.score.lanes.isEmpty then answerNow s1 r 1 2 O.scoreCntBusy
      else if malformedReq s r then answerNow s1 r 2 0 O.scoreCntMalformed
      else admitScore s1 r)

/-! ### Service -/

/-- LANE_SERVICE_START (R512, R517): a lane whose active weights are marked bad ends the request with FAILED. -/
def execLaneServiceStart (lane : Nat) (s : State) : Res :=
  .next (match s.score.lanes[lane]? with
    | some l => if l.serving ∨ l.queue.isEmpty ∨ domRuns s l.cluster = false ∨ fenceStops s then s else setLane s lane { l with serving := true, failed := l.bad || decide (l.active.ver = 0) }
    | none => s)

/-- Whether a score raises the alarm: it is at least the threshold (R508). -/
def alarms (score thr : BitVec 32) : Bool := !f32IsNaN score && !f32IsNaN thr && !f32Lt score thr

/-- The latency bound of a request admitted behind `k` others, in ns (R514). -/
def latencyBound (s : State) (k : Nat) : Nat := 1600 + (k + 1) * csrGet s O.scoreSNs + 1200

/-- Counts a latency, with LANE_LATE where it exceeds its bound (R514, R523). -/
def countLatency (s : State) (lane k lat : Nat) : State :=
  let s1 := csrPut s O.scoreLatMax (max (csrGet s O.scoreLatMax) (min lat 0xFFFFFFFF))
  if latencyBound s k < lat then raise (bump s1 O.scoreCntLate) 0x6011 0 0 7 lane [lane, lat, k] else s1

/-- A lane takes up its inactive buffer; the bad mark is cleared (R521, R522). -/
def Lane.switchBuf (l : Lane) : Lane := { l with activeB := !l.activeB, bad := false, switch := false }

/-- Ends a swap once the last lane has switched (R522). -/
def swapDone (s : State) : State :=
  if s.score.lanes.any (·.switch) then s
  else
    let old := s.score.activeVer
    let thr := ((s.score.lanes.head?.map (fun l => l.active.thr)).getD 0#32).toNat
    let s1 := (csrPut s O.scoreThreshold thr).withScore (fun x =>
      { x with activeVer := x.loadedVer, loaded := false, loadedVer := 0, weights := true })
    let s2 := match runningBg s1 0x0903 with
      | some r => endDeferred s1 r stOk 0
      | none => s1
    raise (bump s2 O.scoreCntSwap) 0x6010 0 0 0 0 [s.score.loadedVer, old]

/-- Threads of a class-0 cluster that failed during the request restart at their entry points (R252). -/
def restartFailed (s : State) (cluster : Nat) : State :=
  (coresOf cluster).foldl (fun s c => (List.range 8).foldl (fun s t =>
    let x := getThread s c t
    if x.st = .exception ∨ (x.st = .miss ∧ x.blocked = .none) then startThread s c t else s) s) s

/-- The attribution of one input (R509): the sum of x × ∂score/∂x over its terms in FP32, in their order; the value of a
feature is the one that the request carries, while an identifier stands for the elements of its embedding row. -/
def attribution (shape : Nat × Nat) (r : ScoreReq) (v : Sens) : Attr :=
  let x : BitVec 32 := bf16To32 (BitVec.ofNat 16 (ofLe ((r.body.drop (featureOffset shape v.event (v.input - shape.1))).take 2)))
  ⟨v.event, v.input, f32Sum (v.terms.map (fun t => f32Mul (if v.input < shape.1 then t.1 else x) t.2))⟩

/-- The attributions of a request: one for each input of its events (R509). -/
def attributions (s : State) (r : ScoreReq) (vs : List Sens) : List Attr :=
  (vs.filter (fun v => decide (v.event < r.events) && decide (v.input < (scoreShape s).1 + (scoreShape s).2))).map
    (attribution (scoreShape s) r)

/-- LANE_SERVICE_END (R507 to R510, R514, R517, R521, R573): while the lane's domain is retained nothing happens; the request in service is answered with the score and attributions that
the lane's programs computed, or with FAILED; then a lane that has still to switch does. -/
def execLaneServiceEnd (lane : Nat) (score : BitVec 32) (attrs : List Sens) (ns egressNs : Nat) (s : State) : Res :=
  .next (match s.score.lanes[lane]? with
    | none => s
    | some l => match l.serving && domRuns s l.cluster && !fenceStops s, l.queue with
      | true, r :: rest =>
        let buf := l.active
        let ok := !l.failed
        let alarm := ok && alarms score buf.thr
        let attr := ok && decide (r.k ≠ 0) && decide (r.flags % 2 = 0) && csrBit s O.scoreCtrl 1 && (alarm || decide (r.flags = 2))
        let recs := if attr then (rankAttrs (min r.k (csrBits s O.scoreModel 21 16)) (attributions s r attrs)).map Attr.bytes else []
        let s1 := s.emit (.result r.bind (resultBytes r alarm attr (if ok then 0 else 4) lane 0 buf
          (if ok then score else 0#32) ns recs))
        let s2 := if ok then bump s1 O.scoreCntOk else bump s1 O.scoreCntFailed
        let s3 := countLatency (if alarm then bump s2 O.scoreCntAlarm else s2) lane r.ahead (ns + egressNs)
        let l1 := { l with queue := rest, serving := false, failed := false }
        let s4 := restartFailed (setLane s3 lane (if l.switch then l1.switchBuf else l1)) l.cluster
        if l.switch then swapDone s4 else s4
      | _, _ => s)

/-! ### Swap -/

/-- SCORE_STATUS (R519). -/
def execScoreStatus (q : WcpReq) (s : State) : Res :=
  .next (wcpRow q 0x0901 false notFenced neverBusy (fun r s =>
    respond s r stOk 0 ([O.scoreStatus, O.scoreActiveVer, O.scoreLoadedVer, O.scoreQueue, O.scoreSNs].flatMap (fun o =>
      leBytes 4 (csrValue s o)))) s)

/-- Whether a switch is in progress. -/
def switching (s : State) : Bool := s.score.lanes.any (·.switch)

/-- Whether a swap image's header breaks Table 6. -/
def swapHeaderBad (s : State) (a : Nat) : Bool :=
  decide (memNum s.mem a 4 ≠ 0x57535731) || decide (memNum s.mem (a + 4) 4 = 0) ||
  decide (memNum s.mem (a + 8) 4 / 2 ^ 23 % 256 = 255) || (memGet s (a + 0x18) 40).any (fun b => b ≠ 0#8)

/-- A SWAP_LOAD that fails leaves `LOADED` clear (R520). -/
def swapFails (s : State) (r : Request) (status : Nat) : State :=
  respond (s.withScore (fun x => { x with loaded := false, loadedVer := 0 })) r status

/-- The states in which a swap command is accepted: RUNNING and QUIESCED, with a class-0 partition. -/
def swapStates (s : State) : Bool := inStates [.running, .quiesced] s && !s.score.lanes.isEmpty

/-- SWAP_LOAD (R518 to R520). Every failure of it leaves `LOADED` clear. Its header is read once its memory answers and has a
turn for it (R301, R320, R322). -/
def execSwapLoad (q : WcpReq) (addr : Nat) (s : State) : Res :=
  let held := decide (addr % 64 = 0) && class2May s false addr 64 && !mayGo s (cmdReq q) addr 64
  let busy (s : State) : Bool := switching s || (runningBg s 0x0902).isSome
  .next (holdRow q 0x0902 addr 64 (fun s => swapStates s && !busy s) held
    (wcpRowWith swapFails q 0x0902 false swapStates busy (fun r s =>
      if addr % 64 ≠ 0 then swapFails s r stMalformed
      else if class2May s false addr 64 = false then swapFails s r stDenied
      else
        let s := readMeets (goOn s (cmdReq q) addr 64) addr 64
        match (badIn s addr 64).head? with
        | some b => swapFails (memUncorr s 2 b) r stMemError
        | none =>
          if swapHeaderBad s addr then swapFails s r stMalformed
          else if memNum s.mem (addr + 0x10) 8 ≠ csrGet s O.scoreBufBytes then swapFails s r stRange
          else if class2May s false addr (64 + csrGet s O.scoreBufBytes) = false then swapFails s r stDenied
          else (deferResp s r addr 0 0).withScore (fun x => { x with loaded := false, loadedVer := 0 }))) s)

/-- Copies a body into the inactive buffer of a lane (R518, R520). -/
def loadLane (buf : WBuf) (body : List Byte) (s : State) (n : Nat) : State :=
  match s.score.lanes[n]? with
  | none => s
  | some l =>
    let at_ := csrGet s (if l.activeB then O.scoreBufA n else O.scoreBufB n) * 256
    setLane (agentWrite s at_ body) n (if l.activeB then { l with bufA := buf } else { l with bufB := buf })

/-- Writes the body to every lane and answers, or fails the load (R520). -/
def finishLoad (s : State) (x : Running) : State :=
  let n := csrGet s O.scoreBufBytes
  let body := memGet s (x.a + 64) n
  let fails (s : State) (st : Nat) : State :=
    endDeferred (s.withScore (fun y => { y with loaded := false, loadedVer := 0 })) x st 0
  if swapStates s = false then fails s stBadState
  else if class2May s false x.a (64 + n) = false then fails s stDenied
  else if mayGo s ⟨.background 0x0902, 4⟩ x.a (64 + n) = false then waitFor s ⟨.background 0x0902, 4⟩ x.a (64 + n)
  else
    let s := readMeets (goOn s ⟨.background 0x0902, 4⟩ x.a (64 + n)) x.a (64 + n)
    match (badIn s x.a (64 + n)).head? with
    | some b => fails (memUncorr s 2 b) stMemError
    | none =>
      if crc32 body ≠ BitVec.ofNat 32 (memNum s.mem (x.a + 0xC) 4) then fails s stMalformed
      else
        let ver := memNum s.mem (x.a + 4) 4
        let buf : WBuf := ⟨ver, BitVec.ofNat 32 (memNum s.mem (x.a + 8) 4)⟩
        let s1 := (List.range s.score.lanes.length).foldl (loadLane buf body) s
        endDeferred (s1.withScore (fun y => { y with loaded := true, loadedVer := ver })) x stOk 0 (leBytes 4 ver)

/-- SWAP_LOAD_DONE (R520). -/
def execSwapLoadDone (s : State) : Res :=
  .next (match runningBg s 0x0902 with
    | some x => finishLoad s x
    | none => s)

/-- SWAP_PUBLISH (R519, R521): idle lanes switch at once, serving ones at their next request boundary. -/
def execSwapPublish (q : WcpReq) (version : Nat) (s : State) : Res :=
  .next (wcpRow q 0x0903 false (fun s => inStates [.running, .quiesced] s && s.score.loaded) switching (fun r s =>
    if version ≠ s.score.loadedVer then respond s r stRange
    else swapDone ((deferResp s r 0 0 0).withScore (fun x => { x with
      lanes := x.lanes.map (fun l => if l.serving then { l with switch := true } else l.switchBuf) }))) s)

end Sys2Proof.Machine
end

