-- ==== Sys2Proof/Machine/Steering.lean ====
section
/-! DEFINITION. The meanings of the step-boundary commands (R146 to R193, R243, R343, R357, R358) and of the
ready gate (R210 to R221). -/

namespace Sys2Proof.Machine

/-- Changes the state of precision steering. -/
def State.withPru (s : State) (f : PruSt → PruSt) : State := { s with pru := f s.pru }

/-! ### Record close -/

/-- The valid entries of the active table. -/
def validEntries (s : State) : List (Nat × RuleEntry) := s.pru.active.filter (fun e => e.2.valid)

/-- What one core has observed of an entry, with its spot checks in flight as abandoned (R158). -/
def coreObs (k : Core) (n : Nat) : Option StatObs :=
  let late := (k.spots.filter (fun x => decide (x.entry = n))).length
  match tget? k.obs n with
  | some o => some { o with spotAbandoned := satAdd o.spotAbandoned late 0xFFFFFFFF }
  | none => if late = 0 then none else some { StatObs.zero with spotAbandoned := late }

/-- Two taps merged (R160). -/
def StatObs.merge (a b : StatObs) : StatObs :=
  let sat (x y : Nat) : Nat := satAdd x y 0xFFFFFFFF
  { tiles := a.tiles + b.tiles
    hist := (List.range 32).map (fun i => a.hist.getD i 0 + b.hist.getD i 0)
    blocks := a.blocks + b.blocks
    zeroBlocks := a.zeroBlocks + b.zeroBlocks
    pruned := a.pruned + b.pruned
    footOvf := sat a.footOvf b.footOvf
    replays := sat a.replays b.replays
    exhausted := sat a.exhausted b.exhausted
    nanInf := sat a.nanInf b.nanInf
    resSq := f32Add a.resSq b.resSq
    sigSq := f32Add a.sigSq b.sigSq
    spotCount := sat a.spotCount b.spotCount
    spotMax := f32MaxRec a.spotMax b.spotMax
    spotSum := f32Add a.spotSum b.spotSum
    spotAbandoned := sat a.spotAbandoned b.spotAbandoned }

/-- The observations of the 256 taps of an entry, in ascending order of core (R160). -/
def tapsOf (s : State) (n : Nat) : StatObs :=
  (s.cores.filterMap (fun e => coreObs e.2 n)).foldl StatObs.merge StatObs.zero

/-- The current variant of an entry in this step, as published. -/
def currentVariant (s : State) (n : Nat) : Nat :=
  tget s.pru.variants n (tget s.pru.active n RuleEntry.zero).cur

/-- The null record of an entry (R152). -/
def nullRecord (s : State) (n : Nat) : StatRec :=
  let d := BitVec.ofNat 32 (csrGet s O.pruDigest)
  { StatRec.zero with entry := n, variant := currentVariant s n, step := s.step, digestMin := d, digestMax := d }

/-- The device's own record of an entry before the mangle's counts (R150 to R152, R158). -/
def ownRecord (s : State) (n : Nat) : StatRec :=
  let o := tapsOf s n
  let stale := tget s.gate.subs n 0
  if s.pru.dropped ∨ (o.tiles = 0 ∧ stale = 0) then nullRecord s n
  else
    { nullRecord s n with
      contrib := 1
      hist := histNormalise o.hist o.blocks
      blocks := o.blocks
      zeroBlocks := o.zeroBlocks
      pruned := o.pruned
      footOvf := o.footOvf
      replays := o.replays
      exhausted := o.exhausted
      nanInf := o.nanInf
      stale := stale
      resSq := o.resSq
      sigSq := o.sigSq
      spotCount := o.spotCount
      spotMax := o.spotMax
      spotSum := o.spotSum
      spotAbandoned := o.spotAbandoned }

/-- The tags whose counts the mangle adds, in ascending order (R358). -/
def wireTags (s : State) (n : Nat) : List Nat :=
  sortBy id (((installed s).filter (fun e => e.2.hasEntry && decide (e.2.entry = n))).map (fun e => e.2.tag))

/-- Adds the mangle's counts of a tag to a record (R358). -/
def addWire (s : State) (r : StatRec) (tag : Nat) : StatRec :=
  let o := tget s.mangle.wire tag StatObs.zero
  let (n, c) := tget s.mangle.wireBlocks tag (0, 0)
  { r with
    wireBlocks := r.wireBlocks + n
    clamped := r.clamped + c
    resSq := f32Add r.resSq o.resSq
    sigSq := f32Add r.sigSq o.sigSq
    nanInf := satAdd r.nanInf o.nanInf 0xFFFFFFFF }

/-- The merged record of an entry. -/
def mergedRecord (s : State) (n : Nat) : StatRec := (wireTags s n).foldl (addWire s) (ownRecord s n)

/-- Whether the device reduces its records: the mangle and group 0 are enabled (R343). -/
def reducesRecords (s : State) : Bool := csrBit s O.mangleCtrl 0 && csrBit s (O.mangleGrpCfg 0) 31

/-- Clears what the taps and the mangle have counted. -/
def clearTaps (s : State) : State :=
  { s with cores := s.cores.map (fun e => (e.1, ({ e.2 with obs := [], spots := [] } : Core)))
           mangle := { s.mangle with wire := [], wireBlocks := [] } }

/-- RECORD_CLOSE (R160, R161, R165, R343): the last step block of the step has completed, and no gate waits. -/
def execRecordClose (s : State) : Res :=
  .next (if s.inStep = false ∨ s.pru.stage ≠ .none ∨ (s.gate.block.isSome ∧ s.gate.decided = false) then s
    else
      let recs := (validEntries s).map (fun e => (e.1, mergedRecord s e.1))
      let own := if reducesRecords s then (if recs.isEmpty then [(0, StatRec.zero)] else recs) else []
      let s1 := clearTaps s
      let s2 : State := { s1 with
        inStep := false
        pru := { s1.pru with stage := .closed, step := s1.step, own := own, reducing := reducesRecords s }
        gate := { s1.gate with block := none, decided := false, pins := [], stale := [], subs := [] } }
      retryFrames (handRecords s2))

/-! ### Evaluation -/

/-- Whether the statistics check of the boundary has failed (R179, R342, R343); none while the records are
still awaited. -/
def statCheck (s : State) : Option Bool :=
  let t := s.pru.step
  if s.pru.reducing = false then some false
  else if s.pru.final.contains t then some true
  else match findInst s 0xFFFF t, descOf s 0xFFFF with
    | some i, some d =>
      if (List.range d.chunks).all (fun k => tget? i.delivered k = some 1) then some false else none
    | _, _ => if s.pru.own.isEmpty then some false else none

/-- The reduced record of an entry at the boundary. -/
def reducedRecord (s : State) (n : Nat) : StatRec := tget s.pru.records (recKey s.pru.step n) StatRec.zero

/-- `scale_update` (R357). -/
def scaleUpdate (cfg : Nat) (d : TagDesc) (r : StatRec) : TagDesc :=
  let set (e calm : Nat) : TagDesc := d.put 13 15 0 (calm * 256 + e)
  if 0 < r.clamped then set (min (d.eG + 1) 255) 0
  else
    let calm := min (d.f 13 15 8 + 1) 255
    let decay := bitsOf cfg 7 0
    if decay ≠ 0 ∧ decay ≤ calm then set (d.eG - 1) 0 else set d.eG calm

/-- The agreed exponent of a descriptor after an update, for a live instance of a step that the update precedes (R341,
R357). -/
def rescale (s : State) (ds : List (Nat × TagDesc)) (i : Inst) : Inst :=
  if i.step ≤ s.pru.step then i
  else match ds.find? (fun e => e.2.valid && decide (e.2.tag = i.tag)) with
    | some e => { i with eG := e.2.eG }
    | none => i

/-- Updates the agreed exponents of the W8 reduction tags that have an entry (R357); an instance of a later step that is
open already takes its bucket's exponent, and one that opens late that of its own step (R341). -/
def updateScales (s : State) : State :=
  let moves (d : TagDesc) : Bool := d.valid && isRed d.op && d.hasEntry && isW8 s d
  let ds := s.mangle.desc.map (fun e =>
    if moves e.2 then (e.1, scaleUpdate (grpCfg s e.2.group) e.2 (reducedRecord s e.2.entry)) else e)
  s.withMangle (fun m => { m with
    desc := ds
    insts := m.insts.map (rescale s ds)
    eGPrev := (s.mangle.desc.filter (fun e => moves e.2)).foldl (fun t e => tset t e.2.tag (s.pru.step, e.2.eG)) m.eGPrev })

/-- Raises a steering event of an entry: the source is the device (log entry 74). -/
def raiseRule (s : State) : RuleEv → State
  | .deferred n => raise s 0x1010 0 1 0 0 [n]
  | .top n => raise s 0x1011 0 1 0 0 [n]
  | .alarm n => raise s 0x1012 0 1 0 0 [n]

/-- The payload of RECIPE_ALARM: the entries with their layer, pass and cause. -/
def alarmBody (s : State) (evs : List RuleEv) : List Byte :=
  let ns := evs.filterMap (fun e => match e with
    | .alarm n => some n
    | _ => none)
  leBytes 4 ns.length ++ ns.flatMap (fun n =>
    let e := tget s.pru.active n RuleEntry.zero
    leBytes 2 n ++ leBytes 2 e.layer ++ leBytes 1 e.pass ++ leBytes 1 (b2n (evs.contains (.top n))) ++ leBytes 2 0)

/-- Sorts an association list into a table. -/
def tableOf {α : Type} (l : List (Nat × α)) : Tbl α := l.foldl (fun t e => tset t e.1 e.2) []

/-- Runs `evaluate` past its guards (R179). -/
def runEvaluate (s : State) : State :=
  let recs := (validEntries s).map (fun e => (e.1, reducedRecord s e.1))
  let r := evaluateRules (csrGet s O.pruBudget) (csrBits s O.pruAlarmSteps 7 0) s.pru.active s.pru.rstate recs
  let alarms := r.events.filter (fun e => match e with
    | .alarm _ => true
    | _ => false)
  let s1 := s.withPru (fun p => { p with active := tableOf r.entries, rstate := tableOf r.states })
  let s2 := bump (bump (bump (bump (bump s1 O.pruCntWiden r.widened) O.pruCntNarrow r.narrowed)
    O.pruCntDefer r.nDeferred) O.pruCntTop r.nTop) O.pruCntAlarm alarms.length
  let s3 := csrPut (csrPut s2 O.pruLastA (r.narrowed * 2 ^ 16 + r.widened)) O.pruLastB (r.nTop * 2 ^ 16 + r.nDeferred)
  let s4 := r.events.foldl raiseRule s3
  let s5 := if alarms.isEmpty then s4 else notifyGroup s4 0x0A04 (alarmBody s4 r.events)
  csrPut s5 O.pruStatus 1

/-- The digests of the reduced records of the valid entries: smallest and largest. -/
def digestSpan (s : State) : Option (BitVec 32 × BitVec 32) :=
  (validEntries s).foldl (fun m e =>
    let r := reducedRecord s e.1
    match m with
    | none => some (r.digestMin, r.digestMax)
    | some (a, b) => some (if r.digestMin.ult a then r.digestMin else a, if b.ult r.digestMax then r.digestMax else b)) none

/-- The evaluation of records whose check has passed. RULE_DIVERGED names the device, with the two digests as items
(log entry 74). -/
def evaluatePassed (s : State) : State :=
  let s1 := updateScales s
  if !csrBit s1 O.pruCtrl 0 then csrPut s1 O.pruStatus 0
  else match digestSpan s1 with
    | none => runEvaluate s1
    | some (a, b) =>
      if a = b then runEvaluate s1
      else
        let s2 := csrPut (raise s1 0x1013 0 1 0 0) O.pruStatus 4
        notifyGroup s2 0x0A05 (leBytes 4 s.pru.step ++ leBytes 4 a.toNat ++ leBytes 4 b.toNat ++
          leBytes 4 (csrGet s2 O.pruDigest))

/-- EVALUATION (R164, R165, R175 to R180, R357): no change while the reduced records are still awaited. -/
def execEvaluation (s : State) : Res :=
  .next (if s.pru.stage ≠ .closed then s
    else match statCheck s with
      | none => s
      | some ok =>
        let s1 := if ok then evaluatePassed s else csrPut (raise s 0x1014 0 1 0 0) O.pruStatus 2
        (csrPut s1 O.pruEvalStep s.pru.step).withPru (fun p =>
          { p with stage := .evaluated, final := p.final.filter (fun n => decide (s.pru.step < n)) }))

/-! ### Installation and publication -/

/-- Whether the pending entries install at this boundary (R165, R170). -/
def installsNow (s : State) : Bool := csrGet s O.pruApplyStep = s.pru.step + 1

/-- The pending entries that are not among those refused. -/
def goodPending (s : State) (bad : List Nat) : List (Nat × RuleEntry) :=
  s.pru.pending.filter (fun p => !bad.contains p.1)

/-- The table as it would stand with the pending entries that are not among those refused (R170). -/
def trialTable (s : State) (bad : List Nat) : List (Nat × RuleEntry) :=
  goodPending s bad ++ s.pru.active.filter (fun p => ((goodPending s bad).map Prod.fst).contains p.1 = false)

/-- The refused entries and those that share a layer and a pass with another of the table as it would stand. -/
def alsoRefused (s : State) (bad : List Nat) : List Nat :=
  bad ++ ((goodPending s bad).filter (fun p =>
    (trialTable s bad).any (fun q => decide (q.1 ≠ p.1) && p.2.clashes q.2))).map Prod.fst

/-- The pending entries that break R169 (R171): those that break it alone, then those that break it beside the entries that
would be installed with them (log entry 58). -/
def refusedPending (s : State) : List Nat :=
  (List.range s.pru.pending.length).foldl (fun bad _ => alsoRefused s bad)
    ((s.pru.pending.filter (fun p => !p.2.ok)).map Prod.fst)

/-- Whether a pending entry may be installed (R169, R171). -/
def mayInstall (s : State) (n : Nat) (e : RuleEntry) : Bool := e.ok && !(refusedPending s).contains n

/-- Installs one pending entry, or discards it with RULE_REFUSED, of which the entry is the item (R170 to R172, R190; log
entry 74). -/
def installEntry (all : State) (s : State) (p : Nat × RuleEntry) : State :=
  if mayInstall all p.1 p.2 then
    s.withPru (fun q => { q with
      active := tset q.active p.1 p.2
      rstate := tset q.rstate p.1 RuleState.zero })
  else
    let n := csrBits s O.pruPending 28 16
    raise (csrPutBits s O.pruPending 28 16 (min (n + 1) 0x1FFF)) 0x1015 0 1 0 0

/-- The layers whose forward entry has `EF` set. -/
def efLayers (s : State) : List Nat :=
  ((validEntries s).filter (fun e => decide (e.2.pass = 0) && e.2.ef)).map (fun e => e.2.layer)

/-- The layers whose forward entry an installation has left without `EF` (R190). -/
def efCleared (before s : State) : List Nat :=
  (efLayers before).filter (fun l => (validEntries s).any (fun e => decide (e.2.pass = 0) && decide (e.2.layer = l) && !e.2.ef))

/-- PENDING_INSTALL (R165, R170 to R173). -/
def execPendingInstall (s : State) : Res :=
  .next (if s.pru.stage = .evaluated ∧ installsNow s then
      let s0 := s.pru.pending.foldl (installEntry s) s
      let s1 := markLayers s0 (efCleared s s0)
      (csrPut s1 O.pruApplyStep 0xFFFFFFFF).withPru (fun p => { p with pending := [], stage := .installed })
    else s)

/-- The partner of a rank that joins at the step after the boundary sends FILL_META again (R412). -/
def sendJoinMeta (s : State) : State :=
  match s.mend.table with
  | none => s
  | some t => (s.mend.joins.filter (fun j => decide (j.2 = s.pru.step + 1) && decide (j.1 ≠ t.self) &&
      decide ((memOf t j.1).partner = t.self))).foldl (fun s j => sendMeta s j.1) s

/-- Publishes the current variants and computes the digest (R165, R174). -/
def publishVariants (s : State) : State :=
  csrPut (s.withPru (fun p => { p with
    variants := tableOf ((validEntries s).map (fun e => (e.1, e.2.cur)))
    layerVar := layerVariants s.pru.active }))
    O.pruDigest (ruleDigest s.pru.active).toNat

/-- VARIANT_PUBLICATION (R165, R174, R190, R412). -/
def execVariantPublication (s : State) : Res :=
  .next (if (s.pru.stage = .evaluated ∧ installsNow s = false) ∨ s.pru.stage = .installed then
      let s1 := markLayers s (variantsMoved s.pru.layerVar s.pru.active)
      sendJoinMeta ((publishVariants s1).withPru (fun p => { p with stage := .published }))
    else s)

/-- What an engine and a station count by step begins again. -/
def newStepCore (k : Core) : Core :=
  { k with
    engines := k.engines.map (fun e => (e.1, { e.2 with tileCount := [], replays := [] }))
    stations := k.stations.map (fun e => (e.1, { e.2 with made := [] })) }

/-- The step that a running QUIESCE names (R243). -/
def quiesceStep (s : State) : Option Nat := (runningBg s 0x0302).map (·.a)

/-- Whether a QUIESCE command takes effect at the boundary in progress. -/
def quiescesNow (s : State) : Bool :=
  match quiesceStep s with
  | some n => decide (n ≤ s.pru.step + 1)
  | none => false

/-- Begins step `t`. -/
def beginStep (s : State) (t : Nat) : State :=
  let cs := coresOfClass s 1
  let s1 : State := { s with
    step := t
    inStep := true
    cores := s.cores.map (fun e => (e.1, if cs.contains e.1 then newStepCore e.2 else e.2))
    pru := { s.pru with
      stage := .none
      dropped := false
      restart := false
      droppedAt := (if s.pru.dropped then [s.pru.step] else []) ++ s.pru.droppedAt }
    gate := { s.gate with block := none, decided := false, pos := 0, miss := false, done := [], subs := [] }
    err := { s.err with hang := false } }
  if s.pru.restart then cs.foldl startCore s1 else s1

/-- STEP_START (R166, R252, R263, R527): the first step block of the next step starts. -/
def execStepStart (s : State) : Res :=
  .next (if s.dev = .running ∧ s.pru.stage = .published ∧ s.mend.lost = false ∧ quiescesNow s = false then
      beginStep s (s.pru.step + 1)
    else s)

/-- QUIESCE_ENTER (R243): publication has ended at the named boundary, or no class-1 step is under way, and
no bucket is live. -/
def execQuiesceEnter (s : State) : Res :=
  .next (if s.dev = .running ∧ s.mangle.insts.isEmpty ∧
      ((s.pru.stage = .published ∧ quiescesNow s) ∨
       (s.inStep = false ∧ s.pru.stage = .none ∧ (quiesceStep s).isSome)) then
      endBg (setDev s .quiesced) 0x0302 stOk 0
    else s)

/-! ### The ready gate -/

/-- GATE_DECIDE (R216, R217): the first cluster has completed the predecessor block. After a DROP, no
further block of the step runs (R221). -/
def execGateDecide (block : Nat) (s : State) : Res :=
  .next (if s.inStep = false ∨ s.pru.dropped ∨ s.gate.done.contains block ∨ (gateBlocks s).length ≤ block ∨
      (s.gate.block.isSome ∧ s.gate.decided = false ∧ s.gate.block ≠ some block) then s
    else
      let s1 := if s.gate.block = some block ∧ s.gate.decided = false then s
        else s.withGate (fun g => { g with block := some block, decided := false, pos := 0, miss := false })
      gateAgain s1 false)

/-- GATE_WAIT_EXPIRE (R217). -/
def execGateWaitExpire (s : State) : Res := .next (gateAgain s true)

/-- BLOCK_END (R211, R311): the block's pins end, and writes that waited for them go on. -/
def execBlockEnd (block : Nat) (s : State) : Res :=
  .next (if s.gate.decided = false ∧ s.gate.block = some block then s
    else
      let s1 := s.withGate (fun g => { g with
        block := if g.block = some block then none else g.block
        decided := if g.block = some block then false else g.decided
        pins := g.pins.filter (fun p => decide (p.1 ≠ block))
        stale := g.stale.filter (fun p => decide (p.1 ≠ block)) })
      retryFrames s1)

end Sys2Proof.Machine
end

