-- ==== Sys2Proof/Machine/Wcp.lean ====
section
/-! DEFINITION. The meanings of the WCP transport and session rows, and of the register and job commands
(R481 to R495). -/

namespace Sys2Proof.Machine

/-! ### Transport -/

/-- Whether a fragment belongs to a message under reassembly. -/
def Reasm.takes (m : Reasm) (d : Datagram) : Bool :=
  decide (m.seq = d.seq) && decide (m.opcode = d.opcode) && decide (m.msgLen = d.msgLen) && decide (m.count = d.count)

/-- A message with one more fragment. -/
def Reasm.add (m : Reasm) (d : Datagram) : Reasm :=
  if m.parts.any (fun x => decide (x.1 = d.frag)) then m else { m with parts := m.parts ++ [(d.frag, d.length)] }

/-- Whether every fragment has come. -/
def Reasm.whole (m : Reasm) : Bool := (List.range m.count).all (fun i => m.parts.any (fun x => decide (x.1 = i)))

/-- One more fragment among the messages under reassembly, at most four at once (R483): the messages that
stay, and whether one is now whole. -/
def reassemble (ms : List Reasm) (d : Datagram) : List Reasm × Bool :=
  match ms.find? (fun m => m.takes d) with
  | some m =>
    let m1 := m.add d
    if m1.whole then (ms.filter (fun x => !x.takes d), true)
    else (ms.map (fun x => if x.takes d then m1 else x), false)
  | none =>
    if 4 ≤ ms.length ∨ ms.any (fun m => decide (m.seq = d.seq)) then (ms, false)
    else (ms ++ [(Reasm.mk d.seq d.opcode d.msgLen d.count []).add d], false)

/-- A fragment of a message (R483). -/
def fragmentRx (s : State) (d : Datagram) : State :=
  let r : Request := ⟨d.session, d.seq, d.opcode, d.bind⟩
  match findSession s d.session with
  | some x =>
    let (ms, whole) := reassemble x.reasm d
    let s1 := setSession s { x with reasm := ms }
    if whole then takeRequest s1 r else s1
  | none =>
    let mine := (s.wcp.reasm0.filter (fun e => decide (e.1 = d.bind))).map (·.2)
    let (ms, whole) := reassemble mine d
    let s1 := s.withWcp (fun w => { w with
      reasm0 := w.reasm0.filter (fun e => decide (e.1 ≠ d.bind)) ++ ms.map (fun m => (d.bind, m)) })
    if whole then takeRequest s1 r else s1

/-- The header of a datagram as it came (Table 3). -/
def datagramHeader (d : Datagram) : List Byte :=
  wcpHeader d.flags d.opcode d.status d.session d.seq d.length d.frag d.count d.msgLen

/-- The key of the traffic from the host of a session: 32 zero bytes outside any session (R482). -/
def receiveKey (s : State) (session : Nat) : List Byte :=
  match findSession s session with
  | some x => x.keyIn
  | none => List.replicate 32 0#8

/-- Whether the tag of a datagram holds (R482). -/
def tagHolds (s : State) (d : Datagram) : Bool := decide (d.tag = wcpTag (receiveKey s d.session) (datagramHeader d ++ d.payload))

/-- Whether a datagram is discarded and counted in `CNT_BAD_TAG` (R482). -/
def badDatagram (s : State) (d : Datagram) : Bool :=
  decide (d.magic ≠ 0x5743) || decide (d.version ≠ 1) || !tagHolds s d ||
  (decide (d.session = 0) && !sessionless d.opcode) || (decide (d.session ≠ 0) && (findSession s d.session).isNone)

/-- Whether a datagram is laid out as a request's (R481): no flag, status or reserved bit set, the lengths those of its payload
and of a message, and its place one of the fragments. -/
def datagramFits (d : Datagram) : Bool :=
  decide (d.flags = 0) && decide (d.status = 0) && decide (d.rsv = 0) && decide (d.length = d.payload.length) &&
  decide (d.msgLen ≤ 65536) && decide (1 ≤ d.count) && decide (d.count ≤ 256) && decide (d.frag < d.count) &&
  (decide (d.count ≠ 1) || decide (d.msgLen = d.length))

/-- WCP_DATAGRAM_RX (R481 to R485, R489, R492). -/
def execWcpDatagramRx (d : Datagram) (s : State) : Res :=
  .next (if portUpNow s d.bind.port = false then s
    else if badDatagram s d then bump s O.ethCntBadTag
    else if datagramFits d = false ∨ d.count = 1 then takeRequestIf (datagramFits d) s ⟨d.session, d.seq, d.opcode, d.bind⟩
    else fragmentRx s d)

/-- FRAG_TIMEOUT (R483): 10 ms after its first fragment. -/
def execFragTimeout (session seq : Nat) (s : State) : Res :=
  let late (m : Reasm) : Bool := decide (m.seq = seq)
  .next (if session = 0 then
      let n := (s.wcp.reasm0.filter (fun e => late e.2)).length
      if n = 0 then s
      else bump (s.withWcp (fun w => { w with reasm0 := w.reasm0.filter (fun e => !late e.2) })) O.ethCntFragDrop n
    else match findSession s session with
      | some x =>
        if x.reasm.any late then bump (setSession s { x with reasm := x.reasm.filter (fun m => !late m) }) O.ethCntFragDrop
        else s
      | none => s)

/-- SESSION_IDLE_TIMEOUT (R488). -/
def execSessionIdleTimeout (session : Nat) (s : State) : Res := .next (closeSession s session 1)

/-- NOTIFY_RESEND (R497). -/
def execNotifyResend (session : Nat) (s : State) : Res :=
  .next (match findSession s session with
    | some x => match x.notes.head? with
      | some n => s.emit (.notify x.bind x.id n)
      | none => s
    | none => s)

/-! ### Sessions -/

/-- HELLO (R486, R495). -/
def execHello (q : WcpReq) (s : State) : Res :=
  .next (wcpRow q 0x0001 false inAny neverBusy (fun r s =>
    let n := Config.nonce s.freeCtr
    let s1 := s.useFree.withWcp (fun w => { w with nonces := w.nonces ++ [⟨n, s.cycle⟩] })
    respond s1 r stOk 0 (digestBytes n ++ digestBytes Config.identity ++ leBytes 4 romLevel)) s)

/-- CERTS (R495, R587): the chain's length and up to 8,192 bytes of it. -/
def execCerts (q : WcpReq) (off : Nat) (s : State) : Res :=
  .next (wcpRow q 0x0002 false inAny neverBusy (fun r s =>
    respond s r stOk 0 (leBytes 4 Config.certChain.length ++ (Config.certChain.drop off).take 8192)) s)

/-- Whether a device nonce is current: 10 s of REFCLK_MAIN cycles (R486). -/
def nonceCurrent (s : State) (n : BitVec 256) : Bool :=
  s.wcp.nonces.any (fun x => decide (x.nonce = n) && decide (s.cycle ≤ x.at_ + 1000000000))

/-- Whether a host key may open a session: an authorised one, or any before the owner fuse is programmed (R487,
R592). -/
def hostKeyOk (s : State) (k : BitVec 256) : Bool :=
  s.sec.owner.isNone || s.sec.keys.any (fun e => decide (e.role = 1) && decide (e.digest = k))

/-- The next session identifier; 0 names no session. -/
def nextSession (s : State) : Nat := if s.wcp.lastId + 1 < 2 ^ 32 then s.wcp.lastId + 1 else 1

/-- A refused OPEN (R487): the record holds the status as its cause. -/
def refuseOpen (s : State) (r : Request) (status : Nat) : State :=
  let s1 := raise s 0x8002 0 3 6 r.bind.port [status]
  respond (if status = stAuth then bump s1 O.secCntAuthFail else s1) r status

/-- The payload of an OPEN request up to its signature, and whole (Table 4). -/
def openSigned (o : OpenArgs) : List Byte :=
  digestBytes o.nonce ++ digestBytes o.hostNonce ++ digestBytes o.hostKey ++ leBytes 4 (b2n o.noNotify) ++ o.kemKey

/-- The payload of an OPEN request (Table 4). -/
def openPayload (o : OpenArgs) : List Byte := openSigned o ++ o.sig

/-- The response of an OPEN before its signature (Table 4): the session and the ML-KEM ciphertext. -/
def openHead (id draw : Nat) (o : OpenArgs) : List Byte :=
  leBytes 4 id ++ List.replicate 28 0#8 ++ Config.kemCipher draw o.kemKey

/-- The response of an OPEN with the device's signature over it and the digest of the request (Table 4). -/
def openBody (id draw : Nat) (o : OpenArgs) : List Byte :=
  openHead id draw o ++
    Config.signature (asciiBytes "WCP1-ACCEPT" ++ digestBytes (Config.shake256 (openPayload o)) ++ openHead id draw o)

/-- The 64 bytes of the keys of a session (R487): the first half for the traffic from the host, the second for that to it. -/
def openKeys (id draw : Nat) (o : OpenArgs) : List Byte :=
  msbBytes 64 (Config.kmac256 (Config.kemSecret draw o.kemKey)
    (digestBytes (Config.shake256 (openPayload o)) ++ openHead id draw o) (asciiBytes "WCP1-KEYS") 512).toNat

/-- OPEN (R485 to R487, R592). The nonce is used up whatever the answer. -/
def execWcpOpen (q : WcpReq) (o : OpenArgs) (s : State) : Res :=
  .next (wcpRow q 0x0003 false inAny neverBusy (fun r s =>
    let current := nonceCurrent s o.nonce
    let s1 := s.withWcp (fun w => { w with nonces := w.nonces.filter (fun x => decide (x.nonce ≠ o.nonce)) })
    if !current || !hostKeyOk s1 o.hostKey || !o.sigOk then refuseOpen s1 r stAuth
    else match (List.range 8).find? (fun n => !s1.wcp.sessions.any (fun x => decide (x.slot = n))) with
      | none => refuseOpen s1 r stNoResource
      | some slot =>
        let id := nextSession s1
        let x : Session :=
          { id := id, slot := slot, bind := r.bind, hostKey := o.hostKey, keyIn := (openKeys id s1.freeCtr o).take 32,
            keyOut := (openKeys id s1.freeCtr o).drop 32, unowned := s1.sec.owner.isNone, noNotify := o.noNotify, highest := 0, accepted := [], cache := [], noteNum := 0, notes := [], lost := 0,
            reasm := [] }
        let s2 := s1.useFree.withWcp (fun w => { w with sessions := w.sessions ++ [x], lastId := id })
        let s3 := raise s2 0x8001 0 3 6 r.bind.port
          [id, digestWord o.hostKey 0, digestWord o.hostKey 1, digestWord o.hostKey 2]
        respond s3 r stOk 0 (openBody id s1.freeCtr o)) s)

/-- CLOSE (R488): the session closes after the response. -/
def execWcpClose (q : WcpReq) (s : State) : Res :=
  .next (wcpRow q 0x0004 false inAny neverBusy (fun r s => closeSession (respond s r stOk) r.session 0) s)

/-- The response of IDENTIFY (Table 6). -/
def identifyBody (s : State) : List Byte :=
  let w (off : Nat) : List Byte := leBytes 4 (csrValue s off)
  w O.globalId ++ w O.globalArch ++ (List.range 11).flatMap (fun i => w (O.globalImplEngines + 4 * i)) ++
  leBytes 1 60 ++ leBytes 1 58 ++ leBytes 1 4 ++ leBytes 1 32 ++ w O.globalBoardTag ++ leBytes 4 romLevel ++
  digestBytes Config.identity ++ leBytes 4 (macOctets 0 0 4) ++ leBytes 2 (macOctets 0 4 2) ++ leBytes 2 0 ++
  w O.globalState ++ List.replicate 20 0#8

/-- IDENTIFY (R495, Table 6). -/
def execIdentify (q : WcpReq) (s : State) : Res :=
  .next (wcpRow q 0x0005 false inAny neverBusy (fun r s => respond s r stOk 0 (identifyBody s)) s)

/-- PING (R495): up to 1,024 bytes. -/
def execPing (q : WcpReq) (bytes : List Byte) (s : State) : Res :=
  .next (wcpRow q 0x0007 false inAny neverBusy (fun r s =>
    if 1024 < bytes.length then respond s r stMalformed else respond s r stOk 0 bytes) s)

/-- NOTIFY_ACK (R497): no response is sent, whatever the request. -/
def execNotifyAck (q : WcpReq) (upTo : Nat) (s : State) : Res :=
  .next (wcpRow { q with ok := true } 0x0008 false inAny neverBusy (fun r s =>
    match findSession s r.session with
    | some x => if q.ok then setSession s { x with notes := x.notes.filter (fun n => decide (upTo < n.num)) } else s
    | none => s) s)

/-! ### Registers -/

/-- The reader of a request's session (R38). -/
def readerOf (s : State) (r : Request) : Nat := sessionReader (((findSession s r.session).map (·.slot)).getD 0)

/-- Reads registers in order. -/
def readRegs (reader : Nat) : List Nat → State → State × List Byte
  | [], s => (s, [])
  | off :: rest, s =>
    let (s1, v) := csrRead s reader off
    let (s2, bs) := readRegs reader rest s1
    (s2, leBytes 4 v ++ bs)

/-- The index of the first offset that is no multiple of 4. -/
def misaligned (offs : List Nat) : Option Nat := offs.findIdx? (fun o => decide (o % 4 ≠ 0))

/-- Reads registers and answers their values. -/
def answerRegs (r : Request) (offs : List Nat) (s : State) : State :=
  match misaligned offs with
  | some i => respond s r stMalformed i
  | none =>
    let (s1, bs) := readRegs (readerOf s r) offs s
    respond s1 r stOk 0 bs

/-- REG_READ (R491, R495). -/
def execRegRead (q : WcpReq) (offs : List Nat) (s : State) : Res :=
  .next (wcpRow q 0x0501 false inAny neverBusy (fun r s =>
    if offs.length = 0 ∨ 64 < offs.length then respond s r stRange else answerRegs r offs s) s)

/-- Writes registers in order until one fails, with the status and the index of that one (R493). -/
def writeRegs : List (Nat × BitVec 32) → Nat → State → State × Nat × Nat
  | [], _, s => (s, stOk, 0)
  | (off, v) :: rest, i, s =>
    if off % 4 ≠ 0 then (s, stMalformed, i)
    else
      let (s1, st) := csrWrite s off v
      if st = stOk then writeRegs rest (i + 1) s1 else (s1, st, i)

/-- REG_WRITE (R493, R495). -/
def execRegWrite (q : WcpReq) (items : List (Nat × BitVec 32)) (s : State) : Res :=
  .next (wcpRow q 0x0502 false notFenced neverBusy (fun r s =>
    let (s1, st, i) := writeRegs items 0 s
    respond s1 r st i) s)

/-- REG_READ_SEQ (R495). -/
def execRegReadSeq (q : WcpReq) (first count : Nat) (s : State) : Res :=
  .next (wcpRow q 0x0503 false inAny neverBusy (fun r s =>
    if count = 0 ∨ 1024 < count then respond s r stRange
    else answerRegs r ((List.range count).map (fun i => first + 4 * i)) s) s)

/-! ### Job and group -/

/-- JOB_STATUS (R495). -/
def execJobStatus (q : WcpReq) (s : State) : Res :=
  .next (wcpRow q 0x0301 false inAny neverBusy (fun r s =>
    respond s r stOk 0 (leBytes 4 (csrValue s O.globalState) ++ leBytes 4 s.step ++ leBytes 4 (epochOf s) ++ leBytes 2 (selfRank s) ++
      leBytes 2 0)) s)

/-- The step before whose boundary a QUIESCE takes effect (R243). -/
def quiesceAt (s : State) (step : Nat) : Nat := if step ≤ begunTo s then begunTo s + 1 else step

/-- QUIESCE (R243, R490). -/
def execQuiesce (q : WcpReq) (step : Nat) (s : State) : Res :=
  .next (wcpRow q 0x0302 false (inStates [.running]) (busyWith [0x0302]) (fun r s =>
    startBg s r (quiesceAt s step) 0 0) s)

/-- RESUME (R418, R495): refused while the shard of a rank is lost. -/
def execResume (q : WcpReq) (s : State) : Res :=
  .next (wcpRow q 0x0303 false (fun s => inStates [.quiesced] s && !s.mend.lost && decide (s.act = .none)) neverBusy (fun r s =>
    respond (setDev s .running) r stOk) s)

/-- GROUP_STATUS (R495). -/
def execGroupStatus (q : WcpReq) (s : State) : Res :=
  .next (wcpRow q 0x0601 false inAny neverBusy (fun r s =>
    respond s r stOk 0 ([O.groupStatus, O.groupEpoch, O.groupKeeper, O.groupLive, O.groupReady].flatMap (fun o =>
      leBytes 4 (csrValue s o)))) s)

/-- Accepted in any state with a live table other than FENCED. -/
def withLive (s : State) : Bool := notFenced s && s.mend.table.isSome

/-- Reports a member as failed (R496, R645). -/
def markMember (t : GroupT) (rank : Nat) (r : Request) (s : State) : State :=
  if t.ranks + t.spares ≤ rank then respond s r stRange
  else if !notFailed t rank then respond s r stOk
  else if t.keeper = t.self then respond (runKeeperFail s rank) r stOk
  else match lowestLiveBut t rank with
    | some k =>
      if k = t.self then respond (runKeeperFail s rank) r stOk
      else
        let s1 := (deferResp s r rank 0 0).withMend (fun m => { m with marks := m.marks ++ [(rank, r.session, r.seq)] })
        sendMend s1 k { mendHdr s1 2 rank 0 with marked := true }
    | none => deferResp s r rank 0 0

/-- MARK_FAILED (R496, R645). -/
def execMarkFailed (q : WcpReq) (rank : Nat) (s : State) : Res :=
  .next (wcpRow q 0x0602 false withLive neverBusy (fun r s =>
    match s.mend.table with
    | some t => markMember t rank r s
    | none => s) s)

/-- ADD_SPARE (R496): the keeper probes a GONE standby rank; the response waits for the answer. -/
def execAddSpare (q : WcpReq) (rank : Nat) (s : State) : Res :=
  .next (wcpRow q 0x0603 false withLive neverBusy (fun r s =>
    match s.mend.table with
    | none => s
    | some t =>
      if t.ranks + t.spares ≤ rank then respond s r stRange
      else if t.keeper ≠ t.self then respond s r stNotKeeper t.keeper
      else if (memOf t rank).st ≠ .gone then respond s r stBadState
      else probeRank (deferResp s r rank 0 0) rank) s)

/-- GROUP_RELEASE (R384, R418). -/
def execGroupRelease (q : WcpReq) (s : State) : Res :=
  .next (wcpRow q 0x0604 false mayRelease neverBusy (fun r s => respond (releaseGroup s) r stOk) s)

/-- Whether a field of a route entry names a link, this device or none (R448). -/
def routeField (v : Nat) : Bool := v < 24 || v = 0xFE || v = 0xFF

/-- Writes route entries in order until one fails (R448, R493). -/
def writeRoutes (first : Nat) : List (BitVec 32) → Nat → State → State × Nat × Nat
  | [], _, s => (s, stOk, 0)
  | e :: rest, i, s =>
    let v := e.toNat
    if v / 65536 ≠ 0 then (s, stMalformed, i)
    else if 16384 ≤ first + i ∨ !routeField (v % 256) ∨ !routeField (v / 256) then (s, stRange, i)
    else writeRoutes first rest (i + 1) { s with routes := tset s.routes (first + i) (v % 256, v / 256) }

/-- ROUTE_SET (R448, R493). -/
def execRouteSet (q : WcpReq) (first : Nat) (entries : List (BitVec 32)) (s : State) : Res :=
  .next (wcpRow q 0x0605 false notFenced neverBusy (fun r s =>
    if entries.length = 0 ∨ 1024 < entries.length then respond s r stRange
    else
      let (s1, st, i) := writeRoutes first entries 0 s
      respond s1 r st i) s)

/-! ### Memory, windows and queue pairs -/

/-- Whether class-2 transfers hold (R572). -/
def class2Holds (s : State) : Bool := decide (0 < s.power.level)

/-- The row of a memory transfer: while class-2 transfers hold, or its memory does not answer or gives it no turn, the
request waits in the queue (R301, R317, R320, R572). -/
def memRow (q : WcpReq) (op a n : Nat) (write : Bool) (run : Request → State → State) (s : State) : State :=
  let held := class2May s write a n && !mayGo s (cmdReq q) a n
  if (class2Holds s || held) && notFenced s && decide (s.dev ≠ .boot) then
    let r : Request := ⟨q.session, q.seq, op, q.bind⟩
    let s1 := if s.wcp.queue.any (sameReq r) then s else takeRequest s r
    if held then waitFor s1 (cmdReq q) a n else s1
  else wcpRow q op false notFenced neverBusy (fun r s =>
    run r (if class2May s write a n = false then s
      else if write then goOn s (cmdReq q) a n else readMeets (goOn s (cmdReq q) a n) a n)) s

/-- MEM_READ (R300, R327, R495). -/
def execMemRead (q : WcpReq) (addr len : Nat) (s : State) : Res :=
  .next (memRow q 0x0401 addr len false (fun r s =>
    if addr % 8 ≠ 0 ∨ len % 8 ≠ 0 ∨ 65024 < len then respond s r stMalformed
    else if class2May s false addr len = false then respond s r stDenied
    else match (sortBy id (badIn s addr len)).head? with
      | some b => respond (memUncorr s 2 b) r stMemError
      | none => respond s r stOk 0 (memGet s addr len)) s)

/-- MEM_WRITE (R300, R495). -/
def execMemWrite (q : WcpReq) (addr : Nat) (bytes : List Byte) (s : State) : Res :=
  .next (memRow q 0x0402 addr bytes.length true (fun r s =>
    if addr % 8 ≠ 0 ∨ bytes.length % 8 ≠ 0 then respond s r stMalformed
    else if class2May s true addr bytes.length = false then respond s r stDenied
    else respond (agentWrite s addr bytes) r stOk) s)

/-- MEM_FILL (R300, R495): the response waits for MEM_FILL_DONE. -/
def execMemFill (q : WcpReq) (addr len : Nat) (pattern : BitVec 64) (s : State) : Res :=
  .next (memRow q 0x0403 addr len true (fun r s =>
    if addr % 64 ≠ 0 ∨ len % 64 ≠ 0 then respond s r stMalformed
    else if class2May s true addr len = false then respond s r stDenied
    else deferResp s r addr len pattern.toNat) s)

/-- The bytes of a fill. -/
def fillBytes (len pattern : Nat) : List Byte := (List.replicate (len / 8) (leBytes 8 pattern)).flatten

/-- MEM_FILL_DONE (R300, R495): the oldest fill ends. A page that class 2 no longer reaches takes nothing. -/
def execMemFillDone (s : State) : Res :=
  .next (match runningBg s 0x0403 with
    | none => s
    | some x =>
      if class2Holds s then s
      else if class2May s true x.a x.b ∧ mayGo s ⟨.background 0x0403, 4⟩ x.a x.b = false then
        waitFor s ⟨.background 0x0403, 4⟩ x.a x.b
      else if class2May s true x.a x.b then endDeferred (agentWrite (goOn s ⟨.background 0x0403, 4⟩ x.a x.b) x.a (fillBytes x.b x.c)) x stOk 0
      else endDeferred s x stDenied 0)

/-- The free window index that WIN_OPEN takes (R476): the lowest that is not retired. -/
def freeWindow (s : State) : Option Nat :=
  (List.range 256).find? (fun n => match tget? s.wcp.windows n with
    | some x => x.win.isNone && decide (x.gen < 0xFFFFFF)
    | none => true)

/-- WIN_OPEN (R476). -/
def execWinOpen (q : WcpReq) (base len access : Nat) (s : State) : Res :=
  .next (wcpRow q 0x0404 false notFenced neverBusy (fun r s =>
    if base % 4096 ≠ 0 ∨ len % 4096 ≠ 0 ∨ 4 ≤ access then respond s r stMalformed
    else if len = 0 ∨ 2 ^ 36 < len ∨ access = 0 then respond s r stRange
    else match freeWindow s with
      | none => respond s r stNoResource
      | some n =>
        let gen := ((tget? s.wcp.windows n).map (·.gen)).getD 0 + 1
        let w : WinSlot := ⟨gen, some ⟨base, len, access % 2 = 1, 2 ≤ access, false⟩⟩
        respond (s.withWcp (fun x => { x with windows := tset x.windows n w })) r stOk 0
          (leBytes 4 n ++ leBytes 4 (n * 2 ^ 24 + gen))) s)

/-- The open window of an index. -/
def openWindow? (s : State) (n : Nat) : Option (WinSlot × Window) :=
  (tget? s.wcp.windows n).bind (fun x => x.win.map (fun w => (x, w)))

/-- WIN_CLOSE (R478): later packets fail; the response waits for WIN_CLOSE_DONE. -/
def execWinClose (q : WcpReq) (index : Nat) (s : State) : Res :=
  .next (wcpRow q 0x0405 false notFenced neverBusy (fun r s =>
    if 256 ≤ index then respond s r stRange
    else match openWindow? s index with
      | none => respond s r stBadState
      | some (x, w) =>
        if w.closing then respond s r stBadState
        else deferResp (s.withWcp (fun y => { y with
          windows := tset y.windows index { x with win := some { w with closing := true } } })) r index 0 0) s)

/-- Whether a packet that was accepted against a window still waits for memory (R478). -/
def windowBusy (s : State) (index : Nat) : Bool :=
  s.wcp.qps.any (fun e => e.2.taken.any (fun t => decide (t.rkey / 2 ^ 24 % 256 = index)))

/-- WIN_CLOSE_DONE (R478). -/
def execWinCloseDone (index : Nat) (s : State) : Res :=
  .next (match openWindow? s index with
    | some (x, w) =>
      if w.closing ∧ windowBusy s index = false then
        let s1 := s.withWcp (fun y => { y with windows := tset y.windows index { x with win := none } })
        match s1.wcp.running.find? (fun z => decide (z.req.opcode = 0x0405) && decide (z.a = index)) with
        | some z => endDeferred s1 z stOk 0
        | none => s1
      else s
    | none => s)

/-- QP_OPEN (R475). -/
def execQpOpen (q : WcpReq) (s : State) : Res :=
  .next (wcpRow q 0x0406 false notFenced neverBusy (fun r s =>
    match (List.range 64).find? (fun n => (tget? s.wcp.qps n).isNone) with
    | none => respond s r stNoResource
    | some n => respond (s.withWcp (fun w => { w with qps := tset w.qps n QP.fresh })) r stOk 0 (leBytes 4 n)) s)

/-- The bytes of a path MTU code (R475). -/
def pathMtu (code : Nat) : Option Nat := if 3 ≤ code ∧ code ≤ 5 then some (128 * 2 ^ code) else none

/-- The headers of a RoCEv2 packet within the IP MTU: IP by the remote GID, UDP, BTH, RETH and ICRC. -/
def roceHeaders (gid : Nat) : Nat := (if gid / 2 ^ 32 = 0xFFFF then 20 else 40) + 8 + 12 + 16 + 4

/-- QP_CONNECT (R475). -/
def execQpConnect (q : WcpReq) (qpn : Nat) (a : QpArgs) (s : State) : Res :=
  .next (wcpRow q 0x0407 false notFenced neverBusy (fun r s =>
    match tget? s.wcp.qps qpn, pathMtu a.mtuCode with
    | some x, some mtu =>
      if x.connected then respond s r stBadState
      else if portPresent s a.port = false ∨ 8 ≤ a.pcp ∨ 64 ≤ a.dscp ∨
          csrBits s (O.ethpMtu a.port) 13 0 < mtu + roceHeaders a.gid then respond s r stRange
      else
        let y : QP := { x with connected := true, port := a.port, pcp := a.pcp, dscp := a.dscp, mtu := mtu, gid := a.gid,
                               remoteQpn := a.remoteQpn, sendPsn := a.sendPsn, recvPsn := a.recvPsn }
        respond (s.withWcp (fun w => { w with qps := tset w.qps qpn y })) r stOk
    | _, _ => respond s r stRange) s)

/-- QP_CLOSE (R475). -/
def execQpClose (q : WcpReq) (qpn : Nat) (s : State) : Res :=
  .next (wcpRow q 0x0408 false notFenced neverBusy (fun r s =>
    if (tget? s.wcp.qps qpn).isNone then respond s r stRange
    else respond (s.withWcp (fun w => { w with qps := tdel w.qps qpn })) r stOk) s)

end Sys2Proof.Machine
end

