-- ==== Sys2Proof/Machine/Dispatch.lean ====
section
/-! DEFINITION. The effect of each command: one arm per constructor. -/

namespace Sys2Proof.Machine

/-- The effect of a command on everything but the queue. -/
def exec (i : Instr) (s : State) : Host.Outcome State Fault Refusal :=
  match i with
  | .alu core thread gd ga gb rsv func => Sys2Proof.Machine.execAlu core thread gd ga gb rsv func s
  | .addi core thread gd ga imm => Sys2Proof.Machine.execAddi core thread gd ga imm s
  | .andi core thread gd ga imm => Sys2Proof.Machine.execAndi core thread gd ga imm s
  | .ori core thread gd ga imm => Sys2Proof.Machine.execOri core thread gd ga imm s
  | .xori core thread gd ga imm => Sys2Proof.Machine.execXori core thread gd ga imm s
  | .slti core thread gd ga imm => Sys2Proof.Machine.execSlti core thread gd ga imm s
  | .shifti core thread gd ga imm => Sys2Proof.Machine.execShifti core thread gd ga imm s
  | .lui core thread gd ga imm => Sys2Proof.Machine.execLui core thread gd ga imm s
  | .shori core thread gd ga imm => Sys2Proof.Machine.execShori core thread gd ga imm s
  | .ld core thread gd ga imm => Sys2Proof.Machine.execLd core thread gd ga imm s
  | .lw core thread gd ga imm => Sys2Proof.Machine.execLw core thread gd ga imm s
  | .lwu core thread gd ga imm => Sys2Proof.Machine.execLwu core thread gd ga imm s
  | .lbu core thread gd ga imm => Sys2Proof.Machine.execLbu core thread gd ga imm s
  | .sd core thread gd ga imm => Sys2Proof.Machine.execSd core thread gd ga imm s
  | .sw core thread gd ga imm => Sys2Proof.Machine.execSw core thread gd ga imm s
  | .sb core thread gd ga imm => Sys2Proof.Machine.execSb core thread gd ga imm s
  | .aadd core thread gd ga imm => Sys2Proof.Machine.execAadd core thread gd ga imm s
  | .beq core thread ga gb off => Sys2Proof.Machine.execBeq core thread ga gb off s
  | .bne core thread ga gb off => Sys2Proof.Machine.execBne core thread ga gb off s
  | .blt core thread ga gb off => Sys2Proof.Machine.execBlt core thread ga gb off s
  | .bge core thread ga gb off => Sys2Proof.Machine.execBge core thread ga gb off s
  | .bltu core thread ga gb off => Sys2Proof.Machine.execBltu core thread ga gb off s
  | .bgeu core thread ga gb off => Sys2Proof.Machine.execBgeu core thread ga gb off s
  | .jal core thread gd off => Sys2Proof.Machine.execJal core thread gd off s
  | .jalr core thread gd ga imm => Sys2Proof.Machine.execJalr core thread gd ga imm s
  | .tissue core thread gd ga imm => Sys2Proof.Machine.execTissue core thread gd ga imm s
  | .sissue core thread gd ga imm => Sys2Proof.Machine.execSissue core thread gd ga imm s
  | .twait core thread gd low => Sys2Proof.Machine.execTwait core thread gd low s
  | .tsig core thread gd low => Sys2Proof.Machine.execTsig core thread gd low s
  | .kopen core thread gd ga imm => Sys2Proof.Machine.execKopen core thread gd ga imm s
  | .kclose core thread gd ga imm => Sys2Proof.Machine.execKclose core thread gd ga imm s
  | .fence core thread gd ga imm => Sys2Proof.Machine.execFence core thread gd ga imm s
  | .waitEv core thread gd ga imm => Sys2Proof.Machine.execWaitEv core thread gd ga imm s
  | .csrr core thread gd ga imm => Sys2Proof.Machine.execCsrr core thread gd ga imm s
  | .csrw core thread gd ga imm => Sys2Proof.Machine.execCsrw core thread gd ga imm s
  | .traceOp core thread gd ga imm => Sys2Proof.Machine.execTraceOp core thread gd ga imm s
  | .haltThread core thread gd ga imm => Sys2Proof.Machine.execHaltThread core thread gd ga imm s
  | .branchResolve core thread => Sys2Proof.Machine.execBranchResolve core thread s
  | .threadQuantumExpire core => Sys2Proof.Machine.execThreadQuantumExpire core s
  | .missComplete core thread bad => Sys2Proof.Machine.execMissComplete core thread bad s
  | .twaitSatisfied core thread => Sys2Proof.Machine.execTwaitSatisfied core thread s
  | .fenceComplete core thread => Sys2Proof.Machine.execFenceComplete core thread s
  | .waitWake core thread ev => Sys2Proof.Machine.execWaitWake core thread ev s
  | .stationQueueFree core stn => Sys2Proof.Machine.execStationQueueFree core stn s
  | .coreTimerZero core => Sys2Proof.Machine.execCoreTimerZero core s
  | .stationWorkStart core stn => Sys2Proof.Machine.execStationWorkStart core stn s
  | .stationWorkDone core stn => Sys2Proof.Machine.execStationWorkDone core stn s
  | .tilePlace core stn => Sys2Proof.Machine.execTilePlace core stn s
  | .tileRelease ep => Sys2Proof.Machine.execTileRelease ep s
  | .creditReturn ep => Sys2Proof.Machine.execCreditReturn ep s
  | .stationResetEnd core stn => Sys2Proof.Machine.execStationResetEnd core stn s
  | .arrayStreamStart core eng => Sys2Proof.Machine.execArrayStreamStart core eng s
  | .creaseComplete core eng => Sys2Proof.Machine.execCreaseComplete core eng s
  | .planeLoadStart core eng => Sys2Proof.Machine.execPlaneLoadStart core eng s
  | .planeLoadComplete core eng => Sys2Proof.Machine.execPlaneLoadComplete core eng s
  | .footTileOut core eng => Sys2Proof.Machine.execFootTileOut core eng s
  | .fetchReadIssue core stn => Sys2Proof.Machine.execFetchReadIssue core stn s
  | .storeWrite core stn => Sys2Proof.Machine.execStoreWrite core stn s
  | .spotCheckDone core diff ref arr => Sys2Proof.Machine.execSpotCheckDone core diff ref arr s
  | .recordClose => Sys2Proof.Machine.execRecordClose s
  | .evaluation => Sys2Proof.Machine.execEvaluation s
  | .pendingInstall => Sys2Proof.Machine.execPendingInstall s
  | .variantPublication => Sys2Proof.Machine.execVariantPublication s
  | .stepStart => Sys2Proof.Machine.execStepStart s
  | .quiesceEnter => Sys2Proof.Machine.execQuiesceEnter s
  | .gateDecide block => Sys2Proof.Machine.execGateDecide block s
  | .gateWaitExpire => Sys2Proof.Machine.execGateWaitExpire s
  | .blockEnd block => Sys2Proof.Machine.execBlockEnd block s
  | .shipTile core => Sys2Proof.Machine.execShipTile core s
  | .slotFreeOpen => Sys2Proof.Machine.execSlotFreeOpen s
  | .mangleFrameRx f => Sys2Proof.Machine.execMangleFrameRx f s
  | .hop tag step chunk seg rev level => Sys2Proof.Machine.execHop tag step chunk seg rev level s
  | .hopWaitExpire tag step chunk seg rev level => Sys2Proof.Machine.execHopWaitExpire tag step chunk seg rev level s
  | .lateContribution f => Sys2Proof.Machine.execLateContribution f s
  | .finalHopDeliver tag step chunk => Sys2Proof.Machine.execFinalHopDeliver tag step chunk s
  | .reverseWaitExpire tag step chunk => Sys2Proof.Machine.execReverseWaitExpire tag step chunk s
  | .instanceClose tag step => Sys2Proof.Machine.execInstanceClose tag step s
  | .collTimeout tag step => Sys2Proof.Machine.execCollTimeout tag step s
  | .finalFrameRx f src => Sys2Proof.Machine.execFinalFrameRx f src s
  | .tagStageWrite word v => Sys2Proof.Machine.execTagStageWrite word v s
  | .tagInstall => Sys2Proof.Machine.execTagInstall s
  | .departRx h => Sys2Proof.Machine.execDepartRx h s
  | .suspectRx h => Sys2Proof.Machine.execSuspectRx h s
  | .suspectResend rank => Sys2Proof.Machine.execSuspectResend rank s
  | .probeRx h => Sys2Proof.Machine.execProbeRx h s
  | .probeAckRx h => Sys2Proof.Machine.execProbeAckRx h s
  | .probeTimeout rank => Sys2Proof.Machine.execProbeTimeout rank s
  | .noticeRx h n => Sys2Proof.Machine.execNoticeRx h n s
  | .noticeAckRx h => Sys2Proof.Machine.execNoticeAckRx h s
  | .noticeResend => Sys2Proof.Machine.execNoticeResend s
  | .copyReportRx h valid => Sys2Proof.Machine.execCopyReportRx h valid s
  | .digestCheck => Sys2Proof.Machine.execDigestCheck s
  | .digestRx h digest => Sys2Proof.Machine.execDigestRx h digest s
  | .fillReqRx h => Sys2Proof.Machine.execFillReqRx h s
  | .fillChunkSend target => Sys2Proof.Machine.execFillChunkSend target s
  | .fillMetaRx h bytes => Sys2Proof.Machine.execFillMetaRx h bytes s
  | .fillChunkRx h bytes => Sys2Proof.Machine.execFillChunkRx h bytes s
  | .fillEndRx h => Sys2Proof.Machine.execFillEndRx h s
  | .fillDoneRx h => Sys2Proof.Machine.execFillDoneRx h s
  | .spareWakeDone => Sys2Proof.Machine.execSpareWakeDone s
  | .laneFail link lane => Sys2Proof.Machine.execLaneFail link lane s
  | .laneErrorWindow link lane symbols errors => Sys2Proof.Machine.execLaneErrorWindow link lane symbols errors s
  | .laneMapRx link map seq => Sys2Proof.Machine.execLaneMapRx link map seq s
  | .flitRx link f => Sys2Proof.Machine.execFlitRx link f s
  | .nakRx link seq => Sys2Proof.Machine.execNakRx link seq s
  | .ackTimeout link => Sys2Proof.Machine.execAckTimeout link s
  | .creditRx link counts => Sys2Proof.Machine.execCreditRx link counts s
  | .creditSend link => Sys2Proof.Machine.execCreditSend link s
  | .keepaliveSend link => Sys2Proof.Machine.execKeepaliveSend link s
  | .linkSilence link => Sys2Proof.Machine.execLinkSilence link s
  | .frameRx link => Sys2Proof.Machine.execFrameRx link s
  | .opticalReady link => Sys2Proof.Machine.execOpticalReady link s
  | .laneLock link locked => Sys2Proof.Machine.execLaneLock link locked s
  | .equalisation link => Sys2Proof.Machine.execEqualisation link s
  | .fecLock link => Sys2Proof.Machine.execFecLock link s
  | .linkIdResend link => Sys2Proof.Machine.execLinkIdResend link s
  | .linkIdRx link a b => Sys2Proof.Machine.execLinkIdRx link a b s
  | .linkUp link => Sys2Proof.Machine.execLinkUp link s
  | .trainingTimeout link => Sys2Proof.Machine.execTrainingTimeout link s
  | .seamRetrain link => Sys2Proof.Machine.execSeamRetrain link s
  | .seamEnable link en => Sys2Proof.Machine.execSeamEnable link en s
  | .seamForceMin link on => Sys2Proof.Machine.execSeamForceMin link on s
  | .laserMeasure oe a b => Sys2Proof.Machine.execLaserMeasure oe a b s
  | .laserRecover oe inputB => Sys2Proof.Machine.execLaserRecover oe inputB s
  | .oeOvertemp oe temp => Sys2Proof.Machine.execOeOvertemp oe temp s
  | .oeCooled oe temp => Sys2Proof.Machine.execOeCooled oe temp s
  | .portLinkUp port => Sys2Proof.Machine.execPortLinkUp port s
  | .portLinkDown port => Sys2Proof.Machine.execPortLinkDown port s
  | .ethModeWrite v => Sys2Proof.Machine.execEthModeWrite v s
  | .ethFrameRx port f => Sys2Proof.Machine.execEthFrameRx port f s
  | .pfcRefresh port queue fill => Sys2Proof.Machine.execPfcRefresh port queue fill s
  | .pfcFrameRx port queues => Sys2Proof.Machine.execPfcFrameRx port queues s
  | .arpNdRx port target sender => Sys2Proof.Machine.execArpNdRx port target sender s
  | .icmpEchoRx port src len payload => Sys2Proof.Machine.execIcmpEchoRx port src len payload s
  | .dhcpReplyRx port l => Sys2Proof.Machine.execDhcpReplyRx port l s
  | .dhcpRenew port => Sys2Proof.Machine.execDhcpRenew port s
  | .routerAdvertRx port => Sys2Proof.Machine.execRouterAdvertRx port s
  | .ipv4AddrWrite port v => Sys2Proof.Machine.execIpv4AddrWrite port v s
  | .roceWriteRx p => Sys2Proof.Machine.execRoceWriteRx p s
  | .roceReadRx p outstanding => Sys2Proof.Machine.execRoceReadRx p outstanding s
  | .wcpDatagramRx d => Sys2Proof.Machine.execWcpDatagramRx d s
  | .fragTimeout session seq => Sys2Proof.Machine.execFragTimeout session seq s
  | .sessionIdleTimeout session => Sys2Proof.Machine.execSessionIdleTimeout session s
  | .notifyResend session => Sys2Proof.Machine.execNotifyResend session s
  | .hello q => Sys2Proof.Machine.execHello q s
  | .certs q off => Sys2Proof.Machine.execCerts q off s
  | .wcpOpen q o => Sys2Proof.Machine.execWcpOpen q o s
  | .wcpClose q => Sys2Proof.Machine.execWcpClose q s
  | .identify q => Sys2Proof.Machine.execIdentify q s
  | .attest q nonce => Sys2Proof.Machine.execAttest q nonce s
  | .ping q bytes => Sys2Proof.Machine.execPing q bytes s
  | .notifyAck q upTo => Sys2Proof.Machine.execNotifyAck q upTo s
  | .imgBegin q type len => Sys2Proof.Machine.execImgBegin q type len s
  | .imgData q off bytes => Sys2Proof.Machine.execImgData q off bytes s
  | .imgCommit q src flags => Sys2Proof.Machine.execImgCommit q src flags s
  | .imgCommitDone sigOk => Sys2Proof.Machine.execImgCommitDone sigOk s
  | .imgList q => Sys2Proof.Machine.execImgList q s
  | .weaveBegin q len => Sys2Proof.Machine.execWeaveBegin q len s
  | .weaveData q off bytes => Sys2Proof.Machine.execWeaveData q off bytes s
  | .weaveCommit q src => Sys2Proof.Machine.execWeaveCommit q src s
  | .weaveCommitDone sigOk => Sys2Proof.Machine.execWeaveCommitDone sigOk s
  | .weaveActivate q => Sys2Proof.Machine.execWeaveActivate q s
  | .activationEntryDone => Sys2Proof.Machine.execActivationEntryDone s
  | .class0DrainDone => Sys2Proof.Machine.execClass0DrainDone s
  | .dismantleDone => Sys2Proof.Machine.execDismantleDone s
  | .activationPowerDone => Sys2Proof.Machine.execActivationPowerDone s
  | .activationClearDone => Sys2Proof.Machine.execActivationClearDone s
  | .activationInstallDone => Sys2Proof.Machine.execActivationInstallDone s
  | .activationPublish => Sys2Proof.Machine.execActivationPublish s
  | .weaveDiscard q => Sys2Proof.Machine.execWeaveDiscard q s
  | .jobStatus q => Sys2Proof.Machine.execJobStatus q s
  | .quiesce q step => Sys2Proof.Machine.execQuiesce q step s
  | .resume q => Sys2Proof.Machine.execResume q s
  | .memRead q addr len => Sys2Proof.Machine.execMemRead q addr len s
  | .memWrite q addr bytes => Sys2Proof.Machine.execMemWrite q addr bytes s
  | .memFill q addr len pattern => Sys2Proof.Machine.execMemFill q addr len pattern s
  | .memFillDone => Sys2Proof.Machine.execMemFillDone s
  | .winOpen q base len access => Sys2Proof.Machine.execWinOpen q base len access s
  | .winClose q index => Sys2Proof.Machine.execWinClose q index s
  | .winCloseDone index => Sys2Proof.Machine.execWinCloseDone index s
  | .qpOpen q => Sys2Proof.Machine.execQpOpen q s
  | .qpConnect q qpn a => Sys2Proof.Machine.execQpConnect q qpn a s
  | .qpClose q qpn => Sys2Proof.Machine.execQpClose q qpn s
  | .regRead q offs => Sys2Proof.Machine.execRegRead q offs s
  | .regWrite q items => Sys2Proof.Machine.execRegWrite q items s
  | .regReadSeq q first count => Sys2Proof.Machine.execRegReadSeq q first count s
  | .groupStatus q => Sys2Proof.Machine.execGroupStatus q s
  | .markFailed q rank => Sys2Proof.Machine.execMarkFailed q rank s
  | .addSpare q rank => Sys2Proof.Machine.execAddSpare q rank s
  | .groupRelease q => Sys2Proof.Machine.execGroupRelease q s
  | .routeSet q first entries => Sys2Proof.Machine.execRouteSet q first entries s
  | .telemetry q => Sys2Proof.Machine.execTelemetry q s
  | .domainSet q dom state => Sys2Proof.Machine.execDomainSet q dom state s
  | .powerCap q watts => Sys2Proof.Machine.execPowerCap q watts s
  | .wcpReset q => Sys2Proof.Machine.execWcpReset q s
  | .unlockChallenge q scope => Sys2Proof.Machine.execUnlockChallenge q scope s
  | .unlockResponse q scope count signers => Sys2Proof.Machine.execUnlockResponse q scope count signers s
  | .scanWipeDone => Sys2Proof.Machine.execScanWipeDone s
  | .lintDump q addr => Sys2Proof.Machine.execLintDump q addr s
  | .lintDumpDone => Sys2Proof.Machine.execLintDumpDone s
  | .waitfor q => Sys2Proof.Machine.execWaitfor q s
  | .wfgQueryRx src node step => Sys2Proof.Machine.execWfgQueryRx src node step s
  | .wfgReplyRx src edges => Sys2Proof.Machine.execWfgReplyRx src edges s
  | .wfgQueryTimeout rank => Sys2Proof.Machine.execWfgQueryTimeout rank s
  | .scoreStatus q => Sys2Proof.Machine.execScoreStatus q s
  | .swapLoad q addr => Sys2Proof.Machine.execSwapLoad q addr s
  | .swapLoadDone => Sys2Proof.Machine.execSwapLoadDone s
  | .swapPublish q version => Sys2Proof.Machine.execSwapPublish q version s
  | .scoreRequestRx r => Sys2Proof.Machine.execScoreRequestRx r s
  | .laneServiceStart lane => Sys2Proof.Machine.execLaneServiceStart lane s
  | .laneServiceEnd lane score attrs ns egressNs => Sys2Proof.Machine.execLaneServiceEnd lane score attrs ns egressNs s
  | .handlerStart => Sys2Proof.Machine.execHandlerStart s
  | .handlerYield => Sys2Proof.Machine.execHandlerYield s
  | .handlerDone => Sys2Proof.Machine.execHandlerDone s
  | .handlerFault bad => Sys2Proof.Machine.execHandlerFault bad s
  | .fenceFreezeDone => Sys2Proof.Machine.execFenceFreezeDone s
  | .fenceDepartDone => Sys2Proof.Machine.execFenceDepartDone s
  | .fenceStageDone => Sys2Proof.Machine.execFenceStageDone s
  | .fenceLinksDone => Sys2Proof.Machine.execFenceLinksDone s
  | .fenceLintDone => Sys2Proof.Machine.execFenceLintDone s
  | .fenceFlushDone => Sys2Proof.Machine.execFenceFlushDone s
  | .fencePowerDone => Sys2Proof.Machine.execFencePowerDone s
  | .hangCheck => Sys2Proof.Machine.execHangCheck s
  | .traceDrain core => Sys2Proof.Machine.execTraceDrain core s
  | .traceFlush core => Sys2Proof.Machine.execTraceFlush core s
  | .threadRestart core bits => Sys2Proof.Machine.execThreadRestart core bits s
  | .threadHalt core bits => Sys2Proof.Machine.execThreadHalt core bits s
  | .stationReset core bits => Sys2Proof.Machine.execStationReset core bits s
  | .perfClear core => Sys2Proof.Machine.execPerfClear core s
  | .excCountRead core => Sys2Proof.Machine.execExcCountRead core s
  | .cycleLoRead reader => Sys2Proof.Machine.execCycleLoRead reader s
  | .engCounterLoRead reader core off => Sys2Proof.Machine.execEngCounterLoRead reader core off s
  | .errlogClear => Sys2Proof.Machine.execErrlogClear s
  | .pruEntryWrite word v => Sys2Proof.Machine.execPruEntryWrite word v s
  | .pruApplyStepWrite v => Sys2Proof.Machine.execPruApplyStepWrite v s
  | .pruPendingDiscard => Sys2Proof.Machine.execPruPendingDiscard s
  | .groupCtrlRelease => Sys2Proof.Machine.execGroupCtrlRelease s
  | .csrWrite off v => Sys2Proof.Machine.execCsrWrite off v s
  | .vinSagDown level mv => Sys2Proof.Machine.execVinSagDown level mv s
  | .sagLevelReturn level mv => Sys2Proof.Machine.execSagLevelReturn level mv s
  | .vinReset mv => Sys2Proof.Machine.execVinReset mv s
  | .vinRecoverBoot mv => Sys2Proof.Machine.execVinRecoverBoot mv s
  | .junctionSensorRead cluster a b periodEnd => Sys2Proof.Machine.execJunctionSensorRead cluster a b periodEnd s
  | .thermalRecoverBoot => Sys2Proof.Machine.execThermalRecoverBoot s
  | .capGrant other clusters => Sys2Proof.Machine.execCapGrant other clusters s
  | .pmbusPoll page reading => Sys2Proof.Machine.execPmbusPoll page reading s
  | .pmbAlert => Sys2Proof.Machine.execPmbAlert s
  | .domainWakeStart dom => Sys2Proof.Machine.execDomainWakeStart dom s
  | .domainWakeDone dom => Sys2Proof.Machine.execDomainWakeDone dom s
  | .domainWakeTimeout dom => Sys2Proof.Machine.execDomainWakeTimeout dom s
  | .domainBrownout dom => Sys2Proof.Machine.execDomainBrownout dom s
  | .vsbRise testEn => Sys2Proof.Machine.execVsbRise testEn s
  | .vsbFall => Sys2Proof.Machine.execVsbFall s
  | .romStartDone => Sys2Proof.Machine.execRomStartDone s
  | .selfTestDone => Sys2Proof.Machine.execSelfTestDone s
  | .railsDone => Sys2Proof.Machine.execRailsDone s
  | .railsRetry => Sys2Proof.Machine.execRailsRetry s
  | .uncoreDone => Sys2Proof.Machine.execUncoreDone s
  | .hbmTempRead stack temp => Sys2Proof.Machine.execHbmTempRead stack temp s
  | .hbmTrainingDone stack ok => Sys2Proof.Machine.execHbmTrainingDone stack ok s
  | .scrubPass corrected uncorrectable => Sys2Proof.Machine.execScrubPass corrected uncorrectable s
  | .jtagIdcode => Sys2Proof.Machine.execJtagIdcode s
  | .jtagBypass => Sys2Proof.Machine.execJtagBypass s
  | .jtagReset => Sys2Proof.Machine.execJtagReset s
  | .domainEntryDone dom => Sys2Proof.Machine.execDomainEntryDone dom s
  | .regulatorOrPllFault dom => Sys2Proof.Machine.execRegulatorOrPllFault dom s
  | .interleaveReformDone link => Sys2Proof.Machine.execInterleaveReformDone link s
  | .pfcQuantaExpire port queue => Sys2Proof.Machine.execPfcQuantaExpire port queue s
  | .dhcpLeaseExpire port => Sys2Proof.Machine.execDhcpLeaseExpire port s

end Sys2Proof.Machine
end

