-- ==== Sys2Proof/Machine/Tick.lean ====
section
/-! DEFINITION. What one tick of the 800 MHz timebase does when no command waits: the cycle counter,
the engine counters and the timers of the cores (R37, R275, R541, R542; log entry 7). -/

namespace Sys2Proof.Machine

/-- Whether a FETCH waits on a stack that throttles or refreshes itself (R319, Table 6 reason 1). -/
def fetchThrottled (s : State) (c stn : Nat) : Bool :=
  match (getStn s c stn).work with
  | .walk _ d n =>
    match placeOf (d.addrOf n).toNat with
    | .hbm k => decide (0 < (getStack s k).level) || decide ((getDom s (36 + k)).st = .retention) || (getStack s k).hot
    | _ => false
  | _ => false

/-- Whether the tick has an array-clock edge in a cluster (R558; log entry 37). -/
def hasEdge (s : State) (g : Nat) : Bool :=
  let d := (dutyOf s g).1
  decide (d = 16) || Config.edgeKept d (s.cycle * 8 + s.phase)

/-- The next stream that an ARRAY's queue holds. -/
def queuedStream (s : State) (c e : Nat) : Option ArrWord :=
  match (getStn s c (2 + e)).queue with
  | [] => none
  | q :: _ => if (arrWord q.word).load then none else some (arrWord q.word)

/-- The activation endpoints at which an engine waits for a tile: of streams that still take vectors, and of the next
stream in the queue. -/
def emptyInputs (s : State) (c e : Nat) (g : Engine) : List Nat :=
  let open_ := (g.streams.filter (fun x => decide (x.entered < (arrWord x.e.word).m))).map (fun x => arrWord x.e.word)
  ((open_ ++ (queuedStream s c e).toList).filterMap (fun a => actEp s c e a.part)).filter (fun ep =>
    (getStream s ep).queue.isEmpty)

/-- Whether an activation stream of an engine has no tile because its FETCH waits on such a stack. -/
def hbmWaits (s : State) (c e : Nat) (g : Engine) : Bool :=
  (emptyInputs s c e g).any (fun ep =>
    let p := entryOf s ep
    decide (p.pStn = 0) && fetchThrottled s p.pCore p.pInst)

/-- Whether an issue waits under R131: the next stream in the queue selects a plane whose load waits or runs, or a load
waits for streams that use its plane. -/
def planeWaits (s : State) (c e : Nat) (g : Engine) : Bool :=
  ((queuedStream s c e).map (fun a => g.loadsPlane a.plane)).getD false ||
  (match g.loads with
   | [] => false
   | q :: _ => !g.loading && g.streams.any (fun x => decide ((arrWord x.e.word).plane = (arrWord q.word).plane)))

/-- What a tick finds at an engine (R541): whether it has an array-clock edge, whether a vector of an issue or of a
replay enters, whether an accepted issue is unfinished, and the reasons 1 to 7 of Table 6 of *Errors, counters, trace
and hang analysis*. -/
structure TickIn where
  edge : Bool
  enters : Bool
  replays : Bool
  holds : Bool
  hbm : Bool
  gate : Bool
  crease : Bool
  plane : Bool
  foot : Bool
  noTile : Bool
  deriving DecidableEq, Repr

/-- What a tick finds at engine `e` of core `c`. A vector enters while a stream has taken vectors that are still due, unless
the foot is full (log entry 86). -/
def tickIn (s : State) (c e : Nat) (g : Engine) : TickIn :=
  let full := footHolds s c e
  { edge := hasEdge s (clusterOf c)
    enters := !full && g.streams.any (fun x => !x.replay && decide (0 < x.due))
    replays := !full && g.streams.any (fun x => x.replay && decide (0 < x.due))
    holds := !(g.streams.isEmpty && g.loads.isEmpty && (getStn s c (2 + e)).queue.isEmpty)
    hbm := hbmWaits s c e g
    gate := decide (coreClass s c = 1) && s.gate.block.isSome && !s.gate.decided
    crease := g.waiting.any (fun x => g.creaseWaits (arrWord x.2.e.word)) ||
      g.streams.any (fun x => x.waits && g.creaseWaits (arrWord x.e.word))
    plane := planeWaits s c e g
    foot := full
    noTile := !(emptyInputs s c e g).isEmpty }

/-- The class of a tick of an engine: 0 busy, 1 idle, 2 + r stalled for the first reason r that holds (R541). -/
def tickKind (i : TickIn) : Nat :=
  if i.edge && i.enters then 0
  else if !i.holds then 1
  else 2 + (([!i.edge, i.hbm, i.gate, i.crease, i.plane, i.replays, i.foot, i.noTile].idxOf true))

/-- Adds one to a 48-bit counter (R542). -/
def count48 (t : Tbl Nat) (k : Nat) : Tbl Nat := tset t k ((tget t k 0 + 1) % 2 ^ 48)

/-- The key of an engine counter: busy 0, stalled 1, idle 2, reason r 3 + r. -/
def perfKey (e k : Nat) : Nat := e * 16 + k

/-- One tick of the counters of one engine. -/
def countTick (perf : Tbl Nat) (e kind : Nat) : Tbl Nat :=
  match kind with
  | 0 => count48 perf (perfKey e 0)
  | 1 => count48 perf (perfKey e 2)
  | r + 2 => count48 (count48 perf (perfKey e 1)) (perfKey e (3 + r))

/-- The vectors that enter an engine in a tick: one of each stream that has any due, on an array-clock edge, while the
foot is not full. The last one of an unsplit shape takes 64 cycles to pass column 64 in every row (R138; log entry
101). -/
def enterVectors (i : TickIn) (g : Engine) : Engine :=
  if i.edge && !i.foot then { g with
    streams := g.streams.map (fun x => { x with due := x.due - 1 })
    passing := if g.streams.any (fun x => decide (0 < x.due) && !splitsColumns (arrWord x.e.word).shape) then 64
      else g.passing - 1 }
  else g

/-- One tick of an engine (R541, R542, R549): its counters, unless they are frozen, the entry of vectors, and a lint entry
where a stall begins; a replay that waited enters (R140). -/
def tickEngine (c : Nat) (s : State) (e : Nat) : State :=
  let g := getEng s c e
  let i := tickIn s c e g
  let kind := tickKind i
  let k := getCore s c
  let s1 := setCore s c { k with
    perf := if csrBit s (O.corePerfCtrl c) 1 then k.perf else countTick k.perf e kind
    stall := if tget k.stall e 0 = kind - 1 then k.stall else tset k.stall e (kind - 1)
    engines := if g.streams.isEmpty then k.engines else tset k.engines e (enterVectors i g) }
  let s2 := if 2 ≤ kind ∧ tget k.stall e 0 ≠ kind - 1 then lint s1 c (2 + e) 0x0C 0xFF 0 (kind - 2) else s1
  if coreRuns s2 c then enterReplay s2 c e else s2

/-- One tick of the engines of a core; those of a cluster that is not on stand still. -/
def tickCore (s : State) (c : Nat) : State :=
  if (getDom s (clusterOf c)).st ≠ .on then s else (List.range 4).foldl (tickEngine c) s

/-- One tick of a core's timer: it counts down once per array-clock cycle, and reaching zero is a wake event
(`CORE.TIMER`, R275). -/
def tickTimer (s : State) (c : Nat) : State :=
  let v := csrGet s (O.coreTimer c)
  if v = 0 ∨ domRuns s (clusterOf c) = false ∨ hasEdge s (clusterOf c) = false then s
  else
    let s1 := csrPut s (O.coreTimer c) (v - 1)
    if v = 1 then coreEvent s1 c 2 else s1

/-- Counts a microsecond in `HBM.THR_US` of every stack at L1 or above. -/
def countThrottled (s : State) : State :=
  (List.range 8).foldl (fun s n => if 0 < (getStack s n).level ∨ (getStack s n).hot then bump s (O.hbmThrUs n) else s) s

/-- A window of 1 µs begins at every stack (R318). -/
def newWindows (s : State) : State := { s with hbm := s.hbm.map (fun e => (e.1, e.2.newWindow)) }

/-- What goes on in time of itself: what waited for memory is tried again, a cluster whose threads all wait goes back into
retention (R276), and a spare that has all it needs leaves STANDBY (R412). -/
def tickWaits (s : State) : State :=
  let s1 := if s.mangle.waitFrames.isEmpty && s.mangle.waitServe.isEmpty && s.mangle.lateOwn.isEmpty then s else retryFrames s
  let s2 := ((s1.cores.map (fun e => clusterOf e.1)).eraseDups).foldl retainCluster s1
  if s2.dev = .standby then spareEnter s2 else s2

/-- One tick: `GLOBAL.CYCLE` advances once in eight ticks, from VSB rising on, and errors may strike memory as it does (log
entry 93). A link with nothing else to send sends an IDLE flit (R442; log entry 96), and each Ethernet port sends a frame
(R465; log entry 95). -/
def tick (s : State) : State :=
  if s.power.boot = .down then s else
  let s1 := { s with
    phase := (s.phase + 1) % 8
    cycle := if s.phase = 7 then (s.cycle + 1) % 2 ^ 64 else s.cycle }
  let s2 := if s1.phase = 0 then
      (Config.cacheUpsets s1.cycle).foldl strikeCache ((Config.upsets s1.cycle).foldl strike
        (if s1.cycle % 100 = 0 then newWindows (countThrottled s1) else s1))
    else s1
  let cs := s.cores.map Prod.fst
  let s3 := tickWaits ((s.links.map Prod.fst).foldl idleFlit (cs.foldl tickTimer (cs.foldl tickCore s2)))
  if s3.egress.isEmpty then s3 else (List.range 8).foldl serveEgress s3

end Sys2Proof.Machine
end

