-- ==== Sys2Proof/Machine/Step.lean ====
section
/-! DEFINITION. One step: the command at the front of the queue takes effect; on an empty queue one
tick of the timebase passes. -/

namespace Sys2Proof.Machine

/-- One step of the block. -/
def step (s : State) : Host.Outcome State Fault Refusal :=
  match s.pending with
  | [] => .next (tick s)
  | c :: cs => exec c { s with pending := cs }

/-- The issue of an instruction word by thread `t` of core `c` (R253, R254): what its row does, or ILLEGAL where the opcode is
not listed. -/
def issueWord (c t : Nat) (w : BitVec 32) (s : State) : Host.Outcome State Fault Refusal :=
  match decodeCoreWord c t w with
  | some i => exec i s
  | none => execUnlisted c t s

/-- The state with the command that a word spells put at the front of its queue; the table spells
none, so the state is unchanged. -/
def State.withFetchWord (s : State) (nbits w : Nat) : State :=
  match decodeTableWord nbits w with
  | some c => { s with pending := c :: s.pending }
  | none => s

end Sys2Proof.Machine
end

