-- ==== Sys2Proof/Safety.lean ====
section
/-! DEFINITION. What a safe state and a safe run are, in the terms the statements use. -/

namespace Sys2Proof.Machine

/-- A state whose tables are in canonical form: memory lists rising addresses with no default byte,
and the register table lists rising offsets. -/
def State.canonical (s : State) : Prop := memWf s.mem = true ∧ risesFrom 0 s.csr = true

/-- A step that does not stop. -/
def State.goesOn (s : State) : Prop := ∃ t, Machine.step s = .next t

/-- The command completes in a state that has a property. -/
def completes (i : Instr) (s : State) (p : State → Prop) : Prop := ∃ t, exec i s = .next t ∧ p t

/-! ### Events -/

/-- An event of a code waits in the queue of a severity. -/
def queued (s : State) (sev code : Nat) : Prop := ∃ r ∈ tget s.err.queues sev [], r.code = code

/-- The queue of a severity has room, so that an event raised with it is queued (R535). -/
def hasRoom (s : State) (sev : Nat) : Prop := (tget s.err.queues sev []).length < 16

/-! ### Control cores -/

/-- The thread issues now, and what it issues is performed at once: its core runs, it holds the core, its trace does
not stall it, no branch of it is unresolved and nothing waits in its issue buffer (R270, R272, R283). -/
def issuesNow (s : State) (c t : Nat) : Prop :=
  mayIssue s c t = true ∧ (getThread s c t).branches = [] ∧ (getThread s c t).buffer = []

/-- Register `gd` received `v`, unless it is g0, and no other register changed (R250). -/
def wrote (x y : Thread) (gd : Nat) (v : BitVec 64) : Prop :=
  y.reg gd = (if gd = 0 then 0#64 else v) ∧ ∀ r, r ≠ gd → y.reg r = x.reg r

/-- Thread `t` of core `c` wrote `v` to `gd` and stands at the next instruction; nothing else of it changed, and nothing
else of the device did. -/
def wroteReg (s u : State) (c t gd : Nat) (v : BitVec 64) : Prop :=
  let x := getThread s c t
  let y := getThread u c t
  u = setThread s c t y ∧ wrote x y gd v ∧ y.pc = (x.pc + 4) % 2 ^ 20 ∧
    y = { x with pc := y.pc, regs := y.regs, run := x.run + 1 }

/-- Thread `t` of core `c` keeps its registers and stands at the next instruction. -/
def passedBy (s u : State) (c t : Nat) : Prop :=
  (getThread u c t).regs = (getThread s c t).regs ∧
    (getThread u c t).pc = ((getThread s c t).pc + 4) % 2 ^ 20

/-- The severity with which a core's exception is queued (R279). -/
def excSev (s : State) (c : Nat) : Nat := if coreClass s c = 0 then 2 else 3

/-- Thread `t` of core `c` took an exception (R278 to R280): it halts at the instruction, the record is written when
the registers were free, the exception is counted, and CORE_EXCEPTION is queued. -/
def tookExc (s u : State) (c t cause info stn : Nat) : Prop :=
  let x := getThread s c t
  let y := getThread u c t
  y.st = .exception ∧ y.pc = x.pc ∧ y.regs = x.regs ∧
  csrBits u (O.coreExcCount c) 15 0 = min (csrBits s (O.coreExcCount c) 15 0 + 1) 0xFFFF ∧
  (if csrBits s (O.coreExcCount c) 15 0 = 0 then
    csrGet u (O.coreExcCause c) = (cause + t * 16 + stn * 256) % 2 ^ 32 ∧ csrGet u (O.coreExcPc c) = x.pc % 2 ^ 32 ∧
    csrGet u (O.coreExcInfoLo c) = info % 2 ^ 32 ∧ csrGet u (O.coreExcInfoHi c) = info / 2 ^ 32 % 2 ^ 32
  else csrGet u (O.coreExcCause c) = csrGet s (O.coreExcCause c) ∧ csrGet u (O.coreExcPc c) = csrGet s (O.coreExcPc c)) ∧
  u.mem = s.mem ∧ queued u (excSev s c) 0x9001

/-! ### Streams -/

/-- The tokens of a stream-table entry: C + Q + H + R of R203, with the credit that a crease holds, and with the
tiles and credits that wait at a router (R277). -/
def streamTokens (s : State) (e : Nat) : Nat :=
  let x := getStream s e
  x.credits + x.queue.length + x.held.length + x.ret + b2n x.crease + x.router.length + x.routerCr

/-- The tiles that an endpoint holds, has queued, and has at its router, oldest first. -/
def streamTiles (s : State) (e : Nat) : List STile :=
  (getStream s e).held ++ (getStream s e).queue ++ (getStream s e).router

/-! ### WCP requests -/

/-- The state in which a request of an opcode stands in the queue: it is received now unless it was received before. -/
def received (s : State) (q : WcpReq) (op : Nat) : State :=
  let r : Request := ⟨q.session, q.seq, op, q.bind⟩
  if s.wcp.queue.any (sameReq r) then s else takeRequest s r

/-- A request executes next (R489): `n` is its entry in the queue, commands are taken, its session may send it (R592)
and its payload is well formed. -/
def upNext (s : State) (q : WcpReq) (op : Nat) (img : Bool) (n : Request) : Prop :=
  s.dev ≠ .boot ∧ s.power.thermalOff = false ∧ q.ok = true ∧ nextRequest (received s q op) = some n ∧
    sameReq n ⟨q.session, q.seq, op, q.bind⟩ = true ∧
    (limited (received s q op) ⟨q.session, q.seq, op, q.bind⟩ = true → unownedMay op img = true)

/-- The state in which a request that executes next has left the queue and its dispatch was traced (R489, R604). -/
def begun (s : State) (q : WcpReq) (op : Nat) (n : Request) : State :=
  deepTrace ((received s q op).withWcp (fun w => { w with queue := w.queue.erase n }))

/-- The response to a request went out last, and its session holds it (R484, R492). -/
def answered (b u : State) (n : Request) (st detail : Nat) (body : List Byte) : Prop :=
  (n.session = 0 → u.out.head? = some (.resp n.bind 0 n.seq n.opcode st detail body)) ∧
  ∀ x, n.session ≠ 0 → findSession b n.session = some x →
    u.out.head? = some (.resp x.bind x.id n.seq n.opcode st detail body) ∧
    ∃ y, findSession u n.session = some y ∧ y.cache.head? = some ⟨n.seq, n.opcode, st, detail, body⟩

end Sys2Proof.Machine
end

