-- ==== Sys2Proof/WellFormed.lean ====
section
/-! DEFINITION. Which commands are well formed: every index within the range that the spec gives its
field, core, thread, register, station, link, port, domain and so on. A command whose index lies
outside names nothing the device has. -/

namespace Sys2Proof

/-- Every index of the command lies in its range. -/
def Instr.wf (i : Instr) : Bool :=
  match i with
  | .alu core thread gd ga gb rsv func =>
    decide (core < 256) && decide (thread < 8) && decide (gd < 32) && decide (ga < 32) &&
      decide (gb < 32) && decide (rsv < 128) && decide (func < 16)
  | .addi core thread gd ga _ =>
    decide (core < 256) && decide (thread < 8) && decide (gd < 32) && decide (ga < 32)
  | .andi core thread gd ga _ =>
    decide (core < 256) && decide (thread < 8) && decide (gd < 32) && decide (ga < 32)
  | .ori core thread gd ga _ =>
    decide (core < 256) && decide (thread < 8) && decide (gd < 32) && decide (ga < 32)
  | .xori core thread gd ga _ =>
    decide (core < 256) && decide (thread < 8) && decide (gd < 32) && decide (ga < 32)
  | .slti core thread gd ga _ =>
    decide (core < 256) && decide (thread < 8) && decide (gd < 32) && decide (ga < 32)
  | .shifti core thread gd ga _ =>
    decide (core < 256) && decide (thread < 8) && decide (gd < 32) && decide (ga < 32)
  | .lui core thread gd ga _ =>
    decide (core < 256) && decide (thread < 8) && decide (gd < 32) && decide (ga < 32)
  | .shori core thread gd ga _ =>
    decide (core < 256) && decide (thread < 8) && decide (gd < 32) && decide (ga < 32)
  | .ld core thread gd ga _ =>
    decide (core < 256) && decide (thread < 8) && decide (gd < 32) && decide (ga < 32)
  | .lw core thread gd ga _ =>
    decide (core < 256) && decide (thread < 8) && decide (gd < 32) && decide (ga < 32)
  | .lwu core thread gd ga _ =>
    decide (core < 256) && decide (thread < 8) && decide (gd < 32) && decide (ga < 32)
  | .lbu core thread gd ga _ =>
    decide (core < 256) && decide (thread < 8) && decide (gd < 32) && decide (ga < 32)
  | .sd core thread gd ga _ =>
    decide (core < 256) && decide (thread < 8) && decide (gd < 32) && decide (ga < 32)
  | .sw core thread gd ga _ =>
    decide (core < 256) && decide (thread < 8) && decide (gd < 32) && decide (ga < 32)
  | .sb core thread gd ga _ =>
    decide (core < 256) && decide (thread < 8) && decide (gd < 32) && decide (ga < 32)
  | .aadd core thread gd ga _ =>
    decide (core < 256) && decide (thread < 8) && decide (gd < 32) && decide (ga < 32)
  | .beq core thread ga gb _ =>
    decide (core < 256) && decide (thread < 8) && decide (ga < 32) && decide (gb < 32)
  | .bne core thread ga gb _ =>
    decide (core < 256) && decide (thread < 8) && decide (ga < 32) && decide (gb < 32)
  | .blt core thread ga gb _ =>
    decide (core < 256) && decide (thread < 8) && decide (ga < 32) && decide (gb < 32)
  | .bge core thread ga gb _ =>
    decide (core < 256) && decide (thread < 8) && decide (ga < 32) && decide (gb < 32)
  | .bltu core thread ga gb _ =>
    decide (core < 256) && decide (thread < 8) && decide (ga < 32) && decide (gb < 32)
  | .bgeu core thread ga gb _ =>
    decide (core < 256) && decide (thread < 8) && decide (ga < 32) && decide (gb < 32)
  | .jal core thread gd _ => decide (core < 256) && decide (thread < 8) && decide (gd < 32)
  | .jalr core thread gd ga _ =>
    decide (core < 256) && decide (thread < 8) && decide (gd < 32) && decide (ga < 32)
  | .tissue core thread gd ga _ =>
    decide (core < 256) && decide (thread < 8) && decide (gd < 32) && decide (ga < 32)
  | .sissue core thread gd ga _ =>
    decide (core < 256) && decide (thread < 8) && decide (gd < 32) && decide (ga < 32)
  | .twait core thread gd _ => decide (core < 256) && decide (thread < 8) && decide (gd < 32)
  | .tsig core thread gd _ => decide (core < 256) && decide (thread < 8) && decide (gd < 32)
  | .kopen core thread gd ga _ =>
    decide (core < 256) && decide (thread < 8) && decide (gd < 32) && decide (ga < 32)
  | .kclose core thread gd ga _ =>
    decide (core < 256) && decide (thread < 8) && decide (gd < 32) && decide (ga < 32)
  | .fence core thread gd ga _ =>
    decide (core < 256) && decide (thread < 8) && decide (gd < 32) && decide (ga < 32)
  | .waitEv core thread gd ga _ =>
    decide (core < 256) && decide (thread < 8) && decide (gd < 32) && decide (ga < 32)
  | .csrr core thread gd ga _ =>
    decide (core < 256) && decide (thread < 8) && decide (gd < 32) && decide (ga < 32)
  | .csrw core thread gd ga _ =>
    decide (core < 256) && decide (thread < 8) && decide (gd < 32) && decide (ga < 32)
  | .traceOp core thread gd ga _ =>
    decide (core < 256) && decide (thread < 8) && decide (gd < 32) && decide (ga < 32)
  | .haltThread core thread gd ga _ =>
    decide (core < 256) && decide (thread < 8) && decide (gd < 32) && decide (ga < 32)
  | .branchResolve core thread => decide (core < 256) && decide (thread < 8)
  | .threadQuantumExpire core => decide (core < 256)
  | .missComplete core thread _ => decide (core < 256) && decide (thread < 8)
  | .twaitSatisfied core thread => decide (core < 256) && decide (thread < 8)
  | .fenceComplete core thread => decide (core < 256) && decide (thread < 8)
  | .waitWake core thread ev => decide (core < 256) && decide (thread < 8) && decide (ev < 4)
  | .stationQueueFree core stn => decide (core < 256) && decide (stn < 13)
  | .coreTimerZero core => decide (core < 256)
  | .stationWorkStart core stn => decide (core < 256) && decide (stn < 13)
  | .stationWorkDone core stn => decide (core < 256) && decide (stn < 13)
  | .tilePlace core stn => decide (core < 256) && decide (stn < 13)
  | .tileRelease _ => true
  | .creditReturn _ => true
  | .stationResetEnd core stn => decide (core < 256) && decide (stn < 13)
  | .arrayStreamStart core eng => decide (core < 256) && decide (eng < 4)
  | .creaseComplete core eng => decide (core < 256) && decide (eng < 4)
  | .planeLoadStart core eng => decide (core < 256) && decide (eng < 4)
  | .planeLoadComplete core eng => decide (core < 256) && decide (eng < 4)
  | .footTileOut core eng => decide (core < 256) && decide (eng < 4)
  | .fetchReadIssue core stn => decide (core < 256) && decide (stn < 13)
  | .storeWrite core stn => decide (core < 256) && decide (stn < 13)
  | .spotCheckDone core _ _ _ => decide (core < 256)
  | .recordClose => true
  | .evaluation => true
  | .pendingInstall => true
  | .variantPublication => true
  | .stepStart => true
  | .quiesceEnter => true
  | .gateDecide _ => true
  | .gateWaitExpire => true
  | .blockEnd _ => true
  | .shipTile core => decide (core < 256)
  | .slotFreeOpen => true
  | .mangleFrameRx _ => true
  | .hop tag step chunk _ _ _ =>
    decide (tag < 65536) && decide (step < 4294967296) && decide (chunk < 4294967296)
  | .hopWaitExpire tag step chunk _ _ _ =>
    decide (tag < 65536) && decide (step < 4294967296) && decide (chunk < 4294967296)
  | .lateContribution _ => true
  | .finalHopDeliver tag step chunk =>
    decide (tag < 65536) && decide (step < 4294967296) && decide (chunk < 4294967296)
  | .reverseWaitExpire tag step chunk =>
    decide (tag < 65536) && decide (step < 4294967296) && decide (chunk < 4294967296)
  | .instanceClose tag step => decide (tag < 65536) && decide (step < 4294967296)
  | .collTimeout tag step => decide (tag < 65536) && decide (step < 4294967296)
  | .finalFrameRx _ _ => true
  | .tagStageWrite _ _ => true
  | .tagInstall => true
  | .departRx _ => true
  | .suspectRx _ => true
  | .suspectResend rank => decide (rank < 16384)
  | .probeRx _ => true
  | .probeAckRx _ => true
  | .probeTimeout rank => decide (rank < 16384)
  | .noticeRx _ _ => true
  | .noticeAckRx _ => true
  | .noticeResend => true
  | .copyReportRx _ _ => true
  | .digestCheck => true
  | .digestRx _ _ => true
  | .fillReqRx _ => true
  | .fillChunkSend _ => true
  | .fillMetaRx _ _ => true
  | .fillChunkRx _ _ => true
  | .fillEndRx _ => true
  | .fillDoneRx _ => true
  | .spareWakeDone => true
  | .laneFail link lane => decide (link < 24) && decide (lane < 5)
  | .laneErrorWindow link lane _ _ => decide (link < 24) && decide (lane < 5)
  | .laneMapRx link _ _ => decide (link < 24)
  | .flitRx link _ => decide (link < 24)
  | .nakRx link _ => decide (link < 24)
  | .ackTimeout link => decide (link < 24)
  | .creditRx link _ => decide (link < 24)
  | .creditSend link => decide (link < 24)
  | .keepaliveSend link => decide (link < 24)
  | .linkSilence link => decide (link < 24)
  | .frameRx link => decide (link < 24)
  | .opticalReady link => decide (link < 24)
  | .laneLock link _ => decide (link < 24)
  | .equalisation link => decide (link < 24)
  | .fecLock link => decide (link < 24)
  | .linkIdResend link => decide (link < 24)
  | .linkIdRx link _ _ => decide (link < 24)
  | .linkUp link => decide (link < 24)
  | .trainingTimeout link => decide (link < 24)
  | .seamRetrain link => decide (link < 24)
  | .seamEnable link _ => decide (link < 24)
  | .seamForceMin link _ => decide (link < 24)
  | .laserMeasure oe _ _ => decide (oe < 8)
  | .laserRecover oe _ => decide (oe < 8)
  | .oeOvertemp oe _ => decide (oe < 8)
  | .oeCooled oe _ => decide (oe < 8)
  | .portLinkUp port => decide (port < 8)
  | .portLinkDown port => decide (port < 8)
  | .ethModeWrite _ => true
  | .ethFrameRx port _ => decide (port < 8)
  | .pfcRefresh port queue _ => decide (port < 8) && decide (queue < 8)
  | .pfcFrameRx port _ => decide (port < 8)
  | .arpNdRx port _ _ => decide (port < 8)
  | .icmpEchoRx port _ _ _ => decide (port < 8)
  | .dhcpReplyRx port _ => decide (port < 8)
  | .dhcpRenew port => decide (port < 8)
  | .routerAdvertRx port => decide (port < 8)
  | .ipv4AddrWrite port _ => decide (port < 8)
  | .roceWriteRx _ => true
  | .roceReadRx _ _ => true
  | .wcpDatagramRx _ => true
  | .fragTimeout _ _ => true
  | .sessionIdleTimeout _ => true
  | .notifyResend _ => true
  | .hello _ => true
  | .certs _ _ => true
  | .wcpOpen _ _ => true
  | .wcpClose _ => true
  | .identify _ => true
  | .attest _ _ => true
  | .ping _ _ => true
  | .notifyAck _ _ => true
  | .imgBegin _ _ _ => true
  | .imgData _ _ _ => true
  | .imgCommit _ _ _ => true
  | .imgCommitDone _ => true
  | .imgList _ => true
  | .weaveBegin _ _ => true
  | .weaveData _ _ _ => true
  | .weaveCommit _ _ => true
  | .weaveCommitDone _ => true
  | .weaveActivate _ => true
  | .activationEntryDone => true
  | .class0DrainDone => true
  | .dismantleDone => true
  | .activationPowerDone => true
  | .activationClearDone => true
  | .activationInstallDone => true
  | .activationPublish => true
  | .weaveDiscard _ => true
  | .jobStatus _ => true
  | .quiesce _ step => decide (step < 4294967296)
  | .resume _ => true
  | .memRead _ _ _ => true
  | .memWrite _ _ _ => true
  | .memFill _ _ _ _ => true
  | .memFillDone => true
  | .winOpen _ _ _ _ => true
  | .winClose _ _ => true
  | .winCloseDone _ => true
  | .qpOpen _ => true
  | .qpConnect _ _ _ => true
  | .qpClose _ _ => true
  | .regRead _ _ => true
  | .regWrite _ _ => true
  | .regReadSeq _ _ _ => true
  | .groupStatus _ => true
  | .markFailed _ rank => decide (rank < 16384)
  | .addSpare _ rank => decide (rank < 16384)
  | .groupRelease _ => true
  | .routeSet _ _ _ => true
  | .telemetry _ => true
  | .domainSet _ dom _ => decide (dom < 58)
  | .powerCap _ _ => true
  | .wcpReset _ => true
  | .unlockChallenge _ _ => true
  | .unlockResponse _ _ _ _ => true
  | .scanWipeDone => true
  | .lintDump _ _ => true
  | .lintDumpDone => true
  | .waitfor _ => true
  | .wfgQueryRx _ _ step => decide (step < 4294967296)
  | .wfgReplyRx _ _ => true
  | .wfgQueryTimeout rank => decide (rank < 16384)
  | .scoreStatus _ => true
  | .swapLoad _ _ => true
  | .swapLoadDone => true
  | .swapPublish _ _ => true
  | .scoreRequestRx _ => true
  | .laneServiceStart lane => decide (lane < 8)
  | .laneServiceEnd lane _ _ _ _ => decide (lane < 8)
  | .handlerStart => true
  | .handlerYield => true
  | .handlerDone => true
  | .handlerFault _ => true
  | .fenceFreezeDone => true
  | .fenceDepartDone => true
  | .fenceStageDone => true
  | .fenceLinksDone => true
  | .fenceLintDone => true
  | .fenceFlushDone => true
  | .fencePowerDone => true
  | .hangCheck => true
  | .traceDrain core => decide (core < 256)
  | .traceFlush core => decide (core < 256)
  | .threadRestart core _ => decide (core < 256)
  | .threadHalt core _ => decide (core < 256)
  | .stationReset core _ => decide (core < 256)
  | .perfClear core => decide (core < 256)
  | .excCountRead core => decide (core < 256)
  | .cycleLoRead _ => true
  | .engCounterLoRead _ core _ => decide (core < 256)
  | .errlogClear => true
  | .pruEntryWrite _ _ => true
  | .pruApplyStepWrite _ => true
  | .pruPendingDiscard => true
  | .groupCtrlRelease => true
  | .csrWrite _ _ => true
  | .vinSagDown level _ => decide (1 ≤ level) && decide (level ≤ 6)
  | .sagLevelReturn level _ => decide (1 ≤ level) && decide (level ≤ 6)
  | .vinReset _ => true
  | .vinRecoverBoot _ => true
  | .junctionSensorRead cluster _ _ _ => decide (cluster < 36)
  | .thermalRecoverBoot => true
  | .capGrant _ _ => true
  | .pmbusPoll page _ => decide (page < 3)
  | .pmbAlert => true
  | .domainWakeStart dom => decide (dom < 58)
  | .domainWakeDone dom => decide (dom < 58)
  | .domainWakeTimeout dom => decide (dom < 58)
  | .domainBrownout dom => decide (dom < 58)
  | .vsbRise _ => true
  | .vsbFall => true
  | .romStartDone => true
  | .selfTestDone => true
  | .railsDone => true
  | .railsRetry => true
  | .uncoreDone => true
  | .hbmTempRead stack _ => decide (stack < 8)
  | .hbmTrainingDone stack _ => decide (stack < 8)
  | .scrubPass _ _ => true
  | .jtagIdcode => true
  | .jtagBypass => true
  | .jtagReset => true
  | .domainEntryDone dom => decide (dom < 58)
  | .regulatorOrPllFault dom => decide (dom < 58)
  | .interleaveReformDone link => decide (link < 24)
  | .pfcQuantaExpire port queue => decide (port < 8) && decide (queue < 8)
  | .dhcpLeaseExpire port => decide (port < 8)

end Sys2Proof
end

