-- ==== Sys2Proof/Certificates/Slice0/Obligations.lean ====
section
/-! DEFINITION. The statements for the provers, family by family. -/

section

open Sys2Proof Sys2Proof.Machine

/-! ### The queue, reset, the idle device -/

/-- Every command: a step of a state whose queue begins with `i` is `exec i` on that state with the rest of the queue. -/
def Obligations.StepRunsFront : Prop :=
  ∀ (i : Instr) (rest : List Instr) (s : State),
    step { s with pending := i :: rest } = exec i { s with pending := rest }

/-- What reset leaves (R39, R580, R562): BOOT with ROM start under way, only the management domain on, no weave, no session,
no group table, no stack trained, no link up, no thread running, no image loaded, every CSR at its reset value; its memory is canonical. -/
def Obligations.ResetState : Prop :=
  let s := State.reset
  s.dev = .boot ∧ s.power.boot = .romStart ∧
  (∀ d, (getDom s d).st = if d = 57 then .on else .off) ∧
  s.weave = none ∧ s.staged = none ∧ s.wcp.sessions = [] ∧ s.mend.table = none ∧ s.sec.images = [] ∧
  (∀ n, (getStack s n).ready = false) ∧
  (∀ c t, (getThread s c t).st = .halted) ∧
  (∀ o, csrGet s o = csrResetVal o) ∧ (∀ a, memRead s.mem a = 0#8) ∧ s.pending = [] ∧ s.canonical

/-! ### Control-core instructions -/

/-- The sixteen functions of ALU as numbers (Table 3 of *The station control core*): modular, unsigned and signed. -/
def Obligations.AluFunctions : Prop :=
  ∀ a b : BitVec 64,
    (aluOp 0x0 a b).toNat = (a.toNat + b.toNat) % 2 ^ 64 ∧
    (aluOp 0x1 a b).toNat = (a.toNat + 2 ^ 64 - b.toNat) % 2 ^ 64 ∧
    (∀ i, (aluOp 0x2 a b).getLsbD i = (a.getLsbD i && b.getLsbD i)) ∧
    (∀ i, (aluOp 0x3 a b).getLsbD i = (a.getLsbD i || b.getLsbD i)) ∧
    (∀ i, (aluOp 0x4 a b).getLsbD i = (a.getLsbD i != b.getLsbD i)) ∧
    (aluOp 0x5 a b).toNat = a.toNat * 2 ^ (b.toNat % 64) % 2 ^ 64 ∧
    (aluOp 0x6 a b).toNat = a.toNat / 2 ^ (b.toNat % 64) ∧
    (aluOp 0x7 a b).toInt = a.toInt / 2 ^ (b.toNat % 64) ∧
    (aluOp 0x8 a b).toNat = a.toNat * b.toNat % 2 ^ 64 ∧
    (aluOp 0x9 a b).toInt = a.toInt * b.toInt / 2 ^ 64 ∧
    (aluOp 0xA a b).toNat = (if a.toInt < b.toInt then 1 else 0) ∧
    (aluOp 0xB a b).toNat = (if a.toNat < b.toNat then 1 else 0) ∧
    (aluOp 0xC a b).toInt = min a.toInt b.toInt ∧
    (aluOp 0xD a b).toInt = max a.toInt b.toInt ∧
    ((aluOp 0xE a b).toNat ≤ 64 ∧ a.toNat < 2 ^ (64 - (aluOp 0xE a b).toNat) ∧
      (a.toNat ≠ 0 → 2 ^ (63 - (aluOp 0xE a b).toNat) ≤ a.toNat)) ∧
    (aluOp 0xF a b).toNat = ((List.range 64).map (fun i => a.toNat / 2 ^ i % 2)).sum

/-- ALU and the eight immediate instructions complete (R250, R254, R270): the thread's instruction buffer drained as far as it may
(`s1`), a legal form by a thread that may issue and none of whose operands is awaited writes its result to `gd`. -/
def Obligations.RegisterInstructions : Prop :=
  ∀ (s : State) (c t gd ga gb func : Nat) (imm : BitVec 16),
    let s1 := drainBuffer s c t
    let x := getThread s1 c t
    mayIssue s1 c t = true → x.awaited gd = false →
    (x.awaited ga = false → x.awaited gb = false → (func < 0xE ∨ gb = 0) →
      completes (.alu c t gd ga gb 0 func) s (fun u => wroteReg s1 u c t gd (aluOp func (x.reg ga) (x.reg gb)))) ∧
    (x.awaited ga = false →
      completes (.addi c t gd ga imm) s (fun u => wroteReg s1 u c t gd (x.reg ga + imm.signExtend 64)) ∧
      completes (.andi c t gd ga imm) s (fun u => wroteReg s1 u c t gd (x.reg ga &&& imm.setWidth 64)) ∧
      completes (.ori c t gd ga imm) s (fun u => wroteReg s1 u c t gd (x.reg ga ||| imm.setWidth 64)) ∧
      completes (.xori c t gd ga imm) s (fun u => wroteReg s1 u c t gd (x.reg ga ^^^ imm.setWidth 64)) ∧
      completes (.slti c t gd ga imm) s (fun u =>
        wroteReg s1 u c t gd (if (x.reg ga).toInt < imm.toInt then 1#64 else 0#64)) ∧
      completes (.shori c t gd ga imm) s (fun u =>
        wroteReg s1 u c t gd (BitVec.ofNat 64 ((x.reg ga).toNat * 2 ^ 16 + imm.toNat))) ∧
      (imm.toNat < 0x40 → completes (.shifti c t gd ga imm) s (fun u => wroteReg s1 u c t gd (x.reg ga <<< imm.toNat))) ∧
      (0x40 ≤ imm.toNat → imm.toNat < 0x80 → completes (.shifti c t gd ga imm) s (fun u =>
        wroteReg s1 u c t gd (x.reg ga >>> (imm.toNat - 0x40)))) ∧
      (0x80 ≤ imm.toNat → imm.toNat < 0xC0 → completes (.shifti c t gd ga imm) s (fun u =>
        wroteReg s1 u c t gd ((x.reg ga).sshiftRight (imm.toNat - 0x80))))) ∧
    completes (.lui c t gd 0 imm) s (fun u => wroteReg s1 u c t gd (BitVec.ofInt 64 (imm.toInt * 2 ^ 16)))

/-- The four loads complete (R254 to R256, R273, R289): an aligned, permitted address whose memory answers and holds no error. In
the core's own scratch, and on a line of its L1 data cache without an error, the extended value goes to `gd`; elsewhere the thread waits for the miss
with that value coming. -/
def Obligations.Loads : Prop :=
  ∀ (s : State) (c t gd ga : Nat) (imm : BitVec 16),
    let x := getThread s c t
    let a := x.reg ga + imm.signExtend 64
    let n := a.toNat
    let loads (i : Instr) (k : Nat) (v : BitVec 64) : Prop :=
      n % k = 0 → mayAccess s (coreClass s c) false n k = true → badIn s n k = [] → upsetsIn s n k = [] → accessHeld s n = false →
      (ownScratch c n = true ∨ cacheMeets s c n k = s) → completes i s (fun u => u.mem = s.mem ∧
          (ownScratch c n = true ∨ l1Holds s c n k = true → wroteReg s u c t gd v) ∧
          (ownScratch c n = false → l1Holds s c n k = false →
            (getThread u c t).st = .miss ∧ (getThread u c t).blocked = .miss gd v n true ∧ passedBy s u c t))
    issuesNow s c t →
    loads (.ld c t gd ga imm) 8 (BitVec.ofNat 64 (memNum s.mem n 8)) ∧
    loads (.lw c t gd ga imm) 4 ((BitVec.ofNat 32 (memNum s.mem n 4)).signExtend 64) ∧
    loads (.lwu c t gd ga imm) 4 (BitVec.ofNat 64 (memNum s.mem n 4)) ∧
    loads (.lbu c t gd ga imm) 1 (BitVec.ofNat 64 (memRead s.mem n).toNat)

/-- The three stores complete, and AADD (R254 to R256, R292): the bytes stored are those of the register, the lowest at the lowest
address, and every other byte of memory reads as before; the thread's registers stay, but for AADD, which writes the old value. -/
def Obligations.Stores : Prop :=
  ∀ (s : State) (c t gd ga : Nat) (imm : BitVec 16),
    let x := getThread s c t
    let a := x.reg ga + imm.signExtend 64
    let n := a.toNat
    let v := x.reg gd
    let stored (u : State) (k : Nat) (w : BitVec 64) : Prop := ∀ p, memRead u.mem p =
      if n ≤ p ∧ p < n + k then BitVec.ofNat 8 (w.toNat / 2 ^ (8 * (p - n))) else memRead s.mem p
    let stores (i : Instr) (k : Nat) : Prop :=
      n % k = 0 → mayAccess s (coreClass s c) true n k = true → accessHeld s n = false →
        completes i s (fun u => stored u k v ∧ passedBy s u c t ∧
          u = { s with mem := u.mem, bad := u.bad, upsets := u.upsets, ccache := u.ccache, csr := u.csr, cores := u.cores
                       err := u.err, hbm := u.hbm, power := u.power } ∧ (upsetsIn s n k = [] → u.err = s.err))
    issuesNow s c t → memWf s.mem = true →
    stores (.sd c t gd ga imm) 8 ∧ stores (.sw c t gd ga imm) 4 ∧ stores (.sb c t gd ga imm) 1 ∧
    (n % 8 = 0 → ownScratch c n = true → mayAccess s (coreClass s c) true n 8 = true → badIn s n 8 = [] → upsetsIn s n 8 = [] →
      completes (.aadd c t gd ga imm) s (fun u =>
        let old := BitVec.ofNat 64 (memNum s.mem n 8)
        stored u 8 (old + v) ∧ wrote x (getThread u c t) gd old ∧
          (getThread u c t).pc = (x.pc + 4) % 2 ^ 20 ∧
          u = { s with mem := u.mem, bad := u.bad, upsets := u.upsets, ccache := u.ccache, csr := u.csr, cores := u.cores }))

/-- The six conditional branches and JAL complete (R253, R254, R270): JAL writes the next address and goes to its target; a branch
goes on along the path its predictor entry gives, and is held unresolved with its outcome, the other path and the registers. -/
def Obligations.Branches : Prop :=
  ∀ (s : State) (c t ga gb : Nat) (off : BitVec 16),
    let s1 := drainBuffer s c t
    let x := getThread s1 c t
    let target := (((x.pc : Int) + 4 * off.toInt) % 2 ^ 20).toNat
    let next := (x.pc + 4) % 2 ^ 20
    let index := bitsOf x.pc 10 2 ^^^ t
    let predicted := decide (2 ≤ tget (getCore s1 c).predictor index 0)
    let branches (i : Instr) (taken : Bool) : Prop := completes i s (fun u =>
      u = setThread s1 c t { x with
        pc := if predicted then target else next
        run := x.run + 1
        branches := x.branches ++ [⟨x.pc, taken, predicted, if predicted then next else target, index, x.regs⟩] })
    mayIssue s1 c t = true → x.awaited ga = false →
    (x.awaited gb = false →
      branches (.beq c t ga gb off) (decide (x.reg ga = x.reg gb)) ∧
      branches (.bne c t ga gb off) (decide (x.reg ga ≠ x.reg gb)) ∧
      branches (.blt c t ga gb off) (decide ((x.reg ga).toInt < (x.reg gb).toInt)) ∧
      branches (.bge c t ga gb off) (decide ((x.reg gb).toInt ≤ (x.reg ga).toInt)) ∧
      branches (.bltu c t ga gb off) (decide ((x.reg ga).toNat < (x.reg gb).toNat)) ∧
      branches (.bgeu c t ga gb off) (decide ((x.reg gb).toNat ≤ (x.reg ga).toNat))) ∧
    ∀ far : BitVec 21, completes (.jal c t ga far) s (fun u =>
      let y := getThread u c t
      u = setThread s1 c t y ∧ wrote x y ga (BitVec.ofNat 64 next) ∧
        y.pc = (((x.pc : Int) + 4 * far.toInt) % 2 ^ 20).toNat ∧
        y = { x with pc := y.pc, regs := y.regs, run := x.run + 1 })

/-- JALR and HALT complete (R254, R255, R261, R263, R273): JALR writes the next address and switches out, ready at once, at its
target; HALT halts the thread, its keys retire and its acting rank returns to the device's own. -/
def Obligations.JumpsAndHalt : Prop :=
  ∀ (s : State) (c t gd ga : Nat) (imm : BitVec 16),
    let x := getThread s c t
    let a := (x.reg ga + imm.signExtend 64).toNat
    issuesNow s c t →
    (a % 4 = 0 → a < 2 ^ 20 → completes (.jalr c t gd ga imm) s (fun u =>
      let y := getThread u c t
      y.pc = a ∧ (y.st = .ready ∨ y.st = .running) ∧ wrote x y gd (BitVec.ofNat 64 ((x.pc + 4) % 2 ^ 20)) ∧
        u = { s with cores := u.cores, csr := u.csr })) ∧
    completes (.haltThread c t 0 0 0#16) s (fun u =>
      let y := getThread u c t
      y.st = .halted ∧ y.regs = x.regs ∧ y.keys = [] ∧ csrGet u (O.coreKeyRank c t) = 0 ∧
        (∀ k ∈ x.keys, keyLive u (clusterOf c) k = false) ∧
        u = { s with cores := u.cores, csr := u.csr, keyTab := u.keyTab, power := u.power })

/-- TISSUE and SISSUE complete (R257 to R259): a word that passes the checks enters its station's queue behind what is there, with
the thread, its acting rank and the address; where the queue is full the thread waits instead. -/
def Obligations.StationIssue : Prop :=
  ∀ (s : State) (c t gd code idx n : Nat) (imm : BitVec 16),
    let x := getThread s c t
    let w := x.reg gd
    let e : QEntry := ⟨w, t, actingRank s c t, x.pc⟩
    let issues (i : Instr) (op : CoreOp) : Prop :=
      (queueFull s c n = false → completes i s (fun u =>
        (getStn u c n).queue = (getStn s c n).queue ++ [e] ∧ passedBy s u c t ∧ u.mem = s.mem)) ∧
      (queueFull s c n = true → completes i s (fun u =>
        (getStn u c n).queue = (getStn s c n).queue ∧ (getThread u c t).st = .queueFull ∧
          (getThread u c t).blocked = .queueFull op x.pc))
    issuesNow s c t → code < 16 → idx < 16 → imm = BitVec.ofNat 16 (code * 0x1000 + idx * 0x100) →
    stnNumber code idx = some n →
    (tissueOk s c t code idx w = true → issues (.tissue c t gd 0 imm) (.tissue w code idx)) ∧
    (sissueOk s c t code idx w = true → upsetsIn s w.toNat 64 = [] → badIn s w.toNat 64 = [] → issues (.sissue c t gd 0 imm) (.sissue w code idx))

/-- TWAIT and TSIG complete (R264 to R266): a TWAIT that finds its count writes it, and keeps the remainder of a sync counter; one
that does not waits; TSIG adds to a counter of a core of the cluster, and a thread that alone waits for what the counter then holds
is served at once. -/
def Obligations.TokensAndSync : Prop :=
  ∀ (s : State) (c t gd idx n : Nat) (low : BitVec 21),
    let x := getThread s c t
    issuesNow s c t →
    (low = BitVec.ofNat 21 (0x100000 + idx * 0x4000 + n) → idx < 16 → n < 0x2000 →
      (n ≤ tget (getCore s c).sync idx 0 → completes (.twait c t gd low) s (fun u =>
        wrote x (getThread u c t) gd (BitVec.ofNat 64 (tget (getCore s c).sync idx 0 - n)) ∧
          tget (getCore u c).sync idx 0 = tget (getCore s c).sync idx 0 - n ∧
          (getThread u c t).pc = (x.pc + 4) % 2 ^ 20 ∧ u = { s with cores := u.cores })) ∧
      (tget (getCore s c).sync idx 0 < n → completes (.twait c t gd low) s (fun u =>
        (getThread u c t).st = .twait ∧ (getCore u c).sync = (getCore s c).sync ∧ passedBy s u c t))) ∧
    (∀ e p, low = BitVec.ofNat 21 (idx * 0x4000 + n) → idx < 64 → fanin s c idx = some (e, p) → n ≠ 0 → n ≤ p.depth →
      n < 0x2000 →
      (n ≤ (getStream s e).queue.length → completes (.twait c t gd low) s (fun u =>
        wroteReg s u c t gd (BitVec.ofNat 64 (getStream s e).queue.length))) ∧
      ((getStream s e).queue.length < n → completes (.twait c t gd low) s (fun u =>
        (getThread u c t).st = .twait ∧ u.streams = s.streams ∧ passedBy s u c t))) ∧
    (∀ e p ps, low = BitVec.ofNat 21 (idx * 0x4000 + 0x2000 + n) → idx < 64 → fanout s c idx = (e, p) :: ps → n ≠ 0 →
      n ≤ p.depth → n < 0x2000 → n ≤ creditsOf s (e :: ps.map Prod.fst) → completes (.twait c t gd low) s (fun u =>
        wroteReg s u c t gd (BitVec.ofNat 64 (creditsOf s (e :: ps.map Prod.fst))))) ∧
    (∀ k, low = BitVec.ofNat 21 (k * 0x40000 + idx * 0x4000 + n) → k < 8 → idx < 16 → n ≠ 0 → n < 0x4000 →
      let d := clusterOf c * 8 + k
      let v := tget (getCore s d).sync idx 0
      let waits (r : Nat) : Prop := ∃ g i m, (getThread s d r).blocked = .twait g 1 idx i m
      v + n ≤ 0xFFFF →
      ((∀ r, r < 8 → ¬ waits r) → completes (.tsig c t 0 low) s (fun u =>
        tget (getCore u d).sync idx 0 = v + n ∧ passedBy s u c t ∧ u.mem = s.mem ∧ u.csr = s.csr)) ∧
      (∀ r g i m, r < 8 → (d, r) ≠ (c, t) → (getThread s d r).blocked = .twait g 1 idx i m → (∀ q, q < 8 → q ≠ r → ¬ waits q) →
        m ≤ v + n → completes (.tsig c t 0 low) s (fun u =>
          tget (getCore u d).sync idx 0 = v + n - m ∧ (getThread u d r).blocked = .none ∧
          wrote (getThread s d r) (getThread u d r) g (BitVec.ofNat 64 (v + n - m)) ∧ passedBy s u c t ∧ u.mem = s.mem)))

/-- KOPEN and KCLOSE complete (R90 to R92, R261): success writes 0 and makes the key live; a refusal writes 1 or 2 and
leaves the table; KCLOSE retires a live key, and one of a key that is not live has no effect. -/
def Obligations.SrKeys : Prop :=
  ∀ (s : State) (c t gd ga : Nat),
    let x := getThread s c t
    let v := (x.reg ga).toNat
    let g := clusterOf c
    let k := srKey (jobSeed s) (v % 2 ^ 16) (v / 2 ^ 18 % 2 ^ 14) (v / 2 ^ 16 % 4)
    let opens (r : Nat) (live : List (BitVec 64)) : Prop := completes (.kopen c t gd ga 0#16) s (fun u =>
      wrote x (getThread u c t) gd (BitVec.ofNat 64 r) ∧ liveKeys u g = live ∧
        (getThread u c t).pc = (x.pc + 4) % 2 ^ 20 ∧ u.mem = s.mem)
    let refused := v / 2 ^ 16 % 4 = 3 ∨ keyLive s g k = true ∨ mayUseRank s (v / 2 ^ 18 % 2 ^ 14) = false
    issuesNow s c t → (tget s.err.queues (excSev s c) []).length < 16 →
    (refused → opens 1 (liveKeys s g)) ∧
    (¬ refused → 1024 ≤ (liveKeys s g).length → opens 2 (liveKeys s g)) ∧
    (¬ refused → (liveKeys s g).length < 1024 → opens 0 (liveKeys s g ++ [k])) ∧
    (v / 2 ^ 16 % 4 ≠ 3 → keyLive s g k = true → completes (.kclose c t 0 ga 0#16) s (fun u =>
      keyLive u g k = false ∧ (∀ j, j ≠ k → keyLive u g j = keyLive s g j) ∧ passedBy s u c t ∧
        u = { s with keyTab := u.keyTab, cores := u.cores })) ∧
    (keyLive s g k = false → completes (.kclose c t 0 ga 0#16) s (fun u =>
      u.keyTab = s.keyTab ∧ passedBy s u c t ∧ u = { s with cores := u.cores }))

/-- FENCE and WAIT complete (R269, R275): a FENCE whose conditions hold passes by, else the thread waits; a WAIT that names a
latched event passes by and clears it, else the thread waits for its events. -/
def Obligations.FenceAndWait : Prop :=
  ∀ (s : State) (c t gd ga : Nat) (imm : BitVec 16),
    let x := getThread s c t
    let m := imm.toNat
    issuesNow s c t → 0 < m → m < 16 →
    (fenceHolds s c t m = true → completes (.fence c t gd ga imm) s (fun u =>
      u = setThread s c t { x with pc := (x.pc + 4) % 2 ^ 20, run := x.run + 1 })) ∧
    (fenceHolds s c t m = false → completes (.fence c t gd ga imm) s (fun u =>
      (getThread u c t).st = .fence ∧ (getThread u c t).blocked = .fence m ∧ passedBy s u c t)) ∧
    (x.latch &&& m ≠ 0 → completes (.waitEv c t gd ga imm) s (fun u =>
      let y := getThread u c t
      u = setThread s c t y ∧ y.latch &&& m = 0 ∧ y.latch + (x.latch &&& m) = x.latch ∧ passedBy s u c t ∧ y.st = .running)) ∧
    (x.latch &&& m = 0 → completes (.waitEv c t gd ga imm) s (fun u =>
      (getThread u c t).st = .wait ∧ (getThread u c t).blocked = .wait m ∧ passedBy s u c t ∧ u.mem = s.mem))

/-- CSRR, CSRW and TRACE complete (R12, R45, R254, R281, R282): a read of the own block or GLOBAL goes to `gd`; a write of the own
block has the effect of a CSR write; TRACE starts or stops the thread's trace, and MARK puts a packet into the trace of a traced one. -/
def Obligations.CoreCsrAndTrace : Prop :=
  ∀ (s : State) (c t gd ga off : Nat),
    let x := getThread s c t
    let s1 := setThread s c t { x with pc := (x.pc + 4) % 2 ^ 20, run := x.run + 1 }
    let reads (space o : Nat) : Prop :=
      completes (.csrr c t gd ga (BitVec.ofNat 16 (space * 0x8000 + off))) s (fun u =>
        let r := csrRead s1 (threadReader c t) o
        u = setThread r.1 c t (getThread u c t) ∧ wrote (getThread r.1 c t) (getThread u c t) gd (BitVec.ofNat 64 r.2) ∧
          passedBy s r.1 c t)
    let bit (u : State) : Bool := csrBit u (O.coreTraceCtrl c) (8 + t)
    issuesNow s c t → t < 8 →
    (off < 0x400 → reads 0 (0x100000 + c * 0x1000 + off * 4) ∧
      completes (.csrw c t 0 ga (BitVec.ofNat 16 off)) s (fun u =>
        u = (csrEffect s1 (0x100000 + c * 0x1000 + off * 4) ((x.reg ga).setWidth 32)).1)) ∧
    (off < 0x4000 → reads 1 (off * 4)) ∧
    completes (.traceOp c t gd ga 1#16) s (fun u => bit u = true ∧ passedBy s u c t ∧ u.mem = s.mem) ∧
    completes (.traceOp c t gd ga 2#16) s (fun u => bit u = false ∧ passedBy s u c t ∧ u.mem = s.mem) ∧
    (traceOn s c t = false → completes (.traceOp c t gd ga 0#16) s (fun u => passedBy s u c t ∧ u.mem = s.mem)) ∧
    (traceOn s c t = true → (getCore s c).traceLost = 0 → (getCore s c).traceGap = false → (getCore s c).tracePend = [] →
      traceBlocked s c 5 = false → (getCore s c).traceSince + 14 < 4096 → (getCore s c).traceThread = t → x.tnt = [] →
      completes (.traceOp c t gd ga 0#16) s (fun u =>
        (getCore u c).trace = (getCore s c).trace ++ 0xF0#8 :: leBytes 4 ((x.reg ga).toNat % 2 ^ 32) ∧ passedBy s u c t))

/-- The exceptions of the core (R254 to R256, R259, R264, R266, R278 to R280), while the event's queue has room: each halts its
thread at the instruction, is recorded when the registers are free, is counted, and leaves memory alone. A word whose opcode no row
lists is ILLEGAL too. -/
def Obligations.CoreExceptions : Prop :=
  ∀ (s : State) (c t gd ga : Nat) (imm : BitVec 16) (low : BitVec 21),
    let x := getThread s c t
    let a := (x.reg ga + imm.signExtend 64).toNat
    let w := (x.reg gd).toNat
    let code := bitsOf imm.toNat 15 12
    let idx := bitsOf imm.toNat 11 8
    let takes (i : Instr) (cause info stn : Nat) : Prop := completes i s (fun u => tookExc s u c t cause info stn)
    issuesNow s c t → t < 8 → (tget s.err.queues (excSev s c) []).length < 16 →
    (∀ gb func rsv, (rsv ≠ 0 ∨ 0xE ≤ func ∧ gb ≠ 0) → takes (.alu c t gd ga gb rsv func) 1 0 0) ∧
    (0xC0 ≤ imm.toNat → takes (.shifti c t gd ga imm) 1 0 0) ∧
    (ga ≠ 0 → takes (.lui c t gd ga imm) 1 0 0) ∧
    (imm.toNat = 0 ∨ 16 ≤ imm.toNat → takes (.fence c t gd ga imm) 1 0 0 ∧ takes (.waitEv c t gd ga imm) 1 0 0) ∧
    (a % 8 ≠ 0 → takes (.ld c t gd ga imm) 2 a 0 ∧ takes (.sd c t gd ga imm) 2 a 0 ∧ takes (.aadd c t gd ga imm) 2 a 0) ∧
    (a % 4 ≠ 0 → takes (.lw c t gd ga imm) 2 a 0 ∧ takes (.lwu c t gd ga imm) 2 a 0 ∧ takes (.sw c t gd ga imm) 2 a 0 ∧
      takes (.jalr c t gd ga imm) 2 a 0) ∧
    (a % 8 = 0 → mayAccess s (coreClass s c) false a 8 = false → takes (.ld c t gd ga imm) 3 a 0) ∧
    (a % 4 = 0 → mayAccess s (coreClass s c) true a 4 = false → takes (.sw c t gd ga imm) 3 a 0) ∧
    (mayAccess s (coreClass s c) false a 1 = false → takes (.lbu c t gd ga imm) 3 a 0) ∧
    (mayAccess s (coreClass s c) true a 1 = false → takes (.sb c t gd ga imm) 3 a 0) ∧
    (a % 8 = 0 → ownScratch c a = false → takes (.aadd c t gd ga imm) 3 a 0) ∧
    (a % 4 = 0 → 2 ^ 20 ≤ a → takes (.jalr c t gd ga imm) 8 a 0) ∧
    (imm.toNat % 256 = 0 → tissueOk s c t code idx (x.reg gd) = false →
      takes (.tissue c t gd 0 imm) 5 w (code + idx * 16)) ∧
    (imm.toNat % 256 = 0 → sissueOk s c t code idx (x.reg gd) = false → upsetsIn s w 64 = [] → badIn s w 64 = [] →
      takes (.sissue c t gd 0 imm) 6 w (code + idx * 16)) ∧
    (low.toNat < 0x100000 → twaitCount s c 0 (bitsOf low.toNat 19 14) (bitsOf low.toNat 13 13) (bitsOf low.toNat 12 0) = none →
      takes (.twait c t gd low) 7 0 0) ∧
    (bitsOf low.toNat 13 0 ≠ 0 → 0xFFFF < tget (getCore s (clusterOf c * 8 + bitsOf low.toNat 20 18)).sync
        (bitsOf low.toNat 17 14) 0 + bitsOf low.toNat 13 0 → takes (.tsig c t 0 low) 7 0 0) ∧
    (0x8000 ≤ imm.toNat → imm.getLsbD 14 = false →
      takes (.csrw c t 0 ga imm) 4 (csrSpace + bitsOf imm.toNat 13 0 * 4) 0) ∧
    ∀ word, decodeCoreWord c t word = none → ∃ u, issueWord c t word s = .next u ∧ tookExc s u c t 1 0 0

/-- Under an unresolved branch (R270, R271) an instruction other than an ALU, immediate or branch waits in the buffer of 4, with no
effect yet; a full buffer switches the thread. A register instruction does not issue while the thread may not, or while an operand is
awaited from the buffer. -/
def Obligations.IssueBuffer : Prop :=
  (∀ (s : State) (c t gd ga : Nat) (imm : BitVec 16),
    let s1 := drainBuffer s c t
    let x := getThread s1 c t
    let a := x.reg ga + imm.signExtend 64
    let waits (i : Instr) (op : CoreOp) : Prop :=
      (x.buffer.length < 4 → completes i s (fun u => u = setThread s1 c t { x with
        pc := (x.pc + 4) % 2 ^ 20
        run := x.run + 1
        buffer := x.buffer ++ [⟨x.branches.length, x.pc, op, x.regs⟩] })) ∧
      (4 ≤ x.buffer.length → completes i s (fun u =>
        (getThread u c t).st = .queueFull ∧ (getThread u c t).pc = x.pc ∧ (getThread u c t).buffer = x.buffer ∧
          u.mem = s1.mem))
    mayIssue s1 c t = true → x.branches ≠ [] → x.awaited gd = false → x.awaited ga = false →
    waits (.ld c t gd ga imm) (.load 8 false gd a) ∧
    waits (.sd c t gd ga imm) (.store 8 (x.reg gd) a) ∧
    waits (.aadd c t gd ga imm) (.aadd gd (x.reg gd) a) ∧
    waits (.kopen c t gd ga 0#16) (.kopen gd (x.reg ga)) ∧
    waits (.haltThread c t 0 0 0#16) .halt) ∧
  (∀ (s : State) (c t gd ga : Nat) (imm : BitVec 16) (off : BitVec 16),
    let s1 := drainBuffer s c t
    (mayIssue s1 c t = false ∨ (getThread s1 c t).awaited ga = true) →
    exec (.addi c t gd ga imm) s = .next s1 ∧ exec (.ld c t gd ga imm) s = .next s1 ∧
    exec (.sd c t gd ga imm) s = .next s1 ∧ exec (.beq c t ga gd off) s = .next s1 ∧
    exec (.jalr c t gd ga imm) s = .next s1)

/-! ### Events of the cores -/

/-- BRANCH_RESOLVE (R270, R271): as predicted, the branch is settled and what waited behind it alone proceeds; mispredicted,
the registers and the other path return, what waited is discarded, and `CORE.BP_MISS` counts it. -/
def Obligations.BranchResolves : Prop :=
  ∀ (s : State) (c t : Nat) (b : Branch) (rest : List Branch),
    let x := getThread s c t
    x.branches = b :: rest → coreRuns s c = true →
    (b.taken = b.predicted → completes (.branchResolve c t) s (fun u => ∃ v, u = drainBuffer v c t ∧
      let y := getThread v c t
      y.regs = x.regs ∧ y.pc = x.pc ∧ y.branches = rest ∧ v.mem = s.mem ∧
        y.buffer = x.buffer.map (fun w => { w with depth := w.depth - 1 }))) ∧
    (b.taken ≠ b.predicted → completes (.branchResolve c t) s (fun u => ∃ v, u = drainBuffer v c t ∧
      let y := getThread v c t
      y.regs = b.regs ∧ y.pc = b.other ∧ y.branches = [] ∧ v.mem = s.mem ∧
        y.buffer = x.buffer.filter (fun w => decide (w.depth = 0)) ∧
        csrGet v (O.coreBpMiss c) = min (csrGet s (O.coreBpMiss c) + 1) 0xFFFFFFFF))

/-- The ends of what threads wait for (R258, R264, R265, R269, R273, R275): the thread is no longer blocked, holds what it waited
for, and goes on (`resumed`), unless its buffer holds it back; a quantum hands the core to the next ready thread; the timer's end is a wake event. -/
def Obligations.CoreEventsComplete : Prop :=
  ∀ (s : State) (c t ev gd n idx : Nat) (v : BitVec 64),
    let x := getThread s c t
    let resumed (u : State) (p : Thread → Prop) : Prop := ∃ w, u = drainBuffer w c t ∧
      let y := getThread w c t
      (if x.behind then y.st = .queueFull else y.st = .ready ∨ y.st = .running) ∧ y.blocked = .none ∧ y.pc = x.pc ∧ p y
    (∀ a read, coreRuns s c = true → x.st = .miss → x.blocked = .miss gd v a read →
      (read = true → cacheMeets s c a 1 = s) → (read = true ∧ cacheHolds s c a 1 = true) ∨ mayGo s (threadReq s c t) (a / 64 * 64) 64 = true →
      completes (.missComplete c t false) s (fun u => resumed u (fun y => wrote x y gd v))) ∧
    (coreRuns s c = true → x.blocked = .twait gd 1 idx 0 n → n ≤ tget (getCore s c).sync idx 0 →
      servedBefore s c t idx = false → completes (.twaitSatisfied c t) s (fun u =>
        resumed u (fun y => wrote x y gd (BitVec.ofNat 64 (tget (getCore s c).sync idx 0 - n))))) ∧
    (∀ m, coreRuns s c = true → x.blocked = .fence m → fenceHolds s c t m = true → completes (.fenceComplete c t) s (fun u =>
      resumed u (fun y => y.regs = x.regs))) ∧
    (∀ m, ev < 4 → x.st = .wait → x.blocked = .wait m → bitOf m ev = true → completes (.waitWake c t ev) s (fun u =>
      ∃ w, u = wakeCluster w (clusterOf c) ∧ resumed w (fun y => y.regs = x.regs))) ∧
    (ev < 4 → x.st ≠ .wait → completes (.waitWake c t ev) s (fun u =>
      u = setThread s c t { x with latch := x.latch ||| 2 ^ ev })) ∧
    (∀ r, coreRuns s c = true → runningOf (getCore s c) = some t → nextReady (getCore s c) = some r →
      (getCore s c).cur = t → t < 8 → 256 ≤ x.run → completes (.threadQuantumExpire c) s (fun u =>
        (getThread u c t).st = .ready ∧ (getThread u c r).st = .running ∧ u.mem = s.mem)) ∧
    (∀ code i pc w m, coreRuns s c = true → t < 8 → x.blocked = .queueFull (.tissue w code i) pc → x.buffer = [] → x.branches = [] →
      (∀ r, r ≠ t → (getThread s c r).blocked = .none) → stnNumber code i = some m → queueFull s c m = false →
      tissueOk s c t code i w = true → completes (.stationQueueFree c m) s (fun u =>
        (getStn u c m).queue = (getStn s c m).queue ++ [⟨w, t, actingRank s c t, pc⟩] ∧
          (getThread u c t).blocked = .none ∧ (getThread u c t).regs = x.regs)) ∧
    (csrGet s (O.coreTimer c) ≠ 0 → completes (.coreTimerZero c) s (fun u =>
      csrGet u (O.coreTimer c) = 0 ∧ u.mem = s.mem ∧
        ∀ r, r < 8 → (getThread s c r).st ≠ .wait → bitOf (getThread u c r).latch 2 = true))

/-! ### Stations and streams -/

/-- R203: C + Q + H + R of every entry, with the credit that a crease holds and with what waits at a router, is what it was after
TILE_PLACE, TILE_RELEASE, CREDIT_RETURN to a producer below D, CREASE_COMPLETE, STORE_WRITE and PLANE_LOAD_COMPLETE. A crease never
takes a second credit of an entry: the premises on it rule out states that no run reaches. -/
def Obligations.StreamTokensKept : Prop :=
  ∀ (s u : State) (c n e f : Nat),
    ((exec (.tilePlace c n) s = .next u ∧ ∀ o ∈ (getStn s c n).out, o.1.Nodup) ∨
      (exec (.tileRelease e) s = .next u ∧ (owesCrease s e = true → (getStream s e).crease = false)) ∨
      (exec (.creditReturn e) s = .next u ∧ (getStream s e).credits < (entryOf s e).depth) ∨
      (exec (.creaseComplete c n) s = .next u ∧ ∀ part ep, actEp s c n part = some ep → (getStream s ep).crease = true →
        ∃ k, (getEng s c n).crease = some k ∧ k.ep = ep) ∨
      exec (.storeWrite c n) s = .next u ∨
      exec (.planeLoadComplete c n) s = .next u) →
    streamTokens u f = streamTokens s f

/-- TILE_PLACE, TILE_RELEASE and CREDIT_RETURN complete (R201 to R203, R205, R275, R277): placing spends one credit of every endpoint
and queues the tile, or leaves it at the router of a cluster that is not on, and without a credit of each nothing is placed;
releasing puts a credit on its way back, or gives it to the crease that waits for it; it reaches the producer or its router, unless
the producer holds D already, when it is discarded with TOKEN_OVERRUN. Memory stays where no tile that an array takes next is
poisoned. -/
def Obligations.TokensMove : Prop :=
  (∀ (s : State) (c n : Nat) (es : List Nat) (t : STile) (rest : List (List Nat × STile)),
    coreRuns s c = true → (getStn s c n).resetting = false → (n = 12 → fenceStops s = false) →
    (getStn s c n).out = (es, t) :: rest → hasCredits s es = true → es.Nodup →
    (∀ e ∈ es, coreRuns s (entryOf s e).cCore = true → (getStream s e).router = []) →
    completes (.tilePlace c n) s (fun u =>
      (∀ e ∈ es, (getStream u e).credits = (getStream s e).credits - 1 ∧ streamTiles u e = streamTiles s e ++ [t] ∧
        (coreRuns s (entryOf s e).cCore = false → (getStream u e).router = (getStream s e).router ++ [t])) ∧
      (∀ e, e ∉ es → (getStream u e).credits = (getStream s e).credits ∧ streamTiles u e = streamTiles s e) ∧
      (t.poison = [] → (∀ f, ∀ y ∈ (getStream s f).queue, y.poison = []) → (getStn u c n).out = rest ∧ u.mem = s.mem))) ∧
  (∀ (s : State) (e : Nat) (t : STile) (rest : List STile),
    (getStream s e).held = t :: rest → coreRuns s (entryOf s e).cCore = true → footNeeds s (entryOf s e) = false →
    completes (.tileRelease e) s (fun u =>
      (owesCrease s e = false → (getStream u e).ret = (getStream s e).ret + 1) ∧
      (owesCrease s e = true → (getStream u e).ret = (getStream s e).ret ∧ (getStream u e).crease = true) ∧
      (getStream u e).credits = (getStream s e).credits ∧
        streamTiles u e = rest ++ (getStream s e).queue ++ (getStream s e).router ∧
        ∀ f, f ≠ e → streamTiles u f = streamTiles s f)) ∧
  (∀ (s : State) (e : Nat),
    let x := getStream s e
    let p := entryOf s e
    (x.credits < p.depth → 0 < x.ret → coreRuns s p.pCore = true → completes (.creditReturn e) s (fun u =>
      (getStream u e).credits = x.credits + 1 ∧ (getStream u e).ret = x.ret - 1 ∧ (∀ f, streamTiles u f = streamTiles s f) ∧
        ((∀ f, ∀ y ∈ (getStream s f).queue, y.poison = []) → u.mem = s.mem ∧
          ∀ t, t < 8 → (getThread s p.pCore t).st ≠ .wait → bitOf (getThread u p.pCore t).latch 1 = true))) ∧
    (x.credits < p.depth → 0 < x.ret → coreRuns s p.pCore = false → completes (.creditReturn e) s (fun u =>
      getStream u e = { x with routerCr := x.routerCr + 1, ret := x.ret - 1 } ∧ u.mem = s.mem)) ∧
    (p.depth ≤ x.credits → hasRoom s (excSev s p.pCore) → completes (.creditReturn e) s (fun u =>
      getStream u e = { x with ret := x.ret - 1 } ∧ queued u (excSev s p.pCore) 0x9004))) ∧
  ∀ (s : State) (c n : Nat), (∀ o ∈ (getStn s c n).out, hasCredits s o.1 = false) →
    completes (.tilePlace c n) s (fun u => u = s)

/-- STATION_WORK_START, STATION_WORK_DONE, STATION_RESET_END and SPOT_CHECK_DONE complete (R157, R204, R227, R258, R269): the oldest
entry starts; the work ends once its last output is handed on; a reset ends with every credit back at D; a spot check whose column
the array has put out joins the observation of its entry with its error. -/
def Obligations.StationWork : Prop :=
  ∀ (s : State) (c n : Nat),
    let x := getStn s c n
    (∀ q rest, x.queue = q :: rest → coreRuns s c = true → x.resetting = false →
      let d := readDesc (memGet s q.word.toNat 64)
      (x.work = .idle → n < 2 → badIn s q.word.toNat 64 = [] → upsetsIn s q.word.toNat 64 = [] → descOk s c n 0 d = true → completes (.stationWorkStart c n) s (fun u =>
        (getStn u c n).queue = rest ∧ (getStn u c n).work = .walk q d 0 ∧ u.mem = s.mem)) ∧
      (x.work = .idle → n = 9 ∨ n = 10 → badIn s q.word.toNat 64 = [] → upsetsIn s q.word.toNat 64 = [] → descOk s c (n - 9) 1 d = true → completes (.stationWorkStart c n) s (fun u =>
        (getStn u c n).queue = rest ∧ (getStn u c n).work = .walk q d 0 ∧ u.mem = s.mem)) ∧
      (2 ≤ n → n < 6 → (arrWord q.word).load = true → completes (.stationWorkStart c n) s (fun u =>
        (getStn u c n).queue = rest ∧ (getEng u c (n - 2)).loads = (getEng s c (n - 2)).loads ++ [q] ∧ u.mem = s.mem)) ∧
      (∀ ep t, 2 ≤ n → n < 6 → (arrWord q.word).load = false → streamHeld s c (n - 2) (arrWord q.word) = false →
        actEp s c (n - 2) (arrWord q.word).part = some ep → headTile s ep = some t → streamOk s c (n - 2) q t.hdr = true →
        completes (.stationWorkStart c n) s (fun u => (getStn u c n).queue = rest ∧
          (getEng u c (n - 2)).streams = (getEng s c (n - 2)).streams ++ [AStream.accepted q t.hdr])) ∧
      (∀ ea p a, let w := routineWord q.word
        x.work = .idle → 6 ≤ n → n ≤ 8 → fanin s c w.inA = some (ea, p) → headTile s ea = some a → usesB w.routine w.arg = false →
        routineStartOk s c q w a.hdr = true → (w.routine = 0x40 → updateHeld s a = false) → routineHolds s c n w a = [] →
        (∀ r, routineRecord c w = some r → badIn s r.1 r.2 = [] ∧ upsetsIn s r.1 r.2 = []) → completes (.stationWorkStart c n) s (fun u =>
          streamTiles u ea = streamTiles s ea ∧ (getStream u ea).queue = (getStream s ea).queue.tail ∧
          (a.poison = [] → w.routine ≠ 0x30 → w.routine ≠ 0x40 →
            (getStn u c n).queue = rest ∧ (getStn u c n).work = .routine q [a] [])))) ∧
    (coreRuns s c = true → x.resetting = false → x.work.complete s c n = true → x.out = [] →
      completes (.stationWorkDone c n) s (fun u =>
        (getStn u c n).work = .idle ∧ (getStn u c n).queue = x.queue ∧ u.mem = s.mem ∧ u.streams = s.streams)) ∧
    (∀ es t, coreRuns s c = true → x.resetting = false → x.work.complete s c n = true → x.out = [(es, t)] →
      hasCredits s es = true → t.poison = [] → (∀ f, ∀ y ∈ (getStream s f).queue, y.poison = []) →
      completes (.stationWorkDone c n) s (fun u =>
        (getStn u c n).work = .idle ∧ (getStn u c n).out = [] ∧ u.mem = s.mem)) ∧
    (x.resetting = true → completes (.stationResetEnd c n) s (fun u =>
      (getStn u c n).resetting = false ∧ u = { s with streams := u.streams, cores := u.cores } ∧
      (∀ p ∈ stationStreams s c n, getStream u p.1 = StreamSt.fresh p.2.depth) ∧
      (∀ e, (∀ p ∈ stationStreams s c n, p.1 ≠ e) → getStream u e = getStream s e))) ∧
    (∀ i y arr d r a, (getCore s c).spots[i]? = some y → y.arr = some arr →
      (∀ k z, k < i → (getCore s c).spots[k]? = some z → z.arr = none) → completes (.spotCheckDone c d r a) s (fun u =>
      let o := tget (getCore s c).obs y.entry StatObs.zero
      let o' := tget (getCore u c).obs y.entry StatObs.zero
      (getCore u c).spots = (getCore s c).spots.eraseIdx i ∧ u = { s with cores := u.cores } ∧
      o'.spotCount = min (o.spotCount + 1) 0xFFFFFFFF ∧ o'.spotMax = f32MaxRec o.spotMax (y.error s arr) ∧
      o'.spotSum = f32Add o.spotSum (y.error s arr))) ∧
    (∀ d r a, (∀ z ∈ (getCore s c).spots, z.arr = none) → completes (.spotCheckDone c d r a) s (fun u => u = s))

/-- FETCH_READ_ISSUE and STORE_WRITE complete (R198, R223, R230 to R234, R301, R320): the walk's next image is read as memory holds it
and queued with the header that R198 gives, its elements poisoned where a read is squashed (`TAG` on the way to SHIP is log entry 100), unless a permitted read has to wait for
its domain or for its turn at a stack; a tile is written at the walk's next address, and where a page is not permitted it is discarded
with PAGE_DENIED. -/
def Obligations.FetchAndStore : Prop :=
  ∀ (s : State) (c n k : Nat) (q : QEntry) (d : Desc),
    let x := getStn s c n
    x.work = .walk q d k → coreRuns s c = true → x.resetting = false → k < d.total →
    (let es := (fetchTargets s c n d).map Prod.fst
      let ps := piecesOf s (coreClass s c) (d.addrOf k) d.imageLen
      let r := readPieces s ps
      let denied := (ps.filter (fun p => !p.ok)).length
      d.rot = false → n < 2 → fetchRoom s x d [es] = true →
      ((∀ p ∈ ps, p.ok = true → mayGo s (stationReq s c n d.tag) p.addr.toNat p.len = true ∧
          upsetsIn s p.addr.toNat p.len = [] ∧ badIn s p.addr.toNat p.len = []) →
        completes (.fetchReadIssue c n) s (fun u =>
          (getStn u c n).work = .walk q d (k + 1) ∧ u.mem = s.mem ∧
          (0 < denied → csrGet u (O.coreRunaheadSquash c) = min (csrGet s (O.coreRunaheadSquash c) + denied) 0xFFFFFFFF) ∧
          ∃ t : STile, (getStn u c n).out = x.out ++ [(es, t)] ∧ t.img = d.deliver r.1 ∧ t.poison = poisonElems d.read r.2 ∧
            t.hdr.tile = k % 2 ^ 18 ∧ t.hdr.last = decide (k + 1 = d.total) ∧ t.hdr.rows = d.rows ∧ t.hdr.cols = d.cols ∧
            t.hdr.entry = d.entry ∧ t.hdr.tag = (if leadsToShip s 2 (fetchTargets s c n d) then d.tag else 0) ∧
            t.hdr.cls = coreClass s c ∧ t.hdr.pass = (if coreClass s c = 0 then 3 else d.pass) ∧
            t.hdr.step = (if coreClass s c = 1 then s.step else 0))) ∧
      ((∃ p ∈ ps, p.ok = true ∧ mayGo s (stationReq s c n d.tag) p.addr.toNat p.len = false) →
        completes (.fetchReadIssue c n) s (fun u => u = { s with hbm := u.hbm, power := u.power }))) ∧
    (let a := (d.addrOf k).toNat
      ∀ e p t, (n = 9 ∨ n = 10) → storeSource s c (n - 9) d = some (e, p) → headTile s e = some t → t.poison = [] →
      0 ≤ d.addrOf k → d.addrOf k + t.img.length ≤ 2 ^ 40 →
      (mayWrite s c a t.img.length = true → mayGo s (stationReq s c n 0) a t.img.length = true → memWf s.mem = true →
        completes (.storeWrite c n) s (fun u =>
          (getStn u c n).work = .walk q d (k + 1) ∧ streamTiles u e = streamTiles s e ∧
          (getStream u e).queue = (getStream s e).queue.tail ∧
          ∀ y, memRead u.mem y = if a ≤ y ∧ y < a + t.img.length then t.img.getD (y - a) 0#8 else memRead s.mem y)) ∧
      (mayWrite s c a t.img.length = true → mayGo s (stationReq s c n 0) a t.img.length = false →
        completes (.storeWrite c n) s (fun u => u = { s with hbm := u.hbm, power := u.power })) ∧
      (mayWrite s c a t.img.length = false → hasRoom s (excSev s c) → completes (.storeWrite c n) s (fun u =>
        (getStn u c n).work = .walk q d (k + 1) ∧ u.mem = s.mem ∧ queued u (excSev s c) 0x2012)))

/-! ### Engines -/

/-- ARRAY_STREAM_START, CREASE_COMPLETE, PLANE_LOAD_START, PLANE_LOAD_COMPLETE and FOOT_TILE_OUT complete (R97 to R99, R103, R105, R118 to R134, R140,
R181 to R185, R203): the stream's first tile enters, behind a crease where mode or shape differ, which holds a credit or is owed the next; a plane takes its tiles from the weight stream
and its tag from the issue; the foot's next tile waits for its token, and a saturated L16 tile within its budget is counted and replayed. -/
def Obligations.EnginesRun : Prop :=
  (∀ (s : State) (c e i ep : Nat) (x : AStream) (t : STile) (rest : List STile),
    let a := arrWord x.e.word
    let g := getEng s c e
    let p := getStream s ep
    let m := min (t.hdr.rows + 1) (a.m - x.entered)
    let entered (u : State) : Prop := (getStream u ep).held = [t] ∧ (getStream u ep).queue = rest ∧ u.mem = s.mem ∧
      (getEng u c e).streams = g.streams.set i
        { x with started := true, entered := x.entered + m, due := x.due + m, inside := x.inside ++ [t] }
    (nextToEnter s c e = some (i, x) → actEp s c e a.part = some ep → p.queue = t :: rest → t.poison = [] → x.entered < a.m →
      (g.differs a = false → completes (.arrayStreamStart c e) s (fun u =>
        entered u ∧ (getEng u c e).crease = g.crease ∧ (getStream u ep).credits = p.credits ∧ (getStream u ep).ret = p.ret)) ∧
      (g.differs a = true → (∀ o ∈ (getStn s c (2 + e)).out, ep ∉ o.1) →
        completes (.arrayStreamStart c e) s (fun u => entered u ∧ (getEng u c e).mode = a.mode ∧ (getEng u c e).shape = a.shape ∧
          (0 < p.credits + p.ret → (getEng u c e).crease = some ⟨ep, false⟩ ∧ (getStream u ep).crease = true ∧
            (getStream u ep).credits + (getStream u ep).ret + 1 = p.credits + p.ret) ∧
          (p.credits + p.ret = 0 → (getEng u c e).crease = some ⟨ep, true⟩ ∧ (getStream u ep).credits + (getStream u ep).ret = 0)))) ∧
    (∀ owed, g.crease = some ⟨ep, owed⟩ → (∀ y ∈ g.streams, y.waits = false) → completes (.creaseComplete c e) s (fun u =>
      (getEng u c e).crease = none ∧ getStream u ep = { p with ret := p.ret + b2n p.crease, crease := false } ∧
        u = { s with streams := u.streams, cores := u.cores }))) ∧
  (∀ (s : State) (c e : Nat),
    let g := getEng s c e
    coreRuns s c = true →
    (∀ q rest, g.loads = q :: rest → g.loading = false →
      (∀ x ∈ g.streams, (arrWord x.e.word).plane ≠ (arrWord q.word).plane) →
      completes (.planeLoadStart c e) s (fun u => u = setEng s c e { g with loading := true })) ∧
    (∀ q rest ep ts more, g.loads = q :: rest → g.loading = true → weightEp s c e = some ep →
      (getStream s ep).queue = ts ++ more → ts.length = shapeParts (arrWord q.word).shape → (∀ t ∈ ts, t.poison = []) →
      completes (.planeLoadComplete c e) s (fun u =>
        (getEng u c e).loads = rest ∧ (getEng u c e).loading = false ∧
        tget (getEng u c e).planes (arrWord q.word).plane Plane.clear = loadedPlane (arrWord q.word).outFmt (arrWord q.word).shape ts ∧
        (∀ n, n ≠ (arrWord q.word).plane → tget (getEng u c e).planes n Plane.clear = tget g.planes n Plane.clear) ∧
        (getStream u ep).queue = more ∧ (getStream u ep).held = (getStream s ep).held ++ ts)) ∧
    (∀ i x sid, footReady s c e = some (i, x) → footSid s c e (arrWord x.e.word).part = some sid →
      bankFull s c e sid (arrWord x.e.word) = false → ownFanout s c (2 + e) sid ≠ [] → (arrWord x.e.word).acc = false →
      x.replay = false →
      let j := footJob s c e x x.part
      let h := footHdr s c e x x.part
      let es := (ownFanout s c (2 + e) sid).map Prod.fst
      ((observed s c h && (j.saturated || (j.rows c e).any j.rowCaptured)) = false →
        (∀ y ∈ g.streams, y.waits = false) → completes (.footTileOut c e) s (fun u =>
        u.mem = s.mem ∧ tget (getEng u c e).tileCount j.a.srStream 0 = tget g.tileCount j.a.srStream 0 + 1 ∧
        (getEng u c e).streams = (if x.outDone + j.n = j.a.m then g.streams.eraseIdx i else g.streams.set i (x.put j.n)) ∧
        ∃ t : STile, (getStn u c (2 + e)).out = (getStn s c (2 + e)).out ++ [(es, t)] ∧
          t.img = (footPack j.ctl 0 (j.final (j.rows c e) false)).1.image ∧ t.hdr.rows = j.n - 1 ∧ t.hdr.entry = h.entry ∧
          t.hdr.pass = h.pass ∧ t.hdr.stale = h.stale ∧ t.hdr.last = decide (x.outDone + j.n = j.a.m))) ∧
      (observed s c h = true → j.saturated = true → mayReplay s c e h.entry = true → hasRoom s 1 →
        completes (.footTileOut c e) s (fun u =>
          (getStn u c (2 + e)).out = (getStn s c (2 + e)).out ∧
          (∃ y, (getEng u c e).streams[i]? = some y ∧ y.e = x.e ∧ y.replay = true ∧ y.outDone = x.outDone ∧
            y.tileNo = tget g.tileCount j.a.srStream 0) ∧
          tget (getEng u c e).tileCount j.a.srStream 0 = tget g.tileCount j.a.srStream 0 + 1 ∧
          tget (getEng u c e).replays h.entry 0 = tget g.replays h.entry 0 + 1 ∧ queued u 1 0x1020))))

/-! ### The step boundary and the ready gate -/

/-- RECORD_CLOSE, EVALUATION and PENDING_INSTALL complete (R160, R161, R165, R170 to R173, R179, R180): the step's records close and the taps
begin again; a failed statistics check, steering that is off and differing digests leave the rule table as it is, else it becomes what
`evaluate` gives; pending entries that clash with none install, the others are refused. -/
def Obligations.BoundaryEvaluates : Prop :=
  ∀ s : State,
    (s.inStep = true → s.pru.stage = .none → (s.gate.block = none ∨ s.gate.decided = true) →
      completes .recordClose s (fun u => ∃ v, u = retryFrames (handRecords v) ∧
        v.pru.stage = .closed ∧ v.pru.step = s.step ∧ v.inStep = false ∧ v.gate.block = none ∧ v.gate.pins = [] ∧
        (∀ e ∈ v.cores, e.2.obs = [] ∧ e.2.spots = []) ∧ v.mem = s.mem ∧
        (reducesRecords s = true → validEntries s ≠ [] →
          v.pru.own = (validEntries s).map (fun e => (e.1, mergedRecord s e.1))))) ∧
    (s.pru.stage = .closed →
      let evaluates (status : Nat) (same : Bool) : Prop := completes .evaluation s (fun u =>
        u.pru.stage = .evaluated ∧ csrGet u O.pruStatus = status ∧ csrGet u O.pruEvalStep = s.pru.step % 2 ^ 32 ∧
          u.mem = s.mem ∧ (same = true → u.pru.active = s.pru.active ∧ u.pru.rstate = s.pru.rstate))
      (statCheck s = some false → evaluates 2 true) ∧
      (statCheck s = some true → csrBit s O.pruCtrl 0 = false → evaluates 0 true) ∧
      (∀ a b, statCheck s = some true → csrBit s O.pruCtrl 0 = true → digestSpan (updateScales s) = some (a, b) → a ≠ b →
        evaluates 4 true) ∧
      (statCheck s = some true → csrBit s O.pruCtrl 0 = true →
        (digestSpan (updateScales s) = none ∨ ∃ a, digestSpan (updateScales s) = some (a, a)) →
        evaluates 1 false ∧
        let r := evaluateRules (csrGet s O.pruBudget) (csrBits s O.pruAlarmSteps 7 0) s.pru.active s.pru.rstate
          ((validEntries s).map (fun e => (e.1, reducedRecord s e.1)))
        completes .evaluation s (fun u => u.pru.active = tableOf r.entries ∧ u.pru.rstate = tableOf r.states ∧
          csrGet u O.pruCntWiden = min (csrGet s O.pruCntWiden + r.widened) 0xFFFFFFFF))) ∧
    (s.pru.stage = .evaluated → installsNow s = true → (s.pru.pending.map Prod.fst).Nodup →
      completes .pendingInstall s (fun u =>
        u.pru.pending = [] ∧ u.pru.stage = .installed ∧ csrGet u O.pruApplyStep = 0xFFFFFFFF ∧
        (∀ p ∈ s.pru.pending, mayInstall s p.1 p.2 = true →
          tget u.pru.active p.1 RuleEntry.zero = p.2 ∧ tget u.pru.rstate p.1 RuleState.zero = RuleState.zero) ∧
        (∀ n, (∀ p ∈ s.pru.pending, p.1 = n → mayInstall s p.1 p.2 = false) → tget? u.pru.active n = tget? s.pru.active n) ∧
        (hasRoom s 0 → (∃ p ∈ s.pru.pending, mayInstall s p.1 p.2 = false) → queued u 0 0x1015)))

/-- VARIANT_PUBLICATION, STEP_START and QUIESCE_ENTER complete (R165, R166, R174, R243): the current variants are published with their
digest; the next step begins; at the boundary that QUIESCE names the device quiesces. -/
def Obligations.BoundaryPublishes : Prop :=
  ∀ s : State,
    ((s.pru.stage = .evaluated ∧ installsNow s = false ∨ s.pru.stage = .installed) → risesFrom 0 s.pru.active = true →
      completes .variantPublication s (fun u => ∃ v, u = sendJoinMeta v ∧
        v.pru.stage = .published ∧ v.pru.active = s.pru.active ∧ csrGet v O.pruDigest = (ruleDigest s.pru.active).toNat ∧
        v.mem = s.mem ∧ ∀ e ∈ validEntries s, tget? v.pru.variants e.1 = some e.2.cur)) ∧
    (s.dev = .running → s.pru.stage = .published → s.mend.lost = false → quiescesNow s = false →
      completes .stepStart s (fun u => ∃ v,
        u = (if s.pru.restart then (coresOfClass s 1).foldl startCore v else v) ∧
        v.step = s.pru.step + 1 ∧ v.inStep = true ∧ v.pru.stage = .none ∧ v.pru.dropped = false ∧ v.gate.done = [] ∧
        v.mem = s.mem ∧ v.csr = s.csr)) ∧
    (s.dev = .running → s.mangle.insts = [] →
      (s.pru.stage = .published ∧ quiescesNow s = true ∨ s.inStep = false ∧ s.pru.stage = .none ∧ (quiesceStep s).isSome = true) →
      completes .quiesceEnter s (fun u => u.dev = .quiesced ∧ u.mem = s.mem ∧ u.step = s.step))

/-- GATE_DECIDE, GATE_WAIT_EXPIRE and BLOCK_END complete (R211, R216, R217, R219, R221, R311): a block whose gated inputs have all arrived
runs in its own variant and pins its buffers; one that waits stays open; at the end of the wait it runs on rack copies within the
limit, or is dropped with STALE_LIMIT; its end frees its pins. -/
def Obligations.ReadyGate : Prop :=
  ∀ (s : State) (b : Nat) (v : VBlock),
    let idle := s.gate.block = none ∨ s.gate.decided = true
    (s.inStep = true → s.pru.dropped = false → b ∉ s.gate.done → (gateBlocks s)[b]? = some v → idle →
      ((∀ r ∈ v.gates, hasArrived s r s.step = true ∧ belowFloor s r s.step = false) →
        completes (.gateDecide b) s (fun u =>
          u.gate.decided = true ∧ u.gate.variant = v.variant ∧ u.gate.block = some b ∧ u.gate.done = s.gate.done ++ [b] ∧
          u = { s with gate := u.gate } ∧
          ∀ r ∈ v.gates, r.kind = 1 → (b, r.window * 256, imageBytes s r.tag) ∈ u.gate.pins)) ∧
      ((∃ r ∈ v.gates, hasArrived s r s.step = false) → completes (.gateDecide b) s (fun u =>
        u.gate.decided = false ∧ u.gate.block = some b ∧ u.gate.done = s.gate.done ∧ u = { s with gate := u.gate }))) ∧
    (s.gate.block = some b → s.gate.decided = false → (gateBlocks s)[b]? = some v →
      (∃ r ∈ v.gates.drop s.gate.pos, hasArrived s r s.step = false) →
      (∀ l, substitutes s v = some l → completes .gateWaitExpire s (fun u =>
        u.gate.decided = true ∧ u.gate.variant = (l.head?.map (fun p => p.2.fmt)).getD v.variant ∧
        u.gate.done = s.gate.done ++ [b] ∧ (∀ p ∈ l, (b, p.1, p.2.len) ∈ u.gate.pins ∧ (b, v.entry, p.1) ∈ u.gate.stale) ∧
        (∀ r ∈ v.gates, (r.tag, s.step) ∈ u.gate.subTags) ∧
        tget u.gate.subs v.entry 0 = tget s.gate.subs v.entry 0 + l.length ∧ u.mem = s.mem)) ∧
      (substitutes s v = none → s.inStep = true → hasRoom s 3 → completes .gateWaitExpire s (fun u =>
        u.gate.block = none ∧ u.gate.done = s.gate.done ++ [b] ∧ u.pru.dropped = true ∧ queued u 3 0x2011 ∧ u.mem = s.mem))) ∧
    ((s.gate.decided = true ∨ s.gate.block ≠ some b) → completes (.blockEnd b) s (fun u => ∃ w, u = retryFrames w ∧
      w = { s with gate := w.gate } ∧ (∀ p, p ∈ w.gate.pins ↔ p ∈ s.gate.pins ∧ p.1 ≠ b) ∧ w.gate.block ≠ some b))

/-! ### Registers -/

/-- The access codes (R12 to R14, R40, R44): CSR_WRITE sets an RW field, leaves an RO field and, under LOCK, an RWL field, clears a W1C
bit by writing 1, counts an access outside every block, and is refused with no effect where the state refuses it; and the commands of the other
registers complete (R38, R170, R173, R192, R384, R461, R470, R553, R554): the latched halves, ERRLOG_CLEAR, the PRU window, GROUP_CTRL_RELEASE,
ETH_MODE_WRITE and IPV4_ADDR_WRITE. -/
def Obligations.RegisterCommands : Prop :=
  (∀ (s : State) (v : BitVec 32),
    completes (.csrWrite O.globalHostScratch v) s (fun u => csrGet u O.globalHostScratch = v.toNat ∧
      (∀ o, o ≠ O.globalHostScratch → csrGet u o = csrGet s o) ∧ u = { s with csr := u.csr }) ∧
    completes (.csrWrite O.globalId v) s (fun u => u = s) ∧
    (csrBit s O.globalLock 0 = true → completes (.csrWrite O.globalBoardTag v) s (fun u => u = s)) ∧
    completes (.csrWrite O.globalResetCause v) s (fun u =>
      (∀ i, i ≤ 5 → csrBit u O.globalResetCause i = (csrBit s O.globalResetCause i && !v.getLsbD i)) ∧
        ∀ o, o ≠ O.globalResetCause → csrGet u o = csrGet s o) ∧
    (∀ off, off % 4 = 0 → csrLocate off = none → completes (.csrWrite off v) s (fun u =>
      csrBits u O.globalCsrMiss 15 0 = min (csrBits s O.globalCsrMiss 15 0 + 1) 0xFFFF ∧
        ∀ o, o ≠ O.globalCsrMiss → csrGet u o = csrGet s o)) ∧
    (∀ off, off % 4 = 0 → (csrLocate off).isSome = true → writeBusy s off = true → completes (.csrWrite off v) s (fun u => u = s)) ∧
    (∀ off, s.dev = .activating → off % 4 = 0 → 0x40000 ≤ off → off < 0x80000 → writeBusy s off = true)) ∧
  (∀ (s : State) (n : Nat) (v : BitVec 32),
    let free : Prop := s.dev ≠ .activating ∧ s.err.hard = false
    completes (.cycleLoRead n) s (fun u => (tget u.cycleHi n 0#32).toNat = s.cycle / 2 ^ 32 % 2 ^ 32 ∧
      (∀ m, m ≠ n → tget u.cycleHi m 0#32 = tget s.cycleHi m 0#32) ∧ u = { s with cycleHi := u.cycleHi }) ∧
    csrRead s n O.globalCycleHi = (s, (tget s.cycleHi n 0#32).toNat) ∧ tget State.reset.cycleHi n 0#32 = 0#32 ∧
    (∀ c off k, engCounter (0x100000 + c * 0x1000 + off) = some (c, k, false) →
      completes (.engCounterLoRead n c off) s (fun u =>
        tget (tget u.engHi n []) (c * 64 + k) 0 = tget (getCore s c).perf k 0 / 2 ^ 32 ∧ u = { s with engHi := u.engHi })) ∧
    completes .errlogClear s (fun u => u.err = { s.err with log := [], fatal := none } ∧ u = { s with err := u.err }) ∧
    (free → n < 16 → completes (.pruEntryWrite n v) s (fun u =>
      let e := csrBits s O.pruSel 11 0
      let old := (tget? s.pru.pending e).getD (tget s.pru.active e RuleEntry.zero)
      tget? u.pru.pending e = some ⟨old.w.set n v⟩ ∧ u.pru.active = s.pru.active ∧ u = { s with pru := u.pru })) ∧
    (free → (v = 0xFFFFFFFF#32 ∨ begunTo s < v.toNat) → completes (.pruApplyStepWrite v) s (fun u =>
      csrGet u O.pruApplyStep = v.toNat ∧ u = { s with csr := u.csr })) ∧
    (free → v ≠ 0xFFFFFFFF#32 → v.toNat ≤ begunTo s → completes (.pruApplyStepWrite v) s (fun u => u = s)) ∧
    (free → completes .pruPendingDiscard s (fun u => u.pru.pending = [] ∧ u = { s with pru := u.pru })) ∧
    (free → (s.dev = .idle ∨ s.dev = .quiesced ∧ s.mend.lost = true) → completes .groupCtrlRelease s (fun u =>
      u.mend.table = none ∧ u.mem = s.mem)) ∧
    (free → s.dev ≠ .idle → ¬ (s.dev = .quiesced ∧ s.mend.lost = true) → completes .groupCtrlRelease s (fun u => u = s)) ∧
    (free → completes (.ethModeWrite v) s (fun u =>
      csrBits u O.ethMode 1 0 = (if v.toNat % 4 = 3 then csrBits s O.ethMode 1 0 else v.toNat % 4) ∧
      csrBits u O.ethMode 3 2 = (if v.toNat / 4 % 4 = 3 then csrBits s O.ethMode 3 2 else v.toNat / 4 % 4) ∧
      (∀ p, p < 4 → (getPort u p).up = (decide (v.toNat % 4 = 3) && (getPort s p).up)) ∧
      (∀ p, 4 ≤ p → p < 8 → (getPort u p).up = (decide (v.toNat / 4 % 4 = 3) && (getPort s p).up)))) ∧
    (free → n < 8 → completes (.ipv4AddrWrite n v) s (fun u =>
      csrGet u (O.ethpIpv4Addr n) = v.toNat ∧
        (v ≠ 0#32 → (getPort u n).lease = none) ∧ (v = 0#32 → (getPort u n).lease = (getPort s n).lease))))

/-- The commands of the CORE registers complete (R204, R252, R280, R284, R285, R543, R554): TRACE_DRAIN, TRACE_FLUSH, THREAD_RESTART,
THREAD_HALT, STATION_RESET, PERF_CLEAR and EXC_COUNT_READ. -/
def Obligations.CoreRegisterCommands : Prop :=
  ∀ (s : State) (c n bits : Nat),
    let wr := csrGet s (O.coreTraceWr c)
    let a := csrBits s (O.coreTraceBase c) 27 0 * 4096 + wr
    let drained (u : State) : Prop :=
      (∀ p, memRead u.mem p = if a ≤ p ∧ p < a + 4096 then (getCore s c).trace.getD (p - a) 0#8 else memRead s.mem p) ∧
      (getCore s c).trace.drop 4096 <+: (getCore u c).trace ∧
      ((getCore s c).tracePend = [] → (getCore u c).trace = (getCore s c).trace.drop 4096) ∧
      csrGet u (O.coreTraceWr c) = (wr + 4096) % ringBytes s c % 2 ^ 32
    let writes : Prop := c < 256 ∧ s.err.hard = false ∧ (s.dev = .quiesced ∨ s.dev = .running ∧ coreClass s c = 0)
    (class2May s true a 4096 = true → inHbm a 4096 = true → mayGo s ⟨.drain c, 4⟩ a 4096 = true → memWf s.mem = true →
      (mayDrain s c 4096 = true → completes (.traceDrain c) s drained) ∧
      (mayDrain s c 1 = true → (getCore s c).trace.length ≤ 4096 → (getCore s c).tracePend = [] → s.dev ≠ .activating → completes (.traceFlush c) s drained)) ∧
    (writes → n < 8 → bits.testBit n = true →
      (∀ e, tget? (getCore s c).entryPts n = some e → completes (.threadRestart c bits) s (fun u =>
        let y := getThread u c n
        y.pc = e / 4 * 4 ∧ (y.st = .ready ∨ y.st = .running) ∧ y.branches = [] ∧ y.buffer = [] ∧ y.keys = [] ∧
        y.reg 1 = BitVec.ofNat 64 (if coreClass s c = 1 then s.step else 0) ∧ y.reg 2 = BitVec.ofNat 64 c ∧
        y.reg 3 = BitVec.ofNat 64 n ∧ (∀ r, 3 < r → y.reg r = 0#64) ∧ u.mem = s.mem)) ∧
      completes (.threadHalt c bits) s (fun u => (getThread u c n).st = .halted ∧ (getThread u c n).keys = [] ∧
        csrGet u (O.coreKeyRank c n) = 0 ∧ u.mem = s.mem)) ∧
    (writes → n < 13 → bits.testBit n = true → completes (.stationReset c bits) s (fun u =>
      (getStn u c n).resetting = true ∧ (getStn u c n).queue = [] ∧ (getStn u c n).work = .idle ∧ (getStn u c n).out = [] ∧
      (∀ p ∈ stationStreams s c n, streamTiles u p.1 = []) ∧ u.mem = s.mem)) ∧
    (s.dev ≠ .activating → completes (.perfClear c) s (fun u =>
      (getCore u c).perf = [] ∧ u = setCore s c { getCore s c with perf := [] })) ∧
    (c < 256 → s.err.hard = false → completes (.excCountRead c) s (fun u =>
      csrBits u (O.coreExcCount c) 15 0 = 0 ∧ ∀ o, o ≠ O.coreExcCount c → csrGet u o = csrGet s o))


/-! ### The mangle -/

/-- SHIP_TILE and SLOT_FREE_OPEN complete (R350 to R352): a tile without a tag leaves, one of a live reduction is held as the own
contribution, one with an unknown tag or of a number already received is discarded with TAG_UNKNOWN; a tile that waited opens its instance once a slot is free. -/
def Obligations.TilesShipped : Prop :=
  ∀ (s : State) (c e : Nat) (t : STile) (d : TagDesc),
    let n := t.hdr.tile
    (shipInput s c = some (e, t) → coreRuns s c = true → shipStalls s c t = false → t.poison = [] →
      (t.hdr.tag = 0 → completes (.shipTile c) s (fun u => u = takeTile s e)) ∧
      (∀ i, t.hdr.tag ≠ 0 → t.hdr.tag ≠ 0xFFFF → descOf s t.hdr.tag = some d → d.tag = t.hdr.tag → isRed d.op = true →
        findInst s d.tag t.hdr.step = some i → i.ownLate = false → tileSeen s d t.hdr.step n = false →
        completes (.shipTile c) s (fun u =>
          findInst u d.tag t.hdr.step = some { i with ownTiles := tset i.ownTiles n (shipElems d t).1 } ∧
            tileSeen u d t.hdr.step n = true ∧ (getStream u e).queue = (getStream s e).queue.tail ∧ u.mem = s.mem)) ∧
      (t.hdr.tag ≠ 0 → (t.hdr.tag = 0xFFFF ∨ descOf s t.hdr.tag = none ∨ (descOf s t.hdr.tag = some d ∧ d.tag = t.hdr.tag ∧
          (∃ i, findInst s d.tag t.hdr.step = some i) ∧ tileSeen s d t.hdr.step n = true)) → hasRoom s (excSev s c) →
        completes (.shipTile c) s (fun u => queued u (excSev s c) 0x9005 ∧ u.mangle = s.mangle ∧
          (getStream u e).queue = (getStream s e).queue.tail ∧
          (coreClass s c = 1 → s.inStep = true → u.pru.dropped = true)))) ∧
    (∀ rest, mayOpen s = true → s.pru.own = [] → s.mangle.waitParts = [] → s.mangle.waitShip = (c, t) :: rest → (freeSlot s t.hdr.tag).isSome = true →
      t.hdr.tag ≠ 0xFFFF → descOf s t.hdr.tag = some d → d.tag = t.hdr.tag → isRed d.op = true →
      tileSeen s d t.hdr.step n = false → findInst s d.tag t.hdr.step = none → wasClosed s d.tag t.hdr.step = false →
      completes .slotFreeOpen s (fun u => u.mangle.waitShip = rest ∧
        ∃ i, findInst u d.tag t.hdr.step = some i ∧ tget? i.ownTiles n = some (shipElems d t).1 ∧ i.checked = checkPick s d t.hdr.step))

/-- MANGLE_FRAME_RX and LATE_CONTRIBUTION complete (R365, R366, R371): a partial is taken by the earliest hop that waits for one; one
that none takes folds into the ledger of its step, which touches the predecessor slot and the ledger word of its fold area alone, or is
dropped and counted; while memory does not take what it writes, it waits with its receive slots; a frame of an unknown tag is discarded.
Each of the others frees the receive slots that the frame held. -/
def Obligations.PartialsReceived : Prop :=
  ∀ (s : State) (f : MFrame) (d : TagDesc),
    let s1 := freeHeld (takeInbox s (.mangle f)).1 f (takeInbox s (.mangle f)).2
    let late := predSlot d + (match f.payload with
      | .w8 _ => (chunkBase d f.chunk + f.offset) / 32 * 33
      | _ => 4 * (chunkBase d f.chunk + f.offset))
    let word := ledgerWordAt s d f.chunk
    (descOf s f.tag = none → completes (.mangleFrameRx f) s (fun u => u = s1)) ∧
    (descOf s f.tag = some d → d.tag = f.tag → isRed d.op = true → f.final = false → f.outcome = false →
      (∀ i l, findInst s f.tag f.step = some i → i.epoch ≤ f.epoch → takerOf s i d f = some l →
        completes (.mangleFrameRx f) s (fun u => ∃ j, findInst u f.tag f.step = some j ∧
          (j.hop (hopKey f.chunk (segOf d i f) f.rev l)).inp = some f ∧ u = { s1 with mangle := u.mangle })) ∧
      ((wasClosed s f.tag f.step = true ∨ ∃ i, findInst s f.tag f.step = some i ∧ i.epoch ≤ f.epoch ∧ takerOf s i d f = none) →
        (f.rev = true → completes (.lateContribution f) s (fun u => u = s1)) ∧
        (f.rev = false → mayFold s d f.step f.chunk = false → completes (.lateContribution f) s (fun u =>
          csrGet u O.mangleCntLateDrop = min (csrGet s O.mangleCntLateDrop + (f.contrib + f.folded)) 0xFFFFFFFF ∧
            u.mangle = s.mangle)) ∧
        (f.rev = false → mayFold s d f.step f.chunk = true → writesGo s d.tag (predLateWrites s d f) = false →
          completes (.lateContribution f) s (fun u => u.mem = s.mem ∧ u.mangle.ledger = s.mangle.ledger ∧
            u.mangle.waitFrames = s.mangle.waitFrames ++ [⟨f, (takeInbox s (.mangle f)).2⟩])) ∧
        (f.rev = false → mayFold s d f.step f.chunk = true → tget? s.mangle.ledger (ledgerKey d.tag f.chunk) = none → hasRoom s 3 →
          writesGo s d.tag (predLateWrites s d f) = true → memWf s.mem = true → completes (.lateContribution f) s (fun u =>
            tget? u.mangle.ledger (ledgerKey d.tag f.chunk) = some ⟨f.step, false, [f], f.contrib + f.folded, f.set, 0⟩ ∧
              csrGet u O.mangleCntFold = min (csrGet s O.mangleCntFold + 1) 0xFFFFFFFF ∧
              ∀ x, ¬ (late ≤ x ∧ x < late + f.payload.bytesOf.length) → ¬ (word ≤ x ∧ x < word + 8) →
                memRead u.mem x = memRead s.mem x))))

/-- HOP, HOP_WAIT_EXPIRE, FINAL_HOP_DELIVER, FINAL_FRAME_RX and REVERSE_WAIT_EXPIRE complete (R359 to R365, R372, R380): a hop of an unchecked
instance adds to the running sum, in order, the incoming partial, the own contribution and what was folded, and adds their counts; an input that is
missing when the wait ends is skipped and counted; the sums of a chunk go to its result area as FP32 and a completion tile to TAKE, for a rank that the device covers that of MEND_CORE; the partner
stores FINAL frames; a reverse direction that does not come leaves the outcome VOID. -/
def Obligations.HopsAndDelivery : Prop :=
  (∀ (s : State) (tag step k seg l : Nat) (i : Inst) (d : TagDesc) (p : HopPlan),
    let key := hopKey k seg false l
    let h := i.hop key
    let lo := seg * segSize d i
    let n := min (segSize d i) (chunkLen d k - lo)
    let own := addsOwn s i d p k
    let prev := p.prev.bind (fun x => (i.hop (hopKey k seg false x)).sum)
    let fo := if p.own then foldOf s i d k lo n else none
    let base := prev.bind (fun x => match x.acc with | .a32 r => some r | _ => none)
    let acc := sumA32 i d k lo n base h own fo
    let cnt := (prev.map (·.cnt)).getD 0 + (h.inp.map (·.contrib)).getD 0 + (if own then 1 else 0)
    let fld := (prev.map (·.fld)).getD 0 + (h.inp.map (·.folded)).getD 0 + (fo.map (·.cnt)).getD 0
    findInst s tag step = some i → i.tag = tag → i.step = step → descOf s tag = some d → d.tag = tag → tag ≠ 0xFFFF → isRed d.op = true →
    i.checked = false → (∀ r ∈ hopReads s i d p k, mayAccess s 1 false r.1 r.2 = true ∧ mayGo s (hopReq d) r.1 r.2 = true ∧
      upsetsIn s r.1 r.2 = [] ∧ badIn s r.1 r.2 = []) → writesGo s d.tag (hopWrites s i d p k) = true →
    k < d.chunks → seg < segCount d i k → planOf s i d key k seg false l = some p → h.done = false →
    (hopReady s i d p k seg false l = true →
      (∀ r, p.next ≠ .send r) → completes (.hop tag step k seg false l) s (fun u => ∃ j x, findInst u tag step = some j ∧
        (j.hop key).done = true ∧ (j.hop key).sum = some x ∧ x.acc = acc ∧ x.cnt = cnt ∧ x.fld = fld ∧
        (s.sec.scopes % 2 = 0 → fo = none → u.mem = s.mem))) ∧
    (hopReady s i d p k seg false l = true → isW8 s d = false →
      ∀ r, p.next = .send r → completes (.hop tag step k seg false l) s (fun u => ∃ v j fr,
        u = sendFrame v r (.mangle fr) ∧ findInst v tag step = some j ∧ (j.hop key).done = true ∧ (s.sec.scopes % 2 = 0 → fo = none → v.mem = s.mem) ∧
        fr.tag = d.tag ∧ fr.chunk = k ∧ fr.step = step ∧ fr.offset = lo ∧ fr.contrib = cnt ∧ fr.folded = fld ∧ fr.rev = false ∧
        (∀ v32, acc = .a32 v32 → fr.payload = .f32 v32))) ∧
    (p.needIn = true → h.inp = none → h.inSkipped = false → (needOwn s i p = false ∨ i.hasOwn d k = true) →
      (p.own = true ∧ i.hasOwn d k = true ∨ p.prev.any (fun x => (i.hop (hopKey k seg false x)).done) = true) →
      completes (.hopWaitExpire tag step k seg false l) s (fun u => ∃ v j, findInst v tag step = some j ∧ (j.hop key).inSkipped = true ∧
        v.mangle.skips.head? = some ⟨1, p.pred, tag, step⟩ ∧
        csrGet v O.mangleCntSkip = min (csrGet s O.mangleCntSkip + 1) 0xFFFFFFFF ∧
        u = runHop v j d p k seg false l))) ∧
  (∀ (s : State) (tag step k : Nat) (d : TagDesc),
    let stores (u : State) (a : Nat) (v : List (BitVec 32)) : Prop := ∀ x, memRead u.mem x =
      if a ≤ x ∧ x < a + 4 * v.length then (v.flatMap (fun y => leBytes 4 y.toNat)).getD (x - a) 0#8 else memRead s.mem x
    let lives (a n : Nat) : Prop := mayAccess s 1 true a n = true
    let given (u : State) (core sid : Nat) (status c f : Nat) : Prop := ∃ t : STile,
      (getStn u core 12).out = (getStn s core 12).out ++ [((ownFanout s core 12 sid).map Prod.fst, t)] ∧
        t.img = (completionTile d step k status c f).img ∧ t.hdr.tag = d.tag ∧ t.hdr.step = step
    descOf s tag = some d → d.tag = tag → tag ≠ 0xFFFF → isRed d.op = true → memWf s.mem = true →
    (∀ i sums, findInst s tag step = some i → i.tag = tag → i.step = step → d.op ≠ 3 → i.checked = false → k < d.chunks →
      serves s step (chunkOwner s d k) = true → tget? i.delivered k = none → finalSums s i d k false = some sums →
      finalDest s step (chunkOwner s d k) = none → sums ≠ [] →
      let v := sums.flatMap (segResult d)
      let mine := decide (chunkOwner s d k = selfRank s)
      let core := if mine then d.f 11 7 0 else d.f 11 23 16
      let sid := if mine then d.f 11 13 8 else d.f 11 29 24
      lives (chunkAddr d k) (4 * v.length) → writesGo s d.tag (deliverWrites s d step k) = true → ownFanout s core 12 sid ≠ [] →
      (sums.all (fun x => decide (x.cnt + x.fld = 0)) = false → completes (.finalHopDeliver tag step k) s (fun u =>
        stores u (chunkAddr d k) v ∧
        given u core sid 0 (leastOf (sums.map (·.cnt))) (leastOf (sums.map (·.fld))))) ∧
      (sums.all (fun x => decide (x.cnt + x.fld = 0)) = true → completes (.finalHopDeliver tag step k) s (fun u =>
        u.mem = s.mem ∧ given u core sid 2 0 0))) ∧
    (∀ f v, f.tag = tag → f.step = step → f.chunk = k → f.final = true → f.payload = .f32 v → v.length = chunkLen d k → f.offset = 0 →
      f.outcome = false → f.contrib + f.folded ≠ 0 → s.mend.recv = none → s.mangle.finals = [] → lives (chunkAddr d k) (4 * v.length) →
      writesGo s d.tag (deliverWrites s d step k) = true → ownFanout s (d.f 11 23 16) 12 (d.f 11 29 24) ≠ [] →
      ∀ src, completes (.finalFrameRx f src) s (fun u => stores u (chunkAddr d k) v ∧
        given u (d.f 11 23 16) (d.f 11 29 24) 0 f.contrib f.folded)) ∧
    (∀ i, findInst s tag step = some i → i.tag = tag → i.step = step → k < d.chunks → i.checked = true →
      serves s step (chunkOwner s d k) = true → tget? i.delivered k = none → tget? i.outcomes k = none →
      (finalSums s i d k false).isSome = true → finalSums s i d k true = none →
      completes (.reverseWaitExpire tag step k) s (fun u =>
        csrGet u O.mangleCntVoid = min (csrGet s O.mangleCntVoid + 1) 0xFFFFFFFF ∧ u.mem = s.mem ∧
        ∃ j, findInst u tag step = some j ∧ tget? j.outcomes k = some 3)))

/-- INSTANCE_CLOSE, COLL_TIMEOUT, TAG_STAGE_WRITE and TAG_INSTALL complete (R337, R346, R353, R374, R644): an instance with nothing left
to do frees its slot; a move of bytes that takes too long is closed with COLL_TIMEOUT; in IDLE and QUIESCED a descriptor is staged
word by word and installs where it fits. -/
def Obligations.InstancesAndTags : Prop :=
  ∀ (s : State) (tag step n : Nat) (v : BitVec 32) (d : TagDesc) (i : Inst),
    (findInst s tag step = some i → i.tag = tag → i.step = step → descOf s tag = some d →
      (instDone s i d = true → completes (.instanceClose tag step) s (fun u =>
        findInst u tag step = none ∧ tget? u.mangle.keys i.slot = none ∧ u = { s with mangle := u.mangle } ∧
          ∀ t p, (t ≠ tag ∨ p ≠ step) → findInst u t p = findInst s t p)) ∧
      (instDone s i d = false → (d.op = 4 ∨ d.op = 5 ∨ d.op = 6) → hasRoom s 3 → completes (.collTimeout tag step) s (fun u =>
        findInst u tag step = none ∧ queued u 3 0x3003 ∧ u.mem = s.mem ∧ (s.inStep = true → u.pru.dropped = true) ∧
          csrGet u O.mangleCntTimeout = min (csrGet s O.mangleCntTimeout + 1) 0xFFFFFFFF))) ∧
    (tagsOpen s = true →
      let sel := csrBits s O.mangleTagSel 11 0
      (n < 16 → ¬ (n = 0 ∧ v.getLsbD 31 = true) → completes (.tagStageWrite n v) s (fun u => u = stageTag s n v)) ∧
      (tagFits s sel = true → completes .tagInstall s (fun u =>
        tget? u.mangle.desc sel = some ((stagedTag s sel).put 0 31 31 1) ∧ tget? u.mangle.staging sel = none ∧ u.mem = s.mem ∧
          ∀ j, j ≠ sel → tget? u.mangle.desc j = tget? s.mangle.desc j))) ∧
    (tagsOpen s = false → completes (.tagStageWrite n v) s (fun u => u = s) ∧ completes .tagInstall s (fun u => u = s))

/-! ### Mending -/

/-- `keeper_fail` (R395) for a LIVE rank whose copy a LIVE partner holds and whose device holds the copy of `q`: the lowest READY spare
fills it, `q` loses its copy; with no spare it is COVERED and SPARE_NONE is raised; without a copy it is LOST; one that is not LIVE is left. -/
def Obligations.KeeperFail : Prop :=
  ∀ (t : GroupT) (f q : Nat),
    let m := memOf t f
    let ready (r : Nat) : Prop := t.ranks ≤ r ∧ r < t.ranks + t.spares ∧ (memOf t r).st = .ready
    let qc : Change := ⟨q, .live, false, (memOf t q).link⟩
    f < t.ranks →
    (m.st ≠ .live → keeperFail t f = none) ∧
    (m.st = .live → heldBy t f = some q → q ≠ f → (memOf t q).st = .live →
      (m.copy = false ∨ (memOf t m.partner).st ≠ .live → ∃ v, keeperFail t f = some v ∧ v.events = [] ∧
        v.changes = [qc, ⟨f, .lost, m.copy, 0⟩]) ∧
      (m.copy = true → (memOf t m.partner).st = .live →
        (∀ r, ready r → (∀ p, ready p → r ≤ p) → ∃ v, keeperFail t f = some v ∧ v.events = [] ∧
          v.changes = [qc, ⟨f, .filling, true, r⟩, ⟨r, .assigned, (memOf t r).copy, f⟩]) ∧
        ((∀ r, ¬ ready r) → ∃ v, keeperFail t f = some v ∧ v.events = [(0x4003, f)] ∧
          v.changes = [qc, ⟨f, .covered, true, 0⟩])))

/-- DEPART_RX, SUSPECT_RX, SUSPECT_RESEND, PROBE_RX, PROBE_ACK_RX and PROBE_TIMEOUT complete (R392 to R394, R645): the lowest LIVE rank other
than the subject acts, a report to another is passed on once, the subject of a probe answers, a spare also for its standby rank, an answer ends the probe and its
end without one fails the rank. -/
def Obligations.FailureReports : Prop :=
  ∀ (s : State) (h : MendHdr) (t : GroupT) (r k : Nat),
    let s1 := takeMend s h
    let s2 := bump s1 O.groupCntSuspect
    s.mend.table = some t →
    (lowestLiveBut t h.src = some t.self → completes (.departRx h) s (fun u => u = runKeeperFail s1 h.src)) ∧
    (lowestLiveBut t h.src ≠ some t.self → completes (.departRx h) s (fun u => u = s1)) ∧
    (lowestLiveBut t h.subject = some k → k ≠ t.self → h.passed = false → completes (.suspectRx h) s (fun u =>
      u = sendMend s2 k { mendHdr s2 2 h.subject h.step with marked := h.marked, passed := true })) ∧
    (lowestLiveBut t h.subject = some k → k ≠ t.self → h.passed = true → completes (.suspectRx h) s (fun u => u = s2)) ∧
    (lowestLiveBut t h.subject = some t.self → h.marked = true → completes (.suspectRx h) s (fun u =>
      u = runKeeperFail s2 h.subject)) ∧
    (lowestLiveBut t h.subject = some t.self → h.marked = false → notFailed t h.subject = true → completes (.suspectRx h) s (fun u =>
      h.subject ∈ u.mend.probes ∧ u.mend.table = some t ∧ u.mem = s.mem)) ∧
    ((∃ m ∈ s.mend.marks, m.1 = r) → notFailed t r = true → lowestLiveBut t r = some k → completes (.suspectResend r) s (fun u =>
      u = sendMend s k { mendHdr s 2 r 0 with marked := true })) ∧
    (isSelf t h.subject = true → completes (.probeRx h) s (fun u => u = sendMend s1 h.src (mendHdr s1 4 h.subject 0))) ∧
    (isSelf t h.subject = false → completes (.probeRx h) s (fun u => u = s1)) ∧
    (h.subject ∈ s.mend.probes → s.mend.probes.Nodup → addSparesFor s h.subject = [] → completes (.probeAckRx h) s (fun u =>
      h.subject ∉ u.mend.probes ∧ u = { s1 with mend := u.mend } ∧ u.mend.table = some t)) ∧
    (r ∈ s.mend.probes → s.mend.probes.Nodup → addSparesFor s r = [] → completes (.probeTimeout r) s (fun u => ∃ v,
      u = runKeeperFail v r ∧ r ∉ v.mend.probes ∧ v.mend.table = some t ∧
        csrGet v O.groupCntProbeFail = min (csrGet s O.groupCntProbeFail + 1) 0xFFFFFFFF))

/-- NOTICE_RX, NOTICE_ACK_RX, NOTICE_RESEND and COPY_REPORT_RX complete (R395 to R397): the next notice is adopted and acknowledged, one ahead
of its turn is held, an adopted one is acknowledged again; what is not acknowledged is sent again and counted; the keeper notes a copy. -/
def Obligations.NoticesAdopted : Prop :=
  ∀ (s : State) (h : MendHdr) (n : Notice) (t : GroupT),
    let s1 := takeMend s h
    s.mend.table = some t →
    (∀ r c, n.epoch = t.epoch + 1 → n.changes = [⟨r, .covered, c, 0⟩] → n.lost = false → r < t.ranks → t.ranks ≤ t.members.length → r ≠ t.self →
      (memOf t t.self).st = .live → s.mend.held = [] → completes (.noticeRx h n) s (fun u => ∃ v t1, u = ackNotice v n.keeper n.epoch ∧
        v.mend.table = some t1 ∧ t1.epoch = n.epoch ∧ (memOf t1 r).st = .covered ∧ (memOf t1 r).copy = c ∧
        (∀ p, p ≠ r → memOf t1 p = memOf t p) ∧ t1.self = t.self ∧ n ∈ v.mend.adopted ∧ v.mem = s.mem ∧
        csrGet v O.groupCntNotice = min (csrGet s O.groupCntNotice + 1) 0xFFFFFFFF)) ∧
    (t.epoch + 1 < n.epoch → completes (.noticeRx h n) s (fun u => n ∈ u.mend.held ∧ u.mend.table = some t ∧
      u = { s1 with mend := u.mend })) ∧
    (n.epoch ≤ t.epoch → n ∈ s.mend.adopted → completes (.noticeRx h n) s (fun u => u = ackNotice s1 n.keeper n.epoch)) ∧
    completes (.noticeAckRx h) s (fun u => u = { s1 with mend := u.mend } ∧
      ∀ x, x ∈ u.mend.unacked ↔ x ∈ s.mend.unacked ∧ ¬ (acksFor s h.src x.1 = true ∧ x.2.epoch = h.epoch)) ∧
    (∀ d m, s.mend.unacked = [(d, m)] → notFailed t d = true → completes .noticeResend s (fun u =>
      u = bump (sendNotice s d m) O.groupCntResend)) ∧
    (∀ c, t.keeper = t.self → t.epoch ≤ h.epoch → h.subject < t.ranks → t.ranks ≤ t.members.length →
      completes (.copyReportRx h c) s (fun u => ∃ t1, u.mend.table = some t1 ∧ (memOf t1 h.subject).copy = c ∧
        (memOf t1 h.subject).st = (memOf t h.subject).st ∧ (∀ p, p ≠ h.subject → memOf t1 p = memOf t p) ∧
        u = { s1 with mend := u.mend }))

/-- DIGEST_CHECK and DIGEST_RX complete (R382, R383): once the updates of a checked step have reached every chunk, the owner sends the
CRC-64 of its SHARD area to its partner, once memory gives both areas to the check; the partner compares it with that of its copy once it has both, counts the check and, where they
differ, marks the copy invalid. The fills complete (R404 to R414): FILL_REQ_RX, FILL_CHUNK_SEND, which sends first a chunk whose update
waits, FILL_CHUNK_RX, FILL_META_RX, FILL_END_RX, FILL_DONE_RX and SPARE_WAKE_DONE. -/
def Obligations.CopiesAndFills : Prop :=
  (∀ (s : State) (h : MendHdr) (dg : BitVec 64) (t : GroupT) (p k : Nat),
    let s1 := takeMend s h
    let d := crc64 (memGet s t.shardBase t.areaBytes)
    let c := crc64 (memGet s t.copyBase t.areaBytes)
    let held := heldRank t = some h.src ∧ (memOf t h.src).st = .live ∧ (memOf t h.src).copy = true
    let compared (v : State) (mine : BitVec 64) : Prop := csrGet v O.mendCntCheck = min (csrGet s O.mendCntCheck + 1) 0xFFFFFFFF ∧
      v.mend.ownDigest = none ∧ v.mend.rxDigest = none ∧ (mine = dg → v.mend.table = some t ∧ v.mem = s.mem) ∧
      (mine ≠ dg → hasRoom s 2 → queued v 2 0x4005 ∧ v.mem = s.mem ∧
        csrGet v O.mendCntDiverged = min (csrGet s O.mendCntDiverged + 1) 0xFFFFFFFF ∧
        ∃ t1, v.mend.table = some t1 ∧ (memOf t1 h.src).copy = false ∧ t1.epoch = t.epoch)
    let alone : Prop := ∀ x, s.mend.rxDigest ≠ some (k, x)
    let reads (b : Nat) : Prop := mayAccess s 1 false b t.areaBytes = true ∧ mayGo s checkReq b t.areaBytes = true ∧
      upsetsIn s b t.areaBytes = [] ∧ badIn s b t.areaBytes = []
    s.mend.table = some t →
    (partnerOf t t.self = some p → dueStep s = some k → updatesDone s t k = true → reads t.shardBase → reads t.copyBase →
      completes .digestCheck s (fun u => ∃ v,
        u = sendMend v p (mendHdr v 8 t.self k) (.bytes (leBytes 8 d.toNat)) ∧ v.mend.checkedStep = some k ∧
        csrGet v O.mendDigestLo = d.toNat % 2 ^ 32 ∧ csrGet v O.mendDigestHi = d.toNat / 2 ^ 32 ∧
        (held → alone → v.mend.ownDigest = some (k, c) ∧
          csrGet v O.mendCntCheckLost = min (csrGet s O.mendCntCheckLost + b2n s.mend.ownDigest.isSome) 0xFFFFFFFF) ∧
        (alone → v = { s with csr := v.csr, mend := v.mend, hbm := v.hbm }) ∧
        (held → s.mend.rxDigest = some (k, dg) → compared v c))) ∧
    ((dueStep s = none ∨ dueStep s = some k ∧ updatesDone s t k = false) → completes .digestCheck s (fun u => u = s)) ∧
    (t.epoch ≤ h.epoch → heldRank t = some h.src → csrBit s O.mendCtrl 0 = true →
      let holds : State := { s1 with mend := { s1.mend with rxDigest := some (h.step, dg) } }
      (∀ mine, s.mend.ownDigest = some (h.step, mine) → completes (.digestRx h dg) s (fun u => compared u mine)) ∧
      (∀ mine, s.mend.ownDigest = some (k, mine) → k < h.step → completes (.digestRx h dg) s (fun u => u = holds)) ∧
      (∀ mine, s.mend.ownDigest = some (k, mine) → h.step < k → completes (.digestRx h dg) s (fun u => u = s1)) ∧
      (s.mend.ownDigest = none → (∀ k, s.mend.checkedStep = some k → k < h.step) → completes (.digestRx h dg) s (fun u => u = holds)) ∧
      (s.mend.ownDigest = none → s.mend.checkedStep = some k → h.step ≤ k → completes (.digestRx h dg) s (fun u => u = s1)))) ∧
  (∀ (s : State) (h : MendHdr) (t : GroupT) (bs : List Byte) (r : FillRecv) (x : FillSrc),
    let s1 := takeMend s h
    let a := (if h.part = 0 then t.shardBase else t.copyBase) + h.offset
    s.mend.table = some t → t.epoch ≤ h.epoch →
    (h.part = 0 → (memOf t h.subject).partner = t.self → (∀ y ∈ s.mend.srcs, y.ended = true) → completes (.fillReqRx h) s (fun u => ∃ v,
      u = sendMeta v h.src ∧ ⟨1, h.src, h.subject, ownedChunks s h.subject, [], 0, false, (memOf t h.src).link, 0⟩ ∈ v.mend.srcs ∧
        csrGet v O.mendCntFill = min (csrGet s O.mendCntFill + 1) 0xFFFFFFFF ∧ v.mem = s.mem)) ∧
    (∀ c, s.mend.srcs = [x] → x.ended = false → x.waiting.head?.or x.left.head? = some c →
      let a := srcBase t x + Config.chunkOffset c.1 c.2
      let n := chunkBytes s c.1 c.2
      mayAccess s 1 false a n = true →
      (mayGo s ⟨.fill x.target, 2⟩ a n = true → upsetsIn s a n = [] → badIn s a n = [] → completes (.fillChunkSend x.target) s (fun u =>
        u.mend.srcs = [{ x with left := x.left.erase c, waiting := x.waiting.erase c, bytes := x.bytes + n }] ∧ u.mem = s.mem)) ∧
      (mayGo s ⟨.fill x.target, 2⟩ a n = false → completes (.fillChunkSend x.target) s (fun u =>
        u = { s with hbm := u.hbm, power := u.power }))) ∧
    (s.mend.srcs = [x] → x.ended = false → x.waiting = [] → x.left = [] → completes (.fillChunkSend x.target) s (fun u =>
        u.mend.srcs = [{ x with ended := true }] ∧ u.mem = s.mem)) ∧
    (s.mend.recv = some r →
      (mayAccess s 1 true a bs.length = true → mayGo s ⟨.fillIn, 3⟩ a bs.length = false → completes (.fillChunkRx h bs) s (fun u =>
        u = { s with hbm := u.hbm, power := u.power })) ∧
      (mayAccess s 1 true a bs.length = true → mayGo s ⟨.fillIn, 3⟩ a bs.length = true → memWf s.mem = true →
        completes (.fillChunkRx h bs) s (fun u =>
          (∀ y, memRead u.mem y = if a ≤ y ∧ y < a + bs.length then bs.getD (y - a) 0#8 else memRead s.mem y) ∧
            ∃ r1, u.mend.recv = some r1 ∧ r1.bytes = r.bytes + bs.length ∧
              r1.chunks = r.chunks ++ (if h.offset + bs.length < Config.chunkOffset h.tag h.chunk + chunkBytes s h.tag h.chunk
                then [] else [(h.part, h.tag, h.chunk, h.step)]))) ∧
      (r.rebuild = false → (∀ m, r.metaHeld = some m → m ≤ h.step) → r.metaStep = some h.step → r.metaHave.contains h.offset = false →
        (r.metaHave.length < 18 → completes (.fillMetaRx h bs) s (fun u => ∃ r1, u.mend.recv = some r1 ∧
          r1.metaHave = r.metaHave ++ [h.offset] ∧ r1.metaBytes = memWrites r.metaBytes h.offset bs ∧ u = { s1 with mend := u.mend })) ∧
        (r.metaHave.length = 18 → completes (.fillMetaRx h bs) s (fun u => ∃ v, u = spareEnter (installMeta v (memWrites r.metaBytes h.offset bs) r.metaHeld.isSome) ∧
          v = { s1 with mend := v.mend }))) ∧
      (r.rebuild = true → completes (.fillEndRx h) s (fun u => ∃ v t1, u = reportCopy v true ∧ v.mend.recv = none ∧
        v.mend.table = some t1 ∧ ((memOf t r.rank).st ≠ .gone → (memOf t1 r.rank).copy = true) ∧
        csrGet v O.mendCntRebuild = min (csrGet s O.mendCntRebuild + 1) 0xFFFFFFFF)) ∧
      (r.rebuild = false → h.part = 0 → r.heldDone = true → completes (.fillEndRx h) s (fun u => ∃ v,
        u = sendMend v t.keeper (mendHdr v 0xD r.rank 0) ∧ v.mend.recv = some { r with ownDone := true })) ∧
      (s.mend.waking = true → (∀ p ∈ spareDomains s, domRuns s p = true) →
        completes .spareWakeDone s (fun u => ∃ v, u = sendFillReqs v r.rank ∧ v.mend.waking = false ∧ v = { s with mend := v.mend }))) ∧
    (t.keeper = t.self → h.subject < t.ranks → (memOf t h.subject).st = .filling → h.src = (memOf t h.subject).link →
      completes (.fillDoneRx h) s (fun u => ∃ v : Verdict, u = issueNotice s1 v (csrGet s O.mangleStep + 2) ∧ v.events = [] ∧
        ⟨h.subject, .live, true, 0⟩ ∈ v.changes ∧ ⟨(memOf t h.subject).link, .gone, false, 0⟩ ∈ v.changes)))


/-! ### Seam links and optical engines -/

/-- LANE_FAIL, LANE_ERROR_WINDOW, LANE_MAP_RX, SEAM_FORCE_MIN and INTERLEAVE_REFORM_DONE complete (R425 to R429, R432, R438, R447):
the spare takes a failed lane's place, without it the link narrows and re-forms, with fewer than two usable lanes it goes down;
an idle lane is only marked; a count above the threshold fails its lane; a LANE_MAP waits for its flit and then applies; two lanes
carry a link that is shed. LASER_MEASURE, LASER_RECOVER, OE_OVERTEMP and OE_COOLED complete (R453 to R456): an input below
+16.0 dBm is shown low, one below +14.0 dBm is turned off until it is recovered; an engine at 95 °C takes its links down and goes on
below 90 °C. In every other state each of the nine has no effect but what it shows. -/
def Obligations.LinkWidthAndOptics : Prop :=
  (∀ (s : State) (n l : Nat), n < 24 →
    let k := getLink s n
    let failed := setBits k.failed l l 1
    let lock := setBits k.lock l l 0
    let usable := laneCount ((k.active ||| lock) &&& (31 - failed))
    let down (u : State) : Prop := (getLink u n).st = (if csrBit s (O.seamCtrl n) 0 then .training else .off) ∧
      csrGet u (O.seamCntDown n) = min (csrGet s (O.seamCntDown n) + 1) 0xFFFFFFFF
    (l < 5 → k.st = .up → k.failed < 32 →
      (k.active &&& k.failed = 0 → k.reform = false → k.preShed = none → bitOf k.active l = true → 2 ≤ usable →
        (bitOf k.active 4 = false → bitOf failed 4 = false → bitOf lock 4 = true → completes (.laneFail n l) s (fun u =>
          let m := setBits (setBits k.active l l 0) 4 4 1
          getLink u n = { k with failed := failed, lock := lock, active := m } ∧
          u.out = .control n (.laneMap m k.txSeq) k.ack :: s.out ∧
          csrGet u (O.seamCntSpare n) = min (csrGet s (O.seamCntSpare n) + 1) 0xFFFFFFFF ∧ (hasRoom s 1 → queued u 1 0x5001) ∧
          u.mem = s.mem)) ∧
        (bitOf k.active 4 = true ∨ bitOf failed 4 = true ∨ bitOf lock 4 = false → completes (.laneFail n l) s (fun u =>
          let m := setBits k.active l l 0
          getLink u n = { k with failed := failed, lock := lock, active := m, reform := true } ∧
          u.out = .control n (.laneMap m k.txSeq) k.ack :: s.out ∧ (hasRoom s 0 → queued u 0 0x5002) ∧ u.mem = s.mem))) ∧
      (2 ≤ usable → (k.reform = true ∨ k.active &&& k.failed = 0 ∧ bitOf k.active l = false) → completes (.laneFail n l) s (fun u =>
        u = setLink s n { k with failed := failed, lock := lock })) ∧
      (usable < 2 → k.txq = [] → completes (.laneFail n l) s down)) ∧
    ((k.st = .off ∨ k.st = .down ∨ k.st = .up ∧ 5 ≤ l ∧ k.active &&& k.failed = 0 ∧ 2 ≤ k.usable) →
      completes (.laneFail n l) s (fun u => u = s)) ∧
    (∀ x e, l < 5 →
      (x ≤ k.laneThr → completes (.laneErrorWindow n l x e) s (fun u =>
        csrBits u (O.seamLane n l) 19 0 = min x 0xFFFFF ∧
        csrGet u (O.seamCntFecCorr n) = min (csrGet s (O.seamCntFecCorr n) + e) 0xFFFFFFFF ∧ u = { s with csr := u.csr })) ∧
      (k.laneThr < x → completes (.laneErrorWindow n l x e) s (fun u => ∃ v,
        csrBits v (O.seamLane n l) 19 0 = min x 0xFFFFF ∧
        csrGet v (O.seamCntFecCorr n) = min (csrGet s (O.seamCntFecCorr n) + e) 0xFFFFFFFF ∧ v = { s with csr := v.csr } ∧
        exec (.laneFail n l) v = .next u))) ∧
    (∀ m q, k.st ≠ .up → completes (.laneMapRx n m q) s (fun u => u = s)) ∧
    (∀ m q, k.st = .up → k.rxSeq ≠ q → completes (.laneMapRx n m q) s (fun u =>
      u = setLink s n { k with mapNext := some (m, q) })) ∧
    (∀ m, k.st = .up → m < 32 → k.failed < 32 →
      let gone := k.active &&& (31 - m)
      (m = k.active → completes (.laneMapRx n m k.rxSeq) s (fun u => u = setLink s n { k with mapNext := none })) ∧
      (m ≠ k.active → laneCount m < 2 → k.txq = [] → completes (.laneMapRx n m k.rxSeq) s down) ∧
      (m ≠ k.active → 2 ≤ laneCount m → m &&& k.failed = 0 → k.preShed = none → k.reform = false → k.replayDue = false →
        (laneCount m = laneCount k.active → completes (.laneMapRx n m k.rxSeq) s (fun u =>
          getLink u n = { k with active := m, failed := k.failed ||| gone, mapNext := none } ∧ u.out = s.out ∧
          csrGet u (O.seamCntSpare n) = min (csrGet s (O.seamCntSpare n) + 1) 0xFFFFFFFF ∧ (hasRoom s 1 → queued u 1 0x5001))) ∧
        (laneCount m + 1 = laneCount k.active → completes (.laneMapRx n m k.rxSeq) s (fun u =>
          getLink u n = { k with active := m, failed := k.failed ||| gone, reform := true, mapNext := none } ∧ u.out = s.out ∧
          (hasRoom s 0 → queued u 0 0x5002))) ∧
        (laneCount m + 1 < laneCount k.active → completes (.laneMapRx n m k.rxSeq) s (fun u =>
          u = setLink s n { k with active := m, preShed := some k.active, reform := true, mapNext := none })) ∧
        (laneCount k.active < laneCount m → completes (.laneMapRx n m k.rxSeq) s (fun u =>
          u = setLink s n { k with active := m, failed := k.failed &&& (31 - m), mapNext := none })))) ∧
    (k.st = .up → k.preShed = none →
      (2 < laneCount k.active → completes (.seamForceMin n true) s (fun u =>
        csrBit u (O.seamCtrl n) 2 = true ∧
        getLink u n = { k with preShed := some k.active, active := lowestLanes k.active 2, reform := true } ∧
        u.out = .control n (.laneMap (lowestLanes k.active 2) k.txSeq) k.ack :: s.out)) ∧
      (laneCount k.active ≤ 2 → completes (.seamForceMin n true) s (fun u =>
        csrBit u (O.seamCtrl n) 2 = true ∧ getLink u n = { k with preShed := some k.active } ∧ u.out = s.out))) ∧
    ((k.st ≠ .up ∨ k.preShed.isSome = true) → completes (.seamForceMin n true) s (fun u =>
      csrBit u (O.seamCtrl n) 2 = true ∧ u = { s with csr := u.csr })) ∧
    (∀ m, k.st = .up → k.preShed = some m → s.power.level < 3 → m &&& k.failed = 0 → m ≠ k.active → k.failed < 32 →
      2 ≤ laneCount m → completes (.seamForceMin n false) s (fun u =>
        csrBit u (O.seamCtrl n) 2 = false ∧ getLink u n = { k with preShed := none, active := m } ∧
        u.out = .control n (.laneMap m k.txSeq) k.ack :: s.out)) ∧
    ((k.preShed = none ∨ 3 ≤ s.power.level) → completes (.seamForceMin n false) s (fun u =>
      csrBit u (O.seamCtrl n) 2 = false ∧ u = { s with csr := u.csr })) ∧
    (k.st = .up → k.reform = true → k.txq = [] → k.active &&& k.failed = 0 → 2 ≤ k.usable →
      let sent : List Emit := (k.waitCtl.map (fun c => Emit.control n c k.ack)).reverse ++ s.out
      (k.mapNext = none → completes (.interleaveReformDone n) s (fun u =>
        getLink u n = { k with reform := false, waitCtl := [], replayDue := false } ∧
        u.out = (k.unacked.map (fun x => Emit.flit n x.vc x.seq k.ack (x.idx = 0)
          (x.idx + 1 = x.frame.flits) x.frame)).reverse ++ sent)) ∧
      (k.mapNext.isSome = true → completes (.interleaveReformDone n) s (fun u =>
        getLink u n = { k with reform := false, waitCtl := [], replayDue := true } ∧ u.out = sent))) ∧
    ((k.st ≠ .up ∨ k.reform = false) → completes (.interleaveReformDone n) s (fun u => u = s))) ∧
  (∀ (s : State) (e t : Nat) (p q : Option Int),
    let o := getOe s e
    let below (v : Option Int) (x : Int) : Bool := match v with
      | some w => decide (w < x)
      | none => true
    let measured (x : Laser) (v : Option Int) : Laser := ⟨v, below v 1600, x.off || below v 1400⟩
    (o.st ≠ 0 →
      completes (.laserMeasure e p q) s (fun u => getOe u e = { o with a := measured o.a p, b := measured o.b q }) ∧
      ((below p 1400 = false ∨ o.a.off = true) → (below q 1400 = false ∨ o.b.off = true) → completes (.laserMeasure e p q) s (fun u =>
        u.links = s.links ∧ u.out = s.out ∧ u.mem = s.mem ∧
        (hasRoom s 0 → (below p 1600 = true ∧ o.a.low = false ∨ below q 1600 = true ∧ o.b.low = false) → queued u 0 0x7002))) ∧
      (190 ≤ t → o.st ≠ 4 → hasRoom s 2 → completes (.oeOvertemp e t) s (fun u =>
        getOe u e = { o with temp := t, st := 4, back := o.st } ∧ queued u 2 0x7003 ∧ u.mem = s.mem ∧
        ∀ n, n / 3 = e → linkUpNow u n = false)) ∧
      (t < 190 ∨ o.st = 4 → completes (.oeOvertemp e t) s (fun u => u = setOe s e { o with temp := t })) ∧
      (t < 180 → o.st = 4 → completes (.oeCooled e t) s (fun u => u = setOe s e { o with temp := t, st := o.back })) ∧
      (180 ≤ t ∨ o.st ≠ 4 → completes (.oeCooled e t) s (fun u => u = setOe s e { o with temp := t }))) ∧
    (o.st = 0 → completes (.laserMeasure e p q) s (fun u => u = s) ∧ completes (.oeOvertemp e t) s (fun u => u = s) ∧
      completes (.oeCooled e t) s (fun u => u = s)) ∧
    (∀ inputB : Bool,
      let x := if inputB then o.b else o.a
      let y := { x with off := false }
      (∀ w, x.power = some w → x.off = true → 1700 ≤ w → completes (.laserRecover e inputB) s (fun u =>
        u = setOe s e (if inputB then { o with b := y } else { o with a := y }))) ∧
      (x.off = false ∨ below x.power 1700 = true → completes (.laserRecover e inputB) s (fun u => u = s))))

/-- FLIT_RX, NAK_RX, ACK_TIMEOUT, CREDIT_RX, CREDIT_SEND, KEEPALIVE_SEND and LINK_SILENCE complete (R435 to R442): flits are taken in order, a
bad or unexpected one asks once for the expected; acknowledged flits leave the retry buffer and the others are replayed in order;
credits rise by the counts, and more than the buffer holds takes the link down. -/
def Obligations.FlitsAndCredits : Prop :=
  ∀ (s : State) (n : Nat) (f : Flit),
    let k := getLink s n
    let replay (us : List TxFlit) : List Emit := (us.map (fun x =>
      Emit.flit n x.vc x.seq k.ack (x.idx = 0) (x.idx + 1 = x.frame.flits) x.frame)).reverse
    (k.st = .up → f.good = true → f.codeword = 0 → f.kind = 0 → f.ackv = false → f.seq = k.rxSeq → k.mapNext = none →
      completes (.flitRx n f) s (fun u =>
        (getLink u n).rxSeq = (k.rxSeq + 1) % 4096 ∧ (getLink u n).nakSent = false ∧ u.out = s.out ∧
        (∀ fr, f.eof = true → f.frame = some fr → (getLink u n).rxq = k.rxq ++ [(f.vc, fr)]) ∧
        (f.eof = false → (getLink u n).rxq = k.rxq) ∧
        csrGet u (O.seamCntRx n) = min (csrGet s (O.seamCntRx n) + 1) 0xFFFFFFFF ∧ u = { s with links := u.links, csr := u.csr })) ∧
    (k.st = .up → k.nakSent = false → (f.good = false ∨ f.codeword = 2 ∨ f.kind = 0 ∧ f.ackv = false ∧ f.seq ≠ k.rxSeq) →
      completes (.flitRx n f) s (fun u =>
        (k.reform = false → getLink u n = { k with nakSent := true } ∧ u.out = .control n (.nak k.rxSeq) k.ack :: s.out) ∧
        (k.reform = true → getLink u n = { k with nakSent := true, waitCtl := k.waitCtl ++ [.nak k.rxSeq] } ∧ u.out = s.out) ∧
        (f.good = false → f.codeword = 0 → csrGet u (O.seamCntCrc n) = min (csrGet s (O.seamCntCrc n) + 1) 0xFFFFFFFF))) ∧
    (∀ pre x post, k.st = .up → f.good = true → f.codeword = 0 → f.kind = 1 → f.ackv = true → k.txq = [] →
      k.unacked = pre ++ x :: post → x.seq = f.ack → (∀ y ∈ pre, y.seq ≠ f.ack) → completes (.flitRx n f) s (fun u =>
        getLink u n = { k with unacked := post } ∧ u = { s with links := u.links })) ∧
    (∀ pre x post q, k.st = .up → k.reform = false → k.mapNext = none → k.unacked = pre ++ x :: post → x.seq = q → (∀ y ∈ pre, y.seq ≠ q) →
      completes (.nakRx n q) s (fun u => u.out = replay (x :: post) ++ s.out ∧
        csrGet u (O.seamCntRetry n) = min (csrGet s (O.seamCntRetry n) + 1) 0xFFFFFFFF ∧ u.links = s.links)) ∧
    (k.st = .up → k.reform = false → k.mapNext = none → k.unacked ≠ [] → completes (.ackTimeout n) s (fun u =>
      u.out = replay k.unacked ++ s.out ∧ u.links = s.links)) ∧
    (k.st = .up → (k.reform = true ∨ k.mapNext.isSome = true) →
      completes (.ackTimeout n) s (fun u => u = setLink s n { k with replayDue := true }) ∧
      ∀ q, completes (.nakRx n q) s (fun u => u = setLink s n { k with replayDue := true })) ∧
    (∀ counts, k.st = .up → k.txq = [] →
      let up (v : Nat) : Nat := k.credits.getD v 0 + (counts.getD v 0 + 65536 - k.lastCount.getD v 0) % 65536
      ((∀ v, v < 4 → up v ≤ k.cfg.getD v 0) → completes (.creditRx n counts) s (fun u =>
        (∀ v, v < 4 → (getLink u n).credits.getD v 0 = up v) ∧ (getLink u n).lastCount = counts ∧
          u = { s with links := u.links })) ∧
      ((∃ v, v < 4 ∧ k.cfg.getD v 0 < up v) → hasRoom s 2 → completes (.creditRx n counts) s (fun u =>
        (getLink u n).st ≠ .up ∧ queued u 2 0x5005 ∧ u.mem = s.mem))) ∧
    (k.st = .up → k.reform = false → k.freed ≠ k.reported → completes (.creditSend n) s (fun u =>
      getLink u n = { k with reported := k.freed } ∧ u.out = .control n (.credit k.freed) k.ack :: s.out ∧
        u = { s with links := u.links, out := u.out })) ∧
    (linkUpNow s n = true → k.reform = false → completes (.keepaliveSend n) s (fun u =>
      u = { s with out := .control n .keepalive k.ack :: s.out })) ∧
    (k.reform = true → completes (.creditSend n) s (fun u => u = s) ∧ completes (.keepaliveSend n) s (fun u => u = s)) ∧
    (linkUpNow s n = true → k.txq = [] → completes (.linkSilence n) s (fun u =>
      (getLink u n).st = (if csrBit s (O.seamCtrl n) 0 then .training else .off) ∧ (hasRoom s 0 → queued u 0 0x5003) ∧
        csrGet u (O.seamCntDown n) = min (csrGet s (O.seamCntDown n) + 1) 0xFFFFFFFF ∧ u.mem = s.mem))

/-- FRAME_RX completes (R350, R391, R435, R448 to R450, R505): a frame for this device is delivered and its slots are freed, but for those of
a mangle frame, which keeps them; a mend frame of a reserved kind is discarded and counted; one for another is forwarded
with a lower TTL, and discarded with its event at TTL 0; one on a wrong VC is discarded and counted. -/
def Obligations.FramesForwarded : Prop :=
  ∀ (s : State) (n vc : Nat) (f : LinkFrame) (rest : List (Nat × LinkFrame)),
    let k := getLink s n
    let s1 := setLink s n { k with rxq := rest }
    let freed := setLink s n { k with rxq := rest, freed := k.freed.set vc ((k.freed.getD vc 0 + f.flits) % 65536) }
    k.rxq = (vc, f) :: rest →
    (f.body.proto ≠ 0 → f.body.vc = vc → frameForUs s f = true → f.proto ≠ 4 →
      (reservedKind f.body = true → completes (.frameRx n) s (fun u => u = bump freed O.groupCntBadFrame)) ∧
      (reservedKind f.body = false → f.proto = 1 → completes (.frameRx n) s (fun u =>
        u = { s1 with inbox := s.inbox ++ [⟨f, some n⟩] })) ∧
      (reservedKind f.body = false → f.proto ≠ 1 → completes (.frameRx n) s (fun u =>
        u = { freed with inbox := s.inbox ++ [⟨f, none⟩] }))) ∧
    (f.body.proto ≠ 0 → f.body.vc = vc → frameForUs s f = false → s.mend.table ≠ none → f.ttl ≠ 0 → completes (.frameRx n) s (fun u =>
      u = sendOn (if wayOf s f.dst = .none then s1 else bump s1 (O.seamCntFwd n)) vc { f with ttl := f.ttl - 1 } (some n))) ∧
    (n < 24 → f.body.proto ≠ 0 → f.body.vc = vc → frameForUs s f = false → s.mend.table ≠ none → f.ttl = 0 →
      completes (.frameRx n) s (fun u => u.links = freed.links ∧ u.inbox = s.inbox ∧ (hasRoom s 0 → queued u 0 0x5007) ∧
        csrGet u (O.seamCntDiscard n) = min (csrGet s (O.seamCntDiscard n) + 1) 0xFFFFFFFF)) ∧
    (n < 24 → (f.body.proto = 0 ∨ f.body.vc ≠ vc) → completes (.frameRx n) s (fun u =>
      u = bump freed (O.seamCntDiscard n)))

/-- The training commands complete (R444 to R446, R640, R641): OPTICAL_READY, LANE_LOCK, EQUALISATION, FEC_LOCK, LINK_ID_RESEND, LINK_ID_RX, LINK_UP,
TRAINING_TIMEOUT, SEAM_RETRAIN and SEAM_ENABLE take a link through its stages, up, and back to the start. -/
def Obligations.LinkTraining : Prop :=
  ∀ (s : State) (n m : Nat) (a b : BitVec 32),
    let k := getLink s n
    let o := getOe s (n / 3)
    let lit := m % 32 &&& (31 - darkLanes s n)
    let sent (u : State) : Prop := u.out = .control n (.credit k.freed) k.ack :: .control n (ownLinkId s n) k.ack :: s.out ∧
      (getLink u n).reported = k.freed
    let restarted (u : State) : Prop := (getLink u n).st = .training ∧ (getLink u n).stage = .optical ∧ (getLink u n).unacked = [] ∧
      (getLink u n).txSeq = 0 ∧ (getLink u n).rxSeq = 0 ∧ (getLink u n).cfg = vcSizes s n ∧ u.mem = s.mem
    (k.st = .training →
      (k.stage = .optical → (o.st = 2 ∨ o.st = 3) → completes (.opticalReady n) s (fun u =>
        getLink u n = { k with stage := .lock } ∧ getOe u (n / 3) = { o with st := 3 } ∧ u = { s with links := u.links, oes := u.oes })) ∧
      (k.stage = .lock → 2 ≤ laneCount lit → completes (.laneLock n m) s (fun u =>
        u = setLink s n { k with lock := lit, active := lowestLanes lit 4, failed := 31 - lit, stage := .equalise })) ∧
      (k.stage = .lock → laneCount lit < 2 → completes (.laneLock n m) s restarted) ∧
      (k.stage = .equalise → completes (.equalisation n) s (fun u => u = setLink s n { k with stage := .fec })) ∧
      (k.stage = .fec → completes (.fecLock n) s (fun u => sent u ∧ (getLink u n).stage = .identity)) ∧
      (k.stage = .identity → completes (.linkIdResend n) s (fun u => sent u ∧ (getLink u n).stage = .identity)) ∧
      (k.stage = .identity → completes (.linkIdRx n a b) s (fun u => (getLink u n).gotId = true ∧
        csrGet u (O.seamPartnerB n) = a.toNat ∧ csrBits u (O.seamPartnerA n) 13 0 = bitsOf b.toNat 13 0 ∧
        csrBits u (O.seamPartnerA n) 21 16 = bitsOf b.toNat 21 16 % 2 ^ 6 ∧ csrBit u (O.seamPartnerA n) 31 = true)) ∧
      (k.stage = .identity → k.gotId = true → k.gotCredit = true → k.credits = k.cfg → laneCount k.active = 4 →
        csrBit s (O.seamCtrl n) 2 = false → s.power.level < 3 → completes (.linkUp n) s (fun u =>
          getLink u n = { k with st := .up } ∧ (hasRoom s 0 → queued u 0 0x5004) ∧ u.mem = s.mem)) ∧
      completes (.trainingTimeout n) s restarted) ∧
    (k.st = .off → csrBit s (O.seamCtrl n) 0 = true → completes (.seamRetrain n) s restarted) ∧
    (k.st ≠ .off → k.txq = [] → csrBit s (O.seamCtrl n) 0 = true → completes (.seamRetrain n) s restarted) ∧
    (k.st = .off → completes (.seamEnable n true) s (fun u => restarted u ∧ csrBit u (O.seamCtrl n) 0 = true)) ∧
    (k.st ≠ .off → k.txq = [] → completes (.seamEnable n false) s (fun u =>
      (getLink u n).st = .off ∧ csrBit u (O.seamCtrl n) 0 = false ∧ u.mem = s.mem))


/-! ### Ethernet ports and RoCE -/

/-- PORT_LINK_UP and PORT_LINK_DOWN complete (R461, R469, R470, R500), and the address commands ARP_ND_RX, ICMP_ECHO_RX, DHCP_REPLY_RX, DHCP_RENEW,
DHCP_LEASE_EXPIRE and ROUTER_ADVERT_RX (R470 to R472): a link that comes up starts the DHCP client, one that goes down loses what it carried; a
target that is the port's own address is answered through the queue of PCP 0 (log entry 95 is the model's choice of that PCP); a lease sets the address registers and its end clears them. -/
def Obligations.PortsAndAddresses : Prop :=
  (∀ (s : State) (p : Nat),
    let x := getPort s p
    (portPresent s p = true → portRuns s p = true → s.dev ≠ .boot → x.up = false → completes (.portLinkUp p) s (fun u =>
      getPort u p = { x with up := true } ∧ (∀ k, k ≠ p → getPort u k = getPort s k) ∧ (hasRoom s 0 → queued u 0 0x6001) ∧
      (csrBit s O.ethCtrl 2 = true → csrGet s (O.ethpIpv4Addr p) = 0 → u.out.head? = some (.dhcp p 2 (dhcpClient p) [1, 3, 51])) ∧ u.mem = s.mem)) ∧
    (x.up = true → completes (.portLinkDown p) s (fun u =>
      getPort u p = { x with up := false, fill := [], xoff := [], held := [] } ∧ (∀ k, k ≠ p → getPort u k = getPort s k) ∧
      (p < 8 → ∀ q, q < 8 → getEgress u p q = []) ∧ (hasRoom s 0 → queued u 0 0x6002) ∧ u.mem = s.mem))) ∧
  (∀ (s : State) (p a b len : Nat) (bs : List Byte) (l : Lease),
    let x := getPort s p
    let q := queueOf s p 0
    let sends (u : State) (m : Emit) : Prop := u.out = m :: s.out ∧ getEgress u p q = getEgress s p q ++ m.ethFrames s ∧ u.wire = s.wire ∧
      u = { s with ports := u.ports, out := u.out, egress := u.egress }
    (portUpNow s p = true →
      (ownAddress s p a = true → completes (.arpNdRx p a b) s (fun u =>
        sends u (.neighbour p a b) ∧ (getPort u p).neighbours.head? = some b ∧ (getPort u p).neighbours.length ≤ 256 ∧
        (∀ k, k ≠ p → getPort u k = getPort s k))) ∧
      (csrBit s O.ethCtrl 0 = true → bs.length = len → len ≤ 1472 → completes (.icmpEchoRx p a len bs) s (fun u =>
        sends u (.echo p a bs) ∧ u.ports = s.ports)) ∧
      (dhcpRuns s p = true → x.lease ≠ some l → p < 8 → completes (.dhcpReplyRx p l) s (fun u =>
        getPort u p = { x with lease := some l } ∧ csrGet u (O.ethpIpv4Addr p) = l.addr % 2 ^ 32 ∧
        csrBits u (O.ethpIpv4Plen p) 5 0 = l.plen % 64 ∧ csrGet u (O.ethpIpv4Gw p) = l.gw % 2 ^ 32 ∧
        (x.lease = none → .dhcp p 0 (dhcpClient p) [1, 3, 51] ∈ u.out) ∧ (hasRoom s 0 → queued u 0 0x6003) ∧ u.mem = s.mem)) ∧
      (x.lease.isSome = true → completes (.dhcpRenew p) s (fun u =>
        sends u (.dhcp p 0 (dhcpClient p) [1, 3, 51]) ∧ u.ports = s.ports)) ∧
      completes (.routerAdvertRx p) s (fun u => ∃ g, getPort u p = { x with router := some g } ∧
        u = { s with ports := u.ports, freeCtr := u.freeCtr })) ∧
    (x.lease.isSome = true → p < 8 → completes (.dhcpLeaseExpire p) s (fun u =>
      getPort u p = { x with lease := none } ∧ csrGet u (O.ethpIpv4Addr p) = 0 ∧ csrGet u (O.ethpIpv4Gw p) = 0 ∧
      (hasRoom s 0 → queued u 0 0x6003) ∧ u.mem = s.mem)))

/-- ETH_FRAME_RX, PFC_REFRESH, PFC_FRAME_RX and PFC_QUANTA_EXPIRE complete (R460, R463 to R467, R469, R473): a good frame is counted and fills the
queue of its PCP; XOFF goes out at once above 75 % of 256 KiB and XON below 50 %; an XOFF received holds its egress queues until it expires.
And the order in which a port serves its egress queues (R465): Q0, then Q1, then Q2 and Q3 in turn, then Q4 to Q7 in turn. -/
def Obligations.FramesReceived : Prop :=
  (∀ (s : State) (p : Nat) (f : EthFrame),
    let x := getPort s p
    let q := queueOf s p (framePcp s p f)
    let n := f.fill + f.len
    let got (u : State) : Prop := csrGet u (O.ethpRxFrames p) = min (csrGet s (O.ethpRxFrames p) + 1) 0xFFFFFFFF
    portUpNow s p = true →
    (f.len ≤ 9216 → f.fcsOk = true → acceptsTags s p f.vids = true → misqueued s q f = false → droppedByIp s p f = false →
      (pfcOn s p q = false → (q ≠ 0 ∨ n ≤ 262144) → completes (.ethFrameRx p f) s (fun u => got u ∧
        u = { s with csr := u.csr, ports := u.ports } ∧
        getPort u p = { x with fill := tset x.fill q n, xoff := x.xoff.filter (fun y => decide (y ≠ q)) })) ∧
      (pfcOn s p q = true → 131072 ≤ n → n ≤ 196608 → completes (.ethFrameRx p f) s (fun u => got u ∧
        u = { s with csr := u.csr, ports := u.ports } ∧ getPort u p = { x with fill := tset x.fill q n })) ∧
      (pfcOn s p q = true → 196608 < n → x.xoff.contains q = false → completes (.ethFrameRx p f) s (fun u => got u ∧
        u.out = .pfc p q true :: s.out ∧ u.wire = (Emit.pfc p q true).ethFrames s ++ s.wire ∧
        getPort u p = { x with fill := tset x.fill q n, xoff := x.xoff ++ [q] }))) ∧
    ((9216 < f.len ∨ f.fcsOk = false) → completes (.ethFrameRx p f) s (fun u => u = bump s (O.ethpRxErr p))) ∧
    (f.len ≤ 9216 → f.fcsOk = true → acceptsTags s p f.vids = false → completes (.ethFrameRx p f) s (fun u =>
      u = bump (bump s (O.ethpRxFrames p)) (O.ethpRxDrop p))) ∧
    (∀ k m, k < 8 → pfcOn s p k = true → x.xoff.contains k = true → 131072 ≤ m → completes (.pfcRefresh p k m) s (fun u =>
      u.out = .pfc p k true :: s.out ∧ u.wire = (Emit.pfc p k true).ethFrames s ++ s.wire ∧ getPort u p = { x with fill := tset x.fill k m } ∧
      csrGet u (O.ethpPfcTx p) = min (csrGet s (O.ethpPfcTx p) + 1) 0xFFFFFFFF)) ∧
    (∀ k m, k < 8 → pfcOn s p k = true → x.xoff.contains k = true → x.xoff.Nodup → s.power.level = 0 → m < 131072 →
      completes (.pfcRefresh p k m) s (fun u =>
        u.out = .pfc p k false :: s.out ∧ u.wire = (Emit.pfc p k false).ethFrames s ++ s.wire ∧ getPort u p = { x with fill := tset x.fill k m, xoff := x.xoff.erase k })) ∧
    (∀ k m, k < 8 → pfcOn s p k = false → completes (.pfcRefresh p k m) s (fun u =>
      u = setPort s p { x with fill := tset x.fill k m, xoff := x.xoff.filter (fun y => decide (y ≠ k)) })) ∧
    (∀ ks, completes (.pfcFrameRx p ks) s (fun u => got u ∧ u = { s with csr := u.csr, ports := u.ports } ∧
      ∀ k, k ∈ (getPort u p).held ↔ k ∈ x.held ∨ (k ∈ ks ∧ k < 8 ∧ pfcOn s p k = true))) ∧
    (∀ k, x.held.contains k = true → completes (.pfcQuantaExpire p k) s (fun u =>
      u = setPort s p { x with held := x.held.erase k }))) ∧
  (∀ (s : State) (p : Nat),
    let r (q : Nat) : Bool := egressReady s p q
    (r 0 = true → nextEgress s p = some 0) ∧
    (r 0 = false → r 1 = true → nextEgress s p = some 1) ∧
    (r 0 = false → r 1 = false →
      (r 2 = true → r 3 = true → nextEgress s p = some (if tget s.egressTurn (2 * p) 3 = 2 then 3 else 2)) ∧
      (r 2 = true → r 3 = false → nextEgress s p = some 2) ∧ (r 2 = false → r 3 = true → nextEgress s p = some 3) ∧
      (r 2 = false → r 3 = false → (∀ q, q < 8 → r q = false) → nextEgress s p = none) ∧
      (r 2 = false → r 3 = false → ∀ q t, tget s.egressTurn (2 * p + 1) 7 = t → 4 ≤ t → t < 8 → 4 ≤ q → q < 8 → r q = true →
        (∀ k, 1 ≤ k → k < (q + 3 - t) % 4 + 1 → r (4 + (t + k) % 4) = false) → nextEgress s p = some q)) ∧
    (∀ q e rest, portUpNow s p = true → nextEgress s p = some q → getEgress s p q = e :: rest →
      let u := serveEgress s p
      u.wire = e :: s.wire ∧ getEgress u p q = rest ∧ u.out = s.out ∧ u.mem = s.mem ∧
        (∀ k, k ≠ q → k < 8 → getEgress u p k = getEgress s p k) ∧
        (q = 2 ∨ q = 3 → tget u.egressTurn (2 * p) 3 = q) ∧ (4 ≤ q → tget u.egressTurn (2 * p + 1) 7 = q)))

/-- ROCE_WRITE_RX and ROCE_READ_RX complete (R317, R320, R474 to R477, R479, R539): a packet in sequence within its open window reads
or writes memory and advances its queue pair, or waits for its domain or its turn at a stack; one that the checks refuse is answered
by a NAK, and its queue pair enters the error state with QP_ERROR; after a hard fence packets are dropped. How the packet sequence is
kept (a NAK that names the missing PSN, an ACK for a WRITE executed before) is the model's choice, log entry 38. -/
def Obligations.RdmaMovesData : Prop :=
  ∀ (s : State) (k : RocePkt) (x : QP) (r : Nat),
    let goes (n : Nat) : Prop := mayGo s (pairReq k) k.addr n = true
    let next (n : Nat) (m : Option WriteMsg) (done : Nat) : QP :=
      { x with recvPsn := (k.psn + n) % 2 ^ 24, nakSent := false, msg := m, msn := (x.msn + done) % 2 ^ 24
               taken := x.taken.filter (fun t => decide (t.psn ≠ k.psn)) }
    let pairNow (u : State) (y : QP) : Prop := tget? u.wcp.qps k.qpn = some y
    portUpNow s k.port = true → csrBit s O.ethCtrl 1 = true →
    (s.err.hard = true → s.dev = .fenced → completes (.roceWriteRx k) s (fun u => u = bump s O.ethCntRoceDrop) ∧
      completes (.roceReadRx k r) s (fun u => u = bump s O.ethCntRoceDrop)) ∧
    ((s.err.hard = false ∨ s.dev ≠ .fenced) → tget? s.wcp.qps k.qpn = some x → x.connected = true → x.error = false →
      k.icrcOk = true → k.ce = false → x.msn < 2 ^ 24 →
      (k.supported = true → (psnAhead k x = 0 ∨ x.holds k = true) →
        (k.place = 3 → x.msg = none → k.data.length = k.len → roceMay s k.rkey (x.holds k) true k.addr k.len = true →
          (goes k.len → upsetsIn s k.addr k.len = [] → completes (.roceWriteRx k) s (fun u => u.mem = (memPut s k.addr k.data).mem ∧
            u.out = .roce k.port k.qpn 0 k.psn ((x.msn + 1) % 2 ^ 24) [] :: s.out ∧ pairNow u (next 1 none 1) ∧
            u = { s with mem := u.mem, bad := u.bad, upsets := u.upsets, ccache := u.ccache, cacheErr := u.cacheErr, cores := u.cores
                         hbm := u.hbm, csr := u.csr, out := u.out, egress := u.egress, wcp := u.wcp })) ∧
          (¬ goes k.len → completes (.roceWriteRx k) s (fun u => u = { s with hbm := u.hbm, power := u.power, wcp := u.wcp } ∧
            pairNow u (x.take k k.rkey false)))) ∧
        (k.place = 0 → x.msg = none → k.data.length < k.len → roceMay s k.rkey (x.holds k) true k.addr k.data.length = true →
          goes k.data.length → upsetsIn s k.addr k.data.length = [] → completes (.roceWriteRx k) s (fun u => u.mem = (memPut s k.addr k.data).mem ∧ u.out = s.out ∧
            pairNow u (next 1 (some ⟨k.rkey, k.addr + k.data.length, k.len - k.data.length⟩) 0))) ∧
        (k.place = 3 → x.msg = none → k.data.length = k.len → roceMay s k.rkey (x.holds k) true k.addr k.len = false → hasRoom s 2 →
          completes (.roceWriteRx k) s (fun u => u.mem = s.mem ∧ queued u 2 0x6005 ∧
            pairNow u { x with error := true, msg := none, taken := [] } ∧ .roce k.port k.qpn 2 k.psn x.msn [] ∈ u.out)) ∧
        ((x.holds k = true ∨ max r x.reads.length < 16) → 0 < k.len → k.len ≤ x.mtu →
          roceMay s k.rkey (x.holds k) false k.addr k.len = true →
          (goes k.len → x.reads.all (fun t => decide (t.psn = k.psn)) = true → upsetsIn s k.addr k.len = [] → badIn s k.addr k.len = [] →
            completes (.roceReadRx k r) s (fun u =>
              u.out = .roce k.port k.qpn 4 (k.psn % 2 ^ 24) ((x.msn + 1) % 2 ^ 24) (memGet s k.addr k.len) :: s.out ∧
              (x.holds k = false → pairNow u (next 1 x.msg 1)) ∧
              u = { s with hbm := u.hbm, out := u.out, egress := u.egress, wcp := u.wcp })) ∧
          (¬ goes k.len → completes (.roceReadRx k r) s (fun u => u = { s with hbm := u.hbm, power := u.power, wcp := u.wcp } ∧
            ∃ y, pairNow u y ∧ y.holds k = true)))) ∧
      (x.holds k = false → psnAhead k x ≠ 0 →
        (psnAhead k x < 2 ^ 23 → x.nakSent = false → completes (.roceWriteRx k) s (fun u => u.mem = s.mem ∧
          u.out = .roce k.port k.qpn 6 x.recvPsn x.msn [] :: s.out ∧ pairNow u { x with nakSent := true })) ∧
        (2 ^ 23 ≤ psnAhead k x → completes (.roceWriteRx k) s (fun u => u.mem = s.mem ∧ u.wcp = s.wcp ∧
          u.out = .roce k.port k.qpn 0 ((x.recvPsn + (2 ^ 24 - 1)) % 2 ^ 24) x.msn [] :: s.out))))

/-! ### WCP: transport, sessions, registers, jobs, memory and windows -/

/-- A response (R484, R492): it goes to the address its session last used, its session holds it among its last 64, and nothing else of the
device changes but an egress queue of its port. -/
def Obligations.ResponsesKept : Prop :=
  ∀ (s : State) (n : Request) (st detail : Nat) (body : List Byte),
    let u := respond s n st detail body
    answered s u n st detail body ∧
    u = { s with wcp := u.wcp, out := u.out, egress := u.egress } ∧
    u.wcp = { s.wcp with sessions := u.wcp.sessions } ∧
    u.wcp.sessions.map (fun y => y.id) = s.wcp.sessions.map (fun y => y.id) ∧
    ∀ y ∈ u.wcp.sessions, y.id = n.session → n.session ≠ 0 → y.cache.length ≤ 64

/-- WCP_DATAGRAM_RX, FRAG_TIMEOUT, SESSION_IDLE_TIMEOUT and NOTIFY_RESEND complete (R482 to R485, R488, R489, R492, R497): a new request joins the
queue, or is answered UNKNOWN_OPCODE where Table 7 does not list it (at receipt: the model's choice, log entry 104), a
repeated one is answered from the session's responses without executing again, and a datagram without a valid tag is counted. -/
def Obligations.DatagramsTaken : Prop :=
  ∀ (s : State) (d : Datagram) (x : Session),
    let r : Request := ⟨d.session, d.seq, d.opcode, d.bind⟩
    (portUpNow s d.bind.port = true → badDatagram s d = true → completes (.wcpDatagramRx d) s (fun u => u = bump s O.ethCntBadTag)) ∧
    (portUpNow s d.bind.port = true → badDatagram s d = false → d.count ≤ 1 → datagramFits d = true → d.session ≠ 0 →
      findSession s d.session = some x → d.seq ≤ 2 ^ 63 →
      (x.accepted.contains d.seq = false → x.highest < d.seq + 64 → s.wcp.queue.length < 32 → knownOpcode d.opcode = false →
        completes (.wcpDatagramRx d) s (fun u => u.wcp.queue = s.wcp.queue ∧
          u.out.head? = some (.resp d.bind d.session d.seq d.opcode stUnknownOpcode 0 []))) ∧
      (x.accepted.contains d.seq = false → x.highest < d.seq + 64 → s.wcp.queue.length < 32 → knownOpcode d.opcode = true →
        completes (.wcpDatagramRx d) s (fun u =>
        u.wcp.queue = s.wcp.queue ++ [r] ∧ u = { s with wcp := u.wcp } ∧
        ∃ y, findSession u d.session = some y ∧ y.bind = d.bind ∧ y.highest = max x.highest d.seq ∧ d.seq ∈ y.accepted)) ∧
      (x.accepted.contains d.seq = false → x.highest < d.seq + 64 → 32 ≤ s.wcp.queue.length → completes (.wcpDatagramRx d) s (fun u =>
        u.wcp.queue = s.wcp.queue ∧ u.out.head? = some (.resp d.bind d.session d.seq d.opcode stQueueFull 0 []))) ∧
      (∀ c, x.accepted.contains d.seq = true → x.cache.find? (fun c => decide (c.seq = d.seq)) = some c →
        completes (.wcpDatagramRx d) s (fun u => u.wcp.queue = s.wcp.queue ∧
          u.out.head? = some (.resp d.bind d.session c.seq c.opcode c.status c.detail c.body) ∧
          csrGet u O.ethCntDup = min (csrGet s O.ethCntDup + 1) 0xFFFFFFFF))) ∧
    (∀ k n, findSession s k = some x → k ≠ 0 → x.reasm.any (fun m => decide (m.seq = n)) = true → completes (.fragTimeout k n) s (fun u =>
      (∃ y, findSession u k = some y ∧ y.reasm = x.reasm.filter (fun m => decide (m.seq ≠ n))) ∧
      csrGet u O.ethCntFragDrop = min (csrGet s O.ethCntFragDrop + 1) 0xFFFFFFFF ∧ u = { s with wcp := u.wcp, csr := u.csr })) ∧
    (∀ k, findSession s k = some x → completes (.sessionIdleTimeout k) s (fun u =>
      (∀ y ∈ u.wcp.sessions, y.id ≠ k) ∧ u.wcp.queue = s.wcp.queue.filter (fun r => decide (r.session ≠ k)) ∧
      (hasRoom s 0 → queued u 0 0x6004) ∧ u.mem = s.mem)) ∧
    (∀ k m ms, findSession s k = some x → x.notes = m :: ms → completes (.notifyResend k) s (fun u =>
      u.out = .notify x.bind x.id m :: s.out ∧ u = { s with out := u.out, egress := u.egress }))

/-- The session commands complete (R486 to R488, R495, R497): HELLO, CERTS, OPEN, CLOSE, IDENTIFY, PING and NOTIFY_ACK. A nonce is held, and used up
by an OPEN; a session opens for a current nonce, an authorised key and a signature that holds, and is refused AUTH without them. -/
def Obligations.SessionCommands : Prop :=
  ∀ (s : State) (q : WcpReq) (n : Request) (o : OpenArgs) (off upTo : Nat) (bs : List Byte) (x : Session),
    let b (op : Nat) : State := begun s q op n
    (upNext s q 1 false n → completes (.hello q) s (fun u =>
      u.wcp.nonces = (b 1).wcp.nonces ++ [⟨Config.nonce (b 1).freeCtr, (b 1).cycle⟩] ∧ u.freeCtr = (b 1).freeCtr + 1 ∧ u.mem = (b 1).mem ∧
      answered (b 1) u n stOk 0 (digestBytes (Config.nonce (b 1).freeCtr) ++ digestBytes Config.identity ++ leBytes 4 romLevel))) ∧
    (upNext s q 2 false n → completes (.certs q off) s (fun u =>
      u = respond (b 2) n stOk 0 (leBytes 4 Config.certChain.length ++ (Config.certChain.drop off).take 8192))) ∧
    (upNext s q 3 false n → q.session = 0 →
      (∀ k, nonceCurrent (b 3) o.nonce = true → hostKeyOk (b 3) o.hostKey = true → o.sigOk = true → k < 8 →
        (∀ y ∈ (b 3).wcp.sessions, y.slot ≠ k) → completes (.wcpOpen q o) s (fun u =>
          (∃ y ∈ u.wcp.sessions, y.id = nextSession (b 3) ∧ y.bind = n.bind ∧ y.hostKey = o.hostKey ∧ y.slot < 8 ∧ y.accepted = [] ∧
            y.keyIn = (openKeys (nextSession (b 3)) (b 3).freeCtr o).take 32 ∧ y.keyOut = (openKeys (nextSession (b 3)) (b 3).freeCtr o).drop 32) ∧
          (∀ m ∈ u.wcp.nonces, m.nonce ≠ o.nonce) ∧ u.wcp.lastId = nextSession (b 3) ∧ (hasRoom (b 3) 0 → queued u 0 0x8001) ∧
          u.out.head? = some (.resp n.bind 0 n.seq n.opcode stOk 0 (openBody (nextSession (b 3)) (b 3).freeCtr o)))) ∧
      ((nonceCurrent (b 3) o.nonce = false ∨ hostKeyOk (b 3) o.hostKey = false ∨ o.sigOk = false) → completes (.wcpOpen q o) s (fun u =>
        u.wcp.sessions.map (fun y => y.id) = (b 3).wcp.sessions.map (fun y => y.id) ∧ (hasRoom (b 3) 0 → queued u 0 0x8002) ∧
        answered (b 3) u n stAuth 0 [] ∧
        csrGet u O.secCntAuthFail = min (csrGet (b 3) O.secCntAuthFail + 1) 0xFFFFFFFF))) ∧
    (upNext s q 4 false n → n.session ≠ 0 → findSession (b 4) n.session = some x → completes (.wcpClose q) s (fun u =>
      (∀ y ∈ u.wcp.sessions, y.id ≠ n.session) ∧ .resp x.bind x.id n.seq n.opcode stOk 0 [] ∈ u.out ∧ u.mem = (b 4).mem)) ∧
    (upNext s q 5 false n → completes (.identify q) s (fun u => u = respond (b 5) n stOk 0 (identifyBody (b 5)))) ∧
    (upNext s q 7 false n → bs.length ≤ 1024 → completes (.ping q bs) s (fun u => u = respond (b 7) n stOk 0 bs)) ∧
    (upNext s q 8 false n → findSession (b 8) n.session = some x → completes (.notifyAck q upTo) s (fun u =>
      u = setSession (b 8) { x with notes := x.notes.filter (fun m => decide (upTo < m.num)) }))

/-- The register, job and group commands complete (R243, R384, R418, R448, R493 to R496): REG_READ, REG_WRITE, REG_READ_SEQ, JOB_STATUS, QUIESCE,
RESUME, GROUP_STATUS, MARK_FAILED, ADD_SPARE, GROUP_RELEASE and ROUTE_SET, each in the states that accept it. -/
def Obligations.JobCommands : Prop :=
  ∀ (s : State) (q : WcpReq) (n : Request) (off first count step rank : Nat) (v e : BitVec 32) (t : GroupT),
    let b (op : Nat) : State := begun s q op n
    let reader (op : Nat) : Nat := readerOf (b op) n
    (upNext s q 0x501 false n → off % 4 = 0 → completes (.regRead q [off]) s (fun u =>
      u = respond (csrRead (b 0x501) (reader 0x501) off).1 n stOk 0 (leBytes 4 (csrRead (b 0x501) (reader 0x501) off).2))) ∧
    (upNext s q 0x502 false n → s.dev ≠ .fenced → off % 4 = 0 → completes (.regWrite q [(off, v)]) s (fun u =>
      u = respond (csrWrite (b 0x502) off v).1 n (csrWrite (b 0x502) off v).2 0)) ∧
    (upNext s q 0x503 false n → 0 < count → count ≤ 1024 → first % 4 = 0 → completes (.regReadSeq q first count) s (fun u =>
      let a := readRegs (reader 0x503) ((List.range count).map (fun i => first + 4 * i)) (b 0x503)
      u = respond a.1 n stOk 0 a.2)) ∧
    (upNext s q 0x301 false n → completes (.jobStatus q) s (fun u => u = respond (b 0x301) n stOk 0
      (leBytes 4 (csrValue (b 0x301) O.globalState) ++ leBytes 4 s.step ++ leBytes 4 (epochOf s) ++ leBytes 2 (selfRank s) ++ leBytes 2 0))) ∧
    (upNext s q 0x302 false n → s.dev = .running → runningBg s 0x302 = none → completes (.quiesce q step) s (fun u =>
      answered (b 0x302) u n stInProgress 0 [] ∧ u.wcp.running = s.wcp.running ++ [⟨n, max step (begunTo s + 1), 0, 0⟩] ∧ u.dev = .running)) ∧
    (upNext s q 0x303 false n → s.dev = .quiesced → s.mend.lost = false → s.act = .none → completes (.resume q) s (fun u =>
      u.dev = .running ∧ answered (b 0x303) u n stOk 0 [] ∧ u.mem = (b 0x303).mem)) ∧
    (upNext s q 0x601 false n → completes (.groupStatus q) s (fun u => ∃ bs, bs.length = 20 ∧ u = respond (b 0x601) n stOk 0 bs)) ∧
    (upNext s q 0x602 false n → s.dev ≠ .fenced → s.mend.table = some t → rank < t.ranks + t.spares →
      (notFailed t rank = false → completes (.markFailed q rank) s (fun u => u = respond (b 0x602) n stOk)) ∧
      (notFailed t rank = true → t.keeper = t.self → completes (.markFailed q rank) s (fun u =>
        u = respond (runKeeperFail (b 0x602) rank) n stOk))) ∧
    (upNext s q 0x603 false n → s.dev ≠ .fenced → s.mend.table = some t → rank < t.ranks + t.spares → t.keeper = t.self →
      (memOf t rank).st = .gone → completes (.addSpare q rank) s (fun u => u = probeRank (deferResp (b 0x603) n rank 0 0) rank)) ∧
    (upNext s q 0x604 false n → s.dev = .idle → s.wcp.running = [] → completes (.groupRelease q) s (fun u =>
      u.mend.table = none ∧ answered (b 0x604) u n stOk 0 [] ∧ u.mem = (b 0x604).mem)) ∧
    (upNext s q 0x605 false n → s.dev ≠ .fenced → e.toNat < 65536 → first < 16384 → routeField (e.toNat % 256) = true →
      routeField (e.toNat / 256) = true → completes (.routeSet q first [e]) s (fun u =>
        tget u.routes first (0xFF, 0xFF) = (e.toNat % 256, e.toNat / 256) ∧ answered (b 0x605) u n stOk 0 [] ∧
        ∀ k, k ≠ first → tget u.routes k (0xFF, 0xFF) = tget s.routes k (0xFF, 0xFF)))

/-- The memory, window and queue-pair commands complete (R300, R475, R476, R478, R495): MEM_READ, MEM_WRITE, MEM_FILL, MEM_FILL_DONE, WIN_OPEN,
WIN_CLOSE, WIN_CLOSE_DONE, QP_OPEN, QP_CONNECT and QP_CLOSE. Every byte outside the bytes written stays. A read whose memory does not answer or
gives it no turn waits in the queue (R317, R320). -/
def Obligations.MemoryCommands : Prop :=
  ∀ (s : State) (q : WcpReq) (n : Request) (a len access k : Nat) (bs : List Byte) (w : BitVec 64) (g : QpArgs) (x : Running) (z : WinSlot)
    (y : Window) (p : QP),
    let b (op : Nat) : State := begun s q op n
    (s.power.level = 0 → s.dev ≠ .fenced →
      (upNext s q 0x401 false n → a % 8 = 0 → len % 8 = 0 → len ≤ 65024 → mayGo s (cmdReq q) a len = true →
        class2May (b 0x401) false a len = true → upsetsIn (b 0x401) a len = [] → badIn (b 0x401) a len = [] →
        completes (.memRead q a len) s (fun u =>
          u = respond (goOn (b 0x401) (cmdReq q) a len) n stOk 0 (memGet (b 0x401) a len))) ∧
      (s.dev ≠ .boot → class2May s false a len = true → mayGo s (cmdReq q) a len = false → completes (.memRead q a len) s (fun u =>
        u = waitFor (received s q 0x401) (cmdReq q) a len)) ∧
      (upNext s q 0x402 false n → a % 8 = 0 → bs.length % 8 = 0 → mayGo s (cmdReq q) a bs.length = true → memWf s.mem = true →
        class2May (b 0x402) true a bs.length = true → completes (.memWrite q a bs) s (fun u =>
          answered (b 0x402) u n stOk 0 [] ∧ ∀ i, memRead u.mem i =
            if a ≤ i ∧ i < a + bs.length then bs.getD (i - a) 0#8 else memRead (b 0x402).mem i)) ∧
      (upNext s q 0x403 false n → a % 64 = 0 → len % 64 = 0 → mayGo s (cmdReq q) a len = true → class2May (b 0x403) true a len = true →
        completes (.memFill q a len w) s (fun u => u = deferResp (goOn (b 0x403) (cmdReq q) a len) n a len w.toNat))) ∧
    (runningBg s 0x403 = some x → s.power.level = 0 → class2May s true x.a x.b = true →
      mayGo s ⟨.background 0x403, 4⟩ x.a x.b = true → memWf s.mem = true →
      completes .memFillDone s (fun u => answered s u x.req stOk 0 [] ∧ ∀ i, memRead u.mem i =
        if x.a ≤ i ∧ i < x.a + x.b / 8 * 8 then BitVec.ofNat 8 (x.c / 2 ^ (8 * ((i - x.a) % 8))) else memRead s.mem i)) ∧
    (s.dev ≠ .fenced →
      (upNext s q 0x404 false n → a % 4096 = 0 → len % 4096 = 0 → 0 < len → len ≤ 2 ^ 36 → 0 < access → access < 4 →
        freeWindow (b 0x404) = some k → completes (.winOpen q a len access) s (fun u =>
          let gen := ((tget? s.wcp.windows k).map (fun w => w.gen)).getD 0 + 1
          tget? u.wcp.windows k = some ⟨gen, some ⟨a, len, decide (access % 2 = 1), decide (2 ≤ access), false⟩⟩ ∧
          answered (b 0x404) u n stOk 0 (leBytes 4 k ++ leBytes 4 (k * 2 ^ 24 + gen)) ∧ u.mem = (b 0x404).mem)) ∧
      (upNext s q 0x405 false n → k < 256 → openWindow? s k = some (z, y) → y.closing = false → completes (.winClose q k) s (fun u =>
        tget? u.wcp.windows k = some { z with win := some { y with closing := true } } ∧
        u.wcp.running = s.wcp.running ++ [⟨n, k, 0, 0⟩] ∧ u.out = (b 0x405).out)) ∧
      (upNext s q 0x406 false n → k < 64 → tget? s.wcp.qps k = none → (∀ j, j < k → tget? s.wcp.qps j ≠ none) → completes (.qpOpen q) s (fun u =>
        tget? u.wcp.qps k = some QP.fresh ∧ answered (b 0x406) u n stOk 0 (leBytes 4 k))) ∧
      (∀ mtu, upNext s q 0x407 false n → tget? s.wcp.qps k = some p → p.connected = false → pathMtu g.mtuCode = some mtu →
        portPresent s g.port = true → g.pcp < 8 → g.dscp < 64 → mtu + roceHeaders g.gid ≤ csrBits s (O.ethpMtu g.port) 13 0 →
        completes (.qpConnect q k g) s (fun u => answered (b 0x407) u n stOk 0 [] ∧ ∃ y, tget? u.wcp.qps k = some y ∧
          y.connected = true ∧ y.port = g.port ∧ y.mtu = mtu ∧ y.gid = g.gid ∧ y.remoteQpn = g.remoteQpn ∧ y.sendPsn = g.sendPsn ∧
          y.recvPsn = g.recvPsn ∧ y.pcp = g.pcp ∧ y.dscp = g.dscp)) ∧
      (upNext s q 0x408 false n → tget? s.wcp.qps k = some p → completes (.qpClose q k) s (fun u =>
        tget? u.wcp.qps k = none ∧ answered (b 0x408) u n stOk 0 []))) ∧
    (openWindow? s k = some (z, y) → (y.closing = false ∨ windowBusy s k = true) → completes (.winCloseDone k) s (fun u => u = s)) ∧
    (openWindow? s k = some (z, y) → y.closing = true → windowBusy s k = false → completes (.winCloseDone k) s (fun u =>
      tget? u.wcp.windows k = some { z with win := none } ∧ u.mem = s.mem))

/-- The image, attestation and unlock commands complete (R495, R590, R596 to R608, R643): IMG_BEGIN, IMG_DATA, IMG_COMMIT, IMG_COMMIT_DONE,
IMG_LIST, ATTEST, UNLOCK_CHALLENGE, UNLOCK_RESPONSE and SCAN_WIPE_DONE. An image or a key list that passes the checks is loaded, one
that fails them leaves what is loaded and is counted. A nonce and its count serve one unlock; a scope that no DEBUG key covers is
refused. Where staged bytes lie, and RANGE beyond 256 MiB, are the model's choice (log entry 39). -/
def Obligations.ImagesAndUnlock : Prop :=
  ∀ (s : State) (q : WcpReq) (n : Request) (type len off src flags : Nat) (bs : List Byte) (nonce : BitVec 256) (x : ImgStage) (y : Running)
    (signers : List (BitVec 256)) (scope count held time : Nat) (sig : Bool),
    let b (op : Nat) : State := begun s q op n
    let a := imageArea + off
    let waits := (getStack s 7).ready = true ∧ mayGo s (cmdReq q) a bs.length = false
    (s.dev = .idle →
      (upNext s q 0x101 (decide (type = 0x10)) n →
        (stageable type = true → len ≤ 2 ^ 28 → completes (.imgBegin q type len) s (fun u =>
          u.wcp.img = some ⟨type, len, []⟩ ∧ answered (b 0x101) u n stOk 0 [] ∧ u.mem = (b 0x101).mem)) ∧
        (stageable type = false → completes (.imgBegin q type len) s (fun u => u = respond (b 0x101) n stMalformed))) ∧
      (upNext s q 0x102 (decide (stagedType s = 0x10)) n → s.wcp.img = some x → ¬ waits →
        (off + bs.length ≤ x.len → completes (.imgData q off bs) s (fun u =>
          u.wcp.img = some { x with bytes := memWrites x.bytes off bs } ∧ answered (b 0x102) u n stOk 0 [] ∧
          (memWf s.mem = true → ∀ i, memRead u.mem i = if (getStack s 7).ready = true ∧ a ≤ i ∧ i < a + bs.length then
            bs.getD (i - a) 0#8 else memRead (b 0x102).mem i))) ∧
        (x.len < off + bs.length → completes (.imgData q off bs) s (fun u => u = respond (b 0x102) n stRange))) ∧
      (waits → s.wcp.img = some x → s.power.thermalOff = false → completes (.imgData q off bs) s (fun u =>
        u = waitFor (received s q 0x102) (cmdReq q) a bs.length))) ∧
    (upNext s q 0x103 (decide (imgType s src = 0x10)) n → commitState src s = true → (src = 0 → s.wcp.img = some x) →
      runningBg s 0x103 = none → flags < 2 → (src ≠ 0 → class2May (b 0x103) false src 0x940 = true) →
      completes (.imgCommit q src flags) s (fun u =>
        u.wcp.running = s.wcp.running ++ [⟨n, src, flags, imgType (b 0x103) src⟩] ∧ answered (b 0x103) u n stInProgress 0 [])) ∧
    (runningBg s 0x103 = some y →
      let m := commitLen s y.a y.c
      let r : HbmReq := ⟨.background 0x103, 4⟩
      let w := if y.a = 0 then s else goOn s r y.a m
      let ends (u : State) : Prop := u.wcp.running = s.wcp.running.erase y
      let refused (u : State) (code : Nat) : Prop := u.sec = s.sec ∧ u.mem = s.mem ∧ ends u ∧ (hasRoom s 0 → queued u 0 code) ∧
        csrGet u O.secCntRefused = min (csrGet s O.secCntRefused + 1) 0xFFFFFFFF
      ((y.a = 0 ∨ class2May s false y.a m = true ∧ mayGo s r y.a m = true ∧ upsetsIn s y.a m = [] ∧ badIn s y.a m = []) →
        (y.c = 0x10 → s.dev = .idle →
          (keyListBroken w y.a = true → completes (.imgCommitDone sig) s (fun u => refused u 0x8010)) ∧
          (keyListBroken w y.a = false → (s.sec.owner = none ∨ s.sec.owner = some (ownerDigest w y.a)) → sig = true →
            (tget s.sec.counters 4 0 ≤ imgNum w y.a 4 4 → s.sec.keySeq < imgNum w y.a 4 4 → completes (.imgCommitDone sig) s (fun u =>
              u.sec.owner = some (ownerDigest w y.a) ∧ u.sec.keys = readKeys w y.a ∧ u.sec.keySeq = imgNum w y.a 4 4 ∧
              u.sec.hasKeys = true ∧ tget u.sec.counters 4 0 = max (tget s.sec.counters 4 0) (min (imgNum w y.a 4 4) 64) ∧
              u.sec.images = s.sec.images ∧ ends u ∧ u.mem = s.mem)) ∧
            (imgNum w y.a 4 4 ≤ s.sec.keySeq → completes (.imgCommitDone sig) s (fun u => refused u 0x8012)))) ∧
        (y.c ≠ 0x10 →
          let i := readImg w y.a false
          (imgBroken w y.a y.c = true ∨ imgNum w y.a 0xC 4 ≠ csrValue w O.globalId → completes (.imgCommitDone sig) s (fun u => refused u 0x8010)) ∧
          (imgBroken w y.a y.c = false → imgNum w y.a 0xC 4 = csrValue w O.globalId →
            (sig = false → completes (.imgCommitDone sig) s (fun u => refused u 0x8010 ∧
              csrGet u O.secCntAuthFail = min (csrGet s O.secCntAuthFail + 1) 0xFFFFFFFF)) ∧
            (sig = true → i.iface = romInterface y.c → tget s.sec.counters (y.c - 1) 0 ≤ i.rollback →
              (untestedWith w y.c i = false ∨ y.b = 1 ∧ s.sec.scopes ≠ 0) → completes (.imgCommitDone sig) s (fun u =>
                u.sec = { s.sec with images := tset s.sec.images y.c { i with forced := untestedWith w y.c i }
                                     counters := tset s.sec.counters (y.c - 1) (max (tget s.sec.counters (y.c - 1) 0) i.rollback) } ∧
                ends u ∧ (y.c ≠ 3 → u.mem = s.mem))) ∧
            (sig = true → i.iface = romInterface y.c → i.rollback < tget s.sec.counters (y.c - 1) 0 →
              completes (.imgCommitDone sig) s (fun u => refused u 0x8012)) ∧
            (sig = true → i.iface = romInterface y.c → tget s.sec.counters (y.c - 1) 0 ≤ i.rollback → untestedWith w y.c i = true → y.b ≠ 1 →
              completes (.imgCommitDone sig) s (fun u => refused u 0x8011))))) ∧
      (y.a ≠ 0 → class2May s false y.a m = false → completes (.imgCommitDone sig) s (fun u => u = endBg s 0x103 stDenied 0)) ∧
      (y.a ≠ 0 → class2May s false y.a m = true → mayGo s r y.a m = false → completes (.imgCommitDone sig) s (fun u =>
        u = waitFor s r y.a m))) ∧
    (runningBg s 0x103 = none → completes (.imgCommitDone sig) s (fun u => u = s)) ∧
    (upNext s q 0x104 false n → completes (.imgList q) s (fun u => ∃ es, u = respond (b 0x104) n stOk 0 (leBytes 4 s.sec.images.length ++ es) ∧
      es.length = 12 * s.sec.images.length)) ∧
    (upNext s q 6 false n → completes (.attest q nonce) s (fun u =>
      u = respond (b 6) n stOk 0 (attestBody (b 6) nonce ++ Config.signature (attestBody (b 6) nonce)))) ∧
    (upNext s q 0x801 false n →
      (0 < scope → scope < 8 → completes (.unlockChallenge q scope) s (fun u =>
        u.sec = { s.sec with challenge := some (scope, Config.nonce (b 0x801).freeCtr, s.cycle) } ∧ u.mem = (b 0x801).mem ∧
        answered (b 0x801) u n stOk 0 (digestBytes (Config.nonce (b 0x801).freeCtr) ++ digestBytes Config.identity))) ∧
      (scope = 0 ∨ 8 ≤ scope → completes (.unlockChallenge q scope) s (fun u => u = respond (b 0x801) n stRange))) ∧
    (upNext s q 0x802 false n →
      (4 ≤ scope → s.dev ≠ .idle → s.dev ≠ .fenced → completes (.unlockResponse q scope count signers) s (fun u =>
        u = respond (b 0x802) n stBadState)) ∧
      ((scope < 4 ∨ s.dev = .idle ∨ s.dev = .fenced) →
        let granted := s.sec.challenge = some (held, nonce, time) ∧ held = scope ∧ count = s.sec.unlocks + 1 ∧
          s.cycle ≤ time + 6000000000 ∧ signerCovers s scope signers = true
        (granted → completes (.unlockResponse q scope count signers) s (fun u => u.sec = { s.sec with
          challenge := none, unlocks := s.sec.unlocks + 1, scopes := s.sec.scopes ||| scope, wiping := decide (4 ≤ scope) } ∧
          answered (b 0x802) u n stOk 0 [] ∧ (hasRoom (b 0x802) 0 → queued u 0 0x8020) ∧ u.mem = (b 0x802).mem)) ∧
        ((s.sec.challenge = none ∨ s.sec.challenge = some (held, nonce, time) ∧ ¬ granted) →
          completes (.unlockResponse q scope count signers) s (fun u => u.sec = { s.sec with challenge := none } ∧
            answered (b 0x802) u n stAuth 0 [] ∧ (hasRoom (b 0x802) 0 → queued u 0 0x8021) ∧
            csrGet u O.secCntAuthFail = min (csrGet (b 0x802) O.secCntAuthFail + 1) 0xFFFFFFFF)))) ∧
    (s.sec.wiping = true → completes .scanWipeDone s (fun u =>
      u.sec = { s.sec with wiping := false, jtag := true } ∧ u.wcp.sessions = [] ∧ u.wcp.queue = [] ∧
      (memWf s.mem = true → ∀ i, memRead u.mem i =
        if i < 0x500000000 ∨ 0x800000000 ≤ i ∧ i < 0x810000000 then 0#8 else memRead s.mem i))) ∧
    (s.sec.wiping = false → completes .scanWipeDone s (fun u => u = s))

/-! ### Activation, scoring, errors, power and boot -/

/-- The weave commands and the stages of activation complete (R236 to R239, R242, R495): WEAVE_BEGIN, WEAVE_DATA, WEAVE_COMMIT, WEAVE_COMMIT_DONE,
WEAVE_DISCARD, WEAVE_ACTIVATE and the stages from entry to publication; on-chip memory is zero when the Clear stage ends. -/
def Obligations.WeavesActivate : Prop :=
  ∀ (s : State) (q : WcpReq) (n : Request) (len off : Nat) (bs : List Byte) (w : Weave) (x : Running),
    let b (op : Nat) : State := begun s q op n
    (loadStates s = true →
      (upNext s q 0x201 false n → len ≤ 2 ^ 28 → completes (.weaveBegin q len) s (fun u =>
        u.wcp.weave = some (n.session, len) ∧ answered (b 0x201) u n stOk 0 [] ∧ u.mem = (b 0x201).mem)) ∧
      ((getStack s 7).ready = true → mayGo s (cmdReq q) (weaveArea + off) bs.length = false → s.wcp.weave = some (q.session, len) →
        s.power.thermalOff = false → completes (.weaveData q off bs) s (fun u =>
          u = waitFor (received s q 0x202) (cmdReq q) (weaveArea + off) bs.length)) ∧
      (upNext s q 0x202 false n → s.wcp.weave = some (q.session, len) → off + bs.length ≤ len → (getStack s 7).ready = true →
        mayGo s (cmdReq q) (weaveArea + off) bs.length = true →
        completes (.weaveData q off bs) s (fun u => u.mem = memWrites (b 0x202).mem (weaveArea + off) bs ∧ answered (b 0x202) u n stOk 0 [])) ∧
      (upNext s q 0x203 false n → s.wcp.weave = some (q.session, len) → runningBg s 0x203 = none → runningBg s 0x204 = none →
        completes (.weaveCommit q 0) s (fun u => answered (b 0x203) u n stInProgress 0 [] ∧
          u.wcp.running = s.wcp.running ++ [⟨n, 0, len, 0⟩]))) ∧
    (runningBg s 0x203 = some x → x.a = 0 → (getStack s 7).ready = false → ∀ sig, completes (.weaveCommitDone sig) s (fun u =>
      u = endBg s 0x203 stDenied 0)) ∧
    (runningBg s 0x203 = some x → x.a = 0 → (getStack s 7).ready = true →
      let m := min (memNum s.mem (weaveArea + 0x10) 8) (2 ^ 28)
      let req : HbmReq := ⟨.background 0x203, 4⟩
      mayGo s req weaveArea m = true → upsetsIn s weaveArea m = [] → badIn s weaveArea m = [] →
      let read := goOn s req weaveArea m
      (∀ sig, let i : WImg := ⟨s.mem, weaveArea⟩
        weaveReason (read.withWcp (fun c => { c with weave := none })) i sig = 0 → i.length = x.b → completes (.weaveCommitDone sig) s (fun u =>
          u.staged = some i.read ∧ u.wcp.running = s.wcp.running.erase x ∧ u.weave = s.weave ∧ u.mem = s.mem)) ∧
      (∀ sig, let i : WImg := ⟨s.mem, weaveArea⟩
        weaveReason (read.withWcp (fun c => { c with weave := none })) i sig = 1 → completes (.weaveCommitDone sig) s (fun u =>
          u.staged = s.staged ∧ u.wcp.running = s.wcp.running.erase x ∧ u.mem = s.mem ∧ (hasRoom s 0 → queued u 0 0x9006)))) ∧
    (upNext s q 0x205 false n → s.dev ≠ .fenced → completes (.weaveDiscard q) s (fun u =>
      u.staged = none ∧ u.wcp.weave = none ∧ answered (b 0x205) u n stOk 0 [])) ∧
    (upNext s q 0x204 false n → s.dev = .idle ∨ s.dev = .quiesced → s.staged = some w → (tget? s.sec.images 1).isSome = true → runningBg s 0x203 = none →
      runningBg s 0x204 = none → completes (.weaveActivate q) s (fun u => u.act = .entry ∧ u.installing = some w ∧ u.staged = none ∧
        answered (b 0x204) u n stInProgress 0 [])) ∧
    (upNext s q 0x204 false n → (runningBg s 0x204).isSome = true → completes (.weaveActivate q) s (fun u =>
      u.wcp.running = s.wcp.running ∧ u.staged = s.staged ∧ answered (b 0x204) u n stBusy 0 [])) ∧
    (s.act = .entry →
      (s.dev = .idle ∨ s.dev = .quiesced → completes .activationEntryDone s (fun u => u.act = .drain ∧ u.dev = .activating ∧ u.mem = s.mem)) ∧
      (s.dev ≠ .idle → s.dev ≠ .quiesced → completes .activationEntryDone s (fun u => u = s))) ∧
    (s.act = .drain → (∀ l ∈ s.score.lanes, l.queue = []) → completes .class0DrainDone s (fun u => u = { s with act := .dismantle })) ∧
    (s.act = .dismantle → s.installing = some w → completes .dismantleDone s (fun u =>
      u.act = .power ∧ u.weave = none ∧ u.streams = [] ∧ u.keyTab = [] ∧ u.mangle.insts = [] ∧ u.installing = some w ∧
      ∀ d, d < 58 → (getDom u d).mgmt = powerState w d)) ∧
    (s.act = .power → (∀ d, d < 58 → domSettled s d = true) → completes .activationPowerDone s (fun u => u = { s with act := .clear })) ∧
    (s.act = .clear → completes .activationClearDone s (fun u => u.act = .install ∧
      ∀ i, memRead u.mem i = if i < 0x500000000 ∨ 0x800000000 ≤ i ∧ i < 0x810000000 then 0#8 else memRead s.mem i)) ∧
    (s.act = .install → s.installing = some w → completes .activationInstallDone s (fun u =>
      u.act = .publish ∧ u.weave = some w ∧ u.routes = routeTable w ∧ u.pru.active = w.rules ∧ u.installing = some w)) ∧
    (s.act = .publish → s.installing = some w → completes .activationPublish s (fun u =>
      u.act = .none ∧ u.installing = none ∧ u.dev = (if w.spare then .standby else .running) ∧ u.step = 0 ∧
      csrGet u O.globalPartMap = w.classMap % 2 ^ 32 ∧ csrGet u O.globalClusterUsed = w.usedMap % 2 ^ 32 ∧
      csrGet u O.globalWeaveSeq = (csrGet s O.globalWeaveSeq + 1) % 2 ^ 32 ∧ u.score.lanes = w.lanes.map Lane.fresh))

/-- The scoring commands complete (R506 to R522): SCORE_REQUEST_RX, LANE_SERVICE_START, LANE_SERVICE_END, SCORE_STATUS, SWAP_LOAD, SWAP_LOAD_DONE and
SWAP_PUBLISH. An admitted request waits in its lane and is answered in order; a lane whose queue is full answers BUSY; published weights serve every lane. -/
def Obligations.ScoringAnswers : Prop :=
  ∀ (s : State) (q : WcpReq) (n : Request) (r : ScoreReq) (l : Lane) (v addr ns eg : Nat) (score : BitVec 32) (attrs : List Sens) (x : Running),
    let b (op : Nat) : State := begun s q op n
    let lane := if r.lane = 0xFF then shortestLane s.score.lanes else r.lane
    let inc (u : State) (off : Nat) : Prop := csrGet u off = min (csrGet s off + 1) 0xFFFFFFFF
    (s.dev = .running → csrBit s O.scoreCtrl 0 = true → malformedReq s r = false → s.score.lanes[lane]? = some l →
      (s.power.level < 5 → l.active.ver ≠ 0 → l.queue.length < 4 → completes (.scoreRequestRx r) s (fun u =>
        u.score.lanes = s.score.lanes.set lane { l with queue := l.queue ++ [{ r with ahead := l.queue.length }] } ∧
        inc u O.scoreCntReq ∧ u = { s with csr := u.csr, score := u.score })) ∧
      (s.power.level < 5 → l.active.ver ≠ 0 → 4 ≤ l.queue.length → completes (.scoreRequestRx r) s (fun u =>
        inc u O.scoreCntBusy ∧ u.score = s.score ∧ ∃ t, u.out = .result r.bind (resultBytes r false false 1 0xFF 0 ⟨0, 0#32⟩ 0#32 t []) :: s.out)) ∧
      (s.power.level = 5 → completes (.scoreRequestRx r) s (fun u =>
        inc u O.scoreCntShed ∧ u.score = s.score ∧ ∃ t, u.out = .result r.bind (resultBytes r false false 5 0xFF 0 ⟨0, 0#32⟩ 0#32 t []) :: s.out))) ∧
    (s.score.lanes[v]? = some l → l.serving = false → l.queue ≠ [] → domRuns s l.cluster = true → fenceStops s = false →
      completes (.laneServiceStart v) s (fun u =>
        u = setLane s v { l with serving := true, failed := l.bad || decide (l.active.ver = 0) })) ∧
    (∀ rest, s.score.lanes[v]? = some l → l.serving = true → l.queue = r :: rest → domRuns s l.cluster = true → fenceStops s = false → r.k = 0 →
      (l.failed = false → alarms score l.active.thr = false → completes (.laneServiceEnd v score attrs ns eg) s (fun u =>
        .result r.bind (resultBytes r false false 0 v 0 l.active score ns []) ∈ u.out ∧ inc u O.scoreCntOk ∧
        u.score.lanes[v]? = some (if l.switch then Lane.switchBuf { l with queue := rest, serving := false, failed := false }
          else { l with queue := rest, serving := false, failed := false }))) ∧
      (l.failed = false → alarms score l.active.thr = true → completes (.laneServiceEnd v score attrs ns eg) s (fun u =>
        .result r.bind (resultBytes r true false 0 v 0 l.active score ns []) ∈ u.out ∧ inc u O.scoreCntOk ∧ inc u O.scoreCntAlarm)) ∧
      (l.failed = true → completes (.laneServiceEnd v score attrs ns eg) s (fun u =>
        .result r.bind (resultBytes r false false 4 v 0 l.active 0#32 ns []) ∈ u.out ∧ inc u O.scoreCntFailed))) ∧
    (∀ rest, s.score.lanes[v]? = some l → l.serving = true → l.queue = r :: rest → domRuns s l.cluster = true → fenceStops s = false →
      l.failed = false → alarms score l.active.thr = true → r.k ≠ 0 → r.flags % 2 = 0 → csrBit s O.scoreCtrl 1 = true →
      let recs := rankAttrs (min r.k (csrBits s O.scoreModel 21 16)) (attributions s r attrs)
      completes (.laneServiceEnd v score attrs ns eg) s (fun u =>
        .result r.bind (resultBytes r true true 0 v 0 l.active score ns (recs.map Attr.bytes)) ∈ u.out) ∧
      ∀ a ∈ recs, a.event < r.events ∧ a.input < (scoreShape s).1 + (scoreShape s).2 ∧ ∃ x ∈ attrs, x.event = a.event ∧
        x.input = a.input ∧ ((scoreShape s).1 ≤ a.input → a.value = f32Sum (x.terms.map (fun t => f32Mul (bf16To32 (BitVec.ofNat 16 (ofLe
          ((r.body.drop (featureOffset (scoreShape s) a.event (a.input - (scoreShape s).1))).take 2)))) t.2)))) ∧
    (upNext s q 0x901 false n → s.dev ≠ .fenced → completes (.scoreStatus q) s (fun u => ∃ bs, bs.length = 20 ∧ u = respond (b 0x901) n stOk 0 bs)) ∧
    (s.dev = .running → s.score.lanes ≠ [] →
      (upNext s q 0x902 false n → switching s = true → completes (.swapLoad q addr) s (fun u =>
        u.score = { s.score with loaded := false, loadedVer := 0 } ∧ answered (b 0x902) u n stBusy 0 [])) ∧
      (upNext s q 0x902 false n → switching s = false → runningBg s 0x902 = none → addr % 64 = 0 → mayGo s (cmdReq q) addr 64 = true → upsetsIn (b 0x902) addr 64 = [] →
        badIn (b 0x902) addr 64 = [] →
        swapHeaderBad (b 0x902) addr = false → memNum (b 0x902).mem (addr + 0x10) 8 = csrGet (b 0x902) O.scoreBufBytes →
        class2May (b 0x902) false addr 64 = true → class2May (b 0x902) false addr (64 + csrGet (b 0x902) O.scoreBufBytes) = true →
        completes (.swapLoad q addr) s (fun u => u.score = { s.score with loaded := false, loadedVer := 0 } ∧
          u.wcp.running = s.wcp.running ++ [⟨n, addr, 0, 0⟩])) ∧
      (runningBg s 0x902 = some x →
        let len := csrGet s O.scoreBufBytes
        class2May s false x.a (64 + len) = true → mayGo s ⟨.background 0x902, 4⟩ x.a (64 + len) = true → upsetsIn s x.a (64 + len) = [] →
        badIn s x.a (64 + len) = [] →
        crc32 (memGet s (x.a + 64) len) = BitVec.ofNat 32 (memNum s.mem (x.a + 0xC) 4) → completes .swapLoadDone s (fun u =>
          u.score.loaded = true ∧ u.score.loadedVer = memNum s.mem (x.a + 4) 4 ∧ u.score.lanes.length = s.score.lanes.length ∧
          answered s u x.req stOk 0 (leBytes 4 (memNum s.mem (x.a + 4) 4)))) ∧
      (upNext s q 0x903 false n → s.score.loaded = true → (∀ k ∈ s.score.lanes, k.serving = false ∧ k.switch = false) → runningBg s 0x903 = none →
        completes (.swapPublish q s.score.loadedVer) s (fun u =>
          u.score = { s.score with lanes := s.score.lanes.map Lane.switchBuf, weights := true, loaded := false, loadedVer := 0,
                                   activeVer := s.score.loadedVer } ∧
          answered (b 0x903) u n stOk 0 [])))

/-- Handlers and lint dumps complete (R527, R531, R534, R537, R549 to R552): HANDLER_START, HANDLER_YIELD, HANDLER_DONE, HANDLER_FAULT, LINT_DUMP and
LINT_DUMP_DONE. The highest queue is served first, a handled record enters the log of 256, and a handler that faults is a DEVICE event. -/
def Obligations.HandlersServe : Prop :=
  ∀ (s : State) (q : WcpReq) (n : Request) (r x : EventRec) (rest : List EventRec) (sev addr : Nat) (y : Running),
    let b (op : Nat) : State := begun s q op n
    let device (u : State) : Prop := u.err.running = none ∧ queued u 4 0x9010 ∧ u.err.fence = some .freeze
    (tget s.err.queues sev [] = x :: rest → sev ≤ 4 → (∀ m, sev < m → m ≤ 4 → tget s.err.queues m [] = []) →
      (handles s = true → s.err.running = none → s.err.suspended = [] → completes .handlerStart s (fun u =>
        u = deepTrace { s with err := { s.err with queues := tset s.err.queues sev rest, running := some x } })) ∧
      (s.err.running = some r → r.sev < sev → completes .handlerYield s (fun u =>
        u = deepTrace { s with err := { s.err with
          queues := tset s.err.queues sev rest, running := some x, suspended := r :: s.err.suspended } }))) ∧
    (s.err.running = some r → s.err.dump = none → s.err.suspended = [] →
      (r.sev ≤ 2 → completes .handlerDone s (fun u =>
        u.err.running = none ∧ u.err.log = (r :: s.err.log).take 256 ∧ u.mem = (deepTrace s).mem)) ∧
      (r.sev = 3 → r.live = true → r.code ≠ 0x4006 → csrBit s O.errlogCtrl 2 = false → completes .handlerDone s (fun u =>
        u.err.running = none ∧ u.err.log = (r :: s.err.log).take 256 ∧ u.pru.restart = true))) ∧
    (s.dev ≠ .boot → s.dev ≠ .fenced → s.err.fence = none →
      (s.err.running = some r → completes (.handlerFault none) s device) ∧
      (handles s = true → completes (.handlerFault (some addr)) s device)) ∧
    (upNext s q 0x803 false n → s.err.hard = false → runningBg s 0x803 = none → completes (.lintDump q addr) s (fun u =>
      u.err.frozen = true ∧ answered (b 0x803) u n stInProgress 0 [] ∧ u.wcp.running = s.wcp.running ++ [⟨n, addr, 0, 0⟩])) ∧
    (s.power.level = 0 → s.err.dump = none → runningBg s 0x803 = some y → mayGo s ⟨.background 0x803, 4⟩ y.a dumpLen = true →
      class2May s true y.a dumpLen = true →
      completes .lintDumpDone s (fun u =>
        u.mem = memWrites s.mem y.a (dumpBytes s 0 0) ∧ u.wcp.running = s.wcp.running.erase y))

/-- The stages of a fence and the wait-for graph complete (R538, R545 to R548, Table 5): FENCE_FREEZE_DONE to FENCE_POWER_DONE in order, HANG_CHECK,
WAITFOR, WFG_QUERY_RX, WFG_REPLY_RX and WFG_QUERY_TIMEOUT. Frozen threads issue nothing, the links go dark, and the cause is logged last. -/
def Obligations.FencesAndGraphs : Prop :=
  ∀ (s : State) (q : WcpReq) (n : Request) (r : EventRec) (g : Wfg) (src node step : Nat) (es : List GEdge) (t : GroupT),
    let b : State := begun s q 0x804 n
    let h : State := (raise s 0x9012 0 3 0 0 []).withErr (fun e => { e with hang := true })
    let held (u : State) (w : Wfg) : Prop := u.err.held = some w ∧ u.err.collecting = none
    (s.err.fence = some .freeze → completes .fenceFreezeDone s (fun u => u.err.fence = some .depart ∧ u.mem = s.mem ∧
      ∀ c ∈ s.cores.map Prod.fst, ∀ k, k < 8 → (getThread u c k).st = .halted)) ∧
    (s.err.fence = some .depart → completes .fenceDepartDone s (fun u => u.err.fence = some .fence ∧ u.mem = s.mem)) ∧
    (s.err.fence = some .fence → completes .fenceStageDone s (fun u => u.err.fence = some .links ∧ u.dev = .fenced ∧ u.power.failLow = true ∧
      u.inStep = false ∧ u.act = .none ∧ u.mem = s.mem)) ∧
    (s.err.fence = some .links → completes .fenceLinksDone s (fun u => u.err.fence = some .lint ∧ (∀ k, linkUpNow u k = false) ∧ u.mem = s.mem)) ∧
    (s.err.fence = some .lint → s.err.dump = none → completes .fenceLintDone s (fun u => u.err.fence = some .flush ∧ u.err.dump = none ∧ u.mem = s.mem)) ∧
    (s.err.fence = some .flush → completes .fenceFlushDone s (fun u => u.err.fence = some .power ∧ ∀ d, d < 32 → (getDom u d).mgmt = .off)) ∧
    (s.err.fence = some .power → (∀ d, d < 32 → (getDom s d).st = .off) → s.err.cause = some r → s.err.suspended = [] → completes .fencePowerDone s (fun u =>
      u.err.fence = none ∧ u.err.cause = none ∧ u.err.log = (r :: s.err.log).take 256 ∧ u.mem = s.mem)) ∧
    (csrBit s O.errlogCtrl 1 = true → s.dev = .running → s.err.hang = false → s.err.collecting = none → expands s = false →
      completes .hangCheck s (fun u => held u ⟨ownEdges h, false, s.cycle, s.step, [], [], none⟩ ∧ u.err.hang = true ∧
        (hasRoom s 0 → queued u 0 0x9012) ∧ u.mem = s.mem)) ∧
    (upNext s q 0x804 false n → s.err.hard = false → s.err.collecting = none →
      (s.err.held = some g → completes (.waitfor q) s (fun u => u.err.held = none ∧ answered b u n stOk 0 (g.bytes b))) ∧
      (s.err.held = none → expands s = false → completes (.waitfor q) s (fun u =>
        answered b u n stOk 0 ((Wfg.mk (ownEdges b) false b.cycle b.step [] [] none).bytes b)))) ∧
    (s.mend.table = some t → s.dev ≠ .fenced → completes (.wfgQueryRx src node step) s (fun u =>
      let a := (takeInbox s (.wfgQuery node step)).1
      u = sendFrame a.useFree src (.wfgReply (reachable a node)))) ∧
    (s.err.collecting = some g → g.awaiting = [src] → g.req = none →
      (farNodes es = [] → completes (.wfgReplyRx src es) s (fun u =>
        held u { g with edges := g.edges ++ es.filter (fun e => !g.edges.contains e), awaiting := [] } ∧ u.mem = s.mem)) ∧
      completes (.wfgQueryTimeout src) s (fun u => held u { g with awaiting := [] } ∧ u.mem = s.mem))

/-- The supply, temperature, cap and PMBus commands complete (R560, R561, R572 to R578, R583, R620): VSB_RISE, VSB_FALL, VIN_SAG_DOWN, SAG_LEVEL_RETURN,
VIN_RESET, VIN_RECOVER_BOOT, JUNCTION_SENSOR_READ, THERMAL_RECOVER_BOOT, CAP_GRANT, PMBUS_POLL, PMB_ALERT, POWER_CAP, TELEMETRY and RESET. -/
def Obligations.PowerShedsAndResets : Prop :=
  ∀ (s : State) (q : WcpReq) (n : Request) (level mv g t1 t2 other page watts : Nat) (clusters : List Nat) (te : Bool) (p : PmReading) (x : Session),
    let b (op : Nat) : State := begun s q op n
    let reset (u : State) (stage : BootStage) (cause : Nat) : Prop := u.dev = .boot ∧ u.power.boot = stage ∧ u.mem = [] ∧ u.weave = none ∧
      csrBit u O.globalResetCause cause = true ∧ u.sec.keys = s.sec.keys ∧ u.sec.scopes = 0
    (s.power.boot = .down → completes (.vsbRise te) s (fun u => u.dev = .boot ∧ u.power = { PowerSt.reset with testEn := te } ∧ u.mem = [] ∧ u.csr = State.reset.csr ∧
      u.sec.keys = s.sec.keys ∧ u.sec.owner = s.sec.owner ∧ u.sec.counters = s.sec.counters)) ∧
    (s.power.boot ≠ .down →
      completes .vsbFall s (fun u => u.power.boot = .down ∧ u.mem = [] ∧ (∀ d, getDom u d = Dom.offDom) ∧ u.power.failLow = false ∧
        u.sec.keys = s.sec.keys ∧ u.sec.owner = s.sec.owner ∧ u.sec.counters = s.sec.counters) ∧
      (s.power.sagOff = false → s.power.level < level → level ≤ 6 → mv ≤ sagMv level → completes (.vinSagDown level mv) s (fun u =>
        u.power.level = level ∧ u.power.vinMv = mv ∧ csrBits u O.powerShed 10 8 = max (csrBits s O.powerShed 10 8) level ∧ u.mem = s.mem)) ∧
      (0 < s.power.level → s.power.level = level → sagMv level + 10 ≤ mv → completes (.sagLevelReturn level mv) s (fun u =>
        u.power.level = level - 1 ∧ u.power.vinMv = min mv 0xFFFF ∧ u.mem = s.mem)) ∧
      (s.power.sagOff = false → s.power.thermalOff = false → mv < 1600 → completes (.vinReset mv) s (fun u =>
        reset u .selfTest 3 ∧ u.power.sagOff = true ∧ u.err.log = s.err.log)) ∧
      (s.power.sagOff = false → s.power.thermalOff = true → mv < 1600 → completes (.vinReset mv) s (fun u =>
        csrBit u O.globalResetCause 3 = true ∧ csrBits u O.powerShed 10 8 = 7 ∧ u.power.sagOff = true ∧ u.mem = s.mem)) ∧
      (1746 ≤ mv → completes (.vinRecoverBoot mv) s (fun u => u.power.sagOff = false ∧ u.power.vinMv = min mv 0xFFFF ∧ u.mem = s.mem ∧ u.dev = s.dev)) ∧
      (s.power.thermalOff = false → g < 32 →
        (210 ≤ max t1 t2 → max t1 t2 < 230 → completes (.junctionSensorRead g t1 t2 true) s (fun u =>
          tget u.power.juncDuty g 16 = max (tget s.power.juncDuty g 16 - 1) 4 ∧ tget u.power.tj g (0, 0) = (t1, t2) ∧ u.mem = s.mem)) ∧
        (max t1 t2 < 204 → completes (.junctionSensorRead g t1 t2 true) s (fun u =>
          tget u.power.juncDuty g 16 = min (tget s.power.juncDuty g 16 + 1) 16 ∧ tget u.power.tj g (0, 0) = (t1, t2) ∧ u.mem = s.mem)) ∧
        (230 ≤ max t1 t2 → ∀ e, completes (.junctionSensorRead g t1 t2 e) s (fun u =>
          u.dev = .fenced ∧ u.power.thermalOff = true ∧ u.power.failLow = true ∧ u.mem = [] ∧ u.err.fatal.map (fun r => r.code) = some 0x7014 ∧
          ∀ d, d < 57 → (getDom u d).st = .off))) ∧
      (s.power.thermalOff = true → (∀ e ∈ s.power.tj, max e.2.1 e.2.2 < 190) → completes .thermalRecoverBoot s (fun u =>
        reset u .selfTest 4 ∧ u.power.thermalOff = false ∧ u.power.failLow = s.power.failLow ∧ u.err.log = s.err.log)) ∧
      completes (.capGrant other clusters) s (fun u =>
        csrBits u O.powerTokens 31 16 + csrBits u O.powerTokens 15 0 = csrBits s O.powerCap 15 0 ∧
        (∀ k, 1 ≤ tget u.power.capDuty k 16 ∧ tget u.power.capDuty k 16 ≤ 16) ∧ (csrBit s O.powerCtrl 0 = false → u.power.capDuty = []) ∧
        u.power.inputW = min (other + (clusters.take 32).sum) 0xFFFF ∧ u.mem = s.mem) ∧
      (csrBit s O.powerCtrl 1 = true → page < 3 →
        (p.faulty = false → completes (.pmbusPoll page (some p)) s (fun u =>
          u = csrPut s (O.powerRail page) (min p.da 0xFFFF * 65536 + min p.mv 0xFFFF))) ∧
        completes (.pmbusPoll page none) s (fun u => csrGet u (O.powerRail page) = 0xFFFFFFFF ∧ (hasRoom s 0 → queued u 0 0x7016) ∧
          csrGet u O.powerCntPmbFault = min (csrGet s O.powerCntPmbFault + 1) 0xFFFFFFFF)) ∧
      completes .pmbAlert s (fun u => (∀ k, k < 3 → csrGet u (O.powerRail k) = 0xFFFFFFFF) ∧ (hasRoom s 0 → queued u 0 0x7016))) ∧
    (upNext s q 0x703 false n → s.dev ≠ .fenced → 400 ≤ watts → watts ≤ 1200 → completes (.powerCap q watts) s (fun u =>
      csrBits u O.powerCap 15 0 = watts ∧ answered (b 0x703) u n stOk 0 [])) ∧
    (upNext s q 0x701 false n → completes (.telemetry q) s (fun u =>
      u.power.minTele = 0xFFFF ∧ answered (b 0x701) u n stOk 0 (telemetryBytes (b 0x701)))) ∧
    (upNext s q 0x704 false n → n.session ≠ 0 → findSession (b 0x704) n.session = some x → completes (.wcpReset q) s (fun u =>
      reset u .romStart 2 ∧ .resp x.bind x.id n.seq n.opcode stOk 0 [] ∈ u.out ∧ u.wcp.sessions = []))

/-- The power-domain commands complete (R242, R563 to R569): DOMAIN_WAKE_START, DOMAIN_WAKE_DONE, DOMAIN_WAKE_TIMEOUT, REGULATOR_OR_PLL_FAULT,
DOMAIN_ENTRY_DONE, DOMAIN_BROWNOUT and DOMAIN_SET. A domain that goes off loses its memory; at most four wake from off at once. -/
def Obligations.DomainsMove : Prop :=
  ∀ (s : State) (q : WcpReq) (n : Request) (d p : Nat),
    let x := getDom s d
    let lost (u : State) : Prop := ∀ i, d < 32 → sliceBase d ≤ i → i < sliceBase d + sliceBytes → memRead u.mem i = 0#8
    let failed (u : State) : Prop := u.act = .none ∧ u.installing = none ∧ u.dev = .idle ∧ csrGet u O.globalPartMap = 0 ∧
      csrGet u O.globalClusterUsed = 0 ∧ u.mem = s.mem ∧ (hasRoom s 0 → queued u 0 0x9006)
    (d < 57 → x.queued = true → demanded s d ≠ .off → nextInQueue s d = true → wakingFromOff s < 4 → completes (.domainWakeStart d) s (fun u =>
      u = setDom s d { x with queued := false, st := .waking, fromOff := true })) ∧
    (x.st = .waking → completes (.domainWakeDone d) s (fun u =>
      (getDom u d).st = (if x.fromOff = true ∧ demanded s d = .retention then .retention else .on) ∧ u.mem = s.mem ∧
      (44 ≤ d → d < 52 → x.fromOff = false → (getOe u (d - 44)).st ≠ 0) ∧
      (d < 32 → (x.fromOff = false ∨ demanded s d ≠ .retention) → ∀ k, k < 8 → (tget? u.cores (8 * d + k)).isSome = true))) ∧
    (s.act = .power → (x.st = .waking ∨ x.entering.isSome = true → completes (.domainWakeTimeout d) s failed) ∧ (d < 57 → completes (.regulatorOrPllFault d) s failed)) ∧
    (∀ e, x.entering = some e → demanded s d = e → completes (.domainEntryDone d) s (fun u =>
      (getDom u d).st = e ∧ (getDom u d).entering = none ∧ (e = .off → lost u ∧ ∀ l, l / 3 + 44 = d → (getLink u l).st ≠ .up) ∧
      (e ≠ .off → u.mem = s.mem))) ∧
    (d < 57 → x.st = .retention → completes (.domainBrownout d) s (fun u =>
      (getDom u d).st = .off ∧ (getDom u d).brownouts = min (x.brownouts + 1) 0xFFFF ∧ lost u ∧
      (d < 32 → clusterClass s d = 0 → hasRoom s 2 → queued u 2 0x7012))) ∧
    (upNext s q 0x702 false n → s.dev ≠ .fenced → d < 54 → d ≠ 52 → p ≤ 2 → domainBarred s d p = false → completes (.domainSet q d p) s (fun u =>
      (getDom u d).mgmt = (if p = 0 then .off else if p = 1 then .retention else .on) ∧ answered (begun s q 0x702 n) u n stOk 0 [] ∧
      u.mem = (begun s q 0x702 n).mem))

/-- The commands of boot, of the stacks and of JTAG complete (R314 to R328, R576, R581, R582, R608, R621, R622): ROM_START_DONE, SELF_TEST_DONE, RAILS_DONE,
RAILS_RETRY, UNCORE_DONE, HBM_TEMP_READ, HBM_TRAINING_DONE, SCRUB_PASS, JTAG_IDCODE, JTAG_BYPASS and JTAG_RESET. -/
def Obligations.BootAndStacks : Prop :=
  ∀ (s : State) (k t a : Nat),
    let x := getStack s k
    (bootsFrom s .romStart = true → s.power.testEn = false → completes .romStartDone s (fun u => u = setBoot s .selfTest)) ∧
    (bootsFrom s .romStart = true → s.power.testEn = true → completes .romStartDone s (fun u =>
      u.power.boot = .selfTest ∧ u.power.failLow = true)) ∧
    (bootsFrom s .selfTest = true → s.power.testEn = false → completes .selfTestDone s (fun u =>
      u = { setBoot s .rails with out := .operationOn 2 :: .operationOn 1 :: .operationOn 0 :: s.out })) ∧
    (bootsFrom s .rails = true → completes .railsDone s (fun u => u.power.boot = .uncore ∧ ∀ d ∈ [52, 54, 55, 56], (getDom u d).mgmt = .on) ∧
      completes .railsRetry s (fun u => u.power.boot = .rails ∧ (hasRoom s 0 → queued u 0 0x7016) ∧
        u.out = .operationOn 2 :: .operationOn 1 :: .operationOn 0 :: s.out)) ∧
    (bootsFrom s .uncore = true → (∀ d ∈ [52, 54, 55, 56], domRuns s d = true) → completes .uncoreDone s (fun u =>
      u.dev = .idle ∧ u.power.boot = .done ∧ u.power.failLow = false ∧ u.mem = s.mem)) ∧
    (k < 8 → domRuns s (32 + k / 2) = true → x.hot = false →
      (t < 200 → completes (.hbmTempRead k t) s (fun u => getStack u k = { x with temp := t, level := hbmLevel x.level t } ∧
        csrBit u (O.hbmTemp k) 11 = true ∧ (hbmLevel x.level t ≠ x.level → hasRoom s 0 → queued u 0 0x2020) ∧ u.mem = s.mem)) ∧
      (200 ≤ t → s.dev ≠ .boot → s.dev ≠ .fenced → s.err.fence = none → completes (.hbmTempRead k t) s (fun u =>
        getStack u k = { x with temp := min t 511, level := 3, hot := true } ∧ queued u 4 0x7001 ∧ u.err.fence = some .freeze ∧ u.mem = s.mem))) ∧
    (x.training = true →
      completes (.hbmTrainingDone k true) s (fun u => getStack u k = { x with training := false, ready := true } ∧
        ∀ i, memRead u.mem i = if stackBase k ≤ i ∧ i < stackBase k + 0x900000000 then 0#8 else memRead s.mem i) ∧
      completes (.hbmTrainingDone k false) s (fun u => getStack u k = { x with training := false, failed := true } ∧
        (hasRoom s 0 → queued u 0 0x2021) ∧ u.mem = s.mem)) ∧
    (scrubs s a = true → s.upsets = [(a, .corrected)] → completes (.scrubPass [] []) s (fun u =>
      u.upsets = [] ∧ u.mem = s.mem ∧ u.bad = s.bad ∧ (hasRoom s 1 → queued u 1 0x2001))) ∧
    (scrubs s a = true → s.upsets = [] →
      completes (.scrubPass [a] []) s (fun u => u.mem = s.mem ∧ u.bad = s.bad ∧ (hasRoom s 1 → queued u 1 0x2001)) ∧
      (placeOf a ≠ .reserved → roleOf s (classOfPage s (pageOf a)) (pageOf (a / 8 * 8)) ≠ 1 → hasRoom s 2 → hasRoom s 3 →
        completes (.scrubPass [] [a]) s (fun u => a / 8 * 8 ∈ u.bad ∧ (queued u 2 0x2002 ∨ queued u 3 0x2002) ∧ u.mem = s.mem))) ∧
    (s.power.boot ≠ .down →
      completes .jtagIdcode s (fun u => u.out = .jtag 0x1000A2F3#32 :: s.out ∧ u.power = { s.power with bypass := false } ∧ u.mem = s.mem) ∧
      completes .jtagBypass s (fun u => u = { s with power := { s.power with bypass := true } }) ∧
      (s.sec.jtag = true → completes .jtagReset s (fun u => u.dev = .boot ∧ u.power.boot = .romStart ∧ u.mem = [] ∧
        csrBit u O.globalResetCause 1 = true ∧ u.sec.jtag = false ∧ u.err.log = s.err.log)))

/-! ### The whole machine -/

/-- The control-core encoding drops no field (R253, R254): the word of every well-formed command that a thread issues decodes to that
command, and a word that decodes to a command is that command's word. -/
def Obligations.CoreWordRoundTrip : Prop :=
  (∀ (i : Instr) (w : BitVec 32), i.wf = true → encodeCoreWord i = some w →
    ∃ c t, c < 256 ∧ t < 8 ∧ decodeCoreWord c t w = some i) ∧
  ∀ (c t : Nat) (w : BitVec 32) (i : Instr), decodeCoreWord c t w = some i → encodeCoreWord i = some w

/-- Words written out from the encoding of R253 and R254 decode to the instructions they stand for, and a reserved opcode to none. -/
def Obligations.CoreWordsDecode : Prop :=
  ∀ c t : Nat,
    decodeCoreWord c t 0x0CC00800#32 = some (.ori c t 6 0 0x800#16) ∧
    decodeCoreWord c t 0x20C60011#32 = some (.shori c t 6 6 0x11#16) ∧
    decodeCoreWord c t 0xC0C01000#32 = some (.tissue c t 6 0 0x1000#16) ∧
    decodeCoreWord c t 0x04A5FFFF#32 = some (.addi c t 5 5 0xFFFF#16) ∧
    decodeCoreWord c t 0x84A0FFFE#32 = some (.bne c t 5 0 0xFFFE#16) ∧
    decodeCoreWord c t 0xFC000000#32 = none

/-- No step breaks the canonical form of memory: from a state whose memory lists rising addresses and no zero byte, every step, whatever the
command, gives a state whose memory does. -/
def Obligations.StepKeepsMemoryCanonical : Prop :=
  ∀ s t : State, memWf s.mem = true → Machine.step s = .next t → memWf t.mem = true

/-- A command acts on everything but the queue: whatever it is, what waits behind it stays as it is, in order. -/
def Obligations.CommandsKeepQueue : Prop :=
  ∀ (i : Instr) (s t : State), exec i s = .next t → t.pending = s.pending

/-- Every command completes: none ends in a fault or a refusal, in whatever state it comes. -/
def Obligations.NoCommandStops : Prop :=
  ∀ s : State, s.goesOn

end
end

