-- ==== Sys2Proof/Laws/Tbl.lean ====
section
/-! SUPPORT. Laws of tables by number and of device memory: a read after a write, what a write leaves alone,
and that every operation keeps the canonical form. -/

namespace Sys2Proof.Machine

variable {α : Type}

/-! ### Tables -/

@[simp] theorem tget?_nil (k : Nat) : tget? ([] : Tbl α) k = none := rfl

@[simp] theorem tget_nil (k : Nat) (d : α) : tget ([] : Tbl α) k d = d := rfl

theorem tget?_tset_same (t : Tbl α) (k : Nat) (v : α) : tget? (tset t k v) k = some v := by
  induction t with
  | nil => simp [tset, tget?]
  | cons e r ih =>
    obtain ⟨a, w⟩ := e
    unfold tset
    split
    · simp [tget?]
    · split
      · simp [tget?]
      · rename_i h; simp [tget?, h, ih]

/-- What a lookup finds is an entry of the table. -/
theorem tget?_mem {t : Tbl α} {k : Nat} {v : α} (h : tget? t k = some v) : (k, v) ∈ t := by
  induction t with
  | nil => simp [tget?] at h
  | cons x r ih =>
    simp only [tget?] at h
    split at h
    · rename_i e; simp [e, ← Option.some.inj h]
    · exact List.mem_cons_of_mem _ (ih h)

theorem tget?_tset_other (t : Tbl α) {k j : Nat} (v : α) (h : j ≠ k) : tget? (tset t k v) j = tget? t j := by
  induction t with
  | nil => simp [tset, tget?, h]
  | cons e r ih =>
    obtain ⟨a, w⟩ := e
    unfold tset
    split
    · simp [tget?, h]
    · split
      · rename_i hk; subst hk; simp [tget?, h]
      · by_cases hj : j = a <;> simp [tget?, hj, ih]

@[simp] theorem tget_tset_same (t : Tbl α) (k : Nat) (v d : α) : tget (tset t k v) k d = v := by
  simp [tget, tget?_tset_same]

theorem tget_tset_other (t : Tbl α) {k j : Nat} (v d : α) (h : j ≠ k) : tget (tset t k v) j d = tget t j d := by
  simp [tget, tget?_tset_other t v h]

/-- Setting a key keeps the keys rising. -/
theorem risesFrom_tset (t : Tbl α) (n k : Nat) (v : α) (hn : n ≤ k) (h : risesFrom n t = true) :
    risesFrom n (tset t k v) = true := by
  induction t generalizing n with
  | nil => simp [tset, risesFrom, hn]
  | cons e r ih =>
    obtain ⟨a, w⟩ := e
    simp only [risesFrom, Bool.and_eq_true, decide_eq_true_eq] at h
    unfold tset
    split
    · simp only [risesFrom, Bool.and_eq_true, decide_eq_true_eq]; exact ⟨hn, by omega, h.2⟩
    · split
      · rename_i hk; subst hk
        simp only [risesFrom, Bool.and_eq_true, decide_eq_true_eq]; exact ⟨hn, h.2⟩
      · simp only [risesFrom, Bool.and_eq_true, decide_eq_true_eq]
        exact ⟨h.1, ih (a + 1) (by omega) h.2⟩

/-- Rising from a higher key is rising from a lower one. -/
theorem risesFrom_le (t : Tbl α) {m n : Nat} (hm : m ≤ n) (h : risesFrom n t = true) : risesFrom m t = true := by
  cases t with
  | nil => rfl
  | cons e r =>
    simp only [risesFrom, Bool.and_eq_true, decide_eq_true_eq] at *
    exact ⟨by omega, h.2⟩

/-- Dropping entries keeps the keys rising. -/
theorem risesFrom_filter (t : Tbl α) (p : Nat × α → Bool) (n : Nat) (h : risesFrom n t = true) :
    risesFrom n (t.filter p) = true := by
  induction t generalizing n with
  | nil => rfl
  | cons e r ih =>
    simp only [risesFrom, Bool.and_eq_true, decide_eq_true_eq] at h
    rw [List.filter_cons]
    split
    · simp only [risesFrom, Bool.and_eq_true, decide_eq_true_eq]; exact ⟨h.1, ih _ h.2⟩
    · exact risesFrom_le _ (by omega) (ih _ h.2)

/-- A key below every entry of a rising table reads the default. -/
theorem tget_below (t : Tbl α) {n k : Nat} (d : α) (hk : k < n) (h : risesFrom n t = true) : tget t k d = d := by
  induction t generalizing n with
  | nil => rfl
  | cons e r ih =>
    obtain ⟨a, w⟩ := e
    simp only [risesFrom, Bool.and_eq_true, decide_eq_true_eq] at h
    have hr := ih (n := a + 1) (by omega) h.2
    have hne : k ≠ a := by omega
    simpa [tget, tget?, hne] using hr

/-! ### Memory -/

theorem memWf_nil : memWf [] = true := rfl

theorem memWf_iff (m : Memory) : memWf m = true ↔ risesFrom 0 m = true ∧ ∀ c ∈ m, c.2 ≠ memDefault := by
  simp [memWf]

theorem risesFrom_memWrite (m : Memory) (n a : Nat) (v : Byte) (hn : n ≤ a) (h : risesFrom n m = true) :
    risesFrom n (memWrite m a v) = true := by
  induction m generalizing n with
  | nil => unfold memWrite; split <;> simp [risesFrom, hn]
  | cons e r ih =>
    obtain ⟨x, w⟩ := e
    have h0 := h
    simp only [risesFrom, Bool.and_eq_true, decide_eq_true_eq] at h
    unfold memWrite
    split
    · split
      · exact h0
      · simp only [risesFrom, Bool.and_eq_true, decide_eq_true_eq]; exact ⟨hn, by omega, h.2⟩
    · split
      · split
        · exact risesFrom_le _ (by omega) h.2
        · simp only [risesFrom, Bool.and_eq_true, decide_eq_true_eq]; exact h
      · simp only [risesFrom, Bool.and_eq_true, decide_eq_true_eq]
        exact ⟨h.1, ih _ (by omega) h.2⟩

theorem memWrite_noDefault (m : Memory) (a : Nat) (v : Byte) (h : ∀ c ∈ m, c.2 ≠ memDefault) :
    ∀ c ∈ memWrite m a v, c.2 ≠ memDefault := by
  induction m with
  | nil => unfold memWrite; split <;> simp_all
  | cons e r ih =>
    obtain ⟨x, w⟩ := e
    have hr := ih (fun c hc => h c (List.mem_cons_of_mem _ hc))
    have hx : w ≠ memDefault := h (x, w) List.mem_cons_self
    unfold memWrite
    intro c hc
    split at hc
    · split at hc
      · exact h c hc
      · rcases List.mem_cons.1 hc with rfl | hc
        · assumption
        · exact h c hc
    · split at hc
      · split at hc
        · exact h c (List.mem_cons_of_mem _ hc)
        · rcases List.mem_cons.1 hc with rfl | hc
          · assumption
          · exact h c (List.mem_cons_of_mem _ hc)
      · rcases List.mem_cons.1 hc with rfl | hc
        · exact hx
        · exact hr c hc

/-- A write of one byte keeps the canonical form. -/
theorem memWf_memWrite (m : Memory) (a : Nat) (v : Byte) (h : memWf m = true) : memWf (memWrite m a v) = true := by
  rw [memWf_iff] at *
  exact ⟨risesFrom_memWrite m 0 a v (Nat.zero_le _) h.1, memWrite_noDefault m a v h.2⟩

/-- A write of bytes keeps the canonical form. -/
theorem memWf_memWrites (m : Memory) (a : Nat) (bs : List Byte) (h : memWf m = true) :
    memWf (memWrites m a bs) = true := by
  induction bs generalizing m a with
  | nil => exact h
  | cons b bs ih => exact ih _ _ (memWf_memWrite m a b h)

theorem memWf_filter (m : Memory) (p : Host.Cell → Bool) (h : memWf m = true) : memWf (m.filter p) = true := by
  rw [memWf_iff] at *
  exact ⟨risesFrom_filter m p 0 h.1, fun c hc => h.2 c (List.mem_of_mem_filter hc)⟩

/-- Zeroing a range keeps the canonical form. -/
theorem memWf_memZero (m : Memory) (lo hi : Nat) (h : memWf m = true) : memWf (memZero m lo hi) = true :=
  memWf_filter m _ h

/-- Keeping a part keeps the canonical form. -/
theorem memWf_memKeep (m : Memory) (p : Nat → Bool) (h : memWf m = true) : memWf (memKeep m p) = true :=
  memWf_filter m _ h

/-- A read after a write to the same address, and to any other. -/
theorem memRead_memWrite (m : Memory) (n a x : Nat) (v : Byte) (h : risesFrom n m = true) :
    memRead (memWrite m a v) x = if x = a then v else memRead m x := by
  induction m generalizing n with
  | nil =>
    unfold memWrite
    by_cases hv : v = memDefault <;> by_cases hx : x = a <;> simp [hv, hx, memRead, tget, tget?]
  | cons e r ih =>
    obtain ⟨y, w⟩ := e
    simp only [risesFrom, Bool.and_eq_true, decide_eq_true_eq] at h
    have hr := ih _ h.2
    unfold memWrite
    by_cases h1 : a < y
    · simp only [h1, if_true]
      by_cases hv : v = memDefault
      · simp only [hv, if_true]
        by_cases hx : x = a
        · subst hx
          have := tget_below (α := Byte) ((y, w) :: r) (n := y) (k := x) memDefault h1
            (by simp [risesFrom, h.2])
          simpa [memRead] using this
        · simp [hx]
      · by_cases hx : x = a <;> simp [hv, hx, memRead, tget, tget?]
    · simp only [h1, if_false]
      by_cases h2 : a = y
      · subst h2
        simp only [if_true]
        by_cases hv : v = memDefault
        · simp only [hv, if_true]
          by_cases hx : x = a
          · subst hx
            have := tget_below (α := Byte) r (n := x + 1) (k := x) memDefault (by omega) h.2
            simpa [memRead] using this
          · simp [hx, memRead, tget, tget?]
        · by_cases hx : x = a <;> simp [hv, hx, memRead, tget, tget?]
      · simp only [h2, if_false]
        by_cases hx : x = y
        · subst hx
          have : x ≠ a := fun h => h2 h.symm
          simp [this, memRead, tget, tget?]
        · have e1 : memRead ((y, w) :: memWrite r a v) x = memRead (memWrite r a v) x := by
            simp [memRead, tget, tget?, hx]
          have e2 : memRead ((y, w) :: r) x = memRead r x := by simp [memRead, tget, tget?, hx]
          rw [e1, e2, hr]

/-- Bytes outside a written range read as before, bytes inside read what was written. -/
theorem memRead_memWrites (m : Memory) (a x : Nat) (bs : List Byte) (h : memWf m = true) :
    memRead (memWrites m a bs) x = if a ≤ x ∧ x < a + bs.length then bs.getD (x - a) 0#8 else memRead m x := by
  induction bs generalizing m a with
  | nil => simp [memWrites]
  | cons b bs ih =>
    rw [memWrites, ih _ _ (memWf_memWrite m a b h)]
    rw [memRead_memWrite m 0 a x b ((memWf_iff m).1 h).1]
    by_cases h1 : a + 1 ≤ x ∧ x < a + 1 + bs.length
    · rw [if_pos h1, if_pos (by simp; omega)]
      have : x - a = (x - (a + 1)) + 1 := by omega
      rw [this]; simp
    · rw [if_neg h1]
      by_cases hx : x = a
      · subst hx; simp
      · rw [if_neg hx, if_neg (by simp; omega)]

/-- Zeroed bytes read as zero, the others as before. -/
theorem memRead_memZero (m : Memory) (n lo hi x : Nat) (h : risesFrom n m = true) :
    memRead (memZero m lo hi) x = if lo ≤ x ∧ x < hi then memDefault else memRead m x := by
  induction m generalizing n with
  | nil => simp [memZero, memRead]
  | cons e r ih =>
    obtain ⟨y, w⟩ := e
    simp only [risesFrom, Bool.and_eq_true, decide_eq_true_eq] at h
    have hr := ih _ h.2
    simp only [memZero] at hr
    simp only [memZero, List.filter_cons]
    by_cases hx : x = y
    · subst hx
      by_cases hc : lo ≤ x ∧ x < hi
      · simp only [hc, decide_true, Bool.and_self, Bool.not_true, Bool.false_eq_true, if_false]
        rw [hr, if_pos hc]; simp
      · have hb : (!(decide (lo ≤ x) && decide (x < hi))) = true := by
          simp only [Bool.not_eq_true', Bool.and_eq_false_iff, decide_eq_false_iff_not]; omega
        rw [if_pos hb, if_neg hc]; simp [memRead, tget, tget?]
    · have e2 : memRead ((y, w) :: r) x = memRead r x := by simp [memRead, tget, tget?, hx]
      rw [e2, ← hr]
      split
      · simp [memRead, tget, tget?, hx]
      · rfl

/-- Reading zero bytes gives the number 0. -/
@[simp] theorem memNum_zero (m : Memory) (a : Nat) : memNum m a 0 = 0 := rfl

end Sys2Proof.Machine
end

