-- ==== Sys2Proof/Laws/State.lean ====
section
/-! SUPPORT. What each update of the state leaves alone and what it writes, one lemma per field per update, so
that no proof unfolds a record update. -/

namespace Sys2Proof.Machine

/-! ### `setCore` -/

@[simp] theorem setCore_csr (s : State) (c : Nat) (x : Core) : (setCore s c x).csr = s.csr := rfl
@[simp] theorem setCore_cycleHi (s : State) (c : Nat) (x : Core) : (setCore s c x).cycleHi = s.cycleHi := rfl
@[simp] theorem setCore_engHi (s : State) (c : Nat) (x : Core) : (setCore s c x).engHi = s.engHi := rfl
@[simp] theorem setCore_cycle (s : State) (c : Nat) (x : Core) : (setCore s c x).cycle = s.cycle := rfl
@[simp] theorem setCore_phase (s : State) (c : Nat) (x : Core) : (setCore s c x).phase = s.phase := rfl
@[simp] theorem setCore_dev (s : State) (c : Nat) (x : Core) : (setCore s c x).dev = s.dev := rfl
@[simp] theorem setCore_act (s : State) (c : Nat) (x : Core) : (setCore s c x).act = s.act := rfl
@[simp] theorem setCore_staged (s : State) (c : Nat) (x : Core) : (setCore s c x).staged = s.staged := rfl
@[simp] theorem setCore_installing (s : State) (c : Nat) (x : Core) : (setCore s c x).installing = s.installing := rfl
@[simp] theorem setCore_weave (s : State) (c : Nat) (x : Core) : (setCore s c x).weave = s.weave := rfl
@[simp] theorem setCore_before (s : State) (c : Nat) (x : Core) : (setCore s c x).before = s.before := rfl
@[simp] theorem setCore_step (s : State) (c : Nat) (x : Core) : (setCore s c x).step = s.step := rfl
@[simp] theorem setCore_inStep (s : State) (c : Nat) (x : Core) : (setCore s c x).inStep = s.inStep := rfl
@[simp] theorem setCore_mem (s : State) (c : Nat) (x : Core) : (setCore s c x).mem = s.mem := rfl
@[simp] theorem setCore_bad (s : State) (c : Nat) (x : Core) : (setCore s c x).bad = s.bad := rfl
@[simp] theorem setCore_upsets (s : State) (c : Nat) (x : Core) : (setCore s c x).upsets = s.upsets := rfl
@[simp] theorem setCore_ccache (s : State) (c : Nat) (x : Core) : (setCore s c x).ccache = s.ccache := rfl
@[simp] theorem setCore_cacheErr (s : State) (c : Nat) (x : Core) : (setCore s c x).cacheErr = s.cacheErr := rfl
@[simp] theorem setCore_hbm (s : State) (c : Nat) (x : Core) : (setCore s c x).hbm = s.hbm := rfl
@[simp] theorem setCore_streams (s : State) (c : Nat) (x : Core) : (setCore s c x).streams = s.streams := rfl
@[simp] theorem setCore_cores (s : State) (c : Nat) (x : Core) : (setCore s c x).cores = tset s.cores c x := rfl
@[simp] theorem setCore_keyTab (s : State) (c : Nat) (x : Core) : (setCore s c x).keyTab = s.keyTab := rfl
@[simp] theorem setCore_pru (s : State) (c : Nat) (x : Core) : (setCore s c x).pru = s.pru := rfl
@[simp] theorem setCore_gate (s : State) (c : Nat) (x : Core) : (setCore s c x).gate = s.gate := rfl
@[simp] theorem setCore_mangle (s : State) (c : Nat) (x : Core) : (setCore s c x).mangle = s.mangle := rfl
@[simp] theorem setCore_mend (s : State) (c : Nat) (x : Core) : (setCore s c x).mend = s.mend := rfl
@[simp] theorem setCore_routes (s : State) (c : Nat) (x : Core) : (setCore s c x).routes = s.routes := rfl
@[simp] theorem setCore_links (s : State) (c : Nat) (x : Core) : (setCore s c x).links = s.links := rfl
@[simp] theorem setCore_oes (s : State) (c : Nat) (x : Core) : (setCore s c x).oes = s.oes := rfl
@[simp] theorem setCore_inbox (s : State) (c : Nat) (x : Core) : (setCore s c x).inbox = s.inbox := rfl
@[simp] theorem setCore_ports (s : State) (c : Nat) (x : Core) : (setCore s c x).ports = s.ports := rfl
@[simp] theorem setCore_wcp (s : State) (c : Nat) (x : Core) : (setCore s c x).wcp = s.wcp := rfl
@[simp] theorem setCore_score (s : State) (c : Nat) (x : Core) : (setCore s c x).score = s.score := rfl
@[simp] theorem setCore_err (s : State) (c : Nat) (x : Core) : (setCore s c x).err = s.err := rfl
@[simp] theorem setCore_power (s : State) (c : Nat) (x : Core) : (setCore s c x).power = s.power := rfl
@[simp] theorem setCore_sec (s : State) (c : Nat) (x : Core) : (setCore s c x).sec = s.sec := rfl
@[simp] theorem setCore_freeCtr (s : State) (c : Nat) (x : Core) : (setCore s c x).freeCtr = s.freeCtr := rfl
@[simp] theorem setCore_out (s : State) (c : Nat) (x : Core) : (setCore s c x).out = s.out := rfl
@[simp] theorem setCore_egress (s : State) (c : Nat) (x : Core) : (setCore s c x).egress = s.egress := rfl
@[simp] theorem setCore_egressTurn (s : State) (c : Nat) (x : Core) : (setCore s c x).egressTurn = s.egressTurn := rfl
@[simp] theorem setCore_wire (s : State) (c : Nat) (x : Core) : (setCore s c x).wire = s.wire := rfl
@[simp] theorem setCore_pending (s : State) (c : Nat) (x : Core) : (setCore s c x).pending = s.pending := rfl

/-! ### `setThread` -/

@[simp] theorem setThread_csr (s : State) (c t : Nat) (x : Thread) : (setThread s c t x).csr = s.csr := rfl
@[simp] theorem setThread_cycleHi (s : State) (c t : Nat) (x : Thread) : (setThread s c t x).cycleHi = s.cycleHi := rfl
@[simp] theorem setThread_engHi (s : State) (c t : Nat) (x : Thread) : (setThread s c t x).engHi = s.engHi := rfl
@[simp] theorem setThread_cycle (s : State) (c t : Nat) (x : Thread) : (setThread s c t x).cycle = s.cycle := rfl
@[simp] theorem setThread_phase (s : State) (c t : Nat) (x : Thread) : (setThread s c t x).phase = s.phase := rfl
@[simp] theorem setThread_dev (s : State) (c t : Nat) (x : Thread) : (setThread s c t x).dev = s.dev := rfl
@[simp] theorem setThread_act (s : State) (c t : Nat) (x : Thread) : (setThread s c t x).act = s.act := rfl
@[simp] theorem setThread_staged (s : State) (c t : Nat) (x : Thread) : (setThread s c t x).staged = s.staged := rfl
@[simp] theorem setThread_installing (s : State) (c t : Nat) (x : Thread) : (setThread s c t x).installing = s.installing := rfl
@[simp] theorem setThread_weave (s : State) (c t : Nat) (x : Thread) : (setThread s c t x).weave = s.weave := rfl
@[simp] theorem setThread_before (s : State) (c t : Nat) (x : Thread) : (setThread s c t x).before = s.before := rfl
@[simp] theorem setThread_step (s : State) (c t : Nat) (x : Thread) : (setThread s c t x).step = s.step := rfl
@[simp] theorem setThread_inStep (s : State) (c t : Nat) (x : Thread) : (setThread s c t x).inStep = s.inStep := rfl
@[simp] theorem setThread_mem (s : State) (c t : Nat) (x : Thread) : (setThread s c t x).mem = s.mem := rfl
@[simp] theorem setThread_bad (s : State) (c t : Nat) (x : Thread) : (setThread s c t x).bad = s.bad := rfl
@[simp] theorem setThread_upsets (s : State) (c t : Nat) (x : Thread) : (setThread s c t x).upsets = s.upsets := rfl
@[simp] theorem setThread_ccache (s : State) (c t : Nat) (x : Thread) : (setThread s c t x).ccache = s.ccache := rfl
@[simp] theorem setThread_cacheErr (s : State) (c t : Nat) (x : Thread) : (setThread s c t x).cacheErr = s.cacheErr := rfl
@[simp] theorem setThread_hbm (s : State) (c t : Nat) (x : Thread) : (setThread s c t x).hbm = s.hbm := rfl
@[simp] theorem setThread_streams (s : State) (c t : Nat) (x : Thread) : (setThread s c t x).streams = s.streams := rfl
@[simp] theorem setThread_keyTab (s : State) (c t : Nat) (x : Thread) : (setThread s c t x).keyTab = s.keyTab := rfl
@[simp] theorem setThread_pru (s : State) (c t : Nat) (x : Thread) : (setThread s c t x).pru = s.pru := rfl
@[simp] theorem setThread_gate (s : State) (c t : Nat) (x : Thread) : (setThread s c t x).gate = s.gate := rfl
@[simp] theorem setThread_mangle (s : State) (c t : Nat) (x : Thread) : (setThread s c t x).mangle = s.mangle := rfl
@[simp] theorem setThread_mend (s : State) (c t : Nat) (x : Thread) : (setThread s c t x).mend = s.mend := rfl
@[simp] theorem setThread_routes (s : State) (c t : Nat) (x : Thread) : (setThread s c t x).routes = s.routes := rfl
@[simp] theorem setThread_links (s : State) (c t : Nat) (x : Thread) : (setThread s c t x).links = s.links := rfl
@[simp] theorem setThread_oes (s : State) (c t : Nat) (x : Thread) : (setThread s c t x).oes = s.oes := rfl
@[simp] theorem setThread_inbox (s : State) (c t : Nat) (x : Thread) : (setThread s c t x).inbox = s.inbox := rfl
@[simp] theorem setThread_ports (s : State) (c t : Nat) (x : Thread) : (setThread s c t x).ports = s.ports := rfl
@[simp] theorem setThread_wcp (s : State) (c t : Nat) (x : Thread) : (setThread s c t x).wcp = s.wcp := rfl
@[simp] theorem setThread_score (s : State) (c t : Nat) (x : Thread) : (setThread s c t x).score = s.score := rfl
@[simp] theorem setThread_err (s : State) (c t : Nat) (x : Thread) : (setThread s c t x).err = s.err := rfl
@[simp] theorem setThread_power (s : State) (c t : Nat) (x : Thread) : (setThread s c t x).power = s.power := rfl
@[simp] theorem setThread_sec (s : State) (c t : Nat) (x : Thread) : (setThread s c t x).sec = s.sec := rfl
@[simp] theorem setThread_freeCtr (s : State) (c t : Nat) (x : Thread) : (setThread s c t x).freeCtr = s.freeCtr := rfl
@[simp] theorem setThread_out (s : State) (c t : Nat) (x : Thread) : (setThread s c t x).out = s.out := rfl
@[simp] theorem setThread_egress (s : State) (c t : Nat) (x : Thread) : (setThread s c t x).egress = s.egress := rfl
@[simp] theorem setThread_egressTurn (s : State) (c t : Nat) (x : Thread) : (setThread s c t x).egressTurn = s.egressTurn := rfl
@[simp] theorem setThread_wire (s : State) (c t : Nat) (x : Thread) : (setThread s c t x).wire = s.wire := rfl
@[simp] theorem setThread_pending (s : State) (c t : Nat) (x : Thread) : (setThread s c t x).pending = s.pending := rfl

/-! ### `setStn` -/

@[simp] theorem setStn_csr (s : State) (c n : Nat) (x : Station) : (setStn s c n x).csr = s.csr := rfl
@[simp] theorem setStn_cycleHi (s : State) (c n : Nat) (x : Station) : (setStn s c n x).cycleHi = s.cycleHi := rfl
@[simp] theorem setStn_engHi (s : State) (c n : Nat) (x : Station) : (setStn s c n x).engHi = s.engHi := rfl
@[simp] theorem setStn_cycle (s : State) (c n : Nat) (x : Station) : (setStn s c n x).cycle = s.cycle := rfl
@[simp] theorem setStn_phase (s : State) (c n : Nat) (x : Station) : (setStn s c n x).phase = s.phase := rfl
@[simp] theorem setStn_dev (s : State) (c n : Nat) (x : Station) : (setStn s c n x).dev = s.dev := rfl
@[simp] theorem setStn_act (s : State) (c n : Nat) (x : Station) : (setStn s c n x).act = s.act := rfl
@[simp] theorem setStn_staged (s : State) (c n : Nat) (x : Station) : (setStn s c n x).staged = s.staged := rfl
@[simp] theorem setStn_installing (s : State) (c n : Nat) (x : Station) : (setStn s c n x).installing = s.installing := rfl
@[simp] theorem setStn_weave (s : State) (c n : Nat) (x : Station) : (setStn s c n x).weave = s.weave := rfl
@[simp] theorem setStn_before (s : State) (c n : Nat) (x : Station) : (setStn s c n x).before = s.before := rfl
@[simp] theorem setStn_step (s : State) (c n : Nat) (x : Station) : (setStn s c n x).step = s.step := rfl
@[simp] theorem setStn_inStep (s : State) (c n : Nat) (x : Station) : (setStn s c n x).inStep = s.inStep := rfl
@[simp] theorem setStn_mem (s : State) (c n : Nat) (x : Station) : (setStn s c n x).mem = s.mem := rfl
@[simp] theorem setStn_bad (s : State) (c n : Nat) (x : Station) : (setStn s c n x).bad = s.bad := rfl
@[simp] theorem setStn_upsets (s : State) (c n : Nat) (x : Station) : (setStn s c n x).upsets = s.upsets := rfl
@[simp] theorem setStn_ccache (s : State) (c n : Nat) (x : Station) : (setStn s c n x).ccache = s.ccache := rfl
@[simp] theorem setStn_cacheErr (s : State) (c n : Nat) (x : Station) : (setStn s c n x).cacheErr = s.cacheErr := rfl
@[simp] theorem setStn_hbm (s : State) (c n : Nat) (x : Station) : (setStn s c n x).hbm = s.hbm := rfl
@[simp] theorem setStn_streams (s : State) (c n : Nat) (x : Station) : (setStn s c n x).streams = s.streams := rfl
@[simp] theorem setStn_keyTab (s : State) (c n : Nat) (x : Station) : (setStn s c n x).keyTab = s.keyTab := rfl
@[simp] theorem setStn_pru (s : State) (c n : Nat) (x : Station) : (setStn s c n x).pru = s.pru := rfl
@[simp] theorem setStn_gate (s : State) (c n : Nat) (x : Station) : (setStn s c n x).gate = s.gate := rfl
@[simp] theorem setStn_mangle (s : State) (c n : Nat) (x : Station) : (setStn s c n x).mangle = s.mangle := rfl
@[simp] theorem setStn_mend (s : State) (c n : Nat) (x : Station) : (setStn s c n x).mend = s.mend := rfl
@[simp] theorem setStn_routes (s : State) (c n : Nat) (x : Station) : (setStn s c n x).routes = s.routes := rfl
@[simp] theorem setStn_links (s : State) (c n : Nat) (x : Station) : (setStn s c n x).links = s.links := rfl
@[simp] theorem setStn_oes (s : State) (c n : Nat) (x : Station) : (setStn s c n x).oes = s.oes := rfl
@[simp] theorem setStn_inbox (s : State) (c n : Nat) (x : Station) : (setStn s c n x).inbox = s.inbox := rfl
@[simp] theorem setStn_ports (s : State) (c n : Nat) (x : Station) : (setStn s c n x).ports = s.ports := rfl
@[simp] theorem setStn_wcp (s : State) (c n : Nat) (x : Station) : (setStn s c n x).wcp = s.wcp := rfl
@[simp] theorem setStn_score (s : State) (c n : Nat) (x : Station) : (setStn s c n x).score = s.score := rfl
@[simp] theorem setStn_err (s : State) (c n : Nat) (x : Station) : (setStn s c n x).err = s.err := rfl
@[simp] theorem setStn_power (s : State) (c n : Nat) (x : Station) : (setStn s c n x).power = s.power := rfl
@[simp] theorem setStn_sec (s : State) (c n : Nat) (x : Station) : (setStn s c n x).sec = s.sec := rfl
@[simp] theorem setStn_freeCtr (s : State) (c n : Nat) (x : Station) : (setStn s c n x).freeCtr = s.freeCtr := rfl
@[simp] theorem setStn_out (s : State) (c n : Nat) (x : Station) : (setStn s c n x).out = s.out := rfl
@[simp] theorem setStn_egress (s : State) (c n : Nat) (x : Station) : (setStn s c n x).egress = s.egress := rfl
@[simp] theorem setStn_egressTurn (s : State) (c n : Nat) (x : Station) : (setStn s c n x).egressTurn = s.egressTurn := rfl
@[simp] theorem setStn_wire (s : State) (c n : Nat) (x : Station) : (setStn s c n x).wire = s.wire := rfl
@[simp] theorem setStn_pending (s : State) (c n : Nat) (x : Station) : (setStn s c n x).pending = s.pending := rfl

/-! ### `setEng` -/

@[simp] theorem setEng_csr (s : State) (c n : Nat) (x : Engine) : (setEng s c n x).csr = s.csr := rfl
@[simp] theorem setEng_cycleHi (s : State) (c n : Nat) (x : Engine) : (setEng s c n x).cycleHi = s.cycleHi := rfl
@[simp] theorem setEng_engHi (s : State) (c n : Nat) (x : Engine) : (setEng s c n x).engHi = s.engHi := rfl
@[simp] theorem setEng_cycle (s : State) (c n : Nat) (x : Engine) : (setEng s c n x).cycle = s.cycle := rfl
@[simp] theorem setEng_phase (s : State) (c n : Nat) (x : Engine) : (setEng s c n x).phase = s.phase := rfl
@[simp] theorem setEng_dev (s : State) (c n : Nat) (x : Engine) : (setEng s c n x).dev = s.dev := rfl
@[simp] theorem setEng_act (s : State) (c n : Nat) (x : Engine) : (setEng s c n x).act = s.act := rfl
@[simp] theorem setEng_staged (s : State) (c n : Nat) (x : Engine) : (setEng s c n x).staged = s.staged := rfl
@[simp] theorem setEng_installing (s : State) (c n : Nat) (x : Engine) : (setEng s c n x).installing = s.installing := rfl
@[simp] theorem setEng_weave (s : State) (c n : Nat) (x : Engine) : (setEng s c n x).weave = s.weave := rfl
@[simp] theorem setEng_before (s : State) (c n : Nat) (x : Engine) : (setEng s c n x).before = s.before := rfl
@[simp] theorem setEng_step (s : State) (c n : Nat) (x : Engine) : (setEng s c n x).step = s.step := rfl
@[simp] theorem setEng_inStep (s : State) (c n : Nat) (x : Engine) : (setEng s c n x).inStep = s.inStep := rfl
@[simp] theorem setEng_mem (s : State) (c n : Nat) (x : Engine) : (setEng s c n x).mem = s.mem := rfl
@[simp] theorem setEng_bad (s : State) (c n : Nat) (x : Engine) : (setEng s c n x).bad = s.bad := rfl
@[simp] theorem setEng_upsets (s : State) (c n : Nat) (x : Engine) : (setEng s c n x).upsets = s.upsets := rfl
@[simp] theorem setEng_ccache (s : State) (c n : Nat) (x : Engine) : (setEng s c n x).ccache = s.ccache := rfl
@[simp] theorem setEng_cacheErr (s : State) (c n : Nat) (x : Engine) : (setEng s c n x).cacheErr = s.cacheErr := rfl
@[simp] theorem setEng_hbm (s : State) (c n : Nat) (x : Engine) : (setEng s c n x).hbm = s.hbm := rfl
@[simp] theorem setEng_streams (s : State) (c n : Nat) (x : Engine) : (setEng s c n x).streams = s.streams := rfl
@[simp] theorem setEng_keyTab (s : State) (c n : Nat) (x : Engine) : (setEng s c n x).keyTab = s.keyTab := rfl
@[simp] theorem setEng_pru (s : State) (c n : Nat) (x : Engine) : (setEng s c n x).pru = s.pru := rfl
@[simp] theorem setEng_gate (s : State) (c n : Nat) (x : Engine) : (setEng s c n x).gate = s.gate := rfl
@[simp] theorem setEng_mangle (s : State) (c n : Nat) (x : Engine) : (setEng s c n x).mangle = s.mangle := rfl
@[simp] theorem setEng_mend (s : State) (c n : Nat) (x : Engine) : (setEng s c n x).mend = s.mend := rfl
@[simp] theorem setEng_routes (s : State) (c n : Nat) (x : Engine) : (setEng s c n x).routes = s.routes := rfl
@[simp] theorem setEng_links (s : State) (c n : Nat) (x : Engine) : (setEng s c n x).links = s.links := rfl
@[simp] theorem setEng_oes (s : State) (c n : Nat) (x : Engine) : (setEng s c n x).oes = s.oes := rfl
@[simp] theorem setEng_inbox (s : State) (c n : Nat) (x : Engine) : (setEng s c n x).inbox = s.inbox := rfl
@[simp] theorem setEng_ports (s : State) (c n : Nat) (x : Engine) : (setEng s c n x).ports = s.ports := rfl
@[simp] theorem setEng_wcp (s : State) (c n : Nat) (x : Engine) : (setEng s c n x).wcp = s.wcp := rfl
@[simp] theorem setEng_score (s : State) (c n : Nat) (x : Engine) : (setEng s c n x).score = s.score := rfl
@[simp] theorem setEng_err (s : State) (c n : Nat) (x : Engine) : (setEng s c n x).err = s.err := rfl
@[simp] theorem setEng_power (s : State) (c n : Nat) (x : Engine) : (setEng s c n x).power = s.power := rfl
@[simp] theorem setEng_sec (s : State) (c n : Nat) (x : Engine) : (setEng s c n x).sec = s.sec := rfl
@[simp] theorem setEng_freeCtr (s : State) (c n : Nat) (x : Engine) : (setEng s c n x).freeCtr = s.freeCtr := rfl
@[simp] theorem setEng_out (s : State) (c n : Nat) (x : Engine) : (setEng s c n x).out = s.out := rfl
@[simp] theorem setEng_egress (s : State) (c n : Nat) (x : Engine) : (setEng s c n x).egress = s.egress := rfl
@[simp] theorem setEng_egressTurn (s : State) (c n : Nat) (x : Engine) : (setEng s c n x).egressTurn = s.egressTurn := rfl
@[simp] theorem setEng_wire (s : State) (c n : Nat) (x : Engine) : (setEng s c n x).wire = s.wire := rfl
@[simp] theorem setEng_pending (s : State) (c n : Nat) (x : Engine) : (setEng s c n x).pending = s.pending := rfl

/-! ### `setStream` -/

@[simp] theorem setStream_csr (s : State) (e : Nat) (x : StreamSt) : (setStream s e x).csr = s.csr := rfl
@[simp] theorem setStream_cycleHi (s : State) (e : Nat) (x : StreamSt) : (setStream s e x).cycleHi = s.cycleHi := rfl
@[simp] theorem setStream_engHi (s : State) (e : Nat) (x : StreamSt) : (setStream s e x).engHi = s.engHi := rfl
@[simp] theorem setStream_cycle (s : State) (e : Nat) (x : StreamSt) : (setStream s e x).cycle = s.cycle := rfl
@[simp] theorem setStream_phase (s : State) (e : Nat) (x : StreamSt) : (setStream s e x).phase = s.phase := rfl
@[simp] theorem setStream_dev (s : State) (e : Nat) (x : StreamSt) : (setStream s e x).dev = s.dev := rfl
@[simp] theorem setStream_act (s : State) (e : Nat) (x : StreamSt) : (setStream s e x).act = s.act := rfl
@[simp] theorem setStream_staged (s : State) (e : Nat) (x : StreamSt) : (setStream s e x).staged = s.staged := rfl
@[simp] theorem setStream_installing (s : State) (e : Nat) (x : StreamSt) : (setStream s e x).installing = s.installing := rfl
@[simp] theorem setStream_weave (s : State) (e : Nat) (x : StreamSt) : (setStream s e x).weave = s.weave := rfl
@[simp] theorem setStream_before (s : State) (e : Nat) (x : StreamSt) : (setStream s e x).before = s.before := rfl
@[simp] theorem setStream_step (s : State) (e : Nat) (x : StreamSt) : (setStream s e x).step = s.step := rfl
@[simp] theorem setStream_inStep (s : State) (e : Nat) (x : StreamSt) : (setStream s e x).inStep = s.inStep := rfl
@[simp] theorem setStream_mem (s : State) (e : Nat) (x : StreamSt) : (setStream s e x).mem = s.mem := rfl
@[simp] theorem setStream_bad (s : State) (e : Nat) (x : StreamSt) : (setStream s e x).bad = s.bad := rfl
@[simp] theorem setStream_upsets (s : State) (e : Nat) (x : StreamSt) : (setStream s e x).upsets = s.upsets := rfl
@[simp] theorem setStream_ccache (s : State) (e : Nat) (x : StreamSt) : (setStream s e x).ccache = s.ccache := rfl
@[simp] theorem setStream_cacheErr (s : State) (e : Nat) (x : StreamSt) : (setStream s e x).cacheErr = s.cacheErr := rfl
@[simp] theorem setStream_hbm (s : State) (e : Nat) (x : StreamSt) : (setStream s e x).hbm = s.hbm := rfl
@[simp] theorem setStream_streams (s : State) (e : Nat) (x : StreamSt) : (setStream s e x).streams = tset s.streams e x := rfl
@[simp] theorem setStream_cores (s : State) (e : Nat) (x : StreamSt) : (setStream s e x).cores = s.cores := rfl
@[simp] theorem setStream_keyTab (s : State) (e : Nat) (x : StreamSt) : (setStream s e x).keyTab = s.keyTab := rfl
@[simp] theorem setStream_pru (s : State) (e : Nat) (x : StreamSt) : (setStream s e x).pru = s.pru := rfl
@[simp] theorem setStream_gate (s : State) (e : Nat) (x : StreamSt) : (setStream s e x).gate = s.gate := rfl
@[simp] theorem setStream_mangle (s : State) (e : Nat) (x : StreamSt) : (setStream s e x).mangle = s.mangle := rfl
@[simp] theorem setStream_mend (s : State) (e : Nat) (x : StreamSt) : (setStream s e x).mend = s.mend := rfl
@[simp] theorem setStream_routes (s : State) (e : Nat) (x : StreamSt) : (setStream s e x).routes = s.routes := rfl
@[simp] theorem setStream_links (s : State) (e : Nat) (x : StreamSt) : (setStream s e x).links = s.links := rfl
@[simp] theorem setStream_oes (s : State) (e : Nat) (x : StreamSt) : (setStream s e x).oes = s.oes := rfl
@[simp] theorem setStream_inbox (s : State) (e : Nat) (x : StreamSt) : (setStream s e x).inbox = s.inbox := rfl
@[simp] theorem setStream_ports (s : State) (e : Nat) (x : StreamSt) : (setStream s e x).ports = s.ports := rfl
@[simp] theorem setStream_wcp (s : State) (e : Nat) (x : StreamSt) : (setStream s e x).wcp = s.wcp := rfl
@[simp] theorem setStream_score (s : State) (e : Nat) (x : StreamSt) : (setStream s e x).score = s.score := rfl
@[simp] theorem setStream_err (s : State) (e : Nat) (x : StreamSt) : (setStream s e x).err = s.err := rfl
@[simp] theorem setStream_power (s : State) (e : Nat) (x : StreamSt) : (setStream s e x).power = s.power := rfl
@[simp] theorem setStream_sec (s : State) (e : Nat) (x : StreamSt) : (setStream s e x).sec = s.sec := rfl
@[simp] theorem setStream_freeCtr (s : State) (e : Nat) (x : StreamSt) : (setStream s e x).freeCtr = s.freeCtr := rfl
@[simp] theorem setStream_out (s : State) (e : Nat) (x : StreamSt) : (setStream s e x).out = s.out := rfl
@[simp] theorem setStream_egress (s : State) (e : Nat) (x : StreamSt) : (setStream s e x).egress = s.egress := rfl
@[simp] theorem setStream_egressTurn (s : State) (e : Nat) (x : StreamSt) : (setStream s e x).egressTurn = s.egressTurn := rfl
@[simp] theorem setStream_wire (s : State) (e : Nat) (x : StreamSt) : (setStream s e x).wire = s.wire := rfl
@[simp] theorem setStream_pending (s : State) (e : Nat) (x : StreamSt) : (setStream s e x).pending = s.pending := rfl

/-! ### `setDom` -/

@[simp] theorem setDom_csr (s : State) (d : Nat) (x : Dom) : (setDom s d x).csr = s.csr := rfl
@[simp] theorem setDom_cycleHi (s : State) (d : Nat) (x : Dom) : (setDom s d x).cycleHi = s.cycleHi := rfl
@[simp] theorem setDom_engHi (s : State) (d : Nat) (x : Dom) : (setDom s d x).engHi = s.engHi := rfl
@[simp] theorem setDom_cycle (s : State) (d : Nat) (x : Dom) : (setDom s d x).cycle = s.cycle := rfl
@[simp] theorem setDom_phase (s : State) (d : Nat) (x : Dom) : (setDom s d x).phase = s.phase := rfl
@[simp] theorem setDom_dev (s : State) (d : Nat) (x : Dom) : (setDom s d x).dev = s.dev := rfl
@[simp] theorem setDom_act (s : State) (d : Nat) (x : Dom) : (setDom s d x).act = s.act := rfl
@[simp] theorem setDom_staged (s : State) (d : Nat) (x : Dom) : (setDom s d x).staged = s.staged := rfl
@[simp] theorem setDom_installing (s : State) (d : Nat) (x : Dom) : (setDom s d x).installing = s.installing := rfl
@[simp] theorem setDom_weave (s : State) (d : Nat) (x : Dom) : (setDom s d x).weave = s.weave := rfl
@[simp] theorem setDom_before (s : State) (d : Nat) (x : Dom) : (setDom s d x).before = s.before := rfl
@[simp] theorem setDom_step (s : State) (d : Nat) (x : Dom) : (setDom s d x).step = s.step := rfl
@[simp] theorem setDom_inStep (s : State) (d : Nat) (x : Dom) : (setDom s d x).inStep = s.inStep := rfl
@[simp] theorem setDom_mem (s : State) (d : Nat) (x : Dom) : (setDom s d x).mem = s.mem := rfl
@[simp] theorem setDom_bad (s : State) (d : Nat) (x : Dom) : (setDom s d x).bad = s.bad := rfl
@[simp] theorem setDom_upsets (s : State) (d : Nat) (x : Dom) : (setDom s d x).upsets = s.upsets := rfl
@[simp] theorem setDom_ccache (s : State) (d : Nat) (x : Dom) : (setDom s d x).ccache = s.ccache := rfl
@[simp] theorem setDom_cacheErr (s : State) (d : Nat) (x : Dom) : (setDom s d x).cacheErr = s.cacheErr := rfl
@[simp] theorem setDom_hbm (s : State) (d : Nat) (x : Dom) : (setDom s d x).hbm = s.hbm := rfl
@[simp] theorem setDom_streams (s : State) (d : Nat) (x : Dom) : (setDom s d x).streams = s.streams := rfl
@[simp] theorem setDom_cores (s : State) (d : Nat) (x : Dom) : (setDom s d x).cores = s.cores := rfl
@[simp] theorem setDom_keyTab (s : State) (d : Nat) (x : Dom) : (setDom s d x).keyTab = s.keyTab := rfl
@[simp] theorem setDom_pru (s : State) (d : Nat) (x : Dom) : (setDom s d x).pru = s.pru := rfl
@[simp] theorem setDom_gate (s : State) (d : Nat) (x : Dom) : (setDom s d x).gate = s.gate := rfl
@[simp] theorem setDom_mangle (s : State) (d : Nat) (x : Dom) : (setDom s d x).mangle = s.mangle := rfl
@[simp] theorem setDom_mend (s : State) (d : Nat) (x : Dom) : (setDom s d x).mend = s.mend := rfl
@[simp] theorem setDom_routes (s : State) (d : Nat) (x : Dom) : (setDom s d x).routes = s.routes := rfl
@[simp] theorem setDom_links (s : State) (d : Nat) (x : Dom) : (setDom s d x).links = s.links := rfl
@[simp] theorem setDom_oes (s : State) (d : Nat) (x : Dom) : (setDom s d x).oes = s.oes := rfl
@[simp] theorem setDom_inbox (s : State) (d : Nat) (x : Dom) : (setDom s d x).inbox = s.inbox := rfl
@[simp] theorem setDom_ports (s : State) (d : Nat) (x : Dom) : (setDom s d x).ports = s.ports := rfl
@[simp] theorem setDom_wcp (s : State) (d : Nat) (x : Dom) : (setDom s d x).wcp = s.wcp := rfl
@[simp] theorem setDom_score (s : State) (d : Nat) (x : Dom) : (setDom s d x).score = s.score := rfl
@[simp] theorem setDom_err (s : State) (d : Nat) (x : Dom) : (setDom s d x).err = s.err := rfl
@[simp] theorem setDom_power (s : State) (d : Nat) (x : Dom) : (setDom s d x).power = { s.power with doms := tset s.power.doms d x } := rfl
@[simp] theorem setDom_sec (s : State) (d : Nat) (x : Dom) : (setDom s d x).sec = s.sec := rfl
@[simp] theorem setDom_freeCtr (s : State) (d : Nat) (x : Dom) : (setDom s d x).freeCtr = s.freeCtr := rfl
@[simp] theorem setDom_out (s : State) (d : Nat) (x : Dom) : (setDom s d x).out = s.out := rfl
@[simp] theorem setDom_egress (s : State) (d : Nat) (x : Dom) : (setDom s d x).egress = s.egress := rfl
@[simp] theorem setDom_egressTurn (s : State) (d : Nat) (x : Dom) : (setDom s d x).egressTurn = s.egressTurn := rfl
@[simp] theorem setDom_wire (s : State) (d : Nat) (x : Dom) : (setDom s d x).wire = s.wire := rfl
@[simp] theorem setDom_pending (s : State) (d : Nat) (x : Dom) : (setDom s d x).pending = s.pending := rfl

/-! ### `setStack` -/

@[simp] theorem setStack_csr (s : State) (n : Nat) (x : Stack) : (setStack s n x).csr = s.csr := rfl
@[simp] theorem setStack_cycleHi (s : State) (n : Nat) (x : Stack) : (setStack s n x).cycleHi = s.cycleHi := rfl
@[simp] theorem setStack_engHi (s : State) (n : Nat) (x : Stack) : (setStack s n x).engHi = s.engHi := rfl
@[simp] theorem setStack_cycle (s : State) (n : Nat) (x : Stack) : (setStack s n x).cycle = s.cycle := rfl
@[simp] theorem setStack_phase (s : State) (n : Nat) (x : Stack) : (setStack s n x).phase = s.phase := rfl
@[simp] theorem setStack_dev (s : State) (n : Nat) (x : Stack) : (setStack s n x).dev = s.dev := rfl
@[simp] theorem setStack_act (s : State) (n : Nat) (x : Stack) : (setStack s n x).act = s.act := rfl
@[simp] theorem setStack_staged (s : State) (n : Nat) (x : Stack) : (setStack s n x).staged = s.staged := rfl
@[simp] theorem setStack_installing (s : State) (n : Nat) (x : Stack) : (setStack s n x).installing = s.installing := rfl
@[simp] theorem setStack_weave (s : State) (n : Nat) (x : Stack) : (setStack s n x).weave = s.weave := rfl
@[simp] theorem setStack_before (s : State) (n : Nat) (x : Stack) : (setStack s n x).before = s.before := rfl
@[simp] theorem setStack_step (s : State) (n : Nat) (x : Stack) : (setStack s n x).step = s.step := rfl
@[simp] theorem setStack_inStep (s : State) (n : Nat) (x : Stack) : (setStack s n x).inStep = s.inStep := rfl
@[simp] theorem setStack_mem (s : State) (n : Nat) (x : Stack) : (setStack s n x).mem = s.mem := rfl
@[simp] theorem setStack_bad (s : State) (n : Nat) (x : Stack) : (setStack s n x).bad = s.bad := rfl
@[simp] theorem setStack_upsets (s : State) (n : Nat) (x : Stack) : (setStack s n x).upsets = s.upsets := rfl
@[simp] theorem setStack_ccache (s : State) (n : Nat) (x : Stack) : (setStack s n x).ccache = s.ccache := rfl
@[simp] theorem setStack_cacheErr (s : State) (n : Nat) (x : Stack) : (setStack s n x).cacheErr = s.cacheErr := rfl
@[simp] theorem setStack_hbm (s : State) (n : Nat) (x : Stack) : (setStack s n x).hbm = tset s.hbm n x := rfl
@[simp] theorem setStack_streams (s : State) (n : Nat) (x : Stack) : (setStack s n x).streams = s.streams := rfl
@[simp] theorem setStack_cores (s : State) (n : Nat) (x : Stack) : (setStack s n x).cores = s.cores := rfl
@[simp] theorem setStack_keyTab (s : State) (n : Nat) (x : Stack) : (setStack s n x).keyTab = s.keyTab := rfl
@[simp] theorem setStack_pru (s : State) (n : Nat) (x : Stack) : (setStack s n x).pru = s.pru := rfl
@[simp] theorem setStack_gate (s : State) (n : Nat) (x : Stack) : (setStack s n x).gate = s.gate := rfl
@[simp] theorem setStack_mangle (s : State) (n : Nat) (x : Stack) : (setStack s n x).mangle = s.mangle := rfl
@[simp] theorem setStack_mend (s : State) (n : Nat) (x : Stack) : (setStack s n x).mend = s.mend := rfl
@[simp] theorem setStack_routes (s : State) (n : Nat) (x : Stack) : (setStack s n x).routes = s.routes := rfl
@[simp] theorem setStack_links (s : State) (n : Nat) (x : Stack) : (setStack s n x).links = s.links := rfl
@[simp] theorem setStack_oes (s : State) (n : Nat) (x : Stack) : (setStack s n x).oes = s.oes := rfl
@[simp] theorem setStack_inbox (s : State) (n : Nat) (x : Stack) : (setStack s n x).inbox = s.inbox := rfl
@[simp] theorem setStack_ports (s : State) (n : Nat) (x : Stack) : (setStack s n x).ports = s.ports := rfl
@[simp] theorem setStack_wcp (s : State) (n : Nat) (x : Stack) : (setStack s n x).wcp = s.wcp := rfl
@[simp] theorem setStack_score (s : State) (n : Nat) (x : Stack) : (setStack s n x).score = s.score := rfl
@[simp] theorem setStack_err (s : State) (n : Nat) (x : Stack) : (setStack s n x).err = s.err := rfl
@[simp] theorem setStack_power (s : State) (n : Nat) (x : Stack) : (setStack s n x).power = s.power := rfl
@[simp] theorem setStack_sec (s : State) (n : Nat) (x : Stack) : (setStack s n x).sec = s.sec := rfl
@[simp] theorem setStack_freeCtr (s : State) (n : Nat) (x : Stack) : (setStack s n x).freeCtr = s.freeCtr := rfl
@[simp] theorem setStack_out (s : State) (n : Nat) (x : Stack) : (setStack s n x).out = s.out := rfl
@[simp] theorem setStack_egress (s : State) (n : Nat) (x : Stack) : (setStack s n x).egress = s.egress := rfl
@[simp] theorem setStack_egressTurn (s : State) (n : Nat) (x : Stack) : (setStack s n x).egressTurn = s.egressTurn := rfl
@[simp] theorem setStack_wire (s : State) (n : Nat) (x : Stack) : (setStack s n x).wire = s.wire := rfl
@[simp] theorem setStack_pending (s : State) (n : Nat) (x : Stack) : (setStack s n x).pending = s.pending := rfl

/-! ### `csrPut` -/

@[simp] theorem csrPut_csr (s : State) (o v : Nat) : (csrPut s o v).csr = tset s.csr o (BitVec.ofNat 32 v) := rfl
@[simp] theorem csrPut_cycleHi (s : State) (o v : Nat) : (csrPut s o v).cycleHi = s.cycleHi := rfl
@[simp] theorem csrPut_engHi (s : State) (o v : Nat) : (csrPut s o v).engHi = s.engHi := rfl
@[simp] theorem csrPut_cycle (s : State) (o v : Nat) : (csrPut s o v).cycle = s.cycle := rfl
@[simp] theorem csrPut_phase (s : State) (o v : Nat) : (csrPut s o v).phase = s.phase := rfl
@[simp] theorem csrPut_dev (s : State) (o v : Nat) : (csrPut s o v).dev = s.dev := rfl
@[simp] theorem csrPut_act (s : State) (o v : Nat) : (csrPut s o v).act = s.act := rfl
@[simp] theorem csrPut_staged (s : State) (o v : Nat) : (csrPut s o v).staged = s.staged := rfl
@[simp] theorem csrPut_installing (s : State) (o v : Nat) : (csrPut s o v).installing = s.installing := rfl
@[simp] theorem csrPut_weave (s : State) (o v : Nat) : (csrPut s o v).weave = s.weave := rfl
@[simp] theorem csrPut_before (s : State) (o v : Nat) : (csrPut s o v).before = s.before := rfl
@[simp] theorem csrPut_step (s : State) (o v : Nat) : (csrPut s o v).step = s.step := rfl
@[simp] theorem csrPut_inStep (s : State) (o v : Nat) : (csrPut s o v).inStep = s.inStep := rfl
@[simp] theorem csrPut_mem (s : State) (o v : Nat) : (csrPut s o v).mem = s.mem := rfl
@[simp] theorem csrPut_bad (s : State) (o v : Nat) : (csrPut s o v).bad = s.bad := rfl
@[simp] theorem csrPut_upsets (s : State) (o v : Nat) : (csrPut s o v).upsets = s.upsets := rfl
@[simp] theorem csrPut_ccache (s : State) (o v : Nat) : (csrPut s o v).ccache = s.ccache := rfl
@[simp] theorem csrPut_cacheErr (s : State) (o v : Nat) : (csrPut s o v).cacheErr = s.cacheErr := rfl
@[simp] theorem csrPut_hbm (s : State) (o v : Nat) : (csrPut s o v).hbm = s.hbm := rfl
@[simp] theorem csrPut_streams (s : State) (o v : Nat) : (csrPut s o v).streams = s.streams := rfl
@[simp] theorem csrPut_cores (s : State) (o v : Nat) : (csrPut s o v).cores = s.cores := rfl
@[simp] theorem csrPut_keyTab (s : State) (o v : Nat) : (csrPut s o v).keyTab = s.keyTab := rfl
@[simp] theorem csrPut_pru (s : State) (o v : Nat) : (csrPut s o v).pru = s.pru := rfl
@[simp] theorem csrPut_gate (s : State) (o v : Nat) : (csrPut s o v).gate = s.gate := rfl
@[simp] theorem csrPut_mangle (s : State) (o v : Nat) : (csrPut s o v).mangle = s.mangle := rfl
@[simp] theorem csrPut_mend (s : State) (o v : Nat) : (csrPut s o v).mend = s.mend := rfl
@[simp] theorem csrPut_routes (s : State) (o v : Nat) : (csrPut s o v).routes = s.routes := rfl
@[simp] theorem csrPut_links (s : State) (o v : Nat) : (csrPut s o v).links = s.links := rfl
@[simp] theorem csrPut_oes (s : State) (o v : Nat) : (csrPut s o v).oes = s.oes := rfl
@[simp] theorem csrPut_inbox (s : State) (o v : Nat) : (csrPut s o v).inbox = s.inbox := rfl
@[simp] theorem csrPut_ports (s : State) (o v : Nat) : (csrPut s o v).ports = s.ports := rfl
@[simp] theorem csrPut_wcp (s : State) (o v : Nat) : (csrPut s o v).wcp = s.wcp := rfl
@[simp] theorem csrPut_score (s : State) (o v : Nat) : (csrPut s o v).score = s.score := rfl
@[simp] theorem csrPut_err (s : State) (o v : Nat) : (csrPut s o v).err = s.err := rfl
@[simp] theorem csrPut_power (s : State) (o v : Nat) : (csrPut s o v).power = s.power := rfl
@[simp] theorem csrPut_sec (s : State) (o v : Nat) : (csrPut s o v).sec = s.sec := rfl
@[simp] theorem csrPut_freeCtr (s : State) (o v : Nat) : (csrPut s o v).freeCtr = s.freeCtr := rfl
@[simp] theorem csrPut_out (s : State) (o v : Nat) : (csrPut s o v).out = s.out := rfl
@[simp] theorem csrPut_egress (s : State) (o v : Nat) : (csrPut s o v).egress = s.egress := rfl
@[simp] theorem csrPut_egressTurn (s : State) (o v : Nat) : (csrPut s o v).egressTurn = s.egressTurn := rfl
@[simp] theorem csrPut_wire (s : State) (o v : Nat) : (csrPut s o v).wire = s.wire := rfl
@[simp] theorem csrPut_pending (s : State) (o v : Nat) : (csrPut s o v).pending = s.pending := rfl

/-! ### `csrPutBits` -/

@[simp] theorem csrPutBits_cycleHi (s : State) (o hi lo v : Nat) : (csrPutBits s o hi lo v).cycleHi = s.cycleHi := rfl
@[simp] theorem csrPutBits_engHi (s : State) (o hi lo v : Nat) : (csrPutBits s o hi lo v).engHi = s.engHi := rfl
@[simp] theorem csrPutBits_cycle (s : State) (o hi lo v : Nat) : (csrPutBits s o hi lo v).cycle = s.cycle := rfl
@[simp] theorem csrPutBits_phase (s : State) (o hi lo v : Nat) : (csrPutBits s o hi lo v).phase = s.phase := rfl
@[simp] theorem csrPutBits_dev (s : State) (o hi lo v : Nat) : (csrPutBits s o hi lo v).dev = s.dev := rfl
@[simp] theorem csrPutBits_act (s : State) (o hi lo v : Nat) : (csrPutBits s o hi lo v).act = s.act := rfl
@[simp] theorem csrPutBits_staged (s : State) (o hi lo v : Nat) : (csrPutBits s o hi lo v).staged = s.staged := rfl
@[simp] theorem csrPutBits_installing (s : State) (o hi lo v : Nat) : (csrPutBits s o hi lo v).installing = s.installing := rfl
@[simp] theorem csrPutBits_weave (s : State) (o hi lo v : Nat) : (csrPutBits s o hi lo v).weave = s.weave := rfl
@[simp] theorem csrPutBits_before (s : State) (o hi lo v : Nat) : (csrPutBits s o hi lo v).before = s.before := rfl
@[simp] theorem csrPutBits_step (s : State) (o hi lo v : Nat) : (csrPutBits s o hi lo v).step = s.step := rfl
@[simp] theorem csrPutBits_inStep (s : State) (o hi lo v : Nat) : (csrPutBits s o hi lo v).inStep = s.inStep := rfl
@[simp] theorem csrPutBits_mem (s : State) (o hi lo v : Nat) : (csrPutBits s o hi lo v).mem = s.mem := rfl
@[simp] theorem csrPutBits_bad (s : State) (o hi lo v : Nat) : (csrPutBits s o hi lo v).bad = s.bad := rfl
@[simp] theorem csrPutBits_upsets (s : State) (o hi lo v : Nat) : (csrPutBits s o hi lo v).upsets = s.upsets := rfl
@[simp] theorem csrPutBits_ccache (s : State) (o hi lo v : Nat) : (csrPutBits s o hi lo v).ccache = s.ccache := rfl
@[simp] theorem csrPutBits_cacheErr (s : State) (o hi lo v : Nat) : (csrPutBits s o hi lo v).cacheErr = s.cacheErr := rfl
@[simp] theorem csrPutBits_hbm (s : State) (o hi lo v : Nat) : (csrPutBits s o hi lo v).hbm = s.hbm := rfl
@[simp] theorem csrPutBits_streams (s : State) (o hi lo v : Nat) : (csrPutBits s o hi lo v).streams = s.streams := rfl
@[simp] theorem csrPutBits_cores (s : State) (o hi lo v : Nat) : (csrPutBits s o hi lo v).cores = s.cores := rfl
@[simp] theorem csrPutBits_keyTab (s : State) (o hi lo v : Nat) : (csrPutBits s o hi lo v).keyTab = s.keyTab := rfl
@[simp] theorem csrPutBits_pru (s : State) (o hi lo v : Nat) : (csrPutBits s o hi lo v).pru = s.pru := rfl
@[simp] theorem csrPutBits_gate (s : State) (o hi lo v : Nat) : (csrPutBits s o hi lo v).gate = s.gate := rfl
@[simp] theorem csrPutBits_mangle (s : State) (o hi lo v : Nat) : (csrPutBits s o hi lo v).mangle = s.mangle := rfl
@[simp] theorem csrPutBits_mend (s : State) (o hi lo v : Nat) : (csrPutBits s o hi lo v).mend = s.mend := rfl
@[simp] theorem csrPutBits_routes (s : State) (o hi lo v : Nat) : (csrPutBits s o hi lo v).routes = s.routes := rfl
@[simp] theorem csrPutBits_links (s : State) (o hi lo v : Nat) : (csrPutBits s o hi lo v).links = s.links := rfl
@[simp] theorem csrPutBits_oes (s : State) (o hi lo v : Nat) : (csrPutBits s o hi lo v).oes = s.oes := rfl
@[simp] theorem csrPutBits_inbox (s : State) (o hi lo v : Nat) : (csrPutBits s o hi lo v).inbox = s.inbox := rfl
@[simp] theorem csrPutBits_ports (s : State) (o hi lo v : Nat) : (csrPutBits s o hi lo v).ports = s.ports := rfl
@[simp] theorem csrPutBits_wcp (s : State) (o hi lo v : Nat) : (csrPutBits s o hi lo v).wcp = s.wcp := rfl
@[simp] theorem csrPutBits_score (s : State) (o hi lo v : Nat) : (csrPutBits s o hi lo v).score = s.score := rfl
@[simp] theorem csrPutBits_err (s : State) (o hi lo v : Nat) : (csrPutBits s o hi lo v).err = s.err := rfl
@[simp] theorem csrPutBits_power (s : State) (o hi lo v : Nat) : (csrPutBits s o hi lo v).power = s.power := rfl
@[simp] theorem csrPutBits_sec (s : State) (o hi lo v : Nat) : (csrPutBits s o hi lo v).sec = s.sec := rfl
@[simp] theorem csrPutBits_freeCtr (s : State) (o hi lo v : Nat) : (csrPutBits s o hi lo v).freeCtr = s.freeCtr := rfl
@[simp] theorem csrPutBits_out (s : State) (o hi lo v : Nat) : (csrPutBits s o hi lo v).out = s.out := rfl
@[simp] theorem csrPutBits_egress (s : State) (o hi lo v : Nat) : (csrPutBits s o hi lo v).egress = s.egress := rfl
@[simp] theorem csrPutBits_egressTurn (s : State) (o hi lo v : Nat) : (csrPutBits s o hi lo v).egressTurn = s.egressTurn := rfl
@[simp] theorem csrPutBits_wire (s : State) (o hi lo v : Nat) : (csrPutBits s o hi lo v).wire = s.wire := rfl
@[simp] theorem csrPutBits_pending (s : State) (o hi lo v : Nat) : (csrPutBits s o hi lo v).pending = s.pending := rfl

/-! ### `bump` -/

@[simp] theorem bump_cycleHi (s : State) (o k : Nat) : (bump s o k).cycleHi = s.cycleHi := rfl
@[simp] theorem bump_engHi (s : State) (o k : Nat) : (bump s o k).engHi = s.engHi := rfl
@[simp] theorem bump_cycle (s : State) (o k : Nat) : (bump s o k).cycle = s.cycle := rfl
@[simp] theorem bump_phase (s : State) (o k : Nat) : (bump s o k).phase = s.phase := rfl
@[simp] theorem bump_dev (s : State) (o k : Nat) : (bump s o k).dev = s.dev := rfl
@[simp] theorem bump_act (s : State) (o k : Nat) : (bump s o k).act = s.act := rfl
@[simp] theorem bump_staged (s : State) (o k : Nat) : (bump s o k).staged = s.staged := rfl
@[simp] theorem bump_installing (s : State) (o k : Nat) : (bump s o k).installing = s.installing := rfl
@[simp] theorem bump_weave (s : State) (o k : Nat) : (bump s o k).weave = s.weave := rfl
@[simp] theorem bump_before (s : State) (o k : Nat) : (bump s o k).before = s.before := rfl
@[simp] theorem bump_step (s : State) (o k : Nat) : (bump s o k).step = s.step := rfl
@[simp] theorem bump_inStep (s : State) (o k : Nat) : (bump s o k).inStep = s.inStep := rfl
@[simp] theorem bump_mem (s : State) (o k : Nat) : (bump s o k).mem = s.mem := rfl
@[simp] theorem bump_bad (s : State) (o k : Nat) : (bump s o k).bad = s.bad := rfl
@[simp] theorem bump_upsets (s : State) (o k : Nat) : (bump s o k).upsets = s.upsets := rfl
@[simp] theorem bump_ccache (s : State) (o k : Nat) : (bump s o k).ccache = s.ccache := rfl
@[simp] theorem bump_cacheErr (s : State) (o k : Nat) : (bump s o k).cacheErr = s.cacheErr := rfl
@[simp] theorem bump_hbm (s : State) (o k : Nat) : (bump s o k).hbm = s.hbm := rfl
@[simp] theorem bump_streams (s : State) (o k : Nat) : (bump s o k).streams = s.streams := rfl
@[simp] theorem bump_cores (s : State) (o k : Nat) : (bump s o k).cores = s.cores := rfl
@[simp] theorem bump_keyTab (s : State) (o k : Nat) : (bump s o k).keyTab = s.keyTab := rfl
@[simp] theorem bump_pru (s : State) (o k : Nat) : (bump s o k).pru = s.pru := rfl
@[simp] theorem bump_gate (s : State) (o k : Nat) : (bump s o k).gate = s.gate := rfl
@[simp] theorem bump_mangle (s : State) (o k : Nat) : (bump s o k).mangle = s.mangle := rfl
@[simp] theorem bump_mend (s : State) (o k : Nat) : (bump s o k).mend = s.mend := rfl
@[simp] theorem bump_routes (s : State) (o k : Nat) : (bump s o k).routes = s.routes := rfl
@[simp] theorem bump_links (s : State) (o k : Nat) : (bump s o k).links = s.links := rfl
@[simp] theorem bump_oes (s : State) (o k : Nat) : (bump s o k).oes = s.oes := rfl
@[simp] theorem bump_inbox (s : State) (o k : Nat) : (bump s o k).inbox = s.inbox := rfl
@[simp] theorem bump_ports (s : State) (o k : Nat) : (bump s o k).ports = s.ports := rfl
@[simp] theorem bump_wcp (s : State) (o k : Nat) : (bump s o k).wcp = s.wcp := rfl
@[simp] theorem bump_score (s : State) (o k : Nat) : (bump s o k).score = s.score := rfl
@[simp] theorem bump_err (s : State) (o k : Nat) : (bump s o k).err = s.err := rfl
@[simp] theorem bump_power (s : State) (o k : Nat) : (bump s o k).power = s.power := rfl
@[simp] theorem bump_sec (s : State) (o k : Nat) : (bump s o k).sec = s.sec := rfl
@[simp] theorem bump_freeCtr (s : State) (o k : Nat) : (bump s o k).freeCtr = s.freeCtr := rfl
@[simp] theorem bump_out (s : State) (o k : Nat) : (bump s o k).out = s.out := rfl
@[simp] theorem bump_egress (s : State) (o k : Nat) : (bump s o k).egress = s.egress := rfl
@[simp] theorem bump_egressTurn (s : State) (o k : Nat) : (bump s o k).egressTurn = s.egressTurn := rfl
@[simp] theorem bump_wire (s : State) (o k : Nat) : (bump s o k).wire = s.wire := rfl
@[simp] theorem bump_pending (s : State) (o k : Nat) : (bump s o k).pending = s.pending := rfl

/-! ### `bump16` -/

@[simp] theorem bump16_cycleHi (s : State) (o k : Nat) : (bump16 s o k).cycleHi = s.cycleHi := rfl
@[simp] theorem bump16_engHi (s : State) (o k : Nat) : (bump16 s o k).engHi = s.engHi := rfl
@[simp] theorem bump16_cycle (s : State) (o k : Nat) : (bump16 s o k).cycle = s.cycle := rfl
@[simp] theorem bump16_phase (s : State) (o k : Nat) : (bump16 s o k).phase = s.phase := rfl
@[simp] theorem bump16_dev (s : State) (o k : Nat) : (bump16 s o k).dev = s.dev := rfl
@[simp] theorem bump16_act (s : State) (o k : Nat) : (bump16 s o k).act = s.act := rfl
@[simp] theorem bump16_staged (s : State) (o k : Nat) : (bump16 s o k).staged = s.staged := rfl
@[simp] theorem bump16_installing (s : State) (o k : Nat) : (bump16 s o k).installing = s.installing := rfl
@[simp] theorem bump16_weave (s : State) (o k : Nat) : (bump16 s o k).weave = s.weave := rfl
@[simp] theorem bump16_before (s : State) (o k : Nat) : (bump16 s o k).before = s.before := rfl
@[simp] theorem bump16_step (s : State) (o k : Nat) : (bump16 s o k).step = s.step := rfl
@[simp] theorem bump16_inStep (s : State) (o k : Nat) : (bump16 s o k).inStep = s.inStep := rfl
@[simp] theorem bump16_mem (s : State) (o k : Nat) : (bump16 s o k).mem = s.mem := rfl
@[simp] theorem bump16_bad (s : State) (o k : Nat) : (bump16 s o k).bad = s.bad := rfl
@[simp] theorem bump16_upsets (s : State) (o k : Nat) : (bump16 s o k).upsets = s.upsets := rfl
@[simp] theorem bump16_ccache (s : State) (o k : Nat) : (bump16 s o k).ccache = s.ccache := rfl
@[simp] theorem bump16_cacheErr (s : State) (o k : Nat) : (bump16 s o k).cacheErr = s.cacheErr := rfl
@[simp] theorem bump16_hbm (s : State) (o k : Nat) : (bump16 s o k).hbm = s.hbm := rfl
@[simp] theorem bump16_streams (s : State) (o k : Nat) : (bump16 s o k).streams = s.streams := rfl
@[simp] theorem bump16_cores (s : State) (o k : Nat) : (bump16 s o k).cores = s.cores := rfl
@[simp] theorem bump16_keyTab (s : State) (o k : Nat) : (bump16 s o k).keyTab = s.keyTab := rfl
@[simp] theorem bump16_pru (s : State) (o k : Nat) : (bump16 s o k).pru = s.pru := rfl
@[simp] theorem bump16_gate (s : State) (o k : Nat) : (bump16 s o k).gate = s.gate := rfl
@[simp] theorem bump16_mangle (s : State) (o k : Nat) : (bump16 s o k).mangle = s.mangle := rfl
@[simp] theorem bump16_mend (s : State) (o k : Nat) : (bump16 s o k).mend = s.mend := rfl
@[simp] theorem bump16_routes (s : State) (o k : Nat) : (bump16 s o k).routes = s.routes := rfl
@[simp] theorem bump16_links (s : State) (o k : Nat) : (bump16 s o k).links = s.links := rfl
@[simp] theorem bump16_oes (s : State) (o k : Nat) : (bump16 s o k).oes = s.oes := rfl
@[simp] theorem bump16_inbox (s : State) (o k : Nat) : (bump16 s o k).inbox = s.inbox := rfl
@[simp] theorem bump16_ports (s : State) (o k : Nat) : (bump16 s o k).ports = s.ports := rfl
@[simp] theorem bump16_wcp (s : State) (o k : Nat) : (bump16 s o k).wcp = s.wcp := rfl
@[simp] theorem bump16_score (s : State) (o k : Nat) : (bump16 s o k).score = s.score := rfl
@[simp] theorem bump16_err (s : State) (o k : Nat) : (bump16 s o k).err = s.err := rfl
@[simp] theorem bump16_power (s : State) (o k : Nat) : (bump16 s o k).power = s.power := rfl
@[simp] theorem bump16_sec (s : State) (o k : Nat) : (bump16 s o k).sec = s.sec := rfl
@[simp] theorem bump16_freeCtr (s : State) (o k : Nat) : (bump16 s o k).freeCtr = s.freeCtr := rfl
@[simp] theorem bump16_out (s : State) (o k : Nat) : (bump16 s o k).out = s.out := rfl
@[simp] theorem bump16_egress (s : State) (o k : Nat) : (bump16 s o k).egress = s.egress := rfl
@[simp] theorem bump16_egressTurn (s : State) (o k : Nat) : (bump16 s o k).egressTurn = s.egressTurn := rfl
@[simp] theorem bump16_wire (s : State) (o k : Nat) : (bump16 s o k).wire = s.wire := rfl
@[simp] theorem bump16_pending (s : State) (o k : Nat) : (bump16 s o k).pending = s.pending := rfl

/-! ### `useFree` -/

@[simp] theorem useFree_csr (s : State) : (s.useFree).csr = s.csr := rfl
@[simp] theorem useFree_cycleHi (s : State) : (s.useFree).cycleHi = s.cycleHi := rfl
@[simp] theorem useFree_engHi (s : State) : (s.useFree).engHi = s.engHi := rfl
@[simp] theorem useFree_cycle (s : State) : (s.useFree).cycle = s.cycle := rfl
@[simp] theorem useFree_phase (s : State) : (s.useFree).phase = s.phase := rfl
@[simp] theorem useFree_dev (s : State) : (s.useFree).dev = s.dev := rfl
@[simp] theorem useFree_act (s : State) : (s.useFree).act = s.act := rfl
@[simp] theorem useFree_staged (s : State) : (s.useFree).staged = s.staged := rfl
@[simp] theorem useFree_installing (s : State) : (s.useFree).installing = s.installing := rfl
@[simp] theorem useFree_weave (s : State) : (s.useFree).weave = s.weave := rfl
@[simp] theorem useFree_before (s : State) : (s.useFree).before = s.before := rfl
@[simp] theorem useFree_step (s : State) : (s.useFree).step = s.step := rfl
@[simp] theorem useFree_inStep (s : State) : (s.useFree).inStep = s.inStep := rfl
@[simp] theorem useFree_mem (s : State) : (s.useFree).mem = s.mem := rfl
@[simp] theorem useFree_bad (s : State) : (s.useFree).bad = s.bad := rfl
@[simp] theorem useFree_upsets (s : State) : (s.useFree).upsets = s.upsets := rfl
@[simp] theorem useFree_ccache (s : State) : (s.useFree).ccache = s.ccache := rfl
@[simp] theorem useFree_cacheErr (s : State) : (s.useFree).cacheErr = s.cacheErr := rfl
@[simp] theorem useFree_hbm (s : State) : (s.useFree).hbm = s.hbm := rfl
@[simp] theorem useFree_streams (s : State) : (s.useFree).streams = s.streams := rfl
@[simp] theorem useFree_cores (s : State) : (s.useFree).cores = s.cores := rfl
@[simp] theorem useFree_keyTab (s : State) : (s.useFree).keyTab = s.keyTab := rfl
@[simp] theorem useFree_pru (s : State) : (s.useFree).pru = s.pru := rfl
@[simp] theorem useFree_gate (s : State) : (s.useFree).gate = s.gate := rfl
@[simp] theorem useFree_mangle (s : State) : (s.useFree).mangle = s.mangle := rfl
@[simp] theorem useFree_mend (s : State) : (s.useFree).mend = s.mend := rfl
@[simp] theorem useFree_routes (s : State) : (s.useFree).routes = s.routes := rfl
@[simp] theorem useFree_links (s : State) : (s.useFree).links = s.links := rfl
@[simp] theorem useFree_oes (s : State) : (s.useFree).oes = s.oes := rfl
@[simp] theorem useFree_inbox (s : State) : (s.useFree).inbox = s.inbox := rfl
@[simp] theorem useFree_ports (s : State) : (s.useFree).ports = s.ports := rfl
@[simp] theorem useFree_wcp (s : State) : (s.useFree).wcp = s.wcp := rfl
@[simp] theorem useFree_score (s : State) : (s.useFree).score = s.score := rfl
@[simp] theorem useFree_err (s : State) : (s.useFree).err = s.err := rfl
@[simp] theorem useFree_power (s : State) : (s.useFree).power = s.power := rfl
@[simp] theorem useFree_sec (s : State) : (s.useFree).sec = s.sec := rfl
@[simp] theorem useFree_freeCtr (s : State) : (s.useFree).freeCtr = s.freeCtr + 1 := rfl
@[simp] theorem useFree_out (s : State) : (s.useFree).out = s.out := rfl
@[simp] theorem useFree_egress (s : State) : (s.useFree).egress = s.egress := rfl
@[simp] theorem useFree_egressTurn (s : State) : (s.useFree).egressTurn = s.egressTurn := rfl
@[simp] theorem useFree_wire (s : State) : (s.useFree).wire = s.wire := rfl
@[simp] theorem useFree_pending (s : State) : (s.useFree).pending = s.pending := rfl

/-! ### Reading after writing -/

@[simp] theorem getCore_setCore_same (s : State) (c : Nat) (x : Core) : getCore (setCore s c x) c = x := by
  simp [getCore]

theorem getCore_setCore_other (s : State) {c d : Nat} (x : Core) (h : d ≠ c) :
    getCore (setCore s c x) d = getCore s d := by simp [getCore, tget_tset_other _ _ _ h]

@[simp] theorem getThread_setThread_same (s : State) (c t : Nat) (x : Thread) :
    getThread (setThread s c t x) c t = x := by simp [getThread, setThread]

theorem getThread_setThread_other (s : State) {c t d u : Nat} (x : Thread) (h : d ≠ c ∨ u ≠ t) :
    getThread (setThread s c t x) d u = getThread s d u := by
  unfold getThread setThread
  by_cases hd : d = c
  · subst hd
    have hu : u ≠ t := by rcases h with h | h; exact absurd rfl h; exact h
    simp [tget_tset_other _ _ _ hu]
  · simp [getCore_setCore_other s _ hd]

@[simp] theorem getStn_setStn_same (s : State) (c n : Nat) (x : Station) : getStn (setStn s c n x) c n = x := by
  simp [getStn, setStn]

theorem getStn_setStn_other (s : State) {c n d m : Nat} (x : Station) (h : d ≠ c ∨ m ≠ n) :
    getStn (setStn s c n x) d m = getStn s d m := by
  unfold getStn setStn
  by_cases hd : d = c
  · subst hd
    have hu : m ≠ n := by rcases h with h | h; exact absurd rfl h; exact h
    simp [tget_tset_other _ _ _ hu]
  · simp [getCore_setCore_other s _ hd]

@[simp] theorem getStream_setStream_same (s : State) (e : Nat) (x : StreamSt) :
    getStream (setStream s e x) e = x := by simp [getStream]

theorem getStream_setStream_other (s : State) {e f : Nat} (x : StreamSt) (h : f ≠ e) :
    getStream (setStream s e x) f = getStream s f := by simp [getStream, tget_tset_other _ _ _ h]

@[simp] theorem getDom_setDom_same (s : State) (d : Nat) (x : Dom) : getDom (setDom s d x) d = x := by
  simp [getDom]

theorem getDom_setDom_other (s : State) {d e : Nat} (x : Dom) (h : e ≠ d) :
    getDom (setDom s d x) e = getDom s e := by simp [getDom, tget_tset_other _ _ _ h]

@[simp] theorem getStack_setStack_same (s : State) (n : Nat) (x : Stack) : getStack (setStack s n x) n = x := by
  simp [getStack]

theorem getStack_setStack_other (s : State) {n m : Nat} (x : Stack) (h : m ≠ n) :
    getStack (setStack s n x) m = getStack s m := by simp [getStack, tget_tset_other _ _ _ h]

/-- A CSR reads what was stored in it, within 32 bits. -/
@[simp] theorem csrGet_csrPut_same (s : State) (o v : Nat) : csrGet (csrPut s o v) o = v % 2 ^ 32 := by
  simp [csrGet, tget?_tset_same]

theorem csrGet_csrPut_other (s : State) {o p : Nat} (v : Nat) (h : p ≠ o) :
    csrGet (csrPut s o v) p = csrGet s p := by simp [csrGet, tget?_tset_other _ _ h]

/-- A store to a CSR keeps the table's keys rising. -/
theorem risesFrom_csrPut (s : State) (o v : Nat) (h : risesFrom 0 s.csr = true) :
    risesFrom 0 (csrPut s o v).csr = true := risesFrom_tset _ _ _ _ (Nat.zero_le _) h

/-! ### Memory -/

/-- A write of bytes keeps memory canonical. -/
theorem memWf_memPut (s : State) (a : Nat) (bs : List Byte) (h : memWf s.mem = true) :
    memWf (memPut s a bs).mem = true := by
  unfold memPut
  simp only
  split
  · exact memWf_memWrites _ _ _ h
  · exact memWf_memWrites _ _ _ h

/-- What memory holds after a write of bytes. -/
theorem memRead_memPut (s : State) (a x : Nat) (bs : List Byte) (h : memWf s.mem = true) :
    memRead (memPut s a bs).mem x = if a ≤ x ∧ x < a + bs.length then bs.getD (x - a) 0#8 else memRead s.mem x := by
  unfold memPut
  simp only
  split
  · exact memRead_memWrites _ _ _ _ h
  · exact memRead_memWrites _ _ _ _ h

end Sys2Proof.Machine
end

