-- ==== Sys2Proof/Tests/Slice0.lean ====
section
/-! SUPPORT. Tests: the well-formedness checks, instruction words and numbers of the spec, and for every statement states and
operands that meet its hypotheses, clause by clause. -/

namespace Sys2Proof.Tests

open Sys2Proof Sys2Proof.Machine

set_option Elab.async false

/-! ### States -/

/-- A run of pages that may be read and written, uncached. -/
def pages (first count role : Nat) : PageRun := ⟨first, count, true, false, role⟩

/-- A weave without streams, programs or rules: the first slice, the scratch of eight cores and the foot of stack 0 for
classes 1 and 2. -/
def weave0 : Weave :=
  { meas := 0#256, spare := false, devices := 2, job := 1, classMap := 0, usedMap := 0xFFFFFFFF, routes := [], paths := [],
    ladder := [], streams := [], rings := [], progs := [], regions := [], pages0 := [],
    pages1 := [pages 0 16 0, pages 0x4000 4 0, pages 0x8000 16 0], pages2 := [pages 0 16 0, pages 0x4000 4 0, pages 0x8000 16 0],
    hasVariants := false, blocks := [], rules := [], pruInit := [], group := none, power := [], preset := [] }

/-- A device that runs `weave0` with every domain on and every stack usable. -/
def on : State :=
  { State.reset with
    dev := .running, weave := some weave0, csr := [(O.globalClusterUsed, 0xFFFFFFFF#32)]
    power := { PowerSt.reset with boot := .done, doms := (List.range 58).map (fun d => (d, Dom.onDom)) }
    hbm := (List.range 8).map (fun n => (n, ⟨true, false, false, 0, false, 0, [], 0⟩)) }

/-- That device with core 0 in a state. -/
def coreOn (k : Core) : State := { on with cores := [(0, k)] }

/-- That device with thread 0 of core 0 in a state. -/
def thr (x : Thread) : State := coreOn { Core.reset with threads := [(0, x)] }

/-- A running thread with registers. -/
def th (regs : Tbl (BitVec 64)) : Thread := { Thread.reset with st := .running, regs := regs }

/-- Bytes at an address. -/
def bytesAt (a : Nat) (l : List (Nat × Nat)) : Memory := l.map (fun e => (a + e.1, BitVec.ofNat 8 e.2))

/-- `weave0` with three streams of core 0: FETCH 0 to PLAIN, ARRAY 0 to STORE 0, and PLAIN to ARRAY 0; every mode and shape is allowed on
every engine of core 0. -/
def weave1 : Weave :=
  { weave0 with
    ladder := [0x7F, 0x7F, 0x7F, 0x7F]
    streams := [⟨0, 0, 0, 1, 4, 0, 3, 0, 2, false, 0, 0⟩, ⟨0, 1, 0, 3, 4, 0, 6, 0, 4, false, 0, 0⟩,
      ⟨0, 3, 0, 5, 4, 0, 1, 0, 0, false, 0, 0⟩] }

/-- A core whose thread 0 drives every station. -/
def core1 (x : Thread) : Core :=
  { Core.reset with threads := [(0, x)], drives := (List.range 13).map (fun n => (n, 0)) }

/-- The device with `weave1`, core 0 in a state and every stream at its full credits. -/
def net (k : Core) : State :=
  { coreOn k with weave := some weave1, streams := [(0, StreamSt.fresh 4), (1, StreamSt.fresh 4), (2, StreamSt.fresh 4)] }

/-- A group of two ranks and a spare, this device being rank 0 and the keeper; each rank is the other's partner. -/
def group0 : GroupT :=
  { job := 1, ranks := 2, spares := 1, self := 0, epoch := 5, keeper := 0, shardBase := 0x1000000000, copyBase := 0x1000100000,
    areaBytes := 64, members := [⟨1, .live, true, 0⟩, ⟨0, .live, true, 0⟩, ⟨0, .ready, false, 0⟩],
    tables := [⟨[0, 1], [[0, 1]]⟩] }

/-- A state with that group. -/
def grouped (s : State) : State := { s with mend := { MendSt.reset with table := some group0 } }

/-- A record of an event. -/
def ev (code sev : Nat) : EventRec := ⟨code, sev, sev, 3, 1, 0, 0, 1, 0, 0, 0, [0, 0, 0, 0], false⟩


/-! ### Well-formedness: an ill-formed term for each check -/

theorem test_ill_core : (Instr.haltThread 256 0 0 0 0#16).wf = false ∧ (Instr.perfClear 256).wf = false := by decide

theorem test_ill_thread : (Instr.addi 0 8 0 0 0#16).wf = false ∧ (Instr.branchResolve 0 8).wf = false := by decide

theorem test_ill_register : (Instr.addi 0 0 32 0 0#16).wf = false ∧ (Instr.addi 0 0 0 32 0#16).wf = false ∧
    (Instr.alu 0 0 0 0 32 0 0).wf = false ∧ (Instr.jal 0 0 32 0#21).wf = false := by decide

theorem test_ill_alu_field : (Instr.alu 0 0 0 0 0 128 0).wf = false ∧ (Instr.alu 0 0 0 0 0 0 16).wf = false := by decide

theorem test_ill_event : (Instr.waitWake 0 0 4).wf = false := by decide

theorem test_ill_station : (Instr.stationWorkStart 0 13).wf = false ∧ (Instr.arrayStreamStart 0 4).wf = false := by decide

theorem test_ill_tag : (Instr.hop 65536 0 0 0 false 0).wf = false ∧ (Instr.instanceClose 0 4294967296).wf = false ∧
    (Instr.finalHopDeliver 0 0 4294967296).wf = false := by decide

theorem test_ill_rank : (Instr.suspectResend 16384).wf = false := by decide

theorem test_ill_link : (Instr.linkUp 24).wf = false ∧ (Instr.laneFail 0 5).wf = false ∧ (Instr.laserRecover 8 0).wf = false := by decide

theorem test_ill_port : (Instr.portLinkUp 8).wf = false ∧ (Instr.pfcQuantaExpire 0 8).wf = false := by decide

theorem test_ill_lane : (Instr.laneServiceStart 8).wf = false := by decide

theorem test_ill_level : (Instr.vinSagDown 0 0).wf = false ∧ (Instr.sagLevelReturn 7 0).wf = false := by decide

theorem test_ill_sensor : (Instr.junctionSensorRead 36 0 0 true).wf = false := by decide

theorem test_ill_page : (Instr.pmbusPoll 3 none).wf = false := by decide

theorem test_ill_domain : (Instr.domainWakeDone 58).wf = false := by decide

theorem test_ill_stack : (Instr.hbmTrainingDone 8 true).wf = false := by decide

/-! ### Instruction words, written out from Table 3 of *The station control core* (R253, R254) -/

/-- ORI g6, g0, 0x800: opcode 000011, d 00110, a 00000, immediate. -/
theorem test_word_ori : decodeCoreWord 0 0 0b000011_00110_00000_0000100000000000#32 = some (.ori 0 0 6 0 0x800#16) := by decide

/-- SHORI g6, g6, 0x11: opcode 001000. -/
theorem test_word_shori : decodeCoreWord 0 0 0b001000_00110_00110_0000000000010001#32 = some (.shori 0 0 6 6 0x11#16) := by decide

/-- TISSUE g6, ARRAY 0: opcode 110000; the station's code in [15:12], its index in [11:8]. -/
theorem test_word_tissue : decodeCoreWord 0 0 0b110000_00110_00000_0001000000000000#32 = some (.tissue 0 0 6 0 0x1000#16) := by decide

/-- ADDI g5, g5, −1: opcode 000001. -/
theorem test_word_addi : decodeCoreWord 0 0 0b000001_00101_00101_1111111111111111#32 = some (.addi 0 0 5 5 0xFFFF#16) := by decide

/-- BNE g5, g0, −2: opcode 100001. -/
theorem test_word_bne : decodeCoreWord 0 0 0b100001_00101_00000_1111111111111110#32 = some (.bne 0 0 5 0 0xFFFE#16) := by decide

/-- An opcode outside Table 2: no command, so `issueWord` raises ILLEGAL. -/
theorem test_word_unlisted : decodeCoreWord 0 0 0xFFFFFFFF#32 = none ∧ decodeCoreWord 255 7 0x3D000000#32 = none := by decide

/-! ### Numbers: Table 8 of *Number formats and numerical rules* (R89) -/

theorem test_sr_zero : srWord 0#64 0#64 = 0x21CF21DD#32 := by decide +kernel

theorem test_sr_key : srWord 0x0000000700030016#64 0x0000000100008009#64 = 0x48872DB9#32 := by decide +kernel

/-- The key and the counter of that row, from their fields (R85, R86): seed 7, stream 3, rank 5, pass 2; step 1, tile 2, element 9. -/
theorem test_sr_fields : srKey 7 3 5 2 = 0x0000000700030016#64 ∧ srCtr 1 2 9 = 0x0000000100008009#64 := by decide

/-! ### The queue and the idle device -/

theorem test_idle_counts : ∃ t, step State.reset = .next t ∧ t.cycle = 0 ∧ t.pending = [] := ⟨_, rfl, by decide +kernel⟩

/-- What `Obligations.StepKeepsMemoryCanonical` asks can be met. -/
theorem test_meets_step_keeps_memory_canonical_1 :
    memWf (bytesAt 0x1000000000 [(0, 1), (7, 255)]) = true ∧
    (∃ t, step { on with mem := bytesAt 0x1000000000 [(0, 1), (7, 255)], pending := [.jtagBypass] } = .next t) := ⟨by decide +kernel, _, rfl⟩

/-- What `Obligations.CommandsKeepQueue` asks can be met. -/
theorem test_meets_commands_keep_queue_1 :
    ∃ t, exec (.vinReset 1000) { on with pending := [.jtagBypass, .vsbFall] } = .next t ∧ t.pending = [.jtagBypass, .vsbFall] := ⟨_, rfl, rfl⟩

/-- What `Obligations.CoreWordRoundTrip` asks can be met. -/
theorem test_meets_core_word_round_trip_1 :
    ((Instr.tsig 255 7 31 0x1FFFFF#21).wf = true ∧ encodeCoreWord (.tsig 255 7 31 0x1FFFFF#21) = some 0xCFFFFFFF#32) ∧
    decodeCoreWord 255 7 0xCFFFFFFF#32 = some (.tsig 255 7 31 0x1FFFFF#21) := by decide

/-- A state in which no tile of a listed stream is poisoned has none in any stream. -/
theorem streams_clean (s : State) (h : ∀ e ∈ s.streams, ∀ y ∈ e.2.queue, y.poison = []) :
    ∀ f, ∀ y ∈ (getStream s f).queue, y.poison = [] := by
  intro f y hy
  simp only [getStream, tget] at hy
  cases e : tget? s.streams f with
  | none => rw [e] at hy; simp [StreamSt.fresh] at hy
  | some x => rw [e] at hy; exact h _ (tget?_mem e) y hy

/-! ### Cores: registers, memory, control -/

namespace Cores

abbrev A1 := thr (th [(5, 0x800000010#64), (6, 0x1122334455667788#64)])
abbrev A2 := thr (th [(5, 0x1000000010#64), (6, 0x1122334455667788#64)])

/-- What `Obligations.RegisterInstructions` asks of `alu`, `addi`, `andi`, `ori`, `xori`, `slti`, `shori`, `lui`, `shifti` can be met. -/
theorem test_meets_register_instructions_1 :
    (mayIssue (drainBuffer A1 0 0) 0 0 = true ∧ (getThread (drainBuffer A1 0 0) 0 0).awaited 6 = false ∧
      (getThread (drainBuffer A1 0 0) 0 0).awaited 5 = false ∧ (9 < 14 ∨ 6 = 0)) ∧
    (mayIssue (drainBuffer A1 0 0) 0 0 = true ∧ (getThread (drainBuffer A1 0 0) 0 0).awaited 6 = false ∧
      (getThread (drainBuffer A1 0 0) 0 0).awaited 5 = false ∧ (63#16).toNat < 64) ∧
    (mayIssue (drainBuffer A1 0 0) 0 0 = true ∧ (getThread (drainBuffer A1 0 0) 0 0).awaited 0 = false ∧
      (getThread (drainBuffer A1 0 0) 0 0).awaited 6 = false ∧ (15 < 14 ∨ 0 = 0)) ∧
    (mayIssue (drainBuffer A1 0 0) 0 0 = true ∧ (getThread (drainBuffer A1 0 0) 0 0).awaited 0 = false ∧
      (getThread (drainBuffer A1 0 0) 0 0).awaited 6 = false ∧ 64 ≤ (127#16).toNat ∧ (127#16).toNat < 128) ∧
    (mayIssue (drainBuffer A1 0 0) 0 0 = true ∧ (getThread (drainBuffer A1 0 0) 0 0).awaited 7 = false ∧
      (getThread (drainBuffer A1 0 0) 0 0).awaited 6 = false ∧ (getThread (drainBuffer A1 0 0) 0 0).awaited 5 = false ∧ (13 < 14 ∨ 5 = 0)) := by
  decide +kernel

/-- What `Obligations.RegisterInstructions` asks of `shifti` can be met. -/
theorem test_meets_register_instructions_2 :
    (mayIssue (drainBuffer A1 0 0) 0 0 = true ∧ (getThread (drainBuffer A1 0 0) 0 0).awaited 7 = false ∧
      (getThread (drainBuffer A1 0 0) 0 0).awaited 6 = false ∧ 128 ≤ (191#16).toNat ∧ (191#16).toNat < 192) := by
  decide +kernel

/-- What `Obligations.Loads` asks of `ld`, `lw`, `lwu` can be met. -/
theorem test_meets_loads_1 :
    (issuesNow A1 0 0 ∧ ((getThread A1 0 0).reg 5 + BitVec.signExtend 64 65528#16).toNat % 8 = 0 ∧
      mayAccess A1 (coreClass A1 0) false ((getThread A1 0 0).reg 5 + BitVec.signExtend 64 65528#16).toNat 8 = true ∧
      badIn A1 ((getThread A1 0 0).reg 5 + BitVec.signExtend 64 65528#16).toNat 8 = [] ∧
      upsetsIn A1 ((getThread A1 0 0).reg 5 + BitVec.signExtend 64 65528#16).toNat 8 = [] ∧
      accessHeld A1 ((getThread A1 0 0).reg 5 + BitVec.signExtend 64 65528#16).toNat = false ∧
      (ownScratch 0 ((getThread A1 0 0).reg 5 + BitVec.signExtend 64 65528#16).toNat = true ∨ cacheMeets A1 0 ((getThread A1 0 0).reg 5 + BitVec.signExtend 64 65528#16).toNat 8 = A1)) ∧
    (issuesNow A1 0 0 ∧ ((getThread A1 0 0).reg 5 + BitVec.signExtend 64 65528#16).toNat % 4 = 0 ∧
      mayAccess A1 (coreClass A1 0) false ((getThread A1 0 0).reg 5 + BitVec.signExtend 64 65528#16).toNat 4 = true ∧
      badIn A1 ((getThread A1 0 0).reg 5 + BitVec.signExtend 64 65528#16).toNat 4 = [] ∧
      upsetsIn A1 ((getThread A1 0 0).reg 5 + BitVec.signExtend 64 65528#16).toNat 4 = [] ∧
      accessHeld A1 ((getThread A1 0 0).reg 5 + BitVec.signExtend 64 65528#16).toNat = false ∧
      (ownScratch 0 ((getThread A1 0 0).reg 5 + BitVec.signExtend 64 65528#16).toNat = true ∨ cacheMeets A1 0 ((getThread A1 0 0).reg 5 + BitVec.signExtend 64 65528#16).toNat 4 = A1)) := by
  unfold issuesNow
  decide +kernel

/-- What `Obligations.Loads` asks of `lbu`, `ld` can be met. -/
theorem test_meets_loads_2 :
    (issuesNow A1 0 0 ∧ ((getThread A1 0 0).reg 5 + BitVec.signExtend 64 65528#16).toNat % 1 = 0 ∧
      mayAccess A1 (coreClass A1 0) false ((getThread A1 0 0).reg 5 + BitVec.signExtend 64 65528#16).toNat 1 = true ∧
      badIn A1 ((getThread A1 0 0).reg 5 + BitVec.signExtend 64 65528#16).toNat 1 = [] ∧
      upsetsIn A1 ((getThread A1 0 0).reg 5 + BitVec.signExtend 64 65528#16).toNat 1 = [] ∧
      accessHeld A1 ((getThread A1 0 0).reg 5 + BitVec.signExtend 64 65528#16).toNat = false ∧
      (ownScratch 0 ((getThread A1 0 0).reg 5 + BitVec.signExtend 64 65528#16).toNat = true ∨ cacheMeets A1 0 ((getThread A1 0 0).reg 5 + BitVec.signExtend 64 65528#16).toNat 1 = A1)) ∧
    (issuesNow A2 0 0 ∧ ((getThread A2 0 0).reg 5 + BitVec.signExtend 64 65528#16).toNat % 8 = 0 ∧
      mayAccess A2 (coreClass A2 0) false ((getThread A2 0 0).reg 5 + BitVec.signExtend 64 65528#16).toNat 8 = true ∧
      badIn A2 ((getThread A2 0 0).reg 5 + BitVec.signExtend 64 65528#16).toNat 8 = [] ∧
      upsetsIn A2 ((getThread A2 0 0).reg 5 + BitVec.signExtend 64 65528#16).toNat 8 = [] ∧
      accessHeld A2 ((getThread A2 0 0).reg 5 + BitVec.signExtend 64 65528#16).toNat = false ∧
      (ownScratch 0 ((getThread A2 0 0).reg 5 + BitVec.signExtend 64 65528#16).toNat = true ∨ cacheMeets A2 0 ((getThread A2 0 0).reg 5 + BitVec.signExtend 64 65528#16).toNat 8 = A2)) := by
  unfold issuesNow
  decide +kernel

/-- What `Obligations.Loads` asks of `lw`, `lwu`, `lbu` can be met. -/
theorem test_meets_loads_3 :
    (issuesNow A2 0 0 ∧ ((getThread A2 0 0).reg 5 + BitVec.signExtend 64 65528#16).toNat % 4 = 0 ∧
      mayAccess A2 (coreClass A2 0) false ((getThread A2 0 0).reg 5 + BitVec.signExtend 64 65528#16).toNat 4 = true ∧
      badIn A2 ((getThread A2 0 0).reg 5 + BitVec.signExtend 64 65528#16).toNat 4 = [] ∧
      upsetsIn A2 ((getThread A2 0 0).reg 5 + BitVec.signExtend 64 65528#16).toNat 4 = [] ∧
      accessHeld A2 ((getThread A2 0 0).reg 5 + BitVec.signExtend 64 65528#16).toNat = false ∧
      (ownScratch 0 ((getThread A2 0 0).reg 5 + BitVec.signExtend 64 65528#16).toNat = true ∨ cacheMeets A2 0 ((getThread A2 0 0).reg 5 + BitVec.signExtend 64 65528#16).toNat 4 = A2)) ∧
    (issuesNow A2 0 0 ∧ ((getThread A2 0 0).reg 5 + BitVec.signExtend 64 65528#16).toNat % 1 = 0 ∧
      mayAccess A2 (coreClass A2 0) false ((getThread A2 0 0).reg 5 + BitVec.signExtend 64 65528#16).toNat 1 = true ∧
      badIn A2 ((getThread A2 0 0).reg 5 + BitVec.signExtend 64 65528#16).toNat 1 = [] ∧
      upsetsIn A2 ((getThread A2 0 0).reg 5 + BitVec.signExtend 64 65528#16).toNat 1 = [] ∧
      accessHeld A2 ((getThread A2 0 0).reg 5 + BitVec.signExtend 64 65528#16).toNat = false ∧
      (ownScratch 0 ((getThread A2 0 0).reg 5 + BitVec.signExtend 64 65528#16).toNat = true ∨ cacheMeets A2 0 ((getThread A2 0 0).reg 5 + BitVec.signExtend 64 65528#16).toNat 1 = A2)) := by
  unfold issuesNow
  decide +kernel

/-- What `Obligations.Stores` asks of `sd`, `sw`, `sb`, `aadd` can be met. -/
theorem test_meets_stores_1 :
    (issuesNow A1 0 0 ∧ memWf A1.mem = true ∧ ((getThread A1 0 0).reg 5 + BitVec.signExtend 64 8#16).toNat % 8 = 0 ∧
      mayAccess A1 (coreClass A1 0) true ((getThread A1 0 0).reg 5 + BitVec.signExtend 64 8#16).toNat 8 = true ∧
      accessHeld A1 ((getThread A1 0 0).reg 5 + BitVec.signExtend 64 8#16).toNat = false) ∧
    (issuesNow A1 0 0 ∧ memWf A1.mem = true ∧ ((getThread A1 0 0).reg 5 + BitVec.signExtend 64 8#16).toNat % 4 = 0 ∧
      mayAccess A1 (coreClass A1 0) true ((getThread A1 0 0).reg 5 + BitVec.signExtend 64 8#16).toNat 4 = true ∧
      accessHeld A1 ((getThread A1 0 0).reg 5 + BitVec.signExtend 64 8#16).toNat = false) ∧
    (issuesNow A1 0 0 ∧ memWf A1.mem = true ∧ ((getThread A1 0 0).reg 5 + BitVec.signExtend 64 8#16).toNat % 1 = 0 ∧
      mayAccess A1 (coreClass A1 0) true ((getThread A1 0 0).reg 5 + BitVec.signExtend 64 8#16).toNat 1 = true ∧
      accessHeld A1 ((getThread A1 0 0).reg 5 + BitVec.signExtend 64 8#16).toNat = false) ∧
    (issuesNow A1 0 0 ∧ memWf A1.mem = true ∧ ((getThread A1 0 0).reg 5 + BitVec.signExtend 64 8#16).toNat % 8 = 0 ∧
      ownScratch 0 ((getThread A1 0 0).reg 5 + BitVec.signExtend 64 8#16).toNat = true ∧
      mayAccess A1 (coreClass A1 0) true ((getThread A1 0 0).reg 5 + BitVec.signExtend 64 8#16).toNat 8 = true ∧
      badIn A1 ((getThread A1 0 0).reg 5 + BitVec.signExtend 64 8#16).toNat 8 = [] ∧
      upsetsIn A1 ((getThread A1 0 0).reg 5 + BitVec.signExtend 64 8#16).toNat 8 = []) := by
  unfold issuesNow
  decide +kernel

/-- What `Obligations.Branches` asks of `beq`, `bne`, `blt`, `bge`, `bltu`, `bgeu`, `jal` can be met. -/
theorem test_meets_branches_1 :
    (mayIssue (drainBuffer A1 0 0) 0 0 = true ∧ (getThread (drainBuffer A1 0 0) 0 0).awaited 5 = false ∧
      (getThread (drainBuffer A1 0 0) 0 0).awaited 6 = false) := by
  decide +kernel

end Cores

/-! ### Cores: tokens, keys, fences, CSRs -/

namespace Threads

abbrev B1 := thr { th [(5, 0x1234#64)] with keys := [7#64] }
abbrev B2 := { net (core1 (th [(5, 0x1000000#64), (6, 0x800000040#64)])) with mem := bytesAt 0x800000040 [(4, 0x10), (0x1C, 1), (0x20, 1), (0x24, 1), (0x28, 1), (0x2C, 1), (0x38, 2)] }
abbrev full : Station := { Station.empty with queue := List.replicate 8 ⟨0x1000000#64, 0, 0xFFFF, 0⟩ }
abbrev B3 := { net { core1 (th [(5, 0x1000000#64), (6, 0x800000040#64)]) with stations := [(0, full), (2, full)] } with mem := B2.mem }
abbrev B4 := net { core1 (th [(5, 1#64)]) with sync := [(15, 0x1FFF)] }
abbrev B5 := net { core1 (th [(5, 1#64)]) with sync := [(15, 0x1FFE)] }
abbrev t0 : STile := ⟨TileHdr.zero, [], [], []⟩
abbrev B6 := { B4 with streams := [(0, ⟨0, [t0, t0, t0, t0], [], 0, false, [], 0⟩)] }
abbrev e0 : StreamEnt := ⟨0, 0, 0, 1, 4, 0, 3, 0, 2, false, 0, 0⟩
abbrev B7 := { grouped (thr (th [(5, 0x00000011#64), (6, 0x00030011#64)])) with keyTab := [(0, [])] }
abbrev B8 := { B7 with keyTab := [(0, List.replicate 1024 1#64)] }
abbrev B9 := { B7 with keyTab := [(0, [srKey (jobSeed B7) 0x11 0 0])] }
abbrev S02_1 := thr { th [] with latch := 9 }
abbrev B10 := net { core1 (th []) with stations := [(9, full)] }
abbrev B11 : State := { thr (th [(5, 3#64)]) with csr := [(O.globalClusterUsed, 0xFFFFFFFF#32), (O.coreTraceCtrl 0, 0x101#32)] }

/-- What `Obligations.JumpsAndHalt` asks of `jalr`, `haltThread` can be met. -/
theorem test_meets_jumps_and_halt_1 :
    (issuesNow B1 0 0 ∧ ((getThread B1 0 0).reg 5 + BitVec.signExtend 64 65532#16).toNat % 4 = 0 ∧
      ((getThread B1 0 0).reg 5 + BitVec.signExtend 64 65532#16).toNat < 2 ^ 20) := by
  unfold issuesNow
  decide +kernel

/-- What `Obligations.StationIssue` asks of `tissue`, `sissue` can be met. -/
theorem test_meets_station_issue_1 :
    (issuesNow B2 0 0 ∧ 1 < 16 ∧ 0 < 16 ∧ 4096#16 = BitVec.ofNat 16 (1 * 4096 + 0 * 256) ∧ stnNumber 1 0 = some 2 ∧
      tissueOk B2 0 0 1 0 ((getThread B2 0 0).reg 5) = true ∧ queueFull B2 0 2 = false) ∧
    (issuesNow B2 0 0 ∧ 0 < 16 ∧ 0#16 = BitVec.ofNat 16 (0 * 4096 + 0 * 256) ∧ stnNumber 0 0 = some 0 ∧
      sissueOk B2 0 0 0 0 ((getThread B2 0 0).reg 6) = true ∧ upsetsIn B2 ((getThread B2 0 0).reg 6).toNat 64 = [] ∧
      badIn B2 ((getThread B2 0 0).reg 6).toNat 64 = [] ∧ queueFull B2 0 0 = false) ∧
    (issuesNow B3 0 0 ∧ 1 < 16 ∧ 0 < 16 ∧ 4096#16 = BitVec.ofNat 16 (1 * 4096 + 0 * 256) ∧ stnNumber 1 0 = some 2 ∧
      tissueOk B3 0 0 1 0 ((getThread B3 0 0).reg 5) = true ∧ queueFull B3 0 2 = true) ∧
    (issuesNow B3 0 0 ∧ 0 < 16 ∧ 0#16 = BitVec.ofNat 16 (0 * 4096 + 0 * 256) ∧ stnNumber 0 0 = some 0 ∧
      sissueOk B3 0 0 0 0 ((getThread B3 0 0).reg 6) = true ∧ upsetsIn B3 ((getThread B3 0 0).reg 6).toNat 64 = [] ∧
      badIn B3 ((getThread B3 0 0).reg 6).toNat 64 = [] ∧ queueFull B3 0 0 = true) := by
  unfold issuesNow
  decide +kernel

/-- What `Obligations.TokensAndSync` asks of `twait` can be met. -/
theorem test_meets_tokens_and_sync_1 :
    (issuesNow B4 0 0 ∧ 1302527#21 = BitVec.ofNat 21 (1048576 + 15 * 16384 + 8191) ∧ 15 < 16 ∧ 8191 < 8192 ∧ 8191 ≤ tget (getCore B4 0).sync 15 0) ∧
    (issuesNow B5 0 0 ∧ 1302527#21 = BitVec.ofNat 21 (1048576 + 15 * 16384 + 8191) ∧ 15 < 16 ∧ 8191 < 8192 ∧ tget (getCore B5 0).sync 15 0 < 8191) ∧
    (issuesNow B6 0 0 ∧ 32772#21 = BitVec.ofNat 21 (2 * 16384 + 4) ∧ 2 < 64 ∧ fanin B6 0 2 = some (0, e0) ∧ 4 ≠ 0 ∧ 4 ≤ 4 ∧ 4 < 8192 ∧
      4 ≤ (getStream B6 0).queue.length) ∧
    (issuesNow B4 0 0 ∧ 32772#21 = BitVec.ofNat 21 (2 * 16384 + 4) ∧ 2 < 64 ∧ fanin B4 0 2 = some (0, e0) ∧ 4 ≠ 0 ∧ 4 ≤ 4 ∧ 4 < 8192 ∧
      (getStream B4 0).queue.length < 4) ∧
    (issuesNow B4 0 0 ∧ 24580#21 = BitVec.ofNat 21 (1 * 16384 + 8192 + 4) ∧ 1 < 64 ∧ fanout B4 0 1 = [(0, e0)] ∧ 4 ≠ 0 ∧ 4 ≤ 4 ∧ 4 < 8192 ∧
      4 ≤ creditsOf B4 [0]) := by
  unfold issuesNow
  decide +kernel

/-- What `Obligations.TokensAndSync` asks of `tsig` can be met. -/
theorem test_meets_tokens_and_sync_2 :
    (issuesNow B4 0 0 ∧ (∀ r < 8, ¬∃ g i m, (getThread B4 (clusterOf 0 * 8 + 7) r).blocked = Blocked.twait g 1 15 i m)) := by
  unfold issuesNow
  and_intros
  all_goals first | decide +kernel | (intro r _ h; obtain ⟨_, _, _, e⟩ := h; cases e)

/-- What `Obligations.SrKeys` asks of `kopen`, `kclose` can be met. -/
theorem test_meets_sr_keys_1 :
    (issuesNow B7 0 0 ∧ (tget (grouped (thr (th [(5, 17#64), (6, 196625#64)]))).err.queues (excSev B7 0) []).length < 16 ∧
      (¬(((getThread B7 0 0).reg 5).toNat / 2 ^ 16 % 4 = 3 ∨ keyLive B7 (clusterOf 0) (srKey (jobSeed B7) (((getThread B7 0 0).reg 5).toNat % 2 ^ 16) (((getThread B7 0 0).reg 5).toNat / 2 ^ 18 % 2 ^ 14) (((getThread B7 0 0).reg 5).toNat / 2 ^ 16 % 4)) = true ∨ mayUseRank B7 (((getThread B7 0 0).reg 5).toNat / 2 ^ 18 % 2 ^ 14) = false)) ∧
      (liveKeys B7 (clusterOf 0)).length < 1024) ∧
    (issuesNow B7 0 0 ∧ (tget (grouped (thr (th [(5, 17#64), (6, 196625#64)]))).err.queues (excSev B7 0) []).length < 16 ∧
      keyLive B7 (clusterOf 0) (srKey (jobSeed B7) (((getThread B7 0 0).reg 5).toNat % 2 ^ 16) (((getThread B7 0 0).reg 5).toNat / 2 ^ 18 % 2 ^ 14) (((getThread B7 0 0).reg 5).toNat / 2 ^ 16 % 4)) = false) ∧
    (issuesNow B7 0 0 ∧ (tget (grouped (thr (th [(5, 17#64), (6, 196625#64)]))).err.queues (excSev B7 0) []).length < 16 ∧
      (((getThread B7 0 0).reg 6).toNat / 2 ^ 16 % 4 = 3 ∨ keyLive B7 (clusterOf 0) (srKey (jobSeed B7) (((getThread B7 0 0).reg 6).toNat % 2 ^ 16) (((getThread B7 0 0).reg 6).toNat / 2 ^ 18 % 2 ^ 14) (((getThread B7 0 0).reg 6).toNat / 2 ^ 16 % 4)) = true ∨ mayUseRank B7 (((getThread B7 0 0).reg 6).toNat / 2 ^ 18 % 2 ^ 14) = false)) := by
  unfold issuesNow
  decide +kernel

/-- What `Obligations.SrKeys` asks of `kclose`, `kopen` can be met. -/
theorem test_meets_sr_keys_2 :
    (issuesNow B7 0 0 ∧ (tget (grouped (thr (th [(5, 17#64), (6, 196625#64)]))).err.queues (excSev B7 0) []).length < 16 ∧
      keyLive B7 (clusterOf 0) (srKey (jobSeed B7) (((getThread B7 0 0).reg 6).toNat % 2 ^ 16) (((getThread B7 0 0).reg 6).toNat / 2 ^ 18 % 2 ^ 14) (((getThread B7 0 0).reg 6).toNat / 2 ^ 16 % 4)) = false) ∧
    (issuesNow B8 0 0 ∧ (tget (grouped (thr (th [(5, 17#64), (6, 196625#64)]))).err.queues (excSev B8 0) []).length < 16 ∧
      (¬(((getThread B8 0 0).reg 5).toNat / 2 ^ 16 % 4 = 3 ∨ keyLive B8 (clusterOf 0) (srKey (jobSeed B8) (((getThread B8 0 0).reg 5).toNat % 2 ^ 16) (((getThread B8 0 0).reg 5).toNat / 2 ^ 18 % 2 ^ 14) (((getThread B8 0 0).reg 5).toNat / 2 ^ 16 % 4)) = true ∨ mayUseRank B8 (((getThread B8 0 0).reg 5).toNat / 2 ^ 18 % 2 ^ 14) = false)) ∧
      1024 ≤ (liveKeys B8 (clusterOf 0)).length) ∧
    (issuesNow B8 0 0 ∧ (tget (grouped (thr (th [(5, 17#64), (6, 196625#64)]))).err.queues (excSev B8 0) []).length < 16 ∧
      keyLive B8 (clusterOf 0) (srKey (jobSeed B8) (((getThread B8 0 0).reg 5).toNat % 2 ^ 16) (((getThread B8 0 0).reg 5).toNat / 2 ^ 18 % 2 ^ 14) (((getThread B8 0 0).reg 5).toNat / 2 ^ 16 % 4)) = false) := by
  unfold issuesNow
  decide +kernel

/-- What `Obligations.SrKeys` asks of `kopen`, `kclose` can be met. -/
theorem test_meets_sr_keys_3 :
    (issuesNow B9 0 0 ∧ (tget (grouped (thr (th [(5, 17#64), (6, 196625#64)]))).err.queues (excSev B9 0) []).length < 16 ∧
      (((getThread B9 0 0).reg 5).toNat / 2 ^ 16 % 4 = 3 ∨ keyLive B9 (clusterOf 0) (srKey (jobSeed B9) (((getThread B9 0 0).reg 5).toNat % 2 ^ 16) (((getThread B9 0 0).reg 5).toNat / 2 ^ 18 % 2 ^ 14) (((getThread B9 0 0).reg 5).toNat / 2 ^ 16 % 4)) = true ∨ mayUseRank B9 (((getThread B9 0 0).reg 5).toNat / 2 ^ 18 % 2 ^ 14) = false)) ∧
    (issuesNow B9 0 0 ∧ (tget (grouped (thr (th [(5, 17#64), (6, 196625#64)]))).err.queues (excSev B9 0) []).length < 16 ∧
      ((getThread B9 0 0).reg 5).toNat / 2 ^ 16 % 4 ≠ 3 ∧
      keyLive B9 (clusterOf 0) (srKey (jobSeed B9) (((getThread B9 0 0).reg 5).toNat % 2 ^ 16) (((getThread B9 0 0).reg 5).toNat / 2 ^ 18 % 2 ^ 14) (((getThread B9 0 0).reg 5).toNat / 2 ^ 16 % 4)) = true) := by
  unfold issuesNow
  decide +kernel

/-- What `Obligations.FenceAndWait` asks of `fence`, `waitEv` can be met. -/
theorem test_meets_fence_and_wait_1 :
    (issuesNow S02_1 0 0 ∧ 0 < (15#16).toNat ∧ (15#16).toNat < 16 ∧ fenceHolds S02_1 0 0 (15#16).toNat = true) ∧
    (issuesNow S02_1 0 0 ∧ 0 < (15#16).toNat ∧ (15#16).toNat < 16 ∧ (getThread S02_1 0 0).latch &&& (15#16).toNat ≠ 0) ∧
    (issuesNow B10 0 0 ∧ 0 < (8#16).toNat ∧ (8#16).toNat < 16 ∧ fenceHolds B10 0 0 (8#16).toNat = false) ∧
    (issuesNow B10 0 0 ∧ 0 < (8#16).toNat ∧ (8#16).toNat < 16 ∧ (getThread B10 0 0).latch &&& (8#16).toNat = 0) := by
  unfold issuesNow
  decide +kernel

/-- What `Obligations.CoreCsrAndTrace` asks of `csrr`, `csrw`, `traceOp` can be met. -/
theorem test_meets_core_csr_and_trace_1 :
    (issuesNow (thr (th [(5, 3#64)])) 0 0 ∧ 0 < 8 ∧ 1023 < 1024) ∧
    (issuesNow (thr (th [(5, 3#64)])) 0 0 ∧ 0 < 8 ∧ 1023 < 16384) ∧
    (issuesNow (thr (th [(5, 3#64)])) 0 0 ∧ 0 < 8 ∧ traceOn (thr (th [(5, 3#64)])) 0 0 = false) ∧
    (issuesNow B11 0 0 ∧ 0 < 8 ∧ 16383 < 16384) ∧
    (issuesNow B11 0 0 ∧ 0 < 8 ∧ traceOn B11 0 0 = true ∧ (getCore B11 0).traceLost = 0 ∧ (getCore B11 0).traceGap = false ∧
      (getCore B11 0).tracePend = [] ∧ traceBlocked B11 0 5 = false ∧ (getCore B11 0).traceSince + 14 < 4096 ∧ (getCore B11 0).traceThread = 0 ∧
      (getThread B11 0 0).tnt = []) := by
  unfold issuesNow
  decide +kernel

/-- Thread 3 of core 7 waits for counter 15. -/
abbrev B12 : State :=
  { B4 with cores := tset B4.cores 7 { Core.reset with threads := [(3, { th [] with st := .twait, blocked := .twait 5 1 15 0 0x3FFF })] } }

/-- What `Obligations.TokensAndSync` asks of a TSIG that ends a wait: one thread of another core waits for no more than the new count. -/
theorem test_meets_tokens_and_sync_wakes :
    issuesNow B12 0 0 ∧ tget (getCore B12 7).sync 15 0 + 0x3FFF ≤ 0xFFFF ∧ (7, 3) ≠ (0, 0) ∧
      (getThread B12 7 3).blocked = .twait 5 1 15 0 0x3FFF ∧ 0x3FFF ≤ tget (getCore B12 7).sync 15 0 + 0x3FFF ∧
      ∀ q, q < 8 → q ≠ 3 → ¬ ∃ g i m, (getThread B12 7 q).blocked = .twait g 1 15 i m := by
  refine ⟨?_, by decide +kernel, by decide, rfl, by decide +kernel, ?_⟩
  · unfold issuesNow; decide +kernel
  · rintro q h1 h2 ⟨g, i, m, e⟩
    rw [(by decide +kernel : ∀ q < 8, q ≠ 3 → (getThread B12 7 q).blocked = .none) q h1 h2] at e
    cases e

end Threads

/-! ### Cores: exceptions, the issue buffer, events -/

namespace Stations

abbrev C1 := thr (th [(5, 0x900000003#64)])
abbrev C2 := net { core1 (th [(5, 0x900000000#64)]) with sync := [(0, 0xFFFF)] }
abbrev C3 := { C2 with cores := [(0, { core1 (th [(5, 0x100000#64)]) with sync := [(0, 0xFFFF)] })], csr := [(O.globalClusterUsed, 0xFFFFFFFF#32), (O.coreExcCount 0, 0xFFFF#32)] }
abbrev br : Branch := ⟨0, true, true, 8, 0, [(5, 1#64)]⟩
abbrev wt : Waiting := ⟨1, 4, .fence 4, []⟩
abbrev C4 := thr { th [(5, 0x800000010#64), (6, 1#64)] with branches := [br], pc := 0xFFFFC, buffer := [wt, wt, wt] }
abbrev C5 := thr { th [(5, 0x800000010#64), (6, 1#64)] with branches := [br], pc := 0xFFFFC, buffer := [wt, wt, wt, wt] }
abbrev C6 := thr { th [] with branches := [br], buffer := [⟨1, 4, .load 8 false 5 0#64, []⟩] }
abbrev br2 : Branch := { br with predicted := false }
abbrev C7 := thr { th [(5, 0x800000010#64), (6, 1#64)] with branches := [br2, br], pc := 0xFFFFC, buffer := [wt, { wt with depth := 0 }] }
abbrev C8 := thr { Thread.reset with st := .miss, blocked := .miss 7 9#64 0x1000000010 false }
abbrev C9 := coreOn { Core.reset with threads := [(0, { Thread.reset with st := .twait, blocked := .twait 7 1 3 0 5 })], sync := [(3, 5)] }
abbrev C10 := thr { Thread.reset with st := .fence, blocked := .fence 15 }
abbrev C11 := thr { Thread.reset with st := .wait, blocked := .wait 8 }
abbrev C12 := coreOn { Core.reset with threads := [(0, { th [] with run := 256 }), (7, { Thread.reset with st := .ready })] }
abbrev C13 := net (core1 { Thread.reset with st := .queueFull, blocked := .queueFull (.tissue 0x1000000#64 1 0) 8 })
abbrev C14 : State := { C10 with csr := [(O.coreTimer 0, 1#32)] }

/-- What `Obligations.CoreExceptions` asks of `lui`, `fence`, `waitEv`, `ld`, `sd`, `aadd`, `lw`, `lwu`, `sw`, `jalr`, `lbu` can be met. -/
theorem test_meets_core_exceptions_1 :
    (issuesNow C1 0 0 ∧ 0 < 8 ∧ (tget C1.err.queues (excSev C1 0) []).length < 16 ∧ 5 ≠ 0) ∧
    (issuesNow C1 0 0 ∧ 0 < 8 ∧ (tget C1.err.queues (excSev C1 0) []).length < 16 ∧ ((0#16).toNat = 0 ∨ 16 ≤ (0#16).toNat)) ∧
    (issuesNow C1 0 0 ∧ 0 < 8 ∧ (tget C1.err.queues (excSev C1 0) []).length < 16 ∧
      ((getThread C1 0 0).reg 5 + BitVec.signExtend 64 0#16).toNat % 8 ≠ 0) ∧
    (issuesNow C1 0 0 ∧ 0 < 8 ∧ (tget C1.err.queues (excSev C1 0) []).length < 16 ∧
      ((getThread C1 0 0).reg 5 + BitVec.signExtend 64 0#16).toNat % 4 ≠ 0) ∧
    (issuesNow C1 0 0 ∧ 0 < 8 ∧ (tget C1.err.queues (excSev C1 0) []).length < 16 ∧
      mayAccess C1 (coreClass C1 0) false ((getThread C1 0 0).reg 5 + BitVec.signExtend 64 0#16).toNat 1 = false) := by
  unfold issuesNow
  decide +kernel

/-- What `Obligations.CoreExceptions` asks of `sb`, `tissue`, `sissue`, `twait`, `shifti` can be met. -/
theorem test_meets_core_exceptions_2 :
    (issuesNow C1 0 0 ∧ 0 < 8 ∧ (tget C1.err.queues (excSev C1 0) []).length < 16 ∧
      mayAccess C1 (coreClass C1 0) true ((getThread C1 0 0).reg 5 + BitVec.signExtend 64 0#16).toNat 1 = false) ∧
    (issuesNow C1 0 0 ∧ 0 < 8 ∧ (tget C1.err.queues (excSev C1 0) []).length < 16 ∧ (0#16).toNat % 256 = 0 ∧
      tissueOk C1 0 0 (bitsOf (0#16).toNat 15 12) (bitsOf (0#16).toNat 11 8) ((getThread C1 0 0).reg 5) = false) ∧
    (issuesNow C1 0 0 ∧ 0 < 8 ∧ (tget C1.err.queues (excSev C1 0) []).length < 16 ∧ (0#16).toNat % 256 = 0 ∧
      sissueOk C1 0 0 (bitsOf (0#16).toNat 15 12) (bitsOf (0#16).toNat 11 8) ((getThread C1 0 0).reg 5) = false ∧
      upsetsIn C1 ((getThread C1 0 0).reg 5).toNat 64 = [] ∧ badIn C1 ((getThread C1 0 0).reg 5).toNat 64 = []) ∧
    (issuesNow C1 0 0 ∧ 0 < 8 ∧ (tget C1.err.queues (excSev C1 0) []).length < 16 ∧ (0#21).toNat < 1048576 ∧
      twaitCount C1 0 0 (bitsOf (0#21).toNat 19 14) (bitsOf (0#21).toNat 13 13) (bitsOf (0#21).toNat 12 0) = none) ∧
    (issuesNow C1 0 0 ∧ 0 < 8 ∧ (tget C1.err.queues (excSev C1 0) []).length < 16 ∧ 192 ≤ (49157#16).toNat) := by
  unfold issuesNow
  decide +kernel

/-- What `Obligations.CoreExceptions` asks of `fence`, `waitEv`, `ld`, `sw`, `lbu`, `sb` can be met. -/
theorem test_meets_core_exceptions_3 :
    (issuesNow C1 0 0 ∧ 0 < 8 ∧ (tget C1.err.queues (excSev C1 0) []).length < 16 ∧ ((49157#16).toNat = 0 ∨ 16 ≤ (49157#16).toNat)) ∧
    (issuesNow C1 0 0 ∧ 0 < 8 ∧ (tget C1.err.queues (excSev C1 0) []).length < 16 ∧
      ((getThread C1 0 0).reg 5 + BitVec.signExtend 64 49157#16).toNat % 8 = 0 ∧
      mayAccess C1 (coreClass C1 0) false ((getThread C1 0 0).reg 5 + BitVec.signExtend 64 49157#16).toNat 8 = false) ∧
    (issuesNow C1 0 0 ∧ 0 < 8 ∧ (tget C1.err.queues (excSev C1 0) []).length < 16 ∧
      ((getThread C1 0 0).reg 5 + BitVec.signExtend 64 49157#16).toNat % 4 = 0 ∧
      mayAccess C1 (coreClass C1 0) true ((getThread C1 0 0).reg 5 + BitVec.signExtend 64 49157#16).toNat 4 = false) ∧
    (issuesNow C1 0 0 ∧ 0 < 8 ∧ (tget C1.err.queues (excSev C1 0) []).length < 16 ∧
      mayAccess C1 (coreClass C1 0) false ((getThread C1 0 0).reg 5 + BitVec.signExtend 64 49157#16).toNat 1 = false) ∧
    (issuesNow C1 0 0 ∧ 0 < 8 ∧ (tget C1.err.queues (excSev C1 0) []).length < 16 ∧
      mayAccess C1 (coreClass C1 0) true ((getThread C1 0 0).reg 5 + BitVec.signExtend 64 49157#16).toNat 1 = false) := by
  unfold issuesNow
  decide +kernel

/-- What `Obligations.CoreExceptions` asks of `aadd`, `jalr`, `shifti`, `fence`, `waitEv`, `ld` can be met. -/
theorem test_meets_core_exceptions_4 :
    (issuesNow C1 0 0 ∧ 0 < 8 ∧ (tget C1.err.queues (excSev C1 0) []).length < 16 ∧
      ((getThread C1 0 0).reg 5 + BitVec.signExtend 64 49157#16).toNat % 8 = 0 ∧
      ownScratch 0 ((getThread C1 0 0).reg 5 + BitVec.signExtend 64 49157#16).toNat = false) ∧
    (issuesNow C1 0 0 ∧ 0 < 8 ∧ (tget C1.err.queues (excSev C1 0) []).length < 16 ∧
      ((getThread C1 0 0).reg 5 + BitVec.signExtend 64 49157#16).toNat % 4 = 0 ∧
      2 ^ 20 ≤ ((getThread C1 0 0).reg 5 + BitVec.signExtend 64 49157#16).toNat) ∧
    (issuesNow C2 0 0 ∧ 0 < 8 ∧ (tget C2.err.queues (excSev C2 0) []).length < 16 ∧ 192 ≤ (32768#16).toNat) ∧
    (issuesNow C2 0 0 ∧ 0 < 8 ∧ (tget C2.err.queues (excSev C2 0) []).length < 16 ∧ ((32768#16).toNat = 0 ∨ 16 ≤ (32768#16).toNat)) ∧
    (issuesNow C2 0 0 ∧ 0 < 8 ∧ (tget C2.err.queues (excSev C2 0) []).length < 16 ∧
      ((getThread C2 0 0).reg 5 + BitVec.signExtend 64 32768#16).toNat % 8 = 0 ∧
      mayAccess C2 (coreClass C2 0) false ((getThread C2 0 0).reg 5 + BitVec.signExtend 64 32768#16).toNat 8 = false) := by
  unfold issuesNow
  decide +kernel

/-- What `Obligations.CoreExceptions` asks of `sw`, `lbu`, `sb`, `aadd`, `jalr` can be met. -/
theorem test_meets_core_exceptions_5 :
    (issuesNow C2 0 0 ∧ 0 < 8 ∧ (tget C2.err.queues (excSev C2 0) []).length < 16 ∧
      ((getThread C2 0 0).reg 5 + BitVec.signExtend 64 32768#16).toNat % 4 = 0 ∧
      mayAccess C2 (coreClass C2 0) true ((getThread C2 0 0).reg 5 + BitVec.signExtend 64 32768#16).toNat 4 = false) ∧
    (issuesNow C2 0 0 ∧ 0 < 8 ∧ (tget C2.err.queues (excSev C2 0) []).length < 16 ∧
      mayAccess C2 (coreClass C2 0) false ((getThread C2 0 0).reg 5 + BitVec.signExtend 64 32768#16).toNat 1 = false) ∧
    (issuesNow C2 0 0 ∧ 0 < 8 ∧ (tget C2.err.queues (excSev C2 0) []).length < 16 ∧
      mayAccess C2 (coreClass C2 0) true ((getThread C2 0 0).reg 5 + BitVec.signExtend 64 32768#16).toNat 1 = false) ∧
    (issuesNow C2 0 0 ∧ 0 < 8 ∧ (tget C2.err.queues (excSev C2 0) []).length < 16 ∧
      ((getThread C2 0 0).reg 5 + BitVec.signExtend 64 32768#16).toNat % 8 = 0 ∧
      ownScratch 0 ((getThread C2 0 0).reg 5 + BitVec.signExtend 64 32768#16).toNat = false) ∧
    (issuesNow C2 0 0 ∧ 0 < 8 ∧ (tget C2.err.queues (excSev C2 0) []).length < 16 ∧
      ((getThread C2 0 0).reg 5 + BitVec.signExtend 64 32768#16).toNat % 4 = 0 ∧
      2 ^ 20 ≤ ((getThread C2 0 0).reg 5 + BitVec.signExtend 64 32768#16).toNat) := by
  unfold issuesNow
  decide +kernel

/-- What `Obligations.CoreExceptions` asks of `tissue`, `sissue`, `tsig`, `csrw`, `aadd` can be met. -/
theorem test_meets_core_exceptions_6 :
    (issuesNow C2 0 0 ∧ 0 < 8 ∧ (tget C2.err.queues (excSev C2 0) []).length < 16 ∧ (32768#16).toNat % 256 = 0 ∧
      tissueOk C2 0 0 (bitsOf (32768#16).toNat 15 12) (bitsOf (32768#16).toNat 11 8) ((getThread C2 0 0).reg 5) = false) ∧
    (issuesNow C2 0 0 ∧ 0 < 8 ∧ (tget C2.err.queues (excSev C2 0) []).length < 16 ∧ (32768#16).toNat % 256 = 0 ∧
      sissueOk C2 0 0 (bitsOf (32768#16).toNat 15 12) (bitsOf (32768#16).toNat 11 8) ((getThread C2 0 0).reg 5) = false ∧
      upsetsIn C2 ((getThread C2 0 0).reg 5).toNat 64 = [] ∧ badIn C2 ((getThread C2 0 0).reg 5).toNat 64 = []) ∧
    (issuesNow C2 0 0 ∧ 0 < 8 ∧ (tget C2.err.queues (excSev C2 0) []).length < 16 ∧ bitsOf (1#21).toNat 13 0 ≠ 0 ∧
      65535 < tget (getCore C2 (clusterOf 0 * 8 + bitsOf (1#21).toNat 20 18)).sync (bitsOf (1#21).toNat 17 14) 0 + bitsOf (1#21).toNat 13 0) ∧
    (issuesNow C2 0 0 ∧ 0 < 8 ∧ (tget C2.err.queues (excSev C2 0) []).length < 16 ∧ 32768 ≤ (32768#16).toNat ∧ (32768#16).getLsbD 14 = false) ∧
    (issuesNow C2 0 0 ∧ 0 < 8 ∧ (tget C2.err.queues (excSev C2 0) []).length < 16 ∧
      ((getThread C2 0 0).reg 0 + BitVec.signExtend 64 0#16).toNat % 8 = 0 ∧
      ownScratch 0 ((getThread C2 0 0).reg 0 + BitVec.signExtend 64 0#16).toNat = false) := by
  unfold issuesNow
  decide +kernel

/-- What `Obligations.CoreExceptions` asks of `twait`, `lui`, `fence`, `waitEv`, `aadd`, `jalr` can be met. -/
theorem test_meets_core_exceptions_7 :
    (issuesNow C2 0 0 ∧ 0 < 8 ∧ (tget C2.err.queues (excSev C2 0) []).length < 16 ∧ (16384#21).toNat < 1048576 ∧
      twaitCount C2 0 0 (bitsOf (16384#21).toNat 19 14) (bitsOf (16384#21).toNat 13 13) (bitsOf (16384#21).toNat 12 0) = none) ∧
    (issuesNow C3 0 0 ∧ 0 < 8 ∧ (tget C2.err.queues (excSev C3 0) []).length < 16 ∧ 5 ≠ 0) ∧
    (issuesNow C3 0 0 ∧ 0 < 8 ∧ (tget C2.err.queues (excSev C3 0) []).length < 16 ∧ ((0#16).toNat = 0 ∨ 16 ≤ (0#16).toNat)) ∧
    (issuesNow C3 0 0 ∧ 0 < 8 ∧ (tget C2.err.queues (excSev C3 0) []).length < 16 ∧
      ((getThread C3 0 0).reg 5 + BitVec.signExtend 64 0#16).toNat % 8 = 0 ∧
      ownScratch 0 ((getThread C3 0 0).reg 5 + BitVec.signExtend 64 0#16).toNat = false) ∧
    (issuesNow C3 0 0 ∧ 0 < 8 ∧ (tget C2.err.queues (excSev C3 0) []).length < 16 ∧
      ((getThread C3 0 0).reg 5 + BitVec.signExtend 64 0#16).toNat % 4 = 0 ∧ 2 ^ 20 ≤ ((getThread C3 0 0).reg 5 + BitVec.signExtend 64 0#16).toNat) := by
  unfold issuesNow
  decide +kernel

/-- What `Obligations.CoreExceptions` asks of `tissue`, `sissue`, `tsig`, `alu` can be met. -/
theorem test_meets_core_exceptions_8 :
    (issuesNow C3 0 0 ∧ 0 < 8 ∧ (tget C2.err.queues (excSev C3 0) []).length < 16 ∧ (0#16).toNat % 256 = 0 ∧
      tissueOk C3 0 0 (bitsOf (0#16).toNat 15 12) (bitsOf (0#16).toNat 11 8) ((getThread C3 0 0).reg 5) = false) ∧
    (issuesNow C3 0 0 ∧ 0 < 8 ∧ (tget C2.err.queues (excSev C3 0) []).length < 16 ∧ (0#16).toNat % 256 = 0 ∧
      sissueOk C3 0 0 (bitsOf (0#16).toNat 15 12) (bitsOf (0#16).toNat 11 8) ((getThread C3 0 0).reg 5) = false ∧
      upsetsIn C3 ((getThread C3 0 0).reg 5).toNat 64 = [] ∧ badIn C3 ((getThread C3 0 0).reg 5).toNat 64 = []) ∧
    (issuesNow C3 0 0 ∧ 0 < 8 ∧ (tget C2.err.queues (excSev C3 0) []).length < 16 ∧ bitsOf (1#21).toNat 13 0 ≠ 0 ∧
      65535 < tget (getCore C3 (clusterOf 0 * 8 + bitsOf (1#21).toNat 20 18)).sync (bitsOf (1#21).toNat 17 14) 0 + bitsOf (1#21).toNat 13 0) ∧
    (issuesNow C2 0 0 ∧ 0 < 8 ∧ (tget C2.err.queues (excSev C2 0) []).length < 16 ∧ (0 ≠ 0 ∨ 14 ≤ 14 ∧ 1 ≠ 0)) ∧
    (issuesNow C2 0 0 ∧ 0 < 8 ∧ (tget C2.err.queues (excSev C2 0) []).length < 16 ∧ (1 ≠ 0 ∨ 14 ≤ 13 ∧ 1 ≠ 0)) := by
  unfold issuesNow
  decide +kernel

/-- What `Obligations.IssueBuffer` asks of `ld`, `sd`, `aadd`, `kopen`, `haltThread` can be met. -/
theorem test_meets_issue_buffer_1 :
    (mayIssue (drainBuffer C4 0 0) 0 0 = true ∧ (getThread (drainBuffer C4 0 0) 0 0).branches ≠ [] ∧
      (getThread (drainBuffer C4 0 0) 0 0).awaited 6 = false ∧ (getThread (drainBuffer C4 0 0) 0 0).awaited 5 = false ∧
      (getThread (drainBuffer C4 0 0) 0 0).buffer.length < 4) ∧
    (mayIssue (drainBuffer C5 0 0) 0 0 = true ∧ (getThread (drainBuffer C5 0 0) 0 0).branches ≠ [] ∧
      (getThread (drainBuffer C5 0 0) 0 0).awaited 6 = false ∧ (getThread (drainBuffer C5 0 0) 0 0).awaited 5 = false ∧
      4 ≤ (getThread (drainBuffer C5 0 0) 0 0).buffer.length) := by
  decide +kernel

/-- What `Obligations.BranchResolves` asks of `branchResolve` can be met. -/
theorem test_meets_branch_resolves_1 :
    ((getThread C4 0 0).branches = [br] ∧ coreRuns C4 0 = true) ∧
    ((getThread C7 0 0).branches = [br2, br] ∧ coreRuns C7 0 = true ∧ true ≠ false) := by
  decide +kernel

/-- What `Obligations.CoreEventsComplete` asks of `missComplete`, `twaitSatisfied`, `waitWake`, `fenceComplete` can be met. -/
theorem test_meets_core_events_complete_1 :
    (coreRuns C8 0 = true ∧ (getThread C8 0 0).st = TState.miss ∧ (getThread C8 0 0).blocked = Blocked.miss 7 (9#64) 68719476752 false ∧
      (false = true → cacheMeets C8 0 68719476752 1 = C8) ∧ (false = true ∧
      cacheHolds C8 0 68719476752 1 = true ∨ mayGo C8 (threadReq C8 0 0) (68719476752 / 64 * 64) 64 = true)) ∧
    (coreRuns C9 0 = true ∧ (getThread C9 0 0).blocked = Blocked.twait 7 1 3 0 5 ∧ 5 ≤ tget (getCore C9 0).sync 3 0 ∧ servedBefore C9 0 0 3 = false) ∧
    (0 < 4 ∧ (getThread C9 0 0).st ≠ TState.wait) ∧
    (coreRuns C10 0 = true ∧ (getThread C10 0 0).blocked = Blocked.fence 15 ∧ fenceHolds C10 0 0 15 = true) ∧
    (3 < 4 ∧ (getThread C11 0 0).st = TState.wait ∧ (getThread C11 0 0).blocked = Blocked.wait 8 ∧ bitOf 8 3 = true) := by
  decide +kernel

/-- What `Obligations.CoreEventsComplete` asks of `waitWake`, `threadQuantumExpire`, `stationQueueFree`, `coreTimerZero` can be met. -/
theorem test_meets_core_events_complete_2 :
    (3 < 4 ∧ (getThread C10 0 0).st ≠ TState.wait) ∧
    (coreRuns C12 0 = true ∧ runningOf (getCore C12 0) = some 0 ∧ nextReady (getCore C12 0) = some 7 ∧ (getCore C12 0).cur = 0 ∧ 0 < 8 ∧
      256 ≤ (getThread C12 0 0).run) ∧
    (coreRuns C13 0 = true ∧ 0 < 8 ∧ (getThread C13 0 0).blocked = Blocked.queueFull (CoreOp.tissue (16777216#64) 1 0) 8 ∧
      (getThread C13 0 0).buffer = [] ∧ (getThread C13 0 0).branches = [] ∧ (∀ (r : Nat), r ≠ 0 → (getThread C13 0 r).blocked = Blocked.none) ∧
      stnNumber 1 0 = some 2 ∧ queueFull C13 0 2 = false ∧ tissueOk C13 0 0 1 0 16777216#64 = true) ∧
    (csrGet C14 (O.coreTimer 0) ≠ 0) := by
  and_intros
  all_goals first | decide +kernel | (intro r h; cases r with | zero => exact absurd rfl h | succ n => rfl)

end Stations

/-! ### Stations and engines -/

namespace Streams

/-- `weave0` with the streams of core 0 (FETCH 0 to PLAIN; PLAIN to STORE 0; FETCH 1 to ARRAY 0, activations and
weights; FOOT 0 to STORE 0). -/
abbrev weave2 : Weave :=
  { weave0 with
    ladder := [0x7F, 0x7F, 0x7F, 0x7F]
    streams := [⟨0, 0, 0, 1, 4, 0, 3, 0, 2, false, 0, 0⟩, ⟨0, 3, 0, 3, 4, 0, 6, 0, 4, false, 0, 0⟩,
      ⟨0, 0, 1, 5, 4, 0, 1, 0, 6, false, 0, 0⟩, ⟨0, 0, 1, 7, 4, 0, 1, 0, 8, false, 0, 0⟩, ⟨0, 2, 0, 9, 4, 0, 6, 0, 10, false, 0, 0⟩] }
abbrev full4 : StreamSt := ⟨4, [], [], 0, false, [], 0⟩
abbrev net2 (k : Core) (st : Tbl StreamSt) : State := { coreOn k with weave := some weave2, streams := st }
abbrev dr : Tbl Nat := (List.range 13).map (fun n => (n, 0))
abbrev kk : Core := { Core.reset with drives := dr }
abbrev stn (n : Nat) (x : Station) : Core := { kk with stations := [(n, x)] }
abbrev t1 : STile := ⟨{ TileHdr.zero with fmt := 3 }, [1#8, 0#8], [], []⟩
abbrev t4 : STile := ⟨{ TileHdr.zero with fmt := 4 }, [0xFF#8, 0x3F#8], [], []⟩
abbrev D0 := net2 (stn 0 { Station.empty with out := [([0], t1)] }) [(0, full4), (1, full4)]
abbrev D1 := net2 (stn 2 { Station.empty with out := [([4], t1), ([4], t1)] }) [(4, ⟨2, [t1], [], 1, false, [], 0⟩)]
abbrev D2 := net2 kk [(4, ⟨1, [t1], [t1, t4], 0, false, [], 0⟩)]
abbrev D3 := net2 kk [(0, ⟨3, [], [], 1, false, [], 0⟩), (1, ⟨4, [], [], 1, false, [], 0⟩)]
abbrev D3r : State := { D3 with power := { D3.power with doms := tset D3.power.doms 0 { Dom.onDom with st := .retention } } }
abbrev q0 : QEntry := ⟨0x800000040#64, 0, 0xFFFF, 0⟩
abbrev mem0 : Memory := bytesAt 0x800000040 [(4, 0x10), (0x1C, 1), (0x20, 1), (0x24, 1), (0x28, 1), (0x2C, 1), (0x38, 2)]
abbrev D4 : State := { net2 (stn 1 { Station.empty with queue := [q0, q0] }) [] with mem := mem0 }
abbrev mem1 : Memory := bytesAt 0x800000040 [(4, 0x10), (0x1C, 1), (0x20, 1), (0x24, 1), (0x28, 1), (0x2C, 1), (0x38, 6)]
abbrev S04_1 := { D4 with mem := mem1 }
abbrev mem2 : Memory := bytesAt 0x800000040 [(4, 0x10), (6, 4), (0x1C, 1), (0x20, 1), (0x24, 1), (0x28, 1), (0x2C, 1), (0x38, 10)]
abbrev D5 : State := { net2 (stn 9 { Station.empty with queue := [q0, q0] }) [] with mem := mem2 }
abbrev ql : QEntry := ⟨0x3000000#64, 0, 0xFFFF, 0⟩
abbrev D6 := net2 (stn 2 { Station.empty with queue := [ql] }) []
abbrev qs : QEntry := ⟨0x1000000000000#64, 0, 0xFFFF, 0⟩
abbrev pl : Plane := ⟨some (0, 0), [⟨0, 16, [⟨127, [0], [1]⟩], []⟩], [false], [0]⟩
abbrev D7 : State := net2 { stn 2 { Station.empty with queue := [qs] } with engines := [(0, { Engine.reset with planes := [(0, pl)] })] } [(2, ⟨3, [t1], [], 0, false, [], 0⟩)]
abbrev qr : QEntry := ⟨BitVec.ofNat 64 ((0x13 <<< 48) + (2 <<< 42) + (63 <<< 36) + (3 <<< 30)), 0, 0xFFFF, 0⟩
abbrev e0' : StreamEnt := ⟨0, 0, 0, 1, 4, 0, 3, 0, 2, false, 0, 0⟩
abbrev D8 := net2 (stn 6 { Station.empty with queue := [qr] }) [(0, ⟨3, [t1], [], 0, false, [], 0⟩)]
abbrev D9 := net2 (stn 6 { Station.empty with work := .routine qr [t1] [] }) []
abbrev D10 := net2 (stn 6 { Station.empty with work := .routine qr [t1] [], out := [([1], t1)] }) [(1, full4)]
abbrev D11 := net2 (stn 6 { Station.empty with resetting := true }) [(0, ⟨1, [t1], [], 2, false, [], 0⟩)]
abbrev sp0 : Spot := ⟨3, 1, 0, [[0x3F800000#32]], none⟩
abbrev sp1 : Spot := ⟨4, 0, 0, [[0x3F800000#32]], some [0x3F800000#32]⟩
abbrev D12 := net2 { kk with spots := [sp0, sp1], obs := [(4, { StatObs.zero with spotCount := 0xFFFFFFFF })] } []
abbrev D12b := net2 { kk with spots := [sp0, sp0] } []
abbrev dF : Desc := readDesc (memGet { D4 with mem := mem0 } 0x800000040 64)
abbrev D13 : State := { net2 (stn 0 { Station.empty with work := .walk q0 dF 0 }) [(0, full4)] with mem := mem0 }
abbrev dF2 : Desc := { dF with addr := 0x500000000 }
abbrev D14 : State := { net2 (stn 0 { Station.empty with work := .walk q0 dF2 0 }) [(0, full4)] with mem := mem0 }
abbrev dS : Desc := { dF with dir := 1, sid := 10, addr := 0x800000000 }
abbrev D15 : State := { net2 (stn 9 { Station.empty with work := .walk q0 dS 0 }) [(4, ⟨3, [t1], [], 0, false, [], 0⟩)] with mem := mem0 }
abbrev e4' : StreamEnt := ⟨0, 2, 0, 9, 4, 0, 6, 0, 10, false, 0, 0⟩
abbrev dS2 : Desc := { dS with addr := 0x500000000 }
abbrev D16 : State := { net2 (stn 9 { Station.empty with work := .walk q0 dS2 0 }) [(4, ⟨3, [t1], [], 0, false, [], 0⟩)] with mem := mem0 }
abbrev slow (s : State) : State := { s with power := { s.power with doms := tset s.power.doms 36 { Dom.onDom with st := .retention } } }
abbrev dF3 : Desc := { dF with addr := 0x1000000000 }
abbrev D16b : State := slow { net2 (stn 0 { Station.empty with work := .walk q0 dF3 0 }) [(0, full4)] with mem := mem0 }
abbrev dS3 : Desc := { dS with addr := 0x1000000000 }
abbrev D16c : State := slow { net2 (stn 9 { Station.empty with work := .walk q0 dS3 0 }) [(4, ⟨3, [t1], [], 0, false, [], 0⟩)] with mem := mem0 }
abbrev as0 (w : BitVec 64) : AStream := AStream.accepted ⟨w, 0, 0xFFFF, 0⟩ t1.hdr
abbrev eng (g : Engine) (st : Tbl StreamSt) : State := net2 { kk with engines := [(0, g)] } st
abbrev g1 : Engine := { Engine.reset with planes := [(0, pl)], streams := [as0 0x1000000000000#64] }
abbrev D17 := eng g1 [(2, ⟨2, [t1, t1], [], 0, false, [], 0⟩)]
abbrev D18 := eng { g1 with mode := 1 } [(2, ⟨0, [t1, t1], [], 1, false, [], 0⟩)]
abbrev D18b := eng { g1 with shape := 1 } [(2, ⟨2, [t1, t1], [], 0, false, [], 0⟩)]
abbrev D19 := eng { g1 with crease := some ⟨2, false⟩ } [(2, ⟨2, [t1], [], 0, true, [], 0⟩)]
abbrev D20 := eng { g1 with loads := [ql] } []
abbrev tw : STile := ⟨TileHdr.zero, [1#8, 0#8], [], []⟩
abbrev D21 := eng { g1 with loads := [ql], loading := true } [(3, ⟨2, [tw, tw], [], 0, false, [], 0⟩)]
abbrev fx : AStream := ⟨⟨0x1000030000000#64, 0, 0xFFFF, 0⟩, true, 1, 0, [t1], 0, false, t1.hdr, 0, 0, false, none⟩
abbrev D22 := eng { g1 with streams := [fx] } []
abbrev pl4 : Plane := ⟨some (4, 0), [⟨4, 0, [⟨0, [], [0x3FFF]⟩], []⟩], [false], [0]⟩
abbrev fx4 : AStream := ⟨⟨0x1000030800000#64, 0, 0xFFFF, 0⟩, true, 1, 0, [t4], 0, false, t4.hdr, 0, 0, false, none⟩
abbrev ent : RuleEntry := ⟨[0x80000000#32, 0xFF000000#32]⟩
abbrev D23 : State := { eng { g1 with planes := [(0, pl4)], streams := [fx4] } [] with pru := { PruSt.reset with active := [(0, ent)] }, csr := [(O.globalClusterUsed, 0xFFFFFFFF#32), (O.pruCtrl, 7#32)] }

/-- What `Obligations.TokensMove` asks of `tilePlace`, `tileRelease`, `creditReturn` can be met. -/
theorem test_meets_tokens_move_1 :
    (coreRuns D0 0 = true ∧ (getStn D0 0 0).resetting = false ∧ (0 = 12 → fenceStops D0 = false) ∧ (getStn D0 0 0).out = [([0], t1)] ∧
      hasCredits D0 [0] = true ∧ [0].Nodup ∧ (∀ e ∈ [0], coreRuns D0 (entryOf D0 e).cCore = true → (getStream D0 e).router = [])) ∧
    (coreRuns D1 0 = true ∧ (getStn D1 0 2).resetting = false ∧ (2 = 12 → fenceStops D1 = false) ∧ (getStn D1 0 2).out = [([4], t1), ([4], t1)] ∧
      hasCredits D1 [4] = true ∧ [4].Nodup ∧ (∀ e ∈ [4], coreRuns D1 (entryOf D1 e).cCore = true → (getStream D1 e).router = [])) ∧
    ((getStream D2 4).held = [t1, t4] ∧ coreRuns D2 (entryOf D2 4).cCore = true ∧ footNeeds D2 (entryOf D2 4) = false) ∧
    ((getStream D3 0).credits < (entryOf D3 0).depth ∧ 0 < (getStream D3 0).ret ∧ coreRuns D3 (entryOf D3 0).pCore = true) ∧
    ((∀ o ∈ (getStn D3 0 0).out, hasCredits D3 o.1 = false)) := by
  decide +kernel

/-- What `Obligations.TokensMove` asks of `creditReturn` can be met. -/
theorem test_meets_tokens_move_2 :
    ((entryOf D3 1).depth ≤ (getStream D3 1).credits ∧ hasRoom D3 (excSev D3 (entryOf D3 1).pCore)) ∧
    ((getStream D3r 0).credits < (entryOf D3r 0).depth ∧ 0 < (getStream D3r 0).ret ∧ coreRuns D3r (entryOf D3r 0).pCore = false) := by
  unfold hasRoom
  decide +kernel

/-- What `Obligations.StationWork` asks of `stationWorkStart` can be met. -/
theorem test_meets_station_work_1 :
    ((getStn S04_1 0 1).queue = [q0, q0] ∧ coreRuns S04_1 0 = true ∧ (getStn S04_1 0 1).resetting = false ∧ (getStn S04_1 0 1).work = Work.idle ∧
      1 < 2 ∧ badIn S04_1 (34359738432#64).toNat 64 = [] ∧ upsetsIn S04_1 (34359738432#64).toNat 64 = [] ∧
      descOk S04_1 0 1 0 (readDesc (memGet S04_1 (34359738432#64).toNat 64)) = true) ∧
    ((getStn D5 0 9).queue = [q0, q0] ∧ coreRuns D5 0 = true ∧ (getStn D5 0 9).resetting = false ∧ (getStn D5 0 9).work = Work.idle ∧
      (9 = 9 ∨ 9 = 10) ∧ badIn D5 (34359738432#64).toNat 64 = [] ∧ upsetsIn D5 (34359738432#64).toNat 64 = [] ∧
      descOk D5 0 (9 - 9) 1 (readDesc (memGet D5 (34359738432#64).toNat 64)) = true) ∧
    ((getStn D6 0 2).queue = [ql] ∧ coreRuns D6 0 = true ∧ (getStn D6 0 2).resetting = false ∧ 2 ≤ 2 ∧ 2 < 6 ∧ (arrWord 50331648#64).load = true) := by
  decide +kernel

/-- What `Obligations.StationWork` asks of `stationWorkStart` can be met. -/
theorem test_meets_station_work_2 :
    ((getStn D7 0 2).queue = [qs] ∧ coreRuns D7 0 = true ∧ (getStn D7 0 2).resetting = false ∧ 2 ≤ 2 ∧ 2 < 6 ∧
      (arrWord 281474976710656#64).load = false ∧ streamHeld D7 0 (2 - 2) (arrWord 281474976710656#64) = false ∧
      actEp D7 0 (2 - 2) (arrWord 281474976710656#64).part = some 2 ∧ headTile D7 2 = some t1 ∧
      streamOk D7 0 (2 - 2) qs { fmt := 3, blk32 := TileHdr.zero.blk32, stale := TileHdr.zero.stale, wide := TileHdr.zero.wide, last := TileHdr.zero.last, entry := TileHdr.zero.entry, pass := TileHdr.zero.pass, rows := TileHdr.zero.rows, cols := TileHdr.zero.cols, tile := TileHdr.zero.tile, cls := TileHdr.zero.cls, step := TileHdr.zero.step, tag := TileHdr.zero.tag } = true) := by
  decide +kernel

/-- What `Obligations.StationWork` asks of `stationWorkStart` can be met. -/
theorem test_meets_station_work_3 :
    ((getStn D8 0 6).queue = [qr] ∧ coreRuns D8 0 = true ∧ (getStn D8 0 6).resetting = false ∧ (getStn D8 0 6).work = Work.idle ∧ 6 ≤ 6 ∧ 6 ≤ 8 ∧
      fanin D8 0 (routineWord (BitVec.ofNat 64 (19 <<< 48 + 2 <<< 42 + 63 <<< 36 + 3 <<< 30))).inA = some (0, e0') ∧ headTile D8 0 = some t1 ∧
      usesB (routineWord (BitVec.ofNat 64 (19 <<< 48 + 2 <<< 42 + 63 <<< 36 + 3 <<< 30))).routine (routineWord (BitVec.ofNat 64 (19 <<< 48 + 2 <<< 42 + 63 <<< 36 + 3 <<< 30))).arg = false ∧
      routineStartOk D8 0 qr (routineWord (BitVec.ofNat 64 (19 <<< 48 + 2 <<< 42 + 63 <<< 36 + 3 <<< 30))) { fmt := 3, blk32 := TileHdr.zero.blk32, stale := TileHdr.zero.stale, wide := TileHdr.zero.wide, last := TileHdr.zero.last, entry := TileHdr.zero.entry, pass := TileHdr.zero.pass, rows := TileHdr.zero.rows, cols := TileHdr.zero.cols, tile := TileHdr.zero.tile, cls := TileHdr.zero.cls, step := TileHdr.zero.step, tag := TileHdr.zero.tag } = true ∧
      ((routineWord (BitVec.ofNat 64 (19 <<< 48 + 2 <<< 42 + 63 <<< 36 + 3 <<< 30))).routine = 64 → updateHeld D8 t1 = false) ∧
      routineHolds D8 0 6 (routineWord (BitVec.ofNat 64 (19 <<< 48 + 2 <<< 42 + 63 <<< 36 + 3 <<< 30))) t1 = [] ∧
      (∀ (r : ℕ × ℕ), routineRecord 0 (routineWord (BitVec.ofNat 64 (19 <<< 48 + 2 <<< 42 + 63 <<< 36 + 3 <<< 30))) = some r → badIn D8 r.1 r.2 = [] ∧
      upsetsIn D8 r.1 r.2 = [])) := by
  and_intros
  all_goals decide +kernel

/-- What `Obligations.StationWork` asks of `stationWorkDone`, `spotCheckDone`, `stationResetEnd` can be met. -/
theorem test_meets_station_work_4 :
    (coreRuns D9 0 = true ∧ (getStn D9 0 6).resetting = false ∧ Work.complete D9 0 6 (getStn D9 0 6).work = true ∧ (getStn D9 0 6).out = []) ∧
    ((∀ z ∈ (getCore D9 0).spots, z.arr = none)) ∧
    (coreRuns D10 0 = true ∧ (getStn D10 0 6).resetting = false ∧ Work.complete D10 0 6 (getStn D10 0 6).work = true ∧
      (getStn D10 0 6).out = [([1], t1)] ∧ hasCredits D10 [1] = true ∧ (∀ (f : Nat), ∀ y ∈ (getStream D10 f).queue, y.poison = [])) ∧
    ((getStn D11 0 6).resetting = true) ∧
    ((getCore D12 0).spots[1]? = some sp1 ∧ sp1.arr = some [1065353216#32]) := by
  and_intros
  all_goals first | decide +kernel | exact streams_clean _ (by decide +kernel)

/-- What `Obligations.StationWork` asks of `spotCheckDone` can be met. -/
theorem test_meets_station_work_5 :
    ((∀ z ∈ (getCore D12b 0).spots, z.arr = none)) := by
  decide +kernel

/-- What `Obligations.FetchAndStore` asks of `fetchReadIssue`, `storeWrite` can be met. -/
theorem test_meets_fetch_and_store_1 :
    ((getStn D13 0 0).work = Work.walk q0 dF 0 ∧ coreRuns D13 0 = true ∧ (getStn D13 0 0).resetting = false ∧ 0 < dF.total ∧ dF.rot = false ∧ 0 < 2 ∧
      fetchRoom D13 (getStn D13 0 0) dF [List.map Prod.fst (fetchTargets D13 0 0 dF)] = true ∧
      (∀ p ∈ piecesOf D13 (coreClass D13 0) (dF.addrOf 0) dF.imageLen, p.ok = true → mayGo D13 (stationReq D13 0 0 dF.tag) p.addr.toNat p.len = true ∧
      upsetsIn D13 p.addr.toNat p.len = [] ∧ badIn D13 p.addr.toNat p.len = [])) ∧
    ((getStn D14 0 0).work = Work.walk q0 dF2 0 ∧ coreRuns D14 0 = true ∧ (getStn D14 0 0).resetting = false ∧ 0 < dF2.total ∧ dF.rot = false ∧
      0 < 2 ∧ fetchRoom D14 (getStn D14 0 0) dF2 [List.map Prod.fst (fetchTargets D14 0 0 dF2)] = true ∧
      (∀ p ∈ piecesOf D14 (coreClass D14 0) (dF2.addrOf 0) dF2.imageLen, p.ok = true → mayGo D14 (stationReq D14 0 0 dF.tag) p.addr.toNat p.len = true ∧
      upsetsIn D14 p.addr.toNat p.len = [] ∧ badIn D14 p.addr.toNat p.len = [])) ∧
    ((getStn D15 0 9).work = Work.walk q0 dS 0 ∧ coreRuns D15 0 = true ∧ (getStn D15 0 9).resetting = false ∧ 0 < dS.total ∧ (9 = 9 ∨ 9 = 10) ∧
      storeSource D15 0 (9 - 9) dS = some (4, e4') ∧ headTile D15 4 = some t1 ∧ 0 ≤ dS.addrOf 0 ∧ dS.addrOf 0 + ↑[1#8, 0#8].length ≤ 2 ^ 40 ∧
      mayWrite D15 0 (dS.addrOf 0).toNat [1#8, 0#8].length = true ∧ mayGo D15 (stationReq D15 0 9 0) (dS.addrOf 0).toNat [1#8, 0#8].length = true ∧
      memWf mem0 = true) := by
  decide +kernel

/-- What `Obligations.FetchAndStore` asks of `storeWrite`, `fetchReadIssue` can be met. -/
theorem test_meets_fetch_and_store_2 :
    ((getStn D16 0 9).work = Work.walk q0 dS2 0 ∧ coreRuns D16 0 = true ∧ (getStn D16 0 9).resetting = false ∧ 0 < dS2.total ∧ (9 = 9 ∨ 9 = 10) ∧
      storeSource D16 0 (9 - 9) dS2 = some (4, e4') ∧ headTile D16 4 = some t1 ∧ 0 ≤ dS2.addrOf 0 ∧ dS2.addrOf 0 + ↑[1#8, 0#8].length ≤ 2 ^ 40 ∧
      mayWrite D16 0 (dS2.addrOf 0).toNat [1#8, 0#8].length = false ∧ hasRoom D16 (excSev D16 0)) ∧
    ((getStn D16b 0 0).work = Work.walk q0 dF3 0 ∧ coreRuns D16b 0 = true ∧ (getStn D16b 0 0).resetting = false ∧ 0 < dF3.total ∧ dF.rot = false ∧
      0 < 2 ∧ fetchRoom D16b (getStn D16b 0 0) dF3 [List.map Prod.fst (fetchTargets D16b 0 0 dF3)] = true ∧
      (∃ p ∈ piecesOf D16b (coreClass D16b 0) (dF3.addrOf 0) dF3.imageLen, p.ok = true ∧
      mayGo D16b (stationReq D16b 0 0 dF.tag) p.addr.toNat p.len = false)) ∧
    ((getStn D16c 0 9).work = Work.walk q0 dS3 0 ∧ coreRuns D16c 0 = true ∧ (getStn D16c 0 9).resetting = false ∧ 0 < dS3.total ∧ (9 = 9 ∨ 9 = 10) ∧
      storeSource D16c 0 (9 - 9) dS3 = some (4, e4') ∧ headTile D16c 4 = some t1 ∧ 0 ≤ dS3.addrOf 0 ∧ dS3.addrOf 0 + ↑[1#8, 0#8].length ≤ 2 ^ 40 ∧
      mayWrite D16c 0 (dS3.addrOf 0).toNat [1#8, 0#8].length = true ∧ mayGo D16c (stationReq D16c 0 9 0) (dS3.addrOf 0).toNat [1#8, 0#8].length = false) := by
  unfold hasRoom
  and_intros
  all_goals decide +kernel

/-- What `Obligations.EnginesRun` asks of `arrayStreamStart`, `creaseComplete`, `planeLoadStart` can be met. -/
theorem test_meets_engines_run_1 :
    (nextToEnter D17 0 0 = some (0, as0 281474976710656#64) ∧ actEp D17 0 0 (arrWord (as0 281474976710656#64).e.word).part = some 2 ∧
      (getStream D17 2).queue = [t1, t1] ∧ (as0 281474976710656#64).entered < (arrWord (as0 281474976710656#64).e.word).m ∧
      (getEng D17 0 0).differs (arrWord (as0 281474976710656#64).e.word) = false) ∧
    (nextToEnter D18 0 0 = some (0, as0 281474976710656#64) ∧ actEp D18 0 0 (arrWord (as0 281474976710656#64).e.word).part = some 2 ∧
      (getStream D18 2).queue = [t1, t1] ∧ (as0 281474976710656#64).entered < (arrWord (as0 281474976710656#64).e.word).m ∧
      (getEng D18 0 0).differs (arrWord (as0 281474976710656#64).e.word) = true ∧ (∀ o ∈ (getStn D18 0 (2 + 0)).out, 2 ∉ o.1)) ∧
    (nextToEnter D18b 0 0 = some (0, as0 281474976710656#64) ∧ actEp D18b 0 0 (arrWord (as0 281474976710656#64).e.word).part = some 2 ∧
      (getStream D18b 2).queue = [t1, t1] ∧ (as0 281474976710656#64).entered < (arrWord (as0 281474976710656#64).e.word).m ∧
      (getEng D18b 0 0).differs (arrWord (as0 281474976710656#64).e.word) = true ∧ (∀ o ∈ (getStn D18b 0 (2 + 0)).out, 2 ∉ o.1)) ∧
    ((getEng D19 0 0).crease = some { ep := 2, owed := false } ∧ (∀ y ∈ (getEng D19 0 0).streams, y.waits = false)) ∧
    (coreRuns D20 0 = true ∧ (getEng D20 0 0).loads = [ql] ∧ (getEng D20 0 0).loading = false ∧
      (∀ x ∈ (getEng D20 0 0).streams, (arrWord x.e.word).plane ≠ (arrWord 50331648#64).plane)) := by
  decide +kernel

/-- What `Obligations.EnginesRun` asks of `planeLoadComplete`, `footTileOut` can be met. -/
theorem test_meets_engines_run_2 :
    (coreRuns D21 0 = true ∧ (getEng D21 0 0).loads = [ql] ∧ (getEng D21 0 0).loading = true ∧ weightEp D21 0 0 = some 3 ∧
      (getStream D21 3).queue = [tw] ++ [tw] ∧ [tw].length = shapeParts (arrWord 50331648#64).shape ∧ (∀ t ∈ [tw], t.poison = [])) ∧
    (coreRuns D22 0 = true ∧ footReady D22 0 0 = some (0, fx) ∧ footSid D22 0 0 (arrWord 281475782017024#64).part = some 9 ∧
      bankFull D22 0 0 9 (arrWord 281475782017024#64) = false ∧ ownFanout D22 0 (2 + 0) 9 ≠ [] ∧ (arrWord 281475782017024#64).acc = false ∧
      (observed D22 0 (footHdr D22 0 0 fx none) && ((footJob D22 0 0 fx none).saturated || ((footJob D22 0 0 fx none).rows 0 0).any (footJob D22 0 0 fx none).rowCaptured)) = false ∧
      (∀ y ∈ (getEng D22 0 0).streams, y.waits = false)) ∧
    (coreRuns D23 0 = true ∧ footReady D23 0 0 = some (0, fx4) ∧ footSid D23 0 0 (arrWord 281475790405632#64).part = some 9 ∧
      bankFull D23 0 0 9 (arrWord 281475790405632#64) = false ∧ ownFanout D23 0 (2 + 0) 9 ≠ [] ∧ (arrWord 281475790405632#64).acc = false ∧
      observed D23 0 (footHdr D23 0 0 fx4 none) = true ∧ (footJob D23 0 0 fx4 none).saturated = true ∧
      mayReplay D23 0 0 (footHdr D23 0 0 fx4 none).entry = true ∧ hasRoom D23 1) := by
  unfold hasRoom
  decide +kernel

/-- What `Obligations.StreamTokensKept` asks can be met: a tile is placed on the FETCH stream. -/
theorem test_meets_stream_tokens_kept_1 :
    (∀ o ∈ (getStn D0 0 0).out, o.1.Nodup) ∧ ∃ u, exec (.tilePlace 0 0) D0 = .next u := ⟨by decide +kernel, _, rfl⟩

/-- What `Obligations.StreamTokensKept` asks can be met: a credit returns below the depth. -/
theorem test_meets_stream_tokens_kept_2 :
    (getStream D3 0).credits < (entryOf D3 0).depth ∧ ∃ u, exec (.creditReturn 0) D3 = .next u := ⟨by decide +kernel, _, rfl⟩

/-- What the last clause of `Obligations.TokensMove` asks: an output whose stream has no credit waits. -/
theorem test_meets_tokens_move_blocked :
    let s := net2 (stn 0 { Station.empty with out := [([0], t1)] }) [(0, ⟨0, [t1], [], 0, false, [], 0⟩)]
    (getStn s 0 0).out = [([0], t1)] ∧ ∀ o ∈ (getStn s 0 0).out, hasCredits s o.1 = false := by
  decide +kernel

/-- What `Obligations.StationWork` asks of a spot check: the second check is the first whose column the array has put out. -/
theorem test_meets_station_work_spot :
    (getCore D12 0).spots[1]? = some sp1 ∧ ∀ k z, k < 1 → (getCore D12 0).spots[k]? = some z → z.arr = none :=
  ⟨rfl, fun k z hk hz => by
    obtain rfl : k = 0 := Nat.lt_one_iff.mp hk
    exact (Option.some.inj hz) ▸ rfl⟩

end Streams

/-! ### Step boundary, gate and registers -/

namespace Registers

abbrev used : BitVec 32 := 0xFFFFFFFF#32
abbrev regs (l : List (Nat × BitVec 32)) (s : State) : State := { s with csr := l.foldl (fun t e => tset t e.1 e.2) s.csr }
abbrev pru0 : PruSt := PruSt.reset
abbrev prus (p : PruSt) (s : State) : State := { s with pru := p }
abbrev ent1 : RuleEntry := ⟨[0x81100201#32, 0#32] ++ List.replicate 14 0#32⟩
abbrev ent2 : RuleEntry := ⟨[0x81100201#32, 5#32] ++ List.replicate 14 0#32⟩
abbrev E0 : State := { prus { pru0 with active := [(0, ent1)] } on with inStep := true, step := 7 }
abbrev E1 : State := prus { pru0 with active := [(0, ent1)], stage := .closed, step := 7 } on
abbrev E2 : State := regs [(O.pruCtrl, 0#32)] (prus { pru0 with active := [(0, ent1)], stage := .closed, step := 7, reducing := true, final := [7] } on)
abbrev rec1 (a b : BitVec 32) : StatRec := { StatRec.zero with digestMin := a, digestMax := b }
abbrev E3 : State := regs [(O.pruCtrl, 1#32)] (prus { pru0 with active := [(0, ent1)], stage := .closed, step := 7, reducing := true, final := [7], records := [(recKey 7 0, rec1 1 2)] } on)
abbrev E4 : State := regs [(O.pruCtrl, 1#32)] (prus { pru0 with active := [(0, ent1)], stage := .closed, step := 7, reducing := true, final := [7], records := [(recKey 7 0, rec1 1 1)] } on)
abbrev E5 : State := regs [(O.pruApplyStep, 8#32)] (prus { pru0 with active := [(0, ent1)], stage := .evaluated, step := 7, pending := [(0, ent1), (3, ent1), (5, ent2), (4095, ent2)] } on)
abbrev E6 : State := prus { pru0 with active := [(0, ent1), (4095, ent2)], stage := .evaluated, step := 7 } on
abbrev E6b : State := prus { pru0 with active := [(0, ent1), (4095, ent2)], stage := .installed, step := 7 } on
abbrev E7 : State := prus { pru0 with active := [(0, ent1)], stage := .published, step := 7 } on
abbrev E7b : State := prus { pru0 with active := [(0, ent1)], stage := .published, step := 7, restart := true } (coreOn Core.reset)
abbrev bind0 : Bind := ⟨0, 0, 0⟩
abbrev bg (r : Running) (s : State) : State := { s with wcp := { s.wcp with running := [r] } }
abbrev E8 : State := bg ⟨⟨0, 1, 0x0302, bind0⟩, 8, 0, 0⟩ E7
abbrev E8b : State := { E8 with pru := pru0 }
abbrev gr1 : GateRec := ⟨1, 0, 9, 0x40, 0, 0⟩
abbrev gr2 : GateRec := ⟨2, 0, 9, 0, 0x100, 0x200⟩
abbrev vb : VBlock := ⟨3, 1, 2, 0, 10, [gr1, gr2]⟩
abbrev vb2 : VBlock := ⟨3, 1, 2, 0, 10, [gr2]⟩
abbrev gated (g : GateSt) : State :=
  { on with weave := some { weave0 with blocks := [vb, vb2] }, inStep := true, step := 7, gate := g, mangle := { MangleSt.reset with desc := [(0, ⟨[0x80100009#32]⟩)] } }
abbrev g0 : GateSt := { GateSt.reset with landed := [(9, 7)], racks := [(0x10000, ⟨7, 1, true, 64⟩), (0x20000, ⟨6, 2, true, 64⟩)] }
abbrev g2 : GateSt := { GateSt.reset with landed := [(9, 6)], racks := [(0x10000, ⟨5, 1, true, 64⟩), (0x20000, ⟨6, 2, true, 64⟩)] }
abbrev S05_1 := gated { g2 with block := some 1 }
abbrev g3 : GateSt := { GateSt.reset with racks := [(0x10000, ⟨4, 1, true, 64⟩)], block := some 1 }
abbrev g4 : GateSt := { g2 with block := some 1, decided := true, done := [1], pins := [(1, 0x20000, 64), (0, 0x4000, 1)] }
abbrev R0 : State := regs [(O.globalResetCause, 0x3F#32), (O.globalLock, 1#32)] on
abbrev R0b : State := regs [(O.globalCsrMiss, 0xFFFF#32)] { on with dev := .activating }
abbrev R1 : State := regs [(O.pruSel, 4095#32)] { prus { pru0 with active := [(4095, ent1)], pending := [(1, ent2)] } on with step := 7, cycle := 0x500000001 }
abbrev S05_2 := { R1 with ports := [(0, { Port.reset with up := true }), (4, { Port.reset with up := true }), (7, { Port.reset with up := true, lease := some ⟨1, 2, 3⟩ })] }
abbrev S05_3 := { R1 with dev := .idle, ports := [(0, { Port.reset with up := true }), (4, { Port.reset with up := true }), (7, { Port.reset with up := true, lease := some ⟨1, 2, 3⟩ })] }
abbrev S05_4 := { coreOn { Core.reset with perf := [(3, 0x500000001)] } with dev := .idle }
abbrev R2 : State := { grouped R1 with dev := .quiesced, mend := { MendSt.reset with table := some group0, lost := true } }
abbrev big : List Byte := List.replicate 4100 1#8
abbrev R3 : State := regs [(O.coreTraceBase 0, 0x1000000#32), (O.coreTraceSize 0, 16#32)] { coreOn { Core.reset with trace := big, perf := [(3, 5)] } with dev := .quiesced }
abbrev R4 : State := regs [(O.coreTraceBase 0, 0x1000000#32), (O.coreTraceSize 0, 14#32), (O.coreTraceWr 0, 4096#32)] { coreOn { Core.reset with trace := [1#8, 2#8] } with dev := .quiesced }
abbrev R5 : State := regs [(O.coreKeyRank 0 7, 5#32)] { coreOn { core1 (th [(5, 1#64)]) with entryPts := [(7, 0x40)], threads := [(7, { th [(5, 1#64)] with keys := [5#64] })] } with dev := .quiesced, step := 9 }
abbrev R6 : State := regs [(O.coreExcCount 0, 0xFFFF#32)] { net (core1 (th [])) with dev := .quiesced }

/-- What `Obligations.BoundaryEvaluates` asks of `recordClose`, `evaluation` can be met. -/
theorem test_meets_boundary_evaluates_1 :
    (pru0.stage = Boundary.none ∧ (on.gate.block = none ∨ on.gate.decided = true)) ∧
    (statCheck E1 = some false) ∧
    (E2.pru.stage = Boundary.closed ∧ statCheck E2 = some true ∧ csrBit E2 O.pruCtrl 0 = false) ∧
    (E3.pru.stage = Boundary.closed ∧ statCheck E3 = some true ∧ csrBit E3 O.pruCtrl 0 = true ∧ digestSpan (updateScales E3) = some (1, 2) ∧ 1 ≠ 2) ∧
    (E4.pru.stage = Boundary.closed ∧ statCheck E4 = some true ∧ csrBit E4 O.pruCtrl 0 = true) := by
  decide +kernel

/-- What `Obligations.BoundaryEvaluates` asks of `pendingInstall` can be met. -/
theorem test_meets_boundary_evaluates_2 :
    (installsNow E5 = true ∧ (List.map Prod.fst [(0, ent1), (3, ent1), (5, ent2), (4095, ent2)]).Nodup) := by
  decide +kernel

/-- What `Obligations.BoundaryPublishes` asks of `variantPublication`, `stepStart`, `quiesceEnter` can be met. -/
theorem test_meets_boundary_publishes_1 :
    (risesFrom 0 [(0, ent1), (4095, ent2)] = true) ∧
    (on.dev = DevState.running ∧ on.mend.lost = false ∧ quiescesNow E7 = false) ∧
    ((coreOn Core.reset).dev = DevState.running ∧ (coreOn Core.reset).mend.lost = false ∧ quiescesNow E7b = false) ∧
    (E8.dev = DevState.running ∧ E8.mangle.insts = []) ∧
    (E8b.dev = DevState.running ∧ E8b.mangle.insts = []) := by
  decide +kernel

/-- What `Obligations.ReadyGate` asks of `gateDecide`, `gateWaitExpire`, `blockEnd` can be met. -/
theorem test_meets_ready_gate_1 :
    (on.pru.dropped = false ∧ 0 ∉ GateSt.reset.done ∧ (gateBlocks (gated g0))[0]? = some vb ∧
      (GateSt.reset.block = none ∨ GateSt.reset.decided = true) ∧ (∀ r ∈ [gr1, gr2], hasArrived (gated g0) r 7 = true ∧
      belowFloor (gated g0) r 7 = false)) ∧
    (on.pru.dropped = false ∧ 0 ∉ GateSt.reset.done ∧ (gateBlocks (gated g2))[0]? = some vb ∧
      (GateSt.reset.block = none ∨ GateSt.reset.decided = true) ∧ (∃ r ∈ [gr1, gr2], hasArrived (gated g2) r 7 = false)) ∧
    (S05_1.gate.block = some 1 ∧ S05_1.gate.decided = false ∧ (gateBlocks S05_1)[1]? = some vb2 ∧
      (∃ r ∈ List.drop S05_1.gate.pos vb2.gates, hasArrived S05_1 r S05_1.step = false) ∧
      substitutes S05_1 vb2 = some [(131072, { step := 6, fmt := 2, valid := true, len := 64 })]) ∧
    ((gated g3).gate.block = some 1 ∧ (gated g3).gate.decided = false ∧ (gateBlocks (gated g3))[1]? = some vb2 ∧
      (∃ r ∈ List.drop (gated g3).gate.pos vb2.gates, hasArrived (gated g3) r (gated g3).step = false) ∧ substitutes (gated g3) vb2 = none ∧
      hasRoom (gated g3) 3) ∧
    ((true = true ∨ some 1 ≠ some 1)) := by
  unfold hasRoom
  and_intros
  all_goals decide +kernel

/-- What `Obligations.RegisterCommands` asks of `csrWrite`, `pruEntryWrite`, `pruPendingDiscard`, `ethModeWrite`, `pruApplyStepWrite` can be
met. -/
theorem test_meets_register_commands_1 :
    (csrBit R0 O.globalLock 0 = true) ∧
    (15728640 % 4 = 0 ∧ csrLocate 15728640 = none) ∧
    (O.mangleCtrl % 4 = 0 ∧ (csrLocate O.mangleCtrl).isSome = true ∧ writeBusy R0b O.mangleCtrl = true) ∧
    ((on.dev ≠ DevState.activating ∧ on.err.hard = false) ∧ 15 < 16) ∧
    ((on.dev ≠ DevState.activating ∧ on.err.hard = false) ∧ (8#32 = 4294967295#32 ∨ begunTo R1 < (8#32).toNat)) := by
  decide +kernel

/-- What `Obligations.RegisterCommands` asks of `groupCtrlRelease`, `pruApplyStepWrite`, `pruEntryWrite`, `ipv4AddrWrite` can be met. -/
theorem test_meets_register_commands_2 :
    ((on.dev ≠ DevState.activating ∧ on.err.hard = false) ∧ on.dev ≠ DevState.idle ∧ (¬(on.dev = DevState.quiesced ∧ on.mend.lost = true))) ∧
    ((on.dev ≠ DevState.activating ∧ on.err.hard = false) ∧ 7#32 ≠ 4294967295#32 ∧ (7#32).toNat ≤ begunTo R1) ∧
    ((on.dev ≠ DevState.activating ∧ on.err.hard = false) ∧ 7 < 16) ∧
    ((on.dev ≠ DevState.activating ∧ on.err.hard = false) ∧ 7#32 ≠ 4294967295#32 ∧ (7#32).toNat ≤ begunTo S05_2) ∧
    ((on.dev ≠ DevState.activating ∧ on.err.hard = false) ∧ 7 < 8) := by
  decide +kernel

/-- What `Obligations.RegisterCommands` asks of `pruEntryWrite`, `pruPendingDiscard`, `ethModeWrite`, `pruApplyStepWrite`, `groupCtrlRelease`,
`ipv4AddrWrite`, `engCounterLoRead` can be met. -/
theorem test_meets_register_commands_3 :
    ((DevState.idle ≠ DevState.activating ∧ on.err.hard = false) ∧ 7 < 16) ∧
    ((DevState.idle ≠ DevState.activating ∧ on.err.hard = false) ∧ 0#32 ≠ 4294967295#32 ∧ (0#32).toNat ≤ begunTo S05_3) ∧
    ((DevState.idle ≠ DevState.activating ∧ on.err.hard = false) ∧ (DevState.idle = DevState.idle ∨ DevState.idle = DevState.quiesced ∧
      on.mend.lost = true)) ∧
    ((DevState.idle ≠ DevState.activating ∧ on.err.hard = false) ∧ 7 < 8) ∧
    (engCounter (1048576 + 0 * 4096 + 1048) = some (0, 3, false)) := by
  decide +kernel

/-- What `Obligations.RegisterCommands` asks of `pruEntryWrite`, `pruPendingDiscard`, `ethModeWrite`, `pruApplyStepWrite`, `groupCtrlRelease`,
`ipv4AddrWrite` can be met. -/
theorem test_meets_register_commands_4 :
    ((DevState.quiesced ≠ DevState.activating ∧ (grouped R1).err.hard = false) ∧ 3 < 16) ∧
    ((DevState.quiesced ≠ DevState.activating ∧ (grouped R1).err.hard = false) ∧ (4294967295#32 = 4294967295#32 ∨ begunTo R2 < (4294967295#32).toNat)) ∧
    ((DevState.quiesced ≠ DevState.activating ∧ (grouped R1).err.hard = false) ∧
      (DevState.quiesced = DevState.idle ∨ DevState.quiesced = DevState.quiesced ∧ true = true)) ∧
    ((DevState.quiesced ≠ DevState.activating ∧ (grouped R1).err.hard = false) ∧ 3 < 8) := by
  decide +kernel

/-- What `Obligations.CoreRegisterCommands` asks of `traceDrain`, `traceFlush`, `perfClear`, `threadHalt`, `threadRestart` can be met. -/
theorem test_meets_core_register_commands_1 :
    (class2May R3 true (csrBits R3 (O.coreTraceBase 0) 27 0 * 4096 + csrGet R3 (O.coreTraceWr 0)) 4096 = true ∧
      inHbm (csrBits R3 (O.coreTraceBase 0) 27 0 * 4096 + csrGet R3 (O.coreTraceWr 0)) 4096 = true ∧
      mayGo R3 { agent := HbmAgent.drain 0, prio := 4 } (csrBits R3 (O.coreTraceBase 0) 27 0 * 4096 + csrGet R3 (O.coreTraceWr 0)) 4096 = true ∧
      memWf R3.mem = true ∧ mayDrain R3 0 4096 = true) ∧
    (class2May R4 true (csrBits R4 (O.coreTraceBase 0) 27 0 * 4096 + csrGet R4 (O.coreTraceWr 0)) 4096 = true ∧
      inHbm (csrBits R4 (O.coreTraceBase 0) 27 0 * 4096 + csrGet R4 (O.coreTraceWr 0)) 4096 = true ∧
      mayGo R4 { agent := HbmAgent.drain 0, prio := 4 } (csrBits R4 (O.coreTraceBase 0) 27 0 * 4096 + csrGet R4 (O.coreTraceWr 0)) 4096 = true ∧
      memWf R4.mem = true ∧ mayDrain R4 0 1 = true ∧ (getCore R4 0).trace.length ≤ 4096 ∧ (getCore R4 0).tracePend = [] ∧
      DevState.quiesced ≠ DevState.activating) ∧
    ((0 < 256 ∧ R5.err.hard = false ∧ (DevState.quiesced = DevState.quiesced ∨ DevState.quiesced = DevState.running ∧ coreClass R5 0 = 0)) ∧ 7 < 8 ∧
      Nat.testBit 128 7 = true) ∧
    ((0 < 256 ∧ R5.err.hard = false ∧ (R5.dev = DevState.quiesced ∨ R5.dev = DevState.running ∧ coreClass R5 0 = 0)) ∧ 7 < 8 ∧
      Nat.testBit 128 7 = true ∧ tget? (getCore R5 0).entryPts 7 = some 64) := by
  decide +kernel

/-- What `Obligations.CoreRegisterCommands` asks of `stationReset`, `excCountRead` can be met. -/
theorem test_meets_core_register_commands_2 :
    ((0 < 256 ∧ (net (core1 (th []))).err.hard = false ∧ (DevState.quiesced = DevState.quiesced ∨ DevState.quiesced = DevState.running ∧
      coreClass R6 0 = 0)) ∧ 6 < 13 ∧ Nat.testBit 8191 6 = true) ∧
    (0 < 256 ∧ (net (core1 (th []))).err.hard = false) := by
  decide +kernel

end Registers

/-! ### The mangle -/

namespace Mangle

abbrev regs (l : List (Nat × BitVec 32)) (s : State) : State := { s with csr := l.foldl (fun t e => tset t e.1 e.2) s.csr }
abbrev tagD (op tag first tiles per elems dst : Nat) : TagDesc :=
  ⟨[BitVec.ofNat 32 (2 ^ 31 + op * 2 ^ 20 + tag), 0#32, BitVec.ofNat 32 (per * 65536 + first), BitVec.ofNat 32 tiles, BitVec.ofNat 32 elems, 0#32,
    BitVec.ofNat 32 (dst / 256)] ++ List.replicate 9 0#32⟩
abbrev d0 : TagDesc := tagD 2 9 1 2 1 4 0x800100000
abbrev inst (t step : Nat) : Inst := { tag := t, step := step, epoch := 5, slot := 0, ownTiles := [], ownBytes := [], ownRecs := [], ownLate := false, ownAbsent := false, qcache := [], hops := [], delivered := [], outcomes := [], got := [], checked := false, began := false, eG := 0, lostOut := false, tooBig := false }
abbrev weave3 : Weave := { weave0 with streams := [⟨0, 3, 0, 3, 4, 0, 7, 0, 4, false, 0, 0⟩, ⟨0, 8, 0, 0, 4, 0, 3, 0, 2, false, 0, 0⟩] }
abbrev base (cfg : BitVec 32) (m : MangleSt) : State := { regs [(O.mangleGrpCfg 0, cfg), (O.mangleCtrl, 3#32)] (grouped on) with weave := some weave3, mangle := m, inStep := true, step := 7 }
abbrev m0 : MangleSt := { MangleSt.reset with desc := [(0, d0)] }
abbrev cfgF : BitVec 32 := 0x80000000#32
abbrev st (tag tile step : Nat) : STile := ⟨{ TileHdr.zero with fmt := 7, cols := 3, tag := tag, tile := tile, step := step }, List.replicate 64 1#8, [], []⟩
abbrev sh (t : STile) (m : MangleSt) : State := { base cfgF m with cores := [(0, core1 (th []))], streams := [(0, ⟨3, [t], [], 0, false, [], 0⟩)] }
abbrev H0 := sh (st 0 0 7) m0
abbrev H1 := sh (st 9 1 7) { m0 with insts := [inst 9 7] }
abbrev H2 := sh (st 10 1 7) m0
abbrev H3 := base cfgF { m0 with waitShip := [(0, st 9 1 7), (3, st 9 0 7)] }
abbrev fr (k step : Nat) : MFrame := ⟨9, k, step, 5, 1, 0, 0, 0, false, false, false, false, 7#64, .f32 [0x3F800000#32, 0#32, 0x40000000#32, 0#32]⟩
abbrev H4 := base cfgF { m0 with insts := [inst 9 7] }
abbrev S06_1 := { fr 1 7 with tag := 10 }
abbrev S06_2 := { fr 0 7 with rev := true }
abbrev H5 := base 0x80800000#32 { m0 with newest := [(9, 8)], opened := [(9, [7, 8])] }
abbrev H5w : State := { H5 with power := { H5.power with doms := tset H5.power.doms 0 { Dom.onDom with st := .retention } } }
abbrev o4 : List (BitVec 32) := [0x3F800000#32, 0#32, 0x40000000#32, 0#32]
abbrev i1 : Inst := { inst 9 7 with ownTiles := [(0, o4), (1, o4)], hops := [(hopKey 1 0 false 0, { HopSt.fresh with inp := some (fr 1 7) })] }
abbrev H6 := base cfgF { m0 with insts := [i1] }
abbrev i2 : Inst := { inst 9 7 with ownTiles := [(0, o4), (1, o4)] }
abbrev H7 := base cfgF { m0 with insts := [i2] }
abbrev group1 : GroupT := { group0 with ranks := 1, spares := 0, members := [⟨0, .live, false, 0⟩], tables := [⟨[0], [[0]]⟩] }
abbrev i3 : Inst := { inst 9 7 with hops := [(hopKey 1 0 false 0, ⟨none, false, true, some ⟨.a32 o4, 0, 1, 0, 7#64, false⟩, [], none⟩)] }
abbrev base1 (m : MangleSt) : State := { base cfgF m with mend := { MendSt.reset with table := some group1 } }
abbrev H8 := base1 { m0 with insts := [i3] }
abbrev i4 : Inst := { inst 9 7 with hops := [(hopKey 1 0 false 0, ⟨none, false, true, some ⟨.a32 o4, 0, 0, 0, 7#64, false⟩, [], none⟩)] }
abbrev H9 := base1 { m0 with insts := [i4] }
abbrev ff : MFrame := { fr 0 7 with final := true }
abbrev i5 : Inst := { i3 with checked := true }
abbrev H10 := base1 { m0 with insts := [i5] }
abbrev i6 : Inst := { inst 9 7 with delivered := [(0, 1), (1, 1)], hops := [(hopKey 0 0 false 0, ⟨none, false, true, none, [], none⟩), (hopKey 1 0 false 0, ⟨none, false, true, none, [], none⟩)] }
abbrev H11 := base cfgF { m0 with insts := [i6, inst 9 8], keys := [(0, 5#64)] }
abbrev d5 : TagDesc := tagD 5 9 1 2 1 4 0
abbrev H12 := base cfgF { m0 with desc := [(0, d5)], insts := [inst 9 7] }
abbrev H13 := { base cfgF { m0 with desc := [(1, tagD 2 8 1 2 1 4 0x800100000)], staging := [(0, d0)] } with dev := .quiesced }

/-- What `Obligations.TilesShipped` asks of `shipTile`, `slotFreeOpen` can be met. -/
theorem test_meets_tiles_shipped_1 :
    (shipInput H0 0 = some (0, st 0 0 7) ∧ coreRuns H0 0 = true ∧ shipStalls H0 0 (st 0 0 7) = false) ∧
    (shipInput H1 0 = some (0, st 9 1 7) ∧ coreRuns H1 0 = true ∧ shipStalls H1 0 (st 9 1 7) = false ∧ (st 9 1 7).poison = [] ∧ 9 ≠ 0 ∧ 9 ≠ 65535 ∧
      descOf H1 9 = some d0 ∧ d0.tag = 9 ∧ isRed d0.op = true ∧ findInst H1 d0.tag 7 = some (inst 9 7) ∧ tileSeen H1 d0 7 1 = false) ∧
    (shipInput H2 0 = some (0, st 10 1 7) ∧ coreRuns H2 0 = true ∧ shipStalls H2 0 (st 10 1 7) = false ∧ 10 ≠ 0 ∧
      (10 = 65535 ∨ descOf H2 10 = none ∨ descOf H2 10 = some d0 ∧ d0.tag = 10 ∧ (∃ i, findInst H2 d0.tag 7 = some i) ∧ tileSeen H2 d0 7 1 = true) ∧
      hasRoom H2 (excSev H2 0)) ∧
    (mayOpen H3 = true ∧ (grouped on).pru.own = [] ∧ MangleSt.reset.waitParts = [] ∧ (freeSlot H3 9).isSome = true ∧ 9 ≠ 65535 ∧
      descOf H3 9 = some d0 ∧ d0.tag = 9 ∧ isRed d0.op = true ∧ tileSeen H3 d0 7 1 = false ∧ findInst H3 d0.tag 7 = none ∧
      wasClosed H3 d0.tag 7 = false) := by
  unfold hasRoom
  and_intros
  all_goals first | decide +kernel | exact .inl (by decide +kernel) | exact .inr (.inl (by decide +kernel))

/-- What `Obligations.PartialsReceived` asks of `mangleFrameRx`, `lateContribution` can be met. -/
theorem test_meets_partials_received_1 :
    (descOf H4 10 = none) ∧
    (descOf H4 (fr 1 7).tag = some d0 ∧ d0.tag = (fr 1 7).tag ∧ isRed d0.op = true ∧ (fr 1 7).final = false ∧ (fr 1 7).outcome = false ∧
      findInst H4 9 7 = some (inst 9 7) ∧ 5 ≤ 5 ∧ takerOf H4 (inst 9 7) d0 (fr 1 7) = some 0) ∧
    (descOf H4 (fr 0 7).tag = some d0 ∧ d0.tag = (fr 0 7).tag ∧ isRed d0.op = true ∧ (fr 0 7).final = false ∧ (fr 0 7).outcome = false ∧
      mayFold H4 d0 7 0 = false) ∧
    (descOf H4 S06_2.tag = some d0 ∧ d0.tag = S06_2.tag ∧ isRed d0.op = true ∧ S06_2.final = false ∧ S06_2.outcome = false) ∧
    (descOf H5 (fr 1 7).tag = some d0 ∧ d0.tag = (fr 1 7).tag ∧ isRed d0.op = true ∧ (fr 1 7).final = false ∧ (fr 1 7).outcome = false ∧
      mayFold H5 d0 7 1 = true ∧ tget? MangleSt.reset.ledger (ledgerKey d0.tag 1) = none ∧ hasRoom H5 3 ∧
      writesGo H5 d0.tag (predLateWrites H5 d0 (fr 1 7)) = true ∧ memWf (grouped on).mem = true) := by
  unfold hasRoom
  decide +kernel

/-- What `Obligations.PartialsReceived` asks of `lateContribution` can be met. -/
theorem test_meets_partials_received_2 :
    (descOf H5w (fr 1 7).tag = some d0 ∧ d0.tag = (fr 1 7).tag ∧ isRed d0.op = true ∧ (fr 1 7).final = false ∧ (fr 1 7).outcome = false ∧
      mayFold H5w d0 7 1 = true ∧ writesGo H5w d0.tag (predLateWrites H5w d0 (fr 1 7)) = false) := by
  decide +kernel

/-- What `Obligations.HopsAndDelivery` asks of `hop` can be met. -/
theorem test_meets_hops_and_delivery_1 :
    (findInst H6 9 7 = some i1 ∧ i1.tag = 9 ∧ i1.step = 7 ∧ descOf H6 9 = some d0 ∧ d0.tag = 9 ∧ 9 ≠ 65535 ∧ isRed d0.op = true ∧
      i1.checked = false ∧
      (∀ r ∈ hopReads H6 i1 d0 ({ needIn := true, pred := 1, own := true, prev := none, next := HopNext.final } : HopPlan) 1, mayAccess H6 1 false r.1 r.2 = true ∧
      mayGo H6 (hopReq d0) r.1 r.2 = true ∧ upsetsIn H6 r.1 r.2 = [] ∧ badIn H6 r.1 r.2 = []) ∧
      writesGo H6 d0.tag (hopWrites H6 i1 d0 ({ needIn := true, pred := 1, own := true, prev := none, next := HopNext.final } : HopPlan) 1) = true ∧
      1 < d0.chunks ∧ 0 < segCount d0 i1 1 ∧
      planOf H6 i1 d0 (hopKey 1 0 false 0) 1 0 false 0 = some ({ needIn := true, pred := 1, own := true, prev := none, next := HopNext.final } : HopPlan) ∧
      (i1.hop (hopKey 1 0 false 0)).done = false ∧
      hopReady H6 i1 d0 ({ needIn := true, pred := 1, own := true, prev := none, next := HopNext.final } : HopPlan) 1 0 false 0 = true ∧
      (∀ (r : Nat), HopNext.final ≠ HopNext.send r)) := by
  and_intros
  all_goals first | decide +kernel | exact nofun

/-- What `Obligations.HopsAndDelivery` asks of `hop` can be met. -/
theorem test_meets_hops_and_delivery_2 :
    (findInst H6 9 7 = some i1 ∧ i1.tag = 9 ∧ i1.step = 7 ∧ descOf H6 9 = some d0 ∧ d0.tag = 9 ∧ 9 ≠ 65535 ∧ isRed d0.op = true ∧
      i1.checked = false ∧
      (∀ r ∈ hopReads H6 i1 d0 ({ needIn := false, pred := 0, own := true, prev := none, next := HopNext.send 1 } : HopPlan) 0, mayAccess H6 1 false r.1 r.2 = true ∧
      mayGo H6 (hopReq d0) r.1 r.2 = true ∧ upsetsIn H6 r.1 r.2 = [] ∧ badIn H6 r.1 r.2 = []) ∧
      writesGo H6 d0.tag (hopWrites H6 i1 d0 ({ needIn := false, pred := 0, own := true, prev := none, next := HopNext.send 1 } : HopPlan) 0) = true ∧
      0 < d0.chunks ∧ 0 < segCount d0 i1 0 ∧
      planOf H6 i1 d0 (hopKey 0 0 false 0) 0 0 false 0 = some ({ needIn := false, pred := 0, own := true, prev := none, next := HopNext.send 1 } : HopPlan) ∧
      (i1.hop (hopKey 0 0 false 0)).done = false ∧
      hopReady H6 i1 d0 ({ needIn := false, pred := 0, own := true, prev := none, next := HopNext.send 1 } : HopPlan) 0 0 false 0 = true ∧
      isW8 H6 d0 = false) := by
  decide +kernel

/-- What `Obligations.HopsAndDelivery` asks of `hopWaitExpire` can be met. -/
theorem test_meets_hops_and_delivery_3 :
    (findInst H7 9 7 = some i2 ∧ descOf H7 9 = some d0 ∧ d0.tag = 9 ∧ 9 ≠ 65535 ∧ isRed d0.op = true ∧
      (∀ r ∈ hopReads H7 i2 d0 ({ needIn := true, pred := 1, own := true, prev := none, next := HopNext.final } : HopPlan) 1, mayAccess H7 1 false r.1 r.2 = true ∧
      mayGo H7 (hopReq d0) r.1 r.2 = true ∧ upsetsIn H7 r.1 r.2 = [] ∧ badIn H7 r.1 r.2 = []) ∧
      writesGo H7 d0.tag (hopWrites H7 i2 d0 ({ needIn := true, pred := 1, own := true, prev := none, next := HopNext.final } : HopPlan) 1) = true ∧
      1 < d0.chunks ∧ 0 < segCount d0 i2 1 ∧
      planOf H7 i2 d0 (hopKey 1 0 false 0) 1 0 false 0 = some ({ needIn := true, pred := 1, own := true, prev := none, next := HopNext.final } : HopPlan) ∧
      (i2.hop (hopKey 1 0 false 0)).done = false ∧ (i2.hop (hopKey 1 0 false 0)).inp = none ∧ (i2.hop (hopKey 1 0 false 0)).inSkipped = false ∧
      (needOwn H7 i2 ({ needIn := true, pred := 1, own := true, prev := none, next := HopNext.final } : HopPlan) = false ∨ i2.hasOwn d0 1 = true) ∧
      (true = true ∧ i2.hasOwn d0 1 = true ∨ Option.any (fun x => (i2.hop (hopKey 1 0 false x)).done) none = true)) := by
  decide +kernel

/-- What `Obligations.HopsAndDelivery` asks of `finalHopDeliver` can be met. -/
theorem test_meets_hops_and_delivery_4 :
    (descOf H8 9 = some d0 ∧ d0.tag = 9 ∧ 9 ≠ 65535 ∧ isRed d0.op = true ∧ memWf H8.mem = true ∧ findInst H8 9 7 = some i3 ∧ d0.op ≠ 3 ∧
      1 < d0.chunks ∧ serves H8 7 (chunkOwner H8 d0 1) = true ∧ finalSums H8 i3 d0 1 false = some ([⟨.a32 o4, 0, 1, 0, 7#64, false⟩] : List SegSum) ∧
      finalDest H8 7 (chunkOwner H8 d0 1) = none ∧ ([⟨.a32 o4, 0, 1, 0, 7#64, false⟩] : List SegSum) ≠ [] ∧
      mayAccess H8 1 true (chunkAddr d0 1) (4 * (List.flatMap (segResult d0) ([⟨.a32 o4, 0, 1, 0, 7#64, false⟩] : List SegSum)).length) = true ∧
      writesGo H8 d0.tag (deliverWrites H8 d0 7 1) = true ∧
      ownFanout H8 (if decide (chunkOwner H8 d0 1 = selfRank H8) = true then d0.f 11 7 0 else d0.f 11 23 16) 12 (if decide (chunkOwner H8 d0 1 = selfRank H8) = true then d0.f 11 13 8 else d0.f 11 29 24) ≠ [] ∧
      (([⟨.a32 o4, 0, 1, 0, 7#64, false⟩] : List SegSum).all fun x => decide (x.cnt + x.fld = 0)) = false) := by
  decide +kernel

/-- What `Obligations.HopsAndDelivery` asks of `finalHopDeliver`, `finalFrameRx` can be met. -/
theorem test_meets_hops_and_delivery_5 :
    (descOf H9 9 = some d0 ∧ d0.tag = 9 ∧ 9 ≠ 65535 ∧ isRed d0.op = true ∧ memWf H9.mem = true ∧ findInst H9 9 7 = some i4 ∧ d0.op ≠ 3 ∧
      1 < d0.chunks ∧ serves H9 7 (chunkOwner H9 d0 1) = true ∧ finalSums H9 i4 d0 1 false = some ([⟨.a32 o4, 0, 0, 0, 7#64, false⟩] : List SegSum) ∧
      finalDest H9 7 (chunkOwner H9 d0 1) = none ∧ ([⟨.a32 o4, 0, 0, 0, 7#64, false⟩] : List SegSum) ≠ [] ∧
      mayAccess H9 1 true (chunkAddr d0 1) (4 * (List.flatMap (segResult d0) ([⟨.a32 o4, 0, 0, 0, 7#64, false⟩] : List SegSum)).length) = true ∧
      writesGo H9 d0.tag (deliverWrites H9 d0 7 1) = true ∧
      ownFanout H9 (if decide (chunkOwner H9 d0 1 = selfRank H9) = true then d0.f 11 7 0 else d0.f 11 23 16) 12 (if decide (chunkOwner H9 d0 1 = selfRank H9) = true then d0.f 11 13 8 else d0.f 11 29 24) ≠ [] ∧
      (([⟨.a32 o4, 0, 0, 0, 7#64, false⟩] : List SegSum).all fun x => decide (x.cnt + x.fld = 0)) = true) ∧
    (descOf H4 9 = some d0 ∧ d0.tag = 9 ∧ 9 ≠ 65535 ∧ isRed d0.op = true ∧ memWf H4.mem = true ∧
      Payload.f32 [1065353216#32, 0#32, 1073741824#32, 0#32] = Payload.f32 o4 ∧ o4.length = chunkLen d0 0 ∧ 1 + 0 ≠ 0 ∧
      (grouped on).mend.recv = none ∧ MangleSt.reset.finals = [] ∧ mayAccess H4 1 true (chunkAddr d0 0) (4 * o4.length) = true ∧
      writesGo H4 d0.tag (deliverWrites H4 d0 7 0) = true ∧ ownFanout H4 (d0.f 11 23 16) 12 (d0.f 11 29 24) ≠ []) := by
  decide +kernel

/-- What `Obligations.HopsAndDelivery` asks of `reverseWaitExpire` can be met. -/
theorem test_meets_hops_and_delivery_6 :
    (descOf H10 9 = some d0 ∧ d0.tag = 9 ∧ 9 ≠ 65535 ∧ isRed d0.op = true ∧ memWf H10.mem = true ∧ findInst H10 9 7 = some i5 ∧ 1 < d0.chunks ∧
      serves H10 7 (chunkOwner H10 d0 1) = true ∧ (finalSums H10 i5 d0 1 false).isSome = true ∧ finalSums H10 i5 d0 1 true = none) := by
  decide +kernel

/-- What `Obligations.InstancesAndTags` asks of `instanceClose`, `collTimeout`, `tagStageWrite`, `tagInstall` can be met. -/
theorem test_meets_instances_and_tags_1 :
    (findInst H11 9 7 = some i6 ∧ descOf H11 9 = some d0 ∧ instDone H11 i6 d0 = true) ∧
    (findInst H12 9 7 = some (inst 9 7) ∧ descOf H12 9 = some d5 ∧ instDone H12 (inst 9 7) d5 = false ∧ (d5.op = 4 ∨ d5.op = 5 ∨ d5.op = 6) ∧
      hasRoom H12 3) ∧
    (tagsOpen H13 = true ∧ 0 < 16 ∧ (¬(0 = 0 ∧ (2147483647#32).getLsbD 31 = true))) ∧
    (tagsOpen H13 = true ∧ tagFits H13 (csrBits H13 O.mangleTagSel 11 0) = true) ∧
    (tagsOpen H13 = true ∧ 15 < 16 ∧ (¬(15 = 0 ∧ (2147483648#32).getLsbD 31 = true))) := by
  unfold hasRoom
  decide +kernel

/-- What `Obligations.InstancesAndTags` asks of `tagStageWrite`, `tagInstall` can be met. -/
theorem test_meets_instances_and_tags_2 :
    (tagsOpen H12 = false) := by
  decide +kernel

end Mangle

/-! ### Mending -/

namespace Mend

abbrev regs (l : List (Nat × BitVec 32)) (s : State) : State := { s with csr := l.foldl (fun t e => tset t e.1 e.2) s.csr }
abbrev tb (l : List Member) : GroupT := { group0 with members := l }
abbrev mb (p : Nat) (st : MState) (c : Bool) (l : Nat) : Member := ⟨p, st, c, l⟩
abbrev t2 := tb [mb 1 .live true 0, mb 0 .live true 0, mb 0 .ready false 0]
abbrev t3 := tb [mb 1 .live true 0, mb 0 .live true 0, mb 0 .gone false 0]
abbrev t4 := tb [mb 1 .live true 0, mb 0 .live false 0, mb 0 .gone false 0]
abbrev t5 := tb [mb 1 .live true 0, mb 0 .covered true 0, mb 0 .gone false 0]
abbrev gp (t : GroupT) (f : MendSt → MendSt) (s : State) : State := { s with mend := f { MendSt.reset with table := some t } }
abbrev hd (k sub src ep st : Nat) : MendHdr := ⟨k, 0, false, false, src, ep, st, sub, 0, 0, 0⟩
abbrev t6 : GroupT := { group0 with ranks := 3, spares := 0, members := [mb 1 .live true 0, mb 2 .live true 0, mb 0 .live true 0], tables := [⟨[0, 1, 2], [[0, 1, 2]]⟩] }
abbrev K0 := gp t6 (fun x => x) on
abbrev S07_1 := { hd 1 0 0 5 0 with passed := true }
abbrev S07_2 := { hd 1 2 2 5 0 with marked := true }
abbrev K1 := gp t6 (fun m => { m with probes := [2, 1], marks := [(2, 1, 1)] }) on
abbrev nt (ep : Nat) (l : List Change) : Notice := ⟨ep, 1, 0, false, l⟩
abbrev K2 := gp t6 (fun m => { m with adopted := [nt 5 []], unacked := [(2, nt 5 [])] }) on
abbrev K3 := regs [(O.mendCtrl, 1#32), (O.mendCheck, 3#32)] (gp { t6 with areaBytes := 8 } (fun x => x) { on with step := 8 })
abbrev t7 : GroupT := { t6 with areaBytes := 8 }
abbrev K4 := regs [(O.mendCtrl, 1#32), (O.mendCheck, 3#32)] (gp t7 (fun m => { m with checkedStep := some 8 }) { on with step := 8 })
abbrev K4a := regs [(O.mendCtrl, 1#32), (O.mendCheck, 3#32)] (gp t7 (fun m => { m with checkedStep := some 8, ownDigest := some (8, 5#64) }) { on with step := 8 })
abbrev K4b := regs [(O.mendCtrl, 1#32), (O.mendCheck, 3#32)] (gp t7 (fun m => { m with checkedStep := some 0, rxDigest := some (8, 6#64) }) { on with step := 8 })
abbrev K4c := regs [(O.mendCtrl, 1#32), (O.mendCheck, 3#32)] (gp t7 (fun m => { m with checkedStep := some 0, ownDigest := some (0, 6#64) }) { on with step := 8 })
abbrev K4d := regs [(O.mendCtrl, 1#32), (O.mendCheck, 3#32)] (gp t7 (fun m => { m with ownDigest := some (8, 5#64) }) { on with step := 8 })
abbrev S07_3 := { K3 with step := 10 }
abbrev rc : FillRecv := ⟨0, false, false, false, 0, [], none, [], [], none, []⟩
abbrev sx : FillSrc := ⟨1, 2, 1, [], [], 0, false, 0, 0⟩
abbrev tagD (op tag first tiles per elems dst : Nat) : TagDesc :=
  ⟨[BitVec.ofNat 32 (2 ^ 31 + op * 2 ^ 20 + tag), 0#32, BitVec.ofNat 32 (per * 65536 + first), BitVec.ofNat 32 tiles, BitVec.ofNat 32 elems, 0#32,
    BitVec.ofNat 32 (dst / 256)] ++ List.replicate 9 0#32⟩
abbrev d0 : TagDesc := tagD 2 9 1 2 1 4 0x800100000
abbrev K5 : State := { gp t6 (fun m => { m with srcs := [sx] }) on with mangle := { MangleSt.reset with desc := [(0, d0)] } }
abbrev K6 : State := { K5 with mangle := MangleSt.reset }
abbrev recv (r : FillRecv) (g : MendSt → MendSt) : State := gp t6 (fun m => g { m with recv := some r }) on
abbrev slow (s : State) : State := { s with power := { s.power with doms := tset s.power.doms 36 { Dom.onDom with st := .retention } } }
abbrev rc1 : FillRecv := ⟨0, false, false, true, 0, [], some 4, [], [0], none, []⟩
abbrev S07_4 := recv rc1 (fun m => { m with waking := true })
abbrev S07_5 := { hd 9 2 2 5 4 with offset := 16384 }
abbrev rc2 : FillRecv := ⟨0, true, false, true, 0, [], some 4, [], [0], none, []⟩
abbrev rc3 : FillRecv := ⟨0, false, false, true, 0, [], some 4, [], List.range 18, none, []⟩
abbrev S07_6 := { hd 9 2 2 5 4 with offset := 294912 }
abbrev t8 : GroupT := { group0 with members := [mb 1 .live true 0, mb 0 .filling true 2, mb 0 .assigned false 1] }

/-- What `Obligations.FailureReports` asks of `suspectRx`, `departRx`, `probeRx` can be met. -/
theorem test_meets_failure_reports_1 :
    (lowestLiveBut t6 2 = some group0.self ∧ notFailed t6 2 = true) ∧
    (isSelf t6 2 = false) ∧
    (lowestLiveBut t6 0 ≠ some group0.self) ∧
    (lowestLiveBut t6 0 = some 1 ∧ 1 ≠ group0.self) ∧
    (isSelf t6 0 = true) := by
  decide +kernel

/-- What `Obligations.FailureReports` asks of `suspectResend`, `probeAckRx`, `probeTimeout` can be met. -/
theorem test_meets_failure_reports_2 :
    ((∃ m ∈ [(2, 1, 1)], m.1 = 2) ∧ notFailed t6 2 = true ∧ lowestLiveBut t6 2 = some 0) ∧
    (2 ∈ [2, 1] ∧ [2, 1].Nodup ∧ addSparesFor K1 2 = []) := by
  and_intros
  all_goals decide +kernel

/-- What `Obligations.NoticesAdopted` asks of `copyReportRx`, `noticeAckRx`, `noticeRx` can be met. -/
theorem test_meets_notices_adopted_1 :
    (group0.keeper = group0.self ∧ group0.epoch ≤ 6 ∧ 0 < 3 ∧ 3 ≤ [mb 1 MState.live true 0, mb 2 MState.live true 0, mb 0 MState.live true 0].length) ∧
    (K0.mend.table = some t6 ∧ 6 = group0.epoch + 1 ∧ 2 < 3 ∧
      3 ≤ [mb 1 MState.live true 0, mb 2 MState.live true 0, mb 0 MState.live true 0].length ∧ 2 ≠ group0.self ∧
      (memOf t6 group0.self).st = MState.live ∧ MendSt.reset.held = []) ∧
    (group0.epoch + 1 < 7) ∧
    (group0.keeper = group0.self ∧ group0.epoch ≤ 7 ∧ 0 < 3 ∧ 3 ≤ [mb 1 MState.live true 0, mb 2 MState.live true 0, mb 0 MState.live true 0].length) ∧
    (5 ≤ group0.epoch ∧ nt 5 [] ∈ [nt 5 []]) := by
  decide +kernel

/-- What `Obligations.NoticesAdopted` asks of `copyReportRx`, `noticeResend` can be met. -/
theorem test_meets_notices_adopted_2 :
    (group0.keeper = group0.self ∧ group0.epoch ≤ 5 ∧ 2 < 3 ∧ 3 ≤ [mb 1 MState.live true 0, mb 2 MState.live true 0, mb 0 MState.live true 0].length) ∧
    (K2.mend.table = some t6 ∧ notFailed t6 2 = true) := by
  decide +kernel

/-- What `Obligations.CopiesAndFills` asks of `digestCheck`, `digestRx` can be met. -/
theorem test_meets_copies_and_fills_1 :
    (partnerOf t7 group0.self = some 1 ∧ dueStep K3 = some 8 ∧ updatesDone K3 t7 8 = true ∧ (mayAccess K3 1 false group0.shardBase 8 = true ∧
      mayGo K3 checkReq group0.shardBase 8 = true ∧ upsetsIn K3 group0.shardBase 8 = [] ∧ badIn K3 group0.shardBase 8 = []) ∧
      (mayAccess K3 1 false group0.copyBase 8 = true ∧ mayGo K3 checkReq group0.copyBase 8 = true ∧ upsetsIn K3 group0.copyBase 8 = [] ∧
      badIn K3 group0.copyBase 8 = [])) ∧
    (partnerOf t7 group0.self = some 1 ∧ dueStep K4b = some 8 ∧ updatesDone K4b t7 8 = true ∧ (mayAccess K4b 1 false group0.shardBase 8 = true ∧
      mayGo K4b checkReq group0.shardBase 8 = true ∧ upsetsIn K4b group0.shardBase 8 = [] ∧ badIn K4b group0.shardBase 8 = []) ∧
      (mayAccess K4b 1 false group0.copyBase 8 = true ∧ mayGo K4b checkReq group0.copyBase 8 = true ∧ upsetsIn K4b group0.copyBase 8 = [] ∧
      badIn K4b group0.copyBase 8 = [])) ∧
    ((dueStep S07_3 = none ∨ dueStep S07_3 = some 8 ∧ updatesDone S07_3 t7 8 = false)) ∧
    (t7.epoch ≤ (hd 8 2 2 5 8).epoch ∧ heldRank t7 = some (hd 8 2 2 5 8).src ∧ csrBit K4d O.mendCtrl 0 = true) ∧
    (t7.epoch ≤ (hd 8 2 2 5 9).epoch ∧ heldRank t7 = some (hd 8 2 2 5 9).src ∧ csrBit K4d O.mendCtrl 0 = true ∧ 8 < 9) := by
  decide +kernel

/-- What `Obligations.CopiesAndFills` asks of `digestRx`, `fillReqRx`, `fillChunkSend`, `fillChunkRx` can be met. -/
theorem test_meets_copies_and_fills_2 :
    (t7.epoch ≤ (hd 8 2 2 5 7).epoch ∧ heldRank t7 = some (hd 8 2 2 5 7).src ∧ csrBit K4d O.mendCtrl 0 = true ∧ 7 < 8) ∧
    (t7.epoch ≤ (hd 8 2 2 5 7).epoch ∧ heldRank t7 = some (hd 8 2 2 5 7).src ∧ csrBit K4 O.mendCtrl 0 = true ∧ MendSt.reset.ownDigest = none ∧ 7 ≤ 8) ∧
    (K0.mend.table = some t6 ∧ t6.epoch ≤ (hd 9 2 2 5 0).epoch ∧ (memOf t6 2).partner = group0.self ∧ (∀ y ∈ MendSt.reset.srcs, y.ended = true)) ∧
    (K6.mend.table = some t6 ∧ t6.epoch ≤ (hd 9 2 2 5 0).epoch) ∧
    ((recv rc fun x => x).mend.table = some t6 ∧ t6.epoch ≤ (hd 9 2 2 5 0).epoch ∧
      mayAccess (recv rc fun x => x) 1 true ((if 0 = 0 then group0.shardBase else group0.copyBase) + 0) [1#8].length = true ∧
      mayGo (recv rc fun x => x) { agent := HbmAgent.fillIn, prio := 3 } ((if 0 = 0 then group0.shardBase else group0.copyBase) + 0) [1#8].length = true ∧
      memWf on.mem = true) := by
  decide +kernel

/-- What `Obligations.CopiesAndFills` asks of `fillChunkRx`, `fillEndRx`, `fillMetaRx`, `spareWakeDone` can be met. -/
theorem test_meets_copies_and_fills_3 :
    ((slow (recv rc fun x => x)).mend.table = some t6 ∧ t6.epoch ≤ (hd 9 2 2 5 0).epoch ∧
      mayAccess (slow (recv rc fun x => x)) 1 true ((if 0 = 0 then group0.shardBase else group0.copyBase) + 0) [1#8].length = true ∧
      mayGo (slow (recv rc fun x => x)) { agent := HbmAgent.fillIn, prio := 3 } ((if 0 = 0 then group0.shardBase else group0.copyBase) + 0) [1#8].length = false) ∧
    (S07_4.mend.table = some t6 ∧ t6.epoch ≤ S07_5.epoch ∧
      mayAccess S07_4 1 true ((if 0 = 0 then group0.shardBase else group0.copyBase) + 16384) [1#8].length = true ∧
      mayGo S07_4 { agent := HbmAgent.fillIn, prio := 3 } ((if 0 = 0 then group0.shardBase else group0.copyBase) + 16384) [1#8].length = true ∧
      memWf on.mem = true) ∧
    (S07_4.mend.table = some t6 ∧ t6.epoch ≤ S07_5.epoch ∧ (∀ (m : Nat), none = some m → m ≤ 4) ∧ [0].contains 16384 = false ∧ [0].length < 18) ∧
    (S07_4.mend.table = some t6 ∧ t6.epoch ≤ S07_5.epoch ∧ (∀ p ∈ spareDomains S07_4, domRuns S07_4 p = true)) ∧
    ((recv rc2 fun x => x).mend.table = some t6 ∧ t6.epoch ≤ S07_5.epoch ∧
      mayAccess (recv rc2 fun x => x) 1 true ((if 0 = 0 then group0.shardBase else group0.copyBase) + 16384) [1#8].length = true ∧
      mayGo (recv rc2 fun x => x) { agent := HbmAgent.fillIn, prio := 3 } ((if 0 = 0 then group0.shardBase else group0.copyBase) + 16384) [1#8].length = true ∧
      memWf on.mem = true) := by
  and_intros
  all_goals decide +kernel

/-- What `Obligations.CopiesAndFills` asks of `fillMetaRx`, `fillDoneRx` can be met. -/
theorem test_meets_copies_and_fills_4 :
    ((recv rc3 fun x => x).mend.table = some t6 ∧ t6.epoch ≤ S07_6.epoch ∧ (recv rc3 fun x => x).mend.recv = some rc3 ∧ rc3.rebuild = false ∧
      (∀ (m : Nat), rc3.metaHeld = some m → m ≤ S07_6.step) ∧ rc3.metaStep = some S07_6.step ∧ rc3.metaHave.contains S07_6.offset = false ∧
      (List.range 18).length = 18) ∧
    ((gp t8 (fun x => x) on).mend.table = some t8 ∧ t8.epoch ≤ (hd 9 1 2 5 0).epoch ∧ group0.keeper = group0.self ∧ 1 < group0.ranks ∧
      (memOf t8 1).st = MState.filling ∧ 2 = (memOf t8 1).link) := by
  and_intros
  all_goals decide +kernel

/-- What `Obligations.KeeperFail` asks can be met: a partner's copy and a free spare. -/
theorem test_meets_keeper_fail_1 :
    1 < t2.ranks ∧ (memOf t2 1).st = .live ∧ heldBy t2 1 = some 0 ∧ (memOf t2 0).st = .live ∧ (memOf t2 1).copy = true ∧
      (memOf t2 (memOf t2 1).partner).st = .live ∧ t2.ranks ≤ 2 ∧ 2 < t2.ranks + t2.spares ∧ (memOf t2 2).st = .ready := by
  decide +kernel

/-- What `Obligations.KeeperFail` asks can be met: no spare is ready; no copy is valid; the failed member is not live. -/
theorem test_meets_keeper_fail_2 :
    ((memOf t3 1).st = .live ∧ heldBy t3 1 = some 0 ∧ (memOf t3 1).copy = true ∧
      (∀ r < t3.ranks + t3.spares, t3.ranks ≤ r → (memOf t3 r).st ≠ .ready)) ∧
    ((memOf t4 1).st = .live ∧ heldBy t4 1 = some 0 ∧ (memOf t4 0).st = .live ∧ (memOf t4 1).copy = false) ∧
    (1 < t5.ranks ∧ (memOf t5 1).st ≠ .live) := by
  decide +kernel

/-- What `Obligations.CopiesAndFills` asks of DIGEST_RX before any check: no digest and no step. -/
theorem test_meets_copies_and_fills_no_check :
    K3.mend.ownDigest = none ∧ (∀ k, K3.mend.checkedStep = some k → k < 8) ∧ csrBit K3 O.mendCtrl 0 = true ∧
      heldRank { t6 with areaBytes := 8 } = some 2 ∧ K3.mend.table = some { t6 with areaBytes := 8 } :=
  ⟨rfl, nofun, by decide +kernel, by decide +kernel, rfl⟩

/-- A device that fills rank 2 with chunk 0 of tag 9. -/
abbrev K8 : State := gp t6 (fun m => { m with srcs := [⟨1, 2, 1, [(9, 0)], [], 0, false, 0, 0⟩] }) on

/-- What `Obligations.CopiesAndFills` asks of a chunk that is sent, where it lies at the foot of its area. -/
theorem test_meets_copies_and_fills_sends (h : Config.chunkOffset 9 0 = 0) :
    let a := srcBase t6 ⟨1, 2, 1, [(9, 0)], [], 0, false, 0, 0⟩ + Config.chunkOffset 9 0
    K8.mend.srcs = [⟨1, 2, 1, [(9, 0)], [], 0, false, 0, 0⟩] ∧ mayAccess K8 1 false a (chunkBytes K8 9 0) = true ∧
      mayGo K8 ⟨.fill 2, 2⟩ a (chunkBytes K8 9 0) = true ∧ upsetsIn K8 a (chunkBytes K8 9 0) = [] ∧
      badIn K8 a (chunkBytes K8 9 0) = [] := by
  rw [h]
  decide +kernel

/-- That device with the domain of stack 0 in retention. -/
abbrev K9 : State := slow K8

/-- What `Obligations.CopiesAndFills` asks of a chunk that waits, where it lies at the foot of its area. -/
theorem test_meets_copies_and_fills_waits (h : Config.chunkOffset 9 0 = 0) :
    let a := srcBase t6 ⟨1, 2, 1, [(9, 0)], [], 0, false, 0, 0⟩ + Config.chunkOffset 9 0
    mayAccess K9 1 false a (chunkBytes K9 9 0) = true ∧ mayGo K9 ⟨.fill 2, 2⟩ a (chunkBytes K9 9 0) = false := by
  rw [h]
  decide +kernel

/-- A spare acknowledges under the rank that it takes (R396, R397): the notice sent to standby rank 2 is settled by rank 1. -/
theorem test_spare_acknowledges_as_its_rank :
    (match execNoticeAckRx (hd 6 0 1 5 0) (gp t8 (fun m => { m with unacked := [(2, nt 5 []), (0, nt 5 [])] }) on) with
      | .next u => u.mend.unacked.map (·.1)
      | _ => []) = [0] := by
  decide +kernel

/-- R365: a hop that waits for rank 2 stops waiting when a notice marks it failed, and forwards without it. -/
theorem test_hop_forwards_without_a_failed_rank :
    (match execNoticeRx (hd 5 0 1 6 0) (nt 6 [⟨2, .covered, true, 0⟩]) { gp t6 (fun m => m) on with mangle := { MangleSt.reset with
          desc := [(0, d0)]
          insts := [⟨9, 7, 5, 0, 0, [(0, List.replicate 4 0#32)], [], [], false, false, [], [], [], [], [], false, false, false, false⟩] } } with
      | .next u => (match execHop 9 7 0 0 false 0 u with
        | .next v => (((findInst v 9 7).map (fun i => (i.hop (hopKey 0 0 false 0)).done)), v.mangle.skips)
        | _ => (none, []))
      | _ => (none, [])) = (some true, [⟨3, 2, 9, 7⟩]) := by
  decide +kernel

/-- R398: of two notices of one epoch that of the lower keeper stands; what only the other changed is undone. -/
theorem test_notice_conflict :
    (match execNoticeRx (hd 5 0 1 5 0) ⟨5, 1, 0, false, [⟨2, .covered, true, 0⟩]⟩
        (gp { t6 with members := [mb 1 .live true 0, mb 2 .covered true 0, mb 0 .live true 0] }
          (fun m => { m with before := some ⟨t6, [], []⟩, adopted := [⟨5, 2, 0, false, [⟨1, .covered, true, 0⟩]⟩] }) on) with
      | .next u => ((u.mend.table.map (fun t => t.members.map (·.st))), csrGet u O.groupCntConflict)
      | _ => (none, 0)) = (some [.live, .live, .covered], 1) := by
  decide +kernel

end Mend

/-! ### Seam links -/

namespace Seam

abbrev regs (l : List (Nat × BitVec 32)) (s : State) : State := { s with csr := l.foldl (fun t e => tset t e.1 e.2) s.csr }
abbrev lk (n : Nat) (k : Link) (s : State) : State := { s with links := [(n, k)] }
abbrev up0 : Link := { Link.reset with st := .up, active := 15, lock := 31, credits := [128, 640, 512, 256] }
abbrev fm : LinkFrame := ⟨2, 1, 300, 16, 3, .mgmt []⟩
abbrev tx (q i : Nat) : TxFlit := ⟨q, 0, fm, i⟩
abbrev S08_1 := lk 23 { up0 with lock := 15 } on
abbrev S08_2 := lk 23 { up0 with reform := true } on
abbrev S08_3 := regs [(O.seamCtrl 23, 5#32)] (lk 23 { up0 with active := 3, lock := 3, failed := 28 } on)
abbrev S08_4 := lk 23 { up0 with st := .off } on
abbrev S08_5 := lk 23 { up0 with laneThr := 3 } on
abbrev S08_6 := lk 23 { up0 with active := 3 } on
abbrev S08_7 := lk 23 { up0 with st := .training } on
abbrev S08_8 := lk 23 { up0 with preShed := some 15, active := 3 } on
abbrev S08_9 := regs [(O.seamCtrl 23, 5#32)] (lk 23 { up0 with preShed := some 15, active := 3 } on)
abbrev S08_10 := { lk 23 { up0 with preShed := some 15, active := 3 } on with power := { on.power with level := 3 } }
abbrev S08_11 := lk 23 { up0 with reform := true, active := 7, waitCtl := [.keepalive], unacked := [tx 5 0, tx 6 1] } on
abbrev S08_12 := lk 23 { up0 with reform := true, mapNext := some (7, 9), unacked := [tx 5 0, tx 6 1] } on
abbrev S08_13 := lk 23 { up0 with st := .off, reform := true } on
abbrev oe (e : Nat) (o : OptEngine) (s : State) : State := { s with oes := [(e, o)] }
abbrev oe3 : OptEngine := { OptEngine.reset with st := 3 }
abbrev S08_14 := oe 7 { oe3 with st := 4, back := 3 } (lk 23 up0 on)
abbrev S08_15 := oe 7 { oe3 with a := ⟨some 1700, false, true⟩, b := ⟨some 1699, true, true⟩ } on
abbrev S08_16 := oe 7 { oe3 with b := ⟨none, true, true⟩ } on
abbrev S08_17 := oe 7 { oe3 with a := ⟨some 1800, false, false⟩ } on
abbrev fl (k seq ack : Nat) (av eof : Bool) : Flit := ⟨true, 0, k, seq, ack, av, 0, true, eof, some fm⟩
abbrev S08_18 := lk 23 { up0 with rxSeq := 4095 } on
abbrev S08_19 := lk 23 { up0 with freed := [1, 0, 0, 0] } on
abbrev S08_20 := { fl 0 0 0 false false with frame := none }
abbrev S08_21 := { fl 0 1 0 false false with good := false }
abbrev S08_22 := { fl 2 1 0 false false with good := false, codeword := 2 }
abbrev S08_23 := lk 23 { up0 with unacked := [tx 5 0, tx 6 1, tx 7 0] } on
abbrev S08_24 := lk 23 { up0 with mapNext := some (7, 4) } on
abbrev S08_25 := lk 23 { up0 with credits := [100, 0, 0, 0], cfg := [128, 640, 512, 256], lastCount := [65530, 0, 0, 0] } on
abbrev frm (d ttl proto : Nat) (b : FrameBody) : LinkFrame := ⟨d, 1, b.len, ttl, proto, b⟩
abbrev G0 (f : LinkFrame) (vc : Nat) : State := lk 23 { up0 with rxq := [(vc, f)] } (grouped on)
abbrev mfr : MFrame := ⟨9, 0, 7, 5, 1, 0, 0, 0, false, false, false, false, 7#64, .f32 [0#32]⟩
abbrev mhd : MendHdr := ⟨14, 0, false, false, 1, 5, 0, 0, 0, 0, 0⟩
abbrev tr (st : TStage) : Link := { Link.reset with st := .training, stage := st, freed := [1, 2, 3, 4] }
abbrev T (st : TStage) : State := oe 7 { oe3 with st := 2 } (lk 23 (tr st) on)
abbrev S08_26 := lk 23 { tr .identity with gotId := true, gotCredit := true, credits := [128, 640, 512, 256], active := 15 } on

/-- What `Obligations.LinkWidthAndOptics` asks of `laneFail` can be met. -/
theorem test_meets_link_width_and_optics_1 :
    (3 < 5 ∧ (getLink (lk 23 up0 on) 23).st = LState.up ∧ (getLink (lk 23 up0 on) 23).failed < 32 ∧
      (getLink (lk 23 up0 on) 23).active &&& (getLink (lk 23 up0 on) 23).failed = 0 ∧ (getLink (lk 23 up0 on) 23).reform = false ∧
      (getLink (lk 23 up0 on) 23).preShed = none ∧ bitOf (getLink (lk 23 up0 on) 23).active 3 = true ∧
      2 ≤ laneCount (((getLink (lk 23 up0 on) 23).active ||| setBits (getLink (lk 23 up0 on) 23).lock 3 3 0) &&& 31 - setBits (getLink (lk 23 up0 on) 23).failed 3 3 1) ∧
      bitOf (getLink (lk 23 up0 on) 23).active 4 = false ∧ bitOf (setBits (getLink (lk 23 up0 on) 23).failed 3 3 1) 4 = false ∧
      bitOf (setBits (getLink (lk 23 up0 on) 23).lock 3 3 0) 4 = true) ∧
    (0 < 5 ∧ (getLink S08_1 23).st = LState.up ∧ (getLink S08_1 23).failed < 32 ∧ (getLink S08_1 23).active &&& (getLink S08_1 23).failed = 0 ∧
      (getLink S08_1 23).reform = false ∧ (getLink S08_1 23).preShed = none ∧ bitOf (getLink S08_1 23).active 0 = true ∧
      2 ≤ laneCount (((getLink S08_1 23).active ||| setBits (getLink S08_1 23).lock 0 0 0) &&& 31 - setBits (getLink S08_1 23).failed 0 0 1) ∧
      (bitOf (getLink S08_1 23).active 4 = true ∨ bitOf (setBits (getLink S08_1 23).failed 0 0 1) 4 = true ∨ bitOf (setBits (getLink S08_1 23).lock 0 0 0) 4 = false)) := by
  decide +kernel

/-- What `Obligations.LinkWidthAndOptics` asks of `laneFail` can be met. -/
theorem test_meets_link_width_and_optics_2 :
    (4 < 5 ∧ (getLink (lk 23 up0 on) 23).st = LState.up ∧ (getLink (lk 23 up0 on) 23).failed < 32 ∧
      2 ≤ laneCount (((getLink (lk 23 up0 on) 23).active ||| setBits (getLink (lk 23 up0 on) 23).lock 4 4 0) &&& 31 - setBits (getLink (lk 23 up0 on) 23).failed 4 4 1) ∧
      ((getLink (lk 23 up0 on) 23).reform = true ∨ (getLink (lk 23 up0 on) 23).active &&& (getLink (lk 23 up0 on) 23).failed = 0 ∧
      bitOf (getLink (lk 23 up0 on) 23).active 4 = false)) ∧
    (3 < 5 ∧ (getLink S08_2 23).st = LState.up ∧ (getLink S08_2 23).failed < 32 ∧
      2 ≤ laneCount (((getLink S08_2 23).active ||| setBits (getLink S08_2 23).lock 3 3 0) &&& 31 - setBits (getLink S08_2 23).failed 3 3 1) ∧
      ((getLink S08_2 23).reform = true ∨ (getLink S08_2 23).active &&& (getLink S08_2 23).failed = 0 ∧ bitOf (getLink S08_2 23).active 3 = false)) ∧
    (0 < 5 ∧ (getLink S08_3 23).st = LState.up ∧ (getLink S08_3 23).failed < 32 ∧
      laneCount (((getLink S08_3 23).active ||| setBits (getLink S08_3 23).lock 0 0 0) &&& 31 - setBits (getLink S08_3 23).failed 0 0 1) < 2 ∧
      (getLink S08_3 23).txq = []) ∧
    (((getLink S08_4 23).st = LState.off ∨ (getLink S08_4 23).st = LState.down ∨ (getLink S08_4 23).st = LState.up ∧ 5 ≤ 0 ∧
      (getLink S08_4 23).active &&& (getLink S08_4 23).failed = 0 ∧ 2 ≤ (getLink S08_4 23).usable)) := by
  decide +kernel

/-- What `Obligations.LinkWidthAndOptics` asks of `laneFail`, `laneErrorWindow`, `laneMapRx` can be met. -/
theorem test_meets_link_width_and_optics_3 :
    (((getLink (lk 23 up0 on) 23).st = LState.off ∨ (getLink (lk 23 up0 on) 23).st = LState.down ∨ (getLink (lk 23 up0 on) 23).st = LState.up ∧
      5 ≤ 5 ∧ (getLink (lk 23 up0 on) 23).active &&& (getLink (lk 23 up0 on) 23).failed = 0 ∧ 2 ≤ (getLink (lk 23 up0 on) 23).usable)) ∧
    (4 < 5 ∧ (getLink (lk 23 up0 on) 23).laneThr < 1048575) ∧
    (4 < 5 ∧ 3 ≤ (getLink S08_5 23).laneThr) ∧
    (4 < 5 ∧ (getLink S08_5 23).laneThr < 4) ∧
    ((getLink (lk 23 Link.reset on) 23).st ≠ LState.up) := by
  decide +kernel

/-- What `Obligations.LinkWidthAndOptics` asks of `laneMapRx` can be met. -/
theorem test_meets_link_width_and_optics_4 :
    ((getLink (lk 23 up0 on) 23).st = LState.up ∧ (getLink (lk 23 up0 on) 23).rxSeq ≠ 4095) ∧
    ((getLink (lk 23 up0 on) 23).st = LState.up ∧ 15 < 32 ∧ (getLink (lk 23 up0 on) 23).failed < 32 ∧ 15 = (getLink (lk 23 up0 on) 23).active) ∧
    ((getLink (lk 23 up0 on) 23).st = LState.up ∧ 8 < 32 ∧ (getLink (lk 23 up0 on) 23).failed < 32 ∧ 8 ≠ (getLink (lk 23 up0 on) 23).active ∧
      laneCount 8 < 2 ∧ (getLink (lk 23 up0 on) 23).txq = []) ∧
    ((getLink (lk 23 up0 on) 23).st = LState.up ∧ 23 < 32 ∧ (getLink (lk 23 up0 on) 23).failed < 32 ∧ 23 ≠ (getLink (lk 23 up0 on) 23).active ∧
      2 ≤ laneCount 23 ∧ 23 &&& (getLink (lk 23 up0 on) 23).failed = 0 ∧ (getLink (lk 23 up0 on) 23).preShed = none ∧
      (getLink (lk 23 up0 on) 23).reform = false ∧ (getLink (lk 23 up0 on) 23).replayDue = false ∧
      laneCount 23 = laneCount (getLink (lk 23 up0 on) 23).active) ∧
    ((getLink (lk 23 up0 on) 23).st = LState.up ∧ 7 < 32 ∧ (getLink (lk 23 up0 on) 23).failed < 32 ∧ 7 ≠ (getLink (lk 23 up0 on) 23).active ∧
      2 ≤ laneCount 7 ∧ 7 &&& (getLink (lk 23 up0 on) 23).failed = 0 ∧ (getLink (lk 23 up0 on) 23).preShed = none ∧
      (getLink (lk 23 up0 on) 23).reform = false ∧ (getLink (lk 23 up0 on) 23).replayDue = false ∧
      laneCount 7 + 1 = laneCount (getLink (lk 23 up0 on) 23).active) := by
  decide +kernel

/-- What `Obligations.LinkWidthAndOptics` asks of `laneMapRx`, `seamForceMin` can be met. -/
theorem test_meets_link_width_and_optics_5 :
    ((getLink (lk 23 up0 on) 23).st = LState.up ∧ 3 < 32 ∧ (getLink (lk 23 up0 on) 23).failed < 32 ∧ 3 ≠ (getLink (lk 23 up0 on) 23).active ∧
      2 ≤ laneCount 3 ∧ 3 &&& (getLink (lk 23 up0 on) 23).failed = 0 ∧ (getLink (lk 23 up0 on) 23).preShed = none ∧
      (getLink (lk 23 up0 on) 23).reform = false ∧ (getLink (lk 23 up0 on) 23).replayDue = false ∧
      laneCount 3 + 1 < laneCount (getLink (lk 23 up0 on) 23).active) ∧
    ((getLink S08_6 23).st = LState.up ∧ 15 < 32 ∧ (getLink S08_6 23).failed < 32 ∧ 15 ≠ (getLink S08_6 23).active ∧ 2 ≤ laneCount 15 ∧
      15 &&& (getLink S08_6 23).failed = 0 ∧ (getLink S08_6 23).preShed = none ∧ (getLink S08_6 23).reform = false ∧
      (getLink S08_6 23).replayDue = false ∧ laneCount (getLink S08_6 23).active < laneCount 15) ∧
    ((getLink (lk 23 up0 on) 23).st = LState.up ∧ (getLink (lk 23 up0 on) 23).preShed = none ∧ 2 < laneCount (getLink (lk 23 up0 on) 23).active) ∧
    ((getLink S08_6 23).st = LState.up ∧ (getLink S08_6 23).preShed = none ∧ laneCount (getLink S08_6 23).active ≤ 2) ∧
    (((getLink S08_7 23).st ≠ LState.up ∨ (getLink S08_7 23).preShed.isSome = true)) := by
  decide +kernel

/-- What `Obligations.LinkWidthAndOptics` asks of `seamForceMin`, `interleaveReformDone` can be met. -/
theorem test_meets_link_width_and_optics_6 :
    (((getLink S08_8 23).st ≠ LState.up ∨ (getLink S08_8 23).preShed.isSome = true)) ∧
    ((getLink S08_9 23).st = LState.up ∧ (getLink S08_9 23).preShed = some 15 ∧ on.power.level < 3 ∧ 15 &&& (getLink S08_9 23).failed = 0 ∧
      15 ≠ (getLink S08_9 23).active ∧ (getLink S08_9 23).failed < 32 ∧ 2 ≤ laneCount 15) ∧
    (((getLink (lk 23 up0 on) 23).preShed = none ∨ 3 ≤ on.power.level)) ∧
    (((getLink S08_10 23).preShed = none ∨ 3 ≤ 3)) ∧
    ((getLink S08_11 23).st = LState.up ∧ (getLink S08_11 23).reform = true ∧ (getLink S08_11 23).txq = [] ∧
      (getLink S08_11 23).active &&& (getLink S08_11 23).failed = 0 ∧ 2 ≤ (getLink S08_11 23).usable ∧ (getLink S08_11 23).mapNext = none) := by
  decide +kernel

/-- What `Obligations.LinkWidthAndOptics` asks of `interleaveReformDone`, `laserMeasure`, `oeOvertemp` can be met. -/
theorem test_meets_link_width_and_optics_7 :
    ((getLink S08_12 23).st = LState.up ∧ (getLink S08_12 23).reform = true ∧ (getLink S08_12 23).txq = [] ∧
      (getLink S08_12 23).active &&& (getLink S08_12 23).failed = 0 ∧ 2 ≤ (getLink S08_12 23).usable ∧ (getLink S08_12 23).mapNext.isSome = true) ∧
    (((getLink (lk 23 up0 on) 23).st ≠ LState.up ∨ (getLink (lk 23 up0 on) 23).reform = false)) ∧
    (((getLink S08_13 23).st ≠ LState.up ∨ (getLink S08_13 23).reform = false)) ∧
    ((getOe (oe 7 oe3 on) 7).st ≠ 0 ∧ (decide (1600 < 1400) = false ∨ (getOe (oe 7 oe3 on) 7).a.off = true) ∧
      (decide (1600 < 1400) = false ∨ (getOe (oe 7 oe3 on) 7).b.off = true)) ∧
    ((getOe (oe 7 oe3 on) 7).st ≠ 0 ∧ (189 < 190 ∨ (getOe (oe 7 oe3 on) 7).st = 4)) := by
  decide +kernel

/-- What `Obligations.LinkWidthAndOptics` asks of `oeCooled`, `laserMeasure`, `oeOvertemp` can be met. -/
theorem test_meets_link_width_and_optics_8 :
    ((getOe (oe 7 oe3 on) 7).st ≠ 0 ∧ (180 ≤ 189 ∨ (getOe (oe 7 oe3 on) 7).st ≠ 4)) ∧
    ((getOe (oe 7 oe3 on) 7).st ≠ 0 ∧ (decide (1599 < 1400) = false ∨ (getOe (oe 7 oe3 on) 7).a.off = true) ∧
      (decide (1600 < 1400) = false ∨ (getOe (oe 7 oe3 on) 7).b.off = true)) ∧
    ((getOe (oe 7 oe3 on) 7).st ≠ 0 ∧ 190 ≤ 190 ∧ (getOe (oe 7 oe3 on) 7).st ≠ 4 ∧ hasRoom (oe 7 oe3 on) 2) ∧
    ((getOe (oe 7 oe3 on) 7).st ≠ 0 ∧ (180 ≤ 190 ∨ (getOe (oe 7 oe3 on) 7).st ≠ 4)) ∧
    ((getOe (oe 7 oe3 (lk 23 up0 on)) 7).st ≠ 0 ∧ 190 ≤ 190 ∧ (getOe (oe 7 oe3 (lk 23 up0 on)) 7).st ≠ 4 ∧ hasRoom (oe 7 oe3 (lk 23 up0 on)) 2) := by
  unfold hasRoom
  decide +kernel

/-- What `Obligations.LinkWidthAndOptics` asks of `oeCooled`, `oeOvertemp`, `laserMeasure`, `laserRecover` can be met. -/
theorem test_meets_link_width_and_optics_9 :
    ((getOe (oe 7 oe3 (lk 23 up0 on)) 7).st ≠ 0 ∧ (180 ≤ 190 ∨ (getOe (oe 7 oe3 (lk 23 up0 on)) 7).st ≠ 4)) ∧
    ((getOe S08_14 7).st ≠ 0 ∧ (179 < 190 ∨ (getOe S08_14 7).st = 4)) ∧
    ((getOe S08_14 7).st ≠ 0 ∧ 179 < 180 ∧ (getOe S08_14 7).st = 4) ∧
    ((getOe (oe 7 OptEngine.reset on) 7).st = 0) ∧
    ((if false = true then (getOe S08_15 7).b else (getOe S08_15 7).a).power = some 1700 ∧
      (if false = true then (getOe S08_15 7).b else (getOe S08_15 7).a).off = true ∧ 1700 ≤ 1700) := by
  decide +kernel

/-- What `Obligations.LinkWidthAndOptics` asks of `laserRecover` can be met. -/
theorem test_meets_link_width_and_optics_10 :
    (((if true = true then (getOe S08_15 7).b else (getOe S08_15 7).a).off = false ∨   (match (if true = true then (getOe S08_15 7).b else (getOe S08_15 7).a).power with     | some w => decide (w < 1700)     | none => true) =     true)) ∧
    (((if true = true then (getOe S08_16 7).b else (getOe S08_16 7).a).off = false ∨   (match (if true = true then (getOe S08_16 7).b else (getOe S08_16 7).a).power with     | some w => decide (w < 1700)     | none => true) =     true)) ∧
    (((if false = true then (getOe S08_17 7).b else (getOe S08_17 7).a).off = false ∨   (match (if false = true then (getOe S08_17 7).b else (getOe S08_17 7).a).power with     | some w => decide (w < 1700)     | none => true) =     true)) := by
  decide +kernel

/-- What `Obligations.FlitsAndCredits` asks of `flitRx`, `keepaliveSend`, `linkSilence`, `creditSend` can be met. -/
theorem test_meets_flits_and_credits_1 :
    ((getLink S08_18 23).st = LState.up ∧ 4095 = (getLink S08_18 23).rxSeq ∧ (getLink S08_18 23).mapNext = none) ∧
    (linkUpNow S08_18 23 = true ∧ (getLink S08_18 23).reform = false) ∧
    (linkUpNow S08_18 23 = true ∧ (getLink S08_18 23).txq = []) ∧
    ((getLink S08_19 23).st = LState.up ∧ 0 = (getLink S08_19 23).rxSeq ∧ (getLink S08_19 23).mapNext = none) ∧
    ((getLink S08_19 23).st = LState.up ∧ (getLink S08_19 23).reform = false ∧ (getLink S08_19 23).freed ≠ (getLink S08_19 23).reported) := by
  decide +kernel

/-- What `Obligations.FlitsAndCredits` asks of `keepaliveSend`, `linkSilence`, `flitRx` can be met. -/
theorem test_meets_flits_and_credits_2 :
    (linkUpNow S08_19 23 = true ∧ (getLink S08_19 23).reform = false) ∧
    (linkUpNow S08_19 23 = true ∧ (getLink S08_19 23).txq = []) ∧
    ((getLink (lk 23 up0 on) 23).st = LState.up ∧ (getLink (lk 23 up0 on) 23).nakSent = false ∧ (false = false ∨ 0 = 2 ∨ 0 = 0 ∧ false = false ∧
      1 ≠ (getLink (lk 23 up0 on) 23).rxSeq)) ∧
    (linkUpNow (lk 23 up0 on) 23 = true ∧ (getLink (lk 23 up0 on) 23).reform = false) ∧
    (linkUpNow (lk 23 up0 on) 23 = true ∧ (getLink (lk 23 up0 on) 23).txq = []) := by
  decide +kernel

/-- What `Obligations.FlitsAndCredits` asks of `flitRx`, `nakRx`, `ackTimeout` can be met. -/
theorem test_meets_flits_and_credits_3 :
    ((getLink (lk 23 up0 on) 23).st = LState.up ∧ (getLink (lk 23 up0 on) 23).nakSent = false ∧ (false = false ∨ 2 = 2 ∨ 2 = 0 ∧ false = false ∧
      1 ≠ (getLink (lk 23 up0 on) 23).rxSeq)) ∧
    ((getLink S08_2 23).st = LState.up ∧ (getLink S08_2 23).nakSent = false ∧ (false = false ∨ 0 = 2 ∨ 0 = 0 ∧ false = false ∧
      1 ≠ (getLink S08_2 23).rxSeq)) ∧
    ((getLink S08_23 23).st = LState.up ∧ (getLink S08_23 23).txq = [] ∧ (getLink S08_23 23).unacked = [tx 5 0] ++ [tx 6 1, tx 7 0] ∧
      (∀ y ∈ [tx 5 0], y.seq ≠ 6)) ∧
    ((getLink S08_23 23).st = LState.up ∧ (getLink S08_23 23).reform = false ∧ (getLink S08_23 23).mapNext = none ∧
      (getLink S08_23 23).unacked = [tx 5 0] ++ [tx 6 1, tx 7 0] ∧ (∀ y ∈ [tx 5 0], y.seq ≠ 6)) ∧
    ((getLink S08_23 23).st = LState.up ∧ (getLink S08_23 23).reform = false ∧ (getLink S08_23 23).mapNext = none ∧ (getLink S08_23 23).unacked ≠ []) := by
  decide +kernel

/-- What `Obligations.FlitsAndCredits` asks of `ackTimeout`, `nakRx`, `creditRx`, `creditSend`, `keepaliveSend` can be met. -/
theorem test_meets_flits_and_credits_4 :
    ((getLink S08_2 23).st = LState.up ∧ ((getLink S08_2 23).reform = true ∨ (getLink S08_2 23).mapNext.isSome = true)) ∧
    ((getLink S08_24 23).st = LState.up ∧ ((getLink S08_24 23).reform = true ∨ (getLink S08_24 23).mapNext.isSome = true)) ∧
    ((getLink S08_25 23).st = LState.up ∧ (getLink S08_25 23).txq = [] ∧
      (∀ v < 4, (getLink S08_25 23).credits.getD v 0 + ([22, 0, 0, 0].getD v 0 + 65536 - (getLink S08_25 23).lastCount.getD v 0) % 65536 ≤ (getLink S08_25 23).cfg.getD v 0)) ∧
    ((getLink S08_25 23).st = LState.up ∧ (getLink S08_25 23).txq = [] ∧
      (∃ v < 4, (getLink S08_25 23).cfg.getD v 0 < (getLink S08_25 23).credits.getD v 0 + ([23, 0, 0, 0].getD v 0 + 65536 - (getLink S08_25 23).lastCount.getD v 0) % 65536) ∧
      hasRoom S08_25 2) ∧
    ((getLink S08_2 23).reform = true) := by
  unfold hasRoom
  and_intros
  all_goals decide +kernel

/-- What `Obligations.FramesForwarded` asks of `frameRx` can be met. -/
theorem test_meets_frames_forwarded_1 :
    ((getLink (G0 (frm 0 3 3 (FrameBody.mgmt [])) 0) 23).rxq = [(0, frm 0 3 3 (FrameBody.mgmt []))] ∧ (FrameBody.mgmt []).proto ≠ 0 ∧
      (FrameBody.mgmt []).vc = 0 ∧ frameForUs (G0 (frm 0 3 3 (FrameBody.mgmt [])) 0) (frm 0 3 3 (FrameBody.mgmt [])) = true ∧ 3 ≠ 4 ∧
      reservedKind (FrameBody.mgmt []) = false ∧ 3 ≠ 1) ∧
    ((getLink (G0 (frm 1 3 3 (FrameBody.mgmt [])) 0) 23).rxq = [(0, frm 1 3 3 (FrameBody.mgmt []))] ∧ (FrameBody.mgmt []).proto ≠ 0 ∧
      (FrameBody.mgmt []).vc = 0 ∧ frameForUs (G0 (frm 1 3 3 (FrameBody.mgmt [])) 0) (frm 1 3 3 (FrameBody.mgmt [])) = false ∧
      (grouped on).mend.table ≠ none ∧ 3 ≠ 0) ∧
    ((getLink (G0 (frm 1 0 3 (FrameBody.mgmt [])) 0) 23).rxq = [(0, frm 1 0 3 (FrameBody.mgmt []))] ∧ 23 < 24 ∧ (FrameBody.mgmt []).proto ≠ 0 ∧
      (FrameBody.mgmt []).vc = 0 ∧ frameForUs (G0 (frm 1 0 3 (FrameBody.mgmt [])) 0) (frm 1 0 3 (FrameBody.mgmt [])) = false ∧
      (grouped on).mend.table ≠ none) ∧
    ((getLink (G0 (frm 1 0 3 (FrameBody.mgmt [])) 3) 23).rxq = [(3, frm 1 0 3 (FrameBody.mgmt []))] ∧ 23 < 24 ∧
      ((FrameBody.mgmt []).proto = 0 ∨ (FrameBody.mgmt []).vc ≠ 3)) ∧
    ((getLink (G0 (frm 0 3 1 (FrameBody.mangle mfr)) 1) 23).rxq = [(1, frm 0 3 1 (FrameBody.mangle mfr))] ∧ (FrameBody.mangle mfr).proto ≠ 0 ∧
      (FrameBody.mangle mfr).vc = 1 ∧ frameForUs (G0 (frm 0 3 1 (FrameBody.mangle mfr)) 1) (frm 0 3 1 (FrameBody.mangle mfr)) = true ∧ 1 ≠ 4 ∧
      reservedKind (FrameBody.mangle mfr) = false) := by
  decide +kernel

/-- What `Obligations.FramesForwarded` asks of `frameRx` can be met. -/
theorem test_meets_frames_forwarded_2 :
    ((getLink (G0 (frm 0 3 2 (FrameBody.mend mhd MendBody.none)) 3) 23).rxq = [(3, frm 0 3 2 (FrameBody.mend mhd MendBody.none))] ∧
      (FrameBody.mend mhd MendBody.none).proto ≠ 0 ∧ (FrameBody.mend mhd MendBody.none).vc = 3 ∧
      frameForUs (G0 (frm 0 3 2 (FrameBody.mend mhd MendBody.none)) 3) (frm 0 3 2 (FrameBody.mend mhd MendBody.none)) = true ∧ 2 ≠ 4 ∧
      reservedKind (FrameBody.mend mhd MendBody.none) = true) := by
  decide +kernel

/-- What `Obligations.LinkTraining` asks of `opticalReady`, `trainingTimeout`, `seamEnable`, `laneLock`, `equalisation` can be met. -/
theorem test_meets_link_training_1 :
    ((getLink (T TStage.optical) 23).st = LState.training ∧ (getLink (T TStage.optical) 23).stage = TStage.optical ∧
      ((getOe (T TStage.optical) (23 / 3)).st = 2 ∨ (getOe (T TStage.optical) (23 / 3)).st = 3)) ∧
    ((getLink (T TStage.optical) 23).st ≠ LState.off ∧ (getLink (T TStage.optical) 23).txq = []) ∧
    ((getLink (T TStage.lock) 23).st = LState.training ∧ (getLink (T TStage.lock) 23).stage = TStage.lock ∧
      2 ≤ laneCount (24 % 32 &&& 31 - darkLanes (T TStage.lock) 23)) ∧
    ((getLink (T TStage.lock) 23).st = LState.training ∧ (getLink (T TStage.lock) 23).stage = TStage.lock ∧
      laneCount (16 % 32 &&& 31 - darkLanes (T TStage.lock) 23) < 2) ∧
    ((getLink (T TStage.equalise) 23).st = LState.training ∧ (getLink (T TStage.equalise) 23).stage = TStage.equalise) := by
  decide +kernel

/-- What `Obligations.LinkTraining` asks of `fecLock`, `trainingTimeout`, `seamEnable`, `linkUp`, `linkIdResend`, `linkIdRx`, `seamRetrain` can
be met. -/
theorem test_meets_link_training_2 :
    ((getLink (T TStage.fec) 23).st = LState.training ∧ (getLink (T TStage.fec) 23).stage = TStage.fec) ∧
    ((getLink (T TStage.fec) 23).st ≠ LState.off ∧ (getLink (T TStage.fec) 23).txq = []) ∧
    ((getLink S08_26 23).st = LState.training ∧ (getLink S08_26 23).stage = TStage.identity ∧ (getLink S08_26 23).gotId = true ∧
      (getLink S08_26 23).gotCredit = true ∧ (getLink S08_26 23).credits = (getLink S08_26 23).cfg ∧ laneCount (getLink S08_26 23).active = 4 ∧
      csrBit S08_26 (O.seamCtrl 23) 2 = false ∧ on.power.level < 3) ∧
    ((getLink S08_26 23).st ≠ LState.off ∧ (getLink S08_26 23).txq = []) ∧
    ((getLink (regs [(O.seamCtrl 23, 1#32)] (lk 23 Link.reset on)) 23).st = LState.off ∧
      csrBit (regs [(O.seamCtrl 23, 1#32)] (lk 23 Link.reset on)) (O.seamCtrl 23) 0 = true) := by
  decide +kernel

/-- What `Obligations.LinkTraining` asks of `seamRetrain`, `seamEnable` can be met. -/
theorem test_meets_link_training_3 :
    ((getLink (regs [(O.seamCtrl 23, 1#32)] (lk 23 up0 on)) 23).st ≠ LState.off ∧
      (getLink (regs [(O.seamCtrl 23, 1#32)] (lk 23 up0 on)) 23).txq = [] ∧
      csrBit (regs [(O.seamCtrl 23, 1#32)] (lk 23 up0 on)) (O.seamCtrl 23) 0 = true) := by
  decide +kernel

end Seam

/-! ### Ethernet and RoCE -/

namespace Ethernet

abbrev regs (l : List (Nat × BitVec 32)) (s : State) : State := { s with csr := l.foldl (fun t e => tset t e.1 e.2) s.csr }
abbrev pt (p : Nat) (x : Port) (s : State) : State := { s with ports := [(p, x)] }
abbrev upP : Port := { Port.reset with up := true }
abbrev P0 : State := regs [(O.ethMode, 0xA#32), (O.ethCtrl, 7#32)] on
abbrev S09_1 := pt 7 { upP with fill := [(1, 2)] } P0
abbrev P1 : State := regs [(O.ethpIpv4Addr 7, 0xC0A80001#32)] (pt 7 upP P0)
abbrev P2 : State := pt 7 { upP with lease := some ⟨5, 6, 7⟩ } P0
abbrev fr (len fill : Nat) (ok : Bool) (v : List Nat) : EthFrame := ⟨len, ok, v, 0, none, false, false, false, 0, false, false, fill⟩
abbrev P3 : State := regs [(O.ethpPcpMap 7, 0x77777777#32), (O.ethpPfc 7, 0xFE#32)] (pt 7 upP P0)
abbrev P4 : State := regs [(O.ethpPcpMap 7, 0x77777777#32), (O.ethpPfc 7, 0xFE#32)] (pt 7 { upP with xoff := [7, 3], held := [7] } P0)
abbrev qp0 : QP := { QP.fresh with connected := true, port := 7, mtu := 1024 }
abbrev P5 : State := { pt 7 upP P0 with wcp := { WcpSt.reset with qps := [(4, qp0)], windows := [(0, ⟨0, some ⟨0x800000000, 4096, true, true, false⟩⟩)] } }
abbrev pk (place rkey addr len : Nat) (d : List Byte) : RocePkt := ⟨7, 0, true, true, 4, 0, place, rkey, addr, len, d, false⟩
abbrev S09_2 := { pk 3 0 0x800000FFE 2 [1#8, 2#8] with psn := 5 }
abbrev S09_3 := { pk 3 0 0x800000FFE 2 [1#8, 2#8] with psn := 0xFFFFFF }
abbrev S09_4 := { P5 with dev := .fenced, err := { P5.err with hard := true } }
abbrev slow (s : State) : State := { s with power := { s.power with doms := tset s.power.doms 36 { Dom.onDom with st := .retention } } }
abbrev P6 : State := slow { P5 with wcp := { WcpSt.reset with qps := [(4, qp0)], windows := [(0, ⟨0, some ⟨0x1000000000, 4096, true, true, false⟩⟩)] } }

/-- What `Obligations.PortsAndAddresses` asks of `portLinkUp`, `portLinkDown`, `arpNdRx`, `routerAdvertRx`, `icmpEchoRx`, `dhcpRenew` can be
met. -/
theorem test_meets_ports_and_addresses_1 :
    (portPresent P0 7 = true ∧ portRuns P0 7 = true ∧ on.dev ≠ DevState.boot ∧ (getPort P0 7).up = false) ∧
    ((getPort S09_1 7).up = true) ∧
    (portUpNow P1 7 = true ∧ ownAddress P1 7 3232235521 = true) ∧
    (portUpNow P1 7 = true ∧ csrBit P1 O.ethCtrl 0 = true ∧ [1#8, 2#8].length = 2 ∧ 2 ≤ 1472) ∧
    (portUpNow P2 7 = true ∧ (getPort P2 7).lease.isSome = true) := by
  decide +kernel

/-- What `Obligations.PortsAndAddresses` asks of `dhcpLeaseExpire` can be met. -/
theorem test_meets_ports_and_addresses_2 :
    ((getPort P2 7).lease.isSome = true ∧ 7 < 8) := by
  decide +kernel

/-- What `Obligations.FramesReceived` asks of `ethFrameRx`, `pfcFrameRx` can be met. -/
theorem test_meets_frames_received_1 :
    (portUpNow (pt 7 upP P0) 7 = true ∧ (9216 < 9217 ∨ true = false)) ∧
    (portUpNow (pt 7 upP P0) 7 = true ∧ (9216 < 64 ∨ false = false)) ∧
    (portUpNow (pt 7 upP P0) 7 = true ∧ 64 ≤ 9216 ∧ acceptsTags (pt 7 upP P0) 7 [5] = false) ∧
    (portUpNow P3 7 = true ∧ 64 ≤ 9216 ∧ acceptsTags P3 7 [] = true ∧
      misqueued P3 (queueOf P3 7 (framePcp P3 7 (fr 64 131008 true []))) (fr 64 131008 true []) = false ∧
      droppedByIp P3 7 (fr 64 131008 true []) = false ∧ pfcOn P3 7 (queueOf P3 7 (framePcp P3 7 (fr 64 131008 true []))) = true ∧
      131072 ≤ 131008 + 64 ∧ 131008 + 64 ≤ 196608) ∧
    (portUpNow P3 7 = true ∧ 64 ≤ 9216 ∧ acceptsTags P3 7 [] = true ∧
      misqueued P3 (queueOf P3 7 (framePcp P3 7 (fr 64 196544 true []))) (fr 64 196544 true []) = false ∧
      droppedByIp P3 7 (fr 64 196544 true []) = false ∧ pfcOn P3 7 (queueOf P3 7 (framePcp P3 7 (fr 64 196544 true []))) = true ∧
      131072 ≤ 196544 + 64 ∧ 196544 + 64 ≤ 196608) := by
  decide +kernel

/-- What `Obligations.FramesReceived` asks of `ethFrameRx`, `pfcRefresh`, `pfcFrameRx`, `pfcQuantaExpire` can be met. -/
theorem test_meets_frames_received_2 :
    (portUpNow P3 7 = true ∧ 64 ≤ 9216 ∧ acceptsTags P3 7 [] = true ∧
      misqueued P3 (queueOf P3 7 (framePcp P3 7 (fr 64 196545 true []))) (fr 64 196545 true []) = false ∧
      droppedByIp P3 7 (fr 64 196545 true []) = false ∧ pfcOn P3 7 (queueOf P3 7 (framePcp P3 7 (fr 64 196545 true []))) = true ∧
      196608 < 196545 + 64 ∧ (getPort P3 7).xoff.contains (queueOf P3 7 (framePcp P3 7 (fr 64 196545 true []))) = false) ∧
    (portUpNow P4 7 = true ∧ 7 < 8 ∧ pfcOn P4 7 7 = true ∧ (getPort P4 7).xoff.contains 7 = true ∧ 131072 ≤ 131072) ∧
    (portUpNow P4 7 = true ∧ 7 < 8 ∧ pfcOn P4 7 7 = true ∧ (getPort P4 7).xoff.contains 7 = true ∧ (getPort P4 7).xoff.Nodup ∧ on.power.level = 0 ∧
      131071 < 131072) ∧
    (portUpNow P4 7 = true ∧ 0 < 8 ∧ pfcOn P4 7 0 = false) ∧
    (portUpNow P4 7 = true ∧ (getPort P4 7).held.contains 7 = true) := by
  decide +kernel

/-- What `Obligations.RdmaMovesData` asks of `roceWriteRx`, `roceReadRx` can be met. -/
theorem test_meets_rdma_moves_data_1 :
    (portUpNow P5 7 = true ∧ csrBit P5 O.ethCtrl 1 = true ∧ (on.err.hard = false ∨ on.dev ≠ DevState.fenced) ∧ tget? [(4, qp0)] 4 = some qp0 ∧
      QP.fresh.error = false ∧ QP.fresh.msn < 2 ^ 24 ∧
      (psnAhead (pk 3 0 34359742462 2 [1#8, 2#8]) qp0 = 0 ∨ qp0.holds (pk 3 0 34359742462 2 [1#8, 2#8]) = true) ∧ QP.fresh.msg = none ∧
      [1#8, 2#8].length = 2 ∧ roceMay P5 0 (qp0.holds (pk 3 0 34359742462 2 [1#8, 2#8])) true 34359742462 2 = true ∧
      mayGo P5 (pairReq (pk 3 0 34359742462 2 [1#8, 2#8])) 34359742462 2 = true ∧ upsetsIn P5 34359742462 2 = []) ∧
    (portUpNow P5 7 = true ∧ csrBit P5 O.ethCtrl 1 = true ∧ (on.err.hard = false ∨ on.dev ≠ DevState.fenced) ∧ tget? [(4, qp0)] 4 = some qp0 ∧
      QP.fresh.error = false ∧ QP.fresh.msn < 2 ^ 24 ∧
      (psnAhead (pk 3 0 34359742462 2 [1#8, 2#8]) qp0 = 0 ∨ qp0.holds (pk 3 0 34359742462 2 [1#8, 2#8]) = true) ∧
      (qp0.holds (pk 3 0 34359742462 2 [1#8, 2#8]) = true ∨ max 15 qp0.reads.length < 16) ∧ 0 < 2 ∧ 2 ≤ 1024 ∧
      roceMay P5 0 (qp0.holds (pk 3 0 34359742462 2 [1#8, 2#8])) false 34359742462 2 = true ∧
      mayGo P5 (pairReq (pk 3 0 34359742462 2 [1#8, 2#8])) 34359742462 2 = true ∧ (qp0.reads.all fun t => decide (t.psn = 0)) = true ∧
      upsetsIn P5 34359742462 2 = [] ∧ badIn P5 34359742462 2 = []) := by
  decide +kernel

/-- What `Obligations.RdmaMovesData` asks of `roceWriteRx`, `roceReadRx` can be met. -/
theorem test_meets_rdma_moves_data_2 :
    (portUpNow P5 7 = true ∧ csrBit P5 O.ethCtrl 1 = true ∧ (on.err.hard = false ∨ on.dev ≠ DevState.fenced) ∧ tget? [(4, qp0)] 4 = some qp0 ∧
      QP.fresh.error = false ∧ QP.fresh.msn < 2 ^ 24 ∧
      (psnAhead (pk 0 0 34359742460 4 [1#8, 2#8]) qp0 = 0 ∨ qp0.holds (pk 0 0 34359742460 4 [1#8, 2#8]) = true) ∧ QP.fresh.msg = none ∧
      [1#8, 2#8].length < 4 ∧ roceMay P5 0 (qp0.holds (pk 0 0 34359742460 4 [1#8, 2#8])) true 34359742460 [1#8, 2#8].length = true ∧
      mayGo P5 (pairReq (pk 0 0 34359742460 4 [1#8, 2#8])) 34359742460 [1#8, 2#8].length = true ∧ upsetsIn P5 34359742460 [1#8, 2#8].length = []) ∧
    (portUpNow P5 7 = true ∧ csrBit P5 O.ethCtrl 1 = true ∧ (on.err.hard = false ∨ on.dev ≠ DevState.fenced) ∧ tget? [(4, qp0)] 4 = some qp0 ∧
      QP.fresh.error = false ∧ QP.fresh.msn < 2 ^ 24 ∧
      (psnAhead (pk 0 0 34359742460 4 [1#8, 2#8]) qp0 = 0 ∨ qp0.holds (pk 0 0 34359742460 4 [1#8, 2#8]) = true) ∧
      (qp0.holds (pk 0 0 34359742460 4 [1#8, 2#8]) = true ∨ max 15 qp0.reads.length < 16) ∧ 0 < 4 ∧ 4 ≤ 1024 ∧
      roceMay P5 0 (qp0.holds (pk 0 0 34359742460 4 [1#8, 2#8])) false 34359742460 4 = true ∧
      mayGo P5 (pairReq (pk 0 0 34359742460 4 [1#8, 2#8])) 34359742460 4 = true ∧ (qp0.reads.all fun t => decide (t.psn = 0)) = true ∧
      upsetsIn P5 34359742460 4 = [] ∧ badIn P5 34359742460 4 = []) := by
  decide +kernel

/-- What `Obligations.RdmaMovesData` asks of `roceWriteRx` can be met. -/
theorem test_meets_rdma_moves_data_3 :
    (portUpNow P5 7 = true ∧ csrBit P5 O.ethCtrl 1 = true ∧ (on.err.hard = false ∨ on.dev ≠ DevState.fenced) ∧ tget? [(4, qp0)] 4 = some qp0 ∧
      QP.fresh.error = false ∧ QP.fresh.msn < 2 ^ 24 ∧
      (psnAhead (pk 3 0 34359742463 2 [1#8, 2#8]) qp0 = 0 ∨ qp0.holds (pk 3 0 34359742463 2 [1#8, 2#8]) = true) ∧ QP.fresh.msg = none ∧
      [1#8, 2#8].length = 2 ∧ roceMay P5 0 (qp0.holds (pk 3 0 34359742463 2 [1#8, 2#8])) true 34359742463 2 = false ∧ hasRoom P5 2) ∧
    (portUpNow P5 7 = true ∧ csrBit P5 O.ethCtrl 1 = true ∧ (on.err.hard = false ∨ on.dev ≠ DevState.fenced) ∧ tget? [(4, qp0)] 4 = some qp0 ∧
      QP.fresh.error = false ∧ QP.fresh.msn < 2 ^ 24 ∧
      (psnAhead (pk 3 1 34359742448 2 [1#8, 2#8]) qp0 = 0 ∨ qp0.holds (pk 3 1 34359742448 2 [1#8, 2#8]) = true) ∧ QP.fresh.msg = none ∧
      [1#8, 2#8].length = 2 ∧ roceMay P5 1 (qp0.holds (pk 3 1 34359742448 2 [1#8, 2#8])) true 34359742448 2 = false ∧ hasRoom P5 2) ∧
    (portUpNow P5 7 = true ∧ csrBit P5 O.ethCtrl 1 = true ∧ (on.err.hard = false ∨ on.dev ≠ DevState.fenced) ∧ tget? [(4, qp0)] 4 = some qp0 ∧
      QP.fresh.error = false ∧ QP.fresh.msn < 2 ^ 24 ∧ qp0.holds S09_2 = false ∧ psnAhead S09_2 qp0 ≠ 0 ∧ psnAhead S09_2 qp0 < 2 ^ 23 ∧
      QP.fresh.nakSent = false) := by
  unfold hasRoom
  decide +kernel

/-- What `Obligations.RdmaMovesData` asks of `roceWriteRx`, `roceReadRx` can be met. -/
theorem test_meets_rdma_moves_data_4 :
    (portUpNow P5 7 = true ∧ csrBit P5 O.ethCtrl 1 = true ∧ (on.err.hard = false ∨ on.dev ≠ DevState.fenced) ∧ tget? [(4, qp0)] 4 = some qp0 ∧
      QP.fresh.error = false ∧ QP.fresh.msn < 2 ^ 24 ∧ qp0.holds S09_3 = false ∧ psnAhead S09_3 qp0 ≠ 0 ∧ 2 ^ 23 ≤ psnAhead S09_3 qp0) ∧
    (portUpNow S09_4 7 = true ∧ csrBit S09_4 O.ethCtrl 1 = true) ∧
    (portUpNow P6 7 = true ∧ csrBit P6 O.ethCtrl 1 = true ∧ (on.err.hard = false ∨ on.dev ≠ DevState.fenced) ∧ tget? [(4, qp0)] 4 = some qp0 ∧
      QP.fresh.error = false ∧ QP.fresh.msn < 2 ^ 24 ∧
      (psnAhead (pk 3 0 68719476736 2 [1#8, 2#8]) qp0 = 0 ∨ qp0.holds (pk 3 0 68719476736 2 [1#8, 2#8]) = true) ∧ QP.fresh.msg = none ∧
      [1#8, 2#8].length = 2 ∧ roceMay P6 0 (qp0.holds (pk 3 0 68719476736 2 [1#8, 2#8])) true 68719476736 2 = true ∧
      (¬mayGo P6 (pairReq (pk 3 0 68719476736 2 [1#8, 2#8])) 68719476736 2 = true)) ∧
    (portUpNow P6 7 = true ∧ csrBit P6 O.ethCtrl 1 = true ∧ (on.err.hard = false ∨ on.dev ≠ DevState.fenced) ∧ tget? [(4, qp0)] 4 = some qp0 ∧
      QP.fresh.error = false ∧ QP.fresh.msn < 2 ^ 24 ∧
      (psnAhead (pk 3 0 68719476736 2 [1#8, 2#8]) qp0 = 0 ∨ qp0.holds (pk 3 0 68719476736 2 [1#8, 2#8]) = true) ∧
      (qp0.holds (pk 3 0 68719476736 2 [1#8, 2#8]) = true ∨ max 15 qp0.reads.length < 16) ∧ 0 < 2 ∧ 2 ≤ 1024 ∧
      roceMay P6 0 (qp0.holds (pk 3 0 68719476736 2 [1#8, 2#8])) false 68719476736 2 = true ∧
      (¬mayGo P6 (pairReq (pk 3 0 68719476736 2 [1#8, 2#8])) 68719476736 2 = true)) := by
  decide +kernel

/-- A frame of port 7 at PCP 0. -/
abbrev ef (v : BitVec 32) : EthOut := ⟨7, 0, 0, 0, 0, 0, [], .jtag v⟩

/-- Port 7 with a frame in some of its egress queues, the rings having served queues `a` and `b` last. -/
abbrev eg (qs : List Nat) (a b : Nat) : State :=
  { pt 7 upP P0 with egress := qs.map (fun q => (56 + q, [ef 0#32, ef 1#32])), egressTurn := [(14, a), (15, b)] }

/-- What the second part of `Obligations.FramesReceived` asks of the queues of a port, clause by clause (R465). -/
theorem test_meets_frames_received_egress :
    let r (l : List Nat) (a b q : Nat) : Bool := egressReady (eg l a b) 7 q
    r [0, 1] 3 7 0 = true ∧ (r [1, 2] 3 7 0 = false ∧ r [1, 2] 3 7 1 = true) ∧
      (r [2, 3] 2 7 0 = false ∧ r [2, 3] 2 7 1 = false ∧ r [2, 3] 2 7 2 = true ∧ r [2, 3] 2 7 3 = true) ∧
      (r [2, 7] 3 7 2 = true ∧ r [2, 7] 3 7 3 = false) ∧ (r [3, 7] 3 7 2 = false ∧ r [3, 7] 3 7 3 = true) ∧
      (∀ q < 8, r [] 3 7 q = false) ∧
      ((∀ q < 4, r [4, 6] 3 5 q = false) ∧ r [4, 6] 3 5 6 = true ∧ tget (eg [4, 6] 3 5).egressTurn 15 7 = 5) ∧
      ((∀ q < 4, r [5] 3 5 q = false) ∧ r [5] 3 5 5 = true ∧ ∀ k < 4, 1 ≤ k → r [5] 3 5 (4 + (5 + k) % 4) = false) ∧
      (portUpNow (eg [4, 6] 3 5) 7 = true ∧ nextEgress (eg [4, 6] 3 5) 7 = some 6 ∧
        getEgress (eg [4, 6] 3 5) 7 6 = [ef 0#32, ef 1#32]) ∧
      (nextEgress (eg [0, 4] 3 7) 7 = some 0 ∧ nextEgress (eg [2, 3] 2 7) 7 = some 3 ∧ nextEgress (eg [2, 3] 3 7) 7 = some 2) := by
  decide +kernel

end Ethernet

/-! ### WCP: transport, sessions and jobs -/

namespace Wcp

abbrev regs (l : List (Nat × BitVec 32)) (s : State) : State := { s with csr := l.foldl (fun t e => tset t e.1 e.2) s.csr }
abbrev upP : Port := { Port.reset with up := true }
abbrev bd : Bind := ⟨7, 5, 6⟩
abbrev P0 : State := { regs [(O.ethMode, 0xA#32), (O.ethCtrl, 7#32)] on with ports := [(7, upP)] }
abbrev se : Session := ⟨1, 0, bd, 9#256, [1#8], [2#8], false, false, 5, [5], [⟨5, 7, 0, 0, [1#8]⟩], 3, [⟨2, 1, []⟩, ⟨3, 1, []⟩], 0, [⟨4, 7, 3000, 3,
  [(0, 5)]⟩]⟩
abbrev W (f : WcpSt → WcpSt) (s : State) : State := { s with wcp := f { s.wcp with sessions := [se] } }
abbrev W0 : State := W (fun x => x) P0
abbrev dg (op sess seq ver : Nat) : Datagram := ⟨0x5743, ver, 0, op, 0, sess, seq, 0, 0, 1, 0, 0, [], 0#128, ⟨7, 8, 8⟩⟩
abbrev tagged (s : State) (d : Datagram) : Datagram := { d with tag := wcpTag (receiveKey s d.session) (datagramHeader d ++ d.payload) }
abbrev S10_1 := W (fun w => { w with sessions := [{ se with cache := List.replicate 64 ⟨5, 7, 0, 0, [1#8]⟩ }] }) P0
abbrev WF : State := W (fun w => { w with queue := List.replicate 32 ⟨0, 0, 1, bd⟩ }) P0
abbrev rq (s op : Nat) : Request := ⟨s, 6, op, bd⟩
abbrev qq (s : Nat) : WcpReq := ⟨s, 6, bd, true⟩
abbrev Q (s op : Nat) (t : State) : State := { t with wcp := { t.wcp with queue := [rq s op] } }
abbrev oa : OpenArgs := ⟨4#256, 5#256, 9#256, false, [], [], true⟩
abbrev W3 : State := W (fun w => { w with nonces := [⟨4#256, 0⟩, ⟨5#256, 0⟩] }) { P0 with cycle := 1000000000 }
abbrev S10_2 := Q 0 3 { W3 with cycle := 1000000001 }
abbrev S10_3 := { W0 with dev := .quiesced }
abbrev group2 : GroupT := { group0 with members := [⟨1, .live, true, 0⟩, ⟨0, .live, true, 0⟩, ⟨0, .gone, false, 0⟩] }
abbrev grp2 (s : State) : State := { s with mend := { MendSt.reset with table := some group2 } }
abbrev S10_4 := { grp2 W0 with dev := .idle }

/-- What `Obligations.DatagramsTaken` asks of `wcpDatagramRx`, `fragTimeout`, `sessionIdleTimeout`, `notifyResend` can be met. -/
theorem test_meets_datagrams_taken_1 :
    (portUpNow W0 7 = true ∧ badDatagram W0 (dg 7 1 6 0) = true) ∧
    (findSession W0 1 = some se ∧ 1 ≠ 0 ∧
      ([({ seq := 4, opcode := 7, msgLen := 3000, count := 3, parts := [(0, 5)] } : Reasm)].any fun m => decide (m.seq = 4)) = true) := by
  decide +kernel

/-- What `Obligations.SessionCommands` asks of `hello`, `certs`, `wcpOpen` can be met. -/
theorem test_meets_session_commands_1 :
    (upNext (Q 0 1 W0) (qq 0) 1 false (rq 0 1)) ∧
    (upNext (Q 0 2 W0) (qq 0) 2 false (rq 0 2)) ∧
    (upNext (Q 0 3 W3) (qq 0) 3 false (rq 0 3) ∧ (qq 0).session = 0 ∧ nonceCurrent (begun (Q 0 3 W3) (qq 0) 3 (rq 0 3)) 4#256 = true ∧
      hostKeyOk (begun (Q 0 3 W3) (qq 0) 3 (rq 0 3)) 9#256 = true ∧ 7 < 8 ∧ (∀ y ∈ (begun (Q 0 3 W3) (qq 0) 3 (rq 0 3)).wcp.sessions, y.slot ≠ 7)) := by
  unfold upNext
  decide +kernel

/-- What `Obligations.SessionCommands` asks of `wcpOpen`, `wcpClose`, `identify` can be met. -/
theorem test_meets_session_commands_2 :
    (upNext S10_2 (qq 0) 3 false (rq 0 3) ∧
      (nonceCurrent (begun S10_2 (qq 0) 3 (rq 0 3)) 4#256 = false ∨ hostKeyOk (begun S10_2 (qq 0) 3 (rq 0 3)) 9#256 = false ∨ true = false)) ∧
    (upNext (Q 1 4 W0) (qq 1) 4 false (rq 1 4) ∧ 1 ≠ 0 ∧ findSession (begun (Q 1 4 W0) (qq 1) 4 (rq 1 4)) 1 = some se) ∧
    (upNext (Q 1 5 W0) (qq 1) 5 false (rq 1 5)) := by
  unfold upNext
  decide +kernel

/-- What `Obligations.SessionCommands` asks of `ping`, `notifyAck` can be met. -/
theorem test_meets_session_commands_3 :
    (upNext (Q 1 7 W0) (qq 1) 7 false (rq 1 7) ∧ [1#8].length ≤ 1024) ∧
    (upNext (Q 1 8 W0) (qq 1) 8 false (rq 1 8) ∧ findSession (begun (Q 1 8 W0) (qq 1) 8 (rq 1 8)) 1 = some se) := by
  unfold upNext
  decide +kernel

/-- What `Obligations.JobCommands` asks of `regRead`, `regWrite`, `regReadSeq` can be met. -/
theorem test_meets_job_commands_1 :
    (upNext (Q 1 1281 W0) (qq 1) 1281 false (rq 1 1281) ∧ 16 % 4 = 0) ∧
    (upNext (Q 1 1282 W0) (qq 1) 1282 false (rq 1 1282) ∧ on.dev ≠ DevState.fenced ∧ 16 % 4 = 0) ∧
    (upNext (Q 1 1283 W0) (qq 1) 1283 false (rq 1 1283) ∧ 0 < 1024 ∧ 1024 ≤ 1024 ∧ 256 % 4 = 0) := by
  unfold upNext
  decide +kernel

/-- What `Obligations.JobCommands` asks of `jobStatus`, `quiesce`, `resume` can be met. -/
theorem test_meets_job_commands_2 :
    (upNext (Q 1 769 W0) (qq 1) 769 false (rq 1 769)) ∧
    (upNext (Q 1 770 W0) (qq 1) 770 false (rq 1 770) ∧ on.dev = DevState.running ∧ runningBg (Q 1 770 W0) 770 = none) ∧
    (upNext (Q 1 771 S10_3) (qq 1) 771 false (rq 1 771) ∧ on.mend.lost = false ∧ on.act = ActStage.none) := by
  unfold upNext
  decide +kernel

/-- What `Obligations.JobCommands` asks of `groupStatus`, `markFailed` can be met. -/
theorem test_meets_job_commands_3 :
    (upNext (Q 1 1537 W0) (qq 1) 1537 false (rq 1 1537)) ∧
    (upNext (Q 1 1538 (grouped W0)) (qq 1) 1538 false (rq 1 1538) ∧ (grouped W0).dev ≠ DevState.fenced ∧ (grouped W0).mend.table = some group0 ∧
      1 < group0.ranks + group0.spares ∧ notFailed group0 1 = true ∧ group0.keeper = group0.self) ∧
    (upNext (Q 1 1538 (grp2 W0)) (qq 1) 1538 false (rq 1 1538) ∧ on.dev ≠ DevState.fenced ∧ 2 < group0.ranks + group0.spares ∧
      notFailed group2 2 = false) := by
  unfold upNext
  decide +kernel

/-- What `Obligations.JobCommands` asks of `addSpare`, `groupRelease`, `routeSet` can be met. -/
theorem test_meets_job_commands_4 :
    (upNext (Q 1 1539 (grp2 W0)) (qq 1) 1539 false (rq 1 1539) ∧ on.dev ≠ DevState.fenced ∧ 2 < group0.ranks + group0.spares ∧
      group0.keeper = group0.self ∧ (memOf group2 2).st = MState.gone) ∧
    (upNext (Q 1 1540 S10_4) (qq 1) 1540 false (rq 1 1540) ∧ on.wcp.running = []) ∧
    (upNext (Q 1 1541 W0) (qq 1) 1541 false (rq 1 1541) ∧ on.dev ≠ DevState.fenced ∧ (65047#32).toNat < 65536 ∧ 16383 < 16384 ∧
      routeField ((65047#32).toNat % 256) = true ∧ routeField ((65047#32).toNat / 256) = true) := by
  unfold upNext
  decide +kernel

/-- A datagram whose tag the device computed passes its tag check. -/
theorem tagged_holds (s : State) (d : Datagram) : tagHolds s (tagged s d) = true := decide_eq_true rfl

theorem tagged_sound (s : State) (d : Datagram) (hm : d.magic = 0x5743) (hv : d.version = 1) (hs : d.session ≠ 0)
    (hf : (findSession s d.session).isSome = true) : badDatagram s (tagged s d) = false := by
  have h : (findSession s (tagged s d).session).isNone = false := by
    show (findSession s d.session).isNone = false
    cases e : findSession s d.session with
    | none => rw [e] at hf; cases hf
    | some x => rfl
  simp only [badDatagram, tagged_holds, h]
  simp [hm, hv, hs]

/-- What `Obligations.DatagramsTaken` asks of a sound datagram, case by case: a new request of Table 7 and one outside it, a full
queue, and a repeated request. -/
theorem test_meets_datagrams_taken_sound :
    (badDatagram W0 (tagged W0 (dg 7 1 6 1)) = false ∧ badDatagram W0 (tagged W0 (dg 9 1 6 1)) = false ∧
      badDatagram WF (tagged WF (dg 7 1 6 1)) = false ∧ badDatagram W0 (tagged W0 (dg 7 1 5 1)) = false) ∧
    (portUpNow W0 7 = true ∧ datagramFits (dg 7 1 6 1) = true ∧ findSession W0 1 = some se ∧ findSession WF 1 = some se ∧
      se.accepted.contains 6 = false ∧ 6 < se.highest + 64 ∧ W0.wcp.queue.length < 32 ∧ 32 ≤ WF.wcp.queue.length ∧
      knownOpcode 7 = true ∧ knownOpcode 9 = false ∧ se.accepted.contains 5 = true ∧
      se.cache.find? (fun c => decide (c.seq = 5)) = some ⟨5, 7, 0, 0, [1#8]⟩) :=
  ⟨⟨tagged_sound _ _ rfl rfl (by decide) rfl, tagged_sound _ _ rfl rfl (by decide) rfl,
    tagged_sound _ _ rfl rfl (by decide) rfl, tagged_sound _ _ rfl rfl (by decide) rfl⟩, by decide +kernel⟩

/-- What the last part of `Obligations.ResponsesKept` asks: the session that is answered. -/
theorem test_meets_responses_kept :
    (rq 1 7).session ≠ 0 ∧ (respond W0 (rq 1 7) 0 0 [2#8]).wcp.sessions.map (·.id) = [(rq 1 7).session] := by
  decide +kernel

end Wcp

/-! ### WCP: memory, images and unlock -/

namespace Memory

abbrev regs (l : List (Nat × BitVec 32)) (s : State) : State := { s with csr := l.foldl (fun t e => tset t e.1 e.2) s.csr }
abbrev upP : Port := { Port.reset with up := true }
abbrev bd : Bind := ⟨7, 5, 6⟩
abbrev P0 : State := { regs [(O.ethMode, 0xA#32), (O.ethCtrl, 7#32)] on with ports := [(7, upP)] }
abbrev se : Session := ⟨1, 0, bd, 9#256, [1#8], [2#8], false, false, 5, [5], [⟨5, 7, 0, 0, [1#8]⟩], 3, [⟨2, 1, []⟩, ⟨3, 1, []⟩], 0, [⟨4, 7, 3000, 3,
  [(0, 5)]⟩]⟩
abbrev W (f : WcpSt → WcpSt) (s : State) : State := { s with wcp := f { s.wcp with sessions := [se] } }
abbrev W0 : State := W (fun x => x) P0
abbrev dg (op sess seq ver : Nat) : Datagram := ⟨0x5743, ver, 0, op, 0, sess, seq, 0, 0, 1, 0, 0, [], 0#128, ⟨7, 8, 8⟩⟩
abbrev tagged (s : State) (d : Datagram) : Datagram := { d with tag := wcpTag (receiveKey s d.session) (datagramHeader d ++ d.payload) }
abbrev rq (s op : Nat) : Request := ⟨s, 6, op, bd⟩
abbrev qq (s : Nat) : WcpReq := ⟨s, 6, bd, true⟩
abbrev Q (s op : Nat) (t : State) : State := { t with wcp := { t.wcp with queue := [rq s op] } }
abbrev oa : OpenArgs := ⟨4#256, 5#256, 9#256, false, [], [], true⟩
abbrev ga : QpArgs := ⟨7, 7, 63, 3, 5, 6, 7, 8⟩
abbrev rn : Running := ⟨rq 1 0x403, 0x800000040, 68, 0x0807060504030201⟩
abbrev y0 : Window := ⟨0x800000000, 4096, true, true, false⟩
abbrev y1 : Window := ⟨0x800000000, 4096, true, true, true⟩
abbrev W4 : State := W (fun w => { w with running := [rn], windows := [(5, ⟨3, some y0⟩)], qps := [(0, QP.fresh), (1, QP.fresh)] }) P0
abbrev W5 : State := W (fun w => { w with running := [⟨rq 1 0x405, 5, 0, 0⟩], windows := [(5, ⟨3, some y1⟩)] }) P0
abbrev kl : Memory := [(0, 0x31#8), (1, 0x30#8), (2, 0x4C#8), (3, 0x4B#8), (4, 2#8), (8, 1#8), (0x840, 1#8)]
abbrev im : ImgStage := ⟨0x10, 0x840 + 2048 + 3328, kl⟩
abbrev rc (a b c : Nat) : Running := ⟨rq 1 0x103, a, b, c⟩
abbrev fw (a level rb rom : Nat) : Memory := bytesAt a [(0, 0x31), (1, 0x4D), (2, 0x49), (3, 0x57), (4, 3), (6, level), (8, 1), (10, 3), (12, 161),
  (13, 1), (14, 30), (15, 90), (16, rb), (18, 1), (0x42, rom)]
abbrev fi (b : Memory) : ImgStage := ⟨3, 0x940 + 3328, b⟩
abbrev WI (x : ImgStage) (l : List Running) : State := W (fun w => { w with img := some x, running := l }) { P0 with dev := .idle }
abbrev W6 : State := WI im []
abbrev dark (d : Nat) (s : State) : State := { s with power := { s.power with doms := tset s.power.doms d { Dom.onDom with st := .retention } } }
abbrev S11_1 := { WI im [rc 0 0 0x10] with sec := { SecSt.shipped with keySeq := 2 } }
abbrev S11_2 := WI { im with len := 64 } [rc 0 0 0x10]
abbrev S11_3 := { im with len := 64 }
abbrev S11_4 := { WI (fi (fw 0 7 1 3)) [rc 0 0 3] with sec := { SecSt.shipped with counters := [(2, 2)] } }
abbrev S11_5 := { WI (fi (fw 0 7 1 2)) [rc 0 1 3] with sec := { SecSt.shipped with scopes := 1 } }
abbrev S11_6 := { WI im [rc 0x1000000000 0 3] with mem := fw 0x1000000000 7 1 3 }
abbrev S11_7 := dark 36 ({ WI im [rc 0x1000000000 0 3] with mem := fw 0x1000000000 7 1 3 })
abbrev W9 : State := { W0 with dev := .idle, cycle := 6000000005, sec := { SecSt.shipped with challenge := some (7, 4#256, 5), keys := [⟨3, 7, 9#256⟩], unlocks := 4 } }
abbrev S11_8 := { W9 with sec := { W9.sec with challenge := none } }
abbrev S11_9 := { W9 with dev := .running }
abbrev S11_10 := { W0 with mem := [(0x4FFFFFFFF, 1#8), (0x7FFFFFFFF, 1#8), (0x80FFFFFFF, 1#8)], sec := { SecSt.shipped with wiping := true } }
abbrev WR : State := { W0 with dev := .idle, power := { W0.power with doms := tset W0.power.doms 36 { Dom.onDom with st := .retention } } }

/-- What `Obligations.MemoryCommands` asks of `memRead` can be met. -/
theorem test_meets_memory_commands_1 :
    (on.power.level = 0 ∧ on.dev ≠ DevState.fenced ∧ upNext (Q 1 1025 W0) (qq 1) 1025 false (rq 1 1025) ∧ 34359803896 % 8 = 0 ∧ 16 % 8 = 0 ∧
      16 ≤ 65024 ∧ mayGo (Q 1 1025 W0) (cmdReq (qq 1)) 34359803896 16 = true ∧
      class2May (begun (Q 1 1025 W0) (qq 1) 1025 (rq 1 1025)) false 34359803896 16 = true ∧
      upsetsIn (begun (Q 1 1025 W0) (qq 1) 1025 (rq 1 1025)) 34359803896 16 = [] ∧
      badIn (begun (Q 1 1025 W0) (qq 1) 1025 (rq 1 1025)) 34359803896 16 = []) := by
  unfold upNext
  decide +kernel

/-- What `Obligations.MemoryCommands` asks of `memWrite`, `memFill` can be met. -/
theorem test_meets_memory_commands_2 :
    (on.power.level = 0 ∧ on.dev ≠ DevState.fenced ∧ upNext (Q 1 1026 W0) (qq 1) 1026 false (rq 1 1026) ∧ 34359803896 % 8 = 0 ∧
      [1#8, 2#8, 3#8, 4#8, 5#8, 6#8, 7#8, 8#8].length % 8 = 0 ∧
      mayGo (Q 1 1026 W0) (cmdReq (qq 1)) 34359803896 [1#8, 2#8, 3#8, 4#8, 5#8, 6#8, 7#8, 8#8].length = true ∧ memWf on.mem = true ∧
      class2May (begun (Q 1 1026 W0) (qq 1) 1026 (rq 1 1026)) true 34359803896 [1#8, 2#8, 3#8, 4#8, 5#8, 6#8, 7#8, 8#8].length = true) ∧
    (on.power.level = 0 ∧ on.dev ≠ DevState.fenced ∧ upNext (Q 1 1027 W0) (qq 1) 1027 false (rq 1 1027) ∧ 34359803840 % 64 = 0 ∧ 64 % 64 = 0 ∧
      mayGo (Q 1 1027 W0) (cmdReq (qq 1)) 34359803840 64 = true ∧ class2May (begun (Q 1 1027 W0) (qq 1) 1027 (rq 1 1027)) true 34359803840 64 = true) := by
  unfold upNext
  decide +kernel

/-- What `Obligations.MemoryCommands` asks of `memFillDone`, `winCloseDone`, `winOpen`, `winClose` can be met. -/
theorem test_meets_memory_commands_3 :
    (runningBg (Q 1 7 W4) 1027 = some rn ∧ on.power.level = 0 ∧ class2May (Q 1 7 W4) true 34359738432 68 = true ∧
      mayGo (Q 1 7 W4) { agent := HbmAgent.background 1027, prio := 4 } 34359738432 68 = true ∧ memWf on.mem = true) ∧
    (openWindow? (Q 1 7 W4) 5 = some ({ gen := 3, win := some y0 }, y0) ∧ (false = false ∨ windowBusy (Q 1 7 W4) 5 = true)) ∧
    (on.dev ≠ DevState.fenced ∧ upNext (Q 1 1028 W4) (qq 1) 1028 false (rq 1 1028) ∧ 34359738368 % 4096 = 0 ∧ 4096 % 4096 = 0 ∧ 0 < 4096 ∧
      4096 ≤ 2 ^ 36 ∧ 0 < 3 ∧ 3 < 4 ∧ freeWindow (begun (Q 1 1028 W4) (qq 1) 1028 (rq 1 1028)) = some 0) ∧
    (on.dev ≠ DevState.fenced ∧ upNext (Q 1 1029 W4) (qq 1) 1029 false (rq 1 1029) ∧ 5 < 256 ∧
      openWindow? (Q 1 1029 W4) 5 = some ({ gen := 3, win := some y0 }, y0)) := by
  unfold upNext
  decide +kernel

/-- What `Obligations.MemoryCommands` asks of `winCloseDone`, `qpOpen`, `qpConnect` can be met. -/
theorem test_meets_memory_commands_4 :
    (openWindow? (Q 1 1029 W4) 5 = some ({ gen := 3, win := some y0 }, y0) ∧ (false = false ∨ windowBusy (Q 1 1029 W4) 5 = true)) ∧
    (on.dev ≠ DevState.fenced ∧ upNext (Q 1 1030 W4) (qq 1) 1030 false (rq 1 1030) ∧ 2 < 64 ∧ tget? [(0, QP.fresh), (1, QP.fresh)] 2 = none ∧
      (∀ j < 2, tget? [(0, QP.fresh), (1, QP.fresh)] j ≠ none)) ∧
    ((Q 1 1031 W4).dev ≠ DevState.fenced ∧ upNext (Q 1 1031 W4) (qq 1) 1031 false (rq 1 1031) ∧
      tget? [(0, QP.fresh), (1, QP.fresh)] 1 = some QP.fresh ∧ QP.fresh.connected = false ∧ pathMtu 3 = some 1024 ∧
      portPresent (Q 1 1031 W4) 7 = true ∧ 7 < 8 ∧ 63 < 64 ∧ 1024 + roceHeaders 5 ≤ csrBits (Q 1 1031 W4) (O.ethpMtu 7) 13 0) := by
  unfold upNext
  decide +kernel

/-- What `Obligations.MemoryCommands` asks of `memFillDone`, `qpClose`, `winCloseDone`, `memRead` can be met. -/
theorem test_meets_memory_commands_5 :
    (runningBg (Q 1 1032 W4) 1027 = some rn ∧ on.power.level = 0 ∧ class2May (Q 1 1032 W4) true 34359738432 68 = true ∧
      mayGo (Q 1 1032 W4) { agent := HbmAgent.background 1027, prio := 4 } 34359738432 68 = true ∧ memWf on.mem = true) ∧
    (on.dev ≠ DevState.fenced ∧ upNext (Q 1 1032 W4) (qq 1) 1032 false (rq 1 1032) ∧ tget? [(0, QP.fresh), (1, QP.fresh)] 1 = some QP.fresh) ∧
    (openWindow? (Q 1 7 W5) 5 = some ({ gen := 3, win := some y1 }, y1) ∧ windowBusy (Q 1 7 W5) 5 = false) ∧
    (on.power.level = 0 ∧ DevState.idle ≠ DevState.fenced ∧ DevState.idle ≠ DevState.boot ∧ class2May (Q 1 1025 WR) false 68719476736 16 = true ∧
      mayGo (Q 1 1025 WR) (cmdReq (qq 1)) 68719476736 16 = false) := by
  unfold upNext
  decide +kernel

/-- What `Obligations.ImagesAndUnlock` asks of `imgBegin`, `scanWipeDone`, `imgCommitDone`, `imgData` can be met. -/
theorem test_meets_images_and_unlock_1 :
    (upNext (Q 1 257 W6) (qq 1) 257 (decide (16 = 16)) (rq 1 257) ∧ stageable 16 = true ∧ 268435456 ≤ 2 ^ 28) ∧
    (runningBg (Q 1 257 W6) 259 = none) ∧
    (on.sec.wiping = false) ∧
    (upNext (Q 1 257 W6) (qq 1) 257 (decide (5 = 16)) (rq 1 257) ∧ stageable 5 = false) ∧
    (upNext (Q 1 258 W6) (qq 1) 258 (decide (stagedType (Q 1 258 W6) = 16)) (rq 1 258) ∧ (¬((getStack (Q 1 258 W6) 7).ready = true ∧
      mayGo (Q 1 258 W6) (cmdReq (qq 1)) (imageArea + 7487) [1#8].length = false)) ∧ 7487 + [1#8].length ≤ 2112 + 2048 + 3328) := by
  unfold upNext
  decide +kernel

/-- What `Obligations.ImagesAndUnlock` asks of `imgData`, `imgCommitDone`, `imgCommit` can be met. -/
theorem test_meets_images_and_unlock_2 :
    (upNext (Q 1 258 W6) (qq 1) 258 (decide (stagedType (Q 1 258 W6) = 16)) (rq 1 258) ∧ (¬((getStack (Q 1 258 W6) 7).ready = true ∧
      mayGo (Q 1 258 W6) (cmdReq (qq 1)) (imageArea + 7488) [1#8].length = false)) ∧ 2112 + 2048 + 3328 < 7488 + [1#8].length) ∧
    (((getStack (Q 1 258 (dark 43 W6)) 7).ready = true ∧ mayGo (Q 1 258 (dark 43 W6)) (cmdReq (qq 1)) (imageArea + 7487) [1#8].length = false) ∧
      on.power.thermalOff = false) ∧
    (runningBg (Q 1 258 (dark 43 W6)) 259 = none) ∧
    (upNext (Q 1 259 W6) (qq 1) 259 (decide (imgType (Q 1 259 W6) 0 = 16)) (rq 1 259) ∧ commitState 0 (Q 1 259 W6) = true ∧
      (0 = 0 → some im = some im) ∧ runningBg (Q 1 259 W6) 259 = none ∧ 1 < 2 ∧
      (0 ≠ 0 → class2May (begun (Q 1 259 W6) (qq 1) 259 (rq 1 259)) false 0 2368 = true)) := by
  unfold upNext
  decide +kernel

/-- What `Obligations.ImagesAndUnlock` asks of `imgCommit` can be met. -/
theorem test_meets_images_and_unlock_3 :
    (upNext (Q 1 259 W6) (qq 1) 259 (decide (imgType (Q 1 259 W6) 68719476736 = 16)) (rq 1 259) ∧ commitState 68719476736 (Q 1 259 W6) = true ∧
      (68719476736 = 0 → some im = some im) ∧ runningBg (Q 1 259 W6) 259 = none ∧ 0 < 2 ∧
      (68719476736 ≠ 0 → class2May (begun (Q 1 259 W6) (qq 1) 259 (rq 1 259)) false 68719476736 2368 = true)) := by
  unfold upNext
  decide +kernel

/-- What `Obligations.ImagesAndUnlock` asks of `imgCommitDone` can be met. -/
theorem test_meets_images_and_unlock_4 :
    (runningBg (Q 1 7 (WI im [rc 0 0 16])) 259 = some (rc 0 0 16) ∧
      (0 = 0 ∨ class2May (Q 1 7 (WI im [rc 0 0 16])) false 0 (commitLen (Q 1 7 (WI im [rc 0 0 16])) 0 16) = true ∧
      mayGo (Q 1 7 (WI im [rc 0 0 16])) { agent := HbmAgent.background 259, prio := 4 } 0 (commitLen (Q 1 7 (WI im [rc 0 0 16])) 0 16) = true ∧
      upsetsIn (Q 1 7 (WI im [rc 0 0 16])) 0 (commitLen (Q 1 7 (WI im [rc 0 0 16])) 0 16) = [] ∧
      badIn (Q 1 7 (WI im [rc 0 0 16])) 0 (commitLen (Q 1 7 (WI im [rc 0 0 16])) 0 16) = []) ∧
      keyListBroken (if 0 = 0 then Q 1 7 (WI im [rc 0 0 16]) else goOn (Q 1 7 (WI im [rc 0 0 16])) { agent := HbmAgent.background 259, prio := 4 } 0 (commitLen (Q 1 7 (WI im [rc 0 0 16])) 0 16)) 0 = false ∧
      (on.sec.owner = none ∨ on.sec.owner = some (ownerDigest (if 0 = 0 then Q 1 7 (WI im [rc 0 0 16]) else goOn (Q 1 7 (WI im [rc 0 0 16])) { agent := HbmAgent.background 259, prio := 4 } 0 (commitLen (Q 1 7 (WI im [rc 0 0 16])) 0 16)) 0)) ∧
      tget on.sec.counters 4 0 ≤ imgNum (if 0 = 0 then Q 1 7 (WI im [rc 0 0 16]) else goOn (Q 1 7 (WI im [rc 0 0 16])) { agent := HbmAgent.background 259, prio := 4 } 0 (commitLen (Q 1 7 (WI im [rc 0 0 16])) 0 16)) 0 4 4 ∧
      on.sec.keySeq < imgNum (if 0 = 0 then Q 1 7 (WI im [rc 0 0 16]) else goOn (Q 1 7 (WI im [rc 0 0 16])) { agent := HbmAgent.background 259, prio := 4 } 0 (commitLen (Q 1 7 (WI im [rc 0 0 16])) 0 16)) 0 4 4) := by
  decide +kernel

/-- What `Obligations.ImagesAndUnlock` asks of `imgCommitDone`, `scanWipeDone` can be met. -/
theorem test_meets_images_and_unlock_5 :
    (runningBg (Q 1 7 S11_1) 259 = some (rc 0 0 16) ∧ (0 = 0 ∨ class2May (Q 1 7 S11_1) false 0 (commitLen (Q 1 7 S11_1) 0 16) = true ∧
      mayGo (Q 1 7 S11_1) { agent := HbmAgent.background 259, prio := 4 } 0 (commitLen (Q 1 7 S11_1) 0 16) = true ∧
      upsetsIn (Q 1 7 S11_1) 0 (commitLen (Q 1 7 S11_1) 0 16) = [] ∧ badIn (Q 1 7 S11_1) 0 (commitLen (Q 1 7 S11_1) 0 16) = []) ∧
      keyListBroken (if 0 = 0 then Q 1 7 S11_1 else goOn (Q 1 7 S11_1) { agent := HbmAgent.background 259, prio := 4 } 0 (commitLen (Q 1 7 S11_1) 0 16)) 0 = false ∧
      (SecSt.shipped.owner = none ∨ SecSt.shipped.owner = some (ownerDigest (if 0 = 0 then Q 1 7 S11_1 else goOn (Q 1 7 S11_1) { agent := HbmAgent.background 259, prio := 4 } 0 (commitLen (Q 1 7 S11_1) 0 16)) 0)) ∧
      imgNum (if 0 = 0 then Q 1 7 S11_1 else goOn (Q 1 7 S11_1) { agent := HbmAgent.background 259, prio := 4 } 0 (commitLen (Q 1 7 S11_1) 0 16)) 0 4 4 ≤ 2) ∧
    (SecSt.shipped.wiping = false) := by
  decide +kernel

/-- What `Obligations.ImagesAndUnlock` asks of `imgCommitDone` can be met. -/
theorem test_meets_images_and_unlock_6 :
    (runningBg (Q 1 7 S11_2) 259 = some (rc 0 0 16) ∧ (0 = 0 ∨ class2May (Q 1 7 S11_2) false 0 (commitLen (Q 1 7 S11_2) 0 16) = true ∧
      mayGo (Q 1 7 S11_2) { agent := HbmAgent.background 259, prio := 4 } 0 (commitLen (Q 1 7 S11_2) 0 16) = true ∧
      upsetsIn (Q 1 7 S11_2) 0 (commitLen (Q 1 7 S11_2) 0 16) = [] ∧ badIn (Q 1 7 S11_2) 0 (commitLen (Q 1 7 S11_2) 0 16) = []) ∧
      keyListBroken (if 0 = 0 then Q 1 7 S11_2 else goOn (Q 1 7 S11_2) { agent := HbmAgent.background 259, prio := 4 } 0 (commitLen (Q 1 7 S11_2) 0 16)) 0 = true) := by
  decide +kernel

/-- What `Obligations.ImagesAndUnlock` asks of `imgCommitDone` can be met. -/
theorem test_meets_images_and_unlock_7 :
    (runningBg (Q 1 7 (WI im [rc 0 0 1])) 259 = some (rc 0 0 1) ∧
      (0 = 0 ∨ class2May (Q 1 7 (WI im [rc 0 0 1])) false 0 (commitLen (Q 1 7 (WI im [rc 0 0 1])) 0 1) = true ∧
      mayGo (Q 1 7 (WI im [rc 0 0 1])) { agent := HbmAgent.background 259, prio := 4 } 0 (commitLen (Q 1 7 (WI im [rc 0 0 1])) 0 1) = true ∧
      upsetsIn (Q 1 7 (WI im [rc 0 0 1])) 0 (commitLen (Q 1 7 (WI im [rc 0 0 1])) 0 1) = [] ∧
      badIn (Q 1 7 (WI im [rc 0 0 1])) 0 (commitLen (Q 1 7 (WI im [rc 0 0 1])) 0 1) = []) ∧ 1 ≠ 16 ∧
      (imgBroken (if 0 = 0 then Q 1 7 (WI im [rc 0 0 1]) else goOn (Q 1 7 (WI im [rc 0 0 1])) { agent := HbmAgent.background 259, prio := 4 } 0 (commitLen (Q 1 7 (WI im [rc 0 0 1])) 0 1)) 0 1 = true ∨ imgNum (if 0 = 0 then Q 1 7 (WI im [rc 0 0 1]) else goOn (Q 1 7 (WI im [rc 0 0 1])) { agent := HbmAgent.background 259, prio := 4 } 0 (commitLen (Q 1 7 (WI im [rc 0 0 1])) 0 1)) 0 12 4 ≠ csrValue (if 0 = 0 then Q 1 7 (WI im [rc 0 0 1]) else goOn (Q 1 7 (WI im [rc 0 0 1])) { agent := HbmAgent.background 259, prio := 4 } 0 (commitLen (Q 1 7 (WI im [rc 0 0 1])) 0 1)) O.globalId)) := by
  decide +kernel

/-- What `Obligations.ImagesAndUnlock` asks of `imgCommitDone` can be met. -/
theorem test_meets_images_and_unlock_8 :
    (runningBg (Q 1 7 (WI (fi (fw 0 7 1 3)) [rc 0 0 3])) 259 = some (rc 0 0 3) ∧
      (0 = 0 ∨ class2May (Q 1 7 (WI (fi (fw 0 7 1 3)) [rc 0 0 3])) false 0 (commitLen (Q 1 7 (WI (fi (fw 0 7 1 3)) [rc 0 0 3])) 0 3) = true ∧
      mayGo (Q 1 7 (WI (fi (fw 0 7 1 3)) [rc 0 0 3])) { agent := HbmAgent.background 259, prio := 4 } 0 (commitLen (Q 1 7 (WI (fi (fw 0 7 1 3)) [rc 0 0 3])) 0 3) = true ∧
      upsetsIn (Q 1 7 (WI (fi (fw 0 7 1 3)) [rc 0 0 3])) 0 (commitLen (Q 1 7 (WI (fi (fw 0 7 1 3)) [rc 0 0 3])) 0 3) = [] ∧
      badIn (Q 1 7 (WI (fi (fw 0 7 1 3)) [rc 0 0 3])) 0 (commitLen (Q 1 7 (WI (fi (fw 0 7 1 3)) [rc 0 0 3])) 0 3) = []) ∧ 3 ≠ 16 ∧
      imgBroken (if 0 = 0 then Q 1 7 (WI (fi (fw 0 7 1 3)) [rc 0 0 3]) else goOn (Q 1 7 (WI (fi (fw 0 7 1 3)) [rc 0 0 3])) { agent := HbmAgent.background 259, prio := 4 } 0 (commitLen (Q 1 7 (WI (fi (fw 0 7 1 3)) [rc 0 0 3])) 0 3)) 0 3 = false ∧
      imgNum (if 0 = 0 then Q 1 7 (WI (fi (fw 0 7 1 3)) [rc 0 0 3]) else goOn (Q 1 7 (WI (fi (fw 0 7 1 3)) [rc 0 0 3])) { agent := HbmAgent.background 259, prio := 4 } 0 (commitLen (Q 1 7 (WI (fi (fw 0 7 1 3)) [rc 0 0 3])) 0 3)) 0 12 4 = csrValue (if 0 = 0 then Q 1 7 (WI (fi (fw 0 7 1 3)) [rc 0 0 3]) else goOn (Q 1 7 (WI (fi (fw 0 7 1 3)) [rc 0 0 3])) { agent := HbmAgent.background 259, prio := 4 } 0 (commitLen (Q 1 7 (WI (fi (fw 0 7 1 3)) [rc 0 0 3])) 0 3)) O.globalId ∧
      (readImg (if 0 = 0 then Q 1 7 (WI (fi (fw 0 7 1 3)) [rc 0 0 3]) else goOn (Q 1 7 (WI (fi (fw 0 7 1 3)) [rc 0 0 3])) { agent := HbmAgent.background 259, prio := 4 } 0 (commitLen (Q 1 7 (WI (fi (fw 0 7 1 3)) [rc 0 0 3])) 0 3)) 0 false).iface = romInterface 3 ∧
      tget on.sec.counters (3 - 1) 0 ≤ (readImg (if 0 = 0 then Q 1 7 (WI (fi (fw 0 7 1 3)) [rc 0 0 3]) else goOn (Q 1 7 (WI (fi (fw 0 7 1 3)) [rc 0 0 3])) { agent := HbmAgent.background 259, prio := 4 } 0 (commitLen (Q 1 7 (WI (fi (fw 0 7 1 3)) [rc 0 0 3])) 0 3)) 0 false).rollback ∧
      (untestedWith (if 0 = 0 then Q 1 7 (WI (fi (fw 0 7 1 3)) [rc 0 0 3]) else goOn (Q 1 7 (WI (fi (fw 0 7 1 3)) [rc 0 0 3])) { agent := HbmAgent.background 259, prio := 4 } 0 (commitLen (Q 1 7 (WI (fi (fw 0 7 1 3)) [rc 0 0 3])) 0 3)) 3 (readImg (if 0 = 0 then Q 1 7 (WI (fi (fw 0 7 1 3)) [rc 0 0 3]) else goOn (Q 1 7 (WI (fi (fw 0 7 1 3)) [rc 0 0 3])) { agent := HbmAgent.background 259, prio := 4 } 0 (commitLen (Q 1 7 (WI (fi (fw 0 7 1 3)) [rc 0 0 3])) 0 3)) 0 false) = false ∨ 0 = 1 ∧
      on.sec.scopes ≠ 0)) := by
  decide +kernel

/-- What `Obligations.ImagesAndUnlock` asks of `imgCommitDone` can be met. -/
theorem test_meets_images_and_unlock_9 :
    (runningBg (Q 1 7 S11_4) 259 = some (rc 0 0 3) ∧ (0 = 0 ∨ class2May (Q 1 7 S11_4) false 0 (commitLen (Q 1 7 S11_4) 0 3) = true ∧
      mayGo (Q 1 7 S11_4) { agent := HbmAgent.background 259, prio := 4 } 0 (commitLen (Q 1 7 S11_4) 0 3) = true ∧
      upsetsIn (Q 1 7 S11_4) 0 (commitLen (Q 1 7 S11_4) 0 3) = [] ∧ badIn (Q 1 7 S11_4) 0 (commitLen (Q 1 7 S11_4) 0 3) = []) ∧ 3 ≠ 16 ∧
      imgBroken (if 0 = 0 then Q 1 7 S11_4 else goOn (Q 1 7 S11_4) { agent := HbmAgent.background 259, prio := 4 } 0 (commitLen (Q 1 7 S11_4) 0 3)) 0 3 = false ∧
      imgNum (if 0 = 0 then Q 1 7 S11_4 else goOn (Q 1 7 S11_4) { agent := HbmAgent.background 259, prio := 4 } 0 (commitLen (Q 1 7 S11_4) 0 3)) 0 12 4 = csrValue (if 0 = 0 then Q 1 7 S11_4 else goOn (Q 1 7 S11_4) { agent := HbmAgent.background 259, prio := 4 } 0 (commitLen (Q 1 7 S11_4) 0 3)) O.globalId ∧
      (readImg (if 0 = 0 then Q 1 7 S11_4 else goOn (Q 1 7 S11_4) { agent := HbmAgent.background 259, prio := 4 } 0 (commitLen (Q 1 7 S11_4) 0 3)) 0 false).iface = romInterface 3 ∧
      (readImg (if 0 = 0 then Q 1 7 S11_4 else goOn (Q 1 7 S11_4) { agent := HbmAgent.background 259, prio := 4 } 0 (commitLen (Q 1 7 S11_4) 0 3)) 0 false).rollback < tget [(2, 2)] (3 - 1) 0) := by
  decide +kernel

/-- What `Obligations.ImagesAndUnlock` asks of `imgCommitDone` can be met. -/
theorem test_meets_images_and_unlock_10 :
    (runningBg (Q 1 7 (WI (fi (fw 0 7 1 2)) [rc 0 0 3])) 259 = some (rc 0 0 3) ∧
      (0 = 0 ∨ class2May (Q 1 7 (WI (fi (fw 0 7 1 2)) [rc 0 0 3])) false 0 (commitLen (Q 1 7 (WI (fi (fw 0 7 1 2)) [rc 0 0 3])) 0 3) = true ∧
      mayGo (Q 1 7 (WI (fi (fw 0 7 1 2)) [rc 0 0 3])) { agent := HbmAgent.background 259, prio := 4 } 0 (commitLen (Q 1 7 (WI (fi (fw 0 7 1 2)) [rc 0 0 3])) 0 3) = true ∧
      upsetsIn (Q 1 7 (WI (fi (fw 0 7 1 2)) [rc 0 0 3])) 0 (commitLen (Q 1 7 (WI (fi (fw 0 7 1 2)) [rc 0 0 3])) 0 3) = [] ∧
      badIn (Q 1 7 (WI (fi (fw 0 7 1 2)) [rc 0 0 3])) 0 (commitLen (Q 1 7 (WI (fi (fw 0 7 1 2)) [rc 0 0 3])) 0 3) = []) ∧ 3 ≠ 16 ∧
      imgBroken (if 0 = 0 then Q 1 7 (WI (fi (fw 0 7 1 2)) [rc 0 0 3]) else goOn (Q 1 7 (WI (fi (fw 0 7 1 2)) [rc 0 0 3])) { agent := HbmAgent.background 259, prio := 4 } 0 (commitLen (Q 1 7 (WI (fi (fw 0 7 1 2)) [rc 0 0 3])) 0 3)) 0 3 = false ∧
      imgNum (if 0 = 0 then Q 1 7 (WI (fi (fw 0 7 1 2)) [rc 0 0 3]) else goOn (Q 1 7 (WI (fi (fw 0 7 1 2)) [rc 0 0 3])) { agent := HbmAgent.background 259, prio := 4 } 0 (commitLen (Q 1 7 (WI (fi (fw 0 7 1 2)) [rc 0 0 3])) 0 3)) 0 12 4 = csrValue (if 0 = 0 then Q 1 7 (WI (fi (fw 0 7 1 2)) [rc 0 0 3]) else goOn (Q 1 7 (WI (fi (fw 0 7 1 2)) [rc 0 0 3])) { agent := HbmAgent.background 259, prio := 4 } 0 (commitLen (Q 1 7 (WI (fi (fw 0 7 1 2)) [rc 0 0 3])) 0 3)) O.globalId ∧
      (readImg (if 0 = 0 then Q 1 7 (WI (fi (fw 0 7 1 2)) [rc 0 0 3]) else goOn (Q 1 7 (WI (fi (fw 0 7 1 2)) [rc 0 0 3])) { agent := HbmAgent.background 259, prio := 4 } 0 (commitLen (Q 1 7 (WI (fi (fw 0 7 1 2)) [rc 0 0 3])) 0 3)) 0 false).iface = romInterface 3 ∧
      tget on.sec.counters (3 - 1) 0 ≤ (readImg (if 0 = 0 then Q 1 7 (WI (fi (fw 0 7 1 2)) [rc 0 0 3]) else goOn (Q 1 7 (WI (fi (fw 0 7 1 2)) [rc 0 0 3])) { agent := HbmAgent.background 259, prio := 4 } 0 (commitLen (Q 1 7 (WI (fi (fw 0 7 1 2)) [rc 0 0 3])) 0 3)) 0 false).rollback ∧
      untestedWith (if 0 = 0 then Q 1 7 (WI (fi (fw 0 7 1 2)) [rc 0 0 3]) else goOn (Q 1 7 (WI (fi (fw 0 7 1 2)) [rc 0 0 3])) { agent := HbmAgent.background 259, prio := 4 } 0 (commitLen (Q 1 7 (WI (fi (fw 0 7 1 2)) [rc 0 0 3])) 0 3)) 3 (readImg (if 0 = 0 then Q 1 7 (WI (fi (fw 0 7 1 2)) [rc 0 0 3]) else goOn (Q 1 7 (WI (fi (fw 0 7 1 2)) [rc 0 0 3])) { agent := HbmAgent.background 259, prio := 4 } 0 (commitLen (Q 1 7 (WI (fi (fw 0 7 1 2)) [rc 0 0 3])) 0 3)) 0 false) = true ∧
      0 ≠ 1) := by
  decide +kernel

/-- What `Obligations.ImagesAndUnlock` asks of `imgCommitDone` can be met. -/
theorem test_meets_images_and_unlock_11 :
    (runningBg (Q 1 7 S11_5) 259 = some (rc 0 1 3) ∧ (0 = 0 ∨ class2May (Q 1 7 S11_5) false 0 (commitLen (Q 1 7 S11_5) 0 3) = true ∧
      mayGo (Q 1 7 S11_5) { agent := HbmAgent.background 259, prio := 4 } 0 (commitLen (Q 1 7 S11_5) 0 3) = true ∧
      upsetsIn (Q 1 7 S11_5) 0 (commitLen (Q 1 7 S11_5) 0 3) = [] ∧ badIn (Q 1 7 S11_5) 0 (commitLen (Q 1 7 S11_5) 0 3) = []) ∧ 3 ≠ 16 ∧
      imgBroken (if 0 = 0 then Q 1 7 S11_5 else goOn (Q 1 7 S11_5) { agent := HbmAgent.background 259, prio := 4 } 0 (commitLen (Q 1 7 S11_5) 0 3)) 0 3 = false ∧
      imgNum (if 0 = 0 then Q 1 7 S11_5 else goOn (Q 1 7 S11_5) { agent := HbmAgent.background 259, prio := 4 } 0 (commitLen (Q 1 7 S11_5) 0 3)) 0 12 4 = csrValue (if 0 = 0 then Q 1 7 S11_5 else goOn (Q 1 7 S11_5) { agent := HbmAgent.background 259, prio := 4 } 0 (commitLen (Q 1 7 S11_5) 0 3)) O.globalId ∧
      (readImg (if 0 = 0 then Q 1 7 S11_5 else goOn (Q 1 7 S11_5) { agent := HbmAgent.background 259, prio := 4 } 0 (commitLen (Q 1 7 S11_5) 0 3)) 0 false).iface = romInterface 3 ∧
      tget SecSt.shipped.counters (3 - 1) 0 ≤ (readImg (if 0 = 0 then Q 1 7 S11_5 else goOn (Q 1 7 S11_5) { agent := HbmAgent.background 259, prio := 4 } 0 (commitLen (Q 1 7 S11_5) 0 3)) 0 false).rollback ∧
      (untestedWith (if 0 = 0 then Q 1 7 S11_5 else goOn (Q 1 7 S11_5) { agent := HbmAgent.background 259, prio := 4 } 0 (commitLen (Q 1 7 S11_5) 0 3)) 3 (readImg (if 0 = 0 then Q 1 7 S11_5 else goOn (Q 1 7 S11_5) { agent := HbmAgent.background 259, prio := 4 } 0 (commitLen (Q 1 7 S11_5) 0 3)) 0 false) = false ∨ 1 = 1 ∧
      1 ≠ 0)) := by
  decide +kernel

/-- What `Obligations.ImagesAndUnlock` asks of `imgCommitDone` can be met. -/
theorem test_meets_images_and_unlock_12 :
    (runningBg (Q 1 7 S11_6) 259 = some (rc 68719476736 0 3) ∧
      (68719476736 = 0 ∨ class2May (Q 1 7 S11_6) false 68719476736 (commitLen (Q 1 7 S11_6) 68719476736 3) = true ∧
      mayGo (Q 1 7 S11_6) { agent := HbmAgent.background 259, prio := 4 } 68719476736 (commitLen (Q 1 7 S11_6) 68719476736 3) = true ∧
      upsetsIn (Q 1 7 S11_6) 68719476736 (commitLen (Q 1 7 S11_6) 68719476736 3) = [] ∧
      badIn (Q 1 7 S11_6) 68719476736 (commitLen (Q 1 7 S11_6) 68719476736 3) = []) ∧ 3 ≠ 16 ∧
      imgBroken (if 68719476736 = 0 then Q 1 7 S11_6 else goOn (Q 1 7 S11_6) { agent := HbmAgent.background 259, prio := 4 } 68719476736 (commitLen (Q 1 7 S11_6) 68719476736 3)) 68719476736 3 = false ∧
      imgNum (if 68719476736 = 0 then Q 1 7 S11_6 else goOn (Q 1 7 S11_6) { agent := HbmAgent.background 259, prio := 4 } 68719476736 (commitLen (Q 1 7 S11_6) 68719476736 3)) 68719476736 12 4 = csrValue (if 68719476736 = 0 then Q 1 7 S11_6 else goOn (Q 1 7 S11_6) { agent := HbmAgent.background 259, prio := 4 } 68719476736 (commitLen (Q 1 7 S11_6) 68719476736 3)) O.globalId ∧
      (readImg (if 68719476736 = 0 then Q 1 7 S11_6 else goOn (Q 1 7 S11_6) { agent := HbmAgent.background 259, prio := 4 } 68719476736 (commitLen (Q 1 7 S11_6) 68719476736 3)) 68719476736 false).iface = romInterface 3 ∧
      tget on.sec.counters (3 - 1) 0 ≤ (readImg (if 68719476736 = 0 then Q 1 7 S11_6 else goOn (Q 1 7 S11_6) { agent := HbmAgent.background 259, prio := 4 } 68719476736 (commitLen (Q 1 7 S11_6) 68719476736 3)) 68719476736 false).rollback ∧
      (untestedWith (if 68719476736 = 0 then Q 1 7 S11_6 else goOn (Q 1 7 S11_6) { agent := HbmAgent.background 259, prio := 4 } 68719476736 (commitLen (Q 1 7 S11_6) 68719476736 3)) 3 (readImg (if 68719476736 = 0 then Q 1 7 S11_6 else goOn (Q 1 7 S11_6) { agent := HbmAgent.background 259, prio := 4 } 68719476736 (commitLen (Q 1 7 S11_6) 68719476736 3)) 68719476736 false) = false ∨ 0 = 1 ∧
      on.sec.scopes ≠ 0)) := by
  decide +kernel

/-- What `Obligations.ImagesAndUnlock` asks of `imgCommitDone`, `imgList`, `attest` can be met. -/
theorem test_meets_images_and_unlock_13 :
    (runningBg (Q 1 7 S11_7) 259 = some (rc 68719476736 0 3) ∧ 68719476736 ≠ 0 ∧
      class2May (Q 1 7 S11_7) false 68719476736 (commitLen (Q 1 7 S11_7) 68719476736 3) = true ∧
      mayGo (Q 1 7 S11_7) { agent := HbmAgent.background 259, prio := 4 } 68719476736 (commitLen (Q 1 7 S11_7) 68719476736 3) = false) ∧
    (runningBg (Q 1 7 (WI im [rc 21474836480 0 3])) 259 = some (rc 21474836480 0 3) ∧ 21474836480 ≠ 0 ∧
      class2May (Q 1 7 (WI im [rc 21474836480 0 3])) false 21474836480 (commitLen (Q 1 7 (WI im [rc 21474836480 0 3])) 21474836480 3) = false) ∧
    (upNext (Q 1 260 W0) (qq 1) 260 false (rq 1 260)) ∧
    (upNext (Q 1 6 W0) (qq 1) 6 false (rq 1 6)) := by
  unfold upNext
  decide +kernel

/-- What `Obligations.ImagesAndUnlock` asks of `unlockChallenge`, `unlockResponse` can be met. -/
theorem test_meets_images_and_unlock_14 :
    (upNext (Q 1 2049 W0) (qq 1) 2049 false (rq 1 2049) ∧ 0 < 7 ∧ 7 < 8) ∧
    (upNext (Q 1 2049 W0) (qq 1) 2049 false (rq 1 2049) ∧ (8 = 0 ∨ 8 ≤ 8)) ∧
    (upNext (Q 1 2050 W9) (qq 1) 2050 false (rq 1 2050) ∧ (7 < 4 ∨ DevState.idle = DevState.idle ∨ DevState.idle = DevState.fenced) ∧
      (some (7, 4#256, 5) = some (7, 4#256, 5) ∧ 7 = 7 ∧ 5 = 4 + 1 ∧ 6000000005 ≤ 5 + 6000000000 ∧ signerCovers (Q 1 2050 W9) 7 [9#256] = true)) := by
  unfold upNext
  decide +kernel

/-- What `Obligations.ImagesAndUnlock` asks of `unlockResponse` can be met. -/
theorem test_meets_images_and_unlock_15 :
    (upNext (Q 1 2050 W9) (qq 1) 2050 false (rq 1 2050) ∧ (7 < 4 ∨ DevState.idle = DevState.idle ∨ DevState.idle = DevState.fenced) ∧
      (some (7, 4#256, 5) = none ∨ some (7, 4#256, 5) = some (7, 4#256, 5) ∧ ¬(some (7, 4#256, 5) = some (7, 4#256, 5) ∧ 7 = 7 ∧ 5 = 4 + 1 ∧
      6000000005 ≤ 5 + 6000000000 ∧ signerCovers (Q 1 2050 W9) 7 [8#256] = true))) ∧
    (upNext (Q 1 2050 S11_8) (qq 1) 2050 false (rq 1 2050) ∧ (7 < 4 ∨ DevState.idle = DevState.idle ∨ DevState.idle = DevState.fenced)) := by
  unfold upNext
  decide +kernel

/-- What `Obligations.ImagesAndUnlock` asks of `unlockResponse`, `imgCommitDone` can be met. -/
theorem test_meets_images_and_unlock_16 :
    (upNext (Q 1 2050 S11_9) (qq 1) 2050 false (rq 1 2050) ∧ 4 ≤ 4 ∧ DevState.running ≠ DevState.idle ∧ DevState.running ≠ DevState.fenced) ∧
    (runningBg (Q 1 7 S11_10) 259 = none) := by
  unfold upNext
  decide +kernel

end Memory

/-! ### Weaves and scoring -/

namespace Weaves

abbrev regs (l : List (Nat × BitVec 32)) (s : State) : State := { s with csr := l.foldl (fun t e => tset t e.1 e.2) s.csr }
abbrev upP : Port := { Port.reset with up := true }
abbrev bd : Bind := ⟨7, 5, 6⟩
abbrev P0 : State := { regs [(O.ethMode, 0xA#32), (O.ethCtrl, 7#32)] on with ports := [(7, upP)] }
abbrev se : Session := ⟨1, 0, bd, 9#256, [1#8], [2#8], false, false, 5, [5], [⟨5, 7, 0, 0, [1#8]⟩], 3, [⟨2, 1, []⟩, ⟨3, 1, []⟩], 0, [⟨4, 7, 3000, 3,
  [(0, 5)]⟩]⟩
abbrev W (f : WcpSt → WcpSt) (s : State) : State := { s with wcp := f { s.wcp with sessions := [se] } }
abbrev W0 : State := W (fun x => x) P0
abbrev dg (op sess seq ver : Nat) : Datagram := ⟨0x5743, ver, 0, op, 0, sess, seq, 0, 0, 1, 0, 0, [], 0#128, ⟨7, 8, 8⟩⟩
abbrev tagged (s : State) (d : Datagram) : Datagram := { d with tag := wcpTag (receiveKey s d.session) (datagramHeader d ++ d.payload) }
abbrev rq (s op : Nat) : Request := ⟨s, 6, op, bd⟩
abbrev qq (s : Nat) : WcpReq := ⟨s, 6, bd, true⟩
abbrev Q (s op : Nat) (t : State) : State := { t with wcp := { t.wcp with queue := [rq s op] } }
abbrev img : Memory := bytesAt weaveArea [(0, 49), (1, 69), (2, 87), (3, 86), (4, 1), (6, 7), (8, 161), (9, 1), (10, 30), (11, 90), (13, 1), (16,
  192), (17, 19), (24, 1), (64, 1), (68, 192), (72, 32), (76, 173), (77, 85), (78, 10), (79, 25), (80, 3), (85, 1), (89, 4), (92, 46), (93, 175),
  (94, 181), (95, 239), (96, 4), (101, 5), (104, 64), (108, 54), (109, 99), (110, 141), (111, 117), (112, 5), (116, 64), (117, 5), (120, 64), (124,
  54), (125, 99), (126, 141), (127, 117), (128, 6), (132, 128), (133, 5), (136, 64), (140, 54), (141, 99), (142, 141), (143, 117), (144, 8), (148,
  192), (149, 5), (152, 72), (156, 24), (157, 18), (158, 52), (159, 201), (160, 13), (164, 64), (165, 6), (168, 64), (172, 70), (173, 19), (174, 15),
  (175, 102), (1472, 1), (1538, 128), (1540, 192), (1652, 2), (1654, 2), (1655, 2), (1656, 2), (1657, 2)]
abbrev rw (a b : Nat) : Running := ⟨rq 1 0x203, a, b, 0⟩
abbrev V1 : State := W (fun w => { w with weave := some (1, 268435456) }) P0
abbrev V2 : State := { W (fun w => { w with weave := some (1, 5056), running := [rw 0 5056] }) P0 with mem := img }
abbrev S12_1 := { V2 with hbm := [] }
abbrev dark (d : Nat) (s : State) : State := { s with power := { s.power with doms := tset s.power.doms d { Dom.onDom with st := .retention } } }
abbrev S12_2 := { V1 with staged := some weave0 }
abbrev V3 : State := { W0 with dev := .idle, staged := some weave0, sec := { SecSt.shipped with images := [(1, ⟨1, 0, 0, [], false, 0#256⟩)] } }
abbrev S12_3 := { V3 with wcp := { V3.wcp with running := [⟨rq 1 0x204, 0, 0, 0⟩] } }
abbrev A0 (a : ActStage) : State := { W0 with act := a, installing := some weave0, dev := .activating, sec := { SecSt.shipped with images := [(2, ⟨1, 0, 0, [], false, 0#256⟩), (3, ⟨1, 0, 0, [], false, 0#256⟩)] } }
abbrev S12_4 := { A0 .clear with mem := [(0x4FFFFFFFF, 1#8), (0x500000000, 1#8), (0x7FFFFFFFF, 1#8), (0x80FFFFFFF, 1#8), (0x810000000, 1#8)] }
abbrev ln : Lane := { Lane.fresh 0 with bufA := ⟨9, 0x3F800000#32⟩ }
abbrev sr : ScoreReq := ⟨0x5352, 1, 0, 0, 0, 3, 77, 1, 0, [0#8, 0x3F#8, 0x80#8, 0x3F#8, 1#8, 2#8], 5, bd, 0⟩
abbrev S0 (l : Lane) (s : State) : State := { regs [(O.scoreCtrl, 1#32), (O.scoreFeatures, 3#32), (O.scoreModel, 8#32), (O.globalClusterUsed, 0xFFFFFFFF#32), (O.scoreBufBytes, 64#32)] s with score := { ScoreSt.reset with lanes := [l], weights := true } }
abbrev ln4 : Lane := { ln with queue := [sr, sr, sr, sr] }
abbrev S12_5 := { S0 ln W0 with power := { (S0 ln W0).power with level := 5 } }
abbrev ln1 : Lane := { ln with queue := [sr] }
abbrev ln2 : Lane := { ln with queue := [sr], serving := true, switch := true }
abbrev ln3 : Lane := { ln2 with failed := true }
abbrev sra : ScoreReq := { sr with k := 2 }
abbrev lna : Lane := { ln with queue := [sra], serving := true }
abbrev SA : State := regs [(O.scoreCtrl, 3#32), (O.scoreModel, 0x200008#32)] (S0 lna W0)
abbrev wimg : Memory := bytesAt 0x1000000000 [(0, 0x31), (1, 0x57), (2, 0x53), (3, 0x57), (4, 10), (0xC, 163), (0xD, 78), (0xE, 184), (0xF, 250),
  (0x10, 64), (0x40, 1)]
abbrev S9 : State := { S0 ln W0 with mem := wimg }
abbrev rs : Running := ⟨rq 1 0x902, 0x1000000000, 0, 0⟩
abbrev S10 : State := { S0 ln (W (fun w => { w with running := [rs] }) P0) with mem := wimg }
abbrev lnS : Lane := { ln with switch := true }
abbrev S9b : State := S0 lnS W0
abbrev S11 : State := { S0 ln W0 with score := { (S0 ln W0).score with loaded := true, loadedVer := 10 } }
abbrev S12_6 := { A0 .entry with dev := .running }
abbrev S12_7 := { A0 .entry with dev := .quiesced }

/-- What `Obligations.WeavesActivate` asks of `weaveBegin`, `dismantleDone`, `activationClearDone`, `activationInstallDone`,
`activationPublish`, `weaveData`, `weaveCommit` can be met. -/
theorem test_meets_weaves_activate_1 :
    (loadStates (Q 1 513 W0) = true ∧ upNext (Q 1 513 W0) (qq 1) 513 false (rq 1 513) ∧ 268435456 ≤ 2 ^ 28) ∧
    (loadStates (Q 1 514 V1) = true ∧ upNext (Q 1 514 V1) (qq 1) 514 false (rq 1 514) ∧ 268435455 + [1#8].length ≤ 268435456 ∧
      (getStack (Q 1 514 V1) 7).ready = true ∧ mayGo (Q 1 514 V1) (cmdReq (qq 1)) (weaveArea + 268435455) [1#8].length = true) ∧
    (loadStates (Q 1 515 V1) = true ∧ upNext (Q 1 515 V1) (qq 1) 515 false (rq 1 515) ∧ runningBg (Q 1 515 V1) 515 = none ∧
      runningBg (Q 1 515 V1) 516 = none) := by
  unfold upNext
  decide +kernel

set_option maxRecDepth 200000 in
/-- What `Obligations.WeavesActivate` asks of `weaveCommitDone`, `weaveData` can be met. -/
theorem test_meets_weaves_activate_2 :
    (runningBg (Q 1 7 S12_1) 515 = some (rw 0 5056) ∧ (getStack (Q 1 7 S12_1) 7).ready = false) ∧
    (loadStates (Q 1 514 (dark 43 V1)) = true ∧ (getStack (Q 1 514 (dark 43 V1)) 7).ready = true ∧
      mayGo (Q 1 514 (dark 43 V1)) (cmdReq (qq 1)) (weaveArea + 268435455) [1#8].length = false ∧ on.power.thermalOff = false) ∧
    (runningBg (Q 1 7 V2) 515 = some (rw 0 5056) ∧ (rw 0 5056).a = 0 ∧ (getStack (Q 1 7 V2) 7).ready = true ∧
      mayGo (Q 1 7 V2) { agent := HbmAgent.background 515, prio := 4 } weaveArea (min (memNum (Q 1 7 V2).mem (weaveArea + 16) 8) (2 ^ 28)) = true ∧
      upsetsIn (Q 1 7 V2) weaveArea (min (memNum (Q 1 7 V2).mem (weaveArea + 16) 8) (2 ^ 28)) = [] ∧
      badIn (Q 1 7 V2) weaveArea (min (memNum (Q 1 7 V2).mem (weaveArea + 16) 8) (2 ^ 28)) = [] ∧
      weaveReason ((goOn (Q 1 7 V2) { agent := HbmAgent.background 515, prio := 4 } weaveArea (min (memNum img (weaveArea + 16) 8) (2 ^ 28))).withWcp fun c => { sessions := c.sessions, lastId := c.lastId, nonces := c.nonces, queue := c.queue, running := c.running, img := c.img, weave := none, qps := c.qps, windows := c.windows, reasm0 := c.reasm0 }) (WImg.mk img weaveArea) true = 0 ∧
      (WImg.mk img weaveArea).length = 5056) := by
  decide +kernel

set_option maxRecDepth 200000 in
/-- What `Obligations.WeavesActivate` asks of `weaveCommitDone`, `weaveDiscard` can be met. -/
theorem test_meets_weaves_activate_3 :
    (runningBg (Q 1 7 V2) 515 = some (rw 0 5056) ∧ (rw 0 5056).a = 0 ∧ (getStack (Q 1 7 V2) 7).ready = true ∧
      mayGo (Q 1 7 V2) { agent := HbmAgent.background 515, prio := 4 } weaveArea (min (memNum (Q 1 7 V2).mem (weaveArea + 16) 8) (2 ^ 28)) = true ∧
      upsetsIn (Q 1 7 V2) weaveArea (min (memNum (Q 1 7 V2).mem (weaveArea + 16) 8) (2 ^ 28)) = [] ∧
      badIn (Q 1 7 V2) weaveArea (min (memNum (Q 1 7 V2).mem (weaveArea + 16) 8) (2 ^ 28)) = [] ∧
      weaveReason ((goOn (Q 1 7 V2) { agent := HbmAgent.background 515, prio := 4 } weaveArea (min (memNum img (weaveArea + 16) 8) (2 ^ 28))).withWcp fun c => { sessions := c.sessions, lastId := c.lastId, nonces := c.nonces, queue := c.queue, running := c.running, img := c.img, weave := none, qps := c.qps, windows := c.windows, reasm0 := c.reasm0 }) (WImg.mk img weaveArea) false = 1) ∧
    (upNext (Q 1 517 S12_2) (qq 1) 517 false (rq 1 517) ∧ on.dev ≠ DevState.fenced) := by
  unfold upNext
  decide +kernel

/-- What `Obligations.WeavesActivate` asks of `weaveActivate`, `activationEntryDone`, `class0DrainDone`, `activationPowerDone` can be met. -/
theorem test_meets_weaves_activate_4 :
    (upNext (Q 1 516 V3) (qq 1) 516 false (rq 1 516) ∧ (DevState.idle = DevState.idle ∨ DevState.idle = DevState.quiesced) ∧
      (tget? [(1, ({ level := 1, iface := 0, rollback := 0, partners := [], forced := false, meas := 0#256 } : LoadedImg))] 1).isSome = true ∧
      runningBg (Q 1 516 V3) 515 = none ∧ runningBg (Q 1 516 V3) 516 = none) ∧
    (upNext (Q 1 516 S12_3) (qq 1) 516 false (rq 1 516) ∧ (runningBg (Q 1 516 S12_3) 516).isSome = true) ∧
    (DevState.activating ≠ DevState.idle ∧ DevState.activating ≠ DevState.quiesced) ∧
    ((∀ l ∈ on.score.lanes, l.queue = [])) ∧
    ((∀ d < 58, domSettled (Q 1 7 (A0 ActStage.power)) d = true)) := by
  unfold upNext
  decide +kernel

/-- What `Obligations.WeavesActivate` asks of `activationEntryDone` can be met. -/
theorem test_meets_weaves_activate_5 :
    (DevState.running ≠ DevState.idle ∧ DevState.running ≠ DevState.quiesced) ∧
    ((DevState.quiesced = DevState.idle ∨ DevState.quiesced = DevState.quiesced)) := by
  decide +kernel

/-- What `Obligations.ScoringAnswers` asks of `scoreRequestRx`, `laneServiceStart`, `laneServiceEnd` can be met. -/
theorem test_meets_scoring_answers_1 :
    (on.dev = DevState.running ∧ csrBit (Q 1 7 (S0 ln W0)) O.scoreCtrl 0 = true ∧ malformedReq (Q 1 7 (S0 ln W0)) sr = false ∧
      [ln][if 0 = 255 then shortestLane [ln] else 0]? = some ln ∧ on.power.level < 5 ∧ ln.active.ver ≠ 0 ∧ (Lane.fresh 0).queue.length < 4) ∧
    (on.dev = DevState.running ∧ csrBit (Q 1 7 (S0 ln4 W0)) O.scoreCtrl 0 = true ∧ malformedReq (Q 1 7 (S0 ln4 W0)) sr = false ∧
      [ln4][if 0 = 255 then shortestLane [ln4] else 0]? = some ln4 ∧ on.power.level < 5 ∧ ln4.active.ver ≠ 0 ∧ 4 ≤ [sr, sr, sr, sr].length) ∧
    (on.dev = DevState.running ∧ csrBit (Q 1 7 S12_5) O.scoreCtrl 0 = true ∧ malformedReq (Q 1 7 S12_5) sr = false ∧
      [ln][if 0 = 255 then shortestLane [ln] else 0]? = some ln) ∧
    ([ln1][0]? = some ln1 ∧ (Lane.fresh 0).serving = false ∧ [sr] ≠ [] ∧ domRuns (Q 1 7 (S0 ln1 W0)) (Lane.fresh 0).cluster = true ∧
      fenceStops (Q 1 7 (S0 ln1 W0)) = false) ∧
    ([ln2][0]? = some ln2 ∧ domRuns (Q 1 7 (S0 ln2 W0)) (Lane.fresh 0).cluster = true ∧ fenceStops (Q 1 7 (S0 ln2 W0)) = false ∧
      (Lane.fresh 0).failed = false ∧ alarms (1065353215#32) ln2.active.thr = false) := by
  decide +kernel

/-- What `Obligations.ScoringAnswers` asks of `laneServiceEnd`, `scoreStatus` can be met. -/
theorem test_meets_scoring_answers_2 :
    ([ln2][0]? = some ln2 ∧ domRuns (Q 1 7 (S0 ln2 W0)) (Lane.fresh 0).cluster = true ∧ fenceStops (Q 1 7 (S0 ln2 W0)) = false ∧
      (Lane.fresh 0).failed = false ∧ alarms (1065353216#32) ln2.active.thr = true) ∧
    ([ln3][0]? = some ln3 ∧ domRuns (Q 1 7 (S0 ln3 W0)) (Lane.fresh 0).cluster = true ∧ fenceStops (Q 1 7 (S0 ln3 W0)) = false) ∧
    ([lna][0]? = some lna ∧ domRuns (Q 1 7 SA) (Lane.fresh 0).cluster = true ∧ fenceStops (Q 1 7 SA) = false ∧ (Lane.fresh 0).failed = false ∧
      alarms (1065353216#32) lna.active.thr = true ∧ 2 ≠ 0 ∧ 0 % 2 = 0 ∧ csrBit (Q 1 7 SA) O.scoreCtrl 1 = true) ∧
    (upNext (Q 1 2305 (S0 ln3 W0)) (qq 1) 2305 false (rq 1 2305) ∧ on.dev ≠ DevState.fenced) := by
  unfold upNext
  decide +kernel

/-- What `Obligations.ScoringAnswers` asks of `swapLoad` can be met. -/
theorem test_meets_scoring_answers_3 :
    (on.dev = DevState.running ∧ [ln] ≠ [] ∧ upNext (Q 1 2306 S9) (qq 1) 2306 false (rq 1 2306) ∧ switching (Q 1 2306 S9) = false ∧
      runningBg (Q 1 2306 S9) 2306 = none ∧ 68719476736 % 64 = 0 ∧ mayGo (Q 1 2306 S9) (cmdReq (qq 1)) 68719476736 64 = true ∧
      upsetsIn (begun (Q 1 2306 S9) (qq 1) 2306 (rq 1 2306)) 68719476736 64 = [] ∧
      badIn (begun (Q 1 2306 S9) (qq 1) 2306 (rq 1 2306)) 68719476736 64 = [] ∧
      swapHeaderBad (begun (Q 1 2306 S9) (qq 1) 2306 (rq 1 2306)) 68719476736 = false ∧
      memNum (begun (Q 1 2306 S9) (qq 1) 2306 (rq 1 2306)).mem (68719476736 + 16) 8 = csrGet (begun (Q 1 2306 S9) (qq 1) 2306 (rq 1 2306)) O.scoreBufBytes ∧
      class2May (begun (Q 1 2306 S9) (qq 1) 2306 (rq 1 2306)) false 68719476736 64 = true ∧
      class2May (begun (Q 1 2306 S9) (qq 1) 2306 (rq 1 2306)) false 68719476736 (64 + csrGet (begun (Q 1 2306 S9) (qq 1) 2306 (rq 1 2306)) O.scoreBufBytes) = true) := by
  unfold upNext
  decide +kernel

/-- What `Obligations.ScoringAnswers` asks of `swapLoad`, `swapLoadDone` can be met. -/
theorem test_meets_scoring_answers_4 :
    (on.dev = DevState.running ∧ [lnS] ≠ [] ∧ upNext (Q 1 2306 S9b) (qq 1) 2306 false (rq 1 2306) ∧ switching (Q 1 2306 S9b) = true) ∧
    (on.dev = DevState.running ∧ [ln] ≠ [] ∧ runningBg (Q 1 7 S10) 2306 = some rs ∧
      class2May (Q 1 7 S10) false 68719476736 (64 + csrGet (Q 1 7 S10) O.scoreBufBytes) = true ∧
      mayGo (Q 1 7 S10) { agent := HbmAgent.background 2306, prio := 4 } 68719476736 (64 + csrGet (Q 1 7 S10) O.scoreBufBytes) = true ∧
      upsetsIn (Q 1 7 S10) 68719476736 (64 + csrGet (Q 1 7 S10) O.scoreBufBytes) = [] ∧
      badIn (Q 1 7 S10) 68719476736 (64 + csrGet (Q 1 7 S10) O.scoreBufBytes) = [] ∧
      crc32 (memGet (Q 1 7 S10) (68719476736 + 64) (csrGet (Q 1 7 S10) O.scoreBufBytes)) = BitVec.ofNat 32 (memNum wimg (68719476736 + 12) 4)) := by
  unfold upNext
  decide +kernel

/-- What `Obligations.ScoringAnswers` asks of `swapPublish` can be met. -/
theorem test_meets_scoring_answers_5 :
    (on.dev = DevState.running ∧ [ln] ≠ [] ∧ upNext (Q 1 2307 S11) (qq 1) 2307 false (rq 1 2307) ∧ (∀ k ∈ [ln], k.serving = false ∧
      k.switch = false) ∧ runningBg (Q 1 2307 S11) 2307 = none) := by
  unfold upNext
  decide +kernel

end Weaves

/-! ### Handlers, fences and graphs -/

namespace Fences

abbrev regs (l : List (Nat × BitVec 32)) (s : State) : State := { s with csr := l.foldl (fun t e => tset t e.1 e.2) s.csr }
abbrev upP : Port := { Port.reset with up := true }
abbrev bd : Bind := ⟨7, 5, 6⟩
abbrev P0 : State := { regs [(O.ethMode, 0xA#32), (O.ethCtrl, 7#32)] on with ports := [(7, upP)] }
abbrev se : Session := ⟨1, 0, bd, 9#256, [1#8], [2#8], false, false, 5, [5], [⟨5, 7, 0, 0, [1#8]⟩], 3, [⟨2, 1, []⟩, ⟨3, 1, []⟩], 0, [⟨4, 7, 3000, 3,
  [(0, 5)]⟩]⟩
abbrev W (f : WcpSt → WcpSt) (s : State) : State := { s with wcp := f { s.wcp with sessions := [se] } }
abbrev W0 : State := W (fun x => x) P0
abbrev rq (s op : Nat) : Request := ⟨s, 6, op, bd⟩
abbrev qq (s : Nat) : WcpReq := ⟨s, 6, bd, true⟩
abbrev Q (s op : Nat) (t : State) : State := { t with wcp := { t.wcp with queue := [rq s op] } }
abbrev E (f : ErrSt → ErrSt) (s : State) : State := { s with err := f s.err }
abbrev dp : Running := ⟨rq 1 0x803, 0x1000000000, 0, 0⟩
abbrev S13_1 := E (fun e => { e with queues := [(4, [ev 1 4, ev 2 4])] }) W0
abbrev S13_2 := E (fun e => { e with queues := [(1, [ev 1 1])], running := some (ev 3 0) }) W0
abbrev S13_3 := E (fun e => { e with running := some (ev 3 2), log := List.replicate 256 (ev 8 0) }) W0
abbrev e3 : EventRec := { ev 3 3 with live := true }
abbrev S13_4 := regs [(O.errlogCtrl, 0#32)] (E (fun e => { e with running := some e3 }) W0)
abbrev tr : EventRec := ev 0x9010 4
abbrev F (f : FStage) (s : State) : State := E (fun e => { e with fence := some f, cause := some tr }) s
abbrev g0 : Wfg := ⟨[], false, 0, 0, [1], [1], none⟩
abbrev C0 : State := { W0 with cores := [(0, { Core.reset with threads := [(7, th [])] }), (255, Core.reset)] }
abbrev S13_5 := F .power { C0 with power := { PowerSt.reset with boot := .done } }
abbrev H0 : State := regs [(O.errlogCtrl, 2#32)] { C0 with weave := some { weave0 with devices := 65 } }
abbrev S13_6 := E (fun e => { e with held := some g0 }) H0
abbrev S13_7 := E (fun e => { e with collecting := some g0 }) H0
abbrev WL : State := { W (fun w => { w with running := [dp] }) P0 with dev := .idle }
abbrev S3b_1 := regs [(O.errlogCtrl, 0#32)] (E (fun e => { e with running := some e3 }) W0)

/-- What `Obligations.HandlersServe` asks of `handlerStart`, `handlerFault`, `handlerYield`, `handlerDone` can be met. -/
theorem test_meets_handlers_serve_1 :
    (tget [(4, [ev 1 4, ev 2 4])] 4 [] = [ev 1 4, ev 2 4] ∧ 4 ≤ 4 ∧ (∀ (m : Nat), 4 < m → m ≤ 4 → tget [(4, [ev 1 4, ev 2 4])] m [] = []) ∧
      handles (Q 1 7 S13_1) = true ∧ on.err.running = none ∧ on.err.suspended = []) ∧
    (on.dev ≠ DevState.boot ∧ on.dev ≠ DevState.fenced ∧ on.err.fence = none ∧ handles (Q 1 7 S13_1) = true) ∧
    (tget [(1, [ev 1 1])] 1 [] = [ev 1 1] ∧ 1 ≤ 4 ∧ (∀ (m : Nat), 1 < m → m ≤ 4 → tget [(1, [ev 1 1])] m [] = []) ∧ (ev 3 0).sev < 1) ∧
    (on.err.dump = none ∧ on.err.suspended = [] ∧ (ev 3 0).sev ≤ 2) ∧
    (on.err.dump = none ∧ on.err.suspended = [] ∧ (ev 3 2).sev ≤ 2) := by
  and_intros
  all_goals first
    | decide +kernel
    | exact fun m h g => (by decide +kernel : ∀ m ≤ 4, 4 < m → tget (Q 1 7 S13_1).err.queues m [] = []) m g h
    | exact fun m h g => (by decide +kernel : ∀ m ≤ 4, 1 < m → tget (Q 1 7 S13_2).err.queues m [] = []) m g h

/-- What `Obligations.HandlersServe` asks of `handlerDone`, `lintDump`, `handlerFault`, `lintDumpDone` can be met. -/
theorem test_meets_handlers_serve_2 :
    (on.err.dump = none ∧ on.err.suspended = [] ∧ (ev 3 3).sev = 3 ∧ (ev 3 3).code ≠ 16390 ∧ csrBit (Q 1 7 S13_4) O.errlogCtrl 2 = false) ∧
    (upNext (Q 1 2051 W0) (qq 1) 2051 false (rq 1 2051) ∧ on.err.hard = false ∧ runningBg (Q 1 2051 W0) 2051 = none) ∧
    (DevState.idle ≠ DevState.boot ∧ DevState.idle ≠ DevState.fenced ∧ on.err.fence = none ∧ handles (Q 1 7 WL) = true) ∧
    (on.power.level = 0 ∧ on.err.dump = none ∧ runningBg (Q 1 7 WL) 2051 = some dp ∧
      mayGo (Q 1 7 WL) { agent := HbmAgent.background 2051, prio := 4 } 68719476736 dumpLen = true ∧
      class2May (Q 1 7 WL) true 68719476736 dumpLen = true) ∧
    (on.err.dump = none ∧ on.err.suspended = [] ∧ (ev 3 3).sev = 3 ∧ (ev 3 3).code ≠ 16390 ∧ csrBit (Q 1 7 S3b_1) O.errlogCtrl 2 = false) := by
  unfold upNext
  decide +kernel

/-- What `Obligations.HandlersServe` asks of `handlerFault` can be met. -/
theorem test_meets_handlers_serve_3 :
    (on.dev ≠ DevState.boot ∧ on.dev ≠ DevState.fenced ∧ on.err.fence = none ∧ handles (Q 1 7 S3b_1) = true) := by
  decide +kernel

/-- What `Obligations.FencesAndGraphs` asks of `fenceLintDone`, `fenceFreezeDone`, `fenceDepartDone`, `fenceStageDone`, `fenceLinksDone`,
`fenceFlushDone`, `wfgQueryTimeout`, `fencePowerDone`, `hangCheck`, `waitfor` can be met. -/
theorem test_meets_fences_and_graphs_1 :
    (on.err.dump = none) ∧
    ((∀ d < 32, (getDom (Q 1 7 S13_5) d).st = PState.off) ∧ on.err.suspended = []) ∧
    (csrBit (Q 1 7 H0) O.errlogCtrl 1 = true ∧ on.dev = DevState.running ∧ on.err.hang = false ∧ on.err.collecting = none ∧ expands (Q 1 7 H0) = false) ∧
    (upNext (Q 1 2052 S13_6) (qq 1) 2052 false (rq 1 2052) ∧ on.err.hard = false ∧ on.err.collecting = none) ∧
    (upNext (Q 1 2052 H0) (qq 1) 2052 false (rq 1 2052) ∧ on.err.hard = false ∧ on.err.collecting = none ∧ on.err.held = none ∧
      expands (Q 1 2052 H0) = false) := by
  unfold upNext
  decide +kernel

/-- What `Obligations.FencesAndGraphs` asks of `wfgQueryRx`, `wfgReplyRx` can be met. -/
theorem test_meets_fences_and_graphs_2 :
    ((grouped H0).mend.table = some group0 ∧ (grouped H0).dev ≠ DevState.fenced) ∧
    (farNodes [({ wRank := 1, tRank := 1, waiter := 5, target := 6, reason := 1, age := 1 } : GEdge)] = []) := by
  decide +kernel

end Fences

/-! ### Power, domains and boot -/

namespace Power

abbrev regs (l : List (Nat × BitVec 32)) (s : State) : State := { s with csr := l.foldl (fun t e => tset t e.1 e.2) s.csr }
abbrev upP : Port := { Port.reset with up := true }
abbrev bd : Bind := ⟨7, 5, 6⟩
abbrev P0 : State := { regs [(O.ethMode, 0xA#32), (O.ethCtrl, 7#32)] on with ports := [(7, upP)] }
abbrev se : Session := ⟨1, 0, bd, 9#256, [1#8], [2#8], false, false, 5, [5], [⟨5, 7, 0, 0, [1#8]⟩], 3, [⟨2, 1, []⟩, ⟨3, 1, []⟩], 0, [⟨4, 7, 3000, 3,
  [(0, 5)]⟩]⟩
abbrev W (f : WcpSt → WcpSt) (s : State) : State := { s with wcp := f { s.wcp with sessions := [se] } }
abbrev W0 : State := W (fun x => x) P0
abbrev rq (s op : Nat) : Request := ⟨s, 6, op, bd⟩
abbrev qq (s : Nat) : WcpReq := ⟨s, 6, bd, true⟩
abbrev Q (s op : Nat) (t : State) : State := { t with wcp := { t.wcp with queue := [rq s op] } }
abbrev Pw (f : PowerSt → PowerSt) (s : State) : State := { s with power := f s.power }
abbrev pr : PmReading := ⟨12000, 50, false⟩
abbrev S14_1 := Pw (fun p => { p with boot := .down }) W0
abbrev S14_2 := Pw (fun p => { p with level := 6 }) W0
abbrev S14_3 := Pw (fun p => { p with thermalOff := true }) W0
abbrev S14_4 := Pw (fun p => { p with sagOff := true }) W0
abbrev S14_5 := Pw (fun p => { p with thermalOff := true, tj := [(3, (189, 100))] }) W0
abbrev Dm (d : Nat) (x : Dom) (s : State) : State := setDom s d x
abbrev Im (s : State) : State := { s with sec := { SecSt.shipped with images := [(2, ⟨1, 0, 0, [], false, 0#256⟩), (3, ⟨1, 0, 0, [], false, 0#256⟩)] } }
abbrev S14_6 := Dm 56 { Dom.offDom with mgmt := .on, queued := true } (Im W0)
abbrev S14_7 := Dm 5 { Dom.offDom with mgmt := .retention, st := .waking, fromOff := true } (Im W0)
abbrev S14_8 := { Dm 56 { Dom.offDom with mgmt := .on, st := .waking, fromOff := true } (Im W0) with act := .power, installing := some weave0, dev := .activating }
abbrev S14_9 := { Dm 31 { Dom.onDom with mgmt := .off, entering := some .off } (Im W0) with mem := [(sliceBase 31, 1#8), (sliceBase 31 + sliceBytes - 1, 1#8)] }
abbrev S14_10 := { Dm 31 { Dom.onDom with mgmt := .retention, entering := some .retention } (Im W0) with mem := [(sliceBase 31, 1#8), (sliceBase 31 + sliceBytes - 1, 1#8)] }
abbrev S14_11 := { Dm 31 { Dom.onDom with st := .retention, brownouts := 0xFFFF } (Im W0) with weave := some { weave0 with classMap := 0x80000000 }, csr := tset (Im W0).csr O.globalPartMap 0x80000000#32 }
abbrev S14_12 := { W0 with dev := .idle }
abbrev B (f : BootStage) (te : Bool) : State := { Pw (fun p => { p with boot := f, testEn := te }) W0 with dev := .boot }
abbrev B8 : State := { W0 with hbm := [(7, ⟨false, false, true, 0, false, 0, [], 0⟩)], mem := [(stackBase 7, 1#8), (stackBase 7 + 0x8FFFFFFFF, 1#8), (stackBase 7 + 0x900000000, 1#8)] }
abbrev S14_13 := { W0 with sec := { SecSt.shipped with jtag := true } }
abbrev S14_14 := { regs [(O.hbmCtrl, 3#32)] W0 with upsets := [(0x8007, .corrected)] }
abbrev S14_15 := { Dm 51 { Dom.onDom with mgmt := .off, entering := some .off } (Im (regs [(O.seamCtrl 21, 1#32)] W0)) with links := [(21, { Link.reset with st := .up, active := 15 })] }

/-- What `Obligations.PowerShedsAndResets` asks of `vinSagDown`, `vsbFall`, `capGrant`, `pmbAlert`, `vsbRise`, `junctionSensorRead`, `pmbusPoll`
can be met. -/
theorem test_meets_power_sheds_and_resets_1 :
    (on.power.boot ≠ BootStage.down ∧ on.power.sagOff = false ∧ on.power.level < 6 ∧ 6 ≤ 6 ∧ sagMv 6 ≤ sagMv 6) ∧
    (on.power.boot ≠ BootStage.down ∧ on.power.thermalOff = false ∧ 31 < 32 ∧ 210 ≤ max 210 229 ∧ max 210 229 < 230) ∧
    (on.power.boot ≠ BootStage.down ∧ csrBit (Q 1 7 W0) O.powerCtrl 1 = true ∧ 2 < 3) ∧
    (on.power.boot ≠ BootStage.down ∧ on.power.sagOff = false ∧ on.power.level < 1 ∧ 1 ≤ 6 ∧ sagMv 1 ≤ sagMv 1) ∧
    (on.power.boot ≠ BootStage.down ∧ on.power.thermalOff = false ∧ 31 < 32 ∧ max 203 203 < 204) := by
  decide +kernel

/-- What `Obligations.PowerShedsAndResets` asks of `sagLevelReturn`, `junctionSensorRead`, `pmbusPoll`, `vinSagDown`, `vinReset` can be met. -/
theorem test_meets_power_sheds_and_resets_2 :
    (on.power.boot ≠ BootStage.down ∧ 0 < 6 ∧ sagMv 6 + 10 ≤ sagMv 6 + 10) ∧
    (on.power.boot ≠ BootStage.down ∧ on.power.thermalOff = false ∧ 31 < 32 ∧ 230 ≤ max 230 203) ∧
    (on.power.boot ≠ BootStage.down ∧ csrBit (Q 1 7 S14_2) O.powerCtrl 1 = true ∧ 2 < 3) ∧
    (on.power.boot ≠ BootStage.down ∧ on.power.sagOff = false ∧ on.power.level < 6 ∧ 6 ≤ 6 ∧ 1599 ≤ sagMv 6) ∧
    (on.power.boot ≠ BootStage.down ∧ on.power.sagOff = false ∧ on.power.thermalOff = false ∧ 1599 < 1600) := by
  decide +kernel

/-- What `Obligations.PowerShedsAndResets` asks of `pmbusPoll`, `thermalRecoverBoot`, `vinRecoverBoot` can be met. -/
theorem test_meets_power_sheds_and_resets_3 :
    (on.power.boot ≠ BootStage.down ∧ csrBit (Q 1 7 W0) O.powerCtrl 1 = true ∧ 0 < 3) ∧
    (on.power.boot ≠ BootStage.down ∧ (∀ e ∈ on.power.tj, max e.2.1 e.2.2 < 190)) ∧
    (on.power.boot ≠ BootStage.down ∧ 1746 ≤ 1746) ∧
    (on.power.boot ≠ BootStage.down ∧ (∀ e ∈ [(3, 189, 100)], max e.2.1 e.2.2 < 190)) ∧
    (on.power.boot ≠ BootStage.down ∧ csrBit (Q 1 7 S14_5) O.powerCtrl 1 = true ∧ 0 < 3) := by
  decide +kernel

/-- What `Obligations.PowerShedsAndResets` asks of `pmbusPoll`, `powerCap`, `telemetry` can be met. -/
theorem test_meets_power_sheds_and_resets_4 :
    (on.power.boot ≠ BootStage.down ∧ csrBit (Q 1 7 (regs [(O.powerCtrl, 3#32)] W0)) O.powerCtrl 1 = true ∧ 0 < 3) ∧
    (upNext (Q 1 1795 W0) (qq 1) 1795 false (rq 1 1795) ∧ on.dev ≠ DevState.fenced ∧ 400 ≤ 1200 ∧ 1200 ≤ 1200) ∧
    (upNext (Q 1 1795 W0) (qq 1) 1795 false (rq 1 1795) ∧ on.dev ≠ DevState.fenced ∧ 400 ≤ 400 ∧ 400 ≤ 1200) ∧
    (upNext (Q 1 1793 W0) (qq 1) 1793 false (rq 1 1793)) := by
  unfold upNext
  decide +kernel

/-- What `Obligations.PowerShedsAndResets` asks of `wcpReset` can be met. -/
theorem test_meets_power_sheds_and_resets_5 :
    (upNext (Q 1 1796 W0) (qq 1) 1796 false (rq 1 1796) ∧ 1 ≠ 0 ∧ findSession (begun (Q 1 1796 W0) (qq 1) 1796 (rq 1 1796)) 1 = some se) := by
  unfold upNext
  decide +kernel

/-- What `Obligations.DomainsMove` asks of `domainWakeStart`, `regulatorOrPllFault`, `domainWakeDone`, `domainWakeTimeout`, `domainEntryDone`
can be met. -/
theorem test_meets_domains_move_1 :
    (56 < 57 ∧ (getDom (Q 1 7 S14_6) 56).queued = true ∧ demanded (Q 1 7 S14_6) 56 ≠ PState.off ∧ nextInQueue (Q 1 7 S14_6) 56 = true ∧
      wakingFromOff (Q 1 7 S14_6) < 4) ∧
    ((getDom (Q 1 7 S14_7) 5).st = PState.waking) ∧
    ((getDom (Q 1 7 S14_8) 56).st = PState.waking) ∧
    (((getDom (Q 1 7 S14_8) 56).st = PState.waking ∨ (getDom (Q 1 7 S14_8) 56).entering.isSome = true)) ∧
    ((getDom (Q 1 7 S14_10) 31).entering = some PState.retention ∧ demanded (Q 1 7 S14_10) 31 = PState.retention) := by
  decide +kernel

/-- What `Obligations.DomainsMove` asks of `domainBrownout`, `domainSet`, `domainEntryDone` can be met. -/
theorem test_meets_domains_move_2 :
    (31 < 57 ∧ (getDom (Q 1 7 S14_11) 31).st = PState.retention) ∧
    (upNext (Q 1 1794 W0) (qq 1) 1794 false (rq 1 1794) ∧ on.dev ≠ DevState.fenced ∧ 51 < 54 ∧ 51 ≠ 52 ∧ 2 ≤ 2 ∧
      domainBarred (Q 1 1794 W0) 51 2 = false) ∧
    (upNext (Q 1 1794 S14_12) (qq 1) 1794 false (rq 1 1794) ∧ DevState.idle ≠ DevState.fenced ∧ 53 < 54 ∧ 53 ≠ 52 ∧ 0 ≤ 2 ∧
      domainBarred (Q 1 1794 S14_12) 53 0 = false) ∧
    ((getDom (Q 1 7 S14_15) 51).entering = some PState.off ∧ demanded (Q 1 7 S14_15) 51 = PState.off) ∧
    ((getDom (Q 1 7 S14_9) 31).entering = some PState.off ∧ demanded (Q 1 7 S14_9) 31 = PState.off) := by
  unfold upNext
  decide +kernel

/-- What `Obligations.BootAndStacks` asks of `romStartDone`, `hbmTempRead`, `scrubPass`, `jtagIdcode`, `jtagBypass` can be met. -/
theorem test_meets_boot_and_stacks_1 :
    (bootsFrom (B BootStage.romStart false) BootStage.romStart = true) ∧
    (0 < 8 ∧ domRuns (B BootStage.romStart false) (32 + 0 / 2) = true ∧ (getStack (B BootStage.romStart false) 0).hot = false ∧ 0 < 200) ∧
    (scrubs (B BootStage.romStart false) 0 = true ∧ on.upsets = [] ∧ placeOf 0 ≠ Place.reserved ∧
      roleOf (B BootStage.romStart false) (classOfPage (B BootStage.romStart false) (pageOf 0)) (pageOf (0 / 8 * 8)) ≠ 1 ∧
      hasRoom (B BootStage.romStart false) 2 ∧ hasRoom (B BootStage.romStart false) 3) ∧
    (BootStage.romStart ≠ BootStage.down) ∧
    (bootsFrom (B BootStage.romStart true) BootStage.romStart = true) := by
  unfold hasRoom
  decide +kernel

/-- What `Obligations.BootAndStacks` asks of `selfTestDone`, `railsDone`, `railsRetry`, `uncoreDone`, `hbmTempRead` can be met. -/
theorem test_meets_boot_and_stacks_2 :
    (bootsFrom (B BootStage.selfTest false) BootStage.selfTest = true) ∧
    (bootsFrom (B BootStage.rails false) BootStage.rails = true) ∧
    (bootsFrom (B BootStage.uncore false) BootStage.uncore = true ∧ (∀ d ∈ [52, 54, 55, 56], domRuns (B BootStage.uncore false) d = true)) ∧
    (7 < 8 ∧ domRuns W0 (32 + 7 / 2) = true ∧ (getStack W0 7).hot = false ∧ 199 < 200) ∧
    (7 < 8 ∧ domRuns W0 (32 + 7 / 2) = true ∧ (getStack W0 7).hot = false ∧ 200 ≤ 511 ∧ on.dev ≠ DevState.boot ∧ on.dev ≠ DevState.fenced ∧
      on.err.fence = none) := by
  decide +kernel

/-- What `Obligations.BootAndStacks` asks of `hbmTempRead`, `hbmTrainingDone`, `scrubPass`, `jtagIdcode`, `jtagBypass`, `jtagReset` can be met. -/
theorem test_meets_boot_and_stacks_3 :
    (7 < 8 ∧ domRuns W0 (32 + 7 / 2) = true ∧ (getStack W0 7).hot = false ∧ 200 ≤ 200 ∧ on.dev ≠ DevState.boot ∧ on.dev ≠ DevState.fenced ∧
      on.err.fence = none) ∧
    ((getStack B8 7).training = true) ∧
    (scrubs (regs [(O.hbmCtrl, 3#32)] W0) 32775 = true ∧ on.upsets = [] ∧ placeOf 32775 ≠ Place.reserved ∧
      roleOf (regs [(O.hbmCtrl, 3#32)] W0) (classOfPage (regs [(O.hbmCtrl, 3#32)] W0) (pageOf 32775)) (pageOf (32775 / 8 * 8)) ≠ 1 ∧
      hasRoom (regs [(O.hbmCtrl, 3#32)] W0) 2 ∧ hasRoom (regs [(O.hbmCtrl, 3#32)] W0) 3) ∧
    (on.power.boot ≠ BootStage.down) ∧
    (scrubs S14_14 32775 = true) := by
  unfold hasRoom
  decide +kernel

/-- What the clauses of `Obligations.DomainsMove` on the domain of an optical engine ask. -/
theorem test_meets_domains_move_engine :
    let s := setDom State.reset 51 { Dom.offDom with st := .waking }
    let t := setDom State.reset 51 { Dom.onDom with mgmt := .off, entering := some .off }
    ((getDom s 51).st = .waking ∧ (getDom s 51).fromOff = false) ∧ ((getDom t 51).entering = some .off ∧ demanded t 51 = .off) := by
  decide +kernel

/-- Table 10 of *Seam links and co-packaged optics*: an engine whose domain comes on without firmware reads NO_FIRMWARE. -/
theorem test_engine_without_firmware :
    (match execDomainWakeDone 51 (setDom State.reset 51 { Dom.offDom with st := .waking }) with
      | .next u => (getOe u 7).st
      | _ => 9) = 1 := by
  decide +kernel

end Power

end Sys2Proof.Tests
end

section
/-! SUPPORT. Laws of bit fields and of stored CSRs: what a field reads after a field was set, and what setting one leaves
alone. -/

namespace Sys2Proof

/-- The bits of a field of a number. -/
theorem testBit_bitsOf (n hi lo i : Nat) : (bitsOf n hi lo).testBit i = (decide (i < hi + 1 - lo) && n.testBit (lo + i)) := by
  rw [bitsOf, Nat.testBit_mod_two_pow, Nat.testBit_shiftRight]

/-- A field of one bit is 1 where that bit is set. -/
theorem bitsOf_bit_eq_one_iff (n i : Nat) : bitsOf n i i = 1 ↔ n.testBit i = true := by
  rw [Nat.testBit_eq_decide_div_mod_eq, decide_eq_true_eq, bitsOf, Nat.shiftRight_eq_div_pow, Nat.add_sub_cancel_left, Nat.pow_one]

/-- A number with a field replaced, as what stands above the field, the field, and what stands below it. -/
theorem setBits_eq (n hi lo v : Nat) :
    setBits n hi lo v =
      2 ^ lo * (2 ^ (hi + 1 - lo) * (n / 2 ^ lo / 2 ^ (hi + 1 - lo)) + v % 2 ^ (hi + 1 - lo)) + n % 2 ^ lo := by
  have hlow := Nat.div_add_mod n (2 ^ lo)
  have hfield := congrArg (2 ^ lo * ·) (Nat.div_add_mod (n / 2 ^ lo) (2 ^ (hi + 1 - lo)))
  simp only [Nat.mul_add] at hfield
  simp only [setBits, bitsOf, Nat.shiftRight_eq_div_pow, Nat.shiftLeft_eq, Nat.mul_add, Nat.mul_comm _ (2 ^ lo)]
  omega

/-- The bits of a number with a field replaced. -/
theorem testBit_setBits (n hi lo v i : Nat) :
    (setBits n hi lo v).testBit i = if lo ≤ i ∧ i < lo + (hi + 1 - lo) then v.testBit (i - lo) else n.testBit i := by
  rw [setBits_eq, Nat.testBit_two_pow_mul_add _ (Nat.mod_lt _ (Nat.two_pow_pos _)),
    Nat.testBit_two_pow_mul_add _ (Nat.mod_lt _ (Nat.two_pow_pos _))]
  by_cases hlo : i < lo
  · simp [hlo, Nat.testBit_mod_two_pow, show ¬ lo ≤ i by omega]
  · by_cases hhi : i - lo < hi + 1 - lo
    · simp [hlo, hhi, Nat.testBit_mod_two_pow, show lo ≤ i ∧ i < lo + (hi + 1 - lo) by omega]
    · rw [if_neg hlo, if_neg hhi, if_neg (by omega), Nat.testBit_div_two_pow, Nat.testBit_div_two_pow]
      congr 1
      omega

/-- A field that was set reads what it was set to. -/
@[simp] theorem bitsOf_setBits_same (n hi lo v : Nat) : bitsOf (setBits n hi lo v) hi lo = v % 2 ^ (hi + 1 - lo) := by
  refine Nat.eq_of_testBit_eq fun i => ?_
  rw [testBit_bitsOf, testBit_setBits, Nat.testBit_mod_two_pow]
  by_cases hi' : i < hi + 1 - lo <;> simp [hi']

/-- Setting a field leaves a field above or below it. -/
theorem bitsOf_setBits_other (n v : Nat) {hi lo hi' lo' : Nat} (h : hi' < lo ∨ hi < lo') :
    bitsOf (setBits n hi lo v) hi' lo' = bitsOf n hi' lo' := by
  refine Nat.eq_of_testBit_eq fun i => ?_
  rw [testBit_bitsOf, testBit_bitsOf, testBit_setBits]
  by_cases hi' : i < hi' + 1 - lo'
  · rw [if_neg (by omega)]
  · simp [hi']

/-- The low 32 bits hold every field of a 32-bit register. -/
theorem bitsOf_mod_word (n lo : Nat) {hi : Nat} (h : hi < 32) : bitsOf (n % 2 ^ 32) hi lo = bitsOf n hi lo := by
  refine Nat.eq_of_testBit_eq fun i => ?_
  rw [testBit_bitsOf, testBit_bitsOf, Nat.testBit_mod_two_pow]
  by_cases hi' : i < hi + 1 - lo
  · simp [show lo + i < 32 by omega]
  · simp [hi']

/-- Setting all 32 bits of a 32-bit number replaces it. -/
theorem setBits_word {n : Nat} (v : Nat) (h : n < 2 ^ 32) : setBits n 31 0 v = v % 2 ^ 32 := by
  rw [setBits_eq, Nat.pow_zero, Nat.div_one, Nat.div_eq_of_lt h]
  simp [Nat.mod_one]

end Sys2Proof

namespace Sys2Proof.Machine

/-! ### Stored registers -/

/-- A register holds 32 bits, as its reset value does. -/
theorem csrGet_lt (s : State) {o : Nat} (h : csrResetVal o < 2 ^ 32) : csrGet s o < 2 ^ 32 := by
  unfold csrGet
  split
  · exact BitVec.isLt _
  · exact h

/-- A field of a register reads what was stored in it. -/
theorem csrBits_csrPutBits_same (s : State) (o lo v : Nat) {hi : Nat} (h : hi < 32) :
    csrBits (csrPutBits s o hi lo v) o hi lo = v % 2 ^ (hi + 1 - lo) := by
  rw [csrBits, csrPutBits, csrGet_csrPut_same, bitsOf_mod_word _ _ h, bitsOf_setBits_same]

/-- A store to a field leaves the other fields of its register. -/
theorem csrBits_csrPutBits_other (s : State) (o v : Nat) {hi lo hi' lo' : Nat} (h' : hi' < 32) (h : hi' < lo ∨ hi < lo') :
    csrBits (csrPutBits s o hi lo v) o hi' lo' = csrBits s o hi' lo' := by
  rw [csrBits, csrPutBits, csrGet_csrPut_same, bitsOf_mod_word _ _ h', bitsOf_setBits_other _ _ h, csrBits]

theorem csrGet_bump_other (s : State) (k : Nat) {o p : Nat} (h : p ≠ o) : csrGet (bump s o k) p = csrGet s p :=
  csrGet_csrPut_other s _ h

theorem csrGet_bump16_other (s : State) (k : Nat) {o p : Nat} (h : p ≠ o) : csrGet (bump16 s o k) p = csrGet s p :=
  csrGet_csrPut_other s _ h

/-- A 16-bit counter reads its count, held at its top. -/
theorem csrBits_bump16 (s : State) (o k : Nat) : csrBits (bump16 s o k) o 15 0 = min (csrBits s o 15 0 + k) 0xFFFF := by
  rw [bump16, csrBits_csrPutBits_same _ _ _ _ (by decide)]
  omega

/-- A bit of a register as a bit of its value. -/
theorem csrBit_eq_testBit (s : State) (o i : Nat) : csrBit s o i = (csrGet s o).testBit i := by
  simp only [csrBit, csrBits, bitsOf_bit_eq_one_iff, Bool.decide_eq_true]

end Sys2Proof.Machine
end

section
/-! SUPPORT. Laws of the frames that leave the device and of events: which parts of the state `emit`, a response and an event
of severity NOTE can change. -/

namespace Sys2Proof.Machine

/-! ### Output -/

/-- Handing a frame to its port changes the counters, the egress queues and the frames that have left alone. -/
theorem toEgress_eq_with (s : State) (e : EthOut) :
    ∃ csr egress wire, toEgress s e = { s with csr := csr, egress := egress, wire := wire } := by
  unfold toEgress
  simp only
  split
  · exact ⟨_, _, _, rfl⟩
  · split <;> exact ⟨_, _, _, rfl⟩

/-- Handing frames to their ports changes the counters, the egress queues and the frames that have left alone. -/
theorem foldl_toEgress_eq_with (l : List EthOut) (s : State) :
    ∃ csr egress wire, l.foldl toEgress s = { s with csr := csr, egress := egress, wire := wire } := by
  induction l generalizing s with
  | nil => exact ⟨_, _, _, rfl⟩
  | cons e l ih =>
    obtain ⟨_, _, _, he⟩ := toEgress_eq_with s e
    obtain ⟨_, _, _, hl⟩ := ih (toEgress s e)
    rw [List.foldl_cons, hl, he]
    exact ⟨_, _, _, rfl⟩

/-- Sending changes what the device has sent, its counters, its egress queues and the frames that have left alone. -/
theorem emit_eq_with (s : State) (e : Emit) :
    ∃ csr egress wire, s.emit e = { s with out := e :: s.out, csr := csr, egress := egress, wire := wire } :=
  foldl_toEgress_eq_with (e.ethFrames s) { s with out := e :: s.out }

@[simp] theorem emit_mem (s : State) (e : Emit) : (s.emit e).mem = s.mem := by
  obtain ⟨_, _, _, h⟩ := emit_eq_with s e
  rw [h]

@[simp] theorem emit_mend (s : State) (e : Emit) : (s.emit e).mend = s.mend := by
  obtain ⟨_, _, _, h⟩ := emit_eq_with s e
  rw [h]

@[simp] theorem emit_ports (s : State) (e : Emit) : (s.emit e).ports = s.ports := by
  obtain ⟨_, _, _, h⟩ := emit_eq_with s e
  rw [h]

/-- A response leaves memory. -/
@[simp] theorem respond_mem (s : State) (r : Request) (status detail : Nat) (body : List Byte) :
    (respond s r status detail body).mem = s.mem := by
  unfold respond
  split
  · exact emit_mem _ _
  · split
    · exact emit_mem _ _
    · rfl

/-- Ending a command whose response waited leaves memory. -/
@[simp] theorem endDeferred_mem (s : State) (x : Running) (status detail : Nat) (body : List Byte) :
    (endDeferred s x status detail body).mem = s.mem := respond_mem _ _ _ _ _

@[simp] theorem sendCtl_mem (s : State) (n : Nat) (c : CtlFlit) : (sendCtl s n c).mem = s.mem := by
  unfold sendCtl
  simp only
  split
  · rfl
  · exact emit_mem _ _

@[simp] theorem sendCtl_mend (s : State) (n : Nat) (c : CtlFlit) : (sendCtl s n c).mend = s.mend := by
  unfold sendCtl
  simp only
  split
  · rfl
  · exact emit_mend _ _

/-- A fold whose every step keeps a part of the state keeps it. -/
theorem foldl_keeps {σ α β : Type} (f : σ → α → σ) (g : σ → β) (h : ∀ s a, g (f s a) = g s) (l : List α) (s : σ) :
    g (l.foldl f s) = g s := by
  induction l generalizing s with
  | nil => rfl
  | cons a l ih => rw [List.foldl_cons, ih, h]

@[simp] theorem announceIds_mem (s : State) : (announceIds s).mem = s.mem :=
  foldl_keeps _ State.mem (fun s n => by split <;> simp) _ s

@[simp] theorem announceIds_mend (s : State) : (announceIds s).mend = s.mend :=
  foldl_keeps _ State.mend (fun s n => by split <;> simp) _ s

/-! ### Events -/

/-- Raising an event of severity NOTE changes the error state and the register table alone. -/
theorem raise_note_eq_with (s : State) (code cls srcKind src : Nat) (info : List Nat) :
    ∃ csr err, raise s code 0 cls srcKind src info = { s with csr := csr, err := err } := by
  unfold raise placeEvent
  simp only [OfNat.zero_ne_ofNat, false_and, if_false]
  split
  · exact ⟨_, _, rfl⟩
  · split <;> exact ⟨_, _, rfl⟩

@[simp] theorem raise_note_ports (s : State) (code cls srcKind src : Nat) (info : List Nat) :
    (raise s code 0 cls srcKind src info).ports = s.ports := by
  obtain ⟨_, _, h⟩ := raise_note_eq_with s code cls srcKind src info
  rw [h]

/-- Whether a register lies outside the ERRLOG block, where events count. -/
def outsideErrlog (o : Nat) : Prop := o < 0x20000 ∨ 0x30000 ≤ o

/-- Counting an occurrence of a 16-bit code leaves every register outside ERRLOG. -/
theorem csrGet_countEvent (s : State) {code sev o : Nat} (hcode : code < 0x10000) (hsev : sev ≤ 4) (ho : outsideErrlog o) :
    csrGet (countEvent s code sev) o = csrGet s o := by
  unfold outsideErrlog at ho
  have harea : o ≠ O.errlogCntArea (areaOf code - 1) := by simp only [O.errlogCntArea, areaOf]; omega
  have hcnt : o ≠ O.errlogCntNote + 4 * sev := by simp only [O.errlogCntNote]; omega
  exact (csrGet_bump_other _ _ hcnt).trans (csrGet_bump_other _ _ harea)

@[simp] theorem csrGet_withErr (s : State) (f : ErrSt → ErrSt) (o : Nat) : csrGet (s.withErr f) o = csrGet s o := rfl

/-- Queueing a record leaves every register outside ERRLOG. -/
theorem csrGet_enqueue (s : State) {sev o : Nat} (r : EventRec) (hcode : r.code < 0x10000) (hsev : sev ≤ 4)
    (ho : outsideErrlog o) : csrGet (enqueue s sev r) o = csrGet s o := by
  have hseq : o ≠ O.errlogSeq := by unfold outsideErrlog at ho; simp only [O.errlogSeq]; omega
  simp only [enqueue, takeSeq]
  rw [csrGet_withErr, csrGet_csrPut_other _ _ hseq, csrGet_countEvent s hcode hsev ho]

/-- An event of severity NOTE leaves every register outside ERRLOG. -/
theorem csrGet_raise_note (s : State) {code o : Nat} (cls srcKind src : Nat) (info : List Nat) (hcode : code < 0x10000)
    (ho : outsideErrlog o) : csrGet (raise s code 0 cls srcKind src info) o = csrGet s o := by
  have hcount := csrGet_countEvent s hcode (Nat.zero_le 4) ho
  unfold raise placeEvent
  simp only [OfNat.zero_ne_ofNat, false_and, if_false]
  split
  · exact hcount
  · split
    · exact csrGet_enqueue s _ hcode (Nat.zero_le 4) ho
    · have hlost : o ≠ O.errlogLost := by unfold outsideErrlog at ho; simp only [O.errlogLost]; omega
      exact (csrGet_bump_other _ _ hlost).trans hcount

end Sys2Proof.Machine
end

section
/-! SUPPORT. Laws of a CSR write: when it reaches its register (R40, R44, R539), what it stores by the access code of each
field (R12), and what each register with an effect of its own does. -/

namespace Sys2Proof.Machine

/-! ### From a write to its effect -/

/-- A write outside every block counts in `GLOBAL.CSR_MISS`. -/
theorem hostWrite_miss (s : State) {off : Nat} (v : BitVec 32) (h : csrLocate off = none) :
    hostWrite s off v = bump16 s O.globalCsrMiss := by
  simp [hostWrite, csrWrite, h]

/-- A write that the state refuses changes nothing. -/
theorem hostWrite_busy (s : State) {off : Nat} (v : BitVec 32) (hl : (csrLocate off).isSome = true)
    (hb : writeBusy s off = true) : hostWrite s off v = s := by
  simp [hostWrite, csrWrite, Option.isNone_eq_false_iff.mpr hl, hb]

/-- A write that is neither refused nor lost in a dark block has its register's effect. -/
theorem hostWrite_eq_effect (s : State) {off : Nat} (v : BitVec 32) (hl : (csrLocate off).isSome = true)
    (hb : writeBusy s off = false) (hd : blockDark s off = false) : hostWrite s off v = (csrEffect s off v).1 := by
  simp [hostWrite, csrWrite, Option.isNone_eq_false_iff.mpr hl, hb, hd]

/-- In ACTIVATING every register of PRU, MANGLE, GROUP and MEND is refused (R40). -/
theorem writeBusy_activating (s : State) {off : Nat} (hs : s.dev = .activating) (hlo : 0x40000 ≤ off) (hhi : off < 0x80000) :
    writeBusy s off = true := by
  simp [writeBusy, activationGuards, hs, hlo, hhi]

/-- The blocks of management are never dark. -/
theorem blockDark_management (s : State) {off : Nat} (h : off < 0x40000) : blockDark s off = false := by
  simp [blockDark, show ¬ 0x40000 ≤ off by omega]

/-- The blocks of management and security are refused in no state. -/
theorem writeBusy_management (s : State) {off : Nat} (h : off < 0x40000) : writeBusy s off = false := by
  have hguard : activationGuards off = false := by simp [activationGuards]; omega
  have hcore : ¬ 0x100000 ≤ off := by omega
  have hown : ¬ ((0x50100 ≤ off ∧ off < 0x50180) ∨ (O.mangleTagW 0 ≤ off ∧ off < O.mangleTagW 16) ∨ off = O.groupSeed) := by
    simp only [O.mangleTagW, O.groupSeed]
    omega
  simp [writeBusy, hguard, hcore, hown]

/-- A write to a block of management has its register's effect in every state. -/
theorem hostWrite_management (s : State) {off : Nat} (v : BitVec 32) (hl : (csrLocate off).isSome = true) (h : off < 0x40000) :
    hostWrite s off v = (csrEffect s off v).1 :=
  hostWrite_eq_effect s v hl (writeBusy_management s h) (blockDark_management s h)

/-- Whether neither an activation (R40) nor a hard fence (R539) keeps a write from its register. -/
def writesFree (s : State) : Prop := s.dev ≠ .activating ∧ s.err.hard = false

/-- A write to a block that asks no more of the state than `writesFree` has its register's effect. -/
theorem hostWrite_free (s : State) {off : Nat} (v : BitVec 32) (hs : writesFree s) (hl : (csrLocate off).isSome = true)
    (hcore : off < 0x100000) (hmangle : off < 0x50000 ∨ 0x60000 ≤ off) (hseed : off ≠ O.groupSeed) :
    hostWrite s off v = (csrEffect s off v).1 := by
  obtain ⟨hdev, hhard⟩ := hs
  refine hostWrite_eq_effect s v hl ?_ (by simp [blockDark, hhard])
  have hown : ¬ ((0x50100 ≤ off ∧ off < 0x50180) ∨ (O.mangleTagW 0 ≤ off ∧ off < O.mangleTagW 16) ∨ off = O.groupSeed) := by
    simp only [O.mangleTagW]
    omega
  simp [writeBusy, hdev, Nat.not_le.mpr hcore, hown]

/-! ### What a write stores (R12) -/

/-- The value of a register after the write of one of its fields, by the field's access code. -/
def fieldWritten (s : State) (off v w : Nat) (f : Fld) : Nat :=
  match f.acc with
  | .rw => if fieldTakes s off f v then setBits w f.hi f.lo (bitsOf (heldBits off v) f.hi f.lo) else w
  | .rwl => if csrBit s O.globalLock 0 then w else setBits w f.hi f.lo (bitsOf v f.hi f.lo)
  | .w1c => if bitsOf v f.hi f.lo = 1 then setBits w f.hi f.lo 0 else w
  | _ => w

/-- A write goes through the fields of its register in turn. -/
theorem writtenValue_eq_foldl (s : State) (off v : Nat) :
    writtenValue s off v = (csrFields off).foldl (fieldWritten s off v) (csrGet s off) := rfl

theorem fieldWritten_ro (s : State) (off v w : Nat) {f : Fld} (h : f.acc = .ro) : fieldWritten s off v w f = w := by
  simp [fieldWritten, h]

theorem fieldWritten_rwl_locked (s : State) (off v w : Nat) {f : Fld} (h : f.acc = .rwl)
    (hlock : csrBit s O.globalLock 0 = true) : fieldWritten s off v w f = w := by
  simp [fieldWritten, h, hlock]

/-- A register whose every field a write leaves keeps its value. -/
theorem writtenValue_eq_self (s : State) (off v : Nat) (h : ∀ f ∈ csrFields off, ∀ w, fieldWritten s off v w f = w) :
    writtenValue s off v = csrGet s off := by
  rw [writtenValue_eq_foldl]
  generalize csrGet s off = w
  generalize csrFields off = l at h
  induction l with
  | nil => rfl
  | cons f l ih =>
    rw [List.foldl_cons, h f List.mem_cons_self w]
    exact ih fun g hg => h g (List.mem_cons_of_mem _ hg)

/-- A W1C field of one bit is cleared by writing 1 to it, and the write leaves every other bit. -/
theorem testBit_fieldWritten_w1c (s : State) (off v w i : Nat) {f : Fld} (hacc : f.acc = .w1c) (hbit : f.hi = f.lo) :
    (fieldWritten s off v w f).testBit i = (w.testBit i && !(decide (f.lo = i) && v.testBit i)) := by
  simp only [fieldWritten, hacc, hbit, bitsOf_bit_eq_one_iff]
  by_cases hv : v.testBit f.lo = true
  · rw [if_pos hv, testBit_setBits]
    by_cases hi : f.lo = i
    · subst hi; simp [hv]
    · rw [if_neg (by omega)]
      simp [hi]
  · rw [if_neg hv]
    by_cases hi : f.lo = i
    · subst hi; simp [hv]
    · simp [hi]

/-- In a register of W1C fields of one bit each, a write clears the fields written as 1 and leaves every other bit. -/
theorem testBit_foldl_w1c (s : State) (off v i : Nat) (l : List Fld) (w : Nat) (h : ∀ f ∈ l, f.acc = .w1c ∧ f.hi = f.lo) :
    (l.foldl (fieldWritten s off v) w).testBit i = (w.testBit i && !(l.any (fun f => decide (f.lo = i)) && v.testBit i)) := by
  induction l generalizing w with
  | nil => simp
  | cons f l ih =>
    obtain ⟨hacc, hbit⟩ := h f List.mem_cons_self
    rw [List.foldl_cons, ih _ fun g hg => h g (List.mem_cons_of_mem _ hg), testBit_fieldWritten_w1c s off v w i hacc hbit,
      List.any_cons]
    cases w.testBit i <;> cases v.testBit i <;> simp

/-- A store that keeps the value changes nothing. -/
theorem csrStore_eq_self (s : State) {off v : Nat} (h : writtenValue s off v = csrGet s off) : csrStore s off v = s :=
  if_pos h

/-- A store changes the register table alone. -/
theorem csrStore_eq_with (s : State) (off v : Nat) : csrStore s off v = { s with csr := (csrStore s off v).csr } := by
  unfold csrStore
  split <;> rfl

theorem csrGet_csrStore_other (s : State) (v : Nat) {off o : Nat} (h : o ≠ off) :
    csrGet (csrStore s off v) o = csrGet s o := by
  unfold csrStore
  split
  · rfl
  · exact csrGet_csrPut_other _ _ h

/-- A register of 32 bits reads the value that a store gave it. -/
theorem csrGet_csrStore_same (s : State) (v : Nat) {off : Nat} (h : csrResetVal off < 2 ^ 32) :
    csrGet (csrStore s off v) off = writtenValue s off v % 2 ^ 32 := by
  unfold csrStore
  split
  · rename_i hkeep
    rw [hkeep, Nat.mod_eq_of_lt (csrGet_lt s h)]
  · exact csrGet_csrPut_same _ _ _

/-! ### Registers with an effect of their own -/

/-- A write to a register of GLOBAL other than `BOARD_TAG` only stores. -/
theorem csrEffect_global (s : State) {off : Nat} (v : BitVec 32) (h : off < 0x10000) (htag : off ≠ O.globalBoardTag) :
    csrEffect s off v = (csrStore s off v.toNat, 0) := by
  have below : ∀ o, 0x10000 ≤ o → off ≠ o ∧ ¬ o ≤ off := fun o ho => ⟨by omega, by omega⟩
  simp [csrEffect, htag, below O.powerCtrl (by decide), below O.errlogClear (by decide), below (O.pruEntryW 0) (by decide),
    below O.pruApplyStep (by decide), below O.pruPending (by decide), below (O.mangleTagW 0) (by decide),
    below O.groupCtrl (by decide), below 0x80000 (by decide), below O.ethMode (by decide), below (O.ethpPstatus 0) (by decide),
    below 0x100000 (by decide)]

/-- A host's write to a register of GLOBAL other than `BOARD_TAG` stores by the access codes of its fields. -/
theorem hostWrite_global (s : State) {off : Nat} (v : BitVec 32) (h : off < 0x10000) (htag : off ≠ O.globalBoardTag) :
    hostWrite s off v = csrStore s off v.toNat := by
  have hl : (csrLocate off).isSome = true := by simp [csrLocate, h]
  rw [hostWrite_management s v hl (by omega), csrEffect_global s v h htag]

/-- A write to a word of the PRU entry window changes that word of the pending entry (R170). -/
theorem csrEffect_pruEntryW (s : State) {n : Nat} (v : BitVec 32) (hn : n < 16) :
    csrEffect s (O.pruEntryW n) v = (writePending s n v, 0) := by
  interval_cases n <;> rfl

/-- A write to `ETH.IPV4_ADDR` of a port is the host's write of its address (R470). -/
theorem csrEffect_ethpIpv4Addr (s : State) {n : Nat} (v : BitVec 32) (hn : n < 8) :
    csrEffect s (O.ethpIpv4Addr n) v = (writeIpv4 s n v.toNat, 0) := by
  interval_cases n <;> rfl

/-- What releasing the live table leaves (R384): no table, and memory as it was. -/
theorem releaseGroup_table_mem (s : State) : (releaseGroup s).mend.table = none ∧ (releaseGroup s).mem = s.mem := by
  unfold releaseGroup
  split
  · rename_i hnone
    exact ⟨Option.isNone_iff_eq_none.mp hnone, rfl⟩
  · simp only [announceIds_mend, announceIds_mem]
    exact ⟨rfl, foldl_keeps _ State.mem (fun s x => endDeferred_mem s x _ _ _) _ s⟩

/-! ### Ethernet ports -/

@[simp] theorem getPort_setPort_same (s : State) (p : Nat) (x : Port) : getPort (setPort s p x) p = x := by
  simp [getPort, setPort]

theorem getPort_setPort_other (s : State) {p q : Nat} (x : Port) (h : q ≠ p) : getPort (setPort s p x) q = getPort s q := by
  simp [getPort, setPort, tget_tset_other _ _ _ h]

/-- Two states with the same table of ports have the same ports. -/
theorem getPort_congr {s t : State} (h : s.ports = t.ports) (p : Nat) : getPort s p = getPort t p :=
  congrArg (tget · p Port.reset) h

/-- Taking a port down takes its link down and no other. -/
theorem up_portDown (s : State) (p q : Nat) : (getPort (portDown s p) q).up = ((getPort s q).up && decide (q ≠ p)) := by
  unfold portDown
  split
  · rw [getPort_congr (raise_note_ports ..)]
    by_cases h : q = p
    · simp [h]
    · rw [getPort_setPort_other _ _ h]
      simp [h, getPort]
  · rename_i hdown
    by_cases h : q = p <;> simp_all

/-- Taking a port down leaves every register outside ERRLOG. -/
theorem csrGet_portDown (s : State) (p : Nat) {o : Nat} (h : outsideErrlog o) : csrGet (portDown s p) o = csrGet s o := by
  unfold portDown
  split
  · exact csrGet_raise_note _ _ _ _ _ (by decide) h
  · rfl

/-- Taking ports of one side down takes their links down and no other. -/
theorem up_foldl_portDown (b q : Nat) (l : List Nat) (s : State) :
    (getPort (l.foldl (fun s i => portDown s (b + i)) s) q).up =
      ((getPort s q).up && decide (∀ i ∈ l, q ≠ b + i)) := by
  induction l generalizing s with
  | nil => simp
  | cons i l ih => rw [List.foldl_cons, ih, up_portDown, Bool.and_assoc]; simp

/-- Taking a side down takes its four links down and no other. -/
theorem up_sideDown (s : State) (side q : Nat) :
    (getPort (sideDown s side) q).up = ((getPort s q).up && !decide (4 * side ≤ q ∧ q < 4 * side + 4)) := by
  have hports : (∀ i ∈ List.range 4, q ≠ 4 * side + i) ↔ ¬ (4 * side ≤ q ∧ q < 4 * side + 4) := by
    refine ⟨fun h hq => h (q - 4 * side) (List.mem_range.mpr (by omega)) (by omega), fun h i hi => ?_⟩
    have := List.mem_range.mp hi
    omega
  rw [sideDown, up_foldl_portDown, decide_eq_decide.mpr hports, decide_not]

/-- Taking a side down leaves every register outside ERRLOG. -/
theorem csrGet_sideDown (s : State) (side : Nat) {o : Nat} (h : outsideErrlog o) :
    csrGet (sideDown s side) o = csrGet s o :=
  foldl_keeps _ (csrGet · o) (fun s _ => csrGet_portDown s _ h) _ s

/-- A write of the mode of a side takes the side's links down, unless it writes 3, and leaves the links of the other side. -/
theorem up_writeSideMode (s : State) (side m q : Nat) :
    (getPort (writeSideMode s side m) q).up =
      ((getPort s q).up && !decide (m ≠ 3 ∧ 4 * side ≤ q ∧ q < 4 * side + 4)) := by
  unfold writeSideMode
  split
  · rename_i hm; simp [hm]
  · rename_i hm
    rw [getPort_congr (csrPutBits_ports ..), up_sideDown]
    simp [hm]

/-- A write of the mode of a side sets that side's field, unless it writes 3. -/
theorem ethMode_writeSideMode_same (s : State) {side m : Nat} (hside : side < 2) (hm : m < 4) :
    csrBits (writeSideMode s side m) O.ethMode (2 * side + 1) (2 * side) =
      if m = 3 then csrBits s O.ethMode (2 * side + 1) (2 * side) else m := by
  unfold writeSideMode
  split
  · rfl
  · rw [csrBits_csrPutBits_same _ _ _ _ (by omega), show 2 * side + 1 + 1 - 2 * side = 2 by omega]
    omega

/-- A write of the mode of a side leaves the other side's field. -/
theorem ethMode_writeSideMode_other (s : State) {side other : Nat} (m : Nat) (hother : other < 2) (hne : other ≠ side) :
    csrBits (writeSideMode s side m) O.ethMode (2 * other + 1) (2 * other) =
      csrBits s O.ethMode (2 * other + 1) (2 * other) := by
  unfold writeSideMode
  split
  · rfl
  · rw [csrBits_csrPutBits_other _ _ _ (by omega) (by omega), csrBits, csrGet_sideDown _ _ (by unfold outsideErrlog; decide), csrBits]

/-- What a write to `ETH.MODE` leaves in the register and in the ports (R461). -/
theorem writeEthMode_spec (s : State) (v : Nat) :
    csrBits (writeEthMode s v) O.ethMode 1 0 = (if v % 4 = 3 then csrBits s O.ethMode 1 0 else v % 4) ∧
    csrBits (writeEthMode s v) O.ethMode 3 2 = (if v / 4 % 4 = 3 then csrBits s O.ethMode 3 2 else v / 4 % 4) ∧
    (∀ p, p < 4 → (getPort (writeEthMode s v) p).up = (decide (v % 4 = 3) && (getPort s p).up)) ∧
    ∀ p, 4 ≤ p → p < 8 → (getPort (writeEthMode s v) p).up = (decide (v / 4 % 4 = 3) && (getPort s p).up) := by
  have hA : bitsOf v 1 0 = v % 4 := rfl
  have hB : bitsOf v 3 2 = v / 4 % 4 := by simp [bitsOf, Nat.shiftRight_eq_div_pow]
  rw [writeEthMode, hA, hB]
  refine ⟨?_, ?_, fun p hp => ?_, fun p hp hp' => ?_⟩
  · exact (ethMode_writeSideMode_other _ (side := 1) (other := 0) _ (by decide) (by decide)).trans
      (ethMode_writeSideMode_same s (side := 0) (by decide) (by omega))
  · refine (ethMode_writeSideMode_same _ (side := 1) (by decide) (by omega)).trans ?_
    rw [ethMode_writeSideMode_other s (side := 0) (other := 1) _ (by decide) (by decide)]
  · rw [up_writeSideMode, up_writeSideMode]
    simp [show ¬ 4 ≤ p by omega, hp, Bool.and_comm]
  · rw [up_writeSideMode, up_writeSideMode]
    simp [hp, hp', show ¬ p < 4 by omega, Bool.and_comm]

/-- What a host write of a port's IPv4 address leaves (R470): the address, and no lease beside a static one. -/
theorem writeIpv4_spec (s : State) (p : Nat) {v : Nat} (hv : v < 2 ^ 32) :
    csrGet (writeIpv4 s p v) (O.ethpIpv4Addr p) = v ∧ (v ≠ 0 → (getPort (writeIpv4 s p v) p).lease = none) ∧
      (v = 0 → (getPort (writeIpv4 s p v) p).lease = (getPort s p).lease) := by
  have hout : outsideErrlog (O.ethpIpv4Addr p) := by
    unfold outsideErrlog
    simp only [O.ethpIpv4Addr]
    omega
  unfold writeIpv4
  split
  · rename_i h
    obtain ⟨hv0, -⟩ := h
    refine ⟨?_, fun _ => ?_, fun h0 => absurd h0 hv0⟩
    · rw [csrGet_raise_note _ _ _ _ _ (by decide) hout, csrGet_csrPut_same, Nat.mod_eq_of_lt hv]
    · rw [getPort_congr (raise_note_ports ..), getPort_congr (csrPut_ports ..), sendDhcp, getPort_congr (emit_ports ..),
        getPort_setPort_same]
  · rename_i h
    rw [getPort_congr (csrPut_ports ..), csrGet_csrPut_same, Nat.mod_eq_of_lt hv]
    refine ⟨rfl, fun hv0 => ?_, fun _ => rfl⟩
    exact Option.not_isSome_iff_eq_none.mp fun hl => h ⟨hv0, hl⟩

end Sys2Proof.Machine
end

section
/-! O26. The access codes (R12 to R14, R40, R44) and the register commands, one lemma for each command. -/

namespace Sys2Proof.Machine

/-- CSR_WRITE of a register at a word offset is the host's write of it. -/
theorem completes_csrWrite (s : State) {off : Nat} (v : BitVec 32) {p : State → Prop} (hal : off % 4 = 0)
    (hp : p (hostWrite s off v)) : completes (.csrWrite off v) s p :=
  ⟨hostWrite s off v, congrArg Host.Outcome.next (if_pos hal), hp⟩

/-- An RW field takes the value written (R12): `GLOBAL.HOST_SCRATCH` is one field of 32 bits. -/
theorem csrGet_hostWrite_hostScratch (s : State) (v : BitVec 32) :
    csrGet (hostWrite s O.globalHostScratch v) O.globalHostScratch = v.toNat := by
  have hwritten : writtenValue s O.globalHostScratch v.toNat = setBits (csrGet s O.globalHostScratch) 31 0 (bitsOf v.toNat 31 0) := rfl
  have hv : bitsOf v.toNat 31 0 = v.toNat := Nat.mod_eq_of_lt v.isLt
  rw [hostWrite_global s v (by decide) (by decide), csrGet_csrStore_same _ _ (by decide), hwritten, hv,
    setBits_word _ (csrGet_lt s (by decide)), Nat.mod_mod, Nat.mod_eq_of_lt v.isLt]

/-- An RO field keeps its value (R12): `GLOBAL.ID` holds nothing else. -/
theorem hostWrite_globalId_eq_self (s : State) (v : BitVec 32) : hostWrite s O.globalId v = s := by
  have hro : ∀ f ∈ csrFields O.globalId, f.acc = .ro := by decide
  rw [hostWrite_global s v (by decide) (by decide)]
  exact csrStore_eq_self s (writtenValue_eq_self s _ _ fun f hf w => fieldWritten_ro s _ _ w (hro f hf))

/-- Under LOCK an RWL field keeps its value (R13): `GLOBAL.BOARD_TAG` is one. -/
theorem hostWrite_boardTag_locked (s : State) (v : BitVec 32) (hlock : csrBit s O.globalLock 0 = true) :
    hostWrite s O.globalBoardTag v = s := by
  have hrwl : ∀ f ∈ csrFields O.globalBoardTag, f.acc = .rwl := by decide
  have hstore : csrStore s O.globalBoardTag v.toNat = s :=
    csrStore_eq_self s (writtenValue_eq_self s _ _ fun f hf w => fieldWritten_rwl_locked s _ _ w (hrwl f hf) hlock)
  rw [hostWrite_management s v rfl (by decide)]
  change (if csrGet (csrStore s O.globalBoardTag v.toNat) O.globalBoardTag = csrGet s O.globalBoardTag
    then csrStore s O.globalBoardTag v.toNat else _) = s
  rw [hstore, if_pos rfl]

/-- A W1C bit is cleared by writing 1 to it and kept by writing 0 (R12): the causes of `GLOBAL.RESET_CAUSE`. -/
theorem csrBit_hostWrite_resetCause (s : State) (v : BitVec 32) {i : Nat} (hi : i ≤ 5) :
    csrBit (hostWrite s O.globalResetCause v) O.globalResetCause i =
      (csrBit s O.globalResetCause i && !v.getLsbD i) := by
  have hw1c : ∀ f ∈ csrFields O.globalResetCause, f.acc = .w1c ∧ f.hi = f.lo := by decide
  have hcause : (csrFields O.globalResetCause).any (fun f => decide (f.lo = i)) = true := by interval_cases i <;> rfl
  rw [hostWrite_global s v (by decide) (by decide), csrBit_eq_testBit, csrGet_csrStore_same _ _ (by decide), Nat.testBit_mod_two_pow,
    writtenValue_eq_foldl, testBit_foldl_w1c s _ _ i _ _ hw1c, hcause, csrBit_eq_testBit, BitVec.testBit_toNat]
  simp [show i < 32 by omega]

/-! ### Latches and the log -/

/-- Reading `CYCLE_LO` latches the upper half for its reader and for no other (R38). -/
theorem cycleLoRead_latches (s : State) (n : Nat) :
    completes (.cycleLoRead n) s (fun u => (tget u.cycleHi n 0#32).toNat = s.cycle / 2 ^ 32 % 2 ^ 32 ∧
      (∀ m, m ≠ n → tget u.cycleHi m 0#32 = tget s.cycleHi m 0#32) ∧ u = { s with cycleHi := u.cycleHi }) :=
  ⟨(readCycleLo s n).1, rfl, by simp [readCycleLo], fun _ hm => tget_tset_other _ _ _ hm, rfl⟩

/-- Reading `CYCLE_HI` answers what the reader's latch holds and changes nothing (R38). -/
theorem csrRead_cycleHi (s : State) (n : Nat) :
    csrRead s n O.globalCycleHi = (s, (tget s.cycleHi n 0#32).toNat) := by
  have hlight : blockDark s O.globalCycleHi = false := blockDark_management s (by decide)
  have hl : (csrLocate O.globalCycleHi).isNone = false := rfl
  have hlo : O.globalCycleHi ≠ O.globalCycleLo := by decide
  simp [csrRead, hl, hlight, hlo]

/-- Reading the lower half of an engine counter latches its upper half for the reader (R554). -/
theorem engCounterLoRead_latches (s : State) (n : Nat) {c off k : Nat}
    (h : engCounter (0x100000 + c * 0x1000 + off) = some (c, k, false)) :
    completes (.engCounterLoRead n c off) s (fun u =>
      tget (tget u.engHi n []) (c * 64 + k) 0 = tget (getCore s c).perf k 0 / 2 ^ 32 ∧ u = { s with engHi := u.engHi }) := by
  refine ⟨(readEngLo s n c k).1, ?_, by simp [readEngLo], rfl⟩
  change execEngCounterLoRead n c off s = _
  rw [execEngCounterLoRead, h]

/-! ### The PRU window -/

/-- PRU_ENTRY_WRITE changes one word of the pending entry, which starts as a copy of the active one (R170). -/
theorem pruEntryWrite_spec (s : State) {n : Nat} (v : BitVec 32) (hs : writesFree s) (hn : n < 16) :
    completes (.pruEntryWrite n v) s (fun u =>
      let e := csrBits s O.pruSel 11 0
      let old := (tget? s.pru.pending e).getD (tget s.pru.active e RuleEntry.zero)
      tget? u.pru.pending e = some ⟨old.w.set n v⟩ ∧ u.pru.active = s.pru.active ∧ u = { s with pru := u.pru }) := by
  have hl : (csrLocate (O.pruEntryW n)).isSome = true := by interval_cases n <;> rfl
  have hwrite : hostWrite s (O.pruEntryW n) v = writePending s n v := by
    have hoff : O.pruEntryW n < 0x50000 := by simp only [O.pruEntryW]; omega
    rw [hostWrite_free s v hs hl (by omega) (.inl hoff) (by simp only [O.groupSeed]; omega), csrEffect_pruEntryW s v hn]
  refine ⟨writePending s n v, ?_, tget?_tset_same _ _ _, rfl, rfl⟩
  change execPruEntryWrite n v s = _
  rw [execPruEntryWrite, if_pos hn, hwrite]

/-- PRU_APPLY_STEP_WRITE is the write of `PRU.APPLY_STEP` (R173). -/
theorem exec_pruApplyStepWrite (s : State) (v : BitVec 32) (hs : writesFree s) :
    exec (.pruApplyStepWrite v) s = .next (writeApply s v.toNat).1 :=
  congrArg Host.Outcome.next (hostWrite_free s v hs rfl (by decide) (by decide) (by decide))

/-- `PRU.APPLY_STEP` takes a boundary that has not begun, or none. -/
theorem pruApplyStepWrite_accepted (s : State) (v : BitVec 32) (hs : writesFree s)
    (hv : v = 0xFFFFFFFF#32 ∨ begunTo s < v.toNat) : completes (.pruApplyStepWrite v) s (fun u =>
      csrGet u O.pruApplyStep = v.toNat ∧ u = { s with csr := u.csr }) := by
  have htaken : v.toNat = 0xFFFFFFFF ∨ begunTo s < v.toNat := hv.imp_left (congrArg BitVec.toNat)
  have hput : (writeApply s v.toNat).1 = csrPut s O.pruApplyStep v.toNat := by rw [writeApply, if_pos htaken]
  refine ⟨_, (exec_pruApplyStepWrite s v hs).trans (congrArg Host.Outcome.next hput), ?_, rfl⟩
  rw [csrGet_csrPut_same, Nat.mod_eq_of_lt v.isLt]

/-- `PRU.APPLY_STEP` does not take a boundary that has begun. -/
theorem pruApplyStepWrite_begun (s : State) (v : BitVec 32) (hs : writesFree s) (hnone : v ≠ 0xFFFFFFFF#32)
    (hbegun : v.toNat ≤ begunTo s) : completes (.pruApplyStepWrite v) s (fun u => u = s) := by
  have hnone' : v.toNat ≠ 0xFFFFFFFF := fun h => hnone (BitVec.eq_of_toNat_eq h)
  refine ⟨_, exec_pruApplyStepWrite s v hs, ?_⟩
  rw [writeApply, if_neg (by omega)]

/-- PRU_PENDING_DISCARD empties the pending entries (R192). -/
theorem pruPendingDiscard_spec (s : State) (hs : writesFree s) :
    completes .pruPendingDiscard s (fun u => u.pru.pending = [] ∧ u = { s with pru := u.pru }) :=
  ⟨discardPending s, congrArg Host.Outcome.next (hostWrite_free s _ hs rfl (by decide) (by decide) (by decide)), rfl, rfl⟩

/-! ### GROUP_CTRL_RELEASE, ETH_MODE_WRITE and IPV4_ADDR_WRITE -/

/-- GROUP_CTRL_RELEASE releases the live table where it may be released now (R384). -/
theorem exec_groupCtrlRelease (s : State) (hs : writesFree s) :
    exec .groupCtrlRelease s = .next (if mayRelease s then releaseGroup s else s) := by
  refine congrArg Host.Outcome.next ((hostWrite_free s _ hs rfl (by decide) (by decide) (by decide)).trans ?_)
  change (if bitOf 1 0 = true ∧ mayRelease s = true then releaseGroup s else s) = _
  simp [bitOf]

/-- The states in which the live table may be released. -/
theorem mayRelease_iff (s : State) : mayRelease s = true ↔ s.dev = .idle ∨ s.dev = .quiesced ∧ s.mend.lost = true := by
  simp [mayRelease]

/-- ETH_MODE_WRITE is the write of `ETH.MODE` (R461). -/
theorem exec_ethModeWrite (s : State) (v : BitVec 32) (hs : writesFree s) :
    exec (.ethModeWrite v) s = .next (writeEthMode s v.toNat) :=
  congrArg Host.Outcome.next (hostWrite_free s v hs rfl (by decide) (by decide) (by decide))

/-- IPV4_ADDR_WRITE is the write of a port's `ETH.IPV4_ADDR` (R470). -/
theorem exec_ipv4AddrWrite (s : State) {n : Nat} (v : BitVec 32) (hs : writesFree s) (hn : n < 8) :
    exec (.ipv4AddrWrite n v) s = .next (writeIpv4 s n v.toNat) := by
  have hl : (csrLocate (O.ethpIpv4Addr n)).isSome = true := by interval_cases n <;> rfl
  have hwrite : hostWrite s (O.ethpIpv4Addr n) v = writeIpv4 s n v.toNat := by
    have hoff : 0x90000 ≤ O.ethpIpv4Addr n ∧ O.ethpIpv4Addr n < 0xA0000 := by simp only [O.ethpIpv4Addr]; omega
    rw [hostWrite_free s v hs hl (by omega) (.inr (by omega)) (by simp only [O.groupSeed]; omega), csrEffect_ethpIpv4Addr s v hn]
  change execIpv4AddrWrite n v s = _
  rw [execIpv4AddrWrite, if_pos hn, hwrite]

/-! ### The obligation -/

/-- Settles O26, clause by clause from the law of each access code and of each command. -/
theorem registerCommands : Obligations.RegisterCommands := by
  unfold Obligations.RegisterCommands
  refine ⟨fun s v => ⟨?rw, ?ro, fun hlock => ?rwl, ?w1c, fun off hal hnone => ?miss, fun off hal hl hb => ?busy,
    fun _ hs _ hlo hhi => writeBusy_activating s hs hlo hhi⟩, fun s n v => ?commands⟩
  case rw =>
    refine completes_csrWrite s v rfl ⟨csrGet_hostWrite_hostScratch s v, fun o ho => ?_, ?_⟩
    · rw [hostWrite_global s v (by decide) (by decide), csrGet_csrStore_other s _ ho]
    · rw [hostWrite_global s v (by decide) (by decide)]
      exact csrStore_eq_with s _ _
  case ro => exact completes_csrWrite s v rfl (hostWrite_globalId_eq_self s v)
  case rwl => exact completes_csrWrite s v rfl (hostWrite_boardTag_locked s v hlock)
  case w1c =>
    refine completes_csrWrite s v rfl ⟨fun i hi => csrBit_hostWrite_resetCause s v hi, fun o ho => ?_⟩
    rw [hostWrite_global s v (by decide) (by decide), csrGet_csrStore_other s _ ho]
  case miss =>
    refine completes_csrWrite s v hal ?_
    rw [hostWrite_miss s v hnone]
    exact ⟨csrBits_bump16 s _ 1, fun o ho => csrGet_bump16_other s 1 ho⟩
  case busy => exact completes_csrWrite s v hal (hostWrite_busy s v hl hb)
  case commands =>
    refine ⟨cycleLoRead_latches s n, csrRead_cycleHi s n, rfl, fun _ _ _ h => engCounterLoRead_latches s n h,
      ⟨clearLog s, rfl, rfl, rfl⟩, fun hs hn => pruEntryWrite_spec s v hs hn,
      fun hs hv => pruApplyStepWrite_accepted s v hs hv, fun hs hnone hbegun => pruApplyStepWrite_begun s v hs hnone hbegun,
      fun hs => pruPendingDiscard_spec s hs, fun hs hmay => ?release, fun hs hidle hlost => ?keep,
      fun hs => ⟨_, exec_ethModeWrite s v hs, writeEthMode_spec s v.toNat⟩, fun hs hn => ?address⟩
    case release =>
      refine ⟨releaseGroup s, ?_, releaseGroup_table_mem s⟩
      rw [exec_groupCtrlRelease s hs, if_pos ((mayRelease_iff s).mpr hmay)]
    case keep =>
      refine ⟨s, ?_, rfl⟩
      rw [exec_groupCtrlRelease s hs, if_neg (mt (mayRelease_iff s).mp (not_or.mpr ⟨hidle, hlost⟩))]
    case address =>
      obtain ⟨haddr, hstatic, hzero⟩ := writeIpv4_spec s n v.isLt
      refine ⟨_, exec_ipv4AddrWrite s v hs hn, haddr, fun hv => hstatic fun h => hv (BitVec.eq_of_toNat_eq h), ?_⟩
      exact fun hv => hzero (congrArg BitVec.toNat hv)

end Sys2Proof.Machine
end

section
/-! SUPPORT. Laws of mapped tables, of the bit fields of an operand, of the STEP events of a core, and of the issue of an
instruction that is performed at once. -/

namespace Sys2Proof

/-- A field of a number, by division. -/
theorem bitsOf_eq_div_mod (n hi lo : Nat) : bitsOf n hi lo = n / 2 ^ lo % 2 ^ (hi + 1 - lo) := by
  rw [bitsOf, Nat.shiftRight_eq_div_pow]

end Sys2Proof

namespace Sys2Proof.Machine

/-- Reading a table whose values were mapped by a function that keeps the default. -/
theorem tget_map_values {α : Type} (f : α → α) (t : Tbl α) (k : Nat) {d : α} (hd : f d = d) :
    tget (t.map fun e => (e.1, f e.2)) k d = f (tget t k d) := by
  induction t with
  | nil => exact hd.symm
  | cons e r ih =>
    by_cases h : k = e.1
    · simp [tget, tget?, h]
    · simpa [tget, tget?, h] using ih

/-! ### Events of severity CONTAINED and STEP -/

/-- A record below DEVICE whose queue has room changes the error state and the register table alone (R532, R535). -/
theorem placeEvent_eq_with (s : State) {sev : Nat} (r : EventRec) (hsev : sev ≠ 4) (hroom : hasRoom s sev) :
    ∃ csr err, placeEvent s sev r = { s with csr := csr, err := err } := by
  unfold hasRoom at hroom
  rw [placeEvent, if_neg hsev]
  split
  · exact ⟨_, _, rfl⟩
  · by_cases hstep : sev = 3
    · subst hstep
      rw [if_pos rfl, placeStep, if_pos hroom]
      exact ⟨_, _, rfl⟩
    · rw [if_neg hstep, if_pos hroom]
      exact ⟨_, _, rfl⟩

/-- The severity with which a STEP event of a core is raised (R528): CONTAINED in class 0, as the cores of the other clusters
are of class 1. -/
theorem stepSeverity_coreClass (s : State) (c : Nat) :
    (if 3 = 3 ∧ (coreClass s c = 0 ∨ coreClass s c = 2) then 2 else 3) = excSev s c := by
  have hclass : coreClass s c ≠ 2 := by
    unfold coreClass clusterClass
    split <;> decide
  simp [excSev, hclass]

/-- A STEP event of a core whose queue has room changes the error state and the register table alone. -/
theorem raise_step_eq_with (s : State) {c : Nat} (code srcKind src : Nat) (info : List Nat) (hroom : hasRoom s (excSev s c)) :
    ∃ csr err, raise s code 3 (coreClass s c) srcKind src info = { s with csr := csr, err := err } := by
  rw [raise, stepSeverity_coreClass]
  refine placeEvent_eq_with s _ ?_ hroom
  unfold excSev
  split <;> decide

/-! ### Registers -/

/-- A thread whose registers are another's with `gd` set received the value in `gd`. -/
theorem wrote_of_regs_eq {x y : Thread} {gd : Nat} {v : BitVec 64} (h : y.regs = setReg x.regs gd v) : wrote x y gd v := by
  unfold wrote Thread.reg
  rw [h, setReg]
  by_cases hgd : gd = 0
  · simp [hgd]
  · refine ⟨by simp [hgd], fun r hr => ?_⟩
    simp [hgd, tget_tset_other _ _ _ hr]

/-! ### Issue -/

section

variable {s : State} {c t : Nat}

/-- The state in which an instruction that is performed at once takes effect: its thread stands at the next one. -/
def advanced (s : State) (c t : Nat) : State :=
  setThread s c t { getThread s c t with pc := pcNext (getThread s c t).pc, run := (getThread s c t).run + 1 }

@[simp] theorem getThread_advanced (s : State) (c t : Nat) :
    getThread (advanced s c t) c t =
      { getThread s c t with pc := pcNext (getThread s c t).pc, run := (getThread s c t).run + 1 } :=
  getThread_setThread_same _ _ _ _

theorem running_of_issuesNow (h : issuesNow s c t) : (getThread s c t).st = .running := by
  obtain ⟨hmay, -, -⟩ := h
  simp only [mayIssue, Bool.and_eq_true, decide_eq_true_eq] at hmay
  exact hmay.1.2

/-- A thread that issues now has nothing to drain. -/
theorem drainBuffer_of_issuesNow (h : issuesNow s c t) : drainBuffer s c t = s := by
  have hdrain : drainN s c t 5 = s := by simp [drainN, h.2.2]
  simp [drainBuffer, hdrain, running_of_issuesNow h]

/-- A thread that took no exception goes on at its next instruction. -/
theorem settlePc_of_ne_exception (pc : Nat) (regs : Tbl (BitVec 64)) (h : (getThread s c t).st ≠ .exception) :
    settlePc s c t pc regs = s := if_neg h

/-- A legal instruction of a thread that issues now is performed at once (R270). -/
theorem issueOther_of_issuesNow (h : issuesNow s c t) (uses : List Nat) (op : Thread → CoreOp) :
    issueOther s c t uses true op =
      settlePc (performOp (advanced s c t) c t (getThread s c t).pc (op (getThread s c t))) c t
        (getThread s c t).pc (getThread s c t).regs := by
  have hdrain := drainBuffer_of_issuesNow h
  obtain ⟨hmay, hbranches, hbuffer⟩ := h
  have hawaited : (getThread s c t).awaited = fun _ => false := by
    funext g
    simp [Thread.awaited, hbuffer]
  simp [issueOther, hdrain, hmay, hawaited, issueOp, hbranches, hbuffer, advanced]

end

end Sys2Proof.Machine
end

section
/-! O11. KOPEN and KCLOSE (R90 to R92, R261): what the registration of a key and its retirement change. -/

namespace Sys2Proof.Machine

section

variable {s : State} {c t : Nat}

/-! ### The operand (R261) -/

/-- The key that an operand of KOPEN and KCLOSE names. -/
def keyNamed (s : State) (v : Nat) : BitVec 64 :=
  srKey (jobSeed s) (v % 2 ^ 16) (v / 2 ^ 18 % 2 ^ 14) (v / 2 ^ 16 % 4)

/-- Whether R91 refuses the key of an operand as STREAM_KEY_DUP: its pass is reserved, it is live, or its rank is not the
device's to use. -/
def keyRefused (s : State) (g v : Nat) : Prop :=
  v / 2 ^ 16 % 4 = 3 ∨ keyLive s g (keyNamed s v) = true ∨ mayUseRank s (v / 2 ^ 18 % 2 ^ 14) = false

/-- The registration of the key of an operand, with its answer. -/
def registerKey (s : State) (c t v : Nat) : State × Nat :=
  openKey s c t (v % 2 ^ 16) (v / 2 ^ 16 % 4) (v / 2 ^ 18 % 2 ^ 14)

/-! ### KOPEN -/

theorem doKopen_eq (s : State) (c t gd : Nat) (v : BitVec 64) :
    doKopen s c t gd v = setThread (registerKey s c t v.toNat).1 c t
      ((getThread (registerKey s c t v.toNat).1 c t).putAll gd (BitVec.ofNat 64 (registerKey s c t v.toNat).2)) := by
  simp only [doKopen, bitsOf_eq_div_mod, Nat.pow_zero, Nat.div_one]
  rfl

/-- A refusal comes before the test for room (R91, R92; the order is log entry 50's choice). -/
theorem registerKey_refused {v : Nat} (h : keyRefused s (clusterOf c) v) :
    registerKey s c t v = (raise s 0x9002 3 (coreClass s c) 1 c, 1) := if_pos h

/-- A full table answers KEY_TABLE_FULL (R92). -/
theorem registerKey_full {v : Nat} (h : ¬ keyRefused s (clusterOf c) v)
    (hfull : 1024 ≤ (liveKeys s (clusterOf c)).length) :
    registerKey s c t v = (raise s 0x9003 3 (coreClass s c) 1 c, 2) := (if_neg h).trans (if_pos hfull)

/-- The state in which a key is live in its cluster and held by the thread that opened it. -/
def keyOpened (s : State) (c t : Nat) (k : BitVec 64) : State :=
  setThread { s with keyTab := tset s.keyTab (clusterOf c) (liveKeys s (clusterOf c) ++ [k]) } c t
    { getThread s c t with keys := (getThread s c t).keys ++ [k] }

/-- A key that R91 accepts, in a table with room, is registered. -/
theorem registerKey_free {v : Nat} (h : ¬ keyRefused s (clusterOf c) v)
    (hfree : (liveKeys s (clusterOf c)).length < 1024) :
    registerKey s c t v = (keyOpened s c t (keyNamed s v), 0) :=
  (if_neg h).trans (if_neg (Nat.not_le.mpr hfree))

theorem liveKeys_keyOpened (s : State) (c t : Nat) (k : BitVec 64) :
    liveKeys (keyOpened s c t k) (clusterOf c) = liveKeys s (clusterOf c) ++ [k] :=
  tget_tset_same _ _ _ _

theorem getThread_keyOpened (s : State) (c t : Nat) (k : BitVec 64) :
    getThread (keyOpened s c t k) c t = { getThread s c t with keys := (getThread s c t).keys ++ [k] } :=
  getThread_setThread_same _ _ _ _

/-- A KOPEN ended in `w`: it wrote `r`, `live` are the live keys of the cluster, and its thread stands at the next
instruction. -/
def kopenEnds (s : State) (c t gd r : Nat) (live : List (BitVec 64)) (w : State) : Prop :=
  wrote (getThread s c t) (getThread w c t) gd (BitVec.ofNat 64 r) ∧ liveKeys w (clusterOf c) = live ∧
    (getThread w c t).pc = ((getThread s c t).pc + 4) % 2 ^ 20 ∧ w.mem = s.mem

/-- A KOPEN writes the answer of its registration, which changes of its thread at most the keys that it holds. -/
theorem completes_kopen {u : State} {gd ga r : Nat} {keys : List (BitVec 64)} (hnow : issuesNow s c t)
    (hregister : registerKey (advanced s c t) c t ((getThread s c t).reg ga).toNat = (u, r))
    (hthread : getThread u c t = { getThread (advanced s c t) c t with keys := keys }) (hmem : u.mem = s.mem) :
    completes (.kopen c t gd ga 0#16) s (kopenEnds s c t gd r (liveKeys u (clusterOf c))) := by
  have hexec := issueOther_of_issuesNow hnow [gd, ga] (fun x => .kopen gd (x.reg ga))
  rw [performOp, doKopen_eq, hregister, settlePc_of_ne_exception] at hexec
  · refine ⟨_, congrArg Host.Outcome.next hexec, wrote_of_regs_eq ?_, rfl, ?_, hmem⟩
    · simp [hthread, Thread.putAll]
    · simp [hthread, Thread.putAll, pcNext]
  · simp [hthread, Thread.putAll, running_of_issuesNow hnow]

/-- A KOPEN whose registration raises an event, with room in its queue, writes the answer and leaves the key table. -/
theorem completes_kopen_of_raise {gd ga r code : Nat} (hnow : issuesNow s c t) (hroom : hasRoom s (excSev s c))
    (hregister : registerKey (advanced s c t) c t ((getThread s c t).reg ga).toNat =
      (raise (advanced s c t) code 3 (coreClass s c) 1 c, r)) :
    completes (.kopen c t gd ga 0#16) s (kopenEnds s c t gd r (liveKeys s (clusterOf c))) := by
  obtain ⟨csr, err, hraise⟩ :
      ∃ csr err, raise (advanced s c t) code 3 (coreClass s c) 1 c = { advanced s c t with csr := csr, err := err } :=
    raise_step_eq_with (advanced s c t) code 1 c [] hroom
  rw [hraise] at hregister
  exact completes_kopen (u := { advanced s c t with csr := csr, err := err }) hnow hregister rfl rfl

/-! ### KCLOSE -/

/-- A thread without a key. -/
def Thread.forget (k : BitVec 64) (x : Thread) : Thread := { x with keys := x.keys.filter (fun y => decide (y ≠ k)) }

/-- Forgetting a key takes it from the threads of its core alone. -/
theorem getThread_forgetKey (k : BitVec 64) (s : State) (d c t : Nat) :
    getThread (forgetKey k s d) c t = if c = d then (getThread s c t).forget k else getThread s c t := by
  by_cases h : c = d
  · subst h
    rw [if_pos rfl, getThread, forgetKey, getCore_setCore_same]
    exact tget_map_values (Thread.forget k) _ _ rfl
  · rw [if_neg h, getThread, forgetKey, getCore_setCore_other _ _ h, getThread]

/-- Forgetting a key on the cores of a list changes the cores alone. -/
theorem foldl_forgetKey_eq_with (k : BitVec 64) (l : List Nat) (s : State) :
    ∃ cores, l.foldl (forgetKey k) s = { s with cores := cores } := by
  induction l generalizing s with
  | nil => exact ⟨s.cores, rfl⟩
  | cons d l ih => exact ih (forgetKey k s d)

/-- Forgetting a key on the cores of a list changes of a thread at most the keys that it holds. -/
theorem getThread_foldl_forgetKey (k : BitVec 64) (l : List Nat) (s : State) (c t : Nat) :
    ∃ keys, getThread (l.foldl (forgetKey k) s) c t = { getThread s c t with keys := keys } := by
  induction l generalizing s with
  | nil => exact ⟨_, rfl⟩
  | cons d l ih =>
    obtain ⟨keys, hkeys⟩ := ih (forgetKey k s d)
    refine ⟨keys, ?_⟩
    rw [List.foldl_cons, hkeys, getThread_forgetKey]
    split <;> rfl

/-- A retired key is not live; the other keys of its cluster are live as before. -/
theorem keyLive_retireKey (s : State) (g : Nat) (k j : BitVec 64) :
    keyLive (retireKey s g k) g j = (decide (j ≠ k) && keyLive s g j) := by
  have hlive : liveKeys (retireKey s g k) g = (liveKeys s g).filter (fun x => decide (x ≠ k)) := tget_tset_same _ _ _ _
  rw [Bool.eq_iff_iff]
  simp [keyLive, hlive, and_comm]

/-- A KCLOSE of a live key retires it and takes it from every thread of its cluster (R261). -/
theorem doKclose_live {v : BitVec 64} (hpass : v.toNat / 2 ^ 16 % 4 ≠ 3)
    (hlive : keyLive s (clusterOf c) (keyNamed s v.toNat) = true) :
    doKclose s c v = (coresOf (clusterOf c)).foldl (forgetKey (keyNamed s v.toNat))
      (retireKey s (clusterOf c) (keyNamed s v.toNat)) := by
  simp only [doKclose, bitsOf_eq_div_mod, Nat.pow_zero, Nat.div_one]
  exact if_pos ⟨hpass, hlive⟩

/-- A KCLOSE of a key that is not live has no effect (R261). -/
theorem doKclose_not_live {v : BitVec 64} (hlive : keyLive s (clusterOf c) (keyNamed s v.toNat) = false) :
    doKclose s c v = s := by
  simp only [doKclose, bitsOf_eq_div_mod, Nat.pow_zero, Nat.div_one]
  exact if_neg fun h => Bool.eq_false_iff.mp hlive h.2

/-- A KCLOSE that changes of its thread at most the keys that it holds passes by. -/
theorem exec_kclose {u : State} {ga : Nat} {keys : List (BitVec 64)} (hnow : issuesNow s c t)
    (hclose : doKclose (advanced s c t) c ((getThread s c t).reg ga) = u)
    (hthread : getThread u c t = { getThread (advanced s c t) c t with keys := keys }) :
    exec (.kclose c t 0 ga 0#16) s = .next u ∧ passedBy s u c t := by
  have hexec := issueOther_of_issuesNow hnow [ga] (fun x => .kclose (x.reg ga))
  rw [performOp, hclose, settlePc_of_ne_exception] at hexec
  · refine ⟨congrArg Host.Outcome.next hexec, ?_, ?_⟩
    · simp [hthread]
    · simp [hthread, pcNext]
  · simp [hthread, running_of_issuesNow hnow]

/-- A KCLOSE of a live key retires it, and changes the key table and the cores alone. -/
theorem completes_kclose_live {ga : Nat} {v : BitVec 64} (hv : (getThread s c t).reg ga = v) (hnow : issuesNow s c t)
    (hpass : v.toNat / 2 ^ 16 % 4 ≠ 3) (hlive : keyLive s (clusterOf c) (keyNamed s v.toNat) = true) :
    completes (.kclose c t 0 ga 0#16) s (fun u =>
      keyLive u (clusterOf c) (keyNamed s v.toNat) = false ∧
        (∀ j, j ≠ keyNamed s v.toNat → keyLive u (clusterOf c) j = keyLive s (clusterOf c) j) ∧
        passedBy s u c t ∧ u = { s with keyTab := u.keyTab, cores := u.cores }) := by
  subst hv
  have hclose := doKclose_live (s := advanced s c t) hpass hlive
  obtain ⟨keys, hkeys⟩ := getThread_foldl_forgetKey _ _ _ c t
  obtain ⟨hexec, hpassed⟩ := exec_kclose hnow hclose hkeys
  obtain ⟨cores, hfold⟩ := foldl_forgetKey_eq_with _ _ _
  have hretired := keyLive_retireKey s (clusterOf c) (keyNamed s ((getThread s c t).reg ga).toNat)
  refine ⟨_, hexec, ?_, fun j hj => ?_, hpassed, ?_⟩
  · rw [hfold]
    exact (hretired _).trans (by simp)
  · rw [hfold]
    exact (hretired j).trans (by simp [hj])
  · rw [hfold]
    rfl

/-- A KCLOSE of a key that is not live only goes on to the next instruction. -/
theorem completes_kclose_not_live {ga : Nat} {v : BitVec 64} (hv : (getThread s c t).reg ga = v) (hnow : issuesNow s c t)
    (hlive : keyLive s (clusterOf c) (keyNamed s v.toNat) = false) :
    completes (.kclose c t 0 ga 0#16) s (fun u =>
      u.keyTab = s.keyTab ∧ passedBy s u c t ∧ u = { s with cores := u.cores }) := by
  subst hv
  obtain ⟨hexec, hpassed⟩ := exec_kclose hnow (doKclose_not_live (s := advanced s c t) hlive) rfl
  exact ⟨_, hexec, rfl, hpassed, rfl⟩

end

/-! ### The obligation -/

/-- Settles O11: KOPEN by the three answers of a registration, KCLOSE by whether the key is live. -/
theorem srKeys : Obligations.SrKeys := by
  unfold Obligations.SrKeys
  intro s c t gd ga x v g k opens refused hnow hroom
  refine ⟨fun hrefused => ?refused, fun haccepted hfull => ?full, fun haccepted hfree => ?free,
    fun hpass hlive => completes_kclose_live rfl hnow hpass hlive, fun hlive => completes_kclose_not_live rfl hnow hlive⟩
  case refused => exact completes_kopen_of_raise hnow hroom (registerKey_refused (s := advanced s c t) hrefused)
  case full => exact completes_kopen_of_raise hnow hroom (registerKey_full (s := advanced s c t) haccepted hfull)
  case free =>
    have hregister := registerKey_free (s := advanced s c t) (c := c) (t := t) haccepted hfree
    have hopens := completes_kopen (gd := gd) hnow hregister (getThread_keyOpened _ c t _) rfl
    rw [liveKeys_keyOpened] at hopens
    exact hopens

end Sys2Proof.Machine
end

section
/-! SUPPORT. Laws of events of every severity, of the wake of a cluster, of wake events at a core and of lint entries: which
parts of the state each can change. -/

namespace Sys2Proof.Machine

/-! ### Streams stay through every event -/

@[simp] theorem emit_streams (s : State) (e : Emit) : (s.emit e).streams = s.streams := by
  obtain ⟨_, _, _, h⟩ := emit_eq_with s e
  rw [h]

@[simp] theorem notifyAll_streams (s : State) (code : Nat) (body : List Byte) : (notifyAll s code body).streams = s.streams := by
  have hemits (es : List Emit) (s : State) : (es.foldr (fun e s => s.emit e) s).streams = s.streams := by
    induction es with
    | nil => rfl
    | cons e es ih => exact (emit_streams _ e).trans ih
  unfold notifyAll
  simp only
  split
  · exact hemits _ _
  · exact hemits _ _

@[simp] theorem setDev_streams (s : State) (d : DevState) : (setDev s d).streams = s.streams := by
  unfold setDev
  split
  · rfl
  · exact notifyAll_streams _ _ _

@[simp] theorem failLow_streams (s : State) : (failLow s).streams = s.streams := by
  unfold failLow
  split
  · rfl
  · exact emit_streams _ _

@[simp] theorem notifyEvent_streams (s : State) (r : EventRec) : (notifyEvent s r).streams = s.streams := by
  unfold notifyEvent
  split
  · exact notifyAll_streams _ _ _
  · rfl

/-- What a domain loses lies outside the streams: the tokens of a stream stand at its endpoints' entries. -/
@[simp] theorem loseDomain_streams (s : State) (d : Nat) : (loseDomain s d).streams = s.streams := by
  unfold loseDomain
  split
  · exact foldl_keeps (f := _) State.streams (by exact fun _ _ => rfl) (coresOf d) s
  · split
    · rfl
    · split
      · rfl
      · split <;> rfl

@[simp] theorem domOff_streams (s : State) (d : Nat) : (domOff s d).streams = s.streams := by
  unfold domOff
  split
  · rfl
  · exact loseDomain_streams _ _

@[simp] theorem domsOffBut_streams (s : State) (keep : List Nat) : (domsOffBut s keep).streams = s.streams :=
  foldl_keeps _ State.streams domOff_streams _ s

@[simp] theorem hardFence_streams (s : State) (code : Nat) : (hardFence s code).streams = s.streams := by
  unfold hardFence
  simp only [notifyEvent_streams, notifyAll_streams]
  split <;> simp [State.withErr, logRec, holdFatal, takeSeq, countEvent]

@[simp] theorem placeDevice_streams (s : State) (r : EventRec) : (placeDevice s r).streams = s.streams := by
  unfold placeDevice
  simp only
  split
  · exact hardFence_streams _ _
  · split
    · exact failLow_streams _
    · split
      · exact notifyEvent_streams _ _
      · rfl

@[simp] theorem placeStep_streams (s : State) (r : EventRec) : (placeStep s r).streams = s.streams := by
  unfold placeStep
  split
  · rfl
  · exact placeDevice_streams _ _

@[simp] theorem placeEvent_streams (s : State) (sev : Nat) (r : EventRec) : (placeEvent s sev r).streams = s.streams := by
  unfold placeEvent
  split
  · exact placeDevice_streams _ _
  · split
    · rfl
    · split
      · exact placeStep_streams _ _
      · split
        · rfl
        · split
          · exact placeStep_streams _ _
          · rfl

/-- No event reaches a stream, at whatever severity it ends up (R532 to R536). -/
@[simp] theorem raise_streams (s : State) (code sev cls srcKind src : Nat) (info : List Nat) :
    (raise s code sev cls srcKind src info).streams = s.streams := placeEvent_streams _ _ _

@[simp] theorem dropMicroBatch_streams (s : State) : (dropMicroBatch s).streams = s.streams := by
  unfold dropMicroBatch
  split <;> rfl

@[simp] theorem dropMicroBatch_err (s : State) : (dropMicroBatch s).err = s.err := by
  unfold dropMicroBatch
  split <;> rfl

@[simp] theorem pageDenied_streams (s : State) (c : Nat) : (pageDenied s c).streams = s.streams := by
  unfold pageDenied
  split
  · exact raise_streams _ _ _ _ _ _ _
  · exact (dropMicroBatch_streams _).trans (raise_streams _ _ _ _ _ _ _)

/-! ### An event that finds room is queued (R535) -/

/-- A record that takes another occurrence of its kind stays in its queue, under the code of both. -/
theorem exists_code_of_coalesceIn {r : EventRec} {l q : List EventRec} (h : coalesceIn r l = some q) :
    ∃ x ∈ q, x.code = r.code := by
  induction l generalizing q with
  | nil => simp [coalesceIn] at h
  | cons y l ih =>
    rw [coalesceIn] at h
    split at h
    case isTrue hy =>
      simp only [coalesces, Bool.and_eq_true, decide_eq_true_eq] at hy
      obtain ⟨⟨hcode, -, -⟩, -⟩ := hy
      rw [← Option.some.inj h]
      exact ⟨_, List.mem_cons_self, hcode.symm⟩
    case isFalse =>
      obtain ⟨q', hq', rfl⟩ := Option.map_eq_some_iff.1 h
      obtain ⟨x, hx, hcode⟩ := ih hq'
      exact ⟨x, List.mem_cons_of_mem _ hx, hcode⟩

theorem queued_enqueue (s : State) (sev : Nat) (r : EventRec) : queued (enqueue s sev r) sev r.code := by
  have hqueues : (enqueue s sev r).err.queues =
      tset s.err.queues sev (tget s.err.queues sev [] ++ [(takeSeq (countEvent s r.code sev) { r with sev := sev }).2]) := rfl
  refine ⟨(takeSeq (countEvent s r.code sev) { r with sev := sev }).2, ?_, rfl⟩
  simp [hqueues]

/-- A record of severity CONTAINED or STEP that finds room stands in the queue of its severity. -/
theorem queued_placeEvent {s : State} {sev : Nat} (r : EventRec) (hsev : sev = 2 ∨ sev = 3) (hroom : hasRoom s sev) :
    queued (placeEvent s sev r) sev r.code := by
  unfold hasRoom at hroom
  rw [placeEvent, if_neg (by omega)]
  split
  case h_1 q hq =>
    have hcoalesce : coalesceIn { r with raised := sev } (tget s.err.queues sev []) = some q := by
      split at hq
      · cases hq
      · exact hq
    obtain ⟨x, hx, hcode⟩ := exists_code_of_coalesceIn hcoalesce
    exact ⟨x, by simpa [State.withErr] using hx, hcode⟩
  case h_2 =>
    rcases hsev with rfl | rfl
    · rw [if_neg (by decide), if_pos hroom]
      exact queued_enqueue _ _ _
    · rw [if_pos rfl, placeStep, if_pos hroom]
      exact queued_enqueue _ _ _

/-- A STEP event of a core whose queue has room is queued with the core's severity (R528). -/
theorem queued_raise_step {s : State} {c : Nat} (code srcKind src : Nat) (info : List Nat) (hroom : hasRoom s (excSev s c)) :
    queued (raise s code 3 (coreClass s c) srcKind src info) (excSev s c) code := by
  rw [raise, stepSeverity_coreClass]
  refine queued_placeEvent _ ?_ hroom
  unfold excSev
  split <;> decide

theorem queued_congr {s u : State} (h : u.err = s.err) (sev code : Nat) : queued u sev code ↔ queued s sev code := by
  rw [queued, h, queued]

/-! ### Power domains and the wake of a cluster (R277, R563) -/

theorem settleDom_eq_with (s : State) (d : Nat) :
    ∃ doms, settleDom s d = { s with power := { s.power with doms := doms } } := by
  unfold settleDom
  simp only
  split
  · exact ⟨_, rfl⟩
  · split <;> exact ⟨_, rfl⟩

/-- The wake of a cluster changes the power domains alone. -/
theorem wakeCluster_eq_with (s : State) (g : Nat) :
    ∃ doms, wakeCluster s g = { s with power := { s.power with doms := doms } } := by
  unfold wakeCluster
  split
  · obtain ⟨doms, h⟩ := settleDom_eq_with (setDom s g { getDom s g with wait := false }) g
    exact ⟨doms, h⟩
  · exact ⟨_, rfl⟩

theorem domRuns_setDom (s : State) (d e : Nat) (x : Dom) :
    domRuns (setDom s d x) e = if e = d then decide (x.st = .on) && x.entering.isNone else domRuns s e := by
  unfold domRuns
  by_cases h : e = d
  · subst h
    simp
  · simp [h, getDom_setDom_other s x h]

/-- Changing a domain into one that does not run lets no domain start to run. -/
theorem domRuns_of_setDom {s : State} {d e : Nat} {x : Dom} (hx : (decide (x.st = .on) && x.entering.isNone) = false)
    (h : domRuns (setDom s d x) e = true) : domRuns s e = true := by
  rw [domRuns_setDom] at h
  split at h
  · simp [hx] at h
  · exact h

/-- A domain that settles does not run before its entry or wake ends (R568). -/
theorem domRuns_of_settleDom {s : State} {d e : Nat} (h : domRuns (settleDom s d) e = true) : domRuns s e = true := by
  unfold settleDom at h
  simp only at h
  split at h
  case isTrue => exact h
  case isFalse =>
    split at h
    case h_7 => exact h
    all_goals
      refine domRuns_of_setDom ?_ h
      simp_all

/-- A wake that starts lets no domain run at once (R277, R568). -/
theorem domRuns_of_wakeCluster {s : State} {g e : Nat} (h : domRuns (wakeCluster s g) e = true) : domRuns s e = true := by
  unfold wakeCluster at h
  split at h
  · have h' := domRuns_of_settleDom h
    rw [domRuns_setDom] at h'
    split at h'
    case isTrue heq =>
      subst heq
      exact h'
    case isFalse => exact h'
  · exact h

/-! ### Stations and threads through a change of a core -/

theorem getStn_congr {s u : State} (h : u.cores = s.cores) (c n : Nat) : getStn u c n = getStn s c n := by
  rw [getStn, getCore, h, getStn, getCore]

theorem getThread_congr {s u : State} (h : u.cores = s.cores) (c t : Nat) : getThread u c t = getThread s c t := by
  rw [getThread, getCore, h, getThread, getCore]

/-- A core changed in nothing of its stations keeps them. -/
theorem getStn_setCore {s : State} {c : Nat} {x : Core} (h : x.stations = (getCore s c).stations) (d n : Nat) :
    getStn (setCore s c x) d n = getStn s d n := by
  unfold getStn
  by_cases hd : d = c
  · subst hd
    rw [getCore_setCore_same, h]
  · rw [getCore_setCore_other s x hd]

/-- A core changed in nothing of its threads keeps them. -/
theorem getThread_setCore {s : State} {c : Nat} {x : Core} (h : x.threads = (getCore s c).threads) (d t : Nat) :
    getThread (setCore s c x) d t = getThread s d t := by
  unfold getThread
  by_cases hd : d = c
  · subst hd
    rw [getCore_setCore_same, h]
  · rw [getCore_setCore_other s x hd]

@[simp] theorem getStn_setEng (s : State) (c e : Nat) (x : Engine) (d n : Nat) : getStn (setEng s c e x) d n = getStn s d n :=
  getStn_setCore (by rfl) d n

@[simp] theorem getThread_setEng (s : State) (c e : Nat) (x : Engine) (d t : Nat) :
    getThread (setEng s c e x) d t = getThread s d t := getThread_setCore (by rfl) d t

/-! ### Lint entries and wake events -/

/-- A lint entry changes the cores alone. -/
theorem lint_eq_with (s : State) (c ring kind sid entry arg : Nat) :
    ∃ cores, lint s c ring kind sid entry arg = { s with cores := cores } := by
  unfold lint
  split <;> exact ⟨_, rfl⟩

@[simp] theorem getStn_lint (s : State) (c ring kind sid entry arg d n : Nat) :
    getStn (lint s c ring kind sid entry arg) d n = getStn s d n := by
  unfold lint
  split
  · rfl
  · exact getStn_setCore (by rfl) d n

@[simp] theorem getThread_lint (s : State) (c ring kind sid entry arg d t : Nat) :
    getThread (lint s c ring kind sid entry arg) d t = getThread s d t := by
  unfold lint
  split
  · rfl
  · exact getThread_setCore (by rfl) d t

/-- The threads of a core see a wake event, and the core goes to one that it made ready (R272, R275). -/
def threadsSee (s : State) (c ev : Nat) : State :=
  reschedule (setCore s c { getCore s c with
    threads := (List.range 8).foldl (fun ts t => tset ts t ((getThread s c t).event ev)) (getCore s c).threads }) c

/-- A wake event reaches the threads, and where one that waits names it, starts the wake of their cluster (R275, R277). -/
theorem coreEvent_eq (s : State) (c ev : Nat) :
    coreEvent s c ev = if (getCore s c).named ev then wakeCluster (threadsSee s c ev) (clusterOf c) else threadsSee s c ev := rfl

theorem threadsSee_eq_with (s : State) (c ev : Nat) : ∃ cores, threadsSee s c ev = { s with cores := cores } := ⟨_, rfl⟩

/-- A wake event changes the cores and the power domains alone (R275, R277). -/
theorem coreEvent_eq_with (s : State) (c ev : Nat) :
    ∃ cores doms, coreEvent s c ev = { s with cores := cores, power := { s.power with doms := doms } } := by
  obtain ⟨cores, hsee⟩ := threadsSee_eq_with s c ev
  rw [coreEvent_eq, hsee]
  split
  · obtain ⟨doms, hwake⟩ := wakeCluster_eq_with { s with cores := cores } (clusterOf c)
    exact ⟨cores, doms, hwake⟩
  · exact ⟨cores, _, rfl⟩

/-- What waits at a router changes the power domains alone (R277). -/
theorem routerEvent_eq_with (s : State) (c : Nat) :
    ∃ doms, routerEvent s c = { s with power := { s.power with doms := doms } } := by
  unfold routerEvent
  split
  · exact wakeCluster_eq_with _ _
  · exact ⟨_, rfl⟩

@[simp] theorem routerEvent_streams (s : State) (c : Nat) : (routerEvent s c).streams = s.streams := by
  obtain ⟨_, h⟩ := routerEvent_eq_with s c
  rw [h]

@[simp] theorem routerEvent_mem (s : State) (c : Nat) : (routerEvent s c).mem = s.mem := by
  obtain ⟨_, h⟩ := routerEvent_eq_with s c
  rw [h]

theorem domRuns_of_coreEvent {s : State} {c ev e : Nat} (h : domRuns (coreEvent s c ev) e = true) : domRuns s e = true := by
  have hsee : domRuns (threadsSee s c ev) e = domRuns s e := by
    obtain ⟨_, hwith⟩ := threadsSee_eq_with s c ev
    rw [hwith]
    rfl
  rw [coreEvent_eq] at h
  split at h
  · exact hsee ▸ domRuns_of_wakeCluster h
  · exact hsee ▸ h

theorem domRuns_of_routerEvent {s : State} {c e : Nat} (h : domRuns (routerEvent s c) e = true) : domRuns s e = true := by
  unfold routerEvent at h
  split at h
  · exact domRuns_of_wakeCluster h
  · exact h

@[simp] theorem schedule_stations (k : Core) : k.schedule.stations = k.stations := by
  unfold Core.schedule
  split <;> rfl

theorem getStn_wakeCluster (s : State) (g c n : Nat) : getStn (wakeCluster s g) c n = getStn s c n := by
  obtain ⟨_, h⟩ := wakeCluster_eq_with s g
  exact getStn_congr (by rw [h]) c n

theorem getThread_wakeCluster (s : State) (g c t : Nat) : getThread (wakeCluster s g) c t = getThread s c t := by
  obtain ⟨_, h⟩ := wakeCluster_eq_with s g
  exact getThread_congr (by rw [h]) c t

@[simp] theorem getStn_routerEvent (s : State) (c d n : Nat) : getStn (routerEvent s c) d n = getStn s d n := by
  obtain ⟨_, h⟩ := routerEvent_eq_with s c
  exact getStn_congr (by rw [h]) d n

theorem getStn_threadsSee (s : State) (c ev d n : Nat) : getStn (threadsSee s c ev) d n = getStn s d n := by
  rw [threadsSee, reschedule, getStn_setCore (schedule_stations _), getStn_setCore (by rfl)]

@[simp] theorem getStn_coreEvent (s : State) (c ev d n : Nat) : getStn (coreEvent s c ev) d n = getStn s d n := by
  rw [coreEvent_eq]
  split
  · rw [getStn_wakeCluster, getStn_threadsSee]
  · exact getStn_threadsSee s c ev d n

/-- Setting a run of keys of a table, each to its own value: what a key of the run reads. -/
theorem tget_foldl_tset {α : Type} (f : Nat → α) {l : List Nat} (t : Tbl α) {k : Nat} (d : α) (h : k ∈ l) :
    tget (l.foldl (fun ts i => tset ts i (f i)) t) k d = f k := by
  induction l using List.reverseRecOn with
  | nil => simp at h
  | append_singleton l i ih =>
    rw [List.foldl_append, List.foldl_cons, List.foldl_nil]
    by_cases hk : k = i
    · subst hk
      exact tget_tset_same _ _ _ _
    · rw [tget_tset_other _ _ _ hk]
      exact ih (by simpa [hk] using h)

/-- Giving the core to a thread leaves what its threads latched. -/
theorem latch_schedule (k : Core) (t : Nat) :
    (tget k.schedule.threads t Thread.reset).latch = (tget k.threads t Thread.reset).latch := by
  unfold Core.schedule
  split
  case h_1 r _ _ =>
    by_cases h : t = r
    · subst h
      simp
    · simp [tget_tset_other _ _ _ h]
  case h_2 => rfl

/-- A thread that is not in WAIT latches a wake event (R275). -/
theorem event_latch_of_ne_wait {x : Thread} (ev : Nat) (h : x.st ≠ .wait) : (x.event ev).latch = x.latch ||| 2 ^ ev := by
  unfold Thread.event
  split
  case h_1 hst _ => exact absurd hst h
  case h_2 => rfl

theorem latch_threadsSee {s : State} {c t : Nat} (ev : Nat) (ht : t < 8) :
    (getThread (threadsSee s c ev) c t).latch = ((getThread s c t).event ev).latch := by
  rw [threadsSee, reschedule, getThread, getCore_setCore_same, latch_schedule, getCore_setCore_same,
    tget_foldl_tset _ _ _ (List.mem_range.2 ht)]

/-- Every thread of a core that is not in WAIT latches its wake events (R275). -/
theorem latch_coreEvent {s : State} {c t : Nat} (ev : Nat) (ht : t < 8) (hst : (getThread s c t).st ≠ .wait) :
    (getThread (coreEvent s c ev) c t).latch = (getThread s c t).latch ||| 2 ^ ev := by
  rw [coreEvent_eq, ← event_latch_of_ne_wait ev hst]
  split
  · rw [getThread_wakeCluster, latch_threadsSee ev ht]
  · exact latch_threadsSee ev ht

end Sys2Proof.Machine
end

section
/-! SUPPORT. Laws of the tokens of streams (R201 to R205): what an array that is fed takes, what placing a tile spends, and where a
released credit goes. -/

namespace Sys2Proof.Machine

theorem getStream_congr {s u : State} (h : u.streams = s.streams) (e : Nat) : getStream u e = getStream s e := by
  rw [getStream, h, getStream]

/-- The tiles that an endpoint's entry holds, has queued, and has at its router, oldest first. -/
def StreamSt.tiles (x : StreamSt) : List STile := x.held ++ x.queue ++ x.router

theorem streamTiles_eq_tiles (s : State) (e : Nat) : streamTiles s e = (getStream s e).tiles := rfl

theorem streamTiles_congr {s u : State} {e : Nat} (h : getStream u e = getStream s e) : streamTiles u e = streamTiles s e := by
  rw [streamTiles_eq_tiles, h, streamTiles_eq_tiles]

/-! ### A consumer takes tiles (R202) -/

/-- `y` is `x` once its consumer has taken tiles from the head of its queue, which it holds now. -/
def StreamSt.TakesTo (x y : StreamSt) : Prop :=
  ∃ taken left, x.queue = taken ++ left ∧ y = { x with queue := left, held := x.held ++ taken }

namespace StreamSt.TakesTo

variable {x y z : StreamSt}

theorem refl (x : StreamSt) : x.TakesTo x := ⟨[], x.queue, rfl, by simp⟩

theorem trans (h : x.TakesTo y) (h' : y.TakesTo z) : x.TakesTo z := by
  obtain ⟨taken, left, hqueue, rfl⟩ := h
  obtain ⟨taken', left', hqueue', rfl⟩ := h'
  refine ⟨taken ++ taken', left', ?_, ?_⟩
  · rw [hqueue, show left = taken' ++ left' from hqueue', List.append_assoc]
  · simp

theorem credits (h : x.TakesTo y) : y.credits = x.credits := by
  obtain ⟨_, _, -, rfl⟩ := h
  rfl

theorem ret (h : x.TakesTo y) : y.ret = x.ret := by
  obtain ⟨_, _, -, rfl⟩ := h
  rfl

theorem crease (h : x.TakesTo y) : y.crease = x.crease := by
  obtain ⟨_, _, -, rfl⟩ := h
  rfl

theorem router (h : x.TakesTo y) : y.router = x.router := by
  obtain ⟨_, _, -, rfl⟩ := h
  rfl

theorem tiles (h : x.TakesTo y) : y.tiles = x.tiles := by
  obtain ⟨_, _, hqueue, rfl⟩ := h
  simp [StreamSt.tiles, hqueue]

theorem mem_queue (h : x.TakesTo y) {t : STile} (ht : t ∈ y.queue) : t ∈ x.queue := by
  obtain ⟨taken, left, hqueue, rfl⟩ := h
  rw [hqueue]
  exact List.mem_append_right _ ht

end StreamSt.TakesTo

/-! ### Feeding an array (R105, R124, R202) -/

/-- No tile that a consumer takes next is poisoned (R232). -/
def QueuesClean (s : State) : Prop := ∀ f, ∀ y ∈ (getStream s f).queue, y.poison = []

/-- `u` is `s` once engines took what they may: tiles moved from queues to held, and, where none of them was poisoned, memory, the
stations and the threads stayed. -/
structure FedTo (s u : State) : Prop where
  takes : ∀ e, (getStream s e).TakesTo (getStream u e)
  mem : QueuesClean s → u.mem = s.mem
  getStn : QueuesClean s → ∀ c n, getStn u c n = getStn s c n
  getThread : QueuesClean s → ∀ c t, getThread u c t = getThread s c t

namespace FedTo

variable {s u v : State}

theorem refl (s : State) : FedTo s s := ⟨fun _ => .refl _, fun _ => rfl, fun _ _ _ => rfl, fun _ _ _ => rfl⟩

theorem queuesClean (h : FedTo s u) (hclean : QueuesClean s) : QueuesClean u :=
  fun f y hy => hclean f y ((h.takes f).mem_queue hy)

theorem trans (h : FedTo s u) (h' : FedTo u v) : FedTo s v where
  takes e := (h.takes e).trans (h'.takes e)
  mem hclean := (h'.mem (h.queuesClean hclean)).trans (h.mem hclean)
  getStn hclean c n := (h'.getStn (h.queuesClean hclean) c n).trans (h.getStn hclean c n)
  getThread hclean c t := (h'.getThread (h.queuesClean hclean) c t).trans (h.getThread hclean c t)

theorem streamTiles (h : FedTo s u) (e : Nat) : streamTiles u e = streamTiles s e := (h.takes e).tiles

/-- A run of steps that each feed is feeding. -/
theorem foldl {α : Type} {f : State → α → State} (hstep : ∀ s a, FedTo s (f s a)) (l : List α) (s : State) :
    FedTo s (l.foldl f s) :=
  List.foldlRecOn l f (refl s) fun u hu a _ => hu.trans (hstep u a)

end FedTo

theorem takeTile_fedTo (s : State) (e : Nat) : FedTo s (takeTile s e) := by
  unfold takeTile
  simp only
  split
  case h_1 => exact .refl s
  case h_2 t q hqueue =>
    refine ⟨fun f => ?_, fun _ => rfl, fun _ => getStn_congr rfl, fun _ => getThread_congr rfl⟩
    by_cases hf : f = e
    · subst hf
      rw [getStream_setStream_same]
      exact ⟨[t], q, hqueue, rfl⟩
    · rw [getStream_setStream_other _ _ hf]
      exact .refl _

theorem setAStream_fedTo (s : State) (c e i : Nat) (x : AStream) : FedTo s (setAStream s c e i x) where
  takes f := by
    rw [getStream_congr (show (setAStream s c e i x).streams = s.streams from rfl)]
    exact .refl _
  mem _ := rfl
  getStn _ := getStn_setEng s c e _
  getThread _ := getThread_setEng s c e _

@[simp] theorem consumePart_streams (s : State) (c : Nat) (t : STile) (n k : Nat) : (consumePart s c t n k).streams = s.streams := by
  unfold consumePart
  split
  · exact pageDenied_streams s c
  · rfl

/-- A tile without poison is consumed without an event (R232). -/
theorem consumePart_of_clean (s : State) (c n k : Nat) {t : STile} (h : t.poison = []) : consumePart s c t n k = s := by
  simp [consumePart, h]

/-- Consuming the tile that an engine took, which stood in a queue, is part of feeding it. -/
theorem FedTo.consumePart {s u : State} (h : FedTo s u) {e : Nat} {t : STile} (ht : t ∈ (getStream s e).queue) (c n k : Nat) :
    FedTo s (consumePart u c t n k) where
  takes f := by
    rw [getStream_congr (consumePart_streams u c t n k)]
    exact h.takes f
  mem hclean := by rw [consumePart_of_clean u c n k (hclean e t ht), h.mem hclean]
  getStn hclean d m := by rw [consumePart_of_clean u c n k (hclean e t ht), h.getStn hclean]
  getThread hclean d m := by rw [consumePart_of_clean u c n k (hclean e t ht), h.getThread hclean]

theorem feedStream_fedTo (s : State) (c e i : Nat) : FedTo s (feedStream s c e i) := by
  unfold feedStream
  split
  case h_1 => exact .refl s
  case h_2 x _ =>
    simp only
    split
    case h_1 => exact .refl s
    case h_2 ep _ =>
      split
      case h_1 t hhead _ =>
        split
        · exact ((takeTile_fedTo s ep).trans (setAStream_fedTo _ c e i _)).consumePart (List.mem_of_mem_head? hhead) _ _ _
        · exact .refl s
      case h_2 => exact .refl s

theorem feedEngine_fedTo (s : State) (c e : Nat) : FedTo s (feedEngine s c e) := .foldl (fun s i => feedStream_fedTo s c e i) _ s

theorem feedEp_fedTo (s : State) (ep : Nat) : FedTo s (feedEp s ep) := by
  unfold feedEp
  simp only
  split
  · exact feedEngine_fedTo _ _ _
  · exact .refl s

theorem feedFoot_fedTo (s : State) (ep : Nat) : FedTo s (feedFoot s ep) := by
  unfold feedFoot
  simp only
  split
  · exact feedEngine_fedTo _ _ _
  · exact .refl s

/-! ### Placing a tile (R201, R277) -/

/-- An endpoint's entry on which a tile was placed: a credit is spent, and the tile is queued where the consumer's cluster runs
and waits at the router where it does not. -/
def StreamSt.placed (x : StreamSt) (t : STile) (runs : Bool) : StreamSt :=
  if runs then { x with credits := x.credits - 1, queue := x.queue ++ [t] }
  else { x with credits := x.credits - 1, router := x.router ++ [t] }

@[simp] theorem placed_credits (x : StreamSt) (t : STile) (runs : Bool) : (x.placed t runs).credits = x.credits - 1 := by
  cases runs <;> rfl

theorem placed_tiles {x : StreamSt} (t : STile) {runs : Bool} (h : runs = true → x.router = []) :
    (x.placed t runs).tiles = x.tiles ++ [t] := by
  cases runs
  · simp [StreamSt.placed, StreamSt.tiles]
  · simp [StreamSt.placed, StreamSt.tiles, h rfl]

theorem mem_queue_of_placed {x : StreamSt} {t y : STile} {runs : Bool} (h : y ∈ (x.placed t runs).queue) : y ∈ x.queue ∨ y = t := by
  cases runs
  · exact .inl h
  · simpa [StreamSt.placed] using h

/-- A lint entry and the wake event that it goes with change the cores and the power domains alone. -/
theorem coreEvent_lint_eq_with (s : State) (c ring kind sid entry arg ev : Nat) :
    ∃ cores doms, coreEvent (lint s c ring kind sid entry arg) c ev =
      { s with cores := cores, power := { s.power with doms := doms } } := by
  obtain ⟨linted, hlint⟩ := lint_eq_with s c ring kind sid entry arg
  obtain ⟨cores, doms, hevent⟩ := coreEvent_eq_with { s with cores := linted } c ev
  exact ⟨cores, doms, hlint ▸ hevent⟩

theorem tileArrives_eq_with (s : State) (e : Nat) (t : STile) :
    ∃ cores doms, tileArrives s e t = { s with cores := cores, power := { s.power with doms := doms } } :=
  coreEvent_lint_eq_with s _ _ _ _ _ _ _

theorem placeOn_eq (t : STile) (s : State) (e : Nat) : placeOn t s e =
    if coreRuns s (entryOf s e).cCore then tileArrives (setStream s e ((getStream s e).placed t true)) e t
    else routerEvent (setStream s e ((getStream s e).placed t false)) (entryOf s e).cCore := rfl

/-- Placing a tile on an endpoint changes its stream, the cores and the power domains alone. -/
theorem placeOn_eq_with (t : STile) (s : State) (e : Nat) :
    ∃ cores doms, placeOn t s e = { setStream s e ((getStream s e).placed t (coreRuns s (entryOf s e).cCore)) with
      cores := cores, power := { s.power with doms := doms } } := by
  rw [placeOn_eq]
  split
  case isTrue hruns =>
    rw [hruns]
    exact tileArrives_eq_with _ e t
  case isFalse hruns =>
    rw [Bool.eq_false_iff.2 hruns]
    obtain ⟨_, h⟩ := routerEvent_eq_with (setStream s e ((getStream s e).placed t false)) (entryOf s e).cCore
    exact ⟨_, _, h⟩

@[simp] theorem placeOn_weave (t : STile) (s : State) (e : Nat) : (placeOn t s e).weave = s.weave := by
  obtain ⟨_, _, h⟩ := placeOn_eq_with t s e
  rw [h]
  rfl

@[simp] theorem placeOn_mem (t : STile) (s : State) (e : Nat) : (placeOn t s e).mem = s.mem := by
  obtain ⟨_, _, h⟩ := placeOn_eq_with t s e
  rw [h]
  rfl

theorem placeOn_streams (t : STile) (s : State) (e : Nat) : (placeOn t s e).streams =
    (setStream s e ((getStream s e).placed t (coreRuns s (entryOf s e).cCore))).streams := by
  obtain ⟨_, _, h⟩ := placeOn_eq_with t s e
  rw [h]

theorem getStream_placeOn_same (t : STile) (s : State) (e : Nat) :
    getStream (placeOn t s e) e = (getStream s e).placed t (coreRuns s (entryOf s e).cCore) := by
  rw [getStream_congr (placeOn_streams t s e), getStream_setStream_same]

theorem getStream_placeOn_other (t : STile) (s : State) {e f : Nat} (h : f ≠ e) : getStream (placeOn t s e) f = getStream s f := by
  rw [getStream_congr (placeOn_streams t s e), getStream_setStream_other _ _ h]

@[simp] theorem getStn_placeOn (t : STile) (s : State) (e c n : Nat) : getStn (placeOn t s e) c n = getStn s c n := by
  rw [placeOn_eq]
  split
  · rw [tileArrives, getStn_coreEvent, getStn_lint]
    exact getStn_congr (by rfl) c n
  · rw [getStn_routerEvent]
    exact getStn_congr (by rfl) c n

theorem coreRuns_congr {s u : State} (h : u.power = s.power) (c : Nat) : coreRuns u c = coreRuns s c := by
  rw [coreRuns, domRuns, getDom, h, coreRuns, domRuns, getDom]

theorem entryOf_congr {s u : State} (h : u.weave = s.weave) (e : Nat) : entryOf u e = entryOf s e := by
  rw [entryOf, streamTable, h, entryOf, streamTable]

/-- A tile that arrives may start the wake of a cluster, but lets none run at once. -/
theorem coreRuns_of_placeOn {t : STile} {s : State} {e c : Nat} (h : coreRuns (placeOn t s e) c = true) : coreRuns s c = true := by
  rw [placeOn_eq] at h
  split at h
  · obtain ⟨_, hlint⟩ := lint_eq_with (setStream s e ((getStream s e).placed t true)) (entryOf s e).cCore
      (ringOfStn (entryOf s e).cStn (entryOf s e).cInst) 1 (entryOf s e).cSid t.hdr.lintEntry t.hdr.tile
    exact (coreRuns_congr (congrArg State.power hlint) c).symm.trans (domRuns_of_coreEvent h)
  · exact domRuns_of_routerEvent (s := setStream s e ((getStream s e).placed t false)) h

/-! ### Placing a tile on every endpoint of its stream -/

theorem getStream_foldl_placeOn_of_notMem (t : STile) {es : List Nat} {f : Nat} (h : f ∉ es) (s : State) :
    getStream (es.foldl (placeOn t) s) f = getStream s f := by
  induction es generalizing s with
  | nil => rfl
  | cons e es ih =>
    rw [List.mem_cons, not_or] at h
    obtain ⟨hfe, hes⟩ := h
    rw [List.foldl_cons, ih hes, getStream_placeOn_other t s hfe]

/-- Each endpoint receives the tile once; it is queued only where the cluster ran before any of them received it. -/
theorem getStream_foldl_placeOn_of_mem (t : STile) {es : List Nat} {f : Nat} (hnodup : es.Nodup) (h : f ∈ es) (s : State) :
    ∃ runs, (runs = true → coreRuns s (entryOf s f).cCore = true) ∧
      getStream (es.foldl (placeOn t) s) f = (getStream s f).placed t runs := by
  induction es generalizing s with
  | nil => simp at h
  | cons e es ih =>
    obtain ⟨he, hnodup⟩ := List.nodup_cons.1 hnodup
    rw [List.foldl_cons]
    by_cases hfe : f = e
    · subst hfe
      refine ⟨coreRuns s (entryOf s f).cCore, id, ?_⟩
      rw [getStream_foldl_placeOn_of_notMem t he, getStream_placeOn_same]
    · obtain ⟨runs, hruns, hplaced⟩ := ih hnodup (List.mem_of_ne_of_mem hfe h) (placeOn t s e)
      refine ⟨runs, fun hr => ?_, ?_⟩
      · rw [← entryOf_congr (placeOn_weave t s e)]
        exact coreRuns_of_placeOn (hruns hr)
      · rw [hplaced, getStream_placeOn_other t s hfe]

theorem placeTile_streams (s : State) (c n : Nat) (es : List Nat) (t : STile) :
    (placeTile s c n es t).streams = (es.foldl (placeOn t) s).streams := by
  unfold placeTile
  obtain ⟨_, h⟩ := lint_eq_with (es.foldl (placeOn t) s) c (outRing n) 2 (entryOf s (es.headD 0)).pSid t.hdr.lintEntry t.hdr.tile
  rw [h]

@[simp] theorem placeTile_mem (s : State) (c n : Nat) (es : List Nat) (t : STile) : (placeTile s c n es t).mem = s.mem := by
  unfold placeTile
  obtain ⟨_, h⟩ := lint_eq_with (es.foldl (placeOn t) s) c (outRing n) 2 (entryOf s (es.headD 0)).pSid t.hdr.lintEntry t.hdr.tile
  rw [h]
  exact foldl_keeps _ State.mem (placeOn_mem t) es s

@[simp] theorem getStn_placeTile (s : State) (c n : Nat) (es : List Nat) (t : STile) (d m : Nat) :
    getStn (placeTile s c n es t) d m = getStn s d m := by
  rw [placeTile, getStn_lint]
  exact foldl_keeps _ (fun s => getStn s d m) (fun s e => getStn_placeOn t s e d m) es s

theorem getStream_placeTile_of_notMem {s : State} (c n : Nat) {es : List Nat} (t : STile) {f : Nat} (h : f ∉ es) :
    getStream (placeTile s c n es t) f = getStream s f :=
  (getStream_congr (placeTile_streams s c n es t) f).trans (getStream_foldl_placeOn_of_notMem t h s)

theorem getStream_placeTile_of_mem {s : State} (c n : Nat) {es : List Nat} (t : STile) {f : Nat} (hnodup : es.Nodup) (h : f ∈ es) :
    ∃ runs, (runs = true → coreRuns s (entryOf s f).cCore = true) ∧
      getStream (placeTile s c n es t) f = (getStream s f).placed t runs := by
  rw [getStream_congr (placeTile_streams s c n es t)]
  exact getStream_foldl_placeOn_of_mem t hnodup h s

/-- A tile without poison leaves the queues clean. -/
theorem queuesClean_placeTile {s : State} (c n : Nat) {es : List Nat} {t : STile} (hnodup : es.Nodup) (ht : t.poison = [])
    (hclean : QueuesClean s) : QueuesClean (placeTile s c n es t) := by
  intro f y hy
  by_cases hf : f ∈ es
  · obtain ⟨_, -, hplaced⟩ := getStream_placeTile_of_mem (s := s) c n t hnodup hf
    rw [hplaced] at hy
    rcases mem_queue_of_placed hy with hy | rfl
    · exact hclean f y hy
    · exact ht
  · rw [getStream_placeTile_of_notMem c n t hf] at hy
    exact hclean f y hy

/-! ### The next output of a station -/

theorem placeable_of_head {s : State} {es : List Nat} (t : STile) (rest : List (List Nat × STile)) (h : hasCredits s es = true) :
    placeable s ((es, t) :: rest) = some (0, es, t) := by
  simp [placeable, List.zipIdx_cons, h]

theorem placeable_of_noCredits {s : State} {l : List (List Nat × STile)} (h : ∀ o ∈ l, hasCredits s o.1 = false) :
    placeable s l = none := by
  rw [placeable, Option.map_eq_none_iff, List.find?_eq_none]
  intro o ho
  rw [h o.1 (List.fst_mem_of_mem_zipIdx ho)]
  exact Bool.false_ne_true

/-- A station whose first output has its credits places it, and then engines are fed. -/
theorem placeNext_fedTo {s : State} {c n : Nat} {es : List Nat} {t : STile} {rest : List (List Nat × STile)}
    (hout : (getStn s c n).out = (es, t) :: rest) (hcredits : hasCredits s es = true) :
    FedTo (placeTile (setStn s c n { getStn s c n with out := rest }) c n es t) (placeNext s c n) := by
  have hfeeds (s : State) : FedTo s (es.foldl feedEp s) := .foldl feedEp_fedTo es s
  simp only [placeNext, hout, placeable_of_head t rest hcredits, List.eraseIdx_cons_zero]
  split
  · exact (hfeeds _).trans (feedEngine_fedTo _ _ _)
  · exact hfeeds _

/-! ### Releasing a tile (R202, R203) -/

@[simp] theorem closeWindow_streams (s : State) (t : STile) : (closeWindow s t).streams = s.streams := by
  refine foldl_keeps _ State.streams (fun s w => ?_) t.src s
  split <;> rfl

theorem getStream_releaseCredit_same (s : State) (e : Nat) : getStream (releaseCredit s e) e =
    if owesCrease s e then { getStream s e with crease := true } else { getStream s e with ret := (getStream s e).ret + 1 } := by
  unfold releaseCredit
  simp only
  split
  · rw [getStream_congr (setEng_streams _ _ _ _), getStream_setStream_same]
  · rw [getStream_setStream_same]

theorem getStream_releaseCredit_other (s : State) {e f : Nat} (h : f ≠ e) : getStream (releaseCredit s e) f = getStream s f := by
  unfold releaseCredit
  simp only
  split
  · rw [getStream_congr (setEng_streams _ _ _ _), getStream_setStream_other _ _ h]
  · rw [getStream_setStream_other _ _ h]

/-! ### A credit reaches its producer (R275) -/

theorem creditArrives_eq_with (s : State) (e : Nat) :
    ∃ cores doms, creditArrives s e = { s with cores := cores, power := { s.power with doms := doms } } :=
  coreEvent_lint_eq_with s _ _ _ _ _ _ _

@[simp] theorem creditArrives_streams (s : State) (e : Nat) : (creditArrives s e).streams = s.streams := by
  obtain ⟨_, _, h⟩ := creditArrives_eq_with s e
  rw [h]

@[simp] theorem creditArrives_mem (s : State) (e : Nat) : (creditArrives s e).mem = s.mem := by
  obtain ⟨_, _, h⟩ := creditArrives_eq_with s e
  rw [h]

/-- A credit that arrives is a wake event 1 at the threads of its producer (R275). -/
theorem latch_creditArrives {s : State} {e t : Nat} (ht : t < 8) (hst : (getThread s (entryOf s e).pCore t).st ≠ .wait) :
    bitOf (getThread (creditArrives s e) (entryOf s e).pCore t).latch 1 = true := by
  rw [creditArrives, latch_coreEvent 1 ht (by rwa [getThread_lint])]
  rw [bitOf, Nat.testBit_or, Nat.testBit_two_pow_self, Bool.or_true]

end Sys2Proof.Machine
end

section
/-! O19. TILE_PLACE, TILE_RELEASE and CREDIT_RETURN (R201 to R203, R205, R275, R277): where the tokens of each entry go. -/

namespace Sys2Proof.Machine

/-! ### TILE_PLACE -/

/-- What placing a tile on every endpoint of its stream, and the feeding that follows, leaves of the tokens, memory and outputs. -/
theorem placed_of_fedTo {s u : State} {c n : Nat} {es : List Nat} {t : STile} {x : Station} (hnodup : es.Nodup)
    (hrouter : ∀ e ∈ es, coreRuns s (entryOf s e).cCore = true → (getStream s e).router = [])
    (hfed : FedTo (placeTile (setStn s c n x) c n es t) u) :
    (∀ e ∈ es, (getStream u e).credits = (getStream s e).credits - 1 ∧ streamTiles u e = streamTiles s e ++ [t] ∧
      (coreRuns s (entryOf s e).cCore = false → (getStream u e).router = (getStream s e).router ++ [t])) ∧
    (∀ e, e ∉ es → (getStream u e).credits = (getStream s e).credits ∧ streamTiles u e = streamTiles s e) ∧
    (t.poison = [] → QueuesClean s → (getStn u c n).out = x.out ∧ u.mem = s.mem) := by
  refine ⟨fun e he => ?placed, fun e he => ?other, fun ht hclean => ?calm⟩
  case placed =>
    obtain ⟨runs, hruns, hplaced⟩ := getStream_placeTile_of_mem (s := setStn s c n x) c n t hnodup he
    have htakes := hplaced ▸ hfed.takes e
    refine ⟨htakes.credits.trans (placed_credits _ _ _), ?_, fun hoff => htakes.router.trans ?_⟩
    · exact htakes.tiles.trans (placed_tiles t fun hr => hrouter e he (hruns hr))
    · cases runs
      · rfl
      · exact absurd (hruns rfl) (Bool.eq_false_iff.1 hoff)
  case other =>
    have htakes := getStream_placeTile_of_notMem c n t he ▸ hfed.takes e
    exact ⟨htakes.credits, htakes.tiles⟩
  case calm =>
    have hcleanPlaced : QueuesClean (placeTile (setStn s c n x) c n es t) := queuesClean_placeTile c n hnodup ht hclean
    exact ⟨by rw [hfed.getStn hcleanPlaced, getStn_placeTile, getStn_setStn_same],
      by rw [hfed.mem hcleanPlaced, placeTile_mem, setStn_mem]⟩

theorem exec_tilePlace {s : State} {c n : Nat} (hruns : coreRuns s c = true) (hreset : (getStn s c n).resetting = false)
    (hfence : n = 12 → fenceStops s = false) : exec (.tilePlace c n) s = .next (placeNext s c n) :=
  congrArg Host.Outcome.next (if_pos ⟨hruns, hreset, Decidable.not_or_of_imp hfence⟩)

/-- Without a credit of each of its endpoints no output is placed (R201). -/
theorem exec_tilePlace_of_noCredits {s : State} {c n : Nat} (h : ∀ o ∈ (getStn s c n).out, hasCredits s o.1 = false) :
    exec (.tilePlace c n) s = .next s := by
  have hnone : placeNext s c n = s := by simp only [placeNext, placeable_of_noCredits h]
  refine congrArg Host.Outcome.next ?_
  rw [hnone, ite_self]

/-! ### TILE_RELEASE -/

/-- The state in which an array takes its next tile: the oldest held tile of an entry is gone and its credit is released. -/
def released (s : State) (e : Nat) (t : STile) (rest : List STile) : State :=
  let p := entryOf s e
  lint (closeWindow (releaseCredit (setStream s e { getStream s e with held := rest }) e) t) p.cCore (ringOfStn p.cStn p.cInst) 4
    p.cSid t.hdr.lintEntry t.hdr.tile

theorem exec_tileRelease {s : State} {e : Nat} {t : STile} {rest : List STile} (hheld : (getStream s e).held = t :: rest)
    (hruns : coreRuns s (entryOf s e).cCore = true) (hfoot : footNeeds s (entryOf s e) = false) :
    exec (.tileRelease e) s = .next (feedEp (released s e t rest) e) := by
  have hgoes : ¬ (coreRuns s (entryOf s e).cCore = false ∨ footNeeds s (entryOf s e) = true) := by simp [hruns, hfoot]
  refine congrArg Host.Outcome.next ?_
  simp only [hheld, if_neg hgoes, released]

theorem released_streams (s : State) (e : Nat) (t : STile) (rest : List STile) :
    (released s e t rest).streams = (releaseCredit (setStream s e { getStream s e with held := rest }) e).streams := by
  unfold released
  obtain ⟨_, h⟩ := lint_eq_with (closeWindow (releaseCredit (setStream s e { getStream s e with held := rest }) e) t)
    (entryOf s e).cCore (ringOfStn (entryOf s e).cStn (entryOf s e).cInst) 4 (entryOf s e).cSid t.hdr.lintEntry t.hdr.tile
  simp only [h]
  exact closeWindow_streams _ t

theorem getStream_released_same (s : State) (e : Nat) (t : STile) (rest : List STile) :
    getStream (released s e t rest) e = if owesCrease s e then { getStream s e with held := rest, crease := true }
      else { getStream s e with held := rest, ret := (getStream s e).ret + 1 } := by
  have howes : owesCrease (setStream s e { getStream s e with held := rest }) e = owesCrease s e := rfl
  rw [getStream_congr (released_streams s e t rest), getStream_releaseCredit_same, howes, getStream_setStream_same]

theorem getStream_released_other (s : State) {e f : Nat} (t : STile) (rest : List STile) (h : f ≠ e) :
    getStream (released s e t rest) f = getStream s f := by
  rw [getStream_congr (released_streams s e t rest), getStream_releaseCredit_other _ h, getStream_setStream_other _ _ h]

theorem completes_tileRelease {s : State} {e : Nat} {t : STile} {rest : List STile} (hheld : (getStream s e).held = t :: rest)
    (hruns : coreRuns s (entryOf s e).cCore = true) (hfoot : footNeeds s (entryOf s e) = false) :
    completes (.tileRelease e) s (fun u =>
      (owesCrease s e = false → (getStream u e).ret = (getStream s e).ret + 1) ∧
      (owesCrease s e = true → (getStream u e).ret = (getStream s e).ret ∧ (getStream u e).crease = true) ∧
      (getStream u e).credits = (getStream s e).credits ∧
        streamTiles u e = rest ++ (getStream s e).queue ++ (getStream s e).router ∧
        ∀ f, f ≠ e → streamTiles u f = streamTiles s f) := by
  have hfed := feedEp_fedTo (released s e t rest) e
  have htakes := getStream_released_same s e t rest ▸ hfed.takes e
  refine ⟨_, exec_tileRelease hheld hruns hfoot, fun howes => ?way, fun howes => ?crease, ?credits, ?tiles, fun f hf => ?other⟩
  case way => simp [htakes.ret, howes]
  case crease => simp [htakes.ret, htakes.crease, howes]
  case credits =>
    rw [htakes.credits]
    split <;> rfl
  case tiles =>
    refine htakes.tiles.trans ?_
    split <;> rfl
  case other => rw [hfed.streamTiles, streamTiles_congr (getStream_released_other s t rest hf)]

/-! ### CREDIT_RETURN -/

/-- A credit on its way back is handed to the producer's entry. -/
def returned (s : State) (e : Nat) : State :=
  setStream s e { getStream s e with credits := (getStream s e).credits + 1, ret := (getStream s e).ret - 1 }

/-- A credit on its way back waits at the router of its producer. -/
def routed (s : State) (e : Nat) : State :=
  setStream s e { getStream s e with routerCr := (getStream s e).routerCr + 1, ret := (getStream s e).ret - 1 }

theorem tiles_getStream_returned (s : State) (e f : Nat) : (getStream (returned s e) f).tiles = (getStream s f).tiles := by
  unfold returned
  by_cases h : f = e
  · subst h
    rw [getStream_setStream_same]
    rfl
  · rw [getStream_setStream_other _ _ h]

theorem queuesClean_returned {s : State} (e : Nat) (h : QueuesClean s) : QueuesClean (creditArrives (returned s e) e) := by
  intro f y hy
  rw [getStream_congr (creditArrives_streams _ e), returned] at hy
  by_cases hf : f = e
  · subst hf
    rw [getStream_setStream_same] at hy
    exact h f y hy
  · rw [getStream_setStream_other _ _ hf] at hy
    exact h f y hy

theorem exec_creditReturn_runs {s : State} {e : Nat} (hbelow : (getStream s e).credits < (entryOf s e).depth)
    (hret : 0 < (getStream s e).ret) (hruns : coreRuns s (entryOf s e).pCore = true) :
    exec (.creditReturn e) s = .next (feedFoot (creditArrives (returned s e) e) e) := by
  refine congrArg Host.Outcome.next ?_
  simp only [if_neg (Nat.not_le.2 hbelow), if_neg hret.ne', hruns, if_true, returned]

theorem exec_creditReturn_off {s : State} {e : Nat} (hbelow : (getStream s e).credits < (entryOf s e).depth)
    (hret : 0 < (getStream s e).ret) (hoff : coreRuns s (entryOf s e).pCore = false) :
    exec (.creditReturn e) s = .next (routerEvent (routed s e) (entryOf s e).pCore) := by
  refine congrArg Host.Outcome.next ?_
  simp only [if_neg (Nat.not_le.2 hbelow), if_neg hret.ne', hoff, Bool.false_eq_true, if_false, routed]

/-- A surplus credit is discarded, with its event (R205). -/
def overran (s : State) (e : Nat) : State :=
  raise (setStream s e { getStream s e with ret := (getStream s e).ret - 1 }) 0x9004 3 (coreClass s (entryOf s e).pCore) 1
    (entryOf s e).pCore

theorem exec_creditReturn_overrun {s : State} {e : Nat} (hfull : (entryOf s e).depth ≤ (getStream s e).credits) :
    exec (.creditReturn e) s =
      .next (if coreClass s (entryOf s e).pCore = 0 then overran s e else dropMicroBatch (overran s e)) := by
  refine congrArg Host.Outcome.next ?_
  simp only [if_pos hfull, overran]

theorem completes_creditReturn_runs {s : State} {e : Nat} (hbelow : (getStream s e).credits < (entryOf s e).depth)
    (hret : 0 < (getStream s e).ret) (hruns : coreRuns s (entryOf s e).pCore = true) :
    completes (.creditReturn e) s (fun u =>
      (getStream u e).credits = (getStream s e).credits + 1 ∧ (getStream u e).ret = (getStream s e).ret - 1 ∧
        (∀ f, streamTiles u f = streamTiles s f) ∧
        (QueuesClean s → u.mem = s.mem ∧ ∀ t, t < 8 → (getThread s (entryOf s e).pCore t).st ≠ .wait →
          bitOf (getThread u (entryOf s e).pCore t).latch 1 = true)) := by
  have hfed := feedFoot_fedTo (creditArrives (returned s e) e) e
  have hstreams (f : Nat) : getStream (creditArrives (returned s e) e) f = getStream (returned s e) f :=
    getStream_congr (creditArrives_streams _ e) f
  have htakes := hstreams e ▸ hfed.takes e
  rw [returned, getStream_setStream_same] at htakes
  refine ⟨_, exec_creditReturn_runs hbelow hret hruns, htakes.credits, htakes.ret, fun f => ?tiles, fun hclean => ?calm⟩
  case tiles =>
    rw [hfed.streamTiles, streamTiles_congr (hstreams f)]
    exact tiles_getStream_returned s e f
  case calm =>
    have hclean' := queuesClean_returned e hclean
    refine ⟨(hfed.mem hclean').trans (creditArrives_mem _ e), fun t ht hst => ?_⟩
    rw [hfed.getThread hclean']
    exact latch_creditArrives (s := returned s e) ht hst

theorem completes_creditReturn_off {s : State} {e : Nat} (hbelow : (getStream s e).credits < (entryOf s e).depth)
    (hret : 0 < (getStream s e).ret) (hoff : coreRuns s (entryOf s e).pCore = false) :
    completes (.creditReturn e) s (fun u =>
      getStream u e = { getStream s e with routerCr := (getStream s e).routerCr + 1, ret := (getStream s e).ret - 1 } ∧
        u.mem = s.mem) := by
  refine ⟨_, exec_creditReturn_off hbelow hret hoff, ?_, routerEvent_mem _ _⟩
  rw [getStream_congr (routerEvent_streams _ _), routed, getStream_setStream_same]

theorem completes_creditReturn_overrun {s : State} {e : Nat} (hfull : (entryOf s e).depth ≤ (getStream s e).credits)
    (hroom : hasRoom s (excSev s (entryOf s e).pCore)) :
    completes (.creditReturn e) s (fun u =>
      getStream u e = { getStream s e with ret := (getStream s e).ret - 1 } ∧
        queued u (excSev s (entryOf s e).pCore) 0x9004) := by
  have hstream : getStream (overran s e) e = { getStream s e with ret := (getStream s e).ret - 1 } := by
    rw [overran, getStream_congr (raise_streams _ _ _ _ _ _ _), getStream_setStream_same]
  have hqueued : queued (overran s e) (excSev s (entryOf s e).pCore) 0x9004 :=
    queued_raise_step (s := setStream s e { getStream s e with ret := (getStream s e).ret - 1 }) 0x9004 1 _ [] hroom
  refine ⟨_, exec_creditReturn_overrun hfull, ?_⟩
  split
  · exact ⟨hstream, hqueued⟩
  · exact ⟨(getStream_congr (dropMicroBatch_streams _) e).trans hstream, (queued_congr (dropMicroBatch_err _) _ _).2 hqueued⟩

/-! ### The obligation -/

/-- Settles O19: each command is an update of one entry, or of the endpoints of one stream, followed by wake events, which leave the
streams, and by the feeding of engines, which moves tiles from queues to held alone. -/
theorem tokensMove : Obligations.TokensMove := by
  unfold Obligations.TokensMove
  refine ⟨?place, ?release, fun s e => ⟨completes_creditReturn_runs, completes_creditReturn_off, completes_creditReturn_overrun⟩,
    fun s c n hnone => ⟨s, exec_tilePlace_of_noCredits hnone, rfl⟩⟩
  case place =>
    intro s c n es t rest hruns hreset hfence hout hcredits hnodup hrouter
    exact ⟨_, exec_tilePlace hruns hreset hfence, placed_of_fedTo hnodup hrouter (placeNext_fedTo hout hcredits)⟩
  case release => exact fun s e t rest => completes_tileRelease

end Sys2Proof.Machine
end

section
/-! SUPPORT. Laws of threads that switch out, are released, see a wake event or stop for good (R261, R272, R273, R275, R276): what
each changes of the threads and of the rest of the device. -/

namespace Sys2Proof.Machine

/-- Setting a key twice leaves the second value. -/
theorem tset_tset {α : Type} (t : Tbl α) (k : Nat) (v w : α) : tset (tset t k v) k w = tset t k w := by
  induction t with
  | nil => simp [tset]
  | cons e r ih =>
    obtain ⟨a, x⟩ := e
    by_cases hlt : k < a
    · simp [tset, hlt]
    · by_cases heq : k = a
      · simp [tset, heq]
      · simp [tset, hlt, heq, ih]

theorem tget_foldl_tset_of_notMem {α : Type} (f : Nat → α) {l : List Nat} (t : Tbl α) {k : Nat} (d : α) (h : k ∉ l) :
    tget (l.foldl (fun ts i => tset ts i (f i)) t) k d = tget t k d := by
  induction l generalizing t with
  | nil => rfl
  | cons i l ih =>
    rw [List.mem_cons, not_or] at h
    rw [List.foldl_cons, ih _ h.2, tget_tset_other _ _ _ h.1]

/-! ### What a core keeps through a change of a thread -/

theorem setThread_setThread (s : State) (c t : Nat) (x y : Thread) : setThread (setThread s c t x) c t y = setThread s c t y := by
  unfold setThread setCore
  rw [show getCore { s with cores := tset s.cores c { getCore s c with threads := tset (getCore s c).threads t x } } c =
    { getCore s c with threads := tset (getCore s c).threads t x } from getCore_setCore_same s c _]
  simp [tset_tset]

@[simp] theorem getStn_setThread (s : State) (c t : Nat) (x : Thread) (d n : Nat) :
    getStn (setThread s c t x) d n = getStn s d n := getStn_setCore (by rfl) d n

/-- A core changed in nothing of its sync counters keeps them. -/
theorem sync_setCore {s : State} {c : Nat} {x : Core} (h : x.sync = (getCore s c).sync) (d : Nat) :
    (getCore (setCore s c x) d).sync = (getCore s d).sync := by
  by_cases hd : d = c
  · subst hd
    rw [getCore_setCore_same, h]
  · rw [getCore_setCore_other s x hd]

@[simp] theorem sync_setThread (s : State) (c t : Nat) (x : Thread) (d : Nat) :
    (getCore (setThread s c t x) d).sync = (getCore s d).sync := sync_setCore (by rfl) d

theorem getCore_congr {s u : State} (h : u.cores = s.cores) (c : Nat) : getCore u c = getCore s c := by
  rw [getCore, h, getCore]

/-! ### Giving the core to a thread (R272) -/

/-- `y` is `x`, or `x` was ready and was given the core. -/
def Thread.ScheduledTo (x y : Thread) : Prop := y = x ∨ x.st = .ready ∧ y = { x with st := .running, run := 0 }

theorem nextReady_ready {k : Core} {t : Nat} (h : nextReady k = some t) : (tget k.threads t Thread.reset).st = .ready := by
  simpa using List.find?_some h

theorem scheduledTo_schedule (k : Core) (t : Nat) :
    (tget k.threads t Thread.reset).ScheduledTo (tget k.schedule.threads t Thread.reset) := by
  unfold Core.schedule
  split
  case h_1 r _ hnext =>
    by_cases h : t = r
    · subst h
      rw [tget_tset_same]
      exact .inr ⟨nextReady_ready hnext, rfl⟩
    · rw [tget_tset_other _ _ _ h]
      exact .inl rfl
  case h_2 => exact .inl rfl

@[simp] theorem schedule_sync (k : Core) : k.schedule.sync = k.sync := by
  unfold Core.schedule
  split <;> rfl

theorem scheduledTo_reschedule (s : State) (c d t : Nat) : (getThread s d t).ScheduledTo (getThread (reschedule s c) d t) := by
  unfold reschedule
  by_cases h : d = c
  · subst h
    rw [getThread, getThread, getCore_setCore_same]
    exact scheduledTo_schedule _ t
  · rw [getThread, getThread, getCore_setCore_other _ _ h]
    exact .inl rfl

/-- A thread that is not ready stays as it is when the core goes to another. -/
theorem getThread_reschedule_of_ne_ready {s : State} {d t : Nat} (c : Nat) (h : (getThread s d t).st ≠ .ready) :
    getThread (reschedule s c) d t = getThread s d t :=
  (scheduledTo_reschedule s c d t).resolve_right fun hready => h hready.1

@[simp] theorem getStn_reschedule (s : State) (c d n : Nat) : getStn (reschedule s c) d n = getStn s d n :=
  getStn_setCore (schedule_stations _) d n

@[simp] theorem sync_reschedule (s : State) (c d : Nat) : (getCore (reschedule s c) d).sync = (getCore s d).sync :=
  sync_setCore (schedule_sync _) d

/-! ### Switching out (R272) -/

theorem getThread_switchOut (s : State) (c t : Nat) {st : TState} (b : Blocked) (h : st ≠ .ready) :
    getThread (switchOut s c t st b) c t = { getThread s c t with st := st, blocked := b } := by
  have hset : getThread (bump (setThread s c t { getThread s c t with st := st, blocked := b }) (O.coreSwitches c)) c t =
      { getThread s c t with st := st, blocked := b } := getThread_setThread_same s c t _
  rw [switchOut, getThread_reschedule_of_ne_ready c (by rwa [hset]), hset]

@[simp] theorem getStn_switchOut (s : State) (c t : Nat) (st : TState) (b : Blocked) (d n : Nat) :
    getStn (switchOut s c t st b) d n = getStn s d n := by
  rw [switchOut, getStn_reschedule, getStn_congr (bump_cores _ _ _), getStn_setThread]

@[simp] theorem sync_switchOut (s : State) (c t : Nat) (st : TState) (b : Blocked) (d : Nat) :
    (getCore (switchOut s c t st b) d).sync = (getCore s d).sync := by
  rw [switchOut, sync_reschedule, getCore_congr (bump_cores _ _ _), sync_setThread]

/-! ### Retention (R276) -/

/-- Retention changes the power domains alone. -/
theorem retainCluster_eq_with (s : State) (g : Nat) :
    ∃ doms, retainCluster s g = { s with power := { s.power with doms := doms } } := by
  unfold retainCluster
  split
  · obtain ⟨doms, h⟩ := settleDom_eq_with (setDom s g { getDom s g with wait := true }) g
    exact ⟨doms, h⟩
  · exact ⟨_, rfl⟩

@[simp] theorem retainCluster_cores (s : State) (g : Nat) : (retainCluster s g).cores = s.cores := by
  obtain ⟨_, h⟩ := retainCluster_eq_with s g
  rw [h]

@[simp] theorem retainCluster_csr (s : State) (g : Nat) : (retainCluster s g).csr = s.csr := by
  obtain ⟨_, h⟩ := retainCluster_eq_with s g
  rw [h]

@[simp] theorem retainCluster_mem (s : State) (g : Nat) : (retainCluster s g).mem = s.mem := by
  obtain ⟨_, h⟩ := retainCluster_eq_with s g
  rw [h]

@[simp] theorem retainCluster_streams (s : State) (g : Nat) : (retainCluster s g).streams = s.streams := by
  obtain ⟨_, h⟩ := retainCluster_eq_with s g
  rw [h]

/-! ### A wake event at a thread that does not wait for it (R275) -/

/-- A thread that does not wait for a wake event keeps everything but what it has latched. -/
theorem event_of_not_awaits {x : Thread} {ev : Nat} (h : x.awaits ev = false) : ∃ latch, x.event ev = { x with latch := latch } := by
  unfold Thread.awaits at h
  unfold Thread.event
  split
  case h_1 m hst hblocked =>
    simp only [hst, hblocked] at h
    rw [h]
    exact ⟨x.latch, rfl⟩
  case h_2 => exact ⟨_, rfl⟩

theorem not_awaits_of_blocked_none {x : Thread} (ev : Nat) (h : x.blocked = .none) : x.awaits ev = false := by
  simp [Thread.awaits, h]

theorem not_awaits_of_ne_wait {x : Thread} (ev : Nat) (h : x.st ≠ .wait) : x.awaits ev = false := by
  unfold Thread.awaits
  split
  case h_1 hst _ => exact absurd hst h
  case h_2 => rfl

/-- What a wake event changes of a thread that does not wait for it. -/
theorem getThread_coreEvent {s : State} {d t ev : Nat} (c : Nat) (h : (getThread s d t).awaits ev = false) :
    ∃ latch, Thread.ScheduledTo { getThread s d t with latch := latch } (getThread (coreEvent s c ev) d t) := by
  have hsee : ∃ latch, Thread.ScheduledTo { getThread s d t with latch := latch } (getThread (threadsSee s c ev) d t) := by
    have hset : ∃ latch, getThread (setCore s c { getCore s c with
        threads := (List.range 8).foldl (fun ts t => tset ts t ((getThread s c t).event ev)) (getCore s c).threads }) d t =
        { getThread s d t with latch := latch } := by
      by_cases hd : d = c
      · subst hd
        rw [getThread, getCore_setCore_same]
        by_cases ht : t ∈ List.range 8
        · rw [tget_foldl_tset _ _ _ ht]
          exact event_of_not_awaits h
        · rw [tget_foldl_tset_of_notMem _ _ _ ht]
          exact ⟨_, rfl⟩
      · rw [getThread, getCore_setCore_other _ _ hd]
        exact ⟨_, rfl⟩
    obtain ⟨latch, hset⟩ := hset
    exact ⟨latch, hset ▸ scheduledTo_reschedule _ c d t⟩
  rw [coreEvent_eq]
  split
  · rwa [getThread_wakeCluster]
  · exact hsee

@[simp] theorem sync_coreEvent (s : State) (c ev d : Nat) : (getCore (coreEvent s c ev) d).sync = (getCore s d).sync := by
  have hsee : (getCore (threadsSee s c ev) d).sync = (getCore s d).sync := by
    rw [threadsSee, sync_reschedule, sync_setCore (by rfl)]
  rw [coreEvent_eq]
  split
  · obtain ⟨_, h⟩ := wakeCluster_eq_with (threadsSee s c ev) (clusterOf c)
    exact (congrArg Core.sync (getCore_congr (congrArg State.cores h) d)).trans hsee
  · exact hsee

@[simp] theorem coreEvent_mem (s : State) (c ev : Nat) : (coreEvent s c ev).mem = s.mem := by
  obtain ⟨_, _, h⟩ := coreEvent_eq_with s c ev
  rw [h]

@[simp] theorem coreEvent_csr (s : State) (c ev : Nat) : (coreEvent s c ev).csr = s.csr := by
  obtain ⟨_, _, h⟩ := coreEvent_eq_with s c ev
  rw [h]

/-! ### An instruction that waits, and one that passes by -/

section

variable {s : State} {c t : Nat}

/-- A thread that waits stops where its next instruction stands, with its registers as they were. -/
theorem switchOut_advanced_waits (b : Blocked) {st : TState} (h : st ≠ .ready) :
    (getThread (switchOut (advanced s c t) c t st b) c t).st = st ∧
      (getThread (switchOut (advanced s c t) c t st b) c t).blocked = b ∧ passedBy s (switchOut (advanced s c t) c t st b) c t := by
  simp [getThread_switchOut _ c t b h, passedBy, pcNext]

/-- A thread that issues now and has to wait switches out. -/
theorem park_advanced (h : issuesNow s c t) (st : TState) (b : Blocked) :
    park (advanced s c t) c t st b = switchOut (advanced s c t) c t st b :=
  if_pos (by simpa using running_of_issuesNow h)

/-- An instruction that ends without an exception moves its thread nowhere. -/
theorem issueOther_of_ne_exception (h : issuesNow s c t) (uses : List Nat) {op : Thread → CoreOp} {u : State}
    (hperform : performOp (advanced s c t) c t (getThread s c t).pc (op (getThread s c t)) = u)
    (hst : (getThread u c t).st ≠ .exception) : issueOther s c t uses true op = u := by
  rw [issueOther_of_issuesNow h, hperform, settlePc_of_ne_exception _ _ hst]

/-- An instruction that has to wait switches its thread out. -/
theorem issueOther_of_park (h : issuesNow s c t) (uses : List Nat) {op : Thread → CoreOp} {st : TState} {b : Blocked}
    (hperform : performOp (advanced s c t) c t (getThread s c t).pc (op (getThread s c t)) = park (advanced s c t) c t st b)
    (hready : st ≠ .ready) (hexc : st ≠ .exception) :
    issueOther s c t uses true op = switchOut (advanced s c t) c t st b := by
  refine issueOther_of_ne_exception h uses (hperform.trans (park_advanced h st b)) ?_
  rwa [(switchOut_advanced_waits b hready).1]

end

end Sys2Proof.Machine
end

section
/-! O12. FENCE and WAIT (R269, R275): a condition that holds lets the thread pass, one that does not switches it out. -/

namespace Sys2Proof.Machine

/-- A number without the bits it shares with a mask shares none with it. -/
theorem sub_and_and_eq_zero (m l : Nat) : (l - (l &&& m)) &&& m = 0 := by
  induction m using Nat.strongRecOn generalizing l with
  | _ m ih =>
    by_cases hm : m = 0
    · simp [hm]
    · have hhalf := ih (m / 2) (by omega) (l / 2)
      have hle : l / 2 &&& m / 2 ≤ l / 2 := Nat.and_le_left
      have hdiv : (l &&& m) / 2 = l / 2 &&& m / 2 := Nat.and_div_two
      have hmod : (l &&& m) % 2 = 1 ↔ l % 2 = 1 ∧ m % 2 = 1 := Nat.and_mod_two_eq_one
      have hsub : (l - (l &&& m)) / 2 = l / 2 - (l / 2 &&& m / 2) := by omega
      have hhigh : ((l - (l &&& m)) &&& m) / 2 = 0 := by rw [Nat.and_div_two, hsub, hhalf]
      have hlow : ((l - (l &&& m)) &&& m) % 2 ≠ 1 := by
        rw [Ne, Nat.and_mod_two_eq_one]
        omega
      omega

section

variable {s : State} {c t gd ga : Nat} {imm : BitVec 16}

/-- A mask of 1 to 15 is legal. -/
theorem maskLegal {m : Nat} (hpos : 0 < m) (hlt : m < 16) : (decide (0 < m) && decide (m < 16)) = true := by
  simp [hpos, hlt]

theorem exec_fence_legal (hpos : 0 < imm.toNat) (hlt : imm.toNat < 16) :
    exec (.fence c t gd ga imm) s = .next (issueOther s c t [] true (fun _ => .fence imm.toNat)) := by
  rw [← maskLegal hpos hlt]
  rfl

theorem exec_waitEv_legal (hpos : 0 < imm.toNat) (hlt : imm.toNat < 16) :
    exec (.waitEv c t gd ga imm) s = .next (issueOther s c t [] true (fun _ => .wait imm.toNat)) := by
  rw [← maskLegal hpos hlt]
  rfl

/-- The conditions of a FENCE lie in the stations and engines, which its own issue leaves alone. -/
theorem fenceHolds_advanced (s : State) (c t m : Nat) : fenceHolds (advanced s c t) c t m = fenceHolds s c t m := by
  unfold fenceHolds storePending stationQuiet driverOf getEng advanced
  simp only [getStn_setThread]
  have hcore : getCore (setThread s c t { getThread s c t with
      pc := pcNext (getThread s c t).pc, run := (getThread s c t).run + 1 }) c = { getCore s c with
      threads := tset (getCore s c).threads t { getThread s c t with
        pc := pcNext (getThread s c t).pc, run := (getThread s c t).run + 1 } } := getCore_setCore_same s c _
  rw [hcore]

theorem exec_fence_passes (hnow : issuesNow s c t) (hpos : 0 < imm.toNat) (hlt : imm.toNat < 16)
    (hholds : fenceHolds s c t imm.toNat = true) : exec (.fence c t gd ga imm) s = .next (advanced s c t) := by
  have hperform : doFence (advanced s c t) c t imm.toNat = advanced s c t := if_pos ((fenceHolds_advanced s c t _).trans hholds)
  rw [exec_fence_legal hpos hlt]
  exact congrArg _ (issueOther_of_ne_exception hnow [] hperform (by simp [running_of_issuesNow hnow]))

theorem exec_fence_waits (hnow : issuesNow s c t) (hpos : 0 < imm.toNat) (hlt : imm.toNat < 16)
    (hfails : fenceHolds s c t imm.toNat = false) :
    exec (.fence c t gd ga imm) s = .next (switchOut (advanced s c t) c t .fence (.fence imm.toNat)) := by
  have hperform : doFence (advanced s c t) c t imm.toNat = park (advanced s c t) c t .fence (.fence imm.toNat) :=
    if_neg (by rw [fenceHolds_advanced, hfails]; decide)
  rw [exec_fence_legal hpos hlt]
  exact congrArg _ (issueOther_of_park hnow [] hperform (by decide) (by decide))

/-- A thread that has taken latched events off a mask. -/
def Thread.unlatch (x : Thread) (m : Nat) : Thread := { x with latch := x.latch - (x.latch &&& m) }

/-- A latched event that a WAIT names is cleared, and the thread goes on (R275). -/
theorem exec_waitEv_latched (hnow : issuesNow s c t) (hpos : 0 < imm.toNat) (hlt : imm.toNat < 16)
    (hlatched : (getThread s c t).latch &&& imm.toNat ≠ 0) :
    exec (.waitEv c t gd ga imm) s =
      .next (setThread s c t ((getThread (advanced s c t) c t).unlatch imm.toNat)) := by
  have hperform : doWait (advanced s c t) c t imm.toNat =
      setThread s c t ((getThread (advanced s c t) c t).unlatch imm.toNat) := by
    rw [doWait, if_neg (by simpa using hlatched)]
    exact setThread_setThread s c t _ _
  rw [exec_waitEv_legal hpos hlt]
  exact congrArg _ (issueOther_of_ne_exception hnow [] hperform (by simp [Thread.unlatch, running_of_issuesNow hnow]))

/-- A WAIT without a latched event waits, and its cluster may enter retention (R276). -/
theorem exec_waitEv_waits (hnow : issuesNow s c t) (hpos : 0 < imm.toNat) (hlt : imm.toNat < 16)
    (hnone : (getThread s c t).latch &&& imm.toNat = 0) :
    exec (.waitEv c t gd ga imm) s =
      .next (retainCluster (switchOut (advanced s c t) c t .wait (.wait imm.toNat)) (clusterOf c)) := by
  have hperform : doWait (advanced s c t) c t imm.toNat =
      retainCluster (switchOut (advanced s c t) c t .wait (.wait imm.toNat)) (clusterOf c) := by
    rw [doWait, if_pos (by simpa using hnone), park_advanced hnow]
  have hst : (getThread (retainCluster (switchOut (advanced s c t) c t .wait (.wait imm.toNat)) (clusterOf c)) c t).st = .wait := by
    rw [getThread_congr (retainCluster_cores _ _), getThread_switchOut _ _ _ _ (by decide)]
  rw [exec_waitEv_legal hpos hlt]
  exact congrArg _ (issueOther_of_ne_exception hnow [] hperform (by rw [hst]; decide))

end

/-- Settles O12: each instruction by whether its condition holds, that is the FENCE's own or an event latched before the WAIT. -/
theorem fenceAndWait : Obligations.FenceAndWait := by
  unfold Obligations.FenceAndWait
  intro s c t gd ga imm x m hnow hpos hlt
  refine ⟨fun hholds => ⟨_, exec_fence_passes hnow hpos hlt hholds, rfl⟩,
    fun hfails => ⟨_, exec_fence_waits hnow hpos hlt hfails, switchOut_advanced_waits _ (by decide)⟩,
    fun hlatched => ⟨_, exec_waitEv_latched hnow hpos hlt hlatched, ?latched⟩,
    fun hnone => ⟨_, exec_waitEv_waits hnow hpos hlt hnone, ?waits⟩⟩
  case latched =>
    simp only [passedBy, getThread_setThread_same, getThread_advanced]
    exact ⟨trivial, sub_and_and_eq_zero m x.latch, Nat.sub_add_cancel Nat.and_le_left, ⟨rfl, rfl⟩, running_of_issuesNow hnow⟩
  case waits =>
    obtain ⟨hst, hblocked, hpassed⟩ := switchOut_advanced_waits (s := s) (c := c) (t := t) (.wait m) (st := .wait) (by decide)
    rw [passedBy, getThread_congr (retainCluster_cores _ _), retainCluster_mem]
    exact ⟨hst, hblocked, hpassed, rfl⟩

end Sys2Proof.Machine
end

section
/-! O9. TISSUE and SISSUE (R257 to R259, R337): a word enters the queue of its station, or its thread waits for room. -/

namespace Sys2Proof.Machine

/-! ### The checks and the queue do not look at a thread -/

theorem driverOf_setThread (s : State) (c t : Nat) (x : Thread) (d n : Nat) :
    driverOf (setThread s c t x) d n = driverOf s d n := by
  unfold driverOf
  by_cases h : d = c
  · subst h
    rw [setThread, getCore_setCore_same]
  · rw [setThread, getCore_setCore_other _ _ h]

theorem tissueOk_setThread (s : State) (c t : Nat) (x : Thread) (r code idx : Nat) (w : BitVec 64) :
    tissueOk (setThread s c t x) c r code idx w = tissueOk s c r code idx w := by
  unfold tissueOk
  simp only [driverOf_setThread]
  rfl

theorem sissueOk_setThread (s : State) (c t : Nat) (x : Thread) (r code idx : Nat) (w : BitVec 64) :
    sissueOk (setThread s c t x) c r code idx w = sissueOk s c r code idx w := by
  unfold sissueOk
  simp only [driverOf_setThread]
  rfl

theorem queueFull_setThread (s : State) (c t : Nat) (x : Thread) (n : Nat) : queueFull (setThread s c t x) c n = queueFull s c n := by
  rw [queueFull, getStn_setThread, queueFull]

/-! ### A word enters a queue (R258) -/

@[simp] theorem getThread_setStn (s : State) (c n : Nat) (x : Station) (d t : Nat) :
    getThread (setStn s c n x) d t = getThread s d t := getThread_setCore (by rfl) d t

theorem getStn_enqueueWork (s : State) (c n t pc : Nat) (w : BitVec 64) :
    getStn (enqueueWork s c n t pc w) c n =
      { getStn s c n with queue := (getStn s c n).queue ++ [⟨w, t, actingRank s c t, pc⟩] } := by
  rw [enqueueWork, getStn_lint, getStn_setStn_same]

theorem getThread_enqueueWork (s : State) (c n t pc : Nat) (w : BitVec 64) (d r : Nat) :
    getThread (enqueueWork s c n t pc w) d r = getThread s d r := by
  rw [enqueueWork, getThread_lint, getThread_setStn]

theorem enqueueWork_mem (s : State) (c n t pc : Nat) (w : BitVec 64) : (enqueueWork s c n t pc w).mem = s.mem := by
  unfold enqueueWork
  obtain ⟨_, h⟩ := lint_eq_with (setStn s c n { getStn s c n with
    queue := (getStn s c n).queue ++ [⟨w, t, actingRank s c t, pc⟩] }) c (lintRing n) 5 0xFF 0 (w.toNat % 2 ^ 32)
  rw [h, setStn_mem]

/-! ### The device's part in a move of bytes (R337) -/

/-- A descriptor that a tag names has that tag. -/
theorem tag_of_descOf {s : State} {tag : Nat} {d : TagDesc} (htag : tag ≠ 0xFFFF) (h : descOf s tag = some d) : d.tag = tag := by
  rw [descOf, if_neg htag] at h
  obtain ⟨e, he, rfl⟩ := Option.map_eq_some_iff.1 h
  simpa using List.find?_some he

/-- An old opening of a move of bytes other than a GATHER is freed, and nothing more (R349). -/
theorem closeOld_of_move {s : State} {i : Inst} {d : TagDesc} (hdesc : descOf s i.tag = some d) (hop : d.op = 4 ∨ d.op = 6) :
    closeOld s i = freeInst s i := by
  have hred : isRed d.op = false := by rcases hop with h | h <;> simp [isRed, h]
  have hgather : d.op ≠ 1 := by omega
  simp [closeOld, closeEarly, hdesc, hred, hgather]

/-- Freeing the old instances of a move of bytes changes the mangle alone. -/
theorem foldl_closeOld_eq_with {tag : Nat} {d : TagDesc} (hop : d.op = 4 ∨ d.op = 6) (l : List Inst)
    (htags : ∀ i ∈ l, i.tag = tag) (s : State) (hdesc : descOf s tag = some d) :
    ∃ mangle, l.foldl closeOld s = { s with mangle := mangle } := by
  induction l generalizing s with
  | nil => exact ⟨_, rfl⟩
  | cons i l ih =>
    have hi : i.tag = tag := htags i List.mem_cons_self
    rw [List.foldl_cons, closeOld_of_move (hi ▸ hdesc) hop]
    obtain ⟨mangle, h⟩ := ih (fun j hj => htags j (List.mem_cons_of_mem _ hj)) (freeInst s i) hdesc
    exact ⟨mangle, h⟩

/-- The opening of a move of bytes changes the mangle and its registers alone (R348, R349). -/
theorem openInst_eq_with {s u : State} {d : TagDesc} {step : Nat} (hdesc : descOf s d.tag = some d) (hop : d.op = 4 ∨ d.op = 6)
    (h : openInst s d step = some u) : ∃ mangle csr, u = { s with mangle := mangle, csr := csr } := by
  have htags : ∀ i ∈ s.mangle.insts.filter (fun i => decide (i.tag = d.tag) && decide (i.step + 2 ≤ step)), i.tag = d.tag := by
    intro i hi
    simp only [List.mem_filter, Bool.and_eq_true, decide_eq_true_eq] at hi
    exact hi.2.1
  obtain ⟨mangle, hclose⟩ := foldl_closeOld_eq_with hop _ htags s hdesc
  unfold openInst at h
  simp only [hclose] at h
  split at h
  · cases h
  · split at h
    · cases h
    · rw [← Option.some.inj h]
      split <;> exact ⟨_, _, rfl⟩

/-- Beginning the device's part in a move of bytes changes the mangle and the register table alone. -/
theorem beginPart_eq_with (s : State) (tag : Nat) : ∃ mangle csr, beginPart s tag = { s with mangle := mangle, csr := csr } := by
  unfold beginPart
  split
  case h_1 => exact ⟨_, _, rfl⟩
  case h_2 d hd =>
    split
    case isFalse => exact ⟨_, _, rfl⟩
    case isTrue hop =>
      obtain ⟨htag, hdesc⟩ : ¬ (tag = 0 ∨ tag = 0xFFFF) ∧ descOf s tag = some d := by
        split at hd
        · cases hd
        · exact ⟨‹_›, hd⟩
      rw [not_or] at htag
      have hd' : descOf s d.tag = some d := (tag_of_descOf htag.2 hdesc).symm ▸ hdesc
      unfold openPart
      simp only [hdesc]
      split
      case isFalse => exact ⟨_, _, rfl⟩
      case isTrue =>
        cases hopen : openInst s d s.step with
        | none =>
          unfold slotWait
          simp only [Option.getD_none]
          split <;> exact ⟨_, _, rfl⟩
        | some u => exact openInst_eq_with hd' (by omega) hopen

/-! ### Issue -/

section

variable {s : State} {c t gd : Nat}

/-- The fields of the immediate of TISSUE and SISSUE (R254). -/
theorem issueFields {code idx : Nat} {imm : BitVec 16} (hcode : code < 16) (hidx : idx < 16)
    (himm : imm = BitVec.ofNat 16 (code * 0x1000 + idx * 0x100)) :
    bitsOf imm.toNat 15 12 = code ∧ bitsOf imm.toNat 11 8 = idx ∧ bitsOf imm.toNat 7 0 = 0 := by
  subst himm
  simp only [bitsOf_eq_div_mod, BitVec.toNat_ofNat]
  omega

theorem exec_tissue_legal {imm : BitVec 16} (hlow : bitsOf imm.toNat 7 0 = 0) :
    exec (.tissue c t gd 0 imm) s = .next (issueOther s c t [gd] true
      (fun x => .tissue (x.reg gd) (bitsOf imm.toNat 15 12) (bitsOf imm.toNat 11 8))) := by
  rw [show true = (decide (0 = 0) && decide (bitsOf imm.toNat 7 0 = 0)) by simp [hlow]]
  rfl

theorem exec_sissue_legal {imm : BitVec 16} (hlow : bitsOf imm.toNat 7 0 = 0) :
    exec (.sissue c t gd 0 imm) s = .next (issueOther s c t [gd] true
      (fun x => .sissue (x.reg gd) (bitsOf imm.toNat 15 12) (bitsOf imm.toNat 11 8))) := by
  rw [show true = (decide (0 = 0) && decide (bitsOf imm.toNat 7 0 = 0)) by simp [hlow]]
  rfl

/-- The queue entry of a word that a thread issues now (R258). -/
def entryNow (s : State) (c t : Nat) (w : BitVec 64) : QEntry := ⟨w, t, actingRank s c t, (getThread s c t).pc⟩

/-- The work word stands behind what the queue held, and the thread at its next instruction. -/
def issued (s : State) (c t n : Nat) (w : BitVec 64) (u : State) : Prop :=
  (getStn u c n).queue = (getStn s c n).queue ++ [entryNow s c t w] ∧ passedBy s u c t ∧ u.mem = s.mem

/-- The thread waits for room in a queue, to try an operation again. -/
def awaitsRoom (s : State) (c t n : Nat) (op : CoreOp) (u : State) : Prop :=
  (getStn u c n).queue = (getStn s c n).queue ∧ (getThread u c t).st = .queueFull ∧
    (getThread u c t).blocked = .queueFull op (getThread s c t).pc

/-- The state in which the word of a thread that issues now has entered a queue. -/
def enqueuedNow (s : State) (c t n : Nat) (w : BitVec 64) : State := enqueueWork (advanced s c t) c n t (getThread s c t).pc w

theorem issued_of_congr {n : Nat} {w : BitVec 64} {u : State} (hcores : u.cores = (enqueuedNow s c t n w).cores)
    (hmem : u.mem = s.mem) : issued s c t n w u := by
  have hqueue : (getStn (enqueuedNow s c t n w) c n).queue = (getStn s c n).queue ++ [entryNow s c t w] := by
    rw [enqueuedNow, getStn_enqueueWork, advanced, getStn_setThread]
    rfl
  have hthread : getThread (enqueuedNow s c t n w) c t = getThread (advanced s c t) c t := getThread_enqueueWork _ _ _ _ _ _ _ _
  refine ⟨by rw [getStn_congr hcores, hqueue], ?_, hmem⟩
  simp [passedBy, getThread_congr hcores, hthread, pcNext]

theorem awaitsRoom_switchOut (n : Nat) (op : CoreOp) :
    awaitsRoom s c t n op (switchOut (advanced s c t) c t .queueFull (.queueFull op (getThread s c t).pc)) := by
  obtain ⟨hst, hblocked, -⟩ := switchOut_advanced_waits (s := s) (c := c) (t := t) (.queueFull op (getThread s c t).pc)
    (st := .queueFull) (by decide)
  exact ⟨by rw [getStn_switchOut, advanced, getStn_setThread], hst, hblocked⟩

theorem ne_exception_of_enqueuedNow {n : Nat} {w : BitVec 64} {u : State} (hnow : issuesNow s c t)
    (hcores : u.cores = (enqueuedNow s c t n w).cores) : (getThread u c t).st ≠ .exception := by
  rw [getThread_congr hcores, enqueuedNow, getThread_enqueueWork, getThread_advanced, running_of_issuesNow hnow]
  decide

/-! ### TISSUE -/

/-- A work word that passes the checks enters its queue, or its thread waits for room. -/
theorem doTissue_ok {pc code idx n : Nat} {w : BitVec 64} (hstn : stnNumber code idx = some n)
    (hok : tissueOk s c t code idx w = true) :
    doTissue s c t pc w code idx = if queueFull s c n then park s c t .queueFull (.queueFull (.tissue w code idx) pc)
      else enqueueWork s c n t pc w := by
  simp [doTissue, hok, hstn]

theorem completes_tissue {code idx n : Nat} {imm : BitVec 16} (hnow : issuesNow s c t) (hcode : code < 16) (hidx : idx < 16)
    (himm : imm = BitVec.ofNat 16 (code * 0x1000 + idx * 0x100)) (hstn : stnNumber code idx = some n)
    (hok : tissueOk s c t code idx ((getThread s c t).reg gd) = true) :
    (queueFull s c n = false → completes (.tissue c t gd 0 imm) s (issued s c t n ((getThread s c t).reg gd))) ∧
    (queueFull s c n = true → completes (.tissue c t gd 0 imm) s
      (awaitsRoom s c t n (.tissue ((getThread s c t).reg gd) code idx))) := by
  obtain ⟨hfieldCode, hfieldIdx, hlow⟩ := issueFields hcode hidx himm
  have hdo := doTissue_ok (s := advanced s c t) (pc := (getThread s c t).pc) hstn ((tissueOk_setThread s c t _ t code idx _).trans hok)
  have hfull : queueFull (advanced s c t) c n = queueFull s c n := queueFull_setThread s c t _ n
  rw [completes, completes, exec_tissue_legal hlow, hfieldCode, hfieldIdx]
  refine ⟨fun hroom => ?enters, fun hnone => ?waits⟩
  case enters =>
    rw [hfull, hroom, if_neg (by decide)] at hdo
    exact ⟨_, congrArg _ (issueOther_of_ne_exception hnow [gd] hdo (ne_exception_of_enqueuedNow hnow rfl)),
      issued_of_congr rfl (enqueueWork_mem _ _ _ _ _ _)⟩
  case waits =>
    rw [hfull, hnone, if_pos rfl] at hdo
    exact ⟨_, congrArg _ (issueOther_of_park hnow [gd] hdo (by decide) (by decide)), awaitsRoom_switchOut n _⟩

/-! ### SISSUE -/

/-- A read that meets no error changes nothing (R324). -/
theorem readMeets_of_clean {s : State} {a n : Nat} (h : upsetsIn s a n = []) : readMeets s a n = s := by
  rw [readMeets, h, List.foldl_nil]

/-- A descriptor that passes the checks and holds no uncorrectable data enters its queue, or its thread waits for room. -/
theorem doSissue_ok {pc code idx n : Nat} {a : BitVec 64} (hstn : stnNumber code idx = some n)
    (hok : sissueOk s c t code idx a = true) (hupsets : upsetsIn s a.toNat 64 = []) (hbad : badIn s a.toNat 64 = []) :
    doSissue s c t pc a code idx = if queueFull s c n then park s c t .queueFull (.queueFull (.sissue a code idx) pc)
      else beginPart (enqueueWork s c n t pc a) (readDesc (memGet s a.toNat 64)).tag := by
  simp [doSissue, readMeets_of_clean hupsets, hbad, hok, hstn]

theorem completes_sissue {code idx n : Nat} {imm : BitVec 16} {a : BitVec 64} (ha : (getThread s c t).reg gd = a)
    (hnow : issuesNow s c t) (hcode : code < 16) (hidx : idx < 16)
    (himm : imm = BitVec.ofNat 16 (code * 0x1000 + idx * 0x100)) (hstn : stnNumber code idx = some n)
    (hok : sissueOk s c t code idx a = true) (hupsets : upsetsIn s a.toNat 64 = []) (hbad : badIn s a.toNat 64 = []) :
    (queueFull s c n = false → completes (.sissue c t gd 0 imm) s (issued s c t n a)) ∧
    (queueFull s c n = true → completes (.sissue c t gd 0 imm) s (awaitsRoom s c t n (.sissue a code idx))) := by
  subst ha
  obtain ⟨hfieldCode, hfieldIdx, hlow⟩ := issueFields hcode hidx himm
  have hdo := doSissue_ok (s := advanced s c t) (pc := (getThread s c t).pc) hstn
    ((sissueOk_setThread s c t _ t code idx _).trans hok) hupsets hbad
  have hfull : queueFull (advanced s c t) c n = queueFull s c n := queueFull_setThread s c t _ n
  rw [completes, completes, exec_sissue_legal hlow, hfieldCode, hfieldIdx]
  refine ⟨fun hroom => ?enters, fun hnone => ?waits⟩
  case enters =>
    obtain ⟨mangle, csr, hbegin⟩ := beginPart_eq_with (enqueuedNow s c t n ((getThread s c t).reg gd))
      (readDesc (memGet (advanced s c t) ((getThread s c t).reg gd).toNat 64)).tag
    rw [hfull, hroom, if_neg (by decide)] at hdo
    have hdo' := hdo.trans hbegin
    exact ⟨_, congrArg _ (issueOther_of_ne_exception hnow [gd] hdo' (ne_exception_of_enqueuedNow hnow rfl)),
      issued_of_congr rfl (enqueueWork_mem _ _ _ _ _ _)⟩
  case waits =>
    rw [hfull, hnone, if_pos rfl] at hdo
    exact ⟨_, congrArg _ (issueOther_of_park hnow [gd] hdo (by decide) (by decide)), awaitsRoom_switchOut n _⟩

end

/-- Settles O9: a word that passes the checks by whether its queue has room; the device's part that a descriptor's tag begins leaves
cores and memory alone. -/
theorem stationIssue : Obligations.StationIssue := by
  unfold Obligations.StationIssue
  intro s c t gd code idx n imm x w e issues hnow hcode hidx himm hstn
  exact ⟨fun hok => completes_tissue hnow hcode hidx himm hstn hok,
    fun hok hupsets hbad => completes_sissue rfl hnow hcode hidx himm hstn hok hupsets hbad⟩

end Sys2Proof.Machine
end

section
/-! O10. TWAIT and TSIG (R264 to R266): what a TWAIT finds, and whom a signal serves. -/

namespace Sys2Proof.Machine

section

variable {s : State} {c t gd : Nat}

/-! ### The operand of TWAIT (R254, R264) -/

/-- The operand of a legal TWAIT: the kind of its count, which count, on which side of a station, and how many. -/
structure TwaitFields (low : BitVec 21) (kind idx side n : Nat) : Prop where
  kindIs : bitsOf low.toNat 20 20 = kind
  idxIs : bitsOf low.toNat 19 14 = idx
  sideIs : bitsOf low.toNat 13 13 = side
  countIs : bitsOf low.toNat 12 0 = n
  legal : (decide (kind = 0) || (decide (side = 0) && decide (idx < 16))) = true

theorem twaitFields_counter {idx n : Nat} (hidx : idx < 16) (hn : n < 0x2000) :
    TwaitFields (BitVec.ofNat 21 (0x100000 + idx * 0x4000 + n)) 1 idx 0 n := by
  constructor
  case legal => simp [hidx]
  all_goals
    simp only [bitsOf_eq_div_mod, BitVec.toNat_ofNat]
    omega

theorem twaitFields_stream {v idx side n : Nat} (hidx : idx < 64) (hside : side < 2) (hn : n < 0x2000)
    (hv : v = idx * 0x4000 + side * 0x2000 + n) : TwaitFields (BitVec.ofNat 21 v) 0 idx side n := by
  constructor
  case legal => rfl
  all_goals
    simp only [bitsOf_eq_div_mod, BitVec.toNat_ofNat]
    omega

variable {low : BitVec 21} {kind idx side n v : Nat}

theorem TwaitFields.exec_eq (h : TwaitFields low kind idx side n) :
    exec (.twait c t gd low) s = .next (issueOther s c t [gd] true (fun _ => .twait gd kind idx side n)) := by
  obtain ⟨rfl, rfl, rfl, rfl, hlegal⟩ := h
  rw [← hlegal]
  rfl

/-! ### What a TWAIT finds (R264, R265) -/

theorem twaitCount_advanced (s : State) (c t kind idx side n : Nat) :
    twaitCount (advanced s c t) c kind idx side n = twaitCount s c kind idx side n := by
  unfold twaitCount
  rw [advanced, sync_setThread]
  rfl

theorem twaitCount_counter (side n : Nat) : twaitCount s c 1 idx side n =
    some (if n ≤ tget (getCore s c).sync idx 0 then some (tget (getCore s c).sync idx 0 - n) else none) := rfl

theorem twaitCount_fanin {e : Nat} {p : StreamEnt} (h : fanin s c idx = some (e, p)) (hpos : n ≠ 0) (hdepth : n ≤ p.depth) :
    twaitCount s c 0 idx 0 n =
      some (if n ≤ (getStream s e).queue.length then some (getStream s e).queue.length else none) := by
  simp [twaitCount, h, hpos, Nat.not_lt.2 hdepth]

theorem twaitCount_fanout {e : Nat} {p : StreamEnt} {ps : List (Nat × StreamEnt)} (h : fanout s c idx = (e, p) :: ps)
    (hpos : n ≠ 0) (hdepth : n ≤ p.depth) : twaitCount s c 0 idx 1 n =
      some (if n ≤ creditsOf s (e :: ps.map Prod.fst) then some (creditsOf s (e :: ps.map Prod.fst)) else none) := by
  simp [twaitCount, h, hpos, Nat.not_lt.2 hdepth]

theorem getThread_twaitDone (s : State) (c t gd kind idx v : Nat) :
    getThread (twaitDone s c t gd kind idx v) c t = (getThread s c t).putAll gd (BitVec.ofNat 64 v) := by
  rw [twaitDone, getThread_setThread_same]
  split
  · rw [getThread_setCore (by rfl)]
  · rfl

theorem getThread_twaitDone_other (s : State) {c t d r : Nat} (gd kind idx v : Nat) (h : d ≠ c ∨ r ≠ t) :
    getThread (twaitDone s c t gd kind idx v) d r = getThread s d r := by
  rw [twaitDone, getThread_setThread_other _ _ h]
  split
  · rw [getThread_setCore (by rfl)]
  · rfl

theorem sync_twaitDone_counter (s : State) (c t gd idx v : Nat) :
    (getCore (twaitDone s c t gd 1 idx v) c).sync = tset (getCore s c).sync idx v := by
  rw [twaitDone, if_pos rfl, sync_setThread, getCore_setCore_same]

/-- A TWAIT that is satisfied changes the cores alone. -/
theorem twaitDone_eq_with (s : State) (c t gd kind idx v : Nat) :
    ∃ cores, twaitDone s c t gd kind idx v = { s with cores := cores } := by
  unfold twaitDone
  split <;> exact ⟨_, rfl⟩

/-- A TWAIT that finds its count writes it. -/
theorem exec_twait_satisfied (hnow : issuesNow s c t) (hlow : TwaitFields low kind idx side n)
    (hcount : twaitCount s c kind idx side n = some (some v)) :
    exec (.twait c t gd low) s = .next (twaitDone (advanced s c t) c t gd kind idx v) := by
  have hdo : doTwait (advanced s c t) c t (getThread s c t).pc gd kind idx side n =
      twaitDone (advanced s c t) c t gd kind idx v := by rw [doTwait, twaitCount_advanced, hcount]
  have hst : (getThread (twaitDone (advanced s c t) c t gd kind idx v) c t).st ≠ .exception := by
    simp [getThread_twaitDone, Thread.putAll, running_of_issuesNow hnow]
  rw [hlow.exec_eq]
  exact congrArg _ (issueOther_of_ne_exception hnow [gd] hdo hst)

/-- A TWAIT that does not find its count waits. -/
theorem exec_twait_waits (hnow : issuesNow s c t) (hlow : TwaitFields low kind idx side n)
    (hcount : twaitCount s c kind idx side n = some none) :
    exec (.twait c t gd low) s = .next (switchOut (advanced s c t) c t .twait (.twait gd kind idx side n)) := by
  have hdo : doTwait (advanced s c t) c t (getThread s c t).pc gd kind idx side n =
      park (advanced s c t) c t .twait (.twait gd kind idx side n) := by rw [doTwait, twaitCount_advanced, hcount]
  rw [hlow.exec_eq]
  exact congrArg _ (issueOther_of_park hnow [gd] hdo (by decide) (by decide))

/-- A satisfied TWAIT of a thread that issues now, with nothing in its buffer, changes its registers alone. -/
theorem wroteReg_twaitDone (hnow : issuesNow s c t) :
    wroteReg s (twaitDone (advanced s c t) c t gd 0 idx v) c t gd (BitVec.ofNat 64 v) := by
  obtain ⟨-, hbranches, hbuffer⟩ := hnow
  have hthread := getThread_twaitDone (advanced s c t) c t gd 0 idx v
  rw [wroteReg, hthread]
  refine ⟨setThread_setThread s c t _ _, wrote_of_regs_eq ?_, ?_, ?_⟩
  · simp [Thread.putAll]
  · simp [Thread.putAll, pcNext]
  · simp [Thread.putAll, hbranches, hbuffer]

/-! ### TWAIT on a sync counter -/

theorem completes_twait_counter (hnow : issuesNow s c t) (hidx : idx < 16) (hn : n < 0x2000)
    (hlow : low = BitVec.ofNat 21 (0x100000 + idx * 0x4000 + n)) :
    (n ≤ tget (getCore s c).sync idx 0 → completes (.twait c t gd low) s (fun u =>
      wrote (getThread s c t) (getThread u c t) gd (BitVec.ofNat 64 (tget (getCore s c).sync idx 0 - n)) ∧
        tget (getCore u c).sync idx 0 = tget (getCore s c).sync idx 0 - n ∧
        (getThread u c t).pc = ((getThread s c t).pc + 4) % 2 ^ 20 ∧ u = { s with cores := u.cores })) ∧
    (tget (getCore s c).sync idx 0 < n → completes (.twait c t gd low) s (fun u =>
      (getThread u c t).st = .twait ∧ (getCore u c).sync = (getCore s c).sync ∧ passedBy s u c t)) := by
  subst hlow
  have hlow := twaitFields_counter hidx hn
  have hcount := twaitCount_counter (s := s) (c := c) (idx := idx) 0 n
  refine ⟨fun hfound => ?found, fun hshort => ?short⟩
  case found =>
    rw [if_pos hfound] at hcount
    obtain ⟨cores, hcores⟩ := twaitDone_eq_with (advanced s c t) c t gd 1 idx (tget (getCore s c).sync idx 0 - n)
    refine ⟨_, exec_twait_satisfied hnow hlow hcount, wrote_of_regs_eq ?_, ?_, ?_, ?_⟩
    · simp [getThread_twaitDone, Thread.putAll]
    · rw [sync_twaitDone_counter, tget_tset_same]
    · simp [getThread_twaitDone, Thread.putAll, pcNext]
    · rw [hcores]
      rfl
  case short =>
    rw [if_neg (Nat.not_le.2 hshort)] at hcount
    obtain ⟨hst, -, hpassed⟩ := switchOut_advanced_waits (s := s) (c := c) (t := t) (.twait gd 1 idx 0 n) (st := .twait) (by decide)
    exact ⟨_, exec_twait_waits hnow hlow hcount, hst, by rw [sync_switchOut, advanced, sync_setThread], hpassed⟩

/-! ### TWAIT on the tokens of a stream -/

theorem completes_twait_fanin {e : Nat} {p : StreamEnt} (hnow : issuesNow s c t) (hlow : low = BitVec.ofNat 21 (idx * 0x4000 + n))
    (hidx : idx < 64) (hfanin : fanin s c idx = some (e, p)) (hpos : n ≠ 0) (hdepth : n ≤ p.depth) (hn : n < 0x2000) :
    (n ≤ (getStream s e).queue.length → completes (.twait c t gd low) s (fun u =>
      wroteReg s u c t gd (BitVec.ofNat 64 (getStream s e).queue.length))) ∧
    ((getStream s e).queue.length < n → completes (.twait c t gd low) s (fun u =>
      (getThread u c t).st = .twait ∧ u.streams = s.streams ∧ passedBy s u c t)) := by
  subst hlow
  have hlow := twaitFields_stream (side := 0) hidx (by decide) hn (by omega : idx * 0x4000 + n = _)
  have hcount := twaitCount_fanin hfanin hpos hdepth
  refine ⟨fun hfound => ?found, fun hshort => ?short⟩
  case found =>
    rw [if_pos hfound] at hcount
    exact ⟨_, exec_twait_satisfied hnow hlow hcount, wroteReg_twaitDone hnow⟩
  case short =>
    rw [if_neg (Nat.not_le.2 hshort)] at hcount
    obtain ⟨hst, -, hpassed⟩ := switchOut_advanced_waits (s := s) (c := c) (t := t) (.twait gd 0 idx 0 n) (st := .twait) (by decide)
    exact ⟨_, exec_twait_waits hnow hlow hcount, hst, rfl, hpassed⟩

theorem completes_twait_fanout {e : Nat} {p : StreamEnt} {ps : List (Nat × StreamEnt)} (hnow : issuesNow s c t)
    (hlow : low = BitVec.ofNat 21 (idx * 0x4000 + 0x2000 + n)) (hidx : idx < 64) (hfanout : fanout s c idx = (e, p) :: ps)
    (hpos : n ≠ 0) (hdepth : n ≤ p.depth) (hn : n < 0x2000) (hfound : n ≤ creditsOf s (e :: ps.map Prod.fst)) :
    completes (.twait c t gd low) s (fun u => wroteReg s u c t gd (BitVec.ofNat 64 (creditsOf s (e :: ps.map Prod.fst)))) := by
  subst hlow
  have hlow := twaitFields_stream (side := 1) hidx (by decide) hn (by omega : idx * 0x4000 + 0x2000 + n = _)
  have hcount := twaitCount_fanout hfanout hpos hdepth
  rw [if_pos hfound] at hcount
  exact ⟨_, exec_twait_satisfied hnow hlow hcount, wroteReg_twaitDone hnow⟩

/-! ### TSIG (R266) -/

variable {d k r : Nat}

/-- The operand of a legal TSIG: a core of the cluster, a counter, and what is added to it. -/
structure TsigFields (low : BitVec 21) (k idx n : Nat) : Prop where
  coreIs : bitsOf low.toNat 20 18 = k
  idxIs : bitsOf low.toNat 17 14 = idx
  countIs : bitsOf low.toNat 13 0 = n
  countPos : n ≠ 0

theorem tsigFields (hlow : low = BitVec.ofNat 21 (k * 0x40000 + idx * 0x4000 + n)) (hk : k < 8) (hidx : idx < 16) (hpos : n ≠ 0)
    (hn : n < 0x4000) : TsigFields low k idx n := by
  subst hlow
  constructor
  case countPos => exact hpos
  all_goals
    simp only [bitsOf_eq_div_mod, BitVec.toNat_ofNat]
    omega

theorem TsigFields.exec_eq (h : TsigFields low k idx n) :
    exec (.tsig c t 0 low) s = .next (issueOther s c t [] true (fun _ => .tsig k idx n)) := by
  obtain ⟨rfl, rfl, rfl, hpos⟩ := h
  rw [show true = (decide (0 = 0) && decide (bitsOf low.toNat 13 0 ≠ 0)) by simp [hpos]]
  rfl

/-- A sync counter of a core set to a count. -/
def setSync (s : State) (d idx v : Nat) : State := setCore s d { getCore s d with sync := tset (getCore s d).sync idx v }

@[simp] theorem getThread_setSync (s : State) (d idx v c t : Nat) : getThread (setSync s d idx v) c t = getThread s c t :=
  getThread_setCore (by rfl) c t

theorem sync_setSync (s : State) (d idx v : Nat) : tget (getCore (setSync s d idx v) d).sync idx 0 = v := by
  rw [setSync, getCore_setCore_same, tget_tset_same]

/-- The state in which the signal of a TSIG has been added to its counter. -/
def signalled (s : State) (c t d idx n : Nat) : State := setSync (advanced s c t) d idx (tget (getCore s d).sync idx 0 + n)

@[simp] theorem getThread_signalled (s : State) (c t d idx n e r : Nat) :
    getThread (signalled s c t d idx n) e r = getThread (advanced s c t) e r := getThread_setSync _ _ _ _ _ _

theorem sync_signalled (s : State) (c t d idx n : Nat) :
    tget (getCore (signalled s c t d idx n) d).sync idx 0 = tget (getCore s d).sync idx 0 + n := sync_setSync _ _ _ _

theorem getThread_advanced_other (s : State) {c t e r : Nat} (h : e ≠ c ∨ r ≠ t) : getThread (advanced s c t) e r = getThread s e r :=
  getThread_setThread_other s _ h

theorem blocked_advanced (s : State) (c t e r : Nat) : (getThread (advanced s c t) e r).blocked = (getThread s e r).blocked := by
  by_cases h : e ≠ c ∨ r ≠ t
  · rw [getThread_advanced_other s h]
  · rw [not_or, not_not, not_not] at h
    rw [h.1, h.2, getThread_advanced]

theorem doTsig_advanced {pc : Nat} (hd : clusterOf c * 8 + k = d) (h : tget (getCore s d).sync idx 0 + n ≤ 0xFFFF) :
    doTsig (advanced s c t) c t pc k idx n = coreEvent ((List.range 8).foldl (serveTwait d idx) (signalled s c t d idx n)) d 0 := by
  subst hd
  have hsync : (getCore (advanced s c t) (clusterOf c * 8 + k)).sync = (getCore s (clusterOf c * 8 + k)).sync := sync_setThread _ _ _ _ _
  unfold doTsig signalled setSync
  simp only [hsync]
  exact if_neg (Nat.not_lt.2 h)

/-! ### Whom a signal serves (R265) -/

/-- Whether a thread of a core waits on a sync counter. -/
def waitsOn (s : State) (d idx r : Nat) : Prop := ∃ g i m, (getThread s d r).blocked = .twait g 1 idx i m

theorem serveTwait_of_not_waitsOn (h : ¬ waitsOn s d idx r) : serveTwait d idx s r = s := by
  unfold serveTwait
  split
  case h_1 g i sd m hblocked =>
    refine if_neg ?_
    rintro ⟨rfl, -⟩
    exact h ⟨g, sd, m, hblocked⟩
  case h_2 => rfl

/-- Where no thread of a list waits on a counter, none is served. -/
theorem foldl_serveTwait_of_none (l : List Nat) (h : ∀ r ∈ l, ¬ waitsOn s d idx r) : l.foldl (serveTwait d idx) s = s := by
  induction l with
  | nil => rfl
  | cons r l ih =>
    rw [List.foldl_cons, serveTwait_of_not_waitsOn (h r List.mem_cons_self)]
    exact ih fun q hq => h q (List.mem_cons_of_mem _ hq)

/-- A thread that was released waits for nothing. -/
theorem getThread_releaseThread (s : State) (c t : Nat) :
    ∃ st run, getThread (releaseThread s c t) c t = { getThread s c t with blocked := .none, st := st, run := run } := by
  unfold releaseThread
  split
  · exact ⟨_, _, getThread_setThread_same _ _ _ _⟩
  · have hscheduled := scheduledTo_reschedule (setThread s c t { getThread s c t with st := .ready, blocked := .none }) c c t
    rw [getThread_setThread_same] at hscheduled
    rcases hscheduled with h | ⟨-, h⟩
    · exact ⟨_, _, h⟩
    · exact ⟨_, _, h⟩

/-- The release of a thread may only give the core to another. -/
theorem scheduledTo_releaseThread (s : State) {c t d r : Nat} (h : d ≠ c ∨ r ≠ t) :
    (getThread s d r).ScheduledTo (getThread (releaseThread s c t) d r) := by
  unfold releaseThread
  split
  · exact .inl (getThread_setThread_other _ _ h)
  · have hscheduled := scheduledTo_reschedule (setThread s c t { getThread s c t with st := .ready, blocked := .none }) c d r
    rwa [getThread_setThread_other _ _ h] at hscheduled

theorem releaseThread_eq_with (s : State) (c t : Nat) : ∃ cores, releaseThread s c t = { s with cores := cores } := by
  unfold releaseThread
  split <;> exact ⟨_, rfl⟩

@[simp] theorem sync_releaseThread (s : State) (c t d : Nat) : (getCore (releaseThread s c t) d).sync = (getCore s d).sync := by
  unfold releaseThread makeReady
  split <;> simp

theorem Thread.ScheduledTo.blocked {x y : Thread} (h : x.ScheduledTo y) : y.blocked = x.blocked := by
  rcases h with rfl | ⟨-, rfl⟩ <;> rfl

/-- A thread that runs keeps running. -/
theorem Thread.ScheduledTo.eq_of_running {x y : Thread} (h : x.ScheduledTo y) (hrun : x.st = .running) : y = x :=
  h.resolve_right fun hready => by simp [hrun] at hready

/-- The thread that is served: its count is written, and it waits no more. -/
def served (s : State) (d r g idx v : Nat) : State := releaseThread (twaitDone s d r g 1 idx v) d r

theorem serveTwait_of_blocked {g i m : Nat} (hblocked : (getThread s d r).blocked = .twait g 1 idx i m)
    (henough : m ≤ tget (getCore s d).sync idx 0) :
    serveTwait d idx s r = served s d r g idx (tget (getCore s d).sync idx 0 - m) := by
  simp [serveTwait, hblocked, henough, served]

theorem scheduledTo_served {q : Nat} (g v : Nat) (h : c ≠ d ∨ q ≠ r) :
    (getThread s c q).ScheduledTo (getThread (served s d r g idx v) c q) := by
  have hscheduled := scheduledTo_releaseThread (twaitDone s d r g 1 idx v) h
  rwa [getThread_twaitDone_other _ _ _ _ _ h] at hscheduled

theorem getThread_served (s : State) (d r g idx v : Nat) : ∃ st run, getThread (served s d r g idx v) d r =
    { (getThread s d r).putAll g (BitVec.ofNat 64 v) with blocked := .none, st := st, run := run } := by
  rw [← getThread_twaitDone s d r g 1 idx v]
  exact getThread_releaseThread _ d r

theorem sync_served (s : State) (d r g idx v : Nat) : tget (getCore (served s d r g idx v) d).sync idx 0 = v := by
  rw [served, sync_releaseThread, sync_twaitDone_counter, tget_tset_same]

theorem served_mem (s : State) (d r g idx v : Nat) : (served s d r g idx v).mem = s.mem := by
  obtain ⟨_, hdone⟩ := twaitDone_eq_with s d r g 1 idx v
  obtain ⟨_, hrelease⟩ := releaseThread_eq_with (twaitDone s d r g 1 idx v) d r
  rw [served, hrelease, hdone]

/-- Serving one thread leaves what the others wait for. -/
theorem waitsOn_served {q : Nat} (g v : Nat) (h : q ≠ r) : waitsOn (served s d r g idx v) d idx q ↔ waitsOn s d idx q := by
  rw [waitsOn, (scheduledTo_served g v (.inr h)).blocked, waitsOn]

/-- Of the threads of a list, the one that waits on a counter with enough in it is served. -/
theorem foldl_serveTwait_of_alone {l : List Nat} {g i m : Nat} (hmem : r ∈ l) (hnodup : l.Nodup)
    (hblocked : (getThread s d r).blocked = .twait g 1 idx i m) (henough : m ≤ tget (getCore s d).sync idx 0)
    (halone : ∀ q ∈ l, q ≠ r → ¬ waitsOn s d idx q) :
    l.foldl (serveTwait d idx) s = served s d r g idx (tget (getCore s d).sync idx 0 - m) := by
  obtain ⟨before, after, rfl⟩ := List.append_of_mem hmem
  obtain ⟨-, hafter, hbefore⟩ := List.nodup_append.1 hnodup
  have hbefore' : ∀ q ∈ before, ¬ waitsOn s d idx q := fun q hq =>
    halone q (List.mem_append_left _ hq) (hbefore q hq r List.mem_cons_self)
  have hafter' : ∀ q ∈ after, ¬ waitsOn (served s d r g idx (tget (getCore s d).sync idx 0 - m)) d idx q := fun q hq => by
    have hne : q ≠ r := fun heq => (List.nodup_cons.1 hafter).1 (heq ▸ hq)
    rw [waitsOn_served g _ hne]
    exact halone q (List.mem_append_right _ (List.mem_cons_of_mem _ hq)) hne
  rw [List.foldl_append, foldl_serveTwait_of_none before hbefore', List.foldl_cons, serveTwait_of_blocked hblocked henough,
    foldl_serveTwait_of_none after hafter']

/-! ### The end of a TSIG -/

/-- A thread that runs when a wake event comes keeps everything but what it has latched (R275). -/
theorem getThread_coreEvent_of_running (ev : Nat) (h : (getThread s c t).st = .running) :
    ∃ latch, getThread (coreEvent s d ev) c t = { getThread s c t with latch := latch } := by
  obtain ⟨latch, hevent⟩ := getThread_coreEvent (ev := ev) d (not_awaits_of_ne_wait ev (by rw [h]; decide))
  exact ⟨latch, hevent.eq_of_running h⟩

theorem waitsOn_signalled {r : Nat} : waitsOn (signalled s c t d idx n) d idx r ↔ waitsOn s d idx r := by
  rw [waitsOn, getThread_signalled, blocked_advanced, waitsOn]

/-- A TSIG that leaves its own thread running ends with the wake event at the core that it names. -/
theorem exec_tsig {u : State} (hnow : issuesNow s c t) (hlow : TsigFields low k idx n) (hd : clusterOf c * 8 + k = d)
    (hsum : tget (getCore s d).sync idx 0 + n ≤ 0xFFFF)
    (hserve : (List.range 8).foldl (serveTwait d idx) (signalled s c t d idx n) = u)
    (hthread : getThread u c t = getThread (advanced s c t) c t) :
    exec (.tsig c t 0 low) s = .next (coreEvent u d 0) ∧ passedBy s (coreEvent u d 0) c t := by
  have hdo : doTsig (advanced s c t) c t (getThread s c t).pc k idx n = coreEvent u d 0 := by rw [doTsig_advanced hd hsum, hserve]
  have hrun : (getThread u c t).st = .running := by
    rw [hthread, getThread_advanced]
    exact running_of_issuesNow hnow
  obtain ⟨latch, hevent⟩ := getThread_coreEvent_of_running (d := d) 0 hrun
  rw [hlow.exec_eq]
  refine ⟨congrArg _ (issueOther_of_ne_exception hnow [] hdo ?_), ?_⟩
  · simp [hevent, hrun]
  · simp [passedBy, hevent, hthread, pcNext]

/-- A TSIG adds to a counter on which no thread waits. -/
theorem completes_tsig_counted (hnow : issuesNow s c t) (hlow : TsigFields low k idx n) (hd : clusterOf c * 8 + k = d)
    (hsum : tget (getCore s d).sync idx 0 + n ≤ 0xFFFF) (hnone : ∀ r, r < 8 → ¬ waitsOn s d idx r) :
    completes (.tsig c t 0 low) s (fun u => tget (getCore u d).sync idx 0 = tget (getCore s d).sync idx 0 + n ∧ passedBy s u c t ∧
      u.mem = s.mem ∧ u.csr = s.csr) := by
  have hserve := foldl_serveTwait_of_none (s := signalled s c t d idx n) (d := d) (idx := idx) (List.range 8)
    fun r hr => mt waitsOn_signalled.1 (hnone r (List.mem_range.1 hr))
  obtain ⟨hexec, hpassed⟩ := exec_tsig hnow hlow hd hsum hserve (getThread_signalled _ _ _ _ _ _ _ _)
  exact ⟨_, hexec, by rw [sync_coreEvent, sync_signalled], hpassed, coreEvent_mem _ _ _, coreEvent_csr _ _ _⟩

/-- A wake event leaves a thread that waits for nothing without a wait, with its registers. -/
theorem getThread_coreEvent_of_unblocked (ev : Nat) (h : (getThread s d r).blocked = .none) :
    (getThread (coreEvent s d ev) d r).blocked = .none ∧ (getThread (coreEvent s d ev) d r).regs = (getThread s d r).regs := by
  obtain ⟨latch, hevent | ⟨-, hevent⟩⟩ := getThread_coreEvent (ev := ev) d (not_awaits_of_blocked_none ev h)
  · simp [hevent, h]
  · simp [hevent, h]

/-- A TSIG serves the one thread that waits on its counter, where the counter then holds enough. -/
theorem completes_tsig_served {g i m : Nat} (hnow : issuesNow s c t) (hlow : TsigFields low k idx n) (hd : clusterOf c * 8 + k = d)
    (hsum : tget (getCore s d).sync idx 0 + n ≤ 0xFFFF) (hr : r < 8) (hother : (d, r) ≠ (c, t))
    (hblocked : (getThread s d r).blocked = .twait g 1 idx i m) (halone : ∀ q, q < 8 → q ≠ r → ¬ waitsOn s d idx q)
    (henough : m ≤ tget (getCore s d).sync idx 0 + n) :
    completes (.tsig c t 0 low) s (fun u => tget (getCore u d).sync idx 0 = tget (getCore s d).sync idx 0 + n - m ∧
      (getThread u d r).blocked = .none ∧
      wrote (getThread s d r) (getThread u d r) g (BitVec.ofNat 64 (tget (getCore s d).sync idx 0 + n - m)) ∧
      passedBy s u c t ∧ u.mem = s.mem) := by
  have hne : d ≠ c ∨ r ≠ t := by
    rw [Ne, Prod.mk.injEq, not_and_or] at hother
    exact hother
  have hblocked' : (getThread (signalled s c t d idx n) d r).blocked = .twait g 1 idx i m := by
    rw [getThread_signalled, blocked_advanced, hblocked]
  have hserve := foldl_serveTwait_of_alone (List.mem_range.2 hr) List.nodup_range hblocked' (by rwa [sync_signalled])
    fun q hq hqr => mt waitsOn_signalled.1 (halone q (List.mem_range.1 hq) hqr)
  rw [sync_signalled] at hserve
  have hown : getThread (served (signalled s c t d idx n) d r g idx (tget (getCore s d).sync idx 0 + n - m)) c t =
      getThread (advanced s c t) c t := by
    have hscheduled := scheduledTo_served (s := signalled s c t d idx n) (idx := idx) g (tget (getCore s d).sync idx 0 + n - m)
      (hne.imp Ne.symm Ne.symm)
    rw [getThread_signalled] at hscheduled
    exact hscheduled.eq_of_running (by simpa using running_of_issuesNow hnow)
  obtain ⟨hexec, hpassed⟩ := exec_tsig hnow hlow hd hsum hserve hown
  obtain ⟨st, run, hserved⟩ := getThread_served (signalled s c t d idx n) d r g idx (tget (getCore s d).sync idx 0 + n - m)
  rw [getThread_signalled, getThread_advanced_other s hne] at hserved
  obtain ⟨hnone, hregs⟩ := getThread_coreEvent_of_unblocked 0 (congrArg Thread.blocked hserved)
  refine ⟨_, hexec, by rw [sync_coreEvent, sync_served], hnone, wrote_of_regs_eq (hregs.trans ?_), hpassed, ?_⟩
  · rw [hserved]
    rfl
  · exact (coreEvent_mem _ _ _).trans (served_mem _ _ _ _ _ _)

end

/-- Settles O10: TWAIT by whether it finds its count, TSIG by the threads that wait on its counter, of which one alone is served. -/
theorem tokensAndSync : Obligations.TokensAndSync := by
  unfold Obligations.TokensAndSync
  intro s c t gd idx n low x hnow
  refine ⟨fun hlow hidx hn => completes_twait_counter hnow hidx hn hlow,
    fun e p hlow hidx hfanin hpos hdepth hn => completes_twait_fanin hnow hlow hidx hfanin hpos hdepth hn,
    fun e p ps hlow hidx hfanout hpos hdepth hn hfound => completes_twait_fanout hnow hlow hidx hfanout hpos hdepth hn hfound,
    ?tsig⟩
  case tsig =>
    intro k hlow hk hidx hpos hn d v waits hsum
    have hfields := tsigFields hlow hk hidx hpos hn
    exact ⟨fun hnone => completes_tsig_counted hnow hfields rfl hsum hnone,
      fun r g i m hr hother hblocked halone henough => completes_tsig_served hnow hfields rfl hsum hr hother hblocked halone henough⟩

end Sys2Proof.Machine
end

section
/-! SUPPORT. Laws of the exceptions of a core (R254, R278 to R280): what the stop of a thread and the record of an exception leave. -/

namespace Sys2Proof.Machine

/-! ### An event that finds room leaves the registers outside ERRLOG -/

theorem csrGet_placeEvent {s : State} {sev o : Nat} {r : EventRec} (hsev : sev = 2 ∨ sev = 3) (hroom : hasRoom s sev)
    (hcode : r.code < 0x10000) (ho : outsideErrlog o) : csrGet (placeEvent s sev r) o = csrGet s o := by
  unfold hasRoom at hroom
  rw [placeEvent, if_neg (by omega)]
  split
  case h_1 => rw [csrGet_withErr, csrGet_countEvent s hcode (by omega) ho]
  case h_2 =>
    rcases hsev with rfl | rfl
    · rw [if_neg (by decide), if_pos hroom]
      exact csrGet_enqueue s r hcode (by decide) ho
    · rw [if_pos rfl, placeStep, if_pos hroom]
      exact csrGet_enqueue s r hcode (by decide) ho

/-! ### The outcomes collected for a trace (R281, R283) -/

theorem tracePut_eq_with (s : State) (c : Nat) (w : TraceWait) :
    ∃ csr cores, tracePut s c w = { s with csr := csr, cores := cores } := by
  unfold tracePut
  simp only
  split
  · exact ⟨_, _, rfl⟩
  · split
    · exact ⟨_, _, rfl⟩
    · split <;> exact ⟨_, _, rfl⟩

theorem csrGet_tracePut (s : State) {c o : Nat} (w : TraceWait) (h : o ≠ O.coreTraceDrop c) : csrGet (tracePut s c w) o = csrGet s o := by
  unfold tracePut
  simp only
  split
  · rfl
  · split
    · rfl
    · split
      · rfl
      · exact csrGet_bump_other _ _ h

theorem traceOut_eq_with (s : State) (c t pc : Nat) (p : TracePkt) :
    ∃ csr cores, traceOut s c t pc p = { s with csr := csr, cores := cores } := by
  unfold traceOut
  split
  · exact tracePut_eq_with s c _
  · exact ⟨_, _, rfl⟩

theorem csrGet_traceOut (s : State) {c o : Nat} (t pc : Nat) (p : TracePkt) (h : o ≠ O.coreTraceDrop c) :
    csrGet (traceOut s c t pc p) o = csrGet s o := by
  unfold traceOut
  split
  · exact csrGet_tracePut s _ h
  · rfl

theorem traceTnt_eq_with (s : State) (c t : Nat) : ∃ csr cores, traceTnt s c t = { s with csr := csr, cores := cores } := by
  unfold traceTnt
  split
  case h_1 => exact ⟨_, _, rfl⟩
  case h_2 e es _ =>
    obtain ⟨_, _, h⟩ := traceOut_eq_with s c t e.2
      (.tnt (((e :: es).zipIdx.map (fun p => b2n p.1.1 * 2 ^ p.2)).sum + 2 ^ (es.length + 1)))
    simp only [h]
    exact ⟨_, _, rfl⟩

theorem csrGet_traceTnt (s : State) {c o : Nat} (t : Nat) (h : o ≠ O.coreTraceDrop c) : csrGet (traceTnt s c t) o = csrGet s o := by
  unfold traceTnt
  split
  case h_1 => rfl
  case h_2 => exact csrGet_traceOut s t _ _ h

/-! ### A thread stops (R261, R263, R276) -/

theorem retireKeys_eq_with (s : State) (c t : Nat) : ∃ cores keyTab, retireKeys s c t = { s with cores := cores, keyTab := keyTab } := by
  have hfold (l : List (BitVec 64)) (u : State) :
      ∃ keyTab, l.foldl (fun s k => retireKey s (clusterOf c) k) u = { u with keyTab := keyTab } := by
    induction l generalizing u with
    | nil => exact ⟨_, rfl⟩
    | cons k l ih => exact ih (retireKey u (clusterOf c) k)
  obtain ⟨keyTab, h⟩ := hfold (getThread s c t).keys (setThread s c t { getThread s c t with keys := [] })
  exact ⟨_, keyTab, h⟩

/-- The stop of a thread changes the registers, the cores, the key table and the power domains alone. -/
theorem stopThread_eq_with (s : State) (c t : Nat) (st : TState) : ∃ csr cores keyTab power,
    stopThread s c t st = { s with csr := csr, cores := cores, keyTab := keyTab, power := power } := by
  obtain ⟨_, _, htrace⟩ := traceTnt_eq_with s c t
  obtain ⟨_, _, hkeys⟩ := retireKeys_eq_with (traceTnt s c t) c t
  obtain ⟨_, hretain⟩ := retainCluster_eq_with (clearThread s c t st) (clusterOf c)
  rw [stopThread, hretain, clearThread, hkeys, htrace]
  exact ⟨_, _, _, _, rfl⟩

/-- The stop of a thread leaves every register but the count of lost trace and the acting rank of the thread. -/
theorem csrGet_stopThread (s : State) {c t o : Nat} (st : TState) (hdrop : o ≠ O.coreTraceDrop c) (hrank : o ≠ O.coreKeyRank c t) :
    csrGet (stopThread s c t st) o = csrGet s o := by
  obtain ⟨_, _, hkeys⟩ := retireKeys_eq_with (traceTnt s c t) c t
  have hretired : csrGet (retireKeys (traceTnt s c t) c t) o = csrGet (traceTnt s c t) o := by
    rw [hkeys]
    rfl
  have hretain : csrGet (stopThread s c t st) o = csrGet (clearThread s c t st) o := by
    rw [csrGet, stopThread, retainCluster_csr]
    rfl
  rw [hretain, ← csrGet_traceTnt s t hdrop, ← hretired]
  exact csrGet_csrPut_other _ 0 hrank

theorem st_stopThread (s : State) (c t : Nat) {st : TState} (h : st ≠ .ready) : (getThread (stopThread s c t st) c t).st = st := by
  rw [stopThread, getThread_congr (retainCluster_cores _ _), clearThread, getThread_reschedule_of_ne_ready]
  · rw [getThread_setThread_same]
  · rwa [getThread_setThread_same]

/-! ### The record of an exception (R278, R280) -/

/-- The registers that show a core's first exception since the count was last cleared, and the count. -/
def excRegs (c : Nat) : List Nat := [O.coreExcCause c, O.coreExcPc c, O.coreExcInfoLo c, O.coreExcInfoHi c, O.coreExcCount c]

/-- The state in which an exception is recorded, where the registers are free. -/
def excRecorded (s : State) (c t cause info stn pc : Nat) : State :=
  if csrBits s (O.coreExcCount c) 15 0 = 0 then
    csrPut (csrPut (csrPut (csrPut s (O.coreExcCause c) (excCause cause t stn false)) (O.coreExcPc c) pc)
      (O.coreExcInfoLo c) (info % 2 ^ 32)) (O.coreExcInfoHi c) (info / 2 ^ 32 % 2 ^ 32)
  else s

/-- The state in which an exception is recorded and counted. -/
def excCounted (s : State) (c t cause info stn pc : Nat) : State := bump16 (excRecorded s c t cause info stn pc) (O.coreExcCount c)

/-- The state in which the thread of an exception has stopped. -/
def excStopped (s : State) (c t cause info stn pc : Nat) : State := stopThread (excCounted s c t cause info stn pc) c t .exception

/-- An exception ends with CORE_EXCEPTION, which in class 0 fails the request in service (R279, R517). -/
theorem coreExc_eq (s : State) (c t cause info stn pc : Nat) : ∃ r : EventRec, r.code = 0x9001 ∧
    coreExc s c t cause info stn false pc =
      if coreClass s c = 0 then failService (placeEvent (excStopped s c t cause info stn pc) (excSev s c) r) (clusterOf c)
      else placeEvent (excStopped s c t cause info stn pc) (excSev s c) r := by
  unfold coreExc excStopped excCounted excRecorded excSev
  by_cases hfree : csrBits s (O.coreExcCount c) 15 0 = 0 <;> by_cases hcls : coreClass s c = 0 <;>
    simp only [hfree, hcls, if_true, if_false, decide_true, decide_false, Bool.false_eq_true] <;> exact ⟨_, rfl, rfl⟩

theorem excRecorded_eq_with (s : State) (c t cause info stn pc : Nat) :
    ∃ csr, excRecorded s c t cause info stn pc = { s with csr := csr } := by
  unfold excRecorded
  split <;> exact ⟨_, rfl⟩

theorem excStopped_eq_with (s : State) (c t cause info stn pc : Nat) : ∃ csr cores keyTab power,
    excStopped s c t cause info stn pc = { s with csr := csr, cores := cores, keyTab := keyTab, power := power } := by
  obtain ⟨_, hrecord⟩ := excRecorded_eq_with s c t cause info stn pc
  obtain ⟨_, _, _, _, hstop⟩ := stopThread_eq_with (excCounted s c t cause info stn pc) c t .exception
  rw [excStopped, hstop, excCounted, hrecord]
  exact ⟨_, _, _, _, rfl⟩

/-- The registers of an exception lie outside ERRLOG, and the stop of a thread leaves them. -/
theorem excRegs_apart {c t o : Nat} (ht : t < 8) (ho : o ∈ excRegs c) :
    outsideErrlog o ∧ o ≠ O.coreTraceDrop c ∧ o ≠ O.coreKeyRank c t := by
  simp only [excRegs, List.mem_cons, List.not_mem_nil, or_false, O.coreExcCause, O.coreExcPc, O.coreExcInfoLo, O.coreExcInfoHi,
    O.coreExcCount] at ho
  simp only [outsideErrlog, O.coreTraceDrop, O.coreKeyRank]
  omega

/-- What an exception whose event finds room leaves: the thread halted, the registers of the exception as recorded and counted,
memory, and CORE_EXCEPTION in its queue. -/
theorem coreExc_spec {s : State} {c t : Nat} (ht : t < 8) (hroom : hasRoom s (excSev s c)) (cause info stn pc : Nat) :
    (getThread (coreExc s c t cause info stn false pc) c t).st = .exception ∧
      (∀ o ∈ excRegs c, csrGet (coreExc s c t cause info stn false pc) o = csrGet (excCounted s c t cause info stn pc) o) ∧
      (coreExc s c t cause info stn false pc).mem = s.mem ∧
      queued (coreExc s c t cause info stn false pc) (excSev s c) 0x9001 := by
  obtain ⟨r, hcode, hexc⟩ := coreExc_eq s c t cause info stn pc
  obtain ⟨csr, cores, keyTab, power, hstopped⟩ := excStopped_eq_with s c t cause info stn pc
  have hsev : excSev s c = 2 ∨ excSev s c = 3 := by
    unfold excSev
    split
    · exact .inl rfl
    · exact .inr rfl
  have hroom' : hasRoom (excStopped s c t cause info stn pc) (excSev s c) := by
    rw [hstopped]
    exact hroom
  obtain ⟨csr', err', hplaced⟩ := placeEvent_eq_with (excStopped s c t cause info stn pc) r (sev := excSev s c) (by omega) hroom'
  have hcores : (coreExc s c t cause info stn false pc).cores = (excStopped s c t cause info stn pc).cores := by
    rw [hexc, hplaced]
    split <;> rfl
  have hcsr (o : Nat) : csrGet (coreExc s c t cause info stn false pc) o =
      csrGet (placeEvent (excStopped s c t cause info stn pc) (excSev s c) r) o := by
    rw [hexc]
    split <;> rfl
  refine ⟨?halted, fun o ho => ?registers, ?memory, ?event⟩
  case halted => rw [getThread_congr hcores, excStopped, st_stopThread _ _ _ (by decide)]
  case registers =>
    obtain ⟨houtside, hdrop, hrank⟩ := excRegs_apart ht ho
    rw [hcsr, csrGet_placeEvent hsev hroom' (by rw [hcode]; decide) houtside, excStopped, csrGet_stopThread _ _ hdrop hrank]
  case memory =>
    rw [hexc, hplaced, hstopped]
    split <;> rfl
  case event =>
    have hqueued := queued_placeEvent r hsev hroom'
    rw [hcode] at hqueued
    rw [hexc]
    split
    · exact hqueued
    · exact hqueued

/-- The registers of an exception after it: the count, and the record where the registers were free (R278, R280). -/
theorem excCounted_spec (s : State) (c t cause info stn pc : Nat) :
    csrBits (excCounted s c t cause info stn pc) (O.coreExcCount c) 15 0 = min (csrBits s (O.coreExcCount c) 15 0 + 1) 0xFFFF ∧
    (if csrBits s (O.coreExcCount c) 15 0 = 0 then
      csrGet (excCounted s c t cause info stn pc) (O.coreExcCause c) = (cause + t * 16 + stn * 256) % 2 ^ 32 ∧
      csrGet (excCounted s c t cause info stn pc) (O.coreExcPc c) = pc % 2 ^ 32 ∧
      csrGet (excCounted s c t cause info stn pc) (O.coreExcInfoLo c) = info % 2 ^ 32 ∧
      csrGet (excCounted s c t cause info stn pc) (O.coreExcInfoHi c) = info / 2 ^ 32 % 2 ^ 32
    else csrGet (excCounted s c t cause info stn pc) (O.coreExcCause c) = csrGet s (O.coreExcCause c) ∧
      csrGet (excCounted s c t cause info stn pc) (O.coreExcPc c) = csrGet s (O.coreExcPc c)) := by
  have hcount : csrGet (excRecorded s c t cause info stn pc) (O.coreExcCount c) = csrGet s (O.coreExcCount c) := by
    unfold excRecorded
    split <;> simp [csrGet_csrPut_other, O.coreExcCause, O.coreExcPc, O.coreExcInfoLo, O.coreExcInfoHi, O.coreExcCount]
  have hother {o : Nat} (ho : o ≠ O.coreExcCount c) :
      csrGet (excCounted s c t cause info stn pc) o = csrGet (excRecorded s c t cause info stn pc) o := csrGet_bump16_other _ _ ho
  refine ⟨by rw [excCounted, csrBits_bump16, csrBits, hcount, csrBits], ?_⟩
  rw [hother (by simp [O.coreExcCause, O.coreExcCount]), hother (by simp [O.coreExcPc, O.coreExcCount]),
    hother (by simp [O.coreExcInfoLo, O.coreExcCount]), hother (by simp [O.coreExcInfoHi, O.coreExcCount]), excRecorded]
  split
  · simp [csrGet_csrPut_other, O.coreExcCause, O.coreExcPc, O.coreExcInfoLo, O.coreExcInfoHi, excCause, b2n]
  · exact ⟨rfl, rfl⟩

end Sys2Proof.Machine
end

section
/-! O14. The exceptions of the core (R254 to R256, R259, R264, R266, R278 to R280): which check of each instruction fails, and what
its exception shows. -/

namespace Sys2Proof.Machine

section

variable {s : State} {c t : Nat}

/-! ### The exception of an instruction that is performed at once -/

/-- A thread that took an exception goes back to the instruction, and nothing else changes (R278). -/
theorem settlePc_of_exception (pc : Nat) (regs : Tbl (BitVec 64)) (h : (getThread s c t).st = .exception) :
    settlePc s c t pc regs = setThread s c t { getThread s c t with pc := pc, regs := regs } := if_pos h

/-- The exception of an instruction, as its thread settles, is one of R278 to R280. -/
theorem tookExc_settlePc (ht : t < 8) (hroom : hasRoom s (excSev s c)) (cause info stn : Nat) :
    tookExc s (settlePc (coreExc (advanced s c t) c t cause info stn false (getThread s c t).pc) c t (getThread s c t).pc
      (getThread s c t).regs) c t cause info stn := by
  obtain ⟨hhalted, hregs, hmem, hevent⟩ := coreExc_spec (s := advanced s c t) ht hroom cause info stn (getThread s c t).pc
  obtain ⟨hcount, hrecord⟩ := excCounted_spec (advanced s c t) c t cause info stn (getThread s c t).pc
  rw [settlePc_of_exception _ _ hhalted]
  simp only [excRegs, List.forall_mem_cons] at hregs
  obtain ⟨hcauseReg, hpcReg, hloReg, hhiReg, hcountReg, -⟩ := hregs
  rw [csrBits, ← hcountReg] at hcount
  rw [← hcauseReg, ← hpcReg, ← hloReg, ← hhiReg] at hrecord
  simp only [tookExc, getThread_setThread_same]
  exact ⟨hhalted, trivial, trivial, hcount, hrecord, hmem, hevent⟩

/-- An instruction that ends in an exception takes it. -/
theorem tookExc_issueOther (hnow : issuesNow s c t) (ht : t < 8) (hroom : hasRoom s (excSev s c)) (uses : List Nat)
    {op : Thread → CoreOp} {cause info stn : Nat}
    (hperform : performOp (advanced s c t) c t (getThread s c t).pc (op (getThread s c t)) =
      coreExc (advanced s c t) c t cause info stn false (getThread s c t).pc) :
    tookExc s (issueOther s c t uses true op) c t cause info stn := by
  rw [issueOther_of_issuesNow hnow, hperform]
  exact tookExc_settlePc ht hroom cause info stn

theorem completes_exception {i : Instr} (hnow : issuesNow s c t) (ht : t < 8) (hroom : hasRoom s (excSev s c)) {uses : List Nat}
    {op : Thread → CoreOp} {cause info stn : Nat} (hexec : exec i s = .next (issueOther s c t uses true op))
    (hperform : performOp (advanced s c t) c t (getThread s c t).pc (op (getThread s c t)) =
      coreExc (advanced s c t) c t cause info stn false (getThread s c t).pc) :
    completes i s (fun u => tookExc s u c t cause info stn) :=
  ⟨_, hexec, tookExc_issueOther hnow ht hroom uses hperform⟩

/-! ### ILLEGAL (R254) -/

theorem issueOther_illegal (uses : List Nat) (op : Thread → CoreOp) :
    issueOther s c t uses false op = issueOther s c t uses true (fun _ => .illegal) := rfl

theorem issueAlu_illegal (gd : Nat) (uses : List Nat) (v : Thread → BitVec 64) :
    issueAlu s c t gd uses false v = issueOther s c t [] true (fun _ => .illegal) := by
  unfold issueAlu issueOther
  cases hmay : mayIssue (drainBuffer s c t) c t <;> simp [hmay]

/-- An instruction whose form is not legal takes ILLEGAL. -/
theorem tookExc_illegal (hnow : issuesNow s c t) (ht : t < 8) (hroom : hasRoom s (excSev s c)) (uses : List Nat) :
    tookExc s (issueOther s c t uses true (fun _ => .illegal)) c t 1 0 0 := tookExc_issueOther hnow ht hroom uses rfl

theorem completes_illegal_other {i : Instr} (hnow : issuesNow s c t) (ht : t < 8) (hroom : hasRoom s (excSev s c)) {uses : List Nat}
    {legal : Bool} {op : Thread → CoreOp} (hexec : exec i s = .next (issueOther s c t uses legal op)) (hlegal : legal = false) :
    completes i s (fun u => tookExc s u c t 1 0 0) := by
  rw [hlegal, issueOther_illegal] at hexec
  exact ⟨_, hexec, tookExc_illegal hnow ht hroom uses⟩

theorem completes_illegal_alu {i : Instr} (hnow : issuesNow s c t) (ht : t < 8) (hroom : hasRoom s (excSev s c)) {gd : Nat}
    {uses : List Nat} {legal : Bool} {v : Thread → BitVec 64} (hexec : exec i s = .next (issueAlu s c t gd uses legal v))
    (hlegal : legal = false) : completes i s (fun u => tookExc s u c t 1 0 0) := by
  rw [hlegal, issueAlu_illegal] at hexec
  exact ⟨_, hexec, tookExc_illegal hnow ht hroom []⟩

theorem aluLegal_eq_false {func gb rsv : Nat} (h : rsv ≠ 0 ∨ 0xE ≤ func ∧ gb ≠ 0) : aluLegal func gb rsv = false := by
  rcases h with h | ⟨hfunc, hgb⟩
  · simp [aluLegal, h]
  · simp [aluLegal, Nat.not_lt.2 hfunc, hgb]

theorem shiftLegal_eq_false {imm : BitVec 16} (h : 0xC0 ≤ imm.toNat) : shiftLegal imm = false := by
  have hlt := imm.isLt
  simp only [shiftLegal, bitsOf_eq_div_mod, Bool.and_eq_false_iff, decide_eq_false_iff_not, not_not]
  omega

theorem maskLegal_eq_false {m : Nat} (h : m = 0 ∨ 16 ≤ m) : (decide (0 < m) && decide (m < 16)) = false := by
  simp only [Bool.and_eq_false_iff, decide_eq_false_iff_not]
  omega

/-! ### MISALIGNED and MEM_ACCESS (R255, R256) -/

theorem accessCause_misaligned {n : Nat} (write : Bool) {a : BitVec 64} (h : a.toNat % n ≠ 0) : accessCause s c n write a = 2 :=
  if_pos h

theorem accessCause_denied {n : Nat} {write : Bool} {a : BitVec 64} (haligned : a.toNat % n = 0)
    (hdenied : mayAccess s (coreClass s c) write a.toNat n = false) : accessCause s c n write a = 3 := by
  simp [accessCause, haligned, hdenied]

theorem doLoad_fault {pc n gd k : Nat} (signed : Bool) {a : BitVec 64} (h : accessCause s c n false a = k + 1) :
    doLoad s c t pc n signed gd a = coreExc s c t (k + 1) a.toNat 0 false pc := by
  simp only [doLoad, h]

theorem doStore_fault {pc n k : Nat} (v : BitVec 64) {a : BitVec 64} (h : accessCause s c n true a = k + 1) :
    doStore s c t pc n v a = coreExc s c t (k + 1) a.toNat 0 false pc := by
  simp only [doStore, h]

theorem doAadd_misaligned {pc gd : Nat} (v : BitVec 64) {a : BitVec 64} (h : a.toNat % 8 ≠ 0) :
    doAadd s c t pc gd v a = coreExc s c t 2 a.toNat 0 false pc := by
  simp [doAadd, h]

/-- AADD reaches the own scratch alone (R256). -/
theorem doAadd_outside {pc gd : Nat} (v : BitVec 64) {a : BitVec 64} (haligned : a.toNat % 8 = 0)
    (houtside : ownScratch c a.toNat = false) : doAadd s c t pc gd v a = coreExc s c t 3 a.toNat 0 false pc := by
  simp [doAadd, haligned, houtside]

theorem doJalr_misaligned {pc gd : Nat} {a : BitVec 64} (h : a.toNat % 4 ≠ 0) :
    doJalr s c t pc gd a = coreExc s c t 2 a.toNat 0 false pc := if_pos h

theorem doJalr_beyond {pc gd : Nat} {a : BitVec 64} (haligned : a.toNat % 4 = 0) (h : 2 ^ 20 ≤ a.toNat) :
    doJalr s c t pc gd a = coreExc s c t 8 a.toNat 0 false pc := by
  rw [doJalr, if_neg (not_not.2 haligned), if_pos h]

/-! ### What an access reaches follows from the weave and from the memory that is alive -/

theorem grantOf_congr {u v : State} (hweave : u.weave = v.weave) : grantOf u = grantOf v := by
  funext cls page
  rw [grantOf, grantOf, pageMap, pageMap, hweave]

theorem placeAlive_congr {u v : State} (hpower : u.power = v.power) (hhbm : u.hbm = v.hbm) : placeAlive u = placeAlive v := by
  have hdom : getDom u = getDom v := by
    funext d
    rw [getDom, getDom, hpower]
  have hstack : getStack u = getStack v := by
    funext n
    rw [getStack, getStack, hhbm]
  unfold placeAlive
  rw [hdom, hstack]

theorem mayAccess_congr {u v : State} (hweave : u.weave = v.weave) (hpower : u.power = v.power) (hhbm : u.hbm = v.hbm) :
    mayAccess u = mayAccess v := by
  funext cls write a n
  unfold mayAccess
  rw [grantOf_congr hweave, placeAlive_congr hpower hhbm]

theorem accessCause_advanced (s : State) (c t n : Nat) (write : Bool) (a : BitVec 64) :
    accessCause (advanced s c t) c n write a = accessCause s c n write a := by
  have hclass : coreClass (advanced s c t) c = coreClass s c := rfl
  rw [accessCause, accessCause, hclass, mayAccess_congr (u := advanced s c t) (v := s) rfl rfl rfl]

/-! ### The other checks (R45, R259, R264, R266) -/

theorem doTissue_refused {pc code idx : Nat} {w : BitVec 64} (h : tissueOk s c t code idx w = false) :
    doTissue s c t pc w code idx = coreExc s c t 5 w.toNat (code + idx * 16) false pc := by
  simp [doTissue, h]

theorem doSissue_refused {pc code idx : Nat} {a : BitVec 64} (h : sissueOk s c t code idx a = false)
    (hupsets : upsetsIn s a.toNat 64 = []) (hbad : badIn s a.toNat 64 = []) :
    doSissue s c t pc a code idx = coreExc s c t 6 a.toNat (code + idx * 16) false pc := by
  simp [doSissue, readMeets_of_clean hupsets, hbad, h]

theorem doTwait_refused {pc gd kind idx side n : Nat} (h : twaitCount s c kind idx side n = none) :
    doTwait s c t pc gd kind idx side n = coreExc s c t 7 0 0 false pc := by
  rw [doTwait, h]

theorem doTsig_overflow {pc k idx n : Nat} (h : 0xFFFF < tget (getCore s (clusterOf c * 8 + k)).sync idx 0 + n) :
    doTsig s c t pc k idx n = coreExc s c t 7 0 0 false pc := if_pos h

/-- CSRW reaches the own CORE block alone (R45). -/
theorem doCsrw_global {pc off : Nat} (v : BitVec 64) :
    doCsrw s c t pc v 1 off = coreExc s c t 4 (csrSpace + off * 4) 0 false pc := if_pos (.inl rfl)

theorem exec_csrw_legal {ga : Nat} {imm : BitVec 16} (hrsv : imm.getLsbD 14 = false) :
    exec (.csrw c t 0 ga imm) s = .next (issueOther s c t [ga] true
      (fun x => .csrw (x.reg ga) (bitsOf imm.toNat 15 15) (bitsOf imm.toNat 13 0))) := by
  rw [show true = (decide (0 = 0) && !imm.getLsbD 14) by rw [hrsv]; rfl]
  rfl

end

/-- Settles O14: an exception by what its instruction is performed as, with one law for what every exception leaves. -/
theorem coreExceptions : Obligations.CoreExceptions := by
  unfold Obligations.CoreExceptions
  intro s c t gd ga imm low x a w code idx takes hnow ht hroom
  have hdenied {n : Nat} {write : Bool} (haligned : a % n = 0) (h : mayAccess s (coreClass s c) write a n = false) :=
    (accessCause_advanced s c t n write _).trans (accessCause_denied haligned h)
  refine ⟨fun gb func rsv h => completes_illegal_alu hnow ht hroom rfl (aluLegal_eq_false h),
    fun h => completes_illegal_alu hnow ht hroom rfl (shiftLegal_eq_false h),
    fun h => completes_illegal_alu hnow ht hroom rfl (decide_eq_false h),
    fun h => ⟨completes_illegal_other hnow ht hroom rfl (maskLegal_eq_false h),
      completes_illegal_other hnow ht hroom rfl (maskLegal_eq_false h)⟩,
    fun h => ⟨completes_exception hnow ht hroom rfl (doLoad_fault false (accessCause_misaligned false h)),
      completes_exception hnow ht hroom rfl (doStore_fault _ (accessCause_misaligned true h)),
      completes_exception hnow ht hroom rfl (doAadd_misaligned _ h)⟩,
    fun h => ⟨completes_exception hnow ht hroom rfl (doLoad_fault true (accessCause_misaligned false h)),
      completes_exception hnow ht hroom rfl (doLoad_fault false (accessCause_misaligned false h)),
      completes_exception hnow ht hroom rfl (doStore_fault _ (accessCause_misaligned true h)),
      completes_exception hnow ht hroom rfl (doJalr_misaligned h)⟩,
    fun haligned h => completes_exception hnow ht hroom rfl (doLoad_fault false (hdenied haligned h)),
    fun haligned h => completes_exception hnow ht hroom rfl (doStore_fault _ (hdenied haligned h)),
    fun h => completes_exception hnow ht hroom rfl (doLoad_fault false (hdenied (Nat.mod_one a) h)),
    fun h => completes_exception hnow ht hroom rfl (doStore_fault _ (hdenied (Nat.mod_one a) h)),
    fun haligned h => completes_exception hnow ht hroom rfl (doAadd_outside _ haligned h),
    fun haligned h => completes_exception hnow ht hroom rfl (doJalr_beyond haligned h),
    fun hlow h => ?tissue, fun hlow h hupsets hbad => ?sissue, fun hlow h => ?twait, fun hpos h => ?tsig, fun hglobal hrsv => ?csrw,
    fun word h => ?unlisted⟩
  case tissue =>
    exact completes_exception hnow ht hroom (exec_tissue_legal hlow) (doTissue_refused ((tissueOk_setThread s c t _ t code idx _).trans h))
  case sissue =>
    exact completes_exception hnow ht hroom (exec_sissue_legal hlow)
      (doSissue_refused ((sissueOk_setThread s c t _ t code idx _).trans h) hupsets hbad)
  case twait =>
    have hkind : bitsOf low.toNat 20 20 = 0 := by
      rw [bitsOf_eq_div_mod]
      omega
    exact completes_exception hnow ht hroom (TwaitFields.exec_eq ⟨hkind, rfl, rfl, rfl, rfl⟩)
      (doTwait_refused ((twaitCount_advanced s c t _ _ _ _).trans h))
  case tsig =>
    have hover : 0xFFFF < tget (getCore (advanced s c t) (clusterOf c * 8 + bitsOf low.toNat 20 18)).sync
        (bitsOf low.toNat 17 14) 0 + bitsOf low.toNat 13 0 := by rwa [advanced, sync_setThread]
    exact completes_exception hnow ht hroom (TsigFields.exec_eq ⟨rfl, rfl, rfl, hpos⟩) (doTsig_overflow hover)
  case csrw =>
    have hspace : bitsOf imm.toNat 15 15 = 1 := by
      have hlt := imm.isLt
      rw [bitsOf_eq_div_mod]
      omega
    have hexec := exec_csrw_legal (s := s) (c := c) (t := t) (ga := ga) hrsv
    rw [hspace] at hexec
    exact completes_exception hnow ht hroom hexec (doCsrw_global _)
  case unlisted =>
    refine ⟨_, ?_, tookExc_illegal hnow ht hroom []⟩
    simp only [issueWord, h]
    rfl

end Sys2Proof.Machine
end

section
/-! SUPPORT. What a station does with a work word leaves every stream alone: its results wait in the station, and what it meets in
memory is told through events and frames. -/

namespace Sys2Proof.Machine

/-! ### Frames of the seam -/

@[simp] theorem setLink_streams (s : State) (n : Nat) (k : Link) : (setLink s n k).streams = s.streams := rfl

@[simp] theorem freeSlots_streams (s : State) (n vc k : Nat) : (freeSlots s n vc k).streams = s.streams := rfl

@[simp] theorem sendFlit_streams (s : State) (n vc : Nat) : (sendFlit s n vc).streams = s.streams := by
  unfold sendFlit
  simp only
  split
  · rfl
  · split
    · rw [freeSlots_streams, bump_streams, emit_streams, setLink_streams]
    · rw [bump_streams, emit_streams, setLink_streams]

@[simp] theorem pumpN_streams (s : State) (n fuel : Nat) : (pumpN s n fuel).streams = s.streams := by
  induction fuel generalizing s with
  | zero => rfl
  | succ fuel ih =>
    unfold pumpN
    simp only
    split
    · split
      · exact (ih _).trans (sendFlit_streams _ _ _)
      · rfl
    · rfl

@[simp] theorem queueOn_streams (s : State) (n vc : Nat) (f : LinkFrame) (inbound : Option Nat) :
    (queueOn s n vc f inbound).streams = s.streams := pumpN_streams _ _ _

@[simp] theorem deliverFrom_streams (s : State) (vc : Nat) (f : LinkFrame) (inbound : Option Nat) :
    (deliverFrom s vc f inbound).streams = s.streams := by
  unfold deliverFrom
  split
  · rfl
  · split <;> rfl

@[simp] theorem loseOwn_streams (s : State) (f : LinkFrame) : (loseOwn s f).streams = s.streams := by
  unfold loseOwn
  split
  · split <;> rfl
  · rfl

@[simp] theorem countDiscard_streams (s : State) (n : Nat) : (countDiscard s n).streams = s.streams := by
  unfold countDiscard
  split <;> rfl

@[simp] theorem noWay_streams (s : State) (d : Nat) : (noWay s d).streams = s.streams :=
  (raise_streams _ _ _ _ _ _ _).trans (countDiscard_streams _ _)

@[simp] theorem probeRank_streams (s : State) (d : Nat) : (probeRank s d).streams = s.streams := by
  unfold probeRank
  simp only
  rw [foldl_keeps _ State.streams (fun s n => queueOn_streams s n _ _ _)]
  split <;> rfl

@[simp] theorem suspectN_streams (fuel : Nat) (s : State) (d : Nat) : (suspectN fuel s d).streams = s.streams := by
  induction fuel generalizing s d with
  | zero => rfl
  | succ fuel ih =>
    unfold suspectN
    split
    · rfl
    · simp only
      split
      · rfl
      · split
        · rfl
        · split
          · split
            · rfl
            · exact probeRank_streams _ _
          · split
            · rfl
            · exact queueOn_streams _ _ _ _ _
            · exact (ih _ _).trans (noWay_streams _ _)

@[simp] theorem sendOn_streams (s : State) (vc : Nat) (f : LinkFrame) (inbound : Option Nat) :
    (sendOn s vc f inbound).streams = s.streams := by
  have hlost : (loseOwn (unreachable s f.dst) f).streams = s.streams :=
    (loseOwn_streams _ _).trans ((suspectN_streams _ _ _).trans (noWay_streams _ _))
  unfold sendOn
  split
  · exact deliverFrom_streams _ _ _ _
  · exact queueOn_streams _ _ _ _ _
  · simp only
    split
    · exact hlost
    · exact hlost

@[simp] theorem sendMend_streams (s : State) (dst : Nat) (h : MendHdr) (b : MendBody) : (sendMend s dst h b).streams = s.streams :=
  sendOn_streams _ _ _ _

/-! ### What an access to memory meets -/

@[simp] theorem memCorrected_streams (s : State) (a : Nat) : (memCorrected s a).streams = s.streams := by
  unfold memCorrected
  simp only
  rw [raise_streams]
  split <;> rfl

theorem foldl_memCorrected_streams {α : Type} (a : Nat) (l : List α) (s : State) :
    (l.foldl (fun s _ => memCorrected s a) s).streams = s.streams :=
  foldl_keeps _ State.streams (fun s _ => memCorrected_streams s a) l s

@[simp] theorem meetUpset_streams (s : State) (u : Nat × Upset) : (meetUpset s u).streams = s.streams := by
  unfold meetUpset
  simp only
  split
  · rfl
  · exact memCorrected_streams _ _

@[simp] theorem readMeets_streams (s : State) (a n : Nat) : (readMeets s a n).streams = s.streams :=
  foldl_keeps _ State.streams meetUpset_streams _ s

@[simp] theorem goOn_streams (s : State) (r : HbmReq) (a n : Nat) : (goOn s r a n).streams = s.streams := by
  unfold goOn
  refine foldl_keeps _ State.streams (fun s p => ?_) _ s
  simp only
  split <;> rfl

@[simp] theorem copyInvalid_streams (s : State) : (copyInvalid s).streams = s.streams := by
  unfold copyInvalid
  split
  · rfl
  · split
    · rfl
    · simp only
      split
      · exact (sendMend_streams _ _ _ _).trans (sendMend_streams _ _ _ _)
      · exact sendMend_streams _ _ _ _

@[simp] theorem rackBad_streams (s : State) (a : Nat) : (rackBad s a).1.streams = s.streams := by
  unfold rackBad
  split <;> rfl

@[simp] theorem countUe_streams (s : State) (a : Nat) : (countUe s a).streams = s.streams := by
  unfold countUe
  split <;> rfl

@[simp] theorem markBadWeights_streams (s : State) (g : Nat) : (markBadWeights s g).streams = s.streams := rfl

@[simp] theorem memUncorr_streams (s : State) (cls a : Nat) (contained : Bool) : (memUncorr s cls a contained).streams = s.streams := by
  unfold memUncorr
  simp only
  cases placeOf a <;> simp [apply_ite State.streams, apply_ite Prod.fst]

@[simp] theorem memUncorrBy_streams (s : State) (core a : Nat) : (memUncorrBy s core a).streams = s.streams := by
  unfold memUncorrBy
  simp only
  split
  · exact memUncorr_streams _ _ _ _
  · exact memUncorr_streams _ _ _ _

theorem foldl_memUncorrBy_streams (c : Nat) (bs : List Nat) (s : State) : (bs.foldl (fun s b => memUncorrBy s c b) s).streams = s.streams :=
  foldl_keeps _ State.streams (fun s b => memUncorrBy_streams s c b) bs s

@[simp] theorem overwriteCore_streams (s : State) (a n c : Nat) : (overwriteCore s a n c).streams = s.streams := by
  unfold overwriteCore
  simp only
  split <;> rfl

@[simp] theorem dropLines_streams (s : State) (lo hi : Nat) : (dropLines s lo hi).streams = s.streams := rfl

@[simp] theorem memPut_streams (s : State) (a : Nat) (bs : List Byte) : (memPut s a bs).streams = s.streams := by
  unfold memPut
  simp only
  split
  · rfl
  · rw [bump_streams, dropLines_streams]

@[simp] theorem agentWrite_streams (s : State) (a : Nat) (bs : List Byte) : (agentWrite s a bs).streams = s.streams := by
  unfold agentWrite
  simp only
  rw [foldl_keeps _ State.streams (fun s c => overwriteCore_streams s a bs.length c), memPut_streams,
    foldl_keeps _ State.streams meetUpset_streams]

@[simp] theorem meetCache_streams (s : State) (c k line : Nat) : (meetCache s c k line).streams = s.streams := by
  unfold meetCache
  simp only
  split
  · rfl
  · rw [foldl_memCorrected_streams]
    split
    · rfl
    · split
      · exact setCore_streams _ _ _
      · rfl

@[simp] theorem cacheMeets_streams (s : State) (c a n : Nat) : (cacheMeets s c a n).streams = s.streams := by
  unfold cacheMeets
  refine foldl_keeps _ State.streams (fun s x => ?_) _ s
  have hfirst : (if (getCore s c).l1.contains x then meetCache s c c x else s).streams = s.streams := by
    split
    · exact meetCache_streams _ _ _ _
    · rfl
  simp only
  generalize (if (getCore s c).l1.contains x then meetCache s c c x else s) = s1 at hfirst
  split
  · exact hfirst
  · split
    · exact (meetCache_streams _ _ _ _).trans hfirst
    · exact hfirst

@[simp] theorem fillCaches_streams (s : State) (c a n : Nat) : (fillCaches s c a n).streams = s.streams := by
  unfold fillCaches
  refine foldl_keeps _ State.streams (fun s x => ?_) _ s
  unfold fillLine
  simp only
  split <;> rfl

end Sys2Proof.Machine
end

section
/-! SUPPORT. What a work word in progress finds again: the streams stay, and so do the queue and the work of every station, through
whatever a station makes of its operands outside memory. -/

namespace Sys2Proof.Machine

/-- What making results leaves alone: the streams, and of every station its queue and its work. -/
def workView (s : State) : Tbl StreamSt × (Nat → Nat → List QEntry × Work) :=
  (s.streams, fun c n => ((getStn s c n).queue, (getStn s c n).work))

theorem workView_congr {s u : State} (hstreams : u.streams = s.streams) (hcores : u.cores = s.cores) : workView u = workView s := by
  simp only [workView, hstreams, getStn_congr hcores]

theorem streams_of_workView {s u : State} (h : workView u = workView s) : u.streams = s.streams := congrArg Prod.fst h

theorem station_of_workView {s u : State} (h : workView u = workView s) (c n : Nat) :
    (getStn u c n).queue = (getStn s c n).queue ∧ (getStn u c n).work = (getStn s c n).work :=
  Prod.mk.inj (congrFun (congrFun (congrArg Prod.snd h) c) n)

theorem workView_setCore {s : State} {c : Nat} {x : Core} (h : x.stations = (getCore s c).stations) :
    workView (setCore s c x) = workView s := by
  simp only [workView, setCore_streams, getStn_setCore h]

theorem workView_setStn {s : State} {c n : Nat} {x : Station} (hqueue : x.queue = (getStn s c n).queue)
    (hwork : x.work = (getStn s c n).work) : workView (setStn s c n x) = workView s := by
  have hstn (d m : Nat) : (getStn (setStn s c n x) d m).queue = (getStn s d m).queue ∧
      (getStn (setStn s c n x) d m).work = (getStn s d m).work := by
    by_cases h : d = c ∧ m = n
    · rw [h.1, h.2, getStn_setStn_same]
      exact ⟨hqueue, hwork⟩
    · rw [getStn_setStn_other _ _ (not_and_or.1 h)]
      exact ⟨rfl, rfl⟩
  simp only [workView, setStn_streams, hstn]

@[simp] theorem workView_setEng (s : State) (c e : Nat) (x : Engine) : workView (setEng s c e x) = workView s := by
  simp only [workView, setEng_streams, getStn_setEng]

@[simp] theorem workView_lint (s : State) (c ring kind sid entry arg : Nat) :
    workView (lint s c ring kind sid entry arg) = workView s := by
  obtain ⟨_, h⟩ := lint_eq_with s c ring kind sid entry arg
  have hstreams : (lint s c ring kind sid entry arg).streams = s.streams := by rw [h]
  simp only [workView, hstreams, getStn_lint]

@[simp] theorem workView_bump (s : State) (o k : Nat) : workView (bump s o k) = workView s := workView_congr rfl rfl

/-! ### Events and observations -/

/-- An event below CONTAINED changes the error state and the register table alone. -/
theorem raise_minor_eq_with (s : State) {sev : Nat} (hsev : sev < 2) (code cls srcKind src : Nat) (info : List Nat) :
    ∃ csr err, raise s code sev cls srcKind src info = { s with csr := csr, err := err } := by
  have hnot2 : sev ≠ 2 := by omega
  have hnot3 : sev ≠ 3 := by omega
  have hnot4 : sev ≠ 4 := by omega
  unfold raise placeEvent
  simp only [hnot2, hnot3, hnot4, false_and, if_false]
  split
  · exact ⟨_, _, rfl⟩
  · split <;> exact ⟨_, _, rfl⟩

theorem workView_raise_minor (s : State) {sev : Nat} (hsev : sev < 2) (code cls srcKind src : Nat) (info : List Nat) :
    workView (raise s code sev cls srcKind src info) = workView s := by
  obtain ⟨_, _, h⟩ := raise_minor_eq_with s hsev code cls srcKind src info
  rw [h]
  exact workView_congr rfl rfl

theorem workView_raiseN_minor (s : State) {sev : Nat} (hsev : sev < 2) (code cls k src n : Nat) :
    workView (raiseN s code sev cls k src n) = workView s := by
  induction n generalizing s with
  | zero => rfl
  | succ n ih => exact (ih _).trans (workView_raise_minor s hsev code cls k src [])

@[simp] theorem workView_observe (s : State) (c entry : Nat) (f : StatObs → StatObs) :
    workView (observe s c entry f) = workView s := workView_setCore rfl

theorem workView_observe_if (s : State) (b : Bool) (c entry : Nat) (f : StatObs → StatObs) :
    workView (if b then observe s c entry f else s) = workView s := by
  split
  · exact workView_observe _ _ _ _
  · rfl

@[simp] theorem workView_numEvents (s : State) (c : Nat) (h : TileHdr) (ev : NumEv) : workView (numEvents s c h ev) = workView s := by
  unfold numEvents
  simp only
  split
  · rfl
  · rw [workView_observe_if, workView_raiseN_minor _ Nat.zero_lt_two, workView_raiseN_minor _ Nat.zero_lt_two, workView_bump,
      workView_bump]

/-! ### Results -/

@[simp] theorem workView_giveTile (s : State) (c n sid : Nat) (t : STile) : workView (giveTile s c n sid t) = workView s := by
  unfold giveTile
  simp only
  split
  · rfl
  · exact workView_setStn rfl rfl

@[simp] theorem workView_shapeCapture (s : State) (c : Nat) (h : TileHdr) (captured : Bool) :
    workView (shapeCapture s c h captured).1 = workView s := by
  unfold shapeCapture
  split
  · split
    · unfold countReplay
      simp only
      rw [workView_lint, workView_setEng, workView_observe, workView_raise_minor _ Nat.one_lt_two, workView_bump]
    · unfold countExhausted
      simp only
      rw [workView_observe, workView_raise_minor _ Nat.zero_lt_two, workView_bump]
  · rfl

@[simp] theorem workView_spotTile (c : Nat) (h : TileHdr) (m : Mat) (r : State × Bool) (w : Nat) :
    workView (spotTile c h m r w).1 = workView r.1 := by
  unfold spotTile
  simp only
  split
  · split
    · exact workView_setCore rfl
    · exact workView_observe _ _ _ _
  · rfl

@[simp] theorem workView_spotCheck (s : State) (c : Nat) (h : TileHdr) (m : Mat) : workView (spotCheck s c h m).1 = workView s := by
  unfold spotCheck
  split
  · exact foldl_keeps _ (fun r : State × Bool => workView r.1) (workView_spotTile c h m) _ _
  · rfl

@[simp] theorem workView_useMark (s : State) (n key : Nat) : workView (useMark s n key) = workView s := by
  unfold useMark
  split
  · rfl
  · split
    · rfl
    · exact workView_congr rfl rfl

@[simp] theorem workView_quantImage (s : State) (c : Nat) (h : TileHdr) (k : QuantCtl) (m : Mat) (seen wide last : Bool) (out : Nat)
    (image : QuantCtl → Tile × List Byte) : workView (quantImage s c h k m seen wide last out image).1 = workView s := by
  unfold quantImage observeQuant
  simp only
  rw [workView_giveTile, workView_observe_if, workView_shapeCapture]

theorem workView_runQuant (s : State) (c : Nat) (q : QEntry) (w : RoutineWord) (a : STile) (b : Option STile) (out : Nat) :
    workView (runQuant s c q w a b out) = workView s := by
  unfold runQuant
  extract_lets blk weight ef h n0 m0 res m1 m key ctl seen
  dsimp -zeta only
  extract_lets s0 s3 e s4
  have hstart : workView s0 = workView s := by
    simp only [s0]
    split
    · exact (workView_useMark _ _ _).trans (workView_numEvents _ _ _ _)
    · exact (workView_spotCheck _ _ _ _).trans (workView_numEvents _ _ _ _)
  have himages : workView s3 = workView s := by
    simp only [s3]
    split
    · exact (workView_quantImage _ _ _ _ _ _ _ _ _ _).trans ((workView_quantImage _ _ _ _ _ _ _ _ _ _).trans hstart)
    · exact (workView_quantImage _ _ _ _ _ _ _ _ _ _).trans hstart
  split
  · split
    · exact (workView_giveTile _ _ _ _ _).trans ((workView_observe_if _ _ _ _ _).trans himages)
    · exact (workView_giveTile _ _ _ _ _).trans himages
  · exact himages

@[simp] theorem workView_runConvert (s : State) (c n fmt : Nat) (a : STile) (out : Nat) :
    workView (runConvert s c n fmt a out) = workView s := (workView_giveTile _ _ _ _ _).trans (workView_numEvents _ _ _ _)

/-! ### The routines -/

/-- LOOKUP meets memory and the caches, and gives tiles (R309, R327). -/
theorem runLookup_streams (s : State) (c : Nat) (r : TableRec) (a : STile) (out : Nat) :
    (runLookup s c r a out).streams = s.streams := by
  unfold runLookup
  extract_lets idx cols chunks
  refine foldl_keeps _ State.streams (fun s0 ch => ?_) _ s
  extract_lets s1 rows range s2 h poisoned s3
  have hmet : s1.streams = s0.streams := foldl_keeps _ State.streams (fun s i => cacheMeets_streams s c _ _) _ s0
  have hcounted : s2.streams = s0.streams := by
    simp only [s2]
    split
    · exact hmet
    · exact (bump_streams _ _ _).trans hmet
  split
  · have hfilled : s3.streams = s0.streams :=
      (foldl_keeps _ State.streams (fun s r => fillCaches_streams s c _ _) rows _).trans ((useFree_streams s2).trans hcounted)
    exact (streams_of_workView (workView_giveTile _ _ _ _ _)).trans hfilled
  · exact (foldl_memUncorrBy_streams c _ _).trans hcounted

/-- OPT_UPDATE writes memory, or says why it does not (R288). -/
theorem runOptUpdate_streams (s : State) (c arg : Nat) (a : STile) : (runOptUpdate s c arg a).streams = s.streams := by
  unfold runOptUpdate
  extract_lets st t p cls reads wr
  split
  · exact pageDenied_streams s c
  · split
    · exact foldl_keeps _ State.streams (fun s x => agentWrite_streams s _ _) _ s
    · exact foldl_memUncorrBy_streams c _ s

/-- A routine that names no record in memory makes its results of its operands alone. -/
theorem workView_runRoutine (s : State) (c n : Nat) (q : QEntry) {w : RoutineWord} (a : STile) (b : Option STile)
    (hlookup : w.routine ≠ 0x30) (hupdate : w.routine ≠ 0x40) : workView (runRoutine s c n q w a b) = workView s := by
  unfold runRoutine
  rw [if_neg hlookup, if_neg hupdate]
  split
  · exact workView_runQuant _ _ _ _ _ _ _
  · split
    · exact workView_runConvert _ _ _ _ _ _
    · split
      · split
        · rfl
        · exact workView_giveTile _ _ _ _ _
      · exact workView_giveTile _ _ _ _ _

theorem runRoutine_streams (s : State) (c n : Nat) (q : QEntry) (w : RoutineWord) (a : STile) (b : Option STile) :
    (runRoutine s c n q w a b).streams = s.streams := by
  by_cases hlookup : w.routine = 0x30
  · simp only [runRoutine, hlookup]
    exact runLookup_streams _ _ _ _ _
  · by_cases hupdate : w.routine = 0x40
    · simp only [runRoutine, hupdate]
      exact runOptUpdate_streams _ _ _ _
    · exact streams_of_workView (workView_runRoutine s c n q a b hlookup hupdate)

@[simp] theorem workView_tileRan (s : State) (c : Nat) (w : RoutineWord) (h : TileHdr) : workView (tileRan s c w h) = workView s :=
  workView_observe_if _ _ _ _ _

/-! ### Reaching memory and taking the operand -/

theorem routineGoes_streams (s : State) (c n : Nat) (w : RoutineWord) (a : STile) : (routineGoes s c n w a).streams = s.streams :=
  foldl_keeps _ State.streams (fun s _ => (readMeets_streams _ _ _).trans (goOn_streams s _ _ _)) _ s

@[simp] theorem consume_streams (s : State) (c : Nat) (t : STile) : (consume s c t).streams = s.streams := by
  unfold consume
  split
  · rfl
  · exact pageDenied_streams s c

/-- A tile that is taken moves from the queue of its endpoint to what the endpoint holds. -/
theorem queue_takeTile (s : State) (e : Nat) : (getStream (takeTile s e) e).queue = (getStream s e).queue.tail := by
  cases hqueue : (getStream s e).queue <;> simp [takeTile, hqueue]

end Sys2Proof.Machine
end

section
/-! SUPPORT. Laws of the work of a station: a walk, an entry of an array and a work word that start, a work that ends, streams that a
reset restores, and the check in flight that completes. -/

namespace Sys2Proof.Machine

/-! ### Engines through the operations of a station -/

theorem getEng_congr {s u : State} (h : u.cores = s.cores) (c e : Nat) : getEng u c e = getEng s c e := by
  rw [getEng, getEng, getCore_congr h]

theorem getEng_setCore {s : State} {c : Nat} {x : Core} (h : x.engines = (getCore s c).engines) (d e : Nat) :
    getEng (setCore s c x) d e = getEng s d e := by
  rw [getEng, getEng]
  by_cases hd : d = c
  · rw [hd, getCore_setCore_same, h]
  · rw [getCore_setCore_other _ _ hd]

@[simp] theorem getEng_setStn (s : State) (c n : Nat) (x : Station) (d e : Nat) : getEng (setStn s c n x) d e = getEng s d e :=
  getEng_setCore (by rfl) d e

@[simp] theorem getEng_lint (s : State) (c ring kind sid entry arg d e : Nat) :
    getEng (lint s c ring kind sid entry arg) d e = getEng s d e := by
  unfold lint
  split
  · rfl
  · exact getEng_setCore (by rfl) d e

@[simp] theorem getEng_setEng_same (s : State) (c e : Nat) (x : Engine) : getEng (setEng s c e x) c e = x := by
  rw [getEng, setEng, getCore_setCore_same, tget_tset_same]

@[simp] theorem getEng_retainCluster (s : State) (g d e : Nat) : getEng (retainCluster s g) d e = getEng s d e :=
  getEng_congr (retainCluster_cores s g) d e

@[simp] theorem getStn_retainCluster (s : State) (g d n : Nat) : getStn (retainCluster s g) d n = getStn s d n :=
  getStn_congr (retainCluster_cores s g) d n

@[simp] theorem lint_mem (s : State) (c ring kind sid entry arg : Nat) : (lint s c ring kind sid entry arg).mem = s.mem := by
  obtain ⟨_, h⟩ := lint_eq_with s c ring kind sid entry arg
  rw [h]

@[simp] theorem lint_streams (s : State) (c ring kind sid entry arg : Nat) :
    (lint s c ring kind sid entry arg).streams = s.streams := by
  obtain ⟨_, h⟩ := lint_eq_with s c ring kind sid entry arg
  rw [h]

/-! ### A walk starts (R227, R260) -/

section

variable {s : State} {c n : Nat} {q : QEntry} {rest : List QEntry}

theorem exec_stationWorkStart_walk (hqueue : (getStn s c n).queue = q :: rest) (hruns : coreRuns s c = true)
    (hreset : (getStn s c n).resetting = false) (hidle : (getStn s c n).work = .idle) (hn : n < 2 ∨ n = 9 ∨ n = 10) :
    exec (.stationWorkStart c n) s = .next (startWalk s c n q rest) := by
  have harray : ¬ (2 ≤ n ∧ n < 6) := by omega
  refine congrArg Host.Outcome.next ?_
  simp only [hqueue]
  rw [if_neg (by simp [hruns, hreset]), if_neg harray, if_neg (not_not.2 hidle), if_pos hn]

/-- The entry is popped and its walk begins. -/
def walkStarted (s : State) (c n : Nat) (q : QEntry) (rest : List QEntry) (d : Desc) : State :=
  lint (setStn s c n { getStn s c n with queue := rest, work := .walk q d 0 }) c (lintRing n) 7 d.sid (d.entry + d.pass * 4096)
    (q.word.toNat % 2 ^ 32)

theorem startWalk_ok {d : Desc} {inst dir : Nat} (hplace : (if n < 2 then (n, 0) else (n - 9, 1)) = (inst, dir))
    (hbad : badIn s q.word.toNat 64 = []) (hupsets : upsetsIn s q.word.toNat 64 = [])
    (hdesc : readDesc (memGet s q.word.toNat 64) = d) (hok : descOk s c inst dir d = true) :
    startWalk s c n q rest = walkStarted s c n q rest d := by
  simp only [startWalk, readMeets_of_clean hupsets, hbad, hplace, hdesc, hok, ne_eq, not_true_eq_false, if_false, if_true,
    walkStarted]

theorem walkStarted_spec (d : Desc) :
    let u := walkStarted s c n q rest d
    (getStn u c n).queue = rest ∧ (getStn u c n).work = .walk q d 0 ∧ u.mem = s.mem := by
  simp [walkStarted]

/-! ### An array takes its next entry (R203, R260) -/

theorem exec_stationWorkStart_array (hqueue : (getStn s c n).queue = q :: rest) (hruns : coreRuns s c = true)
    (hreset : (getStn s c n).resetting = false) (hlo : 2 ≤ n) (hhi : n < 6) :
    exec (.stationWorkStart c n) s = .next (startArray s c n q rest) := by
  refine congrArg Host.Outcome.next ?_
  simp [hqueue, hruns, hreset, hlo, hhi]

/-- The entry is popped, and a cluster whose queues are empty now may enter retention. -/
def entryPopped (s : State) (c n : Nat) (q : QEntry) (rest : List QEntry) : State :=
  retainCluster (lint (setStn s c n { getStn s c n with queue := rest }) c (lintRing n) 7 0xFF 0 (q.word.toNat % 2 ^ 32))
    (clusterOf c)

@[simp] theorem getStn_entryPopped : getStn (entryPopped s c n q rest) c n = { getStn s c n with queue := rest } := by
  simp [entryPopped]

@[simp] theorem getEng_entryPopped (d e : Nat) : getEng (entryPopped s c n q rest) d e = getEng s d e := by
  simp [entryPopped]

@[simp] theorem entryPopped_mem : (entryPopped s c n q rest).mem = s.mem := by
  simp [entryPopped]

theorem startArray_load (h : (arrWord q.word).load = true) : startArray s c n q rest =
    setEng (entryPopped s c n q rest) c (n - 2) { getEng (entryPopped s c n q rest) c (n - 2) with
      loads := (getEng (entryPopped s c n q rest) c (n - 2)).loads ++ [q] } := if_pos h

theorem startArray_stream {ep : Nat} {t : STile} (hload : (arrWord q.word).load = false)
    (hheld : streamHeld s c (n - 2) (arrWord q.word) = false) (hep : actEp s c (n - 2) (arrWord q.word).part = some ep)
    (hhead : headTile s ep = some t) (hok : streamOk s c (n - 2) q t.hdr = true) : startArray s c n q rest =
    setEng (entryPopped s c n q rest) c (n - 2) { getEng (entryPopped s c n q rest) c (n - 2) with
      streams := (getEng (entryPopped s c n q rest) c (n - 2)).streams ++ [AStream.accepted q t.hdr] } := by
  simp [startArray, hload, hheld, hep, hhead, hok, entryPopped]

/-! ### A work word starts (R260, R262) -/

theorem exec_stationWorkStart_routine (hqueue : (getStn s c n).queue = q :: rest) (hruns : coreRuns s c = true)
    (hreset : (getStn s c n).resetting = false) (hidle : (getStn s c n).work = .idle) (hlo : 6 ≤ n) (hhi : n ≤ 8) :
    exec (.stationWorkStart c n) s = .next (startRoutine s c n q rest) := by
  have harray : ¬ (2 ≤ n ∧ n < 6) := by omega
  have hwalk : ¬ (n < 2 ∨ n = 9 ∨ n = 10) := by omega
  refine congrArg Host.Outcome.next ?_
  simp only [hqueue]
  rw [if_neg (by simp [hruns, hreset]), if_neg harray, if_neg (not_not.2 hidle), if_neg hwalk]

/-- The operand of a work word is taken, its entry is popped and its work stands. -/
def wordStarted (s : State) (c n : Nat) (q : QEntry) (rest : List QEntry) (ea : Nat) (a : STile) : State :=
  let s1 := consume (takeTile (routineGoes s c n (routineWord q.word) a) ea) c a
  lint (setStn s1 c n { getStn s1 c n with queue := rest, work := .routine q [a] [] }) c (lintRing n) 7 0xFF a.hdr.lintEntry
    (q.word.toNat % 2 ^ 32)

theorem recordBad_of_clean {w : RoutineWord} (h : ∀ r, routineRecord c w = some r → badIn s r.1 r.2 = []) : recordBad s c w = [] := by
  unfold recordBad
  split
  · exact h _ ‹_›
  · rfl

theorem startRoutine_goes {ea : Nat} {p : StreamEnt} {a : STile} {w : RoutineWord} (hw : routineWord q.word = w)
    (hfanin : fanin s c w.inA = some (ea, p)) (hhead : headTile s ea = some a) (huses : usesB w.routine w.arg = false)
    (hok : routineStartOk s c q w a.hdr = true) (hheld : w.routine = 0x40 → updateHeld s a = false)
    (hholds : routineHolds s c n w a = [])
    (hrecord : ∀ r, routineRecord c w = some r → badIn s r.1 r.2 = [] ∧ upsetsIn s r.1 r.2 = []) :
    startRoutine s c n q rest =
      tileRan (runRoutine (wordStarted s c n q rest ea a) c n q w a none) c w (driveHdr a none) := by
  have hbad : recordBad s c w = [] := recordBad_of_clean fun r hr => (hrecord r hr).1
  have hfree : ¬ (w.routine = 0x40 ∧ updateHeld s a = true) := fun ⟨hroutine, hupdate⟩ => by simp [hheld hroutine] at hupdate
  subst hw
  cases hrec : routineRecord c (routineWord q.word) with
  | none => simp [startRoutine, wordStarted, hrec, hfanin, hhead, huses, hbad, hok, hfree, hholds]
  | some r =>
    simp [startRoutine, wordStarted, hrec, hfanin, hhead, huses, hbad, hok, hfree, hholds, readMeets_of_clean (hrecord r hrec).2]

/-- The streams after a work word has started: its operand moved to what its endpoint holds. -/
theorem wordStarted_streams (ea : Nat) (a : STile) :
    (wordStarted s c n q rest ea a).streams = (takeTile (routineGoes s c n (routineWord q.word) a) ea).streams := by
  simp [wordStarted]

theorem getStn_wordStarted {ea : Nat} {a : STile} :
    (getStn (wordStarted s c n q rest ea a) c n).queue = rest ∧
      (getStn (wordStarted s c n q rest ea a) c n).work = .routine q [a] [] := by
  simp [wordStarted]

theorem wordStarted_spec {u : State} {ea : Nat} {a : STile} (hu : u.streams = (wordStarted s c n q rest ea a).streams) :
    streamTiles u ea = streamTiles s ea ∧ (getStream u ea).queue = (getStream s ea).queue.tail := by
  have hreached := getStream_congr (routineGoes_streams s c n (routineWord q.word) a) ea
  have hstream := getStream_congr (hu.trans (wordStarted_streams ea a)) ea
  constructor
  · rw [streamTiles_congr hstream, (takeTile_fedTo _ ea).streamTiles, streamTiles_congr hreached]
  · rw [hstream, queue_takeTile, hreached]

/-! ### The work of a station ends (R269, R276) -/

/-- The work of a station is over, and a cluster whose queues are empty now may enter retention. -/
def workEnded (s : State) (c n word : Nat) : State :=
  retainCluster (lint (setStn s c n { getStn s c n with work := .idle }) c (lintRing n) 8 0xFF 0 word) (clusterOf c)

@[simp] theorem getStn_workEnded (word : Nat) : getStn (workEnded s c n word) c n = { getStn s c n with work := .idle } := by
  simp [workEnded]

@[simp] theorem workEnded_mem (word : Nat) : (workEnded s c n word).mem = s.mem := by
  simp [workEnded]

@[simp] theorem workEnded_streams (word : Nat) : (workEnded s c n word).streams = s.streams := by
  simp [workEnded]

theorem exec_stationWorkDone (hruns : coreRuns s c = true) (hreset : (getStn s c n).resetting = false)
    (hcomplete : (getStn s c n).work.complete s c n = true) (hlast : (getStn s c n).out.length ≤ 1)
    (hplaced : (getStn (placeNext s c n) c n).out = []) : exec (.stationWorkDone c n) s =
      .next (workEnded (placeNext s c n) c n ((getStn s c n).work.word % 2 ^ 32)) := by
  refine congrArg Host.Outcome.next ?_
  simp only
  rw [if_pos ⟨hruns, hreset, hcomplete, hlast⟩, if_pos (List.isEmpty_iff.2 hplaced)]
  rfl

theorem placeNext_of_no_output (h : (getStn s c n).out = []) : placeNext s c n = s := by
  simp [placeNext, placeable, h]

/-- A clean tile that is placed leaves every queue clean, on however many endpoints it goes. -/
theorem queuesClean_foldl_placeOn {t : STile} (ht : t.poison = []) (es : List Nat) (hclean : QueuesClean s) :
    QueuesClean (es.foldl (placeOn t) s) := by
  induction es generalizing s with
  | nil => exact hclean
  | cons e es ih =>
    refine ih fun f y hy => ?_
    by_cases hf : f = e
    · rw [hf, getStream_placeOn_same] at hy
      rcases mem_queue_of_placed hy with hy | rfl
      · exact hclean e y hy
      · exact ht
    · rw [getStream_placeOn_other t s hf] at hy
      exact hclean f y hy

theorem placeNext_clean {es : List Nat} {t : STile} (hout : (getStn s c n).out = [(es, t)]) (hcredits : hasCredits s es = true)
    (ht : t.poison = []) (hclean : QueuesClean s) :
    (getStn (placeNext s c n) c n).out = [] ∧ (placeNext s c n).mem = s.mem := by
  have hfed := placeNext_fedTo hout hcredits
  have hcleanPlaced : QueuesClean (placeTile (setStn s c n { getStn s c n with out := [] }) c n es t) := by
    intro f y hy
    rw [getStream_congr (placeTile_streams _ _ _ _ _)] at hy
    exact queuesClean_foldl_placeOn ht es (s := setStn s c n { getStn s c n with out := [] }) hclean f y hy
  constructor
  · rw [hfed.getStn hcleanPlaced, getStn_placeTile, getStn_setStn_same]
  · rw [hfed.mem hcleanPlaced, placeTile_mem, setStn_mem]

/-! ### A reset restores the streams of a station (R203, R204) -/

theorem closeWindow_eq_with (s : State) (t : STile) : ∃ cores, closeWindow s t = { s with cores := cores } := by
  unfold closeWindow
  generalize t.src = windows
  induction windows generalizing s with
  | nil => exact ⟨s.cores, rfl⟩
  | cons w windows ih =>
    rw [List.foldl_cons]
    split
    · exact ih s
    · obtain ⟨_, h⟩ := ih (setCore s w.1 { getCore s w.1 with windows := tdel (getCore s w.1).windows w.2 })
      exact ⟨_, h⟩

theorem foldl_closeWindow_eq_with (l : List STile) (s : State) : ∃ cores, l.foldl closeWindow s = { s with cores := cores } := by
  induction l generalizing s with
  | nil => exact ⟨s.cores, rfl⟩
  | cons t l ih =>
    obtain ⟨_, hl⟩ := ih (closeWindow s t)
    obtain ⟨_, ht⟩ := closeWindow_eq_with s t
    exact ⟨_, by rw [List.foldl_cons, hl, ht]⟩

theorem discardStream_eq_with (s : State) (p : Nat × StreamEnt) :
    ∃ x cores, discardStream s p = { setStream s p.1 x with cores := cores } := by
  obtain ⟨_, h⟩ := foldl_closeWindow_eq_with ((getStream s p.1).queue ++ (getStream s p.1).held ++ (getStream s p.1).router)
    (setStream s p.1 { getStream s p.1 with queue := [], held := [], router := [] })
  exact ⟨_, _, h⟩

theorem restoreStream_eq_with (s : State) (p : Nat × StreamEnt) :
    ∃ streams cores, restoreStream s p = { s with streams := streams, cores := cores } := by
  obtain ⟨_, _, h⟩ := discardStream_eq_with s p
  exact ⟨_, _, by rw [restoreStream, h]; rfl⟩

theorem foldl_restoreStream_eq_with (s : State) (l : List (Nat × StreamEnt)) :
    ∃ streams cores, l.foldl restoreStream s = { s with streams := streams, cores := cores } := by
  induction l generalizing s with
  | nil => exact ⟨s.streams, s.cores, rfl⟩
  | cons p l ih =>
    obtain ⟨_, _, hl⟩ := ih (restoreStream s p)
    obtain ⟨_, _, hp⟩ := restoreStream_eq_with s p
    exact ⟨_, _, by rw [List.foldl_cons, hl, hp]⟩

theorem getStream_restoreStream_same (s : State) (p : Nat × StreamEnt) :
    getStream (restoreStream s p) p.1 = StreamSt.fresh p.2.depth := getStream_setStream_same _ _ _

theorem getStream_restoreStream_other (s : State) (p : Nat × StreamEnt) {e : Nat} (h : e ≠ p.1) :
    getStream (restoreStream s p) e = getStream s e := by
  obtain ⟨x, _, hdiscard⟩ := discardStream_eq_with s p
  rw [restoreStream, getStream_setStream_other _ _ h, hdiscard]
  exact getStream_setStream_other s x h

theorem getStream_foldl_restoreStream_other {l : List (Nat × StreamEnt)} {e : Nat} (h : ∀ p ∈ l, p.1 ≠ e) (s : State) :
    getStream (l.foldl restoreStream s) e = getStream s e := by
  induction l generalizing s with
  | nil => rfl
  | cons p l ih =>
    obtain ⟨hp, hl⟩ := List.forall_mem_cons.1 h
    exact (ih hl _).trans (getStream_restoreStream_other s p hp.symm)

theorem getStream_foldl_restoreStream {l : List (Nat × StreamEnt)} (hinj : (l.map Prod.fst).Nodup) {p : Nat × StreamEnt} (hp : p ∈ l)
    (s : State) : getStream (l.foldl restoreStream s) p.1 = StreamSt.fresh p.2.depth := by
  induction l generalizing s with
  | nil => cases hp
  | cons r l ih =>
    obtain ⟨hr, hl⟩ := List.nodup_cons.1 hinj
    rcases List.mem_cons.1 hp with rfl | hp
    · have hothers : ∀ r ∈ l, r.1 ≠ p.1 := fun r hmem heq => hr (heq ▸ List.mem_map_of_mem hmem)
      exact (getStream_foldl_restoreStream_other hothers _).trans (getStream_restoreStream_same s p)
    · exact ih hl hp _

/-- The streams of a station stand in the stream table at places of their own. -/
theorem nodup_stationStreams (s : State) (c n : Nat) : ((stationStreams s c n).map Prod.fst).Nodup := by
  have hidx : ((streamIdx s).map Prod.fst).Nodup := by
    simp only [streamIdx, List.map_map]
    exact List.nodup_zipIdx_map_snd (streamTable s)
  exact hidx.sublist (List.filter_sublist.map _)

theorem exec_stationResetEnd (h : (getStn s c n).resetting = true) :
    exec (.stationResetEnd c n) s = .next (endStnReset s c n) := congrArg Host.Outcome.next (if_pos h)

theorem endStnReset_eq_with (s : State) (c n : Nat) :
    ∃ streams cores, endStnReset s c n = { s with streams := streams, cores := cores } := by
  obtain ⟨_, _, h⟩ := foldl_restoreStream_eq_with s (stationStreams s c n)
  exact ⟨_, _, by rw [endStnReset, h]; rfl⟩

/-! ### The check in flight that completes (R157, R158) -/

/-- The check that completes is the oldest whose column the array has put out. -/
theorem find?_spots {l : List Spot} {i : Nat} {y : Spot} (hy : l[i]? = some y) (harr : y.arr.isSome = true)
    (hbefore : ∀ k z, k < i → l[k]? = some z → z.arr = none) :
    l.zipIdx.find? (fun p => p.1.arr.isSome) = some (y, i) := by
  obtain ⟨hi, rfl⟩ := List.getElem?_eq_some_iff.1 hy
  rw [List.find?_eq_some_iff_getElem]
  refine ⟨harr, i, by simpa using hi, by simp, fun k hk => ?_⟩
  have hk' : k < l.length := hk.trans hi
  simp [hbefore k l[k] hk (List.getElem?_eq_getElem hk')]

theorem find?_spots_none {l : List Spot} (h : ∀ z ∈ l, z.arr = none) : l.zipIdx.find? (fun p => p.1.arr.isSome) = none := by
  rw [List.find?_eq_none]
  rintro ⟨z, k⟩ hz
  simp [h z (List.fst_mem_of_mem_zipIdx hz)]

end

end Sys2Proof.Machine
end

section
/-! O20. The work of stations (R157, R204, R227, R258, R269): how work starts, ends and is reset, and how a spot check joins its
observation. -/

namespace Sys2Proof.Machine

section

variable {s : State} {c n : Nat} {q : QEntry} {rest : List QEntry}

/-! ### STATION_WORK_START -/

theorem completes_start_walk {d : Desc} {inst dir : Nat} (hqueue : (getStn s c n).queue = q :: rest) (hruns : coreRuns s c = true)
    (hreset : (getStn s c n).resetting = false) (hidle : (getStn s c n).work = .idle) (hn : n < 2 ∨ n = 9 ∨ n = 10)
    (hplace : (if n < 2 then (n, 0) else (n - 9, 1)) = (inst, dir)) (hbad : badIn s q.word.toNat 64 = [])
    (hupsets : upsetsIn s q.word.toNat 64 = []) (hdesc : readDesc (memGet s q.word.toNat 64) = d) (hok : descOk s c inst dir d = true) :
    completes (.stationWorkStart c n) s (fun u =>
      (getStn u c n).queue = rest ∧ (getStn u c n).work = .walk q d 0 ∧ u.mem = s.mem) :=
  ⟨walkStarted s c n q rest d, (exec_stationWorkStart_walk hqueue hruns hreset hidle hn).trans
    (congrArg Host.Outcome.next (startWalk_ok hplace hbad hupsets hdesc hok)), walkStarted_spec d⟩

theorem completes_start_load (hqueue : (getStn s c n).queue = q :: rest) (hruns : coreRuns s c = true)
    (hreset : (getStn s c n).resetting = false) (hlo : 2 ≤ n) (hhi : n < 6) (hload : (arrWord q.word).load = true) :
    completes (.stationWorkStart c n) s (fun u => (getStn u c n).queue = rest ∧
      (getEng u c (n - 2)).loads = (getEng s c (n - 2)).loads ++ [q] ∧ u.mem = s.mem) :=
  ⟨_, (exec_stationWorkStart_array hqueue hruns hreset hlo hhi).trans (congrArg Host.Outcome.next (startArray_load hload)),
    by simp⟩

theorem completes_start_stream {ep : Nat} {t : STile} (hqueue : (getStn s c n).queue = q :: rest) (hruns : coreRuns s c = true)
    (hreset : (getStn s c n).resetting = false) (hlo : 2 ≤ n) (hhi : n < 6) (hload : (arrWord q.word).load = false)
    (hheld : streamHeld s c (n - 2) (arrWord q.word) = false) (hep : actEp s c (n - 2) (arrWord q.word).part = some ep)
    (hhead : headTile s ep = some t) (hok : streamOk s c (n - 2) q t.hdr = true) :
    completes (.stationWorkStart c n) s (fun u => (getStn u c n).queue = rest ∧
      (getEng u c (n - 2)).streams = (getEng s c (n - 2)).streams ++ [AStream.accepted q t.hdr]) :=
  ⟨_, (exec_stationWorkStart_array hqueue hruns hreset hlo hhi).trans
    (congrArg Host.Outcome.next (startArray_stream hload hheld hep hhead hok)), by simp⟩

/-- What a work word on one operand leaves: the operand is held, and where the routine names no record in memory and the operand is
clean, the work stands with it. -/
theorem ranWord_spec (ea : Nat) (a : STile) :
    let w := routineWord q.word
    let u := tileRan (runRoutine (wordStarted s c n q rest ea a) c n q w a none) c w (driveHdr a none)
    streamTiles u ea = streamTiles s ea ∧ (getStream u ea).queue = (getStream s ea).queue.tail ∧
      (a.poison = [] → w.routine ≠ 0x30 → w.routine ≠ 0x40 →
        (getStn u c n).queue = rest ∧ (getStn u c n).work = .routine q [a] []) := by
  intro w u
  have hstreams : u.streams = (wordStarted s c n q rest ea a).streams :=
    (streams_of_workView (workView_tileRan _ _ _ _)).trans (runRoutine_streams _ _ _ _ _ _ _)
  obtain ⟨htiles, hqueue⟩ := wordStarted_spec hstreams
  refine ⟨htiles, hqueue, fun _ hlookup hupdate => ?_⟩
  have hview := (workView_tileRan _ c w (driveHdr a none)).trans
    (workView_runRoutine (wordStarted s c n q rest ea a) c n q a none hlookup hupdate)
  obtain ⟨hstnQueue, hstnWork⟩ := station_of_workView hview c n
  obtain ⟨hrest, hwork⟩ := getStn_wordStarted (s := s) (c := c) (n := n) (q := q) (rest := rest) (ea := ea) (a := a)
  exact ⟨hstnQueue.trans hrest, hstnWork.trans hwork⟩

/-! ### SPOT_CHECK_DONE -/

/-- The observation of an entry with the error of one more check (R157). -/
def StatObs.spotJoined (o : StatObs) (err : BitVec 32) : StatObs :=
  { o with spotCount := min (o.spotCount + 1) 0xFFFFFFFF, spotMax := f32MaxRec o.spotMax err, spotSum := f32Add o.spotSum err }

theorem getCore_observe_same (c entry : Nat) (f : StatObs → StatObs) :
    getCore (observe s c entry f) c = { getCore s c with obs := tmod (getCore s c).obs entry StatObs.zero f } :=
  getCore_setCore_same _ _ _

theorem exec_spotCheckDone {i : Nat} {y : Spot} {arr : List (BitVec 32)} (d r a : BitVec 32)
    (hfind : (getCore s c).spots.zipIdx.find? (fun p => p.1.arr.isSome) = some (y, i)) (harr : y.arr = some arr) :
    exec (.spotCheckDone c d r a) s =
      .next (observe (setCore s c { getCore s c with spots := (getCore s c).spots.eraseIdx i }) c y.entry
        (fun o => o.spotJoined (y.error s arr))) := by
  refine congrArg Host.Outcome.next ?_
  simp only [hfind, harr, Option.getD_some]
  rfl

theorem exec_spotCheckDone_of_none (d r a : BitVec 32)
    (hfind : (getCore s c).spots.zipIdx.find? (fun p => p.1.arr.isSome) = none) : exec (.spotCheckDone c d r a) s = .next s := by
  refine congrArg Host.Outcome.next ?_
  simp only [hfind]

end

/-- Settles O20: each command by the state that it makes, a work word through what its routine leaves alone. -/
theorem stationWork : Obligations.StationWork := by
  unfold Obligations.StationWork
  intro s c n x
  refine ⟨fun q rest hqueue hruns hreset => ?start, fun hruns hreset hcomplete hout => ?done,
    fun es t hruns hreset hcomplete hout hcredits ht hclean => ?doneLast, fun hreset => ?reset,
    fun i y arr d r a hy harr hbefore => ?spot,
    fun d r a hnone => ⟨s, exec_spotCheckDone_of_none d r a (find?_spots_none hnone), rfl⟩⟩
  case start =>
    intro d
    refine ⟨fun hidle hn hbad hupsets hok => ?fetch, fun hidle hn hbad hupsets hok => ?store,
      fun hlo hhi hload => completes_start_load hqueue hruns hreset hlo hhi hload,
      fun ep t hlo hhi hload hheld hep hhead hok =>
        completes_start_stream hqueue hruns hreset hlo hhi hload hheld hep hhead hok, fun ea p a => ?routine⟩
    case fetch => exact completes_start_walk hqueue hruns hreset hidle (.inl hn) (if_pos hn) hbad hupsets rfl hok
    case store =>
      have hlo : ¬ n < 2 := by omega
      exact completes_start_walk hqueue hruns hreset hidle (.inr hn) (if_neg hlo) hbad hupsets rfl hok
    case routine =>
      intro w hidle hlo hhi hfanin hhead huses hok hheld hholds hrecord
      exact ⟨_, (exec_stationWorkStart_routine hqueue hruns hreset hidle hlo hhi).trans
        (congrArg Host.Outcome.next (startRoutine_goes rfl hfanin hhead huses hok hheld hholds hrecord)), ranWord_spec ea a⟩
  case done =>
    have hsame : placeNext s c n = s := placeNext_of_no_output hout
    have hlast : x.out.length ≤ 1 := by simp [hout]
    have hplaced : (getStn (placeNext s c n) c n).out = [] := by rwa [hsame]
    refine ⟨_, exec_stationWorkDone hruns hreset hcomplete hlast hplaced, ?_⟩
    simp [hsame, x]
  case doneLast =>
    obtain ⟨hplaced, hmem⟩ := placeNext_clean hout hcredits ht hclean
    have hlast : x.out.length ≤ 1 := by simp [hout]
    refine ⟨_, exec_stationWorkDone hruns hreset hcomplete hlast hplaced, ?_⟩
    simp [hplaced, hmem]
  case reset =>
    obtain ⟨_, _, h⟩ := endStnReset_eq_with s c n
    refine ⟨_, exec_stationResetEnd hreset, by simp [endStnReset], by rw [h], fun p hp => ?_, fun e he => ?_⟩
    · exact getStream_foldl_restoreStream (nodup_stationStreams s c n) hp s
    · exact getStream_foldl_restoreStream_other he s
  case spot =>
    refine ⟨_, exec_spotCheckDone d r a (find?_spots hy (by simp [harr]) hbefore) harr, ?_⟩
    simp only [getCore_observe_same, getCore_setCore_same, tmod, tget_tset_same, StatObs.spotJoined, true_and, and_true]
    rfl

end Sys2Proof.Machine
end

section
/-! What every operation on the state keeps: the queue as it is, and the canonical form of memory. One rule per operation,
    in the
order of the model; an operation that writes neither the queue nor memory keeps both by its definition. -/

open Sys2Proof
namespace Sys2Proof.Machine

/-- `u` keeps what `s` has waiting in its queue, and its memory is canonical if that of `s` is. -/
def Kept (s u : State) : Prop := u.pending = s.pending ∧ (memWf s.mem = true → memWf u.mem = true)

/-- A command goes on from `s` to a state that keeps what `Kept` says. -/
def Goes (s : State) (o : Res) : Prop := ∃ t, o = .next t ∧ Kept s t

variable {s₀ s : State}


theorem kept_ite {p : Prop} [Decidable p] {u v : State} (hu : Kept s₀ u) (hv : Kept s₀ v) :
    Kept s₀ (if p then u else v) := by
  split
  · exact hu
  · exact hv

theorem kept_ite_fst {α : Type} {p : Prop} [Decidable p] {u v : State × α} (hu : Kept s₀ u.1) (hv : Kept s₀ v.1) :
    Kept s₀ (if p then u else v).1 := by
  split
  · exact hu
  · exact hv

theorem kept_foldl {α : Type} {f : State → α → State} (hf : ∀ s x, Kept s₀ s → Kept s₀ (f s x)) {l : List α} {u : State}
    (hu : Kept s₀ u) : Kept s₀ (l.foldl f u) := by
  induction l generalizing u with
  | nil => exact hu
  | cons x l ih => exact ih (hf u x hu)

theorem kept_foldr {α : Type} {f : α → State → State} (hf : ∀ x s, Kept s₀ s → Kept s₀ (f x s)) {l : List α} {u : State}
    (hu : Kept s₀ u) : Kept s₀ (l.foldr f u) := by
  induction l with
  | nil => exact hu
  | cons x l ih => exact hf x _ ih

theorem kept_foldl_fst {α β : Type} {f : State × β → α → State × β} (hf : ∀ p x, Kept s₀ p.1 → Kept s₀ (f p x).1)
    {l : List α}
    {p : State × β} (hp : Kept s₀ p.1) : Kept s₀ (l.foldl f p).1 := by
  induction l generalizing p with
  | nil => exact hp
  | cons x l ih => exact ih (hf p x hp)

theorem goes_next {u : State} (hu : Kept s₀ u) : Goes s₀ (.next u) := ⟨u, rfl, hu⟩

theorem goes_ite {p : Prop} [Decidable p] {u v : Res} (hu : Goes s₀ u) (hv : Goes s₀ v) : Goes s₀ (if p then u else v) := by
  split
  · exact hu
  · exact hv

/-! ### What the operations of Machine/Ops keep -/

theorem kept_csrPut {off v} (hr : Kept s₀ s) : Kept s₀ (csrPut s off v) := hr

theorem kept_csrPutBits {off hi lo v} (hr : Kept s₀ s) : Kept s₀ (csrPutBits s off hi lo v) := kept_csrPut hr

theorem kept_bump {off k} (hr : Kept s₀ s) : Kept s₀ (bump s off k) := kept_csrPut hr

theorem kept_bump16 {off k} (hr : Kept s₀ s) : Kept s₀ (bump16 s off k) := kept_csrPutBits hr

theorem kept_setEgress {p q l} (hr : Kept s₀ s) : Kept s₀ (setEgress s p q l) := hr

theorem kept_leave {e} (hr : Kept s₀ s) : Kept s₀ (leave s e) := kept_bump hr

theorem kept_toEgress {e} (hr : Kept s₀ s) : Kept s₀ (toEgress s e) := by
  unfold toEgress
  dsimp only
  split
  · exact hr
  · split
    · exact kept_leave hr
    · exact kept_setEgress hr
    · exact kept_setEgress hr

theorem kept_emit {e} (hr : Kept s₀ s) : Kept s₀ (s.emit e) := kept_foldl (fun _ _ hr => kept_toEgress hr) hr

theorem kept_setDom {d x} (hr : Kept s₀ s) : Kept s₀ (setDom s d x) := hr

theorem kept_setStack {n x} (hr : Kept s₀ s) : Kept s₀ (setStack s n x) := hr

theorem kept_dropLines {lo hi} (hr : Kept s₀ s) : Kept s₀ (dropLines s lo hi) := hr

theorem kept_memPut {a bs} (hr : Kept s₀ s) : Kept s₀ (memPut s a bs) :=
  ⟨by simp only [memPut]; split <;> exact hr.1, fun h => memWf_memPut _ _ _ (hr.2 h)⟩

theorem kept_setCore {c x} (hr : Kept s₀ s) : Kept s₀ (setCore s c x) := hr

theorem kept_setThread {c t x} (hr : Kept s₀ s) : Kept s₀ (setThread s c t x) := kept_setCore hr

theorem kept_setStn {c n x} (hr : Kept s₀ s) : Kept s₀ (setStn s c n x) := kept_setCore hr

theorem kept_setEng {c n x} (hr : Kept s₀ s) : Kept s₀ (setEng s c n x) := kept_setCore hr

theorem kept_setStream {e x} (hr : Kept s₀ s) : Kept s₀ (setStream s e x) := hr

theorem kept_dropLatches {reader} (hr : Kept s₀ s) : Kept s₀ (dropLatches s reader) := hr

theorem kept_useFree (hr : Kept s₀ s) : Kept s₀ (s.useFree) := hr

/-! ### What the operations of Machine/Events keep -/

theorem kept_notifyAll {code body} (hr : Kept s₀ s) : Kept s₀ (notifyAll s code body) :=
  kept_ite (kept_foldr (fun _ _ hr => kept_emit hr) hr) (kept_bump (kept_foldr (fun _ _ hr => kept_emit hr) hr))

theorem kept_notifyGroup {code body} (hr : Kept s₀ s) : Kept s₀ (notifyGroup s code body) :=
  kept_ite (kept_notifyAll hr) hr

theorem kept_setDev {d} (hr : Kept s₀ s) : Kept s₀ (setDev s d) := kept_ite hr (kept_notifyAll hr)

theorem kept_failLow (hr : Kept s₀ s) : Kept s₀ (failLow s) := kept_ite hr (kept_emit hr)

theorem kept_loseMem {a n} (hr : Kept s₀ s) : Kept s₀ (loseMem s a n) :=
  ⟨hr.1, fun h => memWf_memZero _ _ _ (hr.2 h)⟩

theorem kept_loseDomain {d} (hr : Kept s₀ s) : Kept s₀ (loseDomain s d) := by
  unfold loseDomain
  extract_lets +onlyGivenNames s1
  have h_s1 : Kept s₀ s1 := by
    refine kept_foldl (fun _ _ hr => ?_) hr
    exact hr
  exact kept_ite (kept_loseMem (kept_loseMem h_s1)) (kept_ite (kept_loseMem hr) (kept_ite hr (kept_ite hr hr)))

theorem kept_domOff {d} (hr : Kept s₀ s) : Kept s₀ (domOff s d) := kept_ite hr (kept_loseDomain (kept_setDom hr))

theorem kept_domsOffBut {keep} (hr : Kept s₀ s) : Kept s₀ (domsOffBut s keep) :=
  kept_foldl (fun _ _ hr => kept_domOff hr) hr

theorem kept_withErr {f} (hr : Kept s₀ s) : Kept s₀ (s.withErr f) := hr

theorem kept_countEvent {code sev} (hr : Kept s₀ s) : Kept s₀ (countEvent s code sev) := kept_bump (kept_bump hr)

theorem kept_logRec {r} (hr : Kept s₀ s) : Kept s₀ (logRec s r) := kept_withErr hr

theorem kept_notifyEvent {r} (hr : Kept s₀ s) : Kept s₀ (notifyEvent s r) := kept_ite (kept_notifyAll hr) hr

theorem kept_hardFence {code} (hr : Kept s₀ s) : Kept s₀ (hardFence s code) := by
  have hidle : ∀ {u : State}, Kept s₀ u → Kept s₀ { u with act := .none, inStep := false } := fun hu => hu
  have hfenced : ∀ {u : State} {f : ErrSt → ErrSt} {m : MendSt}, Kept s₀ u →
      Kept s₀ (setDev { (failLow (csrPutBits { u with act := .none, inStep := false } O.globalResetCause 5 5 1)).withErr f
          with
        mend := m, mem := [], bad := [] } .fenced) :=
    fun hu => kept_setDev ⟨(kept_failLow (kept_csrPutBits (hidle hu))).1, fun _ => memWf_nil⟩
  unfold hardFence
  refine kept_notifyEvent (kept_notifyAll ?_)
  split
  · exact kept_notifyEvent (hfenced (kept_domsOffBut hr))
  · exact kept_notifyEvent (hfenced (kept_domsOffBut hr))
  · exact kept_notifyEvent (hfenced (kept_domsOffBut hr))
  · exact hfenced (kept_domsOffBut hr)

theorem kept_placeDevice {r0} (hr : Kept s₀ s) : Kept s₀ (placeDevice s r0) :=
  kept_ite (kept_hardFence (kept_countEvent hr)) (kept_ite (kept_failLow hr) (kept_ite (kept_notifyEvent hr) hr))

theorem kept_enqueue {sev r0} (hr : Kept s₀ s) : Kept s₀ (enqueue s sev r0) := hr

theorem kept_placeStep {r} (hr : Kept s₀ s) : Kept s₀ (placeStep s r) :=
  kept_ite (kept_enqueue hr) (kept_placeDevice (kept_bump hr))

theorem kept_placeEvent {sev r} (hr : Kept s₀ s) : Kept s₀ (placeEvent s sev r) := by
  unfold placeEvent
  split
  · exact kept_placeDevice hr
  · split
    · exact kept_withErr (kept_countEvent hr)
    · exact kept_ite (kept_placeStep hr) (kept_ite (kept_enqueue hr) (kept_ite (kept_placeStep (kept_bump hr))
          (kept_bump (kept_countEvent hr))))

theorem kept_raise {code sev cls srcKind src info} (hr : Kept s₀ s) : Kept s₀ (raise s code sev cls srcKind src info) :=
  kept_placeEvent hr

theorem kept_deviceReset {stage keepLow} (hr : Kept s₀ s) : Kept s₀ (deviceReset s stage keepLow) :=
  kept_ite (kept_emit ⟨hr.1, fun _ => memWf_nil⟩) ⟨hr.1, fun _ => memWf_nil⟩

/-! ### What the operations of Machine/PowerOps keep -/

theorem kept_settleDom {d} (hr : Kept s₀ s) : Kept s₀ (settleDom s d) := by
  unfold settleDom
  dsimp only
  split
  · exact hr
  · split
    · exact kept_setDom hr
    · exact kept_setDom hr
    · exact kept_setDom hr
    · exact kept_setDom hr
    · exact kept_setDom hr
    · exact kept_setDom hr
    · exact hr

theorem kept_settleDoms {ds} (hr : Kept s₀ s) : Kept s₀ (settleDoms s ds) :=
  kept_foldl (fun _ _ hr => kept_settleDom hr) hr

theorem kept_setMgmt {d p} (hr : Kept s₀ s) : Kept s₀ (setMgmt s d p) := kept_settleDom (kept_setDom hr)

theorem kept_retainCluster {g} (hr : Kept s₀ s) : Kept s₀ (retainCluster s g) :=
  kept_ite (kept_settleDom (kept_setDom hr)) hr

theorem kept_wakeCluster {g} (hr : Kept s₀ s) : Kept s₀ (wakeCluster s g) := kept_ite (kept_settleDom (kept_setDom hr)) hr

theorem kept_wakeFor {a} (hr : Kept s₀ s) : Kept s₀ (wakeFor s a) := by
  unfold wakeFor
  split
  · exact hr
  · exact kept_wakeCluster hr

theorem kept_wakeRange {a n} (hr : Kept s₀ s) : Kept s₀ (wakeRange s a n) := kept_foldl (fun _ _ hr => kept_wakeFor hr) hr

/-! ### What the operations of Machine/MemTurn keep -/

theorem kept_fillLine {c line} (hr : Kept s₀ s) : Kept s₀ (fillLine c s line) := kept_ite hr hr

theorem kept_fillCaches {c a n} (hr : Kept s₀ s) : Kept s₀ (fillCaches s c a n) :=
  kept_foldl (fun _ _ hr => kept_fillLine hr) hr

theorem kept_forgetLines {c a n} (hr : Kept s₀ s) : Kept s₀ (forgetLines s c a n) := hr

theorem kept_goOn {r a n} (hr : Kept s₀ s) : Kept s₀ (goOn s r a n) :=
  kept_foldl (fun _ _ hr => kept_ite hr (kept_setStack hr)) hr

theorem kept_waitFor {r a n} (hr : Kept s₀ s) : Kept s₀ (waitFor s r a n) :=
  kept_foldl (fun _ _ hr => kept_ite hr (kept_setStack hr)) (kept_wakeRange hr)

end Sys2Proof.Machine
end

section
open Sys2Proof
namespace Sys2Proof.Machine

variable {s₀ s : State}

/-! ### What the operations of Machine/SeamOps keep -/

theorem kept_withMangle {f} (hr : Kept s₀ s) : Kept s₀ (s.withMangle f) := hr

theorem kept_setLink {n k} (hr : Kept s₀ s) : Kept s₀ (setLink s n k) := hr

theorem kept_setOe {n o} (hr : Kept s₀ s) : Kept s₀ (setOe s n o) := hr

theorem kept_freeSlots {n vc k} (hr : Kept s₀ s) : Kept s₀ (freeSlots s n vc k) := kept_setLink hr

theorem kept_sendFlit {n vc} (hr : Kept s₀ s) : Kept s₀ (sendFlit s n vc) := by
  unfold sendFlit
  dsimp only
  split
  · exact hr
  · split
    · exact kept_freeSlots (kept_bump (kept_emit (kept_setLink hr)))
    · exact kept_bump (kept_emit (kept_setLink hr))

theorem kept_pumpN {n fuel} (hr : Kept s₀ s) : Kept s₀ (pumpN s n fuel) := by
  induction fuel generalizing s with
  | zero => exact hr
  | succ fuel ih =>
    unfold pumpN
    simp only
    split
    · split
      · exact ih (kept_sendFlit (kept_setLink (kept_useFree hr)))
      · exact hr
    · exact hr

theorem kept_pump {n} (hr : Kept s₀ s) : Kept s₀ (pump s n) := kept_pumpN hr

theorem kept_deliverHere {f inbound} (hr : Kept s₀ s) : Kept s₀ (deliverHere s f inbound) := hr

theorem kept_deliverFrom {vc f x3} (hr : Kept s₀ s) : Kept s₀ (deliverFrom s vc f x3) := by
  unfold deliverFrom
  split
  · exact kept_deliverHere hr
  · exact kept_ite (kept_deliverHere hr) (kept_deliverHere (kept_freeSlots hr))

theorem kept_loseOwn {f} (hr : Kept s₀ s) : Kept s₀ (loseOwn s f) := by
  unfold loseOwn
  split
  · exact kept_ite hr hr
  · exact hr

theorem kept_queueOn {n vc f inbound} (hr : Kept s₀ s) : Kept s₀ (queueOn s n vc f inbound) := kept_pump (kept_setLink hr)

theorem kept_countDiscard {n} (hr : Kept s₀ s) : Kept s₀ (countDiscard s n) := kept_ite (kept_bump hr) hr

theorem kept_noWay {d} (hr : Kept s₀ s) : Kept s₀ (noWay s d) := kept_raise (kept_countDiscard hr)

theorem kept_probeRank {d} (hr : Kept s₀ s) : Kept s₀ (probeRank s d) :=
  kept_foldl (fun _ _ hr => kept_queueOn hr) (kept_ite hr hr)

theorem kept_suspectN {fuel d} (hr : Kept s₀ s) : Kept s₀ (suspectN fuel s d) := by
  induction fuel generalizing s d with
  | zero => exact hr
  | succ fuel ih =>
    unfold suspectN
    split
    · exact hr
    · simp only
      split
      · exact hr
      · split
        · exact hr
        · split
          · exact kept_ite hr (kept_probeRank hr)
          · split
            · exact kept_deliverHere hr
            · exact kept_queueOn hr
            · exact ih (kept_noWay hr)

theorem kept_suspectRank {d} (hr : Kept s₀ s) : Kept s₀ (suspectRank s d) := kept_suspectN hr

theorem kept_unreachable {d} (hr : Kept s₀ s) : Kept s₀ (unreachable s d) := kept_suspectRank (kept_noWay hr)

theorem kept_sendOn {vc f inbound} (hr : Kept s₀ s) : Kept s₀ (sendOn s vc f inbound) := by
  unfold sendOn
  split
  · exact kept_deliverFrom hr
  · exact kept_queueOn hr
  · dsimp only
    split
    · exact kept_freeSlots (kept_loseOwn (kept_unreachable hr))
    · exact kept_loseOwn (kept_unreachable hr)

theorem kept_sendFrame {dst b} (hr : Kept s₀ s) : Kept s₀ (sendFrame s dst b) := kept_sendOn hr

theorem kept_sendMend {dst h b} (hr : Kept s₀ s) : Kept s₀ (sendMend s dst h b) := kept_sendFrame hr

theorem kept_startTraining {n} (hr : Kept s₀ s) : Kept s₀ (startTraining s n) :=
  kept_csrPut (kept_csrPut (kept_setLink hr))

theorem kept_reroute {es} (hr : Kept s₀ s) : Kept s₀ (reroute s es) := by
  induction es generalizing s with
  | nil => exact hr
  | cons e es ih => exact ih (kept_sendOn hr)

theorem kept_reportStranded {n} (hr : Kept s₀ s) : Kept s₀ (reportStranded s n) := by
  unfold reportStranded
  split
  · exact hr
  · exact kept_foldl (fun _ _ hr => kept_suspectRank hr) hr

theorem kept_takeDown {n report} (hr : Kept s₀ s) : Kept s₀ (takeDown s n report) := by
  unfold takeDown
  extract_lets +onlyGivenNames k started again s0 gone dark s1 s2 s3 s4
  have h_s0 : Kept s₀ s0 := by
    refine kept_foldl (fun _ _ hr => ?_) ?_
    · split
      · exact kept_freeSlots hr
      · exact hr
    · exact hr
  have h_s1 : Kept s₀ s1 := kept_foldl (fun _ _ hr => kept_loseOwn hr) (kept_setLink h_s0)
  have h_s2 : Kept s₀ s2 := kept_ite h_s1 (kept_bump h_s1)
  have h_s3 : Kept s₀ s3 := kept_ite (kept_raise (kept_bump h_s2)) h_s2
  have h_s4 : Kept s₀ s4 := kept_reroute (kept_reportStranded h_s3)
  exact kept_ite (kept_startTraining h_s4) (kept_setLink h_s4)

theorem kept_engineLinksDown {oe} (hr : Kept s₀ s) : Kept s₀ (engineLinksDown s oe) :=
  kept_foldl (fun _ _ hr => kept_ite (kept_takeDown hr) (kept_ite (kept_startTraining hr) hr)) hr

theorem kept_darkLinks {d} (hr : Kept s₀ s) : Kept s₀ (darkLinks s d) := kept_ite (kept_engineLinksDown hr) hr

theorem kept_retrainLinks {d} (hr : Kept s₀ s) : Kept s₀ (retrainLinks s d) :=
  kept_ite (kept_foldl (fun _ _ hr => kept_ite (kept_startTraining hr) hr) hr) hr

theorem kept_replayFlits {n us} (hr : Kept s₀ s) : Kept s₀ (replayFlits s n us) := by
  unfold replayFlits
  split
  · exact hr
  · exact kept_bump hr

theorem kept_replayFrom {n us} (hr : Kept s₀ s) : Kept s₀ (replayFrom s n us) :=
  kept_ite (kept_setLink hr) (kept_replayFlits hr)

theorem kept_replayWaited {n} (hr : Kept s₀ s) : Kept s₀ (replayWaited s n) :=
  kept_ite (kept_replayFlits (kept_setLink hr)) hr

theorem kept_emitCtl {n c} (hr : Kept s₀ s) : Kept s₀ (emitCtl s n c) := kept_emit hr

theorem kept_sendCtl {n c} (hr : Kept s₀ s) : Kept s₀ (sendCtl s n c) := kept_ite (kept_setLink hr) (kept_emitCtl hr)

theorem kept_sendLaneMap {n} (hr : Kept s₀ s) : Kept s₀ (sendLaneMap s n) := kept_emitCtl hr

theorem kept_settleLane {n} (hr : Kept s₀ s) : Kept s₀ (settleLane s n) := by
  unfold settleLane
  extract_lets +onlyGivenNames k
  split
  · exact hr
  · split
    · exact kept_takeDown hr
    · split
      · exact hr
      · split
        · exact hr
        · exact kept_ite (kept_sendLaneMap (kept_raise (kept_bump (kept_setLink hr))))
              (kept_sendLaneMap (kept_raise (kept_setLink hr)))

theorem kept_settleLanes {n} (hr : Kept s₀ s) : Kept s₀ (settleLanes s n) :=
  kept_foldl (fun _ _ hr => kept_settleLane hr) hr

theorem kept_markFailed {n lane} (hr : Kept s₀ s) : Kept s₀ (markFailed s n lane) := by
  unfold markFailed
  dsimp only
  split
  · exact hr
  · split
    · exact kept_setLink hr
    · exact kept_ite hr (kept_setLink hr)
    · exact hr

theorem kept_actOnFailed {n} (hr : Kept s₀ s) : Kept s₀ (actOnFailed s n) :=
  kept_ite (kept_startTraining hr) (kept_settleLanes hr)

theorem kept_failLane {n lane} (hr : Kept s₀ s) : Kept s₀ (failLane s n lane) := kept_actOnFailed (kept_markFailed hr)

theorem kept_shedLanes {n} (hr : Kept s₀ s) : Kept s₀ (shedLanes s n) :=
  kept_ite hr (kept_ite (kept_setLink hr) (kept_sendLaneMap (kept_setLink hr)))

theorem kept_unshedLanes {n} (hr : Kept s₀ s) : Kept s₀ (unshedLanes s n) := by
  unfold unshedLanes
  dsimp only
  split
  · exact kept_settleLanes (kept_ite (kept_setLink hr) (kept_sendLaneMap (kept_setLink hr)))
  · exact hr

theorem kept_sendCredit {n} (hr : Kept s₀ s) : Kept s₀ (sendCredit s n) := kept_emitCtl (kept_setLink hr)

theorem kept_announceIds (hr : Kept s₀ s) : Kept s₀ (announceIds s) :=
  kept_foldl (fun _ _ hr => kept_ite (kept_sendCtl hr) hr) hr

theorem kept_idleFlit {n} (hr : Kept s₀ s) : Kept s₀ (idleFlit s n) := kept_ite (kept_emit hr) hr

/-! ### What the operations of Machine/MemErr keep -/

theorem kept_dropMicroBatch (hr : Kept s₀ s) : Kept s₀ (dropMicroBatch s) := kept_ite hr hr

theorem kept_failService {cluster} (hr : Kept s₀ s) : Kept s₀ (failService s cluster) := hr

theorem kept_markBadWeights {cluster} (hr : Kept s₀ s) : Kept s₀ (markBadWeights s cluster) := hr

theorem kept_copyInvalid (hr : Kept s₀ s) : Kept s₀ (copyInvalid s) := by
  unfold copyInvalid
  split
  · exact hr
  · split
    · exact hr
    · exact kept_ite (kept_sendMend (kept_sendMend hr)) (kept_sendMend hr)

theorem kept_rackBad {a} (hr : Kept s₀ s) : Kept s₀ (rackBad s a).1 := by
  unfold rackBad
  split <;> exact hr

theorem kept_countUe {a} (hr : Kept s₀ s) : Kept s₀ (countUe s a) := by
  unfold countUe
  split
  · exact kept_bump hr
  · exact kept_bump hr
  · exact hr

theorem kept_memCorrected {a} (hr : Kept s₀ s) : Kept s₀ (memCorrected s a) := by
  unfold memCorrected
  refine kept_raise ?_
  split
  · exact kept_bump hr
  · exact kept_bump hr
  · exact hr

theorem kept_meetUpset {u} (hr : Kept s₀ s) : Kept s₀ (meetUpset s u) := by
  unfold meetUpset
  dsimp only
  split
  · exact hr
  · exact kept_memCorrected hr

theorem kept_readMeets {a n} (hr : Kept s₀ s) : Kept s₀ (readMeets s a n) :=
  kept_foldl (fun _ _ hr => kept_meetUpset hr) hr

theorem kept_strike {u} (hr : Kept s₀ s) : Kept s₀ (strike s u) := kept_ite hr hr

theorem kept_strikeCache {u} (hr : Kept s₀ s) : Kept s₀ (strikeCache s u) := kept_ite hr hr

theorem kept_meetCache {c k line} (hr : Kept s₀ s) : Kept s₀ (meetCache s c k line) :=
  kept_ite hr (kept_foldl (fun _ _ hr => kept_memCorrected hr) (kept_ite hr (kept_ite (kept_setCore hr) hr)))

theorem kept_cacheMeets {c a n} (hr : Kept s₀ s) : Kept s₀ (cacheMeets s c a n) :=
  kept_foldl (fun _ _ hr => kept_ite (kept_ite (kept_meetCache hr) hr)
      (kept_ite (kept_meetCache (kept_ite (kept_meetCache hr) hr)) (kept_ite (kept_meetCache hr) hr))) hr

theorem kept_memUncorr {cls a contained} (hr : Kept s₀ s) : Kept s₀ (memUncorr s cls a contained) := by
  have hcounted : Kept s₀ (if csrBit (countUe s a) O.hbmErrAddrHi 31 then countUe s a
      else csrPut (csrPut (countUe s a) O.hbmErrAddrLo (a % 2 ^ 32)) O.hbmErrAddrHi (errHi cls (roleOf s cls (pageOf a)) a))
          :=
    kept_ite (kept_countUe hr) (kept_csrPut (kept_csrPut (kept_countUe hr)))
  have hrack := kept_ite_fst (p := roleOf s cls (pageOf a) = 3) (v := (_, false)) (kept_rackBad (a := a) hcounted) hcounted
  unfold memUncorr
  refine kept_ite (kept_copyInvalid (kept_raise hrack)) (kept_ite (kept_dropMicroBatch (kept_raise hrack))
    (kept_ite ?_ (kept_raise hrack)))
  split
  · exact kept_ite (kept_markBadWeights (kept_raise hrack)) (kept_raise hrack)
  · exact kept_raise hrack

theorem kept_memUncorrBy {core a} (hr : Kept s₀ s) : Kept s₀ (memUncorrBy s core a) :=
  kept_ite (kept_failService (kept_memUncorr hr)) (kept_memUncorr hr)

theorem kept_overwriteCore {a n c} (hr : Kept s₀ s) : Kept s₀ (overwriteCore s a n c) := kept_ite hr (kept_bump hr)

theorem kept_agentWrite {a bs} (hr : Kept s₀ s) : Kept s₀ (agentWrite s a bs) :=
  kept_foldl (fun _ _ hr => kept_overwriteCore hr) (kept_memPut (kept_foldl (fun _ _ hr => kept_meetUpset hr) hr))

theorem kept_deepTrace (hr : Kept s₀ s) : Kept s₀ (deepTrace s) :=
  kept_ite hr (kept_ite (kept_csrPut (kept_agentWrite (kept_agentWrite (kept_useFree hr)))) (kept_raise hr))

/-! ### What the operations of Machine/CoreOps keep -/

theorem kept_reschedule {c} (hr : Kept s₀ s) : Kept s₀ (reschedule s c) := kept_setCore hr

theorem kept_coreEvent {c ev} (hr : Kept s₀ s) : Kept s₀ (coreEvent s c ev) :=
  kept_ite (kept_wakeCluster (kept_reschedule (kept_setCore hr))) (kept_reschedule (kept_setCore hr))

theorem kept_routerEvent {c} (hr : Kept s₀ s) : Kept s₀ (routerEvent s c) := kept_ite (kept_wakeCluster hr) hr

theorem kept_switchOut {c t st b} (hr : Kept s₀ s) : Kept s₀ (switchOut s c t st b) :=
  kept_reschedule (kept_bump (kept_setThread hr))

theorem kept_makeReady {c t} (hr : Kept s₀ s) : Kept s₀ (makeReady s c t) := kept_reschedule (kept_setThread hr)

theorem kept_releaseThread {c t} (hr : Kept s₀ s) : Kept s₀ (releaseThread s c t) :=
  kept_ite (kept_setThread hr) (kept_makeReady hr)

theorem kept_lint {c ring kind sid entry arg} (hr : Kept s₀ s) : Kept s₀ (lint s c ring kind sid entry arg) :=
  kept_ite hr (kept_setCore hr)

theorem kept_tracePut {c w} (hr : Kept s₀ s) : Kept s₀ (tracePut s c w) :=
  kept_ite (kept_setCore hr) (kept_ite (kept_setCore hr) (kept_ite (kept_setCore hr) (kept_bump (kept_setCore hr))))

theorem kept_traceOut {c t pc p} (hr : Kept s₀ s) : Kept s₀ (traceOut s c t pc p) := kept_ite (kept_tracePut hr) hr

theorem kept_tracePump {c} (hr : Kept s₀ s) : Kept s₀ (tracePump s c) :=
  kept_ite hr (kept_foldl (fun _ _ hr => kept_tracePut hr) (kept_setCore hr))

theorem kept_traceTnt {c t} (hr : Kept s₀ s) : Kept s₀ (traceTnt s c t) := by
  unfold traceTnt
  split
  · exact hr
  · exact kept_setThread (kept_traceOut hr)

theorem kept_traceOutcome {c t pc taken} (hr : Kept s₀ s) : Kept s₀ (traceOutcome s c t pc taken) :=
  kept_ite (kept_ite (kept_traceTnt (kept_setThread hr)) (kept_setThread hr)) hr

theorem kept_traceTarget {c t pc target} (hr : Kept s₀ s) : Kept s₀ (traceTarget s c t pc target) :=
  kept_traceOut (kept_traceTnt hr)

theorem kept_traceMark {c t pc v} (hr : Kept s₀ s) : Kept s₀ (traceMark s c t pc v) := kept_traceOut (kept_traceTnt hr)

theorem kept_traceStart {c t} (hr : Kept s₀ s) : Kept s₀ (traceStart s c t) := kept_traceOut hr

theorem kept_traceResume {c} (hr : Kept s₀ s) : Kept s₀ (traceResume s c) :=
  kept_ite (kept_foldl (fun _ _ hr => kept_ite hr (kept_traceStart hr)) (kept_setCore hr)) hr

theorem kept_retireKey {g k} (hr : Kept s₀ s) : Kept s₀ (retireKey s g k) := hr

theorem kept_retireKeys {c t} (hr : Kept s₀ s) : Kept s₀ (retireKeys s c t) :=
  kept_foldl (fun _ _ hr => kept_retireKey hr) (kept_setThread hr)

theorem kept_openKey {c t stream pass rank} (hr : Kept s₀ s) : Kept s₀ (openKey s c t stream pass rank).1 :=
  kept_ite_fst (kept_raise hr) (kept_ite_fst (kept_raise hr) (kept_setThread hr))

theorem kept_clearThread {c t st} (hr : Kept s₀ s) : Kept s₀ (clearThread s c t st) :=
  kept_reschedule (kept_setThread (kept_csrPut (kept_retireKeys (kept_traceTnt hr))))

theorem kept_stopThread {c t st} (hr : Kept s₀ s) : Kept s₀ (stopThread s c t st) :=
  kept_retainCluster (kept_clearThread hr)

theorem kept_startThread {c t} (hr : Kept s₀ s) : Kept s₀ (startThread s c t) := by
  unfold startThread
  dsimp only
  split
  · exact kept_retainCluster (kept_clearThread hr)
  · exact kept_traceStart (kept_reschedule (kept_setThread (kept_clearThread hr)))

theorem kept_startCore {c} (hr : Kept s₀ s) : Kept s₀ (startCore s c) := kept_foldl (fun _ _ hr => kept_startThread hr) hr

theorem kept_haltCore {c} (hr : Kept s₀ s) : Kept s₀ (haltCore s c) := kept_foldl (fun _ _ hr => kept_stopThread hr) hr

theorem kept_coreExc {c t cause info stn imprecise pc} (hr : Kept s₀ s) : Kept s₀
    (coreExc s c t cause info stn imprecise pc) := by
  unfold coreExc
  extract_lets +onlyGivenNames lo hi w free s1 s2 cls
  have h_s1 : Kept s₀ s1 := kept_ite (kept_csrPut (kept_csrPut (kept_csrPut (kept_csrPut hr)))) hr
  have h_s2 : Kept s₀ s2 := kept_stopThread (kept_bump16 h_s1)
  exact kept_ite (kept_failService (kept_raise h_s2)) (kept_raise h_s2)

end Sys2Proof.Machine
end

section
open Sys2Proof
namespace Sys2Proof.Machine

variable {s₀ s : State}

/-! ### What the operations of Machine/Streams keep -/

theorem kept_tileArrives {e t} (hr : Kept s₀ s) : Kept s₀ (tileArrives s e t) := kept_coreEvent (kept_lint hr)

theorem kept_placeOn {t e} (hr : Kept s₀ s) : Kept s₀ (placeOn t s e) :=
  kept_ite (kept_tileArrives (kept_setStream hr)) (kept_routerEvent (kept_setStream hr))

theorem kept_creditArrives {e} (hr : Kept s₀ s) : Kept s₀ (creditArrives s e) := kept_coreEvent (kept_lint hr)

theorem kept_deliverRouted {g p} (hr : Kept s₀ s) : Kept s₀ (deliverRouted g s p) := by
  unfold deliverRouted
  extract_lets +onlyGivenNames x s1 y
  have h_s1 : Kept s₀ s1 := kept_ite (kept_foldl (fun _ _ hr => kept_tileArrives hr) (kept_setStream hr)) hr
  exact kept_ite (kept_foldl (fun _ _ hr => kept_creditArrives hr) (kept_setStream h_s1)) h_s1

theorem kept_deliverRouter {g} (hr : Kept s₀ s) : Kept s₀ (deliverRouter s g) :=
  kept_foldl (fun _ _ hr => kept_deliverRouted hr) hr

theorem kept_placeTile {c stn es t} (hr : Kept s₀ s) : Kept s₀ (placeTile s c stn es t) :=
  kept_lint (kept_foldl (fun _ _ hr => kept_placeOn hr) hr)

theorem kept_takeTile {e} (hr : Kept s₀ s) : Kept s₀ (takeTile s e) := by
  unfold takeTile
  dsimp only
  split
  · exact hr
  · exact kept_setStream hr

theorem kept_closeWindow {t} (hr : Kept s₀ s) : Kept s₀ (closeWindow s t) :=
  kept_foldl (fun _ _ hr => kept_ite hr (kept_setCore hr)) hr

theorem kept_giveTile {c stn sid t} (hr : Kept s₀ s) : Kept s₀ (giveTile s c stn sid t) := kept_ite hr (kept_setStn hr)

theorem kept_observe {c entry f} (hr : Kept s₀ s) : Kept s₀ (observe s c entry f) := kept_setCore hr

theorem kept_raiseN {code sev cls k src n} (hr : Kept s₀ s) : Kept s₀ (raiseN s code sev cls k src n) := by
  induction n generalizing s with
  | zero => exact hr
  | succ n ih => exact ih (kept_raise hr)

theorem kept_numEvents {c h ev} (hr : Kept s₀ s) : Kept s₀ (numEvents s c h ev) :=
  kept_ite hr (kept_ite (kept_observe (kept_raiseN (kept_raiseN (kept_bump (kept_bump hr)))))
      (kept_raiseN (kept_raiseN (kept_bump (kept_bump hr)))))

theorem kept_footOverflows {c h n} (hr : Kept s₀ s) : Kept s₀ (footOverflows s c h n) := kept_ite hr (kept_observe hr)

theorem kept_pageDenied {c} (hr : Kept s₀ s) : Kept s₀ (pageDenied s c) :=
  kept_ite (kept_failService (kept_raise hr)) (kept_dropMicroBatch (kept_raise hr))

theorem kept_consumePart {c t n k} (hr : Kept s₀ s) : Kept s₀ (consumePart s c t n k) := kept_ite (kept_pageDenied hr) hr

theorem kept_consume {c t} (hr : Kept s₀ s) : Kept s₀ (consume s c t) := kept_ite hr (kept_pageDenied hr)

theorem kept_discardStream {p} (hr : Kept s₀ s) : Kept s₀ (discardStream s p) :=
  kept_foldl (fun _ _ hr => kept_closeWindow hr) (kept_setStream hr)

theorem kept_startStnReset {c stn} (hr : Kept s₀ s) : Kept s₀ (startStnReset s c stn) := by
  have hemptied : Kept s₀ (((getStn s c stn).out.map Prod.snd).foldl closeWindow
      ((stationStreams s c stn).foldl discardStream s)) :=
    kept_foldl (fun _ _ hr => kept_closeWindow hr) (kept_foldl (fun _ _ hr => kept_discardStream hr) hr)
  exact kept_lint (kept_ite (kept_setEng (kept_retainCluster (kept_setStn hemptied)))
      (kept_retainCluster (kept_setStn hemptied)))

theorem kept_restoreStream {p} (hr : Kept s₀ s) : Kept s₀ (restoreStream s p) := kept_setStream (kept_discardStream hr)

theorem kept_endStnReset {c stn} (hr : Kept s₀ s) : Kept s₀ (endStnReset s c stn) :=
  kept_setStn (kept_foldl (fun _ _ hr => kept_restoreStream hr) hr)

theorem kept_resetStations {c} (hr : Kept s₀ s) : Kept s₀ (resetStations s c) :=
  kept_foldl (fun _ _ hr => kept_endStnReset (kept_startStnReset hr)) hr

/-! ### What the operations of Machine/Issue keep -/

theorem kept_enqueueWork {c stn t pc w} (hr : Kept s₀ s) : Kept s₀ (enqueueWork s c stn t pc w) :=
  kept_lint (kept_setStn hr)

/-! ### What the operations of Machine/Engines keep -/

theorem kept_refuseWork {c stn cause q} (hr : Kept s₀ s) : Kept s₀ (refuseWork s c stn cause q) :=
  kept_coreExc (kept_lint (kept_setStn hr))

theorem kept_startArray {c stn q rest} (hr : Kept s₀ s) : Kept s₀ (startArray s c stn q rest) := by
  unfold startArray
  extract_lets +onlyGivenNames e a popped
  have hpopped : Kept s₀ (popped s) := kept_retainCluster (kept_lint (kept_setStn hr))
  split
  · exact kept_setEng hpopped
  · split
    · exact hr
    · split
      · exact hr
      · exact kept_ite (kept_setEng hpopped) (kept_refuseWork hr)

theorem kept_setAStream {c e i x} (hr : Kept s₀ s) : Kept s₀ (setAStream s c e i x) := kept_setEng hr

theorem kept_feedStream {c e i} (hr : Kept s₀ s) : Kept s₀ (feedStream s c e i) := by
  unfold feedStream
  split
  · exact hr
  · dsimp only
    split
    · exact hr
    · split
      · exact kept_ite (kept_consumePart (kept_setAStream (kept_takeTile hr))) hr
      · exact hr

theorem kept_feedEngine {c e} (hr : Kept s₀ s) : Kept s₀ (feedEngine s c e) :=
  kept_foldl (fun _ _ hr => kept_feedStream hr) hr

theorem kept_feedEp {ep} (hr : Kept s₀ s) : Kept s₀ (feedEp s ep) := kept_ite (kept_feedEngine hr) hr

theorem kept_feedFoot {ep} (hr : Kept s₀ s) : Kept s₀ (feedFoot s ep) := kept_ite (kept_feedEngine hr) hr

theorem kept_enterCrease {c e ep a} (hr : Kept s₀ s) : Kept s₀ (enterCrease s c e ep a) :=
  kept_lint (kept_setEng (kept_setStream hr))

theorem kept_creaseFor {c e ep a} (hr : Kept s₀ s) : Kept s₀ (creaseFor s c e ep a) := kept_ite (kept_enterCrease hr) hr

theorem goes_execArrayStreamStart {c e} (hr : Kept s₀ s) : Goes s₀ (execArrayStreamStart c e s) := by
  unfold execArrayStreamStart
  refine goes_next ?_
  split
  · exact hr
  · dsimp only
    split
    · exact hr
    · exact kept_ite (kept_observe (kept_feedStream (kept_setAStream (kept_creaseFor hr))))
          (kept_feedStream (kept_setAStream (kept_creaseFor hr)))

theorem kept_enterReplay {c e} (hr : Kept s₀ s) : Kept s₀ (enterReplay s c e) := by
  unfold enterReplay
  dsimp only
  split
  · exact hr
  · split
    · exact hr
    · exact kept_setAStream (kept_creaseFor hr)

theorem goes_execCreaseComplete {c e} (hr : Kept s₀ s) : Goes s₀ (execCreaseComplete c e s) := by
  unfold execCreaseComplete
  refine goes_next ?_
  split
  · exact hr
  · exact kept_enterReplay (kept_setEng (kept_setStream hr))

theorem goes_execPlaneLoadStart {c e} (hr : Kept s₀ s) : Goes s₀ (execPlaneLoadStart c e s) := by
  unfold execPlaneLoadStart
  refine goes_next ?_
  split
  · exact hr
  · exact kept_ite hr (kept_setEng hr)

theorem goes_execPlaneLoadComplete {c e} (hr : Kept s₀ s) : Goes s₀ (execPlaneLoadComplete c e s) := by
  unfold execPlaneLoadComplete
  refine goes_next ?_
  dsimp only
  split
  · exact kept_ite hr (kept_lint (kept_setEng (kept_foldl (fun _ _ hr => kept_consumePart hr)
        (kept_foldl (fun _ _ hr => kept_takeTile hr) hr))))
  · exact hr

theorem kept_countReplay {c e h stn} (hr : Kept s₀ s) : Kept s₀ (countReplay s c e h stn) :=
  kept_lint (kept_setEng (kept_observe (kept_raise (kept_bump hr))))

theorem kept_countExhausted {c _e h} (hr : Kept s₀ s) : Kept s₀ (countExhausted s c _e h) :=
  kept_observe (kept_raise (kept_bump hr))

theorem kept_fillSpots {entry t j} (hr : Kept s₀ s) : Kept s₀ (fillSpots s entry t j) := hr

theorem kept_footEmit {c e i sid x j rows again h} (hr : Kept s₀ s) : Kept s₀ (footEmit s c e i sid x j rows again h) := by
  unfold footEmit
  extract_lets +onlyGivenNames out
  exact kept_ite (kept_lint (kept_ite (kept_fillSpots (kept_ite (kept_observe
      (kept_footOverflows (kept_setEng (kept_giveTile hr)))) (kept_observe
      (kept_footOverflows (kept_setEng (kept_giveTile hr)))))) (kept_footOverflows (kept_setEng (kept_giveTile hr)))))
      (kept_ite (kept_fillSpots (kept_ite (kept_observe (kept_footOverflows (kept_setEng (kept_giveTile hr))))
      (kept_observe (kept_footOverflows (kept_setEng (kept_giveTile hr))))))
      (kept_footOverflows (kept_setEng (kept_giveTile hr))))

theorem kept_footCapture {c e i sid x j h exhausted} (hr : Kept s₀ s) : Kept s₀ (footCapture s c e i sid x j h exhausted) :=
  kept_ite (kept_ite (kept_footEmit (kept_countReplay hr)) (kept_footEmit (kept_ite hr (kept_countExhausted hr))))
      (kept_footEmit hr)

theorem kept_replayL16 {c e i x part j h} (hr : Kept s₀ s) : Kept s₀ (replayL16 s c e i x part j h) :=
  kept_enterReplay (kept_setEng (kept_footOverflows (kept_countReplay hr)))

theorem kept_footTile {c e i sid x part} (hr : Kept s₀ s) : Kept s₀ (footTile s c e i sid x part) :=
  kept_ite (kept_replayL16 hr) (kept_footCapture (kept_ite (kept_countExhausted hr) hr))

theorem goes_execFootTileOut {c e} (hr : Kept s₀ s) : Goes s₀ (execFootTileOut c e s) := by
  unfold execFootTileOut
  refine goes_next ?_
  split
  · exact hr
  · dsimp only
    split
    · exact hr
    · refine kept_ite hr ?_
      refine kept_ite ?_ (kept_enterReplay (kept_footTile hr))
      split
      · exact hr
      · split
        · exact hr
        · exact kept_enterReplay (kept_footTile (kept_consume (kept_takeTile hr)))

/-! ### What the operations of Machine/Library keep -/

theorem kept_markLayers {ls} (hr : Kept s₀ s) : Kept s₀ (markLayers s ls) := hr

theorem kept_useMark {n key} (hr : Kept s₀ s) : Kept s₀ (useMark s n key) := by
  unfold useMark
  split
  · exact hr
  · exact kept_ite hr hr

theorem kept_shapeCapture {c h captured} (hr : Kept s₀ s) : Kept s₀ (shapeCapture s c h captured).1 :=
  kept_ite_fst (kept_ite_fst (kept_countReplay hr) (kept_countExhausted (_e := 0) hr)) hr

theorem kept_observeQuant {c h seen k m} (hr : Kept s₀ s) : Kept s₀ (observeQuant s c h seen k m) :=
  kept_ite (kept_observe hr) hr

theorem kept_spotTile {c h m r w} (hr : Kept s₀ r.1) : Kept s₀ (spotTile c h m r w).1 :=
  kept_ite_fst (kept_ite_fst (kept_setCore hr) (kept_observe hr)) hr

theorem kept_spotCheck {c h m} (hr : Kept s₀ s) : Kept s₀ (spotCheck s c h m).1 := by
  unfold spotCheck
  split
  · refine kept_foldl_fst (fun p w hp => ?_) hr
    exact kept_spotTile hp
  · exact hr

theorem kept_quantImage {c h k m seen wide last out image} (hr : Kept s₀ s) : Kept s₀
    (quantImage s c h k m seen wide last out image).1 :=
  kept_giveTile (kept_observeQuant (kept_shapeCapture hr))

theorem kept_runQuant {c q w a b out} (hr : Kept s₀ s) : Kept s₀ (runQuant s c q w a b out) := by
  unfold runQuant
  extract_lets +onlyGivenNames blk weight ef h n0 m0 res m1 m key ctl seen
  split
  next s1 wide hcheck =>
    have h_s1 : Kept s₀ s1 := by
      have hpair := kept_ite_fst (p := weight = true) (u := (s, false)) hr (kept_spotCheck (c := c) (h := h) (m := m)
        (kept_numEvents (c := c) (h := h) (ev := matEvents m) hr))
      rw [hcheck] at hpair
      exact hpair
    extract_lets s0
    have h_s0 : Kept s₀ s0 := kept_ite (kept_useMark (kept_numEvents hr)) h_s1
    split
    next s2 fwd hfwd =>
      have h_s2 : Kept s₀ s2 := by
        have hpair := kept_quantImage (c := c) (h := h) (k := ctl 0) (m := m) (seen := seen) (wide := wide)
          (last := !weight && !ef) (out := out) (image := fun k => (quantMat k m, (quantMat k m).image)) h_s0
        rw [hfwd] at hpair
        exact hpair
      extract_lets s3
      have h_s3 : Kept s₀ s3 := kept_ite (kept_quantImage h_s2) h_s2
      exact kept_ite (kept_ite (kept_giveTile (kept_ite (kept_observe h_s3) h_s3)) (kept_giveTile h_s3)) h_s3

theorem kept_runConvert {c stn fmt a out} (hr : Kept s₀ s) : Kept s₀ (runConvert s c stn fmt a out) :=
  kept_giveTile (kept_numEvents hr)

theorem kept_runOptUpdate {c arg a} (hr : Kept s₀ s) : Kept s₀ (runOptUpdate s c arg a) := by
  unfold runOptUpdate
  extract_lets +onlyGivenNames st t p cls reads wr
  split
  · exact kept_pageDenied hr
  · split
    · exact kept_foldl (fun _ _ hr => kept_agentWrite hr) hr
    · exact kept_foldl (fun _ _ hr => kept_memUncorrBy hr) hr

theorem kept_runLookup {c r a out} (hr : Kept s₀ s) : Kept s₀ (runLookup s c r a out) := by
  unfold runLookup
  extract_lets +onlyGivenNames idx cols chunks
  refine kept_foldl (fun _ _ hr => ?_) ?_
  · dsimp only
    split
    · exact kept_giveTile (kept_foldl (fun _ _ hr => kept_fillCaches hr)
          (kept_useFree (kept_ite (kept_foldl (fun _ _ hr => kept_cacheMeets hr) hr)
          (kept_bump (kept_foldl (fun _ _ hr => kept_cacheMeets hr) hr)))))
    · exact kept_foldl (fun _ _ hr => kept_memUncorrBy hr) (kept_ite (kept_foldl (fun _ _ hr => kept_cacheMeets hr) hr)
          (kept_bump (kept_foldl (fun _ _ hr => kept_cacheMeets hr) hr)))
  · exact hr

theorem kept_routineGoes {c stn w a} (hr : Kept s₀ s) : Kept s₀ (routineGoes s c stn w a) :=
  kept_foldl (fun _ _ hr => kept_readMeets (kept_goOn hr)) hr

theorem kept_runRoutine {c stn q w a b} (hr : Kept s₀ s) : Kept s₀ (runRoutine s c stn q w a b) :=
  kept_ite (kept_runQuant hr) (kept_ite (kept_runConvert hr) (kept_ite (kept_runLookup hr)
      (kept_ite (kept_runOptUpdate hr) (kept_ite (kept_ite hr (kept_giveTile hr)) (kept_giveTile hr)))))

theorem kept_tileRan {c w h} (hr : Kept s₀ s) : Kept s₀ (tileRan s c w h) := kept_ite (kept_observe hr) hr

theorem kept_noteWaiting {c} (hr : Kept s₀ s) : Kept s₀ (noteWaiting s c) := hr

theorem kept_startRoutine {c stn q rest} (hr : Kept s₀ s) : Kept s₀ (startRoutine s c stn q rest) := by
  unfold startRoutine
  extract_lets w ub u
  have h_u : Kept s₀ u := by
    unfold u
    split
    · exact kept_readMeets hr
    · exact hr
  split
  · split
    · refine kept_ite h_u (kept_ite ?_ (kept_ite (kept_refuseWork h_u) (kept_ite (kept_noteWaiting h_u) (kept_ite ?_ ?_))))
      · exact kept_foldl (fun _ _ hr => kept_memUncorrBy hr) (kept_setStn (kept_consume (kept_takeTile h_u)))
      · exact kept_foldl (fun _ _ hr => kept_waitFor hr) h_u
      · refine kept_tileRan (kept_runRoutine (kept_lint (kept_setStn ?_)))
        split
        · exact kept_ite (kept_consume (kept_takeTile (kept_routineGoes h_u)))
            (kept_consume (kept_takeTile (kept_consume (kept_takeTile (kept_routineGoes h_u)))))
        · exact kept_consume (kept_takeTile (kept_routineGoes h_u))
    · exact h_u
  · exact kept_refuseWork h_u

/-! ### What the operations of Machine/Walks keep -/

theorem kept_pushTile {c stn es t} (hr : Kept s₀ s) : Kept s₀ (pushTile s c stn es t) := kept_setStn hr

theorem kept_openWindow {c r p} (hr : Kept s₀ r.1) : Kept s₀ (openWindow c r p).1 := by
  unfold openWindow
  dsimp only
  split
  · exact hr
  · exact kept_setCore hr

theorem kept_stepWalk {c stn q d n} (hr : Kept s₀ s) : Kept s₀ (stepWalk s c stn q d n) := kept_setStn hr

theorem kept_pushTiles {c stn ess t} (hr : Kept s₀ s) : Kept s₀ (pushTiles s c stn ess t) := by
  unfold pushTiles
  split
  · exact hr
  · exact kept_foldl (fun _ _ hr => kept_pushTile hr) (kept_pushTile hr)

theorem kept_fetchImage {c stn q d n k last ess} (hr : Kept s₀ s) : Kept s₀ (fetchImage s c stn q d n k last ess) := by
  unfold fetchImage
  extract_lets +onlyGivenNames ps r waits
  refine kept_ite (kept_foldl (fun _ _ hr => kept_waitFor hr) hr) ?_
  dsimp only
  split
  · exact kept_foldl (fun _ _ hr => kept_memUncorrBy hr) (kept_stepWalk
        (kept_foldl (fun _ _ hr => kept_readMeets (kept_goOn hr)) hr))
  · exact kept_pushTiles (kept_stepWalk (kept_foldl_fst (fun _ _ hr => kept_openWindow hr)
        (kept_ite (kept_foldl (fun _ _ hr => kept_readMeets (kept_goOn hr)) hr)
        (kept_bump (kept_useFree (kept_foldl (fun _ _ hr => kept_readMeets (kept_goOn hr)) hr))))))

theorem kept_rotateImage {c stn q d n last ess src} (hr : Kept s₀ s) : Kept s₀ (rotateImage s c stn q d n last ess src) :=
    by
  unfold rotateImage
  split
  · exact hr
  · exact kept_pushTiles (kept_stepWalk (kept_takeTile hr))

theorem goes_execFetchReadIssue {c stn} (hr : Kept s₀ s) : Goes s₀ (execFetchReadIssue c stn s) := by
  unfold execFetchReadIssue
  refine goes_next ?_
  split
  · extract_lets es
    refine kept_ite ?_ hr
    extract_lets last
    split
    · exact kept_ite (kept_fetchImage hr) hr
    · extract_lets len round ess
      refine kept_ite hr (kept_ite (kept_fetchImage hr) ?_)
      split
      · exact hr
      · exact kept_rotateImage hr
  · exact hr

theorem goes_execStoreWrite {c stn} (hr : Kept s₀ s) : Goes s₀ (execStoreWrite c stn s) := by
  unfold execStoreWrite
  extract_lets +onlyGivenNames x
  refine goes_next ?_
  split
  · split
    · exact hr
    · split
      · exact hr
      · exact kept_ite (kept_ite (kept_waitFor hr) (kept_ite (kept_agentWrite
            (kept_stepWalk (kept_consume (kept_takeTile (kept_ite (kept_goOn hr) hr)))))
            (kept_pageDenied (kept_stepWalk (kept_consume (kept_takeTile (kept_ite (kept_goOn hr) hr))))))) hr
  · exact hr

theorem kept_startWalk {c stn q rest} (hr : Kept s₀ s) : Kept s₀ (startWalk s c stn q rest) :=
  kept_ite (kept_foldl (fun _ _ hr => kept_memUncorrBy hr) (kept_setStn (kept_readMeets hr)))
      (kept_ite (kept_lint (kept_setStn (kept_readMeets hr))) (kept_refuseWork (kept_readMeets hr)))

/-! ### What the operations of Machine/Stations keep -/

theorem goes_execStationWorkStart {c stn} (hr : Kept s₀ s) : Goes s₀ (execStationWorkStart c stn s) := by
  unfold execStationWorkStart
  refine goes_next ?_
  split
  · exact hr
  · exact kept_ite hr (kept_ite (kept_startArray hr) (kept_ite hr (kept_ite (kept_startWalk hr) (kept_startRoutine hr))))

theorem kept_placeNext {c stn} (hr : Kept s₀ s) : Kept s₀ (placeNext s c stn) := by
  unfold placeNext
  extract_lets +onlyGivenNames x
  split
  · exact hr
  · exact kept_ite (kept_feedEngine (kept_foldl (fun _ _ hr => kept_feedEp hr) (kept_placeTile (kept_setStn hr))))
        (kept_foldl (fun _ _ hr => kept_feedEp hr) (kept_placeTile (kept_setStn hr)))

theorem kept_releaseCredit {e} (hr : Kept s₀ s) : Kept s₀ (releaseCredit s e) :=
  kept_ite (kept_setEng (kept_setStream hr)) (kept_setStream hr)

theorem goes_execTileRelease {e} (hr : Kept s₀ s) : Goes s₀ (execTileRelease e s) := by
  unfold execTileRelease
  refine goes_next ?_
  dsimp only
  split
  · exact hr
  · exact kept_ite hr (kept_feedEp (kept_lint (kept_closeWindow (kept_releaseCredit (kept_setStream hr)))))

theorem goes_execCreditReturn {e} (hr : Kept s₀ s) : Goes s₀ (execCreditReturn e s) := by
  unfold execCreditReturn
  extract_lets +onlyGivenNames x p
  exact goes_next (kept_ite (kept_ite (kept_raise (kept_setStream hr))
      (kept_dropMicroBatch (kept_raise (kept_setStream hr)))) (kept_ite hr
      (kept_ite (kept_feedFoot (kept_creditArrives (kept_setStream hr))) (kept_routerEvent (kept_setStream hr)))))

theorem goes_execSpotCheckDone {c} (diff ref arr) (hr : Kept s₀ s) : Goes s₀ (execSpotCheckDone c diff ref arr s) := by
  unfold execSpotCheckDone
  refine goes_next ?_
  dsimp only
  split
  · exact hr
  · exact kept_observe (kept_setCore hr)

end Sys2Proof.Machine
end

section
open Sys2Proof
namespace Sys2Proof.Machine

variable {s₀ s : State}

/-! ### What the operations of Machine/Tags keep -/

theorem kept_stageTag {i v} (hr : Kept s₀ s) : Kept s₀ (stageTag s i v) := kept_withMangle hr

theorem kept_refuseTag {tag} (hr : Kept s₀ s) : Kept s₀ (refuseTag s tag) := kept_raise (kept_bump16 hr)

theorem kept_installTag {n} (hr : Kept s₀ s) : Kept s₀ (installTag s n) :=
  kept_ite (kept_withMangle (kept_withMangle hr)) (kept_refuseTag (kept_withMangle hr))

theorem kept_writeTagWord {i v} (hr : Kept s₀ s) : Kept s₀ (writeTagWord s i v) :=
  kept_ite (kept_installTag (kept_stageTag hr)) (kept_stageTag hr)

/-! ### What the operations of Machine/GateOps keep -/

theorem kept_withGate {f} (hr : Kept s₀ s) : Kept s₀ (s.withGate f) := hr

theorem kept_gateRun {b entry variant pins stale} (hr : Kept s₀ s) : Kept s₀ (gateRun s b entry variant pins stale) :=
  kept_withGate hr

theorem kept_gateDrop {b v} (hr : Kept s₀ s) : Kept s₀ (gateDrop s b v) :=
  kept_dropMicroBatch (kept_raise (kept_withGate hr))

theorem kept_gateFinish {b v} (hr : Kept s₀ s) : Kept s₀ (gateFinish s b v) := by
  unfold gateFinish
  refine kept_ite (kept_gateRun hr) ?_
  split
  · exact kept_gateDrop hr
  · exact kept_withGate (kept_gateRun (kept_foldl (fun _ _ hr => kept_raise hr) hr))

theorem kept_gateTest {expired b v rs} (hr : Kept s₀ s) : Kept s₀ (gateTest expired b v rs s) := by
  induction rs generalizing s with
  | nil => exact kept_gateFinish hr
  | cons g rs ih =>
    unfold gateTest
    exact kept_ite (ih (kept_withGate hr)) (kept_ite (ih (kept_withGate hr)) hr)

theorem kept_gateAgain {expired} (hr : Kept s₀ s) : Kept s₀ (gateAgain s expired) := by
  unfold gateAgain
  split
  · refine kept_ite hr ?_
    split
    · exact kept_gateTest hr
    · exact hr
  · exact hr

/-! ### What the operations of Machine/MangleOps keep -/

theorem kept_putInst {i} (hr : Kept s₀ s) : Kept s₀ (putInst s i) := kept_withMangle hr

theorem kept_lateDrop {n} (hr : Kept s₀ s) : Kept s₀ (lateDrop s n) := kept_ite hr (kept_bump hr)

theorem kept_mangleDenied {tag} (hr : Kept s₀ s) : Kept s₀ (mangleDenied s tag) := kept_dropMicroBatch (kept_raise hr)

theorem kept_mangleReads {tag a n} (hr : Kept s₀ s) : Kept s₀ (mangleReads s tag a n) :=
  kept_ite hr (kept_ite (kept_foldl (fun _ _ hr => kept_memUncorr hr) (kept_wakeRange hr)) (kept_mangleDenied hr))

theorem kept_mangleWrite {tag a bs} (hr : Kept s₀ s) : Kept s₀ (mangleWrite s tag a bs) :=
  kept_ite hr (kept_ite (kept_agentWrite (kept_goOn hr)) (kept_mangleDenied hr))

theorem kept_writesWait {tag rs} (hr : Kept s₀ s) : Kept s₀ (writesWait s tag rs) :=
  kept_foldl (fun _ _ hr => kept_waitFor hr) hr

theorem kept_putLedger {d k l} (hr : Kept s₀ s) : Kept s₀ (putLedger s d k l) := kept_mangleWrite (kept_withMangle hr)

theorem kept_clearLedger {d k} (hr : Kept s₀ s) : Kept s₀ (clearLedger s d k) := kept_mangleWrite (kept_withMangle hr)

theorem kept_dropLedgers {tag step} (hr : Kept s₀ s) : Kept s₀ (dropLedgers s tag step) := by
  unfold dropLedgers
  refine kept_lateDrop (kept_foldl (fun _ _ hr => ?_) hr)
  split
  · exact kept_clearLedger hr
  · exact kept_withMangle hr

theorem kept_freeInst {i} (hr : Kept s₀ s) : Kept s₀ (freeInst s i) := kept_withMangle hr

theorem kept_closeEarly {i} (hr : Kept s₀ s) : Kept s₀ (closeEarly s i) := by
  unfold closeEarly
  dsimp only
  split
  · exact kept_freeInst hr
  · exact kept_ite (kept_lateDrop (kept_ite (kept_freeInst hr) (kept_dropLedgers (kept_freeInst hr)))) (kept_freeInst hr)

theorem kept_closeOld {i} (hr : Kept s₀ s) : Kept s₀ (closeOld s i) :=
  kept_ite (kept_raise (kept_bump (kept_closeEarly hr))) (kept_closeEarly hr)

theorem kept_slotWait (hr : Kept s₀ s) : Kept s₀ (slotWait s) := kept_ite (kept_bump hr) hr

theorem kept_openInst {d step s1} (hr : Kept s₀ s) (h : openInst s d step = some s1) : Kept s₀ s1 := by
  have hold : Kept s₀ ((s.mangle.insts.filter (fun i => decide (i.tag = d.tag) && decide (i.step + 2 ≤ step))).foldl
      closeOld s) :=
    kept_foldl (fun _ _ hr => kept_closeOld hr) hr
  unfold openInst at h
  simp only at h
  split at h
  · cases h
  · split at h
    · cases h
    · rw [← Option.some.inj h]
      exact kept_csrPut (kept_ite (kept_bump (kept_bump (kept_withMangle hold))) (kept_bump (kept_withMangle hold)))

theorem kept_skip {kind rank tag step} (hr : Kept s₀ s) : Kept s₀ (skip s kind rank tag step) :=
  kept_raise (kept_bump (kept_withMangle hr))

theorem kept_wireStats {tag bs xs res} (hr : Kept s₀ s) : Kept s₀ (wireStats s tag bs xs res) := kept_withMangle hr

theorem kept_wireNum {d ev} (hr : Kept s₀ s) : Kept s₀ (wireNum s d ev) :=
  kept_raiseN (kept_raiseN (kept_ite hr (kept_withMangle hr)))

theorem kept_writeResid {d g v} (hr : Kept s₀ s) : Kept s₀ (writeResid s d g v) := kept_mangleWrite hr

theorem kept_quantW8 {i d g v} (hr : Kept s₀ s) : Kept s₀ (quantW8 s i d g v).1 :=
  kept_wireStats (kept_writeResid (kept_mangleReads hr))

theorem kept_onceW8 {i d k slot v} (hr : Kept s₀ s) : Kept s₀ (onceW8 s i d k slot v).1 := by
  unfold onceW8
  split
  · exact hr
  · have hquant := kept_quantW8 (i := i) (d := d) (g := chunkBase d k) (v := v) hr
    generalize quantW8 s i d (chunkBase d k) v = q at hquant ⊢
    exact hquant

theorem kept_releaseLedger {i d k} (hr : Kept s₀ s) : Kept s₀ (releaseLedger s i d k) := by
  unfold releaseLedger
  split
  · exact hr
  · exact kept_ite (kept_clearLedger hr) (kept_withMangle hr)

theorem kept_takeLedger {d step k} (hr : Kept s₀ s) : Kept s₀ (takeLedger s d step k).1 := by
  unfold takeLedger
  dsimp only
  split
  · exact hr
  · exact kept_ite_fst hr (kept_lateDrop hr)

theorem kept_lateOwnChunk {d step k v} (hr : Kept s₀ s) : Kept s₀ (lateOwnChunk s d step k v) :=
  kept_ite (kept_bump (kept_putLedger (kept_mangleWrite (kept_takeLedger hr)))) (kept_lateDrop hr)

theorem kept_writePredSlot {d f} (hr : Kept s₀ s) : Kept s₀ (writePredSlot s d f) := by
  unfold writePredSlot
  split
  · exact kept_mangleWrite hr
  · exact hr

theorem kept_latePartial {d f} (hr : Kept s₀ s) : Kept s₀ (latePartial s d f) :=
  kept_ite hr (kept_ite (kept_bump (kept_putLedger (kept_writePredSlot (kept_takeLedger hr)))) (kept_lateDrop hr))

theorem kept_sumExact {i d k lo n base h own fo} (hr : Kept s₀ s) : Kept s₀ (sumExact s i d k lo n base h own fo).1 :=
  kept_ite_fst (kept_onceW8 (kept_ite_fst (kept_onceW8 hr) hr)) (kept_ite_fst (kept_onceW8 hr) hr)

theorem kept_hopPayload {i d k lo a} (hr : Kept s₀ s) : Kept s₀ (hopPayload s i d k lo a).1 := by
  unfold hopPayload
  split
  · exact hr
  · exact hr
  next v =>
    refine kept_ite_fst ?_ hr
    have hquant := kept_quantW8 (i := i) (d := d) (g := chunkBase d k + lo) (v := v) hr
    generalize quantW8 s i d (chunkBase d k + lo) v = q at hquant ⊢
    exact hquant

theorem kept_performHop {i d p k seg rev level} (hr : Kept s₀ s) : Kept s₀ (performHop s i d p k seg rev level) := by
  unfold performHop
  extract_lets +onlyGivenNames key h lo n prev spoilt own fo taken folded odd s0 s0' s1
  have h_s0 : Kept s₀ s0 := kept_deepTrace (kept_foldl (fun _ _ hr => kept_skip hr) (kept_ite hr (kept_bump hr)))
  have h_s0' : Kept s₀ s0' := kept_foldl (fun _ _ hr => kept_mangleReads hr) h_s0
  have h_s1 : Kept s₀ s1 := kept_ite (kept_skip h_s0') h_s0'
  dsimp only
  split
  · exact kept_sendFrame (kept_putInst (kept_hopPayload (kept_ite (kept_releaseLedger
        (kept_ite_fst h_s1 (kept_ite_fst (kept_sumExact h_s1) h_s1)))
        (kept_ite_fst h_s1 (kept_ite_fst (kept_sumExact h_s1) h_s1)))))
  · exact kept_putInst (kept_ite (kept_releaseLedger (kept_ite_fst h_s1 (kept_ite_fst (kept_sumExact h_s1) h_s1)))
        (kept_ite_fst h_s1 (kept_ite_fst (kept_sumExact h_s1) h_s1)))

theorem kept_failRankIn {t i f} (hr : Kept s₀ s) : Kept s₀ (failRankIn t s i f) := by
  unfold failRankIn
  extract_lets
  split
  · exact hr
  · refine kept_ite hr ?_
    refine kept_foldl (fun _ _ hr => kept_foldl (fun _ _ hr => kept_foldl (fun _ _ hr => kept_foldl (fun _ _ hr => ?_) hr)
        hr) hr) hr
    split
    · exact hr
    · refine kept_ite hr (kept_ite (kept_ite hr (kept_putInst hr)) ?_)
      split
      · exact kept_ite (kept_putInst hr) (kept_ite hr (kept_putInst hr))
      · exact kept_ite (kept_putInst hr) (kept_ite hr (kept_putInst hr))
      · exact kept_ite hr (kept_putInst hr)

theorem kept_keepBegun {was i f} (hr : Kept s₀ s) : Kept s₀ (keepBegun was s i f) := by
  unfold keepBegun
  split
  · exact hr
  · exact kept_ite hr (kept_putInst hr)

theorem kept_giveCompletion {core sid t} (hr : Kept s₀ s) : Kept s₀ (giveCompletion s core sid t) := kept_giveTile hr

theorem kept_complete {d own t} (hr : Kept s₀ s) : Kept s₀ (complete s d own t) :=
  kept_ite (kept_giveCompletion hr) (kept_giveCompletion hr)

theorem kept_sendResult {i d k final outcome sums dest} (hr : Kept s₀ s) : Kept s₀
    (sendResult s i d k final outcome sums dest) :=
  kept_foldl (fun _ _ hr => kept_foldl (fun _ _ hr => kept_sendFrame hr) hr) hr

theorem kept_putRecords {step e r} (hr : Kept s₀ s) : Kept s₀ (putRecords s step e r) := kept_mangleWrite hr

theorem kept_statArrived {step} (hr : Kept s₀ s) : Kept s₀ (statArrived s step) := by
  unfold statArrived
  split
  · exact kept_ite hr hr
  · exact hr

theorem kept_deliverChunk {i d k outcome sums} (hr : Kept s₀ s) : Kept s₀ (deliverChunk s i d k outcome sums) := by
  unfold deliverChunk
  extract_lets +onlyGivenNames i1 s1 empty gather
  have hgather : ∀ {u}, Kept s₀ u → Kept s₀ (gather u) := fun hu => kept_ite (kept_sendResult hu) hu
  have h_s1 : Kept s₀ s1 := kept_putInst hr
  refine kept_ite (kept_statArrived (hgather (kept_putRecords h_s1))) ?_
  extract_lets status s2 s3 s4 s5
  have h_s3 : Kept s₀ s3 := hgather (kept_ite h_s1 (kept_mangleWrite h_s1))
  have h_s4 : Kept s₀ s4 := by
    unfold s4
    split
    · exact kept_sendResult h_s3
    · exact h_s3
  exact kept_complete (kept_ite (kept_notifyAll (kept_raise (kept_bump h_s4))) h_s4)

theorem kept_writeSegment {d step k off bs} (hr : Kept s₀ s) : Kept s₀ (writeSegment s d step k off bs) :=
  kept_ite (kept_mangleWrite (kept_ite hr (kept_mangleWrite hr))) (kept_mangleWrite hr)

theorem kept_landImage {d step} (hr : Kept s₀ s) : Kept s₀ (landImage s d step) :=
  kept_ite (kept_gateAgain (kept_withGate hr)) hr

theorem kept_unlandImage {d step} (hr : Kept s₀ s) : Kept s₀ (unlandImage s d step) := kept_ite (kept_withGate hr) hr

theorem kept_takeSegment {i d k seg bs pass} (hr : Kept s₀ s) : Kept s₀ (takeSegment s i d k seg bs pass) := by
  unfold takeSegment
  extract_lets +onlyGivenNames over_ i1 s1 s2
  have h_s1 : Kept s₀ s1 := kept_putInst (kept_ite hr (kept_writeSegment hr))
  have h_s2 : Kept s₀ s2 := kept_foldl (fun _ _ hr => kept_sendFrame hr) h_s1
  exact kept_ite (kept_ite (kept_unlandImage h_s2) h_s2) (kept_ite (kept_landImage h_s2) h_s2)

theorem kept_serveChunk {i d k} (hr : Kept s₀ s) : Kept s₀ (serveChunk s i d k) := by
  unfold serveChunk
  split
  · exact hr
  · refine kept_ite (kept_withMangle hr) (kept_ite (kept_writesWait (kept_withMangle hr)) ?_)
    refine kept_foldl (fun _ _ hr => ?_) hr
    split
    · exact kept_takeSegment hr
    · exact hr

theorem kept_handRecords (hr : Kept s₀ s) : Kept s₀ (handRecords s) := by
  unfold handRecords
  split
  · exact hr
  · split
    · exact hr
    next d _ =>
      extract_lets t taken give
      have hgive : ∀ {u}, Kept s₀ u → Kept s₀ (give u) := by
        intro u hu
        unfold give
        split
        · exact kept_ite (kept_lateDrop hu) (kept_putInst hu)
        · exact hu
      refine kept_ite (hgive hr) (kept_ite (kept_lateDrop hr) ?_)
      split
      next s1 hopen => exact hgive (kept_openInst hr hopen)
      · exact kept_slotWait hr

end Sys2Proof.Machine
end

section
open Sys2Proof
namespace Sys2Proof.Machine

variable {s₀ s : State}

/-! ### What the operations of Machine/Mangle keep -/

theorem kept_takeInbox {b} (hr : Kept s₀ s) : Kept s₀ (takeInbox s b).1 := hr

theorem kept_freeHeld {f slots} (hr : Kept s₀ s) : Kept s₀ (freeHeld s f slots) := by
  unfold freeHeld
  split
  · exact kept_freeSlots hr
  · exact hr

theorem kept_tagUnknown {c _tag} (hr : Kept s₀ s) : Kept s₀ (tagUnknown s c _tag) :=
  kept_ite (kept_dropMicroBatch (kept_raise hr)) (kept_raise hr)

theorem kept_settleLate {d step k} (hr : Kept s₀ s) : Kept s₀ (settleLate s d step k) :=
  kept_ite hr (kept_ite (kept_writesWait hr) (kept_lateOwnChunk (kept_withMangle hr)))

theorem kept_lateOwnTile {d step tile v} (hr : Kept s₀ s) : Kept s₀ (lateOwnTile s d step tile v) :=
  kept_ite hr (kept_settleLate (kept_withMangle hr))

theorem kept_noteTile {d step n} (hr : Kept s₀ s) : Kept s₀ (noteTile s d step n) := kept_withMangle hr

theorem kept_shipTo {s0 c i d t} (hr : Kept s₀ s0) : Kept s₀ (shipTo s0 c i d t) := by
  unfold shipTo
  extract_lets +onlyGivenNames n
  exact kept_ite (kept_tagUnknown hr) (kept_ite (kept_ite (kept_lateOwnTile (kept_wireNum (kept_noteTile hr)))
      (kept_putInst (kept_wireNum (kept_noteTile hr)))) (kept_serveChunk (kept_putInst (kept_noteTile hr))))

theorem kept_shipClosed {c d t} (hr : Kept s₀ s) : Kept s₀ (shipClosed s c d t) :=
  kept_ite (kept_tagUnknown hr) (kept_ite (kept_lateOwnTile (kept_wireNum (kept_noteTile hr))) (kept_noteTile hr))

theorem kept_shipIn {c t} (hr : Kept s₀ s) : Kept s₀ (shipIn s c t) := by
  unfold shipIn
  split
  · exact kept_tagUnknown hr
  · split
    · exact kept_shipTo hr
    · split
      · exact kept_shipClosed hr
      · split
        · exact kept_slotWait (kept_withMangle hr)
        next s1 hopen =>
          split
          · exact kept_shipTo (kept_openInst hr hopen)
          · exact kept_openInst hr hopen

theorem goes_execShipTile {c} (hr : Kept s₀ s) : Goes s₀ (execShipTile c s) := by
  unfold execShipTile
  refine goes_next ?_
  split
  · exact hr
  · exact kept_ite hr (kept_ite (kept_consume (kept_takeTile hr)) (kept_shipIn (kept_consume (kept_takeTile hr))))

theorem kept_zeroSegs {i d k} (hr : Kept s₀ s) : Kept s₀ (zeroSegs s i d k) :=
  kept_ite hr (kept_foldl (fun _ _ hr => kept_mangleWrite hr) hr)

theorem kept_gatherPhase {i d f} (hr : Kept s₀ s) : Kept s₀ (gatherPhase s i d f) := by
  unfold gatherPhase
  extract_lets +onlyGivenNames first n segs isNew zero i1 whole i2 s1 s2 s3
  have h_s1 : Kept s₀ s1 := kept_putInst hr
  have h_s2 : Kept s₀ s2 := by
    unfold s2
    split
    · exact kept_putRecords h_s1
    · exact kept_ite (kept_zeroSegs (kept_ite h_s1 (kept_mangleWrite h_s1))) (kept_ite h_s1 (kept_mangleWrite h_s1))
    · exact h_s1
  have h_s3 : Kept s₀ s3 := kept_foldl (fun _ _ hr => kept_sendFrame hr) h_s2
  exact kept_ite (kept_statArrived h_s3) h_s3

theorem kept_frameTo {i d f} (hr : Kept s₀ s) : Kept s₀ (frameTo s i d f) := by
  unfold frameTo
  refine kept_ite (kept_lateDrop hr) ?_
  refine kept_ite ?_ ?_
  · refine kept_ite (kept_gatherPhase hr) ?_
    split
    · exact kept_latePartial hr
    · exact kept_putInst hr
  · split
    · exact kept_ite (kept_foldl (fun _ _ hr => kept_sendFrame hr) (kept_ite hr (kept_writeSegment hr)))
          (kept_takeSegment hr)
    · exact hr

theorem kept_takeFrame {d f slots pinned ws take} (hr : Kept s₀ s) (hf : ∀ x0, Kept s₀ x0 → Kept s₀ (take x0)) : Kept s₀
    (takeFrame s d f slots pinned ws take) :=
  kept_ite (kept_withMangle hr) (kept_ite (kept_writesWait (kept_withMangle hr)) (hf _ (kept_freeHeld hr)))

theorem kept_frameLive {i d f slots} (hr : Kept s₀ s) : Kept s₀ (frameLive s i d f slots) :=
  kept_takeFrame hr (fun _ hr => kept_frameTo hr)

theorem kept_frameRx {d f slots again} (hr : Kept s₀ s) : Kept s₀ (frameRx s d f slots again) := by
  unfold frameRx
  split
  · exact kept_frameLive hr
  · split
    · exact kept_ite (kept_takeFrame hr (fun _ hr => kept_latePartial hr)) (kept_freeHeld hr)
    · split
      · exact kept_ite (kept_withMangle hr) (kept_slotWait (kept_withMangle hr))
      next s1 hopen =>
        split
        · exact kept_frameLive (kept_openInst hr hopen)
        · exact kept_freeHeld (kept_openInst hr hopen)

theorem kept_restartFill {r} (hr : Kept s₀ s) : Kept s₀ (restartFill s r) := by
  unfold restartFill
  refine kept_ite (kept_sendMend hr) ?_
  split
  · exact kept_raise (kept_bump hr)
  · split
    · exact kept_sendMend (kept_sendMend (kept_raise (kept_bump hr)))
    · exact kept_sendMend (kept_raise (kept_bump hr))

theorem kept_finalDone {d f l} (hr : Kept s₀ s) : Kept s₀ (finalDone s d f l) := by
  unfold finalDone
  extract_lets +onlyGivenNames empty zero status tile give
  have h_zero : Kept s₀ zero := kept_ite hr (kept_foldl (fun _ _ hr => kept_ite (kept_mangleWrite hr) hr) hr)
  split
  · exact kept_giveCompletion h_zero
  · split
    · exact kept_ite (kept_giveCompletion h_zero) h_zero
    · exact h_zero

theorem kept_finalRx_go {d f} (hr : Kept s₀ s) : Kept s₀ (finalRx.go d f s) := by
  unfold finalRx.go
  exact kept_ite (kept_finalDone (kept_withMangle (kept_ite hr (kept_mangleWrite hr))))
    (kept_withMangle (kept_withMangle (kept_ite hr (kept_mangleWrite hr))))

theorem kept_finalRx {d f} (hr : Kept s₀ s) : Kept s₀ (finalRx s d f) := by
  unfold finalRx
  split
  · exact kept_ite (kept_restartFill hr) (kept_finalRx_go hr)
  · exact kept_finalRx_go hr

theorem kept_finalLive {d f slots} (hr : Kept s₀ s) : Kept s₀ (finalLive s d f slots) :=
  kept_takeFrame hr (fun _ hr => kept_finalRx hr)

theorem kept_frameAgain {w} (hr : Kept s₀ s) : Kept s₀ (frameAgain s w) := by
  unfold frameAgain
  split
  · exact kept_ite (kept_finalLive hr) (kept_frameRx hr)
  · exact kept_freeHeld hr

theorem goes_execMangleFrameRx {f} (hr : Kept s₀ s) : Goes s₀ (execMangleFrameRx f s) := by
  unfold execMangleFrameRx
  refine goes_next ?_
  split
  · exact kept_freeHeld (kept_takeInbox hr)
  · exact kept_ite (kept_finalLive (kept_takeInbox hr)) (kept_frameRx (kept_takeInbox hr))

theorem goes_execFinalFrameRx {f} (src) (hr : Kept s₀ s) : Goes s₀ (execFinalFrameRx f src s) := by
  unfold execFinalFrameRx
  refine goes_next ?_
  split
  · exact kept_ite (kept_finalLive (kept_takeInbox hr)) hr
  · exact kept_freeHeld (kept_takeInbox hr)

theorem kept_openPart {tag step} (hr : Kept s₀ s) : Kept s₀ (openPart s tag step) := by
  unfold openPart
  split
  · exact hr
  next d _ =>
    split
    · cases hopen : openInst s d step with
      | none => exact kept_slotWait (kept_withMangle hr)
      | some s1 => exact kept_openInst hr hopen
    · exact hr

theorem goes_execSlotFreeOpen (hr : Kept s₀ s) : Goes s₀ (execSlotFreeOpen s) := by
  unfold execSlotFreeOpen
  refine goes_next (kept_ite hr (kept_ite (kept_handRecords hr) ?_))
  split
  · exact kept_openPart (kept_withMangle hr)
  · exact kept_shipIn (kept_withMangle hr)
  · exact kept_frameAgain (kept_withMangle hr)
  · exact hr

theorem kept_atHop {tag step k seg rev level f} (hr : Kept s₀ s) (hf : ∀ x0 x1 x2, Kept s₀ (f x0 x1 x2)) : Kept s₀
    (atHop s tag step k seg rev level f) := by
  unfold atHop
  split
  · refine kept_ite ?_ hr
    split
    · exact kept_ite hr (hf _ _ _)
    · exact hr
  · exact hr

theorem kept_runHop {i d p k seg rev level} (hr : Kept s₀ s) : Kept s₀ (runHop s i d p k seg rev level) :=
  kept_ite hr (kept_ite (kept_foldl (fun _ _ hr => kept_waitFor hr) hr)
      (kept_ite (kept_writesWait hr) (kept_performHop (kept_foldl (fun _ _ hr => kept_readMeets (kept_goOn hr)) hr))))

theorem kept_expireHop {i d p k seg rev level} (hr : Kept s₀ s) : Kept s₀ (expireHop s i d p k seg rev level) :=
  kept_runHop (kept_ite (kept_skip (kept_ite (kept_skip (kept_putInst hr)) (kept_putInst hr)))
      (kept_ite (kept_skip (kept_putInst hr)) (kept_putInst hr)))

theorem goes_execLateContribution {f} (hr : Kept s₀ s) : Goes s₀ (execLateContribution f s) := by
  unfold execLateContribution
  refine goes_next ?_
  dsimp only
  split
  · exact kept_ite (kept_takeFrame (kept_takeInbox hr) (fun _ hr => kept_latePartial hr)) hr
  · exact kept_ite (kept_takeFrame (kept_takeInbox hr) (fun _ hr => kept_latePartial hr)) hr
  · exact hr

theorem kept_deliverHeld {i d k outcome sums} (hr : Kept s₀ s) : Kept s₀ (deliverHeld s i d k outcome sums) :=
  kept_ite (kept_deliverChunk (kept_ite (kept_bump hr) hr)) (kept_writesWait hr)

theorem goes_execFinalHopDeliver {tag step k} (hr : Kept s₀ s) : Goes s₀ (execFinalHopDeliver tag step k s) := by
  unfold execFinalHopDeliver
  refine goes_next ?_
  split
  · refine kept_ite hr ?_
    split
    · exact hr
    · refine kept_ite (kept_deliverHeld hr) ?_
      refine kept_ite (kept_deliverHeld hr) ?_
      split
      · exact kept_deliverHeld hr
      · exact hr
  · exact hr

theorem goes_execReverseWaitExpire {tag step k} (hr : Kept s₀ s) : Goes s₀ (execReverseWaitExpire tag step k s) := by
  unfold execReverseWaitExpire
  refine goes_next ?_
  split
  · exact kept_ite (kept_bump (kept_putInst hr)) hr
  · exact hr

theorem goes_execInstanceClose {tag step} (hr : Kept s₀ s) : Goes s₀ (execInstanceClose tag step s) := by
  unfold execInstanceClose
  refine goes_next ?_
  split
  · exact kept_ite (kept_freeInst hr) hr
  · exact hr

theorem goes_execCollTimeout {tag step} (hr : Kept s₀ s) : Goes s₀ (execCollTimeout tag step s) := by
  unfold execCollTimeout
  refine goes_next ?_
  split
  · exact kept_ite (kept_dropMicroBatch (kept_raise (kept_bump (kept_freeInst hr)))) hr
  · exact hr

theorem kept_beginPart {tag} (hr : Kept s₀ s) : Kept s₀ (beginPart s tag) := by
  unfold beginPart
  split
  · exact hr
  · exact kept_ite (kept_openPart hr) hr

theorem kept_retryFrames (hr : Kept s₀ s) : Kept s₀ (retryFrames s) := by
  unfold retryFrames
  extract_lets +onlyGivenNames s1 s2
  have h_s1 : Kept s₀ s1 := kept_foldl (fun _ _ hr => kept_frameAgain hr) (kept_withMangle hr)
  have h_s2 : Kept s₀ s2 := by
    refine kept_foldl (fun _ _ hr => ?_) ?_
    · split
      · exact kept_serveChunk hr
      · exact hr
    · exact kept_withMangle h_s1
  refine kept_foldl (fun _ _ hr => ?_) ?_
  · split
    · exact kept_settleLate hr
    · exact hr
  · exact h_s2

end Sys2Proof.Machine
end

section
open Sys2Proof
namespace Sys2Proof.Machine

variable {s₀ s : State}

/-! ### What the operations of Machine/WcpOps keep -/

theorem kept_withWcp {f} (hr : Kept s₀ s) : Kept s₀ (s.withWcp f) := hr

theorem kept_setSession {x} (hr : Kept s₀ s) : Kept s₀ (setSession s x) := kept_withWcp hr

theorem kept_respond {r status detail body} (hr : Kept s₀ s) : Kept s₀ (respond s r status detail body) := by
  unfold respond
  refine kept_ite (kept_emit hr) ?_
  split
  · exact kept_emit (kept_setSession hr)
  · exact hr

theorem kept_completion {r status detail} (hr : Kept s₀ s) : Kept s₀ (completion s r status detail) := kept_notifyAll hr

theorem kept_startBg {r a b c} (hr : Kept s₀ s) : Kept s₀ (startBg s r a b c) := kept_withWcp (kept_respond hr)

theorem kept_deferResp {r a b c} (hr : Kept s₀ s) : Kept s₀ (deferResp s r a b c) := kept_withWcp hr

theorem kept_dropRunning {x} (hr : Kept s₀ s) : Kept s₀ (dropRunning s x) := kept_withWcp hr

theorem kept_endBg {op status detail} (hr : Kept s₀ s) : Kept s₀ (endBg s op status detail) := by
  unfold endBg
  split
  · exact hr
  · exact kept_completion (kept_dropRunning hr)

theorem kept_endDeferred {x status detail body} (hr : Kept s₀ s) : Kept s₀ (endDeferred s x status detail body) :=
  kept_respond (kept_dropRunning hr)

theorem kept_closeSession {id cause} (hr : Kept s₀ s) : Kept s₀ (closeSession s id cause) := by
  unfold closeSession
  split
  · exact hr
  · exact kept_raise (kept_withWcp (kept_dropLatches hr))

theorem kept_duplicate {x seq} (hr : Kept s₀ s) : Kept s₀ (duplicate s x seq) := by
  unfold duplicate
  dsimp only
  split
  · exact kept_emit (kept_bump hr)
  · exact kept_bump hr

theorem kept_takeRequestIf {fits r} (hr : Kept s₀ s) : Kept s₀ (takeRequestIf fits s r) := by
  unfold takeRequestIf
  extract_lets +onlyGivenNames full join
  have hjoin : ∀ {u}, Kept s₀ u → Kept s₀ (join u) := fun hr =>
    kept_ite (kept_respond hr) (kept_ite (kept_respond hr) hr)
  refine kept_ite (kept_ite (kept_bump hr) (kept_ite (kept_emit hr) (hjoin hr))) ?_
  split
  · exact kept_bump hr
  · exact kept_ite (kept_closeSession hr) (kept_ite (kept_duplicate hr) (kept_ite hr (kept_ite (kept_emit hr) (hjoin hr))))

theorem kept_takeRequest {r} (hr : Kept s₀ s) : Kept s₀ (takeRequest s r) := kept_takeRequestIf hr

theorem kept_wcpRowWith {fail q op img ok busy run} (hfail : ∀ u n k, Kept s₀ u → Kept s₀ (fail u n k))
    (hrun : ∀ n u, Kept s₀ u → Kept s₀ (run n u)) (hr : Kept s₀ s) :
    Kept s₀ (wcpRowWith fail q op img ok busy run s) := by
  unfold wcpRowWith
  extract_lets +onlyGivenNames r s1
  have h_s1 : Kept s₀ s1 := kept_ite hr (kept_takeRequest hr)
  split
  · exact h_s1
  · exact kept_ite hr (kept_ite h_s1 (kept_ite (hfail _ _ _ h_s1) (kept_ite (hfail _ _ _ h_s1)
      (kept_ite (hfail _ _ _ h_s1) (hrun _ _ (kept_deepTrace h_s1))))))

theorem kept_wcpRow {q op img ok busy run} (hf : ∀ x0 x1, Kept s₀ x1 → Kept s₀ (run x0 x1)) (hr : Kept s₀ s) : Kept s₀
    (wcpRow q op img ok busy run s) :=
  kept_wcpRowWith (fun _ _ _ hr => kept_respond hr) (fun _ _ hr => hf _ _ hr) hr

theorem kept_holdRow {q op a n ok held run} (hf : ∀ x0, Kept s₀ x0 → Kept s₀ (run x0)) (hr : Kept s₀ s) : Kept s₀
    (holdRow q op a n ok held run s) :=
  kept_ite (kept_waitFor (kept_ite hr (kept_takeRequest hr))) (hf _ hr)

/-! ### What the operations of Machine/EthOps keep -/

theorem kept_setPort {p x} (hr : Kept s₀ s) : Kept s₀ (setPort s p x) := hr

theorem kept_serveEgress {p} (hr : Kept s₀ s) : Kept s₀ (serveEgress s p) := by
  unfold serveEgress
  refine kept_ite hr ?_
  split
  · exact hr
  · split
    · exact hr
    · exact kept_leave (kept_ite hr hr)

theorem kept_flushEgress {p n} (hr : Kept s₀ s) : Kept s₀ (flushEgress p n s) := by
  induction n generalizing s with
  | zero => exact hr
  | succ n ih => exact ih (kept_serveEgress hr)

theorem kept_flushPort {p} (hr : Kept s₀ s) : Kept s₀ (flushPort s p) := kept_flushEgress hr

theorem kept_sendDhcp {p kind} (hr : Kept s₀ s) : Kept s₀ (sendDhcp s p kind) := kept_emit hr

theorem kept_portUp {p} (hr : Kept s₀ s) : Kept s₀ (portUp s p) :=
  kept_ite hr (kept_ite (kept_sendDhcp (kept_raise (kept_setPort hr))) (kept_raise (kept_setPort hr)))

theorem kept_portDown {p} (hr : Kept s₀ s) : Kept s₀ (portDown s p) := kept_ite (kept_raise (kept_setPort hr)) hr

theorem kept_sideDown {side} (hr : Kept s₀ s) : Kept s₀ (sideDown s side) :=
  kept_foldl (fun _ _ hr => kept_portDown hr) hr

theorem kept_writeSideMode {side m} (hr : Kept s₀ s) : Kept s₀ (writeSideMode s side m) :=
  kept_ite hr (kept_csrPutBits (kept_sideDown hr))

theorem kept_writeEthMode {v} (hr : Kept s₀ s) : Kept s₀ (writeEthMode s v) := kept_writeSideMode (kept_writeSideMode hr)

theorem kept_setLease {p l addr plen gw} (hr : Kept s₀ s) : Kept s₀ (setLease s p l addr plen gw) :=
  kept_raise (kept_csrPut (kept_csrPutBits (kept_csrPut (kept_setPort hr))))

theorem kept_writeIpv4 {p v} (hr : Kept s₀ s) : Kept s₀ (writeIpv4 s p v) :=
  kept_ite (kept_raise (kept_csrPut (kept_sendDhcp (kept_setPort hr)))) (kept_csrPut hr)

theorem kept_sendPfc {p q xoff} (hr : Kept s₀ s) : Kept s₀ (sendPfc s p q xoff) := kept_bump (kept_emit hr)

theorem kept_setFill {p q n} (hr : Kept s₀ s) : Kept s₀ (setFill s p q n) :=
  kept_ite (kept_setPort (kept_setPort hr)) (kept_ite (kept_sendPfc (kept_setPort (kept_setPort hr)))
      (kept_ite (kept_sendPfc (kept_setPort (kept_setPort hr))) (kept_setPort hr)))

/-! ### What the operations of Machine/MendOps keep -/

theorem kept_withMend {f} (hr : Kept s₀ s) : Kept s₀ (s.withMend f) := hr

theorem kept_stopClass1 (hr : Kept s₀ s) : Kept s₀ (stopClass1 s) :=
  kept_withMangle (kept_foldl (fun _ _ hr => kept_freeHeld hr) (kept_foldl (fun _ _ hr => kept_closeEarly hr)
      (kept_foldl (fun _ _ hr => kept_resetStations (kept_haltCore hr)) hr)))

theorem kept_sendNotice {dest n} (hr : Kept s₀ s) : Kept s₀ (sendNotice s dest n) := kept_sendMend hr

theorem kept_ackNotice {dest epoch} (hr : Kept s₀ s) : Kept s₀ (ackNotice s dest epoch) := kept_sendMend hr

theorem kept_reportCopy {valid} (hr : Kept s₀ s) : Kept s₀ (reportCopy s valid) := by
  unfold reportCopy
  split
  · exact hr
  · split
    · exact hr
    · exact kept_sendMend hr

theorem kept_adoptAssigned {c} (hr : Kept s₀ s) : Kept s₀ (adoptAssigned s c) := by
  unfold adoptAssigned
  refine kept_ite hr ?_
  dsimp only
  split
  · exact hr
  · exact kept_ite (kept_foldl (fun _ _ hr => kept_setMgmt hr) (kept_announceIds hr)) hr

theorem kept_adoptState {t n c} (hr : Kept s₀ s) : Kept s₀ (adoptState t s n c) := by
  unfold adoptState
  extract_lets +onlyGivenNames ranks
  refine kept_ite hr ?_
  split
  · exact kept_notifyGroup (kept_raise (kept_foldl (fun _ _ hr => kept_failRankIn hr) hr))
  · exact kept_notifyGroup (kept_raise (kept_foldl (fun _ _ hr => kept_failRankIn hr) hr))
  · exact kept_foldl (fun _ _ hr => kept_failRankIn hr) hr
  · exact hr

theorem kept_adoptJoin {old n c} (hr : Kept s₀ s) : Kept s₀ (adoptJoin s old n c) :=
  kept_ite (kept_notifyGroup (kept_raise (kept_foldl (fun _ _ hr => kept_keepBegun hr) (kept_withMend hr)))) hr

theorem kept_adoptLost {n} (hr : Kept s₀ s) : Kept s₀ (adoptLost s n) := by
  have hidle : ∀ {u : State}, Kept s₀ u → Kept s₀ { u with inStep := false } := fun hu => hu
  unfold adoptLost
  split
  · extract_lets ranks s1 s2 u s3
    have h_s1 : Kept s₀ s1 := kept_raise hr
    have h_s2 : Kept s₀ s2 := kept_notifyGroup h_s1
    have h_s3 : Kept s₀ s3 := hidle (kept_stopClass1 h_s2)
    exact kept_ite (kept_setDev h_s3) h_s3
  · exact hr

theorem kept_evict (hr : Kept s₀ s) : Kept s₀ (evict s) := by
  unfold evict
  split
  · exact hr
  · exact kept_ite (kept_raise hr) hr

theorem kept_settleMarks (hr : Kept s₀ s) : Kept s₀ (settleMarks s) := by
  unfold settleMarks
  split
  · exact hr
  · refine kept_foldl (fun _ _ hr => ?_) hr
    split
    · exact kept_endDeferred hr
    · exact hr

theorem kept_adoptNotice {n cs} (hr : Kept s₀ s) : Kept s₀ (adoptNotice s n cs) := by
  unfold adoptNotice
  split
  · exact hr
  · exact kept_settleMarks (kept_ite (kept_reportCopy (kept_evict (kept_adoptLost
        (kept_foldl_fst (fun _ _ hr => kept_adoptJoin (kept_adoptState hr))
        (kept_foldl (fun _ _ hr => kept_adoptAssigned hr) (kept_bump (kept_withMend hr)))))))
        (kept_evict (kept_adoptLost (kept_foldl_fst (fun _ _ hr => kept_adoptJoin (kept_adoptState hr))
        (kept_foldl (fun _ _ hr => kept_adoptAssigned hr) (kept_bump (kept_withMend hr)))))))

theorem kept_adoptHeld {fuel} (hr : Kept s₀ s) : Kept s₀ (adoptHeld fuel s) := by
  induction fuel generalizing s with
  | zero => exact hr
  | succ fuel ih =>
    unfold adoptHeld
    split
    · exact hr
    · split
      · exact hr
      · exact ih (kept_ackNotice (kept_adoptNotice (kept_withMend hr)))

theorem kept_issueNotice {v fromStep} (hr : Kept s₀ s) : Kept s₀ (issueNotice s v fromStep) := by
  unfold issueNotice
  split
  · exact hr
  · exact kept_ite hr (kept_foldl (fun _ _ hr => kept_sendNotice hr) (kept_withMend
        (kept_adoptNotice (kept_foldl (fun _ _ hr => kept_ite (kept_notifyGroup (kept_raise (kept_ite (kept_bump hr) hr)))
        (kept_raise (kept_ite (kept_bump hr) hr))) hr))))

theorem kept_runKeeperFail {f} (hr : Kept s₀ s) : Kept s₀ (runKeeperFail s f) := by
  unfold runKeeperFail
  split
  · exact kept_issueNotice hr
  · exact hr

theorem kept_coverAssign (hr : Kept s₀ s) : Kept s₀ (coverAssign s) := by
  unfold coverAssign
  split
  · exact hr
  · split
    · exact hr
    · exact kept_ite hr (kept_issueNotice hr)

theorem kept_sendMeta {s0 dest} (hr : Kept s₀ s0) : Kept s₀ (sendMeta s0 dest) :=
  kept_foldl (fun _ _ hr => kept_sendMend hr) (kept_withMend hr)

theorem kept_sendFillReqs {f} (hr : Kept s₀ s) : Kept s₀ (sendFillReqs s f) := by
  unfold sendFillReqs
  split
  · exact hr
  · dsimp only
    split
    · exact kept_sendMend (kept_sendMend hr)
    · exact kept_sendMend hr

theorem kept_installMeta {m again} (hr : Kept s₀ s) : Kept s₀ (installMeta s m again) := by
  unfold installMeta
  extract_lets +onlyGivenNames w s1 entry es rs tags upd pru mangle s2 s3
  have h_s3 : Kept s₀ s3 := kept_ite hr hr
  exact kept_csrPut h_s3

theorem kept_zeroArea {a n} (hr : Kept s₀ s) : Kept s₀ (zeroArea s a n) := kept_ite hr (kept_loseMem (kept_dropLines hr))

theorem kept_zeroHops {e} (hr : Kept s₀ s) : Kept s₀ (zeroHops s e) :=
  kept_ite (kept_zeroArea (kept_ite (kept_zeroArea hr) hr)) (kept_ite (kept_zeroArea hr) hr)

theorem kept_spareEnter (hr : Kept s₀ s) : Kept s₀ (spareEnter s) := by
  unfold spareEnter
  split
  · split
    · exact hr
    · exact kept_ite (kept_foldl (fun _ _ hr => kept_startCore hr) (kept_setDev
          (kept_withMend (kept_foldl (fun _ _ hr => kept_zeroHops hr) hr)))) hr
  · exact hr

/-! ### What the operations of Machine/Images keep -/

theorem kept_withSec {f} (hr : Kept s₀ s) : Kept s₀ (s.withSec f) := hr

theorem goes_execImgData {q off bytes} (hr : Kept s₀ s) : Goes s₀ (execImgData q off bytes s) := by
  unfold execImgData
  extract_lets +onlyGivenNames a accepts
  refine goes_next ?_
  refine kept_holdRow ?_ ?_
  · intro _ hr
    refine kept_wcpRow ?_ ?_
    · intro _ _ hr
      split
      · exact hr
      · exact kept_ite (kept_respond hr) (kept_respond (kept_withWcp (kept_ite (kept_agentWrite (kept_goOn hr)) hr)))
    · exact hr
  · exact hr

theorem kept_refuseImg {code status detail} (hr : Kept s₀ s) : Kept s₀ (refuseImg s code status detail) :=
  kept_endBg (kept_ite (kept_bump (kept_bump (kept_raise hr))) (kept_bump (kept_raise hr)))

theorem kept_restartDoms {type again} (hr : Kept s₀ s) : Kept s₀ (restartDoms s type again) :=
  kept_foldl (fun _ _ hr => kept_setMgmt hr) (kept_ite (kept_foldl (fun _ _ hr => kept_retrainLinks
      (kept_domOff (kept_darkLinks hr))) hr) hr)

theorem kept_loadImg {type x} (hr : Kept s₀ s) : Kept s₀ (loadImg s type x) := kept_restartDoms (kept_withSec hr)

theorem kept_commitImage {src type force sigOk} (hr : Kept s₀ s) : Kept s₀ (commitImage s src type force sigOk) := by
  unfold commitImage
  extract_lets +onlyGivenNames x
  exact kept_ite (kept_refuseImg hr) (kept_ite (kept_refuseImg hr) (kept_ite (kept_refuseImg hr)
      (kept_ite (kept_refuseImg hr) (kept_ite (kept_refuseImg hr) (kept_ite (kept_refuseImg hr)
      (kept_ite (kept_endBg (kept_bump hr)) (kept_endBg (kept_ite (kept_raise (kept_loadImg hr)) (kept_loadImg hr)))))))))

theorem kept_commitKeys {src sigOk} (hr : Kept s₀ s) : Kept s₀ (commitKeys s src sigOk) :=
  kept_ite (kept_endBg hr) (kept_ite (kept_refuseImg hr) (kept_ite (kept_refuseImg hr)
      (kept_ite (kept_refuseImg hr) (kept_endBg (kept_withSec hr)))))

theorem goes_execImgCommitDone {sigOk} (hr : Kept s₀ s) : Goes s₀ (execImgCommitDone sigOk s) := by
  unfold execImgCommitDone
  refine goes_next ?_
  split
  · exact hr
  · refine kept_ite (kept_ite (kept_commitKeys hr) (kept_commitImage hr)) ?_
    refine kept_ite (kept_endBg hr) ?_
    refine kept_ite (kept_waitFor hr) ?_
    dsimp only
    split
    · exact kept_endBg (kept_memUncorr (kept_readMeets (kept_goOn hr)))
    · exact kept_ite (kept_commitKeys (kept_readMeets (kept_goOn hr))) (kept_commitImage (kept_readMeets (kept_goOn hr)))

theorem kept_refuseUnlock {r} (hr : Kept s₀ s) : Kept s₀ (refuseUnlock s r) :=
  kept_respond (kept_bump (kept_raise (kept_withSec hr)))

theorem kept_grantScopes {r scope} (hr : Kept s₀ s) : Kept s₀ (grantScopes s r scope) :=
  kept_respond (kept_raise (kept_withSec hr))

theorem goes_execUnlockResponse {q scope count signers} (hr : Kept s₀ s) : Goes s₀
    (execUnlockResponse q scope count signers s) := by
  unfold execUnlockResponse
  refine goes_next ?_
  refine kept_wcpRow ?_ ?_
  · intro _ _ hr
    refine kept_ite (kept_respond hr) ?_
    split
    · exact kept_refuseUnlock hr
    · exact kept_ite (kept_grantScopes hr) (kept_refuseUnlock hr)
  · exact hr

theorem goes_execScanWipeDone (hr : Kept s₀ s) : Goes s₀ (execScanWipeDone s) := by
  have hclosed : Kept s₀ (s.wcp.sessions.foldl (fun s x => closeSession s x.id 2) s) :=
    kept_foldl (fun _ _ hr => kept_closeSession hr) hr
  exact goes_next (kept_ite hr ⟨hclosed.1, fun h => memWf_memZero _ _ _ (memWf_memZero _ _ _ (hclosed.2 h))⟩)

/-! ### What the operations of Machine/Seam keep -/

theorem kept_applyLaneMap {n map} (hr : Kept s₀ s) : Kept s₀ (applyLaneMap s n map) := by
  unfold applyLaneMap
  extract_lets +onlyGivenNames k m
  exact kept_ite hr (kept_ite (kept_setLink hr) (kept_ite (kept_takeDown hr)
      (kept_replayWaited (kept_settleLanes (kept_ite (kept_raise (kept_bump (kept_setLink hr)))
      (kept_ite (kept_raise (kept_setLink hr)) (kept_ite (kept_setLink hr) (kept_setLink hr))))))))

theorem kept_nakFlit {n} (hr : Kept s₀ s) : Kept s₀ (nakFlit s n) := kept_ite hr (kept_sendCtl (kept_setLink hr))

theorem kept_acceptFlit {n f} (hr : Kept s₀ s) : Kept s₀ (acceptFlit s n f) := by
  unfold acceptFlit
  dsimp only
  split
  · exact kept_ite (kept_applyLaneMap (kept_bump (kept_setLink hr))) (kept_bump (kept_setLink hr))
  · exact kept_bump (kept_setLink hr)

theorem goes_execFlitRx {n f} (hr : Kept s₀ s) : Goes s₀ (execFlitRx n f s) := by
  unfold execFlitRx
  extract_lets +onlyGivenNames s1 k
  have h_s1 : Kept s₀ s1 := kept_ite (kept_bump hr) (kept_ite (kept_bump hr) hr)
  exact goes_ite (goes_next (kept_ite (kept_nakFlit (kept_bump h_s1)) (kept_bump h_s1)))
      (goes_ite (goes_next h_s1) (goes_next (kept_ite (kept_ite (kept_pump (kept_setLink h_s1)) h_s1)
      (kept_ite (kept_acceptFlit (kept_ite (kept_pump (kept_setLink h_s1)) h_s1))
      (kept_nakFlit (kept_ite (kept_pump (kept_setLink h_s1)) h_s1))))))

theorem kept_frameIn {n vc f} (hr : Kept s₀ s) : Kept s₀ (frameIn s n vc f) := by
  unfold frameIn
  extract_lets +onlyGivenNames drop
  have h_drop : Kept s₀ drop := kept_countDiscard (kept_freeSlots hr)
  exact kept_ite h_drop (kept_ite (kept_ite h_drop (kept_ite (kept_bump (kept_freeSlots hr)) (kept_deliverFrom hr)))
      (kept_ite h_drop (kept_ite (kept_raise h_drop) (kept_sendOn (kept_ite hr (kept_bump hr))))))

theorem goes_execFrameRx {n} (hr : Kept s₀ s) : Goes s₀ (execFrameRx n s) := by
  unfold execFrameRx
  refine goes_next ?_
  split
  · exact hr
  · exact kept_frameIn (kept_setLink hr)

theorem goes_execLinkUp {n} (hr : Kept s₀ s) : Goes s₀ (execLinkUp n s) := by
  unfold execLinkUp
  extract_lets +onlyGivenNames k
  exact goes_ite (goes_next (kept_ite (kept_shedLanes (kept_ite (kept_raise (kept_raise (kept_setLink hr)))
      (kept_raise (kept_setLink hr)))) (kept_ite (kept_raise (kept_raise (kept_setLink hr)))
      (kept_raise (kept_setLink hr))))) (goes_next hr)

theorem goes_execSeamEnable {n en} (hr : Kept s₀ s) : Goes s₀ (execSeamEnable n en s) := by
  unfold execSeamEnable
  refine goes_next ?_
  split
  · exact kept_startTraining hr
  · exact hr
  · exact hr
  · exact kept_takeDown hr

theorem kept_failLanes {ls} (hr : Kept s₀ s) : Kept s₀ (failLanes s ls) :=
  kept_foldl (fun _ _ hr => kept_actOnFailed hr) (kept_foldl (fun _ _ hr => kept_markFailed hr) hr)

theorem kept_laserInput {oe inputB p} (hr : Kept s₀ s) : Kept s₀ (laserInput s oe inputB p) :=
  kept_ite (kept_failLanes (kept_ite (kept_raise (kept_setOe hr)) (kept_setOe hr)))
      (kept_ite (kept_raise (kept_setOe hr)) (kept_setOe hr))

theorem goes_execLaserRecover {oe inputB} (hr : Kept s₀ s) : Goes s₀ (execLaserRecover oe inputB s) := by
  unfold execLaserRecover
  refine goes_next ?_
  split
  · exact kept_ite hr hr
  · exact hr

theorem goes_execInterleaveReformDone {n} (hr : Kept s₀ s) : Goes s₀ (execInterleaveReformDone n s) := by
  unfold execInterleaveReformDone
  extract_lets +onlyGivenNames k
  exact goes_next (kept_ite (kept_settleLanes (kept_pump (kept_ite (kept_setLink
      (kept_foldl (fun _ _ hr => kept_emitCtl hr) (kept_setLink hr)))
      (kept_replayFlits (kept_setLink (kept_foldl (fun _ _ hr => kept_emitCtl hr) (kept_setLink hr))))))) hr)

/-! ### What the operations of Machine/Csr keep -/

theorem kept_readClear {off} (hr : Kept s₀ s) : Kept s₀ (readClear s off) := kept_ite hr (kept_csrPut hr)

theorem kept_readCycleLo {reader} (hr : Kept s₀ s) : Kept s₀ (readCycleLo s reader).1 := hr

theorem kept_readEngLo {reader c key} (hr : Kept s₀ s) : Kept s₀ (readEngLo s reader c key).1 := hr

theorem kept_csrRead {reader off} (hr : Kept s₀ s) : Kept s₀ (csrRead s reader off).1 := by
  unfold csrRead
  refine kept_ite_fst (kept_bump16 hr) ?_
  refine kept_ite_fst hr ?_
  refine kept_ite_fst (kept_readCycleLo hr) ?_
  refine kept_ite_fst hr ?_
  split
  · exact kept_readEngLo hr
  · exact hr
  · exact kept_readClear hr

theorem kept_csrStore {off v} (hr : Kept s₀ s) : Kept s₀ (csrStore s off v) := kept_ite hr (kept_csrPut hr)

theorem kept_traceChunk {c} (hr : Kept s₀ s) : Kept s₀ (traceChunk s c) :=
  kept_ite (kept_waitFor hr) (kept_ite (kept_tracePump (kept_csrPut (kept_setCore
      (kept_agentWrite (kept_setCore (kept_goOn hr)))))) (kept_raise (kept_csrPutBits (kept_setCore hr))))

theorem kept_traceFlushN {c fuel} (hr : Kept s₀ s) : Kept s₀ (traceFlushN s c fuel) := by
  induction fuel generalizing s with
  | zero => exact hr
  | succ fuel ih => exact kept_ite (ih (kept_traceChunk hr)) hr

theorem kept_traceFlushCore {c} (hr : Kept s₀ s) : Kept s₀ (traceFlushCore s c) := kept_traceFlushN hr

theorem kept_writeTraceCtrl {c v} (hr : Kept s₀ s) : Kept s₀ (writeTraceCtrl s c v) := by
  unfold writeTraceCtrl
  extract_lets +onlyGivenNames stops was s1 s2 s3
  have h_s1 : Kept s₀ s1 := kept_foldl (fun _ _ hr => kept_ite (kept_traceTnt hr) hr) hr
  have h_s2 : Kept s₀ s2 := kept_tracePump (kept_csrStore h_s1)
  have h_s3 : Kept s₀ s3 := kept_foldl (fun _ _ hr => kept_ite hr (kept_traceStart hr)) h_s2
  exact kept_ite (kept_traceFlushCore h_s3) h_s3

theorem kept_restartThreads {c bits} (hr : Kept s₀ s) : Kept s₀ (restartThreads s c bits) :=
  kept_foldl (fun _ _ hr => kept_ite (kept_startThread hr) hr) hr

theorem kept_haltThreads {c bits} (hr : Kept s₀ s) : Kept s₀ (haltThreads s c bits) :=
  kept_foldl (fun _ _ hr => kept_ite (kept_stopThread hr) hr) hr

theorem kept_resetStns {c bits} (hr : Kept s₀ s) : Kept s₀ (resetStns s c bits) :=
  kept_foldl (fun _ _ hr => kept_ite (kept_startStnReset hr) hr) hr

theorem kept_clearPerf {c} (hr : Kept s₀ s) : Kept s₀ (clearPerf s c) := kept_setCore hr

theorem kept_writeCore {c o v} (hr : Kept s₀ s) : Kept s₀ (writeCore s c o v) := by
  unfold writeCore
  extract_lets +onlyGivenNames off
  exact kept_ite (kept_restartThreads (kept_haltThreads hr)) (kept_ite (kept_resetStns hr)
      (kept_ite (kept_writeTraceCtrl hr) (kept_ite (kept_ite (kept_clearPerf (kept_csrStore hr)) (kept_csrStore hr))
      (kept_ite (kept_tracePump (kept_setCore (kept_csrStore hr))) (kept_ite (kept_retainCluster (kept_csrStore hr))
      (kept_csrStore hr))))))

theorem kept_writePending {i v} (hr : Kept s₀ s) : Kept s₀ (writePending s i v) := hr

theorem kept_writeApply {v} (hr : Kept s₀ s) : Kept s₀ (writeApply s v).1 := kept_ite_fst (kept_csrPut hr) hr

theorem kept_discardPending (hr : Kept s₀ s) : Kept s₀ (discardPending s) := hr

theorem kept_releaseGroup (hr : Kept s₀ s) : Kept s₀ (releaseGroup s) :=
  kept_ite hr (kept_announceIds (kept_foldl (fun _ _ hr => kept_endDeferred hr) hr))

theorem kept_clearLog (hr : Kept s₀ s) : Kept s₀ (clearLog s) := kept_withErr hr

theorem kept_stateOf {o} (h : Goes s₀ o) : Kept s₀ (stateOf o s) := by
  obtain ⟨t, rfl, ht⟩ := h
  exact ht

theorem goes_execSeamRetrain {n} (hr : Kept s₀ s) : Goes s₀ (execSeamRetrain n s) :=
  goes_next (kept_ite (kept_ite (kept_startTraining hr) hr) (kept_takeDown hr))

theorem goes_execSeamForceMin {n on} (hr : Kept s₀ s) : Goes s₀ (execSeamForceMin n on s) :=
  goes_next (kept_ite (kept_shedLanes (kept_csrPutBits hr)) (kept_ite (kept_unshedLanes (kept_csrPutBits hr))
      (kept_csrPutBits hr)))

theorem kept_writeSeamCtrl {n v} (hr : Kept s₀ s) : Kept s₀ (writeSeamCtrl s n v) := by
  unfold writeSeamCtrl
  extract_lets +onlyGivenNames s1 s2
  have h_s1 : Kept s₀ s1 := kept_ite hr (kept_stateOf (goes_execSeamEnable hr))
  have h_s2 : Kept s₀ s2 := kept_ite h_s1 (kept_stateOf (goes_execSeamForceMin h_s1))
  exact kept_ite (kept_stateOf (goes_execSeamRetrain h_s2)) h_s2

theorem kept_csrEffect {off v} (hr : Kept s₀ s) : Kept s₀ (csrEffect s off v).1 := by
  have hstore : Kept s₀ (csrStore s off v.toNat) := kept_csrStore hr
  unfold csrEffect
  extract_lets +onlyGivenNames n
  refine kept_ite_fst ?_ (kept_ite_fst ?_ (kept_ite_fst ?_ (kept_ite_fst ?_ (kept_ite_fst ?_ (kept_ite_fst ?_
    (kept_ite_fst ?_ (kept_ite_fst ?_ (kept_ite_fst ?_ (kept_ite_fst ?_ (kept_ite_fst ?_ (kept_ite_fst ?_ ?_)))))))))))
  · dsimp only
    exact kept_writeCore hr
  · exact kept_ite hstore (kept_announceIds hstore)
  · exact kept_ite hstore hstore
  · exact kept_ite (kept_clearLog hr) hr
  · exact kept_writePending hr
  · exact kept_writeApply hr
  · exact kept_ite (kept_discardPending hr) hr
  · exact kept_writeTagWord hr
  · exact kept_ite (kept_releaseGroup hr) hr
  · exact kept_writeSeamCtrl hr
  · exact kept_writeEthMode hr
  · exact kept_writeIpv4 hr
  · exact hstore

theorem kept_csrWrite {off v} (hr : Kept s₀ s) : Kept s₀ (csrWrite s off v).1 :=
  kept_ite_fst (kept_bump16 hr) (kept_ite_fst hr (kept_ite_fst hr (kept_csrEffect hr)))

theorem kept_hostWrite {off v} (hr : Kept s₀ s) : Kept s₀ (hostWrite s off v) := kept_csrWrite hr

theorem kept_coreWrite {c o v} (hr : Kept s₀ s) : Kept s₀ (coreWrite s c o v) := kept_csrEffect hr

end Sys2Proof.Machine
end

section
open Sys2Proof
namespace Sys2Proof.Machine

variable {s₀ s : State}

/-! ### What the operations of Machine/WeaveCheck keep -/

theorem kept_presetStore {off v} (hr : Kept s₀ s) : Kept s₀ (presetStore s off v) := kept_csrPut hr

theorem kept_presetPair {p} (hr : Kept s₀ s) : Kept s₀ (presetPair s p) :=
  kept_ite (kept_writeTagWord hr) (kept_ite hr (kept_presetStore hr))

theorem kept_applyPreset {ps} (hr : Kept s₀ s) : Kept s₀ (applyPreset s ps) :=
  kept_foldl (fun _ _ hr => kept_presetPair hr) hr

/-! ### What the operations of Machine/Activation keep -/

theorem kept_weaveRefused {reason job} (hr : Kept s₀ s) : Kept s₀ (weaveRefused s reason job) :=
  kept_notifyAll (kept_bump (kept_raise hr))

theorem kept_checkWeave {base len sigOk} (hr : Kept s₀ s) : Kept s₀ (checkWeave s base len sigOk) :=
  kept_ite (kept_endBg hr) (kept_endBg (kept_weaveRefused (kept_foldl (fun _ _ hr => kept_refuseTag hr) hr)))

theorem goes_execWeaveCommitDone {sigOk} (hr : Kept s₀ s) : Goes s₀ (execWeaveCommitDone sigOk s) := by
  unfold execWeaveCommitDone
  refine goes_next ?_
  split
  · exact hr
  · refine kept_ite (kept_endBg hr) ?_
    refine kept_ite (kept_waitFor hr) ?_
    dsimp only
    split
    · exact kept_endBg (kept_memUncorr (kept_readMeets (kept_goOn hr)))
    · exact kept_checkWeave (kept_ite (kept_withWcp (kept_readMeets (kept_goOn hr))) (kept_readMeets (kept_goOn hr)))

theorem kept_keepShown (hr : Kept s₀ s) : Kept s₀ (keepShown s) := hr

theorem kept_emptyMangle (hr : Kept s₀ s) : Kept s₀ (emptyMangle s) :=
  kept_lateDrop (kept_withMangle (kept_foldl (fun _ _ hr => kept_closeEarly hr) hr))

theorem kept_dismantle (hr : Kept s₀ s) : Kept s₀ (dismantle s) := by
  unfold dismantle
  extract_lets s1 s2
  have h_s2 : Kept s₀ s2 :=
    kept_discardPending (kept_emptyMangle (kept_foldl (fun _ _ hr => kept_resetStations (kept_haltCore hr)) hr))
  exact h_s2

theorem goes_execDismantleDone (hr : Kept s₀ s) : Goes s₀ (execDismantleDone s) := by
  unfold execDismantleDone
  refine goes_next ?_
  split
  · exact kept_foldl (fun _ _ hr => kept_setMgmt (kept_setDom hr)) (kept_dismantle hr)
  · exact hr

theorem kept_activationFails (hr : Kept s₀ s) : Kept s₀ (activationFails s) :=
  kept_ite hr (kept_endBg (kept_weaveRefused (kept_setDev (kept_csrPut (kept_csrPut hr)))))

theorem goes_execActivationClearDone (hr : Kept s₀ s) : Goes s₀ (execActivationClearDone s) :=
  goes_next (kept_ite hr ⟨hr.1, fun h => memWf_memZero _ _ _ (memWf_memZero _ _ _ (hr.2 h))⟩)

theorem kept_installCore {w c} (hr : Kept s₀ s) : Kept s₀ (installCore s w c) := by
  unfold installCore
  dsimp only
  split
  · exact kept_ite (kept_setCore hr) hr
  · exact kept_setCore (kept_memPut hr)

theorem kept_installGroup {w} (hr : Kept s₀ s) : Kept s₀ (installGroup s w) := by
  unfold installGroup
  split
  · exact kept_announceIds hr
  · exact hr

theorem kept_installPru {w} (hr : Kept s₀ s) : Kept s₀ (installPru s w) := by
  unfold installPru
  split
  · exact kept_csrPut (kept_csrPut (kept_csrPut (kept_csrPut (kept_csrPut hr))))
  · exact hr

theorem kept_installRules {w} (hr : Kept s₀ s) : Kept s₀ (installRules s w) := kept_csrPut (kept_installPru hr)

theorem kept_resetScales (hr : Kept s₀ s) : Kept s₀ (resetScales s) := kept_withMangle hr

theorem kept_install {w} (hr : Kept s₀ s) : Kept s₀ (install s w) :=
  kept_installGroup (kept_resetScales (kept_applyPreset (kept_installRules
      (kept_foldl (fun _ _ hr => kept_memPut hr) (kept_foldl (fun _ _ hr => kept_installCore hr) hr)))))

theorem goes_execActivationInstallDone (hr : Kept s₀ s) : Goes s₀ (execActivationInstallDone s) := by
  unfold execActivationInstallDone
  refine goes_next ?_
  split
  · exact kept_install hr
  · exact hr

theorem goes_execActivationPublish (hr : Kept s₀ s) : Goes s₀ (execActivationPublish s) := by
  unfold execActivationPublish
  refine goes_next ?_
  split
  · extract_lets s1 score s2 s3 s4 s5
    have h_s3 : Kept s₀ s3 := kept_setDev hr
    have h_s4 : Kept s₀ s4 := kept_foldl (fun _ _ hr => kept_startCore hr) h_s3
    exact kept_endBg (kept_ite (kept_foldl (fun _ _ hr => kept_setMgmt hr) h_s4) h_s4)
  · exact hr

/-! ### What the operations of Machine/Power keep -/

theorem kept_withPower {f} (hr : Kept s₀ s) : Kept s₀ (s.withPower f) := hr

theorem kept_tellClosed {old} (hr : Kept s₀ s) : Kept s₀ (tellClosed s old) :=
  kept_foldl (fun _ _ hr => kept_raise hr) (kept_foldl (fun _ _ hr => kept_raise hr) hr)

theorem kept_resetBy {cause stage keepLow} (hr : Kept s₀ s) : Kept s₀ (resetBy s cause stage keepLow) :=
  kept_tellClosed (kept_csrPutBits (kept_deviceReset hr))

theorem kept_noteVin {mv} (hr : Kept s₀ s) : Kept s₀ (noteVin s mv) := kept_csrPutBits (kept_withPower hr)

theorem kept_noteDeepest {n} (hr : Kept s₀ s) : Kept s₀ (noteDeepest s n) := kept_csrPutBits hr

theorem kept_shedPort {p} (hr : Kept s₀ s) : Kept s₀ (shedPort s p) :=
  kept_foldl (fun _ _ hr => kept_ite (kept_sendPfc (kept_setPort hr)) hr) hr

theorem kept_unshedPort {p} (hr : Kept s₀ s) : Kept s₀ (unshedPort s p) :=
  kept_foldl (fun _ _ hr => kept_ite (kept_sendPfc (kept_setPort hr)) hr) hr

theorem kept_shedAct {n} (hr : Kept s₀ s) : Kept s₀ (shedAct s n) := by
  unfold shedAct
  split
  · exact kept_foldl (fun _ _ hr => kept_shedPort hr) hr
  · exact kept_foldl (fun _ _ hr => kept_shedLanes hr) hr
  · exact kept_sideDown (kept_sideDown hr)
  · exact hr

theorem kept_enterLevel {mv n} (hr : Kept s₀ s) : Kept s₀ (enterLevel mv s n) :=
  kept_settleDoms (kept_bump (kept_raise (kept_shedAct (kept_noteDeepest (kept_withPower hr)))))

theorem kept_unshedAct {n} (hr : Kept s₀ s) : Kept s₀ (unshedAct s n) := by
  unfold unshedAct
  split
  · exact kept_foldl (fun _ _ hr => kept_unshedPort hr) hr
  · exact kept_foldl (fun _ _ hr => kept_ite hr (kept_unshedLanes hr)) hr
  · exact hr

theorem kept_junctionShutdown {pair} (hr : Kept s₀ s) : Kept s₀ (junctionShutdown s pair) := by
  have hdown : ∀ {u : State} {r : EventRec}, Kept s₀ u →
      Kept s₀ ((List.range 8).foldl portDown (domsOffBut (logRec u r) [])) :=
    fun hu => kept_foldl (fun _ _ hr => kept_portDown hr) (kept_domsOffBut (kept_logRec hu))
  have hclear : ∀ {u : State} {ports mend}, Kept s₀ u →
      Kept s₀ { u with
        dev := .fenced, act := .none, inStep := false, mem := [], bad := [], inbox := [], ports := ports, mend := mend } :=
    fun hu => ⟨hu.1, fun _ => memWf_nil⟩
  exact kept_failLow (kept_withPower (kept_withErr (hclear (hdown hr))))

theorem kept_adjustJunction {g a b} (hr : Kept s₀ s) : Kept s₀ (adjustJunction s g a b) :=
  kept_ite (kept_bump (kept_ite (kept_withPower hr) (kept_raise (kept_withPower hr))))
      (kept_ite (kept_withPower hr) (kept_raise (kept_withPower hr)))

theorem kept_grantCap {other clusters} (hr : Kept s₀ s) : Kept s₀ (grantCap s other clusters) :=
  kept_foldl (fun _ _ hr => kept_raise hr) (kept_ite (kept_csrPutBits (kept_csrPut (kept_withPower hr)))
      (kept_bump (kept_csrPutBits (kept_csrPut (kept_withPower hr)))))

theorem kept_pmbusFault (hr : Kept s₀ s) : Kept s₀ (pmbusFault s) := kept_bump (kept_raise hr)

theorem goes_execPmbusPoll {page reading} (hr : Kept s₀ s) : Goes s₀ (execPmbusPoll page reading s) := by
  unfold execPmbusPoll
  refine goes_next ?_
  refine kept_ite hr ?_
  split
  · exact kept_ite (kept_pmbusFault (kept_csrPut hr)) (kept_csrPut hr)
  · exact kept_pmbusFault (kept_csrPut hr)

theorem kept_trainStack {d} (hr : Kept s₀ s) : Kept s₀ (trainStack s d) := kept_ite (kept_ite hr (kept_setStack hr)) hr

theorem kept_startEngine {d} (hr : Kept s₀ s) : Kept s₀ (startEngine s d) := kept_ite (kept_setOe hr) hr

theorem kept_holdCores {d} (hr : Kept s₀ s) : Kept s₀ (holdCores s d) :=
  kept_ite (kept_foldl (fun _ _ hr => kept_setCore hr) hr) hr

theorem goes_execDomainEntryDone {d} (hr : Kept s₀ s) : Goes s₀ (execDomainEntryDone d s) := by
  unfold execDomainEntryDone
  refine goes_next ?_
  split
  · exact hr
  · exact kept_ite (kept_retrainLinks (kept_settleDom (kept_loseDomain (kept_setDom (kept_ite (kept_darkLinks hr) hr)))))
        (kept_settleDom (kept_setDom (kept_ite (kept_darkLinks hr) hr)))

theorem kept_loseWeights {g} (hr : Kept s₀ s) : Kept s₀ (loseWeights s g) := hr

/-! ### What the operations of Machine/Boot keep -/

theorem kept_withoutSupply {p} (hr : Kept s₀ s) : Kept s₀ (withoutSupply s p) := ⟨hr.1, fun _ => memWf_nil⟩

theorem kept_setBoot {b} (hr : Kept s₀ s) : Kept s₀ (setBoot s b) := kept_withPower hr

theorem kept_operationOn (hr : Kept s₀ s) : Kept s₀ (operationOn s) := kept_foldl (fun _ _ hr => kept_emit hr) hr

theorem kept_releaseFail (hr : Kept s₀ s) : Kept s₀ (releaseFail s) := kept_ite (kept_emit (kept_withPower hr)) hr

theorem goes_execHbmTempRead {stack reading} (hr : Kept s₀ s) : Goes s₀ (execHbmTempRead stack reading s) := by
  unfold execHbmTempRead
  extract_lets +onlyGivenNames temp
  exact goes_next (kept_ite hr (kept_ite (kept_setStack (kept_csrPutBits hr))
      (kept_ite (kept_raise (kept_setStack (kept_csrPutBits hr))) (kept_ite (kept_setStack (kept_csrPutBits hr))
      (kept_raise (kept_setStack (kept_csrPutBits hr)))))))

theorem kept_handlerLost {info} (hr : Kept s₀ s) : Kept s₀ (handlerLost s info) := by
  unfold handlerLost
  split
  · exact kept_raise (kept_notifyEvent (kept_withErr hr))
  · exact hr

theorem kept_storageFault {a} (hr : Kept s₀ s) : Kept s₀ (storageFault s a) :=
  kept_ite (kept_handlerLost (kept_countUe hr)) (kept_raise (kept_countUe hr))

theorem kept_scrubBad {a} (hr : Kept s₀ s) : Kept s₀ (scrubBad s a) :=
  kept_ite hr (kept_ite (kept_storageFault (kept_meetUpset hr)) (kept_memUncorr (kept_meetUpset hr)))

theorem kept_scrubMeets {u} (hr : Kept s₀ s) : Kept s₀ (scrubMeets s u) := by
  unfold scrubMeets
  refine kept_ite hr ?_
  split
  · exact kept_scrubBad hr
  · exact kept_meetUpset hr

/-! ### What the operations of Machine/CoreExec keep -/

theorem kept_park {c t st b} (hr : Kept s₀ s) : Kept s₀ (park s c t st b) :=
  kept_ite (kept_switchOut hr) (kept_setThread hr)

theorem kept_sendMiss {c t a n} (hr : Kept s₀ s) : Kept s₀ (sendMiss s c t a n) := kept_ite hr (kept_waitFor hr)

theorem kept_doLoad {s0 c t pc bytes signed gd a} (hr : Kept s₀ s0) : Kept s₀ (doLoad s0 c t pc bytes signed gd a) := by
  unfold doLoad
  split
  · exact kept_ite (kept_setThread (kept_ite hr (kept_cacheMeets hr)))
        (kept_ite (kept_park (kept_ite hr (kept_cacheMeets hr))) (kept_ite
        (kept_memUncorrBy (kept_park (kept_readMeets (kept_ite hr (kept_cacheMeets hr)))))
        (kept_ite (kept_park (kept_sendMiss (kept_readMeets (kept_ite hr (kept_cacheMeets hr)))))
        (kept_setThread (kept_readMeets (kept_ite hr (kept_cacheMeets hr)))))))
  · exact kept_coreExc hr

theorem kept_storePut {c a bs} (hr : Kept s₀ s) : Kept s₀ (storePut s c a bs) := by
  unfold storePut
  extract_lets s1 core s2
  have h_s2 : Kept s₀ s2 := kept_agentWrite hr
  split
  · exact h_s2
  · exact h_s2

theorem kept_doStore {c t pc bytes v a} (hr : Kept s₀ s) : Kept s₀ (doStore s c t pc bytes v a) := by
  unfold doStore
  split
  · exact kept_ite (kept_park (kept_waitFor (kept_storePut hr))) (kept_storePut hr)
  · exact kept_coreExc hr

theorem kept_doAadd {c t pc gd v a} (hr : Kept s₀ s) : Kept s₀ (doAadd s c t pc gd v a) := by
  unfold doAadd
  split
  · exact kept_ite (kept_setThread (kept_agentWrite (kept_readMeets hr))) (kept_memUncorrBy (kept_park (kept_readMeets hr)))
  · exact kept_coreExc hr

theorem kept_doJalr {c t pc gd a} (hr : Kept s₀ s) : Kept s₀ (doJalr s c t pc gd a) :=
  kept_ite (kept_coreExc hr) (kept_ite (kept_coreExc hr) (kept_ite (kept_switchOut (kept_setThread (kept_traceTarget hr)))
      (kept_setThread (kept_traceTarget hr))))

theorem kept_doTissue {c t pc w stn idx} (hr : Kept s₀ s) : Kept s₀ (doTissue s c t pc w stn idx) :=
  kept_ite (kept_ite (kept_park hr) (kept_enqueueWork hr)) (kept_coreExc hr)

theorem kept_doSissue {s0 c t pc a stn idx} (hr : Kept s₀ s0) : Kept s₀ (doSissue s0 c t pc a stn idx) := by
  unfold doSissue
  extract_lets +onlyGivenNames own s
  have h_s : Kept s₀ s := kept_ite (kept_readMeets hr) hr
  exact kept_ite (kept_memUncorrBy (kept_park h_s)) (kept_ite (kept_ite (kept_park h_s)
      (kept_beginPart (kept_enqueueWork h_s))) (kept_coreExc h_s))

theorem kept_twaitDone {c t gd kind idx v} (hr : Kept s₀ s) : Kept s₀ (twaitDone s c t gd kind idx v) :=
  kept_setThread (kept_ite (kept_setCore hr) hr)

theorem kept_doTwait {c t pc gd kind idx side n} (hr : Kept s₀ s) : Kept s₀ (doTwait s c t pc gd kind idx side n) := by
  unfold doTwait
  split
  · exact kept_coreExc hr
  · exact kept_twaitDone hr
  · exact kept_park hr

theorem kept_serveTwait {d idx t} (hr : Kept s₀ s) : Kept s₀ (serveTwait d idx s t) := by
  unfold serveTwait
  split
  · exact kept_ite (kept_releaseThread (kept_twaitDone hr)) hr
  · exact hr

theorem kept_doTsig {c t pc core counter n} (hr : Kept s₀ s) : Kept s₀ (doTsig s c t pc core counter n) :=
  kept_ite (kept_coreExc hr) (kept_coreEvent (kept_foldl (fun _ _ hr => kept_serveTwait hr) (kept_setCore hr)))

theorem kept_doKopen {c t gd v} (hr : Kept s₀ s) : Kept s₀ (doKopen s c t gd v) := kept_setThread (kept_openKey hr)

theorem kept_forgetKey {k c} (hr : Kept s₀ s) : Kept s₀ (forgetKey k s c) := kept_setCore hr

theorem kept_doKclose {c v} (hr : Kept s₀ s) : Kept s₀ (doKclose s c v) :=
  kept_ite (kept_foldl (fun _ _ hr => kept_forgetKey hr) (kept_retireKey hr)) hr

theorem kept_doFence {c t mask} (hr : Kept s₀ s) : Kept s₀ (doFence s c t mask) := kept_ite hr (kept_park hr)

theorem kept_doWait {c t mask} (hr : Kept s₀ s) : Kept s₀ (doWait s c t mask) :=
  kept_ite (kept_retainCluster (kept_park hr)) (kept_setThread hr)

theorem kept_doCsrr {c t pc gd space off} (hr : Kept s₀ s) : Kept s₀ (doCsrr s c t pc gd space off) := by
  unfold doCsrr
  split
  · exact kept_coreExc hr
  · exact kept_setThread (kept_csrRead hr)

theorem kept_doCsrw {c t pc v space off} (hr : Kept s₀ s) : Kept s₀ (doCsrw s c t pc v space off) :=
  kept_ite (kept_coreExc hr) (kept_coreWrite hr)

theorem kept_doTrace {c t pc v action} (hr : Kept s₀ s) : Kept s₀ (doTrace s c t pc v action) := by
  unfold doTrace
  split
  · exact kept_traceMark hr
  · exact kept_traceStart (kept_csrPutBits hr)
  · exact kept_csrPutBits (kept_traceTnt hr)

theorem kept_performOp {c t pc x4} (hr : Kept s₀ s) : Kept s₀ (performOp s c t pc x4) := by
  unfold performOp
  split
  · exact kept_doLoad hr
  · exact kept_doStore hr
  · exact kept_doAadd hr
  · exact kept_doJalr hr
  · exact kept_doTissue hr
  · exact kept_doSissue hr
  · exact kept_doTwait hr
  · exact kept_doTsig hr
  · exact kept_doKopen hr
  · exact kept_doKclose hr
  · exact kept_doFence hr
  · exact kept_doWait hr
  · exact kept_doCsrr hr
  · exact kept_doCsrw hr
  · exact kept_doTrace hr
  · exact kept_retainCluster (kept_stopThread hr)
  · exact kept_coreExc hr

theorem kept_settlePc {c t pc regs} (hr : Kept s₀ s) : Kept s₀ (settlePc s c t pc regs) := kept_ite (kept_setThread hr) hr

theorem kept_issueOp {c t op} (hr : Kept s₀ s) : Kept s₀ (issueOp s c t op) := by
  unfold issueOp
  refine kept_ite (kept_settlePc (kept_performOp (kept_setThread hr))) ?_
  refine kept_ite (kept_switchOut hr) ?_
  dsimp only
  split
  · exact kept_switchOut (kept_setThread hr)
  · exact kept_setThread hr

theorem kept_drainN {c t fuel} (hr : Kept s₀ s) : Kept s₀ (drainN s c t fuel) := by
  induction fuel generalizing s with
  | zero => exact hr
  | succ fuel ih =>
    unfold drainN
    simp only
    split
    · exact hr
    · split
      · exact hr
      · exact ih (kept_settlePc (kept_performOp (kept_setThread hr)))

theorem kept_drainBuffer {c t} (hr : Kept s₀ s) : Kept s₀ (drainBuffer s c t) :=
  kept_ite (kept_makeReady (kept_drainN hr)) (kept_drainN hr)

theorem kept_resumeThread {c t} (hr : Kept s₀ s) : Kept s₀ (resumeThread s c t) :=
  kept_drainBuffer (kept_releaseThread hr)

theorem kept_issueReg {s0 c t uses f} (hr : Kept s₀ s0) : Kept s₀ (issueReg s0 c t uses f) :=
  kept_ite (kept_drainBuffer hr) (kept_setThread (kept_drainBuffer hr))

theorem kept_issueAlu {c t gd uses legal v} (hr : Kept s₀ s) : Kept s₀ (issueAlu s c t gd uses legal v) :=
  kept_ite (kept_issueReg hr) (kept_ite (kept_issueOp (kept_drainBuffer hr)) (kept_drainBuffer hr))

theorem kept_issueOther {s0 c t uses legal op} (hr : Kept s₀ s0) : Kept s₀ (issueOther s0 c t uses legal op) :=
  kept_ite (kept_drainBuffer hr) (kept_issueOp (kept_drainBuffer hr))

theorem kept_issueBranch {s0 c t kind ga gb off} (hr : Kept s₀ s0) : Kept s₀ (issueBranch s0 c t kind ga gb off) :=
  kept_ite (kept_drainBuffer hr) (kept_setThread (kept_drainBuffer hr))

theorem kept_resolveBranch {c t b rest} (hr : Kept s₀ s) : Kept s₀ (resolveBranch s c t b rest) :=
  kept_ite (kept_drainBuffer (kept_traceOutcome (kept_setThread (kept_setCore hr))))
      (kept_drainBuffer (kept_traceOutcome (kept_bump (kept_setThread (kept_setCore hr)))))

/-! ### What the operations of Machine/ControlEvents keep -/

theorem goes_execBranchResolve {core thread} (hr : Kept s₀ s) : Goes s₀ (execBranchResolve core thread s) := by
  unfold execBranchResolve
  refine goes_next ?_
  split
  · exact hr
  · exact kept_ite (kept_resolveBranch hr) hr

theorem goes_execThreadQuantumExpire {core} (hr : Kept s₀ s) : Goes s₀ (execThreadQuantumExpire core s) := by
  unfold execThreadQuantumExpire
  refine goes_next ?_
  split
  · exact kept_ite (kept_switchOut hr) hr
  · exact hr

theorem kept_badLine {c t a} (hr : Kept s₀ s) : Kept s₀ (badLine s c t a) :=
  kept_ite (kept_memCorrected (kept_forgetLines hr)) (kept_memUncorrBy (kept_setThread (kept_meetUpset hr)))

theorem goes_execMissComplete {core thread bad s0} (hr : Kept s₀ s0) : Goes s₀ (execMissComplete core thread bad s0) := by
  unfold execMissComplete
  extract_lets +onlyGivenNames x s
  have h_s : Kept s₀ s := by
    unfold s
    split
    · exact kept_ite (kept_cacheMeets hr) hr
    · exact hr
  refine goes_next ?_
  refine kept_ite h_s ?_
  split
  · exact kept_ite (kept_badLine h_s) (kept_ite (kept_waitFor h_s) (kept_resumeThread
        (kept_setThread (kept_ite (kept_fillCaches (kept_ite h_s (kept_goOn h_s))) (kept_ite h_s (kept_goOn h_s))))))
  · exact kept_ite (kept_coreExc (kept_memUncorr h_s)) (kept_switchOut h_s)
  · exact h_s

theorem goes_execTwaitSatisfied {core thread} (hr : Kept s₀ s) : Goes s₀ (execTwaitSatisfied core thread s) := by
  unfold execTwaitSatisfied
  refine goes_next ?_
  split
  · split
    · exact kept_ite hr (kept_resumeThread (kept_twaitDone hr))
    · exact hr
  · exact hr

theorem goes_execFenceComplete {core thread} (hr : Kept s₀ s) : Goes s₀ (execFenceComplete core thread s) := by
  unfold execFenceComplete
  refine goes_next ?_
  split
  · exact kept_ite (kept_resumeThread hr) hr
  · exact hr

theorem kept_retryIssue {stn core t} (hr : Kept s₀ s) : Kept s₀ (retryIssue stn core s t) := by
  unfold retryIssue
  dsimp only
  split
  · exact kept_ite (kept_ite (kept_resumeThread (kept_settlePc (kept_performOp (kept_setThread hr))))
        (kept_settlePc (kept_performOp (kept_setThread hr)))) hr
  · exact hr

/-! ### What the operations of Machine/WaitGraph keep -/

theorem kept_queryRanks {w es} (hr : Kept s₀ s) : Kept s₀ (queryRanks s w es).1 :=
  kept_foldl_fst (fun _ _ hr => kept_ite_fst hr (kept_sendFrame hr)) hr

/-! ### What the operations of Machine/Errors keep -/

theorem kept_writeDump {d} (hr : Kept s₀ s) : Kept s₀ (writeDump s d) :=
  kept_ite (kept_ite (kept_csrPutBits (kept_bump16 (kept_agentWrite hr))) (kept_bump16 (kept_agentWrite hr)))
      (kept_csrPutBits hr)

theorem kept_thaw (hr : Kept s₀ s) : Kept s₀ (thaw s) := kept_withErr hr

theorem kept_takeHandler {n} (hr : Kept s₀ s) : Kept s₀ (takeHandler s n) := by
  unfold takeHandler
  split
  · exact hr
  · exact kept_withErr hr

theorem kept_nextHandler (hr : Kept s₀ s) : Kept s₀ (nextHandler s) := by
  unfold nextHandler
  split
  · exact kept_ite (kept_takeHandler hr) (kept_withErr hr)
  · exact kept_withErr hr
  · exact kept_takeHandler hr
  · exact hr

theorem goes_execHandlerYield (hr : Kept s₀ s) : Goes s₀ (execHandlerYield s) := by
  unfold execHandlerYield
  refine goes_next ?_
  split
  · exact kept_ite (kept_deepTrace (kept_takeHandler (kept_withErr hr))) hr
  · exact hr

theorem kept_haltClass1 (hr : Kept s₀ s) : Kept s₀ (haltClass1 s) :=
  kept_foldl (fun _ _ hr => kept_resetStations (kept_haltCore hr)) hr

theorem kept_resetOne {c n} (hr : Kept s₀ s) : Kept s₀ (resetOne s c n) := kept_endStnReset (kept_startStnReset hr)

theorem kept_resetSource {kind n} (hr : Kept s₀ s) : Kept s₀ (resetSource s kind n) :=
  kept_ite (kept_resetStations hr) (kept_ite (kept_resetOne hr) (kept_ite
      (kept_foldl (fun _ _ hr => kept_resetStations hr) hr) hr))

theorem kept_stepHandled {r} (hr : Kept s₀ s) : Kept s₀ (stepHandled s r) :=
  kept_ite (kept_ite (kept_dropMicroBatch (kept_haltClass1 hr)) (kept_dropMicroBatch (kept_haltClass1 hr)))
      (kept_resetSource hr)

theorem kept_endHandler {r} (hr : Kept s₀ s) : Kept s₀ (endHandler s r) := by
  unfold endHandler
  dsimp only
  split
  · exact kept_notifyEvent (kept_logRec (kept_withErr hr))
  · exact kept_nextHandler (kept_notifyEvent (kept_logRec (kept_withErr hr)))

theorem goes_execHandlerDone (hr : Kept s₀ s) : Goes s₀ (execHandlerDone s) := by
  unfold execHandlerDone
  refine goes_next ?_
  split
  · exact hr
  · refine kept_ite hr ?_
    refine kept_ite ?_ (kept_endHandler (kept_deepTrace hr))
    dsimp only
    split
    · exact kept_withErr (kept_deepTrace (kept_stepHandled hr))
    · exact kept_endHandler (kept_thaw (kept_deepTrace (kept_stepHandled hr)))

theorem goes_execHandlerFault {bad} (hr : Kept s₀ s) : Goes s₀ (execHandlerFault bad s) := by
  unfold execHandlerFault
  refine goes_next ?_
  split
  · exact kept_ite (kept_storageFault (kept_deepTrace hr)) hr
  · split
    · exact hr
    · exact kept_handlerLost (kept_deepTrace hr)

/-- `endAuto` is unfolded under a binder: a goal with its body written out makes the kernel evaluate what the dump wrote. -/
theorem kept_endAuto {d} (hr : Kept s₀ s) : Kept s₀ (endAuto s d) := by
  have hdump : ∀ {u : State}, Kept s₀ u → Kept s₀ (thaw (u.withErr (fun e => { e with dump := none }))) :=
    fun hu => kept_thaw hu
  have hend : ∀ f, f = endAuto → Kept s₀ (f s d) := by
    intro f hf
    delta endAuto at hf
    subst hf
    beta_reduce
    extract_lets s1
    have h_s1 : Kept s₀ s1 := hdump (kept_writeDump hr)
    clear_value s1
    split
    · exact kept_ite (kept_endHandler h_s1) h_s1
    · exact h_s1
  exact hend endAuto rfl

theorem goes_execLintDumpDone (hr : Kept s₀ s) : Goes s₀ (execLintDumpDone s) := by
  unfold execLintDumpDone
  refine goes_next ?_
  refine kept_ite hr ?_
  split
  · exact kept_ite hr (kept_ite (kept_waitFor hr) (kept_endAuto (kept_goOn hr)))
  · exact kept_ite (kept_waitFor hr) (kept_thaw (kept_endBg (kept_writeDump (kept_goOn hr))))
  · exact hr

theorem kept_atStage {st f} (hr : Kept s₀ s) (hf : ∀ x0, Kept s₀ x0 → Kept s₀ (f x0)) : Kept s₀ (atStage s st f) :=
  kept_ite (hf _ hr) hr

theorem kept_stage {st} (hr : Kept s₀ s) : Kept s₀ (stage s st) := kept_withErr hr

theorem kept_sendDeparts (hr : Kept s₀ s) : Kept s₀ (sendDeparts s) := by
  unfold sendDeparts
  split
  · exact hr
  · exact kept_foldl (fun _ _ hr => kept_foldl (fun _ _ hr => kept_queueOn hr) hr) hr

theorem goes_execFenceStageDone (hr : Kept s₀ s) : Goes s₀ (execFenceStageDone s) := by
  have hidle : ∀ {u : State}, Kept s₀ u → Kept s₀ { u with act := .none, installing := none, inStep := false } :=
    fun hu => hu
  unfold execFenceStageDone
  refine goes_next (kept_atStage ?_ ?_)
  · exact hr
  · intro _ hr
    extract_lets s1 s2
    have h_s1 : Kept s₀ s1 := kept_setDev (kept_failLow (hidle hr))
    refine kept_stage ?_
    unfold s2
    split
    · exact kept_notifyEvent (kept_notifyAll h_s1)
    · exact h_s1

theorem goes_execFenceLintDone (hr : Kept s₀ s) : Goes s₀ (execFenceLintDone s) := by
  unfold execFenceLintDone
  refine goes_next (kept_atStage ?_ ?_)
  · exact hr
  · intro u hr
    refine kept_thaw (kept_stage (kept_withErr ?_))
    split
    · exact kept_ite hr (kept_ite hr (kept_writeDump (kept_goOn hr)))
    · exact hr

theorem goes_execFencePowerDone (hr : Kept s₀ s) : Goes s₀ (execFencePowerDone s) := by
  unfold execFencePowerDone
  refine goes_next ?_
  refine kept_atStage ?_ ?_
  · exact hr
  · intro _ hr
    refine kept_ite ?_ hr
    dsimp only
    split
    · refine kept_nextHandler ?_
      refine kept_withErr ?_
      split
      · exact kept_logRec hr
      · exact hr
    · refine kept_withErr ?_
      split
      · exact kept_logRec hr
      · exact hr

theorem kept_beginGraph {req} (hr : Kept s₀ s) : Kept s₀ (beginGraph s req).1 :=
  kept_ite_fst (kept_queryRanks (kept_useFree hr)) (kept_useFree hr)

theorem kept_endGraph {w} (hr : Kept s₀ s) : Kept s₀ (endGraph s w) := by
  unfold endGraph
  dsimp only
  split
  · exact kept_respond (kept_withErr hr)
  · exact kept_withErr (kept_withErr hr)

theorem kept_settleGraph {w} (hr : Kept s₀ s) : Kept s₀ (settleGraph s w) := kept_ite (kept_endGraph hr) (kept_withErr hr)

theorem goes_execWaitfor {q} (hr : Kept s₀ s) : Goes s₀ (execWaitfor q s) := by
  unfold execWaitfor
  refine goes_next ?_
  refine kept_wcpRow ?_ ?_
  · intro _ _ hr
    split
    · exact kept_endGraph (kept_withErr hr)
    · exact kept_settleGraph (kept_beginGraph hr)
  · exact hr

theorem goes_execWfgReplyRx {src edges} (hr : Kept s₀ s) : Goes s₀ (execWfgReplyRx src edges s) := by
  unfold execWfgReplyRx
  refine goes_next ?_
  dsimp only
  split
  · exact kept_takeInbox hr
  · exact kept_ite (kept_settleGraph (kept_queryRanks (kept_takeInbox hr))) (kept_takeInbox hr)

theorem goes_execWfgQueryTimeout {rank} (hr : Kept s₀ s) : Goes s₀ (execWfgQueryTimeout rank s) := by
  unfold execWfgQueryTimeout
  refine goes_next ?_
  split
  · exact hr
  · exact kept_ite (kept_settleGraph hr) hr

end Sys2Proof.Machine
end

section
open Sys2Proof
namespace Sys2Proof.Machine

variable {s₀ s : State}

/-! ### What the operations of Machine/Mend keep -/

theorem kept_withTable {f} (hr : Kept s₀ s) (hf : ∀ x0, Kept s₀ (f x0)) : Kept s₀ (withTable s f) := by
  unfold withTable
  split
  · exact hf _
  · exact hr

theorem kept_takeMend {h} (hr : Kept s₀ s) : Kept s₀ (takeMend s h) := hr

theorem goes_execSuspectRx {h} (hr : Kept s₀ s) : Goes s₀ (execSuspectRx h s) := by
  unfold execSuspectRx
  extract_lets +onlyGivenNames s1
  have h_s1 : Kept s₀ s1 := kept_takeMend hr
  refine goes_next ?_
  refine kept_withTable ?_ ?_
  · exact h_s1
  · intro _
    dsimp only
    split
    · exact kept_bump h_s1
    · exact kept_ite (kept_ite (kept_bump h_s1) (kept_sendMend (kept_bump h_s1)))
          (kept_ite (kept_runKeeperFail (kept_bump h_s1)) (kept_ite (kept_probeRank (kept_bump h_s1)) (kept_bump h_s1)))

theorem goes_execSuspectResend {rank} (hr : Kept s₀ s) : Goes s₀ (execSuspectResend rank s) := by
  unfold execSuspectResend
  refine goes_next ?_
  refine kept_withTable ?_ ?_
  · exact hr
  · intro _
    refine kept_ite ?_ hr
    split
    · exact kept_sendMend hr
    · exact hr

theorem kept_endAll {xs status} (hr : Kept s₀ s) : Kept s₀ (endAll s xs status) :=
  kept_foldl (fun _ _ hr => kept_endDeferred hr) hr

theorem goes_execProbeAckRx {h} (hr : Kept s₀ s) : Goes s₀ (execProbeAckRx h s) := by
  unfold execProbeAckRx
  extract_lets +onlyGivenNames s1
  have h_s1 : Kept s₀ s1 := kept_takeMend hr
  refine goes_next ?_
  refine kept_withTable ?_ ?_
  · exact h_s1
  · intro _
    refine kept_ite ?_ h_s1
    dsimp only
    split
    · exact kept_coverAssign (kept_endAll (kept_ite (kept_issueNotice (kept_withMend h_s1)) (kept_withMend h_s1)))
    · exact kept_withMend h_s1

theorem goes_execProbeTimeout {rank} (hr : Kept s₀ s) : Goes s₀ (execProbeTimeout rank s) := by
  unfold execProbeTimeout
  refine goes_next ?_
  refine kept_ite ?_ hr
  dsimp only
  split
  · exact kept_endAll (kept_bump (kept_withMend hr))
  · exact kept_runKeeperFail (kept_bump (kept_withMend hr))

theorem kept_undoNotice {t b m n} (hr : Kept s₀ s) : Kept s₀ (undoNotice s t b m n) := by
  unfold undoNotice
  extract_lets back same t1 gone s1 s2
  have h_s2 : Kept s₀ s2 := hr
  exact kept_ite h_s2 (kept_announceIds h_s2)

theorem kept_noticeConflict {t n mine} (hr : Kept s₀ s) : Kept s₀ (noticeConflict s t n mine) := by
  unfold noticeConflict
  split
  · exact hr
  · exact kept_ite (kept_ackNotice (kept_withMend (kept_adoptNotice (kept_undoNotice
        (kept_ite (kept_withMend (kept_raise (kept_bump hr))) (kept_raise (kept_bump hr))))))) (kept_bump hr)

theorem goes_execNoticeRx {h n} (hr : Kept s₀ s) : Goes s₀ (execNoticeRx h n s) := by
  unfold execNoticeRx
  extract_lets +onlyGivenNames s1
  have h_s1 : Kept s₀ s1 := kept_takeMend hr
  exact goes_next (kept_withTable h_s1 (fun _ => kept_ite (kept_adoptHeld (kept_ackNotice (kept_adoptNotice h_s1)))
      (kept_ite (kept_ite h_s1 (kept_withMend h_s1)) (kept_ite (kept_ackNotice h_s1)
      (kept_ite (kept_noticeConflict h_s1) h_s1)))))

theorem kept_showDigest {d} (hr : Kept s₀ s) : Kept s₀ (showDigest s d) := kept_csrPut (kept_csrPut hr)

theorem kept_compareDigests {owner mine theirs} (hr : Kept s₀ s) : Kept s₀ (compareDigests s owner mine theirs) :=
  kept_ite (kept_bump (kept_withMend hr)) (kept_copyInvalid (kept_raise (kept_bump (kept_bump (kept_withMend hr)))))

theorem kept_areaErrors {a n s1} (hr : Kept s₀ s) (h : areaErrors s a n = some s1) : Kept s₀ s1 := by
  unfold areaErrors at h
  split at h
  · exact Option.some.inj h ▸ kept_mangleDenied hr
  · split at h
    · cases h
    · exact Option.some.inj h ▸ kept_foldl (fun _ _ hr => kept_memUncorr hr) hr

theorem kept_checkCopy {t k} (hr : Kept s₀ s) : Kept s₀ (checkCopy s t k) := by
  have hshown : ∀ {c}, Kept s₀ (showDigest (if s.mend.ownDigest.isSome then bump s O.mendCntCheckLost else s) c) :=
    kept_showDigest (kept_ite (kept_bump hr) hr)
  unfold checkCopy
  split
  · exact hr
  · split
    next s1 herr => exact kept_areaErrors hr herr
    · simp only
      split
      · exact kept_ite (kept_compareDigests hshown) (kept_withMend hshown)
      · exact kept_withMend hshown

theorem goes_execDigestCheck (hr : Kept s₀ s) : Goes s₀ (execDigestCheck s) := by
  unfold execDigestCheck
  refine goes_next (kept_withTable hr ?_)
  intro g
  split
  · extract_lets rs waits s0 s1 d
    refine kept_ite hr (kept_ite (kept_foldl (fun _ _ hr => kept_waitFor hr) hr) ?_)
    have h_s1 : Kept s₀ s1 := kept_checkCopy (kept_foldl (fun _ _ hr => kept_readMeets (kept_goOn hr)) hr)
    cases h : areaErrors s1 g.shardBase g.areaBytes with
    | some s2 => exact kept_areaErrors h_s1 h
    | none => exact kept_sendMend (kept_showDigest h_s1)
  · exact hr

theorem goes_execDigestRx {h digest} (hr : Kept s₀ s) : Goes s₀ (execDigestRx h digest s) := by
  unfold execDigestRx
  extract_lets +onlyGivenNames s1 holds
  have h_s1 : Kept s₀ s1 := kept_takeMend hr
  have h_holds : Kept s₀ holds := kept_withMend h_s1
  refine goes_next ?_
  refine kept_withTable ?_ ?_
  · exact h_s1
  · intro _
    refine kept_ite h_s1 ?_
    split
    · exact kept_ite (kept_compareDigests h_s1) (kept_ite h_holds h_s1)
    · exact kept_ite h_s1 h_holds

theorem goes_execFillReqRx {h} (hr : Kept s₀ s) : Goes s₀ (execFillReqRx h s) := by
  unfold execFillReqRx
  extract_lets +onlyGivenNames s1
  have h_s1 : Kept s₀ s1 := kept_takeMend hr
  exact goes_next (kept_withTable h_s1 (fun _ => kept_ite h_s1 (kept_ite (kept_sendMeta (kept_bump (kept_withMend h_s1)))
      (kept_bump (kept_withMend h_s1)))))

theorem kept_putSrc {x} (hr : Kept s₀ s) : Kept s₀ (putSrc s x) := kept_withMend hr

theorem kept_sendChunk {t x c} (hr : Kept s₀ s) : Kept s₀ (sendChunk s t x c) :=
  kept_foldl (fun _ _ hr => kept_sendMend hr) hr

theorem goes_execFillChunkSend {target} (hr : Kept s₀ s) : Goes s₀ (execFillChunkSend target s) := by
  unfold execFillChunkSend
  refine goes_next ?_
  refine kept_withTable ?_ ?_
  · exact hr
  · intro _
    split
    · exact hr
    · split
      · refine kept_ite (kept_mangleDenied hr) ?_
        refine kept_ite (kept_waitFor hr) ?_
        dsimp only
        split
        · exact kept_foldl (fun _ _ hr => kept_memUncorr hr) (kept_readMeets (kept_goOn hr))
        · exact kept_putSrc (kept_sendChunk (kept_readMeets (kept_goOn hr)))
      · exact kept_putSrc (kept_sendMend hr)

theorem goes_execFillMetaRx {h bytes} (hr : Kept s₀ s) : Goes s₀ (execFillMetaRx h bytes s) := by
  unfold execFillMetaRx
  extract_lets +onlyGivenNames s1
  have h_s1 : Kept s₀ s1 := kept_takeMend hr
  refine goes_next ?_
  split
  · exact h_s1
  · exact kept_ite h_s1 (kept_ite (kept_spareEnter (kept_installMeta (kept_withMend h_s1))) (kept_withMend h_s1))

theorem kept_releaseFinals {r tag chunk step} (hr : Kept s₀ s) : Kept s₀ (releaseFinals s r tag chunk step) := by
  unfold releaseFinals
  dsimp only
  split
  · exact kept_withMend hr
  · exact kept_foldl (fun _ _ hr => kept_giveCompletion hr) (kept_withMend hr)

theorem goes_execFillChunkRx {h bytes} (hr : Kept s₀ s) : Goes s₀ (execFillChunkRx h bytes s) := by
  unfold execFillChunkRx
  extract_lets +onlyGivenNames s1
  have h_s1 : Kept s₀ s1 := kept_takeMend hr
  refine goes_next ?_
  refine kept_withTable ?_ ?_
  · exact hr
  · intro _
    split
    · exact h_s1
    · exact kept_ite h_s1 (kept_ite (kept_mangleDenied h_s1) (kept_ite (kept_waitFor hr)
          (kept_ite (kept_withMend (kept_agentWrite (kept_goOn h_s1)))
          (kept_releaseFinals (kept_agentWrite (kept_goOn h_s1))))))

theorem goes_execFillEndRx {h} (hr : Kept s₀ s) : Goes s₀ (execFillEndRx h s) := by
  unfold execFillEndRx
  extract_lets +onlyGivenNames s1
  have h_s1 : Kept s₀ s1 := kept_takeMend hr
  refine goes_next ?_
  refine kept_withTable ?_ ?_
  · exact h_s1
  · intro _
    split
    · exact h_s1
    · exact kept_ite h_s1 (kept_ite (kept_reportCopy (kept_bump (kept_withMend h_s1)))
          (kept_ite (kept_sendMend (kept_withMend h_s1)) (kept_withMend h_s1)))

theorem goes_execSpareWakeDone (hr : Kept s₀ s) : Goes s₀ (execSpareWakeDone s) := by
  unfold execSpareWakeDone
  refine goes_next ?_
  split
  · exact kept_ite (kept_sendFillReqs (kept_withMend hr)) hr
  · exact hr

/-! ### What the operations of Machine/Registers keep -/

theorem goes_execEngCounterLoRead {reader core off} (hr : Kept s₀ s) : Goes s₀ (execEngCounterLoRead reader core off s) :=
    by
  unfold execEngCounterLoRead
  refine goes_next ?_
  split
  · exact kept_readEngLo hr
  · exact hr

/-! ### What the operations of Machine/Roce keep -/

theorem kept_setQp {n x} (hr : Kept s₀ s) : Kept s₀ (setQp s n x) := kept_withWcp hr

theorem kept_roceSend {p kind psn body} (hr : Kept s₀ s) : Kept s₀ (roceSend s p kind psn body) := kept_emit hr

theorem kept_roceData {p x bs} (hr : Kept s₀ s) : Kept s₀ (roceData s p x bs) :=
  kept_foldl (fun _ _ hr => kept_roceSend hr) hr

theorem kept_qpFail {p kind} (hr : Kept s₀ s) : Kept s₀ (qpFail s p kind) := by
  unfold qpFail
  refine kept_raise ?_
  split
  · exact kept_setQp (kept_roceSend hr)
  · exact kept_roceSend hr

theorem kept_sendCnp {p x} (hr : Kept s₀ s) : Kept s₀ (sendCnp s p x) :=
  kept_ite (kept_roceSend (kept_bump (kept_setQp hr))) hr

theorem kept_afterGap {p x} (hr : Kept s₀ s) : Kept s₀ (afterGap s p x) := kept_ite hr (kept_roceSend (kept_setQp hr))

theorem kept_roceRx {p run again} (hr : Kept s₀ s) (hrun : ∀ x u, Kept s₀ u → Kept s₀ (run x u))
    (hagain : ∀ x u, Kept s₀ u → Kept s₀ (again x u)) : Kept s₀ (roceRx s p run again) := by
  unfold roceRx
  refine kept_ite hr ?_
  refine kept_ite (kept_bump hr) ?_
  split
  · exact kept_bump hr
  · exact kept_ite (kept_bump hr) (kept_ite hr (kept_ite
      (kept_ite (kept_qpFail (kept_sendCnp hr)) (hrun _ _ (kept_sendCnp hr)))
      (kept_ite (kept_afterGap (kept_sendCnp hr)) (hagain _ _ (kept_sendCnp hr)))))

theorem kept_roceWrite {p x rkey addr left} (hr : Kept s₀ s) : Kept s₀ (roceWrite s p x rkey addr left) :=
  kept_ite (kept_qpFail hr) (kept_ite (kept_waitFor (kept_setQp hr)) (kept_ite
      (kept_roceSend (kept_setQp (kept_agentWrite (kept_goOn hr)))) (kept_setQp (kept_agentWrite (kept_goOn hr)))))

theorem goes_execRoceWriteRx {p} (hr : Kept s₀ s) : Goes s₀ (execRoceWriteRx p s) := by
  unfold execRoceWriteRx
  refine goes_next ?_
  refine kept_roceRx ?_ ?_ ?_
  · exact hr
  · intro _ _ hr
    dsimp only
    split
    · exact kept_ite (kept_roceWrite hr) (kept_qpFail hr)
    · exact kept_ite (kept_roceWrite hr) (kept_qpFail hr)
    · exact kept_ite (kept_roceWrite hr) (kept_qpFail hr)
    · exact kept_ite (kept_roceWrite hr) (kept_qpFail hr)
    · exact kept_qpFail hr
  · exact fun _ _ hr => kept_roceSend hr

theorem kept_answerRead {p x} (hr : Kept s₀ s) : Kept s₀ (answerRead s p x) := by
  unfold answerRead
  dsimp only
  split
  · exact kept_roceData (kept_readMeets (kept_goOn (kept_setQp hr)))
  · exact kept_qpFail (kept_memUncorr (kept_roceData (kept_readMeets (kept_goOn (kept_setQp hr)))))

theorem kept_roceRead {outstanding p x} (hr : Kept s₀ s) : Kept s₀ (roceRead outstanding p x s) :=
  kept_ite (kept_qpFail hr) (kept_ite (kept_qpFail hr) (kept_ite (kept_waitFor (kept_setQp hr)) (kept_answerRead hr)))

/-! ### What the operations of Machine/Scoring keep -/

theorem kept_withScore {f} (hr : Kept s₀ s) : Kept s₀ (s.withScore f) := hr

theorem kept_setLane {n l} (hr : Kept s₀ s) : Kept s₀ (setLane s n l) := kept_withScore hr

theorem kept_answerNow {r status reason cnt} (hr : Kept s₀ s) : Kept s₀ (answerNow s r status reason cnt) :=
  kept_emit (kept_useFree (kept_bump hr))

theorem kept_admitScore {r} (hr : Kept s₀ s) : Kept s₀ (admitScore s r) := by
  unfold admitScore
  dsimp only
  split
  · exact hr
  · exact kept_ite (kept_answerNow hr) (kept_ite (kept_answerNow hr) (kept_setLane hr))

theorem goes_execLaneServiceStart {lane} (hr : Kept s₀ s) : Goes s₀ (execLaneServiceStart lane s) := by
  unfold execLaneServiceStart
  refine goes_next ?_
  split
  · exact kept_ite hr (kept_setLane hr)
  · exact hr

theorem kept_countLatency {lane k lat} (hr : Kept s₀ s) : Kept s₀ (countLatency s lane k lat) :=
  kept_ite (kept_raise (kept_bump (kept_csrPut hr))) (kept_csrPut hr)

theorem kept_swapDone (hr : Kept s₀ s) : Kept s₀ (swapDone s) := by
  unfold swapDone
  refine kept_ite hr ?_
  refine kept_raise ?_
  refine kept_bump ?_
  split
  · exact kept_endDeferred hr
  · exact hr

theorem kept_restartFailed {cluster} (hr : Kept s₀ s) : Kept s₀ (restartFailed s cluster) :=
  kept_foldl (fun _ _ hr => kept_foldl (fun _ _ hr => kept_ite (kept_startThread hr) hr) hr) hr

theorem goes_execLaneServiceEnd {lane score attrs ns egressNs} (hr : Kept s₀ s) : Goes s₀
    (execLaneServiceEnd lane score attrs ns egressNs s) := by
  unfold execLaneServiceEnd
  refine goes_next ?_
  split
  · exact hr
  · split
    · exact kept_ite (kept_swapDone (kept_restartFailed (kept_setLane
          (kept_countLatency (kept_ite (kept_bump (kept_ite (kept_bump (kept_emit hr)) (kept_bump (kept_emit hr))))
          (kept_ite (kept_bump (kept_emit hr)) (kept_bump (kept_emit hr))))))))
          (kept_restartFailed (kept_setLane (kept_countLatency (kept_ite
          (kept_bump (kept_ite (kept_bump (kept_emit hr)) (kept_bump (kept_emit hr))))
          (kept_ite (kept_bump (kept_emit hr)) (kept_bump (kept_emit hr)))))))
    · exact hr

theorem kept_swapFails {r status} (hr : Kept s₀ s) : Kept s₀ (swapFails s r status) := kept_respond (kept_withScore hr)

theorem goes_execSwapLoad {q addr} (hr : Kept s₀ s) : Goes s₀ (execSwapLoad q addr s) := by
  unfold execSwapLoad
  extract_lets +onlyGivenNames held busy
  refine goes_next ?_
  refine kept_holdRow ?_ ?_
  · intro _ hr
    refine kept_wcpRowWith ?_ ?_ ?_
    · exact fun _ _ _ hr => kept_swapFails hr
    · intro _ _ hr
      refine kept_ite (kept_swapFails hr) ?_
      refine kept_ite (kept_swapFails hr) ?_
      dsimp only
      split
      · exact kept_swapFails (kept_memUncorr (kept_readMeets (kept_goOn hr)))
      · exact kept_ite (kept_swapFails (kept_readMeets (kept_goOn hr)))
            (kept_ite (kept_swapFails (kept_readMeets (kept_goOn hr)))
            (kept_ite (kept_swapFails (kept_readMeets (kept_goOn hr)))
            (kept_withScore (kept_deferResp (kept_readMeets (kept_goOn hr))))))
    · exact hr
  · exact hr

theorem kept_loadLane {buf body n} (hr : Kept s₀ s) : Kept s₀ (loadLane buf body s n) := by
  unfold loadLane
  split
  · exact hr
  · exact kept_setLane (kept_agentWrite hr)

theorem kept_finishLoad {x} (hr : Kept s₀ s) : Kept s₀ (finishLoad s x) := by
  unfold finishLoad
  extract_lets +onlyGivenNames n body fails
  have hfails : ∀ {u k}, Kept s₀ u → Kept s₀ (fails u k) := fun hu => kept_endDeferred hu
  refine kept_ite (hfails hr) (kept_ite (hfails hr) (kept_ite (kept_waitFor hr) ?_))
  extract_lets s
  have h_s : Kept s₀ s := kept_readMeets (kept_goOn hr)
  split
  · exact hfails (kept_memUncorr h_s)
  · exact kept_ite (hfails h_s) (kept_endDeferred (kept_foldl (fun _ _ hr => kept_loadLane hr) h_s))

theorem goes_execSwapLoadDone (hr : Kept s₀ s) : Goes s₀ (execSwapLoadDone s) := by
  unfold execSwapLoadDone
  refine goes_next ?_
  split
  · exact kept_finishLoad hr
  · exact hr

/-! ### What the operations of Machine/Steering keep -/

theorem kept_withPru {f} (hr : Kept s₀ s) : Kept s₀ (s.withPru f) := hr

theorem kept_clearTaps (hr : Kept s₀ s) : Kept s₀ (clearTaps s) := hr

theorem kept_updateScales (hr : Kept s₀ s) : Kept s₀ (updateScales s) := kept_withMangle hr

theorem kept_raiseRule {x1} (hr : Kept s₀ s) : Kept s₀ (raiseRule s x1) := by
  unfold raiseRule
  split <;> exact kept_raise hr

theorem kept_runEvaluate (hr : Kept s₀ s) : Kept s₀ (runEvaluate s) := by
  unfold runEvaluate
  extract_lets +onlyGivenNames recs r alarms s1 s2 s3 s4 s5
  have h_s1 : Kept s₀ s1 := kept_withPru hr
  have h_s2 : Kept s₀ s2 := kept_bump (kept_bump (kept_bump (kept_bump (kept_bump h_s1))))
  have h_s3 : Kept s₀ s3 := kept_csrPut (kept_csrPut h_s2)
  have h_s4 : Kept s₀ s4 := kept_foldl (fun _ _ hr => kept_raiseRule hr) h_s3
  have h_s5 : Kept s₀ s5 := kept_ite h_s4 (kept_notifyGroup h_s4)
  exact kept_csrPut h_s5

theorem kept_evaluatePassed (hr : Kept s₀ s) : Kept s₀ (evaluatePassed s) := by
  unfold evaluatePassed
  extract_lets +onlyGivenNames s1
  have h_s1 : Kept s₀ s1 := kept_updateScales hr
  refine kept_ite (kept_csrPut h_s1) ?_
  split
  · exact kept_runEvaluate h_s1
  · exact kept_ite (kept_runEvaluate h_s1) (kept_notifyGroup (kept_csrPut (kept_raise h_s1)))

theorem goes_execEvaluation (hr : Kept s₀ s) : Goes s₀ (execEvaluation s) := by
  unfold execEvaluation
  refine goes_next ?_
  refine kept_ite hr ?_
  split
  · exact hr
  · exact kept_withPru (kept_csrPut (kept_ite (kept_evaluatePassed hr) (kept_csrPut (kept_raise hr))))

theorem kept_installEntry {all p} (hr : Kept s₀ s) : Kept s₀ (installEntry all s p) :=
  kept_ite (kept_withPru hr) (kept_raise (kept_csrPutBits hr))

theorem kept_sendJoinMeta (hr : Kept s₀ s) : Kept s₀ (sendJoinMeta s) := by
  unfold sendJoinMeta
  split
  · exact hr
  · exact kept_foldl (fun _ _ hr => kept_sendMeta hr) hr

theorem kept_publishVariants (hr : Kept s₀ s) : Kept s₀ (publishVariants s) := kept_csrPut (kept_withPru hr)

theorem kept_beginStep {t} (hr : Kept s₀ s) : Kept s₀ (beginStep s t) :=
  kept_ite (kept_foldl (fun _ _ hr => kept_startCore hr) hr) hr

/-! ### What the operations of Machine/Wcp keep -/

theorem kept_fragmentRx {d} (hr : Kept s₀ s) : Kept s₀ (fragmentRx s d) := by
  unfold fragmentRx
  dsimp only
  split
  · exact kept_ite (kept_takeRequest (kept_setSession hr)) (kept_setSession hr)
  · exact kept_ite (kept_takeRequest (kept_withWcp hr)) (kept_withWcp hr)

theorem goes_execFragTimeout {session seq} (hr : Kept s₀ s) : Goes s₀ (execFragTimeout session seq s) := by
  unfold execFragTimeout
  refine goes_next ?_
  refine kept_ite (kept_ite hr (kept_bump (kept_withWcp hr))) ?_
  dsimp only
  split
  · exact kept_ite (kept_bump (kept_setSession hr)) hr
  · exact hr

theorem goes_execNotifyResend {session} (hr : Kept s₀ s) : Goes s₀ (execNotifyResend session s) := by
  unfold execNotifyResend
  refine goes_next ?_
  split
  · split
    · exact kept_emit hr
    · exact hr
  · exact hr

theorem kept_refuseOpen {r status} (hr : Kept s₀ s) : Kept s₀ (refuseOpen s r status) :=
  kept_respond (kept_ite (kept_bump (kept_raise hr)) (kept_raise hr))

theorem goes_execWcpOpen {q o} (hr : Kept s₀ s) : Goes s₀ (execWcpOpen q o s) := by
  unfold execWcpOpen
  refine goes_next ?_
  refine kept_wcpRow ?_ ?_
  · intro _ _ hr
    refine kept_ite (kept_refuseOpen (kept_withWcp hr)) ?_
    dsimp only
    split
    · exact kept_refuseOpen (kept_withWcp hr)
    · exact kept_respond (kept_raise (kept_withWcp (kept_useFree (kept_withWcp hr))))
  · exact hr

theorem goes_execNotifyAck {q upTo} (hr : Kept s₀ s) : Goes s₀ (execNotifyAck q upTo s) := by
  unfold execNotifyAck
  refine goes_next ?_
  refine kept_wcpRow ?_ ?_
  · intro _ _ hr
    split
    · exact kept_ite (kept_setSession hr) hr
    · exact hr
  · exact hr

theorem kept_readRegs {reader offs} (hr : Kept s₀ s) : Kept s₀ (readRegs reader offs s).1 := by
  induction offs generalizing s with
  | nil => exact hr
  | cons off offs ih => exact ih (kept_csrRead hr)

theorem kept_answerRegs {r offs} (hr : Kept s₀ s) : Kept s₀ (answerRegs r offs s) := by
  unfold answerRegs
  split
  · exact kept_respond hr
  · exact kept_respond (kept_readRegs hr)

theorem kept_writeRegs {items i} (hr : Kept s₀ s) : Kept s₀ (writeRegs items i s).1 := by
  induction items generalizing s i with
  | nil => exact hr
  | cons x items ih =>
    unfold writeRegs
    split
    · exact hr
    · simp only
      split
      · exact ih (kept_csrWrite hr)
      · exact kept_csrWrite hr

theorem kept_markMember {t rank r} (hr : Kept s₀ s) : Kept s₀ (markMember t rank r s) := by
  unfold markMember
  refine kept_ite (kept_respond hr) ?_
  refine kept_ite (kept_respond hr) ?_
  refine kept_ite (kept_respond (kept_runKeeperFail hr)) ?_
  split
  · exact kept_ite (kept_respond (kept_runKeeperFail hr)) (kept_sendMend (kept_withMend (kept_deferResp hr)))
  · exact kept_deferResp hr

theorem goes_execMarkFailed {q rank} (hr : Kept s₀ s) : Goes s₀ (execMarkFailed q rank s) := by
  unfold execMarkFailed
  refine goes_next ?_
  refine kept_wcpRow ?_ ?_
  · intro _ _ hr
    split
    · exact kept_markMember hr
    · exact hr
  · exact hr

theorem goes_execAddSpare {q rank} (hr : Kept s₀ s) : Goes s₀ (execAddSpare q rank s) := by
  unfold execAddSpare
  refine goes_next ?_
  refine kept_wcpRow ?_ ?_
  · intro _ _ hr
    split
    · exact hr
    · exact kept_ite (kept_respond hr) (kept_ite (kept_respond hr) (kept_ite (kept_respond hr)
          (kept_probeRank (kept_deferResp hr))))
  · exact hr

theorem kept_writeRoutes {first es i} (hr : Kept s₀ s) : Kept s₀ (writeRoutes first es i s).1 := by
  induction es generalizing s i with
  | nil => exact hr
  | cons e es ih =>
    unfold writeRoutes
    simp only
    split
    · exact hr
    · split
      · exact hr
      · exact ih hr

theorem kept_memRow {q op a n write run} (hf : ∀ x0 x1, Kept s₀ x1 → Kept s₀ (run x0 x1)) (hr : Kept s₀ s) : Kept s₀
    (memRow q op a n write run s) := by
  unfold memRow
  extract_lets +onlyGivenNames held
  exact kept_ite (kept_ite (kept_waitFor (kept_ite hr (kept_takeRequest hr))) (kept_ite hr (kept_takeRequest hr)))
      (kept_wcpRow (fun _ _ hr => hf _ _ (kept_ite hr (kept_ite (kept_goOn hr) (kept_readMeets (kept_goOn hr))))) hr)

theorem goes_execMemRead {q addr len} (hr : Kept s₀ s) : Goes s₀ (execMemRead q addr len s) := by
  unfold execMemRead
  refine goes_next ?_
  refine kept_memRow ?_ ?_
  · intro _ _ hr
    refine kept_ite (kept_respond hr) ?_
    refine kept_ite (kept_respond hr) ?_
    split
    · exact kept_respond (kept_memUncorr hr)
    · exact kept_respond hr
  · exact hr

theorem goes_execMemFillDone (hr : Kept s₀ s) : Goes s₀ (execMemFillDone s) := by
  unfold execMemFillDone
  refine goes_next ?_
  split
  · exact hr
  · exact kept_ite hr (kept_ite (kept_waitFor hr) (kept_ite (kept_endDeferred (kept_agentWrite (kept_goOn hr)))
        (kept_endDeferred hr)))

theorem goes_execWinOpen {q base len access} (hr : Kept s₀ s) : Goes s₀ (execWinOpen q base len access s) := by
  unfold execWinOpen
  refine goes_next ?_
  refine kept_wcpRow ?_ ?_
  · intro _ _ hr
    refine kept_ite (kept_respond hr) ?_
    refine kept_ite (kept_respond hr) ?_
    split
    · exact kept_respond hr
    · exact kept_respond (kept_withWcp hr)
  · exact hr

theorem goes_execWinClose {q index} (hr : Kept s₀ s) : Goes s₀ (execWinClose q index s) := by
  unfold execWinClose
  refine goes_next ?_
  refine kept_wcpRow ?_ ?_
  · intro _ _ hr
    refine kept_ite (kept_respond hr) ?_
    split
    · exact kept_respond hr
    · exact kept_ite (kept_respond hr) (kept_deferResp (kept_withWcp hr))
  · exact hr

theorem goes_execWinCloseDone {index} (hr : Kept s₀ s) : Goes s₀ (execWinCloseDone index s) := by
  unfold execWinCloseDone
  refine goes_next ?_
  split
  · refine kept_ite ?_ hr
    dsimp only
    split
    · exact kept_endDeferred (kept_withWcp hr)
    · exact kept_withWcp hr
  · exact hr

theorem goes_execQpOpen {q} (hr : Kept s₀ s) : Goes s₀ (execQpOpen q s) := by
  unfold execQpOpen
  refine goes_next ?_
  refine kept_wcpRow ?_ ?_
  · intro _ _ hr
    split
    · exact kept_respond hr
    · exact kept_respond (kept_withWcp hr)
  · exact hr

theorem goes_execQpConnect {q qpn a} (hr : Kept s₀ s) : Goes s₀ (execQpConnect q qpn a s) := by
  unfold execQpConnect
  refine goes_next ?_
  refine kept_wcpRow ?_ ?_
  · intro _ _ hr
    split
    · exact kept_ite (kept_respond hr) (kept_ite (kept_respond hr) (kept_respond (kept_withWcp hr)))
    · exact kept_respond hr
  · exact hr

end Sys2Proof.Machine
end

section
open Sys2Proof
namespace Sys2Proof.Machine

variable {s₀ s : State}

/-! ### What the operations of Machine/Dispatch keep -/

/-- What every command keeps. -/
theorem goes_exec (i : Instr) (hr : Kept s₀ s) : Goes s₀ (exec i s) := by
  cases i with
  | alu => exact goes_next (kept_issueAlu hr)
  | addi => exact goes_next (kept_issueAlu hr)
  | andi => exact goes_next (kept_issueAlu hr)
  | ori => exact goes_next (kept_issueAlu hr)
  | xori => exact goes_next (kept_issueAlu hr)
  | slti => exact goes_next (kept_issueAlu hr)
  | shifti => exact goes_next (kept_issueAlu hr)
  | lui => exact goes_next (kept_issueAlu hr)
  | shori => exact goes_next (kept_issueAlu hr)
  | ld => exact goes_next (kept_issueOther hr)
  | lw => exact goes_next (kept_issueOther hr)
  | lwu => exact goes_next (kept_issueOther hr)
  | lbu => exact goes_next (kept_issueOther hr)
  | sd => exact goes_next (kept_issueOther hr)
  | sw => exact goes_next (kept_issueOther hr)
  | sb => exact goes_next (kept_issueOther hr)
  | aadd => exact goes_next (kept_issueOther hr)
  | beq => exact goes_next (kept_issueBranch hr)
  | bne => exact goes_next (kept_issueBranch hr)
  | blt => exact goes_next (kept_issueBranch hr)
  | bge => exact goes_next (kept_issueBranch hr)
  | bltu => exact goes_next (kept_issueBranch hr)
  | bgeu => exact goes_next (kept_issueBranch hr)
  | jal => exact goes_next (kept_ite (kept_drainBuffer hr) (kept_setThread (kept_drainBuffer hr)))
  | jalr => exact goes_next (kept_issueOther hr)
  | tissue => exact goes_next (kept_issueOther hr)
  | sissue => exact goes_next (kept_issueOther hr)
  | twait => exact goes_next (kept_issueOther hr)
  | tsig => exact goes_next (kept_issueOther hr)
  | kopen => exact goes_next (kept_issueOther hr)
  | kclose => exact goes_next (kept_issueOther hr)
  | fence => exact goes_next (kept_issueOther hr)
  | waitEv => exact goes_next (kept_issueOther hr)
  | csrr => exact goes_next (kept_issueOther hr)
  | csrw => exact goes_next (kept_issueOther hr)
  | traceOp => exact goes_next (kept_issueOther hr)
  | haltThread => exact goes_next (kept_issueOther hr)
  | branchResolve => exact goes_execBranchResolve hr
  | threadQuantumExpire => exact goes_execThreadQuantumExpire hr
  | missComplete => exact goes_execMissComplete hr
  | twaitSatisfied => exact goes_execTwaitSatisfied hr
  | fenceComplete => exact goes_execFenceComplete hr
  | waitWake => exact goes_next (kept_ite hr (kept_ite (kept_wakeCluster (kept_resumeThread hr)) (kept_setThread hr)))
  | stationQueueFree => exact goes_next (kept_ite (kept_foldl (fun _ _ hr => kept_retryIssue hr) hr) hr)
  | coreTimerZero => exact goes_next (kept_ite hr (kept_coreEvent (kept_csrPut hr)))
  | stationWorkStart => exact goes_execStationWorkStart hr
  | stationWorkDone => exact goes_next (kept_ite (kept_ite (kept_retainCluster
      (kept_lint (kept_setStn (kept_placeNext hr)))) hr) hr)
  | tilePlace => exact goes_next (kept_ite (kept_placeNext hr) hr)
  | tileRelease => exact goes_execTileRelease hr
  | creditReturn => exact goes_execCreditReturn hr
  | stationResetEnd => exact goes_next (kept_ite (kept_endStnReset hr) hr)
  | arrayStreamStart => exact goes_execArrayStreamStart hr
  | creaseComplete => exact goes_execCreaseComplete hr
  | planeLoadStart => exact goes_execPlaneLoadStart hr
  | planeLoadComplete => exact goes_execPlaneLoadComplete hr
  | footTileOut => exact goes_execFootTileOut hr
  | fetchReadIssue => exact goes_execFetchReadIssue hr
  | storeWrite => exact goes_execStoreWrite hr
  | spotCheckDone _ diff ref arr => exact goes_execSpotCheckDone diff ref arr hr
  | recordClose => exact goes_next (kept_ite hr (kept_retryFrames (kept_handRecords (kept_clearTaps hr))))
  | evaluation => exact goes_execEvaluation hr
  | pendingInstall => exact goes_next (kept_ite (kept_withPru (kept_csrPut
      (kept_markLayers (kept_foldl (fun _ _ hr => kept_installEntry hr) hr)))) hr)
  | variantPublication => exact goes_next (kept_ite (kept_sendJoinMeta
      (kept_withPru (kept_publishVariants (kept_markLayers hr)))) hr)
  | stepStart => exact goes_next (kept_ite (kept_beginStep hr) hr)
  | quiesceEnter => exact goes_next (kept_ite (kept_endBg (kept_setDev hr)) hr)
  | gateDecide => exact goes_next (kept_ite hr (kept_gateAgain (kept_ite hr (kept_withGate hr))))
  | gateWaitExpire => exact goes_next (kept_gateAgain hr)
  | blockEnd => exact goes_next (kept_ite hr (kept_retryFrames (kept_withGate hr)))
  | shipTile => exact goes_execShipTile hr
  | slotFreeOpen => exact goes_execSlotFreeOpen hr
  | mangleFrameRx => exact goes_execMangleFrameRx hr
  | hop => exact goes_next (kept_atHop hr (fun _ _ _ => kept_runHop hr))
  | hopWaitExpire => exact goes_next (kept_atHop hr (fun _ _ _ => kept_ite (kept_expireHop hr) hr))
  | lateContribution => exact goes_execLateContribution hr
  | finalHopDeliver => exact goes_execFinalHopDeliver hr
  | reverseWaitExpire => exact goes_execReverseWaitExpire hr
  | instanceClose => exact goes_execInstanceClose hr
  | collTimeout => exact goes_execCollTimeout hr
  | finalFrameRx _ src => exact goes_execFinalFrameRx src hr
  | tagStageWrite => exact goes_next (kept_ite (kept_writeTagWord hr) hr)
  | tagInstall => exact goes_next (kept_ite (kept_installTag hr) hr)
  | departRx => exact goes_next (kept_withTable (kept_takeMend hr) (fun _ => kept_ite
      (kept_runKeeperFail (kept_takeMend hr)) (kept_takeMend hr)))
  | suspectRx => exact goes_execSuspectRx hr
  | suspectResend => exact goes_execSuspectResend hr
  | probeRx => exact goes_next (kept_withTable (kept_takeMend hr) (fun _ => kept_ite (kept_sendMend (kept_takeMend hr))
      (kept_takeMend hr)))
  | probeAckRx => exact goes_execProbeAckRx hr
  | probeTimeout => exact goes_execProbeTimeout hr
  | noticeRx => exact goes_execNoticeRx hr
  | noticeAckRx => exact goes_next (kept_withMend (kept_takeMend hr))
  | noticeResend => exact goes_next (kept_withTable hr (fun _ => kept_foldl (fun _ _ hr => kept_bump (kept_sendNotice hr))
      (kept_withMend hr)))
  | copyReportRx => exact goes_next (kept_withTable (kept_takeMend hr)
      (fun _ => kept_ite (kept_withMend (kept_takeMend hr)) (kept_takeMend hr)))
  | digestCheck => exact goes_execDigestCheck hr
  | digestRx => exact goes_execDigestRx hr
  | fillReqRx => exact goes_execFillReqRx hr
  | fillChunkSend => exact goes_execFillChunkSend hr
  | fillMetaRx => exact goes_execFillMetaRx hr
  | fillChunkRx => exact goes_execFillChunkRx hr
  | fillEndRx => exact goes_execFillEndRx hr
  | fillDoneRx => exact goes_next (kept_withTable (kept_takeMend hr) (fun _ => kept_ite
      (kept_issueNotice (kept_takeMend hr)) (kept_takeMend hr)))
  | spareWakeDone => exact goes_execSpareWakeDone hr
  | laneFail => exact goes_next (kept_failLane hr)
  | laneErrorWindow => exact goes_next (kept_ite (kept_failLane (kept_csrPutBits (kept_bump hr)))
      (kept_csrPutBits (kept_bump hr)))
  | laneMapRx => exact goes_next (kept_ite hr (kept_ite (kept_applyLaneMap hr) (kept_setLink hr)))
  | flitRx => exact goes_execFlitRx hr
  | nakRx => exact goes_next (kept_ite hr (kept_replayFrom hr))
  | ackTimeout => exact goes_next (kept_ite (kept_replayFrom hr) hr)
  | creditRx => exact goes_ite (goes_next hr) (goes_next (kept_ite (kept_takeDown (kept_raise (kept_setLink hr)))
      (kept_pump (kept_setLink hr))))
  | creditSend => exact goes_next (kept_ite (kept_sendCredit hr) hr)
  | keepaliveSend => exact goes_next (kept_ite (kept_emitCtl hr) hr)
  | linkSilence => exact goes_next (kept_ite (kept_takeDown hr) hr)
  | frameRx => exact goes_execFrameRx hr
  | opticalReady => exact goes_next (kept_ite (kept_setLink (kept_setOe hr)) hr)
  | laneLock => exact goes_next (kept_ite (kept_ite (kept_startTraining hr) (kept_setLink hr)) hr)
  | equalisation => exact goes_next (kept_ite (kept_setLink hr) hr)
  | fecLock => exact goes_next (kept_ite (kept_sendCredit (kept_emitCtl (kept_setLink hr))) hr)
  | linkIdResend => exact goes_next (kept_ite (kept_sendCredit (kept_emitCtl hr)) hr)
  | linkIdRx => exact goes_ite (goes_next (kept_csrPut (kept_csrPut (kept_setLink hr)))) (goes_next hr)
  | linkUp => exact goes_execLinkUp hr
  | trainingTimeout => exact goes_next (kept_ite (kept_startTraining hr) hr)
  | seamRetrain => exact goes_execSeamRetrain hr
  | seamEnable => exact goes_execSeamEnable hr
  | seamForceMin => exact goes_execSeamForceMin hr
  | laserMeasure => exact goes_next (kept_ite hr (kept_laserInput (kept_laserInput hr)))
  | laserRecover => exact goes_execLaserRecover hr
  | oeOvertemp => exact goes_next (kept_ite hr (kept_ite (kept_engineLinksDown (kept_raise (kept_setOe hr)))
      (kept_setOe hr)))
  | oeCooled => exact goes_next (kept_ite hr (kept_setOe hr))
  | portLinkUp => exact goes_next (kept_portUp hr)
  | portLinkDown => exact goes_next (kept_portDown hr)
  | ethModeWrite => exact goes_next (kept_hostWrite hr)
  | ethFrameRx => exact goes_next (kept_ite hr (kept_ite (kept_bump hr)
      (kept_ite (kept_bump (kept_bump hr)) (kept_ite (kept_bump hr) (kept_ite (kept_bump (kept_setFill (kept_bump hr)))
      (kept_ite (kept_bump (kept_setFill (kept_bump hr))) (kept_setFill (kept_bump hr))))))))
  | pfcRefresh => exact goes_next (kept_ite hr (kept_ite (kept_sendPfc (kept_setFill hr)) (kept_setFill hr)))
  | pfcFrameRx => exact goes_next (kept_ite hr (kept_setPort (kept_bump (kept_bump hr))))
  | arpNdRx => exact goes_next (kept_ite hr (kept_emit (kept_setPort hr)))
  | icmpEchoRx => exact goes_next (kept_ite (kept_emit hr) hr)
  | dhcpReplyRx => exact goes_next (kept_ite hr (kept_setLease (kept_ite (kept_sendDhcp hr) hr)))
  | dhcpRenew => exact goes_next (kept_ite (kept_sendDhcp hr) hr)
  | routerAdvertRx => exact goes_next (kept_ite (kept_setPort (kept_useFree hr)) hr)
  | ipv4AddrWrite => exact goes_next (kept_ite (kept_hostWrite hr) hr)
  | roceWriteRx => exact goes_execRoceWriteRx hr
  | roceReadRx => exact goes_next (kept_roceRx hr (fun _ _ hr => kept_roceRead hr)
      (fun _ _ hr => kept_ite (kept_qpFail hr) (kept_ite (kept_waitFor hr) (kept_answerRead hr))))
  | wcpDatagramRx => exact goes_next (kept_ite hr (kept_ite (kept_bump hr)
      (kept_ite (kept_takeRequestIf hr) (kept_fragmentRx hr))))
  | fragTimeout => exact goes_execFragTimeout hr
  | sessionIdleTimeout => exact goes_next (kept_closeSession hr)
  | notifyResend => exact goes_execNotifyResend hr
  | hello => exact goes_next (kept_wcpRow (fun _ _ hr => kept_respond (kept_withWcp (kept_useFree hr))) hr)
  | certs => exact goes_next (kept_wcpRow (fun _ _ hr => kept_respond hr) hr)
  | wcpOpen => exact goes_execWcpOpen hr
  | wcpClose => exact goes_next (kept_wcpRow (fun _ _ hr => kept_closeSession (kept_respond hr)) hr)
  | identify => exact goes_next (kept_wcpRow (fun _ _ hr => kept_respond hr) hr)
  | attest => exact goes_next (kept_wcpRow (fun _ _ hr => kept_respond hr) hr)
  | ping => exact goes_next (kept_wcpRow (fun _ _ hr => kept_ite (kept_respond hr) (kept_respond hr)) hr)
  | notifyAck => exact goes_execNotifyAck hr
  | imgBegin => exact goes_next (kept_wcpRow (fun _ _ hr => kept_ite (kept_respond hr)
      (kept_ite (kept_respond hr) (kept_respond (kept_withWcp hr)))) hr)
  | imgData => exact goes_execImgData hr
  | imgCommit => exact goes_next (kept_wcpRow (fun _ _ hr => kept_ite (kept_respond hr)
      (kept_ite (kept_respond hr) (kept_startBg hr))) hr)
  | imgCommitDone => exact goes_execImgCommitDone hr
  | imgList => exact goes_next (kept_wcpRow (fun _ _ hr => kept_respond hr) hr)
  | weaveBegin => exact goes_next (kept_wcpRow (fun _ _ hr => kept_ite (kept_respond hr) (kept_respond (kept_withWcp hr)))
      hr)
  | weaveData => exact goes_next (kept_holdRow (fun _ hr => kept_wcpRow
      (fun _ _ hr => kept_ite (kept_respond hr) (kept_ite (kept_respond hr)
      (kept_respond (kept_agentWrite (kept_goOn hr))))) hr) hr)
  | weaveCommit => exact goes_next (kept_wcpRow (fun _ _ hr => kept_ite (kept_respond hr) (kept_startBg hr)) hr)
  | weaveCommitDone => exact goes_execWeaveCommitDone hr
  | weaveActivate => exact goes_next (kept_wcpRow (fun _ _ hr => kept_ite (kept_startBg hr) (kept_respond hr)) hr)
  | activationEntryDone => exact goes_next (kept_ite (kept_setDev (kept_keepShown hr)) hr)
  | class0DrainDone => exact goes_next (kept_ite hr hr)
  | dismantleDone => exact goes_execDismantleDone hr
  | activationPowerDone => exact goes_next (kept_ite hr hr)
  | activationClearDone => exact goes_execActivationClearDone hr
  | activationInstallDone => exact goes_execActivationInstallDone hr
  | activationPublish => exact goes_execActivationPublish hr
  | weaveDiscard => exact goes_next (kept_wcpRow (fun _ _ hr => kept_respond (kept_withWcp hr)) hr)
  | jobStatus => exact goes_next (kept_wcpRow (fun _ _ hr => kept_respond hr) hr)
  | quiesce => exact goes_next (kept_wcpRow (fun _ _ hr => kept_startBg hr) hr)
  | resume => exact goes_next (kept_wcpRow (fun _ _ hr => kept_respond (kept_setDev hr)) hr)
  | memRead => exact goes_execMemRead hr
  | memWrite => exact goes_next (kept_memRow (fun _ _ hr => kept_ite (kept_respond hr)
      (kept_ite (kept_respond hr) (kept_respond (kept_agentWrite hr)))) hr)
  | memFill => exact goes_next (kept_memRow (fun _ _ hr => kept_ite (kept_respond hr)
      (kept_ite (kept_respond hr) (kept_deferResp hr))) hr)
  | memFillDone => exact goes_execMemFillDone hr
  | winOpen => exact goes_execWinOpen hr
  | winClose => exact goes_execWinClose hr
  | winCloseDone => exact goes_execWinCloseDone hr
  | qpOpen => exact goes_execQpOpen hr
  | qpConnect => exact goes_execQpConnect hr
  | qpClose => exact goes_next (kept_wcpRow (fun _ _ hr => kept_ite (kept_respond hr) (kept_respond (kept_withWcp hr))) hr)
  | regRead => exact goes_next (kept_wcpRow (fun _ _ hr => kept_ite (kept_respond hr) (kept_answerRegs hr)) hr)
  | regWrite => exact goes_next (kept_wcpRow (fun _ _ hr => kept_respond (kept_writeRegs hr)) hr)
  | regReadSeq => exact goes_next (kept_wcpRow (fun _ _ hr => kept_ite (kept_respond hr) (kept_answerRegs hr)) hr)
  | groupStatus => exact goes_next (kept_wcpRow (fun _ _ hr => kept_respond hr) hr)
  | markFailed => exact goes_execMarkFailed hr
  | addSpare => exact goes_execAddSpare hr
  | groupRelease => exact goes_next (kept_wcpRow (fun _ _ hr => kept_respond (kept_releaseGroup hr)) hr)
  | routeSet => exact goes_next (kept_wcpRow (fun _ _ hr => kept_ite (kept_respond hr) (kept_respond (kept_writeRoutes hr)))
      hr)
  | telemetry => exact goes_next (kept_wcpRow (fun _ _ hr => kept_respond (kept_withPower (kept_useFree hr))) hr)
  | domainSet => exact goes_next (kept_wcpRow (fun _ _ hr => kept_ite (kept_respond hr)
      (kept_ite (kept_respond hr) (kept_respond (kept_setMgmt hr)))) hr)
  | powerCap => exact goes_next (kept_wcpRow (fun _ _ hr => kept_ite (kept_respond hr) (kept_respond (kept_csrPutBits hr)))
      hr)
  | wcpReset => exact goes_next (kept_wcpRow (fun _ _ hr => kept_resetBy (kept_flushPort (kept_respond hr))) hr)
  | unlockChallenge => exact goes_next (kept_wcpRow (fun _ _ hr => kept_ite (kept_respond hr)
      (kept_respond (kept_withSec (kept_useFree hr)))) hr)
  | unlockResponse => exact goes_execUnlockResponse hr
  | scanWipeDone => exact goes_execScanWipeDone hr
  | lintDump => exact goes_next (kept_wcpRow (fun _ _ hr => kept_withErr (kept_startBg hr)) hr)
  | lintDumpDone => exact goes_execLintDumpDone hr
  | waitfor => exact goes_execWaitfor hr
  | wfgQueryRx => exact goes_next (kept_ite (kept_takeInbox hr) (kept_sendFrame (kept_useFree (kept_takeInbox hr))))
  | wfgReplyRx => exact goes_execWfgReplyRx hr
  | wfgQueryTimeout => exact goes_execWfgQueryTimeout hr
  | scoreStatus => exact goes_next (kept_wcpRow (fun _ _ hr => kept_respond hr) hr)
  | swapLoad => exact goes_execSwapLoad hr
  | swapLoadDone => exact goes_execSwapLoadDone hr
  | swapPublish => exact goes_next (kept_wcpRow (fun _ _ hr => kept_ite (kept_respond hr)
      (kept_swapDone (kept_withScore (kept_deferResp hr)))) hr)
  | scoreRequestRx => exact goes_next (kept_ite (kept_bump hr) (kept_ite (kept_answerNow (kept_bump hr))
      (kept_ite (kept_answerNow (kept_bump hr)) (kept_ite (kept_answerNow (kept_bump hr))
      (kept_ite (kept_answerNow (kept_bump hr)) (kept_admitScore (kept_bump hr)))))))
  | laneServiceStart => exact goes_execLaneServiceStart hr
  | laneServiceEnd => exact goes_execLaneServiceEnd hr
  | handlerStart => exact goes_next (kept_ite hr (kept_deepTrace (kept_nextHandler hr)))
  | handlerYield => exact goes_execHandlerYield hr
  | handlerDone => exact goes_execHandlerDone hr
  | handlerFault => exact goes_execHandlerFault hr
  | fenceFreezeDone => exact goes_next (kept_atStage hr (fun _ hr => kept_stage
      (kept_foldl (fun _ _ hr => kept_haltCore hr) hr)))
  | fenceDepartDone => exact goes_next (kept_atStage hr (fun _ hr => kept_stage (kept_sendDeparts hr)))
  | fenceStageDone => exact goes_execFenceStageDone hr
  | fenceLinksDone => exact goes_next (kept_atStage hr (fun _ hr => kept_stage (kept_withErr hr)))
  | fenceLintDone => exact goes_execFenceLintDone hr
  | fenceFlushDone => exact goes_next (kept_atStage hr (fun _ hr => kept_stage
      (kept_foldl (fun _ _ hr => kept_setMgmt hr) (kept_foldl (fun _ _ hr => kept_traceFlushCore hr) hr))))
  | fencePowerDone => exact goes_execFencePowerDone hr
  | hangCheck => exact goes_next (kept_ite hr (kept_settleGraph (kept_beginGraph (kept_withErr (kept_raise hr)))))
  | traceDrain => exact goes_next (kept_ite (kept_traceChunk hr) hr)
  | traceFlush => exact goes_next (kept_ite hr (kept_traceFlushCore hr))
  | threadRestart => exact goes_next (kept_hostWrite hr)
  | threadHalt => exact goes_next (kept_hostWrite hr)
  | stationReset => exact goes_next (kept_hostWrite hr)
  | perfClear => exact goes_next (kept_ite hr (kept_clearPerf hr))
  | excCountRead => exact goes_next (kept_csrRead hr)
  | cycleLoRead => exact goes_next (kept_readCycleLo hr)
  | engCounterLoRead => exact goes_execEngCounterLoRead hr
  | errlogClear => exact goes_next (kept_clearLog hr)
  | pruEntryWrite => exact goes_next (kept_ite (kept_hostWrite hr) hr)
  | pruApplyStepWrite => exact goes_next (kept_hostWrite hr)
  | pruPendingDiscard => exact goes_next (kept_hostWrite hr)
  | groupCtrlRelease => exact goes_next (kept_hostWrite hr)
  | csrWrite => exact goes_next (kept_ite (kept_hostWrite hr) hr)
  | vinSagDown => exact goes_next (kept_ite hr (kept_foldl (fun _ _ hr => kept_enterLevel hr) (kept_noteVin hr)))
  | sagLevelReturn => exact goes_next (kept_ite hr (kept_ite (kept_foldl (fun _ _ hr => kept_traceResume hr)
      (kept_settleDoms (kept_raise (kept_unshedAct (kept_noteVin (kept_withPower hr))))))
      (kept_settleDoms (kept_raise (kept_unshedAct (kept_noteVin (kept_withPower hr)))))))
  | vinReset => exact goes_next (kept_ite hr (kept_ite (kept_noteVin hr)
      (kept_ite (kept_noteVin (kept_noteDeepest (kept_withPower (kept_csrPutBits hr))))
      (kept_noteVin (kept_noteDeepest (kept_withPower (kept_resetBy hr)))))))
  | vinRecoverBoot => exact goes_next (kept_ite hr (kept_noteVin (kept_withPower hr)))
  | junctionSensorRead => exact goes_next (kept_ite hr (kept_ite (kept_withPower hr)
      (kept_ite (kept_junctionShutdown (kept_withPower hr)) (kept_ite (kept_adjustJunction (kept_withPower hr))
      (kept_withPower hr)))))
  | thermalRecoverBoot => exact goes_next (kept_ite (kept_withPower (kept_resetBy hr)) hr)
  | capGrant => exact goes_next (kept_ite (kept_grantCap hr) hr)
  | pmbusPoll => exact goes_execPmbusPoll hr
  | pmbAlert => exact goes_next (kept_ite (kept_pmbusFault (kept_foldl (fun _ _ hr => kept_csrPut hr) hr)) hr)
  | domainWakeStart => exact goes_next (kept_ite hr (kept_ite (kept_setDom hr) (kept_ite (kept_setDom hr) hr)))
  | domainWakeDone => exact goes_next (kept_ite hr (kept_ite (kept_settleDom (kept_setDom hr))
      (kept_ite (kept_deliverRouter (kept_settleDom (kept_startEngine (kept_trainStack (kept_holdCores (kept_setDom hr))))))
      (kept_settleDom (kept_startEngine (kept_trainStack (kept_holdCores (kept_setDom hr))))))))
  | domainWakeTimeout => exact goes_next (kept_ite (kept_activationFails hr) hr)
  | domainBrownout => exact goes_next (kept_ite hr (kept_raise (kept_ite
      (kept_loseWeights (kept_bump (kept_retrainLinks (kept_settleDom
      (kept_loseDomain (kept_setDom (kept_darkLinks hr))))))) (kept_ite
      (kept_dropMicroBatch (kept_bump (kept_retrainLinks (kept_settleDom
      (kept_loseDomain (kept_setDom (kept_darkLinks hr))))))) (kept_bump
      (kept_retrainLinks (kept_settleDom (kept_loseDomain (kept_setDom (kept_darkLinks hr))))))))))
  | vsbRise => exact goes_next (kept_ite (kept_withoutSupply hr) hr)
  | vsbFall => exact goes_next (kept_ite hr (kept_ite (kept_emit (kept_withoutSupply hr)) (kept_withoutSupply hr)))
  | romStartDone => exact goes_next (kept_ite (kept_ite (kept_failLow (kept_setBoot hr)) (kept_setBoot hr)) hr)
  | selfTestDone => exact goes_next (kept_ite (kept_operationOn (kept_setBoot hr)) hr)
  | railsDone => exact goes_next (kept_ite (kept_foldl (fun _ _ hr => kept_setMgmt hr) (kept_setBoot hr)) hr)
  | railsRetry => exact goes_next (kept_ite (kept_operationOn (kept_pmbusFault hr)) hr)
  | uncoreDone => exact goes_next (kept_ite (kept_setDev (kept_releaseFail (kept_setBoot hr))) hr)
  | hbmTempRead => exact goes_execHbmTempRead hr
  | hbmTrainingDone => exact goes_next (kept_ite hr (kept_ite (kept_setStack (kept_loseMem hr))
      (kept_raise (kept_settleDom (kept_setStack hr)))))
  | scrubPass => exact goes_next (kept_foldl (fun _ _ hr => kept_scrubBad hr)
      (kept_foldl (fun _ _ hr => kept_ite (kept_memCorrected hr) hr) (kept_foldl (fun _ _ hr => kept_scrubMeets hr) hr)))
  | jtagIdcode => exact goes_next (kept_ite (kept_emit (kept_withPower hr)) hr)
  | jtagBypass => exact goes_next (kept_ite (kept_withPower hr) hr)
  | jtagReset => exact goes_next (kept_ite (kept_resetBy hr) hr)
  | domainEntryDone => exact goes_execDomainEntryDone hr
  | regulatorOrPllFault => exact goes_next (kept_ite (kept_activationFails hr) hr)
  | interleaveReformDone => exact goes_execInterleaveReformDone hr
  | pfcQuantaExpire => exact goes_next (kept_ite (kept_setPort hr) hr)
  | dhcpLeaseExpire => exact goes_next (kept_ite hr (kept_ite (kept_sendDhcp (kept_setLease hr)) (kept_setLease hr)))

/-! ### What the operations of Machine/Tick keep -/

theorem kept_tickEngine {c e} (hr : Kept s₀ s) : Kept s₀ (tickEngine c s e) :=
  kept_ite (kept_enterReplay (kept_ite (kept_lint (kept_setCore hr)) (kept_setCore hr)))
      (kept_ite (kept_lint (kept_setCore hr)) (kept_setCore hr))

theorem kept_tickCore {c} (hr : Kept s₀ s) : Kept s₀ (tickCore s c) :=
  kept_ite hr (kept_foldl (fun _ _ hr => kept_tickEngine hr) hr)

theorem kept_tickTimer {c} (hr : Kept s₀ s) : Kept s₀ (tickTimer s c) :=
  kept_ite hr (kept_ite (kept_coreEvent (kept_csrPut hr)) (kept_csrPut hr))

theorem kept_countThrottled (hr : Kept s₀ s) : Kept s₀ (countThrottled s) :=
  kept_foldl (fun _ _ hr => kept_ite (kept_bump hr) hr) hr

theorem kept_newWindows (hr : Kept s₀ s) : Kept s₀ (newWindows s) := hr

theorem kept_tickWaits (hr : Kept s₀ s) : Kept s₀ (tickWaits s) :=
  kept_ite (kept_spareEnter (kept_foldl (fun _ _ hr => kept_retainCluster hr) (kept_ite hr (kept_retryFrames hr))))
      (kept_foldl (fun _ _ hr => kept_retainCluster hr) (kept_ite hr (kept_retryFrames hr)))

theorem kept_tick (hr : Kept s₀ s) : Kept s₀ (tick s) :=
  kept_ite hr (kept_ite (kept_tickWaits (kept_foldl (fun _ _ hr => kept_idleFlit hr)
      (kept_foldl (fun _ _ hr => kept_tickTimer hr) (kept_foldl (fun _ _ hr => kept_tickCore hr)
      (kept_ite (kept_foldl (fun _ _ hr => kept_strikeCache hr) (kept_foldl (fun _ _ hr => kept_strike hr)
      (kept_ite (kept_newWindows (kept_countThrottled hr)) hr))) hr)))))
      (kept_foldl (fun _ _ hr => kept_serveEgress hr) (kept_tickWaits
      (kept_foldl (fun _ _ hr => kept_idleFlit hr) (kept_foldl (fun _ _ hr => kept_tickTimer hr)
      (kept_foldl (fun _ _ hr => kept_tickCore hr) (kept_ite (kept_foldl (fun _ _ hr => kept_strikeCache hr)
      (kept_foldl (fun _ _ hr => kept_strike hr) (kept_ite (kept_newWindows (kept_countThrottled hr)) hr))) hr)))))))

/-! ### The step, and the obligations -/

theorem kept_refl : Kept s s := ⟨rfl, id⟩

theorem exec_goes (i : Instr) (s : State) : Goes s (exec i s) := goes_exec i kept_refl

/-- A step goes on, to a state whose memory is canonical if the state's own is. -/
theorem step_goes (s : State) : ∃ t, step s = .next t ∧ (memWf s.mem = true → memWf t.mem = true) := by
  unfold step
  split
  · exact ⟨_, rfl, (kept_tick kept_refl).2⟩
  · next i cs _ =>
    obtain ⟨t, ht, _, hmem⟩ := exec_goes i { s with pending := cs }
    exact ⟨t, ht, hmem⟩

/-- Settles O58: memory changes by writes, zeroing and loss of ranges alone, and each keeps the canonical form. -/
theorem stepKeepsMemoryCanonical : Obligations.StepKeepsMemoryCanonical := by
  intro s t hwf ht
  obtain ⟨u, hu, hmem⟩ := step_goes s
  obtain rfl : u = t := Host.Outcome.next.inj (hu.symm.trans ht)
  exact hmem hwf

/-- Settles O59: no operation on the state touches its queue. -/
theorem commandsKeepQueue : Obligations.CommandsKeepQueue := by
  intro i s t ht
  obtain ⟨u, hu, hqueue, _⟩ := exec_goes i s
  obtain rfl : u = t := Host.Outcome.next.inj (hu.symm.trans ht)
  exact hqueue

/-- Settles O60: every command gives a next state, and so does the tick of an empty queue. -/
theorem noCommandStops : Obligations.NoCommandStops := fun s =>
  let ⟨t, ht, _⟩ := step_goes s
  ⟨t, ht⟩

/-- Settles O1: the front of the queue is what a step runs. -/
theorem stepRunsFront : Obligations.StepRunsFront := fun _ _ _ => rfl

end Sys2Proof.Machine
end

section
/-! The control-core words: the fields of a word built from fields, and the word built from the fields of a word. -/

open Sys2Proof
namespace Sys2Proof.Machine

theorem coreFields_coreWord {op d a : Nat} (imm : BitVec 16) (hop : op < 64) (hd : d < 32) (ha : a < 32) :
    coreFields (coreWord op d a imm) = (op, d, a, imm) := by
  have hopcode : (coreWord op d a imm).extractLsb' 26 6 = BitVec.ofNat 6 op := by unfold coreWord; ext i hi; grind
  have hfirst : (coreWord op d a imm).extractLsb' 21 5 = BitVec.ofNat 5 d := by unfold coreWord; ext i hi; grind
  have hsecond : (coreWord op d a imm).extractLsb' 16 5 = BitVec.ofNat 5 a := by unfold coreWord; ext i hi; grind
  have himm : (coreWord op d a imm).extractLsb' 0 16 = imm := by unfold coreWord; ext i hi; grind
  simp only [coreFields, hopcode, hfirst, hsecond, himm, BitVec.toNat_ofNat]
  rw [Nat.mod_eq_of_lt hop, Nat.mod_eq_of_lt hd, Nat.mod_eq_of_lt ha]

theorem coreFields_coreWordLow {op d : Nat} (low : BitVec 21) (hop : op < 64) (hd : d < 32) :
    coreFields (coreWordLow op d low) = (op, d, (low.extractLsb' 16 5).toNat, low.extractLsb' 0 16) := by
  have hopcode : (coreWordLow op d low).extractLsb' 26 6 = BitVec.ofNat 6 op := by unfold coreWordLow; ext i hi; grind
  have hfirst : (coreWordLow op d low).extractLsb' 21 5 = BitVec.ofNat 5 d := by unfold coreWordLow; ext i hi; grind
  have hsecond : (coreWordLow op d low).extractLsb' 16 5 = low.extractLsb' 16 5 := by unfold coreWordLow; ext i hi; grind
  have himm : (coreWordLow op d low).extractLsb' 0 16 = low.extractLsb' 0 16 := by unfold coreWordLow; ext i hi; grind
  simp only [coreFields, hopcode, hfirst, hsecond, himm, BitVec.toNat_ofNat]
  rw [Nat.mod_eq_of_lt hop, Nat.mod_eq_of_lt hd]

theorem low_coreWordLow (op d : Nat) (low : BitVec 21) : (coreWordLow op d low).extractLsb' 0 21 = low := by
  unfold coreWordLow
  ext i hi
  grind

theorem coreWord_fields (w : BitVec 32) :
    coreWord (w.extractLsb' 26 6).toNat (w.extractLsb' 21 5).toNat (w.extractLsb' 16 5).toNat (w.extractLsb' 0 16) = w := by
  unfold coreWord
  ext i hi
  grind

theorem coreWordLow_fields (w : BitVec 32) :
    coreWordLow (w.extractLsb' 26 6).toNat (w.extractLsb' 21 5).toNat (w.extractLsb' 0 21) = w := by
  unfold coreWordLow
  ext i hi
  grind

/-- The three fields of ALU fill the 16 bits of an immediate. -/
theorem aluFields_append (imm : BitVec 16) :
    BitVec.ofNat 5 (imm.extractLsb' 11 5).toNat ++ BitVec.ofNat 7 (imm.extractLsb' 4 7).toNat ++
      BitVec.ofNat 4 (imm.extractLsb' 0 4).toNat = imm := by
  ext i hi
  grind

theorem aluFields_of_append {b rsv f : Nat} (hb : b < 32) (hrsv : rsv < 128) (hf : f < 16) :
    let imm : BitVec 16 := BitVec.ofNat 5 b ++ BitVec.ofNat 7 rsv ++ BitVec.ofNat 4 f
    (imm.extractLsb' 11 5).toNat = b ∧ (imm.extractLsb' 4 7).toNat = rsv ∧ (imm.extractLsb' 0 4).toNat = f := by
  intro imm
  have hsecond : imm.extractLsb' 11 5 = BitVec.ofNat 5 b := by unfold imm; ext i hi; grind
  have hreserved : imm.extractLsb' 4 7 = BitVec.ofNat 7 rsv := by unfold imm; ext i hi; grind
  have hfunc : imm.extractLsb' 0 4 = BitVec.ofNat 4 f := by unfold imm; ext i hi; grind
  rw [hsecond, hreserved, hfunc]
  simp only [BitVec.toNat_ofNat]
  omega

/-- The word of a well-formed command decodes to it, for the thread that the command names. -/
theorem decode_encodeCoreWord {i : Instr} {w : BitVec 32} (hwf : i.wf = true) (henc : encodeCoreWord i = some w) :
    ∃ c t, c < 256 ∧ t < 8 ∧ decodeCoreWord c t w = some i := by
  cases i <;> simp only [encodeCoreWord, reduceCtorEq, Option.some.injEq] at henc <;> subst henc <;>
    simp only [Instr.wf, Bool.and_eq_true, decide_eq_true_eq] at hwf
  case alu c t d a b rsv f =>
    obtain ⟨⟨⟨⟨⟨⟨hc, ht⟩, hd⟩, ha⟩, hb⟩, hrsv⟩, hf⟩ := hwf
    obtain ⟨hsecond, hreserved, hfunc⟩ := aluFields_of_append hb hrsv hf
    refine ⟨c, t, hc, ht, ?_⟩
    rw [decodeCoreWord, coreFields_coreWord _ (by decide) hd ha]
    simp only [hsecond, hreserved, hfunc]
  case jal c t d low | twait c t d low | tsig c t d low =>
    obtain ⟨⟨hc, ht⟩, hd⟩ := hwf
    refine ⟨c, t, hc, ht, ?_⟩
    rw [decodeCoreWord, coreFields_coreWordLow _ (by decide) hd, low_coreWordLow]
    rfl
  all_goals
    obtain ⟨⟨⟨hc, ht⟩, hd⟩, ha⟩ := hwf
    refine ⟨_, _, hc, ht, ?_⟩
    rw [decodeCoreWord, coreFields_coreWord _ (by decide) hd ha]
    rfl

/-- A word that decodes to a command is the command's word. -/
theorem encode_decodeCoreWord {c t : Nat} {w : BitVec 32} {i : Instr} (h : decodeCoreWord c t w = some i) :
    encodeCoreWord i = some w := by
  simp only [decodeCoreWord, coreFields] at h
  split at h <;> simp only [reduceCtorEq, Option.some.injEq] at h <;> subst h <;> rename_i hop
  case h_1 =>
    have hword := coreWord_fields w
    rw [hop, ← aluFields_append (w.extractLsb' 0 16)] at hword
    exact congrArg some hword
  case h_24 | h_28 | h_29 =>
    have hword := coreWordLow_fields w
    rw [hop] at hword
    exact congrArg some hword
  all_goals
    have hword := coreWord_fields w
    rw [hop] at hword
    exact congrArg some hword

/-- Settles O56: the fields of a word built from fields are those fields, and a word is built from its own fields. -/
theorem coreWordRoundTrip : Obligations.CoreWordRoundTrip :=
  ⟨fun _ _ => decode_encodeCoreWord, fun _ _ _ _ => encode_decodeCoreWord⟩

/-- Settles O57: each word by its fields. -/
theorem coreWordsDecode : Obligations.CoreWordsDecode := fun _ _ => ⟨rfl, rfl, rfl, rfl, rfl, rfl⟩

end Sys2Proof.Machine
end

section
/-! What reset leaves, and the functions of ALU as numbers. -/

open Sys2Proof
namespace Sys2Proof.Machine

/-- Settles O2: every table of the state after reset is empty but that of the power domains, which holds domain 57 alone. -/
theorem resetState : Obligations.ResetState := by
  have hdom : ∀ d, (getDom State.reset d).st = if d = 57 then .on else .off := by
    intro d
    change (tget (tset [] 57 Dom.onDom) d Dom.offDom).st = _
    split
    · subst d
      rw [tget_tset_same]
      rfl
    · next hd =>
      rw [tget_tset_other _ _ _ hd]
      rfl
  exact ⟨rfl, rfl, hdom, rfl, rfl, rfl, rfl, rfl, fun _ => rfl, fun _ _ => rfl, fun _ => rfl, fun _ => rfl, rfl, rfl, rfl⟩

/-! ### The functions of ALU that are not a function of bit vectors -/

theorem toInt_mulHigh (a b : BitVec 64) : (aluOp 0x9 a b).toInt = a.toInt * b.toInt / 2 ^ 64 := by
  have ha := BitVec.le_toInt a
  have ha' := BitVec.toInt_lt (x := a)
  have hb := BitVec.le_toInt b
  have hb' := BitVec.toInt_lt (x := b)
  have habs : |a.toInt * b.toInt| ≤ 2 ^ 63 * 2 ^ 63 := by
    rw [abs_mul]
    exact mul_le_mul (abs_le.mpr ⟨ha, ha'.le⟩) (abs_le.mpr ⟨hb, hb'.le⟩) (abs_nonneg _) (by norm_num)
  obtain ⟨hlo, hhi⟩ := abs_le.mp habs
  simp only [aluOp, BitVec.toInt_ofInt]
  apply Int.bmod_eq_of_le
  · push_cast
    omega
  · push_cast
    omega

theorem toNat_flag64 (b : Bool) : (flag64 b).toNat = if b then 1 else 0 := by
  cases b <;> rfl

/-- The leading bits that `clz64` counts are zero, and the bit below them is set. -/
theorem clz64_spec (a : BitVec 64) :
    clz64 a ≤ 64 ∧ (∀ i < clz64 a, a.getLsbD (63 - i) = false) ∧ (clz64 a < 64 → a.getLsbD (63 - clz64 a) = true) := by
  have hclz : clz64 a = (List.range 64).findIdx (fun i => a.getLsbD (63 - i)) := by
    have hle := List.findIdx_le_length (p := fun i => a.getLsbD (63 - i)) (xs := List.range 64)
    simp only [clz64, List.takeWhile_eq_take_findIdx_not, Bool.not_not, List.length_take]
    omega
  rw [hclz]
  refine ⟨?_, fun i hi => ?_, fun hlt => ?_⟩
  · simpa using List.findIdx_le_length (p := fun i => a.getLsbD (63 - i)) (xs := List.range 64)
  · simpa using List.not_of_lt_findIdx hi
  · have h := List.findIdx_getElem (p := fun i => a.getLsbD (63 - i)) (xs := List.range 64) (w := by simpa using hlt)
    simpa using h

theorem toNat_lt_of_clz64 (a : BitVec 64) : a.toNat < 2 ^ (64 - clz64 a) := by
  obtain ⟨hle, hzero, _⟩ := clz64_spec a
  refine Nat.lt_pow_two_of_testBit _ fun i hi => ?_
  rw [BitVec.testBit_toNat]
  by_cases h64 : i < 64
  · have h := hzero (63 - i) (by omega)
    rwa [Nat.sub_sub_self (by omega)] at h
  · exact BitVec.getLsbD_of_ge a i (by omega)

theorem pow_clz64_le (a : BitVec 64) (ha : a.toNat ≠ 0) : 2 ^ (63 - clz64 a) ≤ a.toNat := by
  obtain ⟨hle, _, hone⟩ := clz64_spec a
  have hlt : clz64 a < 64 := by
    by_contra h
    have hzero := toNat_lt_of_clz64 a
    rw [show 64 - clz64 a = 0 by omega] at hzero
    omega
  exact Nat.ge_two_pow_of_testBit ((BitVec.testBit_toNat a).trans (hone hlt))

theorem length_filter_eq_sum (p : Nat → Bool) (l : List Nat) : (l.filter p).length = (l.map (fun i => (p i).toNat)).sum :=
    by
  induction l with
  | nil => rfl
  | cons x l ih =>
    cases hx : p x <;> simp [hx, ih]
    omega

theorem popc64_eq_sum (a : BitVec 64) : popc64 a = ((List.range 64).map (fun i => a.toNat / 2 ^ i % 2)).sum := by
  simp only [popc64, length_filter_eq_sum, ← BitVec.testBit_toNat, Nat.toNat_testBit]

/-- Settles O3, function by function; the counts of leading zeros and of ones by what they say of the bits. -/
theorem aluFunctions : Obligations.AluFunctions := by
  intro a b
  refine ⟨?add, ?sub, ?and, ?or, ?xor, ?shl, ?shr, ?sar, ?mul, toInt_mulHigh a b, ?slt, ?ult, ?min, ?max, ?clz, ?popc⟩
  case add => exact BitVec.toNat_add a b
  case sub =>
    have hb := b.isLt
    simp only [aluOp, BitVec.toNat_sub]
    omega
  case and => exact fun _ => BitVec.getLsbD_and
  case or => exact fun _ => BitVec.getLsbD_or
  case xor => exact fun _ => BitVec.getLsbD_xor
  case shl => simp only [aluOp, BitVec.toNat_shiftLeft, Nat.shiftLeft_eq]
  case shr => simp only [aluOp, BitVec.toNat_ushiftRight, Nat.shiftRight_eq_div_pow]
  case sar =>
    simp only [aluOp, BitVec.toInt_sshiftRight, Int.shiftRight_eq_div_pow]
    norm_cast
  case mul => exact BitVec.toNat_mul a b
  case slt => simp only [aluOp, toNat_flag64, BitVec.slt_iff_toInt_lt]
  case ult => simp only [aluOp, toNat_flag64, BitVec.ult_iff_toNat_lt]
  case min =>
    simp only [aluOp, BitVec.slt_iff_toInt_lt]
    split <;> omega
  case max =>
    simp only [aluOp, BitVec.slt_iff_toInt_lt]
    split <;> omega
  case clz =>
    obtain ⟨hle, _⟩ := clz64_spec a
    have hnum : (aluOp 0xE a b).toNat = clz64 a := by
      simp only [aluOp, BitVec.toNat_ofNat]
      omega
    rw [hnum]
    exact ⟨hle, toNat_lt_of_clz64 a, pow_clz64_le a⟩
  case popc =>
    have hle : popc64 a ≤ 64 := (List.length_filter_le _ _).trans (by simp)
    simp only [aluOp, BitVec.toNat_ofNat, ← popc64_eq_sum]
    omega

end Sys2Proof.Machine
end

section
/-! A response: where it goes, and what it leaves. -/

open Sys2Proof
namespace Sys2Proof.Machine

theorem toEgress_resp_eq_with (s : State) {e : EthOut} {b : Bind} {sid seq op st detail : Nat} {body : List Byte}
    (h : e.e = .resp b sid seq op st detail body) : ∃ egress, toEgress s e = { s with egress := egress } := by
  unfold toEgress
  simp only [h]
  split
  · exact ⟨_, rfl⟩
  · exact ⟨_, rfl⟩

theorem foldl_toEgress_resp_eq_with {b : Bind} {sid seq op st detail : Nat} {body : List Byte} (l : List EthOut) (s : State)
    (h : ∀ e ∈ l, e.e = .resp b sid seq op st detail body) : ∃ egress, l.foldl toEgress s = { s with egress := egress } :=
        by
  induction l generalizing s with
  | nil => exact ⟨_, rfl⟩
  | cons e l ih =>
    obtain ⟨_, he⟩ := toEgress_resp_eq_with s (h e List.mem_cons_self)
    obtain ⟨_, hl⟩ := ih (toEgress s e) fun x hx => h x (List.mem_cons_of_mem _ hx)
    rw [List.foldl_cons, hl, he]
    exact ⟨_, rfl⟩

/-- A response that goes out changes what is sent and the egress queues alone. -/
theorem emit_resp_eq_with (s : State) (b : Bind) (sid seq op st detail : Nat) (body : List Byte) :
    ∃ egress, s.emit (.resp b sid seq op st detail body) =
      { s with out := .resp b sid seq op st detail body :: s.out, egress := egress } := by
  refine foldl_toEgress_resp_eq_with (b := b) (sid := sid) (seq := seq) (op := op) (st := st) (detail := detail)
      (body := body) _ _
    fun e he => ?_
  simp only [Emit.ethFrames, wcpFrames, List.mem_map] at he
  obtain ⟨_, _, rfl⟩ := he
  rfl

/-- The session whose entry a response is. -/
def Session.answers (x : Session) (n : Request) (st detail : Nat) (body : List Byte) : Session :=
  { x with cache := (⟨n.seq, n.opcode, st, detail, body⟩ :: x.cache).take 64 }

theorem respond_sessionless (s : State) {n : Request} (st detail : Nat) (body : List Byte) (h : n.session = 0) :
    ∃ egress, respond s n st detail body =
      { s with out := .resp n.bind 0 n.seq n.opcode st detail body :: s.out, egress := egress } := by
  unfold respond
  rw [if_pos h]
  exact emit_resp_eq_with _ _ _ _ _ _ _ _

theorem respond_session (s : State) {n : Request} {x : Session} (st detail : Nat) (body : List Byte) (h : n.session ≠ 0)
    (hx : findSession s n.session = some x) :
    ∃ egress, respond s n st detail body =
      { setSession s (x.answers n st detail body) with
        out := .resp x.bind x.id n.seq n.opcode st detail body :: s.out, egress := egress } := by
  unfold respond
  rw [if_neg h, hx]
  exact emit_resp_eq_with _ _ _ _ _ _ _ _

theorem respond_unknown (s : State) {n : Request} (st detail : Nat) (body : List Byte) (h : n.session ≠ 0)
    (hx : findSession s n.session = none) : respond s n st detail body = s := by
  unfold respond
  rw [if_neg h, hx]

theorem id_of_findSession {s : State} {id : Nat} {x : Session} (h : findSession s id = some x) : x.id = id := by
  simpa using List.find?_some h

theorem findSession_setSession (s : State) {id : Nat} {x y : Session} (h : findSession s id = some x) (hy : y.id = id) :
    findSession (setSession s y) id = some y := by
  have hx : (fun z : Session => decide ((if z.id = y.id then y else z).id = id)) = fun z => decide (z.id = id) := by
    funext z
    split
    · next hz => simp [hz, hy]
    · rfl
  simp only [findSession, setSession, State.withWcp, List.find?_map, Function.comp_def, hx]
  rw [show s.wcp.sessions.find? (fun z => decide (z.id = id)) = some x from h]
  simp [id_of_findSession h, hy]

theorem map_id_setSession (s : State) (y : Session) :
    (setSession s y).wcp.sessions.map (fun z => z.id) = s.wcp.sessions.map (fun z => z.id) := by
  simp only [setSession, State.withWcp, List.map_map, Function.comp_def]
  refine List.map_congr_left fun z _ => ?_
  split
  · next hz => exact hz.symm
  · rfl

theorem mem_setSession_same {s : State} {y z : Session} (hz : z ∈ (setSession s y).wcp.sessions) (hid : z.id = y.id) : z = y
    := by
  obtain ⟨w, _, rfl⟩ := List.mem_map.mp hz
  by_cases hw : w.id = y.id
  · rw [if_pos hw]
  · rw [if_neg hw] at hid
    exact absurd hid hw

/-- What a response leaves: everything but its session's responses, what is sent, and the egress queues. -/
theorem respond_eq_with (s : State) (n : Request) (st detail : Nat) (body : List Byte) :
    ∃ sessions out egress, respond s n st detail body =
      { s with wcp := { s.wcp with sessions := sessions }, out := out, egress := egress } := by
  by_cases h : n.session = 0
  · obtain ⟨_, hu⟩ := respond_sessionless s st detail body h
    exact ⟨_, _, _, hu⟩
  · cases hx : findSession s n.session with
    | none => exact ⟨_, _, _, respond_unknown s st detail body h hx⟩
    | some x =>
      obtain ⟨_, hu⟩ := respond_session s st detail body h hx
      exact ⟨_, _, _, hu⟩

/-- A response goes to the address of its session, or of its datagram where it has none, and joins the session's responses.
    -/
theorem answered_respond (s : State) (n : Request) (st detail : Nat) (body : List Byte) :
    answered s (respond s n st detail body) n st detail body := by
  refine ⟨fun h => ?_, fun x h hx => ?_⟩
  · obtain ⟨_, hu⟩ := respond_sessionless s st detail body h
    rw [hu]
    rfl
  · obtain ⟨_, hu⟩ := respond_session s st detail body h hx
    rw [hu]
    have hid := id_of_findSession hx
    exact ⟨rfl, _, findSession_setSession s hx (y := x.answers n st detail body) hid, rfl⟩

/-- Settles O43, by whether the request has a session and whether the session is known. -/
theorem responsesKept : Obligations.ResponsesKept := by
  intro s n st detail body u
  obtain ⟨_, _, _, hu⟩ := respond_eq_with s n st detail body
  have hlaw : u = _ := hu
  refine ⟨answered_respond s n st detail body, by rw [hlaw], by rw [hlaw], ?_, fun y hy hid hne => ?_⟩
  · by_cases h : n.session = 0
    · obtain ⟨_, hu⟩ := respond_sessionless s st detail body h
      simp only [u, hu]
    · cases hx : findSession s n.session with
      | none => simp only [u, respond_unknown s st detail body h hx]
      | some x =>
        obtain ⟨_, hu⟩ := respond_session s st detail body h hx
        simp only [u, hu]
        exact map_id_setSession s _
  · cases hx : findSession s n.session with
    | none =>
      simp only [u, respond_unknown s st detail body hne hx] at hy
      exact absurd (decide_eq_true hid) (List.find?_eq_none.mp hx y hy)
    | some x =>
      obtain ⟨_, hu⟩ := respond_session s st detail body hne hx
      simp only [u, hu] at hy
      rw [mem_setSession_same hy (hid.trans (id_of_findSession hx).symm)]
      exact List.length_take_le _ _

end Sys2Proof.Machine
end

section
/-! What the keeper decides on a failed rank. -/

open Sys2Proof
namespace Sys2Proof.Machine

theorem lt_ranks_of_heldBy {t : GroupT} {f q : Nat} (h : heldBy t f = some q) : q < t.ranks := by
  unfold heldBy at h
  split at h
  · cases h
  · exact List.mem_range.mp (List.mem_of_find?_eq_some h)

/-- A change of what a verdict does not name yet is added to it. -/
theorem Verdict.put_new {v : Verdict} {c : Change} (h : ∀ x ∈ v.changes, x.idx ≠ c.idx) :
    v.put c = { v with changes := v.changes ++ [c] } := by
  have hany : v.changes.any (fun x => decide (x.idx = c.idx)) = false := by simpa using h
  simp [Verdict.put, hany]

section
variable {t : GroupT} {f q : Nat} {c : Change} (hf : f < t.ranks) (hlive : (memOf t f).st = .live)
  (hq : heldBy t f = some q) (hne : q ≠ f) (hqlive : (memOf t q).st = .live)

/-- The changes of a verdict that begins with the loss of `q`'s copy and sets `f`. -/
def lossAnd (t : GroupT) (f q : Nat) (st : MState) : Verdict :=
  ⟨[⟨q, .live, false, (memOf t q).link⟩, ⟨f, st, (memOf t f).copy, 0⟩], []⟩

include hne in
theorem lossAnd_eq (st : MState) :
    ((⟨[], []⟩ : Verdict).put ⟨q, .live, false, (memOf t q).link⟩).set t f st 0 = lossAnd t f q st := by
  rw [Verdict.put_new (by simp), Verdict.set, Verdict.put_new (by simpa using hne)]
  rfl

include hf hlive hq hne hqlive

theorem keeperFail_lost (h : (memOf t f).copy = false ∨ (memOf t (memOf t f).partner).st ≠ .live) :
    keeperFail t f = some (lossAnd t f q .lost) := by
  have hnot : ¬ (MState.live = .covered ∨ MState.live = .filling) := by simp
  simp only [keeperFail, if_pos hf, hlive, hq, if_neg hnot, hqlive]
  rw [if_pos h.symm, if_neg (by simp), lossAnd_eq hne]

theorem keeperFail_copied (hcopy : (memOf t f).copy = true) (hpartner : (memOf t (memOf t f).partner).st = .live) :
    keeperFail t f = some (assignSpare t (lossAnd t f q .covered) f) := by
  have hnot : ¬ (MState.live = .covered ∨ MState.live = .filling) := by simp
  simp only [keeperFail, if_pos hf, hlive, hq, if_neg hnot, hqlive]
  rw [if_neg (by simp), if_neg (by simp [hcopy, hpartner]), lossAnd_eq hne]

end

/-- The condition on a spare that takes the place of a failed rank. -/
def spareFits (t : GroupT) (v : Verdict) (p : Nat) : Bool :=
  decide ((memOf t p).st = .ready) && !v.changes.any (fun c => decide (c.idx = p))

theorem assignSpare_none {t : GroupT} {v : Verdict} {f : Nat} (h : ∀ r, ¬
    (t.ranks ≤ r ∧ r < t.ranks + t.spares ∧ (memOf t r).st = .ready)) :
    assignSpare t v f = { v with events := v.events ++ [(0x4003, f)] } := by
  have hfind : ((List.range t.spares).map (· + t.ranks)).find? (spareFits t v) = none := by
    rw [List.find?_eq_none]
    intro r hr
    obtain ⟨i, hi, rfl⟩ := List.mem_map.mp hr
    have hnot := h (i + t.ranks)
    rw [List.mem_range] at hi
    simp only [spareFits, Bool.and_eq_true, decide_eq_true_eq]
    exact fun hready => hnot ⟨by omega, by omega, hready.1⟩
  unfold spareFits at hfind
  rw [assignSpare, hfind]

theorem assignSpare_lowest {t : GroupT} {v : Verdict} {f r : Nat} (hv : ∀ c ∈ v.changes, c.idx < t.ranks)
    (hlo : t.ranks ≤ r) (hhi : r < t.ranks + t.spares) (hready : (memOf t r).st = .ready)
    (hleast : ∀ p, t.ranks ≤ p ∧ p < t.ranks + t.spares ∧ (memOf t p).st = .ready → r ≤ p) :
    assignSpare t v f = (v.set t f .filling r).set t r .assigned f := by
  have hfind : ((List.range t.spares).map (· + t.ranks)).find? (spareFits t v) = some r := by
    have hfree : ∀ p, t.ranks ≤ p → v.changes.any (fun c => decide (c.idx = p)) = false := by
      intro p hp
      simp only [List.any_eq_false, decide_eq_true_eq]
      intro c hc heq
      have := hv c hc
      omega
    rw [List.find?_map, (List.find?_range_eq_some (i := r - t.ranks)).mpr]
    · simp
      omega
    · refine ⟨?_, List.mem_range.mpr (by omega), fun j hj => ?_⟩
      · simp [spareFits, Nat.sub_add_cancel hlo, hready, hfree r hlo]
      · have hnot : (memOf t (j + t.ranks)).st ≠ .ready := fun h => by
          have := hleast (j + t.ranks) ⟨by omega, by omega, h⟩
          omega
        simp [spareFits, hnot]
  unfold spareFits at hfind
  rw [assignSpare, hfind]

/-- Settles O32: the verdict on a live rank by whether it has a copy, and then by whether a spare is ready. -/
theorem keeperFailVerdicts : Obligations.KeeperFail := by
  intro t f q m ready qc hf
  refine ⟨fun hm => ?_, fun hlive hq hne hqlive => ⟨fun h => ?_, fun hcopy hpartner => ?_⟩⟩
  · rw [keeperFail, if_pos hf]
    exact if_pos hm
  · exact ⟨_, keeperFail_lost hf hlive hq hne hqlive h, rfl, rfl⟩
  · have hv : ∀ c ∈ (lossAnd t f q .covered).changes, c.idx < t.ranks := by
      simp [lossAnd, hf, lt_ranks_of_heldBy hq]
    have hlaw := keeperFail_copied hf hlive hq hne hqlive hcopy hpartner
    refine ⟨fun r hready hleast => ?_, fun hnone => ?_⟩
    · obtain ⟨hlo, hhi, hr⟩ := hready
      refine ⟨_, hlaw.trans (congrArg some (assignSpare_lowest hv hlo hhi hr hleast)), ?_⟩
      have hqr : q ≠ r := by have := lt_ranks_of_heldBy hq; omega
      have hfr : f ≠ r := by omega
      simp [lossAnd, Verdict.set, Verdict.put, hne, hqr, hfr, qc, m, hcopy]
    · refine ⟨_, hlaw.trans (congrArg some (assignSpare_none hnone)), rfl, ?_⟩
      simpa [lossAnd, qc] using hcopy

end Sys2Proof.Machine
end

section
/-! SUPPORT. What an event, a notification and a response leave: everything but the sessions, what is sent, the registers,
    the error
state and the egress queues. -/

open Sys2Proof
namespace Sys2Proof.Machine

/-- `u` is `s` but for what reporting changes: registers, error state, sessions, what is sent. -/
def Reports (s u : State) : Prop :=
  ∃ csr err sessions out egress wire, u =
    { s with csr := csr, err := err, wcp := { s.wcp with sessions := sessions }, out := out, egress := egress, wire := wire
        }

theorem Reports.refl (s : State) : Reports s s := ⟨_, _, _, _, _, _, rfl⟩

theorem Reports.trans {s u v : State} (hu : Reports s u) (hv : Reports u v) : Reports s v := by
  obtain ⟨_, _, _, _, _, _, rfl⟩ := hu
  obtain ⟨_, _, _, _, _, _, rfl⟩ := hv
  exact ⟨_, _, _, _, _, _, rfl⟩

theorem Reports.mem {s u : State} (h : Reports s u) : u.mem = s.mem := by
  obtain ⟨_, _, _, _, _, _, rfl⟩ := h
  rfl

theorem Reports.dev {s u : State} (h : Reports s u) : u.dev = s.dev := by
  obtain ⟨_, _, _, _, _, _, rfl⟩ := h
  rfl

theorem Reports.step {s u : State} (h : Reports s u) : u.step = s.step := by
  obtain ⟨_, _, _, _, _, _, rfl⟩ := h
  rfl

variable {s₀ s : State}

theorem reports_csrPut {off v : Nat} (h : Reports s₀ s) : Reports s₀ (csrPut s off v) := h.trans ⟨_, _, _, _, _, _, rfl⟩

theorem reports_bump {off k : Nat} (h : Reports s₀ s) : Reports s₀ (bump s off k) := reports_csrPut h

theorem reports_emit {e : Emit} (h : Reports s₀ s) : Reports s₀ (s.emit e) := by
  obtain ⟨_, _, _, he⟩ := emit_eq_with s e
  rw [he]
  exact h.trans ⟨_, _, _, _, _, _, rfl⟩

theorem reports_foldr_emit (es : List Emit) (h : Reports s₀ s) : Reports s₀ (es.foldr (fun e s => s.emit e) s) := by
  induction es with
  | nil => exact h
  | cons e es ih => exact reports_emit ih

theorem reports_notifyAll {code : Nat} {body : List Byte} (h : Reports s₀ s) : Reports s₀ (notifyAll s code body) := by
  have hsent := reports_foldr_emit (notifyList code (selfRank s) s.step body s.wcp.sessions).2.1
    (h.trans (v := { s with wcp := { s.wcp with
      sessions := (notifyList code (selfRank s) s.step body s.wcp.sessions).1 } }) ⟨_, _, _, _, _, _, rfl⟩)
  unfold notifyAll
  dsimp only
  split
  · exact hsent
  · exact reports_bump hsent

theorem reports_notifyGroup {code : Nat} {body : List Byte} (h : Reports s₀ s) : Reports s₀ (notifyGroup s code body) := by
  unfold notifyGroup
  split
  · exact reports_notifyAll h
  · exact h

theorem reports_notifyEvent {r : EventRec} (h : Reports s₀ s) : Reports s₀ (notifyEvent s r) := by
  unfold notifyEvent
  split
  · exact reports_notifyAll h
  · exact h

theorem reports_completion {r : Request} {st d : Nat} (h : Reports s₀ s) : Reports s₀ (completion s r st d) :=
    reports_notifyAll h

/-- An event of severity NOTE or CORRECTED. -/
theorem reports_raise_minor {code sev cls k src : Nat} {info : List Nat} (hsev : sev < 2) (h : Reports s₀ s) :
    Reports s₀ (raise s code sev cls k src info) := by
  obtain ⟨_, _, hr⟩ := raise_minor_eq_with s hsev code cls k src info
  rw [hr]
  exact h.trans ⟨_, _, _, _, _, _, rfl⟩

/-! ### The state of the device, and the end of a command in the background -/

/-- The state of the device changes, and is reported. -/
theorem setDev_reports (s : State) (d : DevState) : Reports { s with dev := d } (setDev s d) := by
  unfold setDev
  split
  · next h => exact h ▸ Reports.refl s
  · exact reports_notifyAll (Reports.refl _)

@[simp] theorem setDev_mem (s : State) (d : DevState) : (setDev s d).mem = s.mem := (setDev_reports s d).mem

@[simp] theorem setDev_dev (s : State) (d : DevState) : (setDev s d).dev = d := by
  obtain ⟨_, _, _, _, _, _, h⟩ := setDev_reports s d
  rw [h]

/-- The end of a background command takes it from those that run, and is reported. -/
theorem endBg_reports (s : State) (op st d : Nat) :
    ∃ running, Reports { s with wcp := { s.wcp with running := running } } (endBg s op st d) := by
  unfold endBg
  split
  · exact ⟨_, Reports.refl _⟩
  · exact ⟨_, reports_completion (Reports.refl _)⟩

end Sys2Proof.Machine
end

section
/-! The step boundary: publication, the start of a step, quiescing. -/

open Sys2Proof
namespace Sys2Proof.Machine

/-- A table built from pairs of distinct keys holds each of them. -/
theorem tget?_foldl_tset {α : Type} (l : List (Nat × α)) (t : Tbl α) {k : Nat} (h : ∀ e ∈ l, e.1 ≠ k) :
    tget? (l.foldl (fun t e => tset t e.1 e.2) t) k = tget? t k := by
  induction l generalizing t with
  | nil => rfl
  | cons e l ih =>
    rw [List.foldl_cons, ih _ fun x hx => h x (List.mem_cons_of_mem _ hx)]
    exact tget?_tset_other t _ (h e List.mem_cons_self).symm

theorem tget?_tableOf {α : Type} {l : List (Nat × α)} (hnodup : (l.map Prod.fst).Nodup) {e : Nat × α} (he : e ∈ l) :
    tget? (tableOf l) e.1 = some e.2 := by
  unfold tableOf
  generalize ([] : Tbl α) = t
  induction l generalizing t with
  | nil => cases he
  | cons x l ih =>
    rw [List.map_cons, List.nodup_cons] at hnodup
    rw [List.foldl_cons]
    rcases List.mem_cons.mp he with rfl | hmem
    · rw [tget?_foldl_tset l _ fun y hy heq => hnodup.1 (List.mem_map.mpr ⟨y, hy, heq⟩)]
      exact tget?_tset_same t _ _
    · exact ih hnodup.2 hmem _

/-- The keys of a rising table begin at its bound, and are distinct. -/
theorem keys_of_risesFrom {α : Type} {t : Tbl α} {n : Nat} (h : risesFrom n t = true) :
    (∀ e ∈ t, n ≤ e.1) ∧ (t.map Prod.fst).Nodup := by
  induction t generalizing n with
  | nil => exact ⟨by simp, List.nodup_nil⟩
  | cons e t ih =>
    rw [risesFrom, Bool.and_eq_true, decide_eq_true_eq] at h
    obtain ⟨hle, hrest⟩ := h
    obtain ⟨hall, hnodup⟩ := ih hrest
    refine ⟨fun x hx => ?_, ?_⟩
    · rcases List.mem_cons.mp hx with rfl | hx
      · exact hle
      · have := hall x hx
        omega
    · rw [List.map_cons, List.nodup_cons]
      refine ⟨fun hmem => ?_, hnodup⟩
      obtain ⟨x, hx, heq⟩ := List.mem_map.mp hmem
      have := hall x hx
      omega

/-- Settles O24: each command by the branch that its premises choose. -/
theorem boundaryPublishes : Obligations.BoundaryPublishes := by
  intro s
  refine ⟨fun hstage hrises => ?_, fun hdev hstage hlost hquiet => ?_, fun hdev hinsts hstage => ?_⟩
  · refine ⟨_, congrArg Host.Outcome.next (if_pos hstage), _, rfl, rfl, rfl, ?_, rfl, fun e he => ?_⟩
    · exact (csrGet_csrPut_same _ _ _).trans (Nat.mod_eq_of_lt (BitVec.isLt _))
    · have hnodup : (((validEntries s).map (fun e => (e.1, e.2.cur))).map Prod.fst).Nodup := by
        rw [List.map_map]
        exact (keys_of_risesFrom (risesFrom_filter _ _ _ hrises)).2
      exact tget?_tableOf hnodup (List.mem_map_of_mem he)
  · exact ⟨_, congrArg Host.Outcome.next (if_pos ⟨hdev, hstage, hlost, hquiet⟩), _, rfl, rfl, rfl, rfl, rfl, rfl, rfl, rfl⟩
  · have hcond : s.dev = .running ∧ s.mangle.insts.isEmpty ∧ ((s.pru.stage = .published ∧ quiescesNow s) ∨
        (s.inStep = false ∧ s.pru.stage = .none ∧ (quiesceStep s).isSome)) :=
      ⟨hdev, by rw [hinsts]; rfl, hstage⟩
    refine ⟨_, congrArg Host.Outcome.next (if_pos hcond), ?_⟩
    have hset := setDev_reports s .quiesced
    obtain ⟨_, hend⟩ := endBg_reports (setDev s .quiesced) 0x0302 stOk 0
    exact ⟨hend.dev.trans hset.dev, hend.mem.trans hset.mem, hend.step.trans hset.step⟩

end Sys2Proof.Machine
end

section
/-! The register instructions. -/

open Sys2Proof
namespace Sys2Proof.Machine

variable {s : State} {c t : Nat}

/-- A register instruction that issues writes its result and stands at the next instruction. -/
theorem issueReg_put {uses : List Nat} {gd : Nat} (v : Thread → BitVec 64) (hmay : mayIssue (drainBuffer s c t) c t = true)
    (huses : ∀ g ∈ uses, (getThread (drainBuffer s c t) c t).awaited g = false) :
    wroteReg (drainBuffer s c t) (issueReg s c t uses (fun x => x.put gd (v x))) c t gd
      (v (getThread (drainBuffer s c t) c t)) := by
  have hissues : ¬ (mayIssue (drainBuffer s c t) c t = false ∨ uses.any (getThread (drainBuffer s c t) c t).awaited = true)
      := by
    rw [hmay, List.any_eq_true]
    rintro (h | ⟨g, hg, h⟩)
    · cases h
    · rw [huses g hg] at h
      cases h
  unfold issueReg
  dsimp only
  rw [if_neg hissues]
  refine ⟨?_, ?_⟩
  · rw [getThread_setThread_same]
  · rw [getThread_setThread_same]
    exact ⟨wrote_of_regs_eq rfl, rfl, rfl⟩

/-- A legal instruction of ALU's kind whose operands no waiting instruction writes completes with its result. -/
theorem completes_issueAlu {i : Instr} {uses : List Nat} {gd : Nat} {legal : Bool} {f : Thread → BitVec 64} {v : BitVec 64}
    (hexec : exec i s = .next (issueAlu s c t gd uses legal f)) (hlegal : legal = true)
    (hmay : mayIssue (drainBuffer s c t) c t = true) (hgd : (getThread (drainBuffer s c t) c t).awaited gd = false)
    (huses : ∀ g ∈ uses, (getThread (drainBuffer s c t) c t).awaited g = false)
    (hv : f (getThread (drainBuffer s c t) c t) = v) :
    completes i s (fun u => wroteReg (drainBuffer s c t) u c t gd v) := by
  have hwrote := issueReg_put (gd := gd) f hmay (uses := gd :: uses) (by simpa using ⟨hgd, huses⟩)
  refine ⟨_, hexec, ?_⟩
  rw [issueAlu, if_pos hlegal, ← hv]
  exact hwrote

/-- Bits 7:6 of the operand of SHIFTI choose the shift, and bits 5:0 its count. -/
theorem shiftFields (imm : BitVec 16) (k : Nat) (hk : k < 3) (hlo : 0x40 * k ≤ imm.toNat) (hhi : imm.toNat < 0x40 * (k + 1))
    :
    bitsOf imm.toNat 15 8 = 0 ∧ bitsOf imm.toNat 7 6 = k ∧ bitsOf imm.toNat 5 0 = imm.toNat - 0x40 * k := by
  simp only [bitsOf_eq_div_mod]
  norm_num
  omega

theorem flag64_slt_sext16 (a : BitVec 64) (imm : BitVec 16) :
    flag64 (a.slt (sext16 imm)) = if a.toInt < imm.toInt then 1#64 else 0#64 := by
  have hsext : (sext16 imm).toInt = imm.toInt := BitVec.toInt_signExtend_of_le (by omega)
  simp only [flag64, BitVec.slt_iff_toInt_lt, hsext]

theorem shori_eq_ofNat (a : BitVec 64) (imm : BitVec 16) :
    (a <<< 16) ||| zext16 imm = BitVec.ofNat 64 (a.toNat * 2 ^ 16 + imm.toNat) := by
  have himm := imm.isLt
  have hhigh : a.toNat * 2 ^ 16 % 2 ^ 64 = 2 ^ 16 * (a.toNat % 2 ^ 48) := by omega
  apply BitVec.eq_of_toNat_eq
  rw [BitVec.toNat_or, BitVec.toNat_shiftLeft, Nat.shiftLeft_eq, hhigh, zext16, BitVec.toNat_setWidth,
    Nat.mod_eq_of_lt (show imm.toNat < 2 ^ 64 by omega), ← Nat.two_pow_add_eq_or_of_lt himm, BitVec.toNat_ofNat]
  omega

theorem lui_eq_ofInt (imm : BitVec 16) : sext16 imm <<< 16 = BitVec.ofInt 64 (imm.toInt * 2 ^ 16) := by
  rw [BitVec.shiftLeft_eq_mul_twoPow, BitVec.ofInt_mul]
  rfl

/-- Settles O4: each instruction by the value that it computes. -/
theorem registerInstructions : Obligations.RegisterInstructions := by
  intro s c t gd ga gb func imm s1 x hmay hgd
  have hshift : ∀ k v, k < 3 → 0x40 * k ≤ imm.toNat → imm.toNat < 0x40 * (k + 1) → x.awaited ga = false →
      shiftImm (x.reg ga) imm = v → completes (.shifti c t gd ga imm) s (fun u => wroteReg s1 u c t gd v) := by
    intro k v hk hlo hhi hga hv
    obtain ⟨hhigh, hkind, -⟩ := shiftFields imm k hk hlo hhi
    have hlegal : shiftLegal imm = true := by
      have : k ≠ 3 := by omega
      simp [shiftLegal, hhigh, hkind, this]
    exact completes_issueAlu rfl hlegal hmay hgd (by simpa using hga) hv
  refine ⟨fun hga hgb hfunc => ?_, fun hga => ⟨?_, ?_, ?_, ?_, ?_, ?_, fun hhi => ?_, fun hlo hhi => ?_, fun hlo hhi => ?_⟩,
      ?_⟩
  · exact completes_issueAlu rfl (by simpa [aluLegal] using hfunc) hmay hgd (by simpa using ⟨hga, hgb⟩) rfl
  · exact completes_issueAlu rfl rfl hmay hgd (by simpa using hga) rfl
  · exact completes_issueAlu rfl rfl hmay hgd (by simpa using hga) rfl
  · exact completes_issueAlu rfl rfl hmay hgd (by simpa using hga) rfl
  · exact completes_issueAlu rfl rfl hmay hgd (by simpa using hga) rfl
  · exact completes_issueAlu rfl rfl hmay hgd (by simpa using hga) (flag64_slt_sext16 _ _)
  · exact completes_issueAlu rfl rfl hmay hgd (by simpa using hga) (shori_eq_ofNat _ _)
  · refine hshift 0 _ (by omega) (by omega) (by omega) hga ?_
    obtain ⟨-, hkind, hcount⟩ := shiftFields imm 0 (by omega) (by omega) (by omega)
    simp [shiftImm, hkind, hcount]
  · refine hshift 1 _ (by omega) (by omega) (by omega) hga ?_
    obtain ⟨-, hkind, hcount⟩ := shiftFields imm 1 (by omega) (by omega) (by omega)
    simp [shiftImm, hkind, hcount]
  · refine hshift 2 _ (by omega) (by omega) (by omega) hga ?_
    obtain ⟨-, hkind, hcount⟩ := shiftFields imm 2 (by omega) (by omega) (by omega)
    simp [shiftImm, hkind, hcount]
  · exact completes_issueAlu rfl rfl hmay hgd (by simp) (lui_eq_ofInt imm)

end Sys2Proof.Machine
end

section
/-! The loads and stores of a control core. -/

open Sys2Proof
namespace Sys2Proof.Machine

/-- What every step of a fold keeps, the fold keeps. -/
theorem foldl_rel {σ α : Type} {R : σ → σ → Prop} (hrefl : ∀ s, R s s) (htrans : ∀ {s u v}, R s u → R u v → R s v)
    {f : σ → α → σ} (h : ∀ s x, R s (f s x)) (l : List α) (s : σ) : R s (l.foldl f s) := by
  induction l generalizing s with
  | nil => exact hrefl s
  | cons x l ih => exact htrans (h s x) (ih _)

/-! ### Waiting for memory -/

/-- `u` is `s` but for the queues of the stacks and the demand on domains. -/
def Waits (s u : State) : Prop := ∃ hbm power, u = { s with hbm := hbm, power := power }

theorem Waits.refl (s : State) : Waits s s := ⟨_, _, rfl⟩

theorem Waits.trans {s u v : State} (hu : Waits s u) (hv : Waits u v) : Waits s v := by
  obtain ⟨_, _, rfl⟩ := hu
  obtain ⟨_, _, rfl⟩ := hv
  exact ⟨_, _, rfl⟩

theorem wakeFor_waits (s : State) (a : Nat) : Waits s (wakeFor s a) := by
  unfold wakeFor wakeCluster
  split
  · exact Waits.refl s
  · next d _ =>
    split
    · obtain ⟨_, h⟩ := settleDom_eq_with (setDom s d { getDom s d with wait := false }) d
      exact ⟨_, _, h⟩
    · exact Waits.refl s

theorem waitFor_waits (s : State) (r : HbmReq) (a n : Nat) : Waits s (waitFor s r a n) := by
  unfold waitFor wakeRange
  refine (foldl_rel Waits.refl Waits.trans (fun u p => wakeFor_waits u _) _ s).trans
    (foldl_rel Waits.refl Waits.trans (fun u p => ?_) _ _)
  dsimp only
  split
  · exact Waits.refl u
  · exact ⟨_, _, rfl⟩

theorem Waits.mem {s u : State} (h : Waits s u) : u.mem = s.mem := by
  obtain ⟨_, _, rfl⟩ := h
  rfl

theorem Waits.getThread {s u : State} (h : Waits s u) (c t : Nat) : getThread u c t = getThread s c t := by
  obtain ⟨_, _, rfl⟩ := h
  rfl

/-! ### What a read meets -/

theorem readMeets_of_no_upset {s : State} {a n : Nat} (h : upsetsIn s a n = []) : readMeets s a n = s := by
  rw [readMeets, h]
  rfl

theorem memCorrected_eq_with (s : State) (a : Nat) : ∃ csr err, memCorrected s a = { s with csr := csr, err := err } := by
  have hraise : ∀ (u : State) k n, ∃ csr err, raise u 0x2001 1 3 k n = { u with csr := csr, err := err } :=
    fun u k n => raise_minor_eq_with u (by decide) _ _ _ _ _
  unfold memCorrected
  generalize memSource a = p
  obtain ⟨k, n⟩ := p
  dsimp only
  split
  · exact hraise (bump s _) _ _
  · exact hraise (bump s _) _ _
  · exact hraise s _ _

@[simp] theorem memCorrected_cacheErr (s : State) (a : Nat) : (memCorrected s a).cacheErr = s.cacheErr := by
  obtain ⟨_, _, h⟩ := memCorrected_eq_with s a
  rw [h]

theorem foldl_memCorrected_cacheErr {α : Type} (a : Nat) (l : List α) (s : State) :
    (l.foldl (fun s _ => memCorrected s a) s).cacheErr = s.cacheErr :=
  foldl_keeps _ State.cacheErr (fun s _ => memCorrected_cacheErr s a) l s

/-- The errors that a lookup of a line meets in a cache. -/
def cacheHits (s : State) (k line : Nat) : List (Nat × Nat × Bool) :=
  s.cacheErr.filter (fun e => decide (e.1 = k) && decide (e.2.1 = line))

theorem meetCache_of_no_hit {s : State} {c k line : Nat} (h : cacheHits s k line = []) : meetCache s c k line = s := by
  unfold cacheHits at h
  simp only [meetCache, h, List.isEmpty_nil, if_true]

/-- A lookup that meets an error takes it away. -/
theorem meetCache_cacheErr_length {s : State} {c k line : Nat} (h : cacheHits s k line ≠ []) :
    (meetCache s c k line).cacheErr.length < s.cacheErr.length := by
  have hlost : (s.cacheErr.filter (fun e => decide (e.1 ≠ k) || decide (e.2.1 ≠ line))).length < s.cacheErr.length := by
    obtain ⟨e, he⟩ := List.exists_mem_of_ne_nil _ h
    obtain ⟨hmem, hhit⟩ := List.mem_filter.mp he
    refine List.length_filter_lt_length_iff_exists.mpr ⟨e, hmem, ?_⟩
    simpa using hhit
  have hne : (s.cacheErr.filter (fun e => decide (e.1 = k) && decide (e.2.1 = line))).isEmpty ≠ true := by
    rw [List.isEmpty_iff.ne]
    exact h
  have heq : meetCache s c k line = _ := if_neg hne
  rw [heq, foldl_memCorrected_cacheErr]
  split
  · exact hlost
  · split <;> exact hlost

/-- A line that a lookup of a core meets: in its L1, else in the cache of its cluster. -/
def meetLine (c : Nat) (s : State) (x : Nat) : State :=
  let s1 := if (getCore s c).l1.contains x then meetCache s c c x else s
  if (getCore s1 c).l1.contains x then s1
  else if (tget s1.ccache (clusterOf c) []).contains x then meetCache s1 c (256 + clusterOf c) x else s1

theorem cacheMeets_eq_foldl (s : State) (c a n : Nat) : cacheMeets s c a n = (linesOf a n).foldl (meetLine c) s := rfl

/-- The lookup of a line meets no error. -/
def meetsNone (s : State) (c x : Nat) : Prop :=
  (x ∈ (getCore s c).l1 → cacheHits s c x = []) ∧
  (x ∉ (getCore s c).l1 → x ∈ tget s.ccache (clusterOf c) [] → cacheHits s (256 + clusterOf c) x = [])

theorem meetLine_of_mem {s : State} {c x : Nat} (hin : x ∈ (getCore s c).l1) : meetLine c s x =
    let s1 := meetCache s c c x
    if x ∈ (getCore s1 c).l1 then s1
    else if x ∈ tget s1.ccache (clusterOf c) [] then meetCache s1 c (256 + clusterOf c) x else s1 := by
  simp only [meetLine, List.contains_iff_mem, hin, if_true]

theorem meetLine_of_not_mem {s : State} {c x : Nat} (hin : x ∉ (getCore s c).l1) : meetLine c s x =
    if x ∈ tget s.ccache (clusterOf c) [] then meetCache s c (256 + clusterOf c) x else s := by
  simp only [meetLine, List.contains_iff_mem, hin, if_false]

theorem meetLine_of_meetsNone {s : State} {c x : Nat} (h : meetsNone s c x) : meetLine c s x = s := by
  obtain ⟨hl1, hcluster⟩ := h
  by_cases hin : x ∈ (getCore s c).l1
  · rw [meetLine_of_mem hin, meetCache_of_no_hit (hl1 hin)]
    exact if_pos hin
  · rw [meetLine_of_not_mem hin]
    split
    · next hc => exact meetCache_of_no_hit (hcluster hin hc)
    · rfl

theorem meetCache_cases (s : State) (c k x : Nat) :
    cacheHits s k x = [] ∨ (meetCache s c k x).cacheErr.length < s.cacheErr.length :=
  or_iff_not_imp_left.mpr meetCache_cacheErr_length

theorem meetLine_cases (s : State) (c x : Nat) :
    meetsNone s c x ∨ (meetLine c s x).cacheErr.length < s.cacheErr.length := by
  by_cases hin : x ∈ (getCore s c).l1
  · rcases meetCache_cases s c c x with hnone | hless
    · exact .inl ⟨fun _ => hnone, fun h => absurd hin h⟩
    · right
      rw [meetLine_of_mem hin]
      dsimp only
      split
      · exact hless
      · split
        · rcases meetCache_cases (meetCache s c c x) c (256 + clusterOf c) x with hnone | hless'
          · rw [meetCache_of_no_hit hnone]
            exact hless
          · exact hless'.trans hless
        · exact hless
  · rw [meetLine_of_not_mem hin]
    split
    · exact (meetCache_cases s c (256 + clusterOf c) x).imp (fun hnone => ⟨fun h => absurd h hin, fun _ _ => hnone⟩) id
    · next hc => exact .inl ⟨fun h => absurd h hin, fun _ h => absurd h hc⟩

/-- A lookup that leaves the state as it is met no error on any line. -/
theorem meetsNone_of_foldl {l : List Nat} {s : State} {c : Nat} (h : l.foldl (meetLine c) s = s) : ∀ x ∈ l, meetsNone s c x
    := by
  have hle : ∀ (l : List Nat) (u : State), (l.foldl (meetLine c) u).cacheErr.length ≤ u.cacheErr.length := fun l u =>
    foldl_rel (R := fun s u => u.cacheErr.length ≤ s.cacheErr.length) (fun _ => le_refl _) (fun hu hv => hv.trans hu)
        (fun s x => by
      rcases meetLine_cases s c x with hnone | hless
      · rw [meetLine_of_meetsNone hnone]
      · exact hless.le) l u
  induction l with
  | nil => simp
  | cons x l ih =>
    rw [List.foldl_cons] at h
    rcases meetLine_cases s c x with hnone | hless
    · rw [meetLine_of_meetsNone hnone] at h
      intro y hy
      rcases List.mem_cons.mp hy with rfl | hy
      · exact hnone
      · exact ih h y hy
    · have := hle l (meetLine c s x)
      rw [h] at this
      omega

theorem foldl_meetLine_of_meetsNone {l : List Nat} {s : State} {c : Nat} (h : ∀ x ∈ l, meetsNone s c x) : l.foldl
    (meetLine c) s = s := by
  induction l with
  | nil => rfl
  | cons x l ih =>
    rw [List.foldl_cons, meetLine_of_meetsNone (h x List.mem_cons_self)]
    exact ih fun y hy => h y (List.mem_cons_of_mem _ hy)

/-- A lookup depends on the caches and their errors alone. -/
theorem cacheMeets_congr {s u : State} {c a n : Nat} (herr : u.cacheErr = s.cacheErr) (hccache : u.ccache = s.ccache)
    (hl1 : (getCore u c).l1 = (getCore s c).l1) (h : cacheMeets s c a n = s) : cacheMeets u c a n = u := by
  rw [cacheMeets_eq_foldl] at h ⊢
  have hnone := meetsNone_of_foldl h
  refine foldl_meetLine_of_meetsNone fun x hx => ?_
  have := hnone x hx
  unfold meetsNone cacheHits at this ⊢
  rwa [herr, hccache, hl1]

end Sys2Proof.Machine
end

section
/-! O5 and O6. Loads and stores: what they meet, and what they leave. -/

open Sys2Proof
namespace Sys2Proof.Machine

variable {s : State} {c t : Nat}

theorem getCore_advanced_l1 (s : State) (c t d : Nat) : (getCore (advanced s c t) d).l1 = (getCore s d).l1 := by
  unfold advanced setThread
  by_cases h : d = c
  · subst h
    rw [getCore_setCore_same]
  · rw [getCore_setCore_other _ _ h]

theorem l1Holds_advanced (s : State) (c t a n : Nat) : l1Holds (advanced s c t) c a n = l1Holds s c a n := by
  simp only [l1Holds, getCore_advanced_l1]

theorem cacheMeets_advanced {a n : Nat} (h : cacheMeets s c a n = s) : cacheMeets (advanced s c t) c a n = advanced s c t :=
  cacheMeets_congr (s := s) (u := advanced s c t) rfl rfl (getCore_advanced_l1 s c t c) h

/-- A thread that has no branch open and nothing waiting and writes one register. -/
theorem wroteReg_putAll (hnow : issuesNow s c t) (gd : Nat) (v : BitVec 64) :
    wroteReg s (setThread (advanced s c t) c t ((getThread (advanced s c t) c t).putAll gd v)) c t gd v := by
  obtain ⟨-, hbranches, hbuffer⟩ := hnow
  rw [wroteReg, getThread_setThread_same, getThread_advanced]
  refine ⟨setThread_setThread s c t _ _, wrote_of_regs_eq rfl, rfl, ?_⟩
  simp [Thread.putAll, hbranches, hbuffer]

/-- What `doLoad` does with an access that meets no fault and no error. -/
theorem doLoad_cases {u : State} {pc k gd : Nat} {signed : Bool} {a : BitVec 64} (hcause : accessCause u c k false a = 0)
    (hbad : badIn u a.toNat k = []) (hupsets : upsetsIn u a.toNat k = []) (hheld : accessHeld u a.toNat = false)
    (hmeets : ownScratch c a.toNat = true ∨ cacheMeets u c a.toNat k = u) :
    (ownScratch c a.toNat = true ∨ l1Holds u c a.toNat k = true →
      doLoad u c t pc k signed gd a = setThread u c t ((getThread u c t).putAll gd (loadValue u k signed a.toNat))) ∧
    (ownScratch c a.toNat = false → l1Holds u c a.toNat k = false → ∃ w, Waits u w ∧
      doLoad u c t pc k signed gd a = park w c t .miss (.miss gd (loadValue u k signed a.toNat) a.toNat true)) := by
  have hreads : readMeets u a.toNat k = u := readMeets_of_no_upset hupsets
  have hlooks : (if ownScratch c a.toNat then u else cacheMeets u c a.toNat k) = u := by
    rcases hmeets with h | h
    · rw [h, if_pos rfl]
    · rw [h, ite_self]
  unfold doLoad
  rw [hcause]
  dsimp only
  rw [hlooks, hreads, hbad]
  refine ⟨fun hown => ?_, fun hown hl1 => ?_⟩
  · cases h : ownScratch c a.toNat with
    | true => simp [missTaken, hheld, h]
    | false =>
      have hl1 : l1Holds u c a.toNat k = true := hown.resolve_left (by simp [h])
      simp [missTaken, hheld, h, hl1]
  · have htaken : missTaken u c a.toNat k = true := by simp [missTaken, hown, hl1]
    cases hc : cacheHolds u c a.toNat k with
    | true => exact ⟨u, Waits.refl u, by simp [htaken, hown]⟩
    | false => exact ⟨_, waitFor_waits u (threadReq u c t) (a.toNat / 64 * 64) 64, by simp [htaken, hown, sendMiss, hc]⟩

/-- A load that meets no fault and no error, performed by a thread that issues now. -/
theorem completes_load {i : Instr} {k gd : Nat} {signed : Bool} {a v : BitVec 64} (hnow : issuesNow s c t)
    {uses : List Nat} {op : Thread → CoreOp} (hexec : exec i s = .next (issueOther s c t uses true op))
    (hop : op (getThread s c t) = .load k signed gd a) (halign : a.toNat % k = 0)
    (hmay : mayAccess s (coreClass s c) false a.toNat k = true) (hbad : badIn s a.toNat k = [])
    (hupsets : upsetsIn s a.toNat k = []) (hheld : accessHeld s a.toNat = false)
    (hmeets : ownScratch c a.toNat = true ∨ cacheMeets s c a.toNat k = s) (hv : loadValue s k signed a.toNat = v) :
    completes i s (fun u => u.mem = s.mem ∧
      (ownScratch c a.toNat = true ∨ l1Holds s c a.toNat k = true → wroteReg s u c t gd v) ∧
      (ownScratch c a.toNat = false → l1Holds s c a.toNat k = false →
        (getThread u c t).st = .miss ∧ (getThread u c t).blocked = .miss gd v a.toNat true ∧ passedBy s u c t)) := by
  have hcause : accessCause (advanced s c t) c k false a = 0 := by
    rw [accessCause_advanced]
    simp [accessCause, halign, hmay]
  obtain ⟨hhit, hmiss⟩ := doLoad_cases (t := t) (pc := (getThread s c t).pc) (gd := gd) (signed := signed) hcause hbad
      hupsets hheld
    (hmeets.imp_right cacheMeets_advanced)
  have hvalue : loadValue (advanced s c t) k signed a.toNat = v := hv
  rw [l1Holds_advanced, hvalue] at hhit hmiss
  have hrunning := running_of_issuesNow hnow
  have hperform : performOp (advanced s c t) c t (getThread s c t).pc (op (getThread s c t)) =
      doLoad (advanced s c t) c t (getThread s c t).pc k signed gd a := by
    rw [hop]
    rfl
  rw [completes, hexec]
  refine ⟨_, rfl, ?_⟩
  cases hown : ownScratch c a.toNat || l1Holds s c a.toNat k with
  | true =>
    rw [Bool.or_eq_true] at hown
    have hwrote := wroteReg_putAll hnow gd v
    have hu : issueOther s c t uses true op = _ := issueOther_of_ne_exception hnow uses (hperform.trans (hhit hown)) (by
      rw [getThread_setThread_same]
      simp [Thread.putAll, hrunning])
    rw [hu]
    refine ⟨rfl, fun _ => hwrote, fun hno hl1 => ?_⟩
    rw [hno, hl1] at hown
    simp at hown
  | false =>
    rw [Bool.or_eq_false_iff] at hown
    obtain ⟨hno, hl1⟩ := hown
    obtain ⟨w, hw, hpark⟩ := hmiss hno hl1
    have hthread : getThread w c t = _ := (hw.getThread c t).trans (getThread_advanced s c t)
    have hst : (getThread w c t).st = .running := by rw [hthread]; exact hrunning
    rw [park, if_pos hst] at hpark
    have hout := getThread_switchOut w c t (.miss gd v a.toNat true) (show TState.miss ≠ .ready by decide)
    have hu : issueOther s c t uses true op = _ := issueOther_of_ne_exception hnow uses (hperform.trans hpark) (by
      rw [hout]
      exact nofun)
    rw [hu]
    refine ⟨hw.mem, fun h => ?_, fun _ _ => ?_⟩
    · rw [hno, hl1] at h
      simp at h
    · rw [passedBy, hout, hthread]
      exact ⟨rfl, rfl, rfl, rfl⟩

theorem memNum_one (m : Memory) (a : Nat) : memNum m a 1 = (memRead m a).toNat := by
  simp [memNum]

/-- Settles O5: each load by its width and extension. -/
theorem loads : Obligations.Loads := by
  intro s c t gd ga imm x a n loads hnow
  refine ⟨?_, ?_, ?_, ?_⟩
  · exact fun halign hmay hbad hupsets hheld hmeets => completes_load hnow rfl rfl halign hmay hbad hupsets hheld hmeets rfl
  · exact fun halign hmay hbad hupsets hheld hmeets => completes_load hnow rfl rfl halign hmay hbad hupsets hheld hmeets rfl
  · exact fun halign hmay hbad hupsets hheld hmeets => completes_load hnow rfl rfl halign hmay hbad hupsets hheld hmeets rfl
  · exact fun halign hmay hbad hupsets hheld hmeets => completes_load hnow rfl rfl halign hmay hbad hupsets hheld hmeets
      (congrArg (BitVec.ofNat 64) (memNum_one s.mem n))

/-! ### Stores -/

/-- `u` is `s` but for what a write changes beside memory: its check bits, the caches, counters and the events of what it
    met. -/
def Touches (s u : State) : Prop :=
  (∃ bad upsets ccache csr cores err, u =
    { s with bad := bad, upsets := upsets, ccache := ccache, csr := csr, cores := cores, err := err }) ∧
  ∀ d r, getThread u d r = getThread s d r

theorem Touches.refl (s : State) : Touches s s := ⟨⟨_, _, _, _, _, _, rfl⟩, fun _ _ => rfl⟩

theorem Touches.trans {s u v : State} (hu : Touches s u) (hv : Touches u v) : Touches s v := by
  obtain ⟨⟨_, _, _, _, _, _, rfl⟩, hthreads⟩ := hu
  obtain ⟨⟨_, _, _, _, _, _, rfl⟩, hthreads'⟩ := hv
  exact ⟨⟨_, _, _, _, _, _, rfl⟩, fun d r => (hthreads' d r).trans (hthreads d r)⟩

theorem bump_touches (s : State) (o k : Nat) : Touches s (bump s o k) := ⟨⟨_, _, _, _, _, _, rfl⟩, fun _ _ => rfl⟩

theorem meetUpset_touches (s : State) (u : Nat × Upset) : Touches s (meetUpset s u) := by
  unfold meetUpset
  dsimp only
  split
  · exact ⟨⟨_, _, _, _, _, _, rfl⟩, fun _ _ => rfl⟩
  · obtain ⟨_, _, h⟩ := memCorrected_eq_with { s with upsets := s.upsets.erase u } u.1
    rw [h]
    exact ⟨⟨_, _, _, _, _, _, rfl⟩, fun _ _ => rfl⟩

theorem getThread_dropLines (s : State) (lo hi d r : Nat) : getThread (dropLines s lo hi) d r = getThread s d r := by
  have hcore : getCore (dropLines s lo hi) d = { getCore s d with
      l1 := (getCore s d).l1.filter (fun x => decide (x < lo) || decide (hi < x)) } :=
    tget_map_values (fun k : Core => { k with l1 := k.l1.filter (fun x => decide (x < lo) || decide (hi < x)) }) s.cores d
        rfl
  rw [getThread, hcore]
  rfl

theorem dropLines_touches (s : State) (lo hi : Nat) : Touches s (dropLines s lo hi) :=
  ⟨⟨_, _, _, _, _, _, rfl⟩, getThread_dropLines s lo hi⟩

theorem memPut_touches (s : State) (a : Nat) (bs : List Byte) : Touches { s with mem := memWrites s.mem a bs }
    (memPut s a bs) := by
  unfold memPut
  dsimp only
  have hcleared : Touches { s with mem := memWrites s.mem a bs } { s with
      mem := memWrites s.mem a bs
      bad := s.bad.filter (fun w => !codeCovered w a bs.length)
      upsets := s.upsets.filter (fun u => !codeCovered u.1 a bs.length) } := ⟨⟨_, _, _, _, _, _, rfl⟩, fun _ _ => rfl⟩
  split
  · exact hcleared
  · exact hcleared.trans ((dropLines_touches _ _ _).trans (bump_touches _ _ _))

theorem overwriteCore_touches (s : State) (a n c : Nat) : Touches s (overwriteCore s a n c) := by
  unfold overwriteCore
  dsimp only
  split
  · exact Touches.refl s
  · exact bump_touches s _ _

theorem agentWrite_touches (s : State) (a : Nat) (bs : List Byte) :
    Touches { s with mem := memWrites s.mem a bs } (agentWrite s a bs) := by
  have hmet := foldl_rel Touches.refl Touches.trans meetUpset_touches
    ((upsetsIn s a bs.length).filter (fun u => !codeCovered u.1 a bs.length)) s
  have hput : Touches { s with mem := memWrites s.mem a bs } (memPut (((upsetsIn s a bs.length).filter (fun u =>
      !codeCovered u.1 a bs.length)).foldl meetUpset s) a bs) := by
    refine Touches.trans ?_ (memPut_touches _ a bs)
    obtain ⟨⟨_, _, _, _, _, _, h⟩, hthreads⟩ := hmet
    exact ⟨⟨_, _, _, _, _, _, by rw [h]⟩, hthreads⟩
  exact hput.trans (foldl_rel Touches.refl Touches.trans (fun u c => overwriteCore_touches u a bs.length c) _ _)

theorem agentWrite_err {s : State} {a : Nat} {bs : List Byte} (h : upsetsIn s a bs.length = []) : (agentWrite s a bs).err =
    s.err := by
  have hput : (memPut s a bs).err = s.err := by
    unfold memPut
    dsimp only
    split <;> rfl
  have hcount : ∀ (u : State) c, (overwriteCore u a bs.length c).err = u.err := by
    intro u c
    unfold overwriteCore
    dsimp only
    split <;> rfl
  unfold agentWrite
  rw [h]
  exact (foldl_keeps (fun s c => overwriteCore s a bs.length c) State.err hcount _ _).trans hput

theorem setCore_touches {s : State} {c : Nat} {x : Core} (h : x.threads = (getCore s c).threads) : Touches s (setCore s c x)
    := by
  refine ⟨⟨_, _, _, _, _, _, rfl⟩, fun d r => ?_⟩
  unfold getThread
  by_cases hd : d = c
  · subst hd
    rw [getCore_setCore_same, h]
  · rw [getCore_setCore_other _ _ hd]

theorem storePut_touches (s : State) (c a : Nat) (bs : List Byte) :
    Touches { s with mem := memWrites s.mem a bs } (storePut s c a bs) := by
  have hl1 := (agentWrite_touches s a bs).trans
    (setCore_touches (c := c) (x := { getCore (agentWrite s a bs) c with l1 := (getCore s c).l1 }) rfl)
  unfold storePut
  dsimp only
  split
  · exact hl1.trans ⟨⟨_, _, _, _, _, _, rfl⟩, fun _ _ => rfl⟩
  · exact hl1

theorem storePut_err {s : State} {c a : Nat} {bs : List Byte} (h : upsetsIn s a bs.length = []) : (storePut s c a bs).err =
    s.err := by
  unfold storePut
  dsimp only
  split <;> exact agentWrite_err h

theorem getD_leBytes {k i : Nat} (v : Nat) (h : i < k) : (leBytes k v).getD i 0#8 = BitVec.ofNat 8 (v / 2 ^ (8 * i)) := by
  induction k generalizing v i with
  | zero => omega
  | succ k ih =>
    cases i with
    | zero => simp [leBytes]
    | succ i =>
      rw [leBytes, List.getD_cons_succ, ih _ (by omega), Nat.div_div_eq_div_mul]
      congr 2
      rw [show 8 * (i + 1) = 8 + 8 * i by omega, pow_add]
      rfl

@[simp] theorem length_leBytes (k v : Nat) : (leBytes k v).length = k := by
  induction k generalizing v with
  | zero => rfl
  | succ k ih => simp [leBytes, ih]

/-- What is read after a number was stored, lowest byte first. -/
theorem memRead_memWrites_leBytes {m : Memory} (hwf : memWf m = true) (a k v p : Nat) :
    memRead (memWrites m a (leBytes k v)) p =
      if a ≤ p ∧ p < a + k then BitVec.ofNat 8 (v / 2 ^ (8 * (p - a))) else memRead m p := by
  rw [memRead_memWrites m a p _ hwf, length_leBytes]
  split
  · exact getD_leBytes v (by omega)
  · rfl

/-- What a store that is permitted leaves, whether its thread goes on or waits for its line. -/
theorem doStore_spec {u : State} {pc k : Nat} {v a : BitVec 64} (hcause : accessCause u c k true a = 0) :
    ∃ w x, Touches { u with mem := memWrites u.mem a.toNat (leBytes k v.toNat) } w ∧
        (upsetsIn u a.toNat k = [] → w.err = u.err) ∧
      Waits w x ∧ (doStore u c t pc k v a = w ∨ ∃ b, doStore u c t pc k v a = park x c t .miss b) := by
  have hput := storePut_touches u c a.toNat (leBytes k v.toNat)
  refine ⟨storePut u c a.toNat (leBytes k v.toNat), waitFor (storePut u c a.toNat (leBytes k v.toNat))
    (threadReq (storePut u c a.toNat (leBytes k v.toNat)) c t) (a.toNat / 64 * 64) 64, hput,
    fun h => storePut_err (by rwa [length_leBytes]), waitFor_waits _ _ _ _, ?_⟩
  by_cases h : missTaken (storePut u c a.toNat (leBytes k v.toNat)) c a.toNat k = true
  · exact .inr ⟨.miss 0 0#64 a.toNat false, by simp only [doStore, hcause, if_pos h]⟩
  · exact .inl (by simp only [doStore, hcause, if_neg h])

/-- A thread that parks in a wait keeps its registers, and its memory stays. -/
theorem switchOut_keeps (u : State) (c t : Nat) {st : TState} (b : Blocked) (h : st ≠ .ready) :
    (∃ csr cores, switchOut u c t st b = { u with csr := csr, cores := cores }) ∧
      getThread (switchOut u c t st b) c t = { getThread u c t with st := st, blocked := b } :=
  ⟨⟨_, _, rfl⟩, getThread_switchOut u c t b h⟩

/-- A store that is permitted, by a thread that issues now. -/
theorem completes_store {i : Instr} {k : Nat} {v a : BitVec 64} (hnow : issuesNow s c t) (hwf : memWf s.mem = true)
    {uses : List Nat} {op : Thread → CoreOp} (hexec : exec i s = .next (issueOther s c t uses true op))
    (hop : op (getThread s c t) = .store k v a) (halign : a.toNat % k = 0)
    (hmay : mayAccess s (coreClass s c) true a.toNat k = true) :
    completes i s (fun u => (∀ p, memRead u.mem p = if a.toNat ≤ p ∧ p < a.toNat + k then
        BitVec.ofNat 8 (v.toNat / 2 ^ (8 * (p - a.toNat))) else memRead s.mem p) ∧ passedBy s u c t ∧
      u = { s with mem := u.mem, bad := u.bad, upsets := u.upsets, ccache := u.ccache, csr := u.csr, cores := u.cores
                   err := u.err, hbm := u.hbm, power := u.power } ∧ (upsetsIn s a.toNat k = [] → u.err = s.err)) := by
  have hcause : accessCause (advanced s c t) c k true a = 0 := by
    rw [accessCause_advanced]
    simp [accessCause, halign, hmay]
  obtain ⟨w, x, ⟨⟨_, _, _, _, _, _, hw⟩, hthreads⟩, herr, hx, hends⟩ :=
    doStore_spec (t := t) (pc := (getThread s c t).pc) (v := v) hcause
  have hwthread : getThread w c t = _ := (hthreads c t).trans (getThread_advanced s c t)
  have hxthread : getThread x c t = _ := (hx.getThread c t).trans hwthread
  have hrunning := running_of_issuesNow hnow
  have hperform : performOp (advanced s c t) c t (getThread s c t).pc (op (getThread s c t)) =
      doStore (advanced s c t) c t (getThread s c t).pc k v a := by
    rw [hop]
    rfl
  have hmem : ∀ p, memRead w.mem p = if a.toNat ≤ p ∧ p < a.toNat + k then
      BitVec.ofNat 8 (v.toNat / 2 ^ (8 * (p - a.toNat))) else memRead s.mem p := by
    intro p
    rw [hw]
    exact memRead_memWrites_leBytes hwf _ _ _ _
  rw [completes, hexec]
  refine ⟨_, rfl, ?_⟩
  rcases hends with hgoes | ⟨b, hparks⟩
  · have hu : issueOther s c t uses true op = w := issueOther_of_ne_exception hnow uses (hperform.trans hgoes) (by
      rw [hwthread]
      simp [hrunning])
    rw [hu]
    refine ⟨hmem, ?_, ?_, herr⟩
    · rw [passedBy, hwthread]
      exact ⟨rfl, rfl⟩
    · rw [hw]
      rfl
  · have hst : (getThread x c t).st = .running := by rw [hxthread]; exact hrunning
    rw [park, if_pos hst] at hparks
    obtain ⟨⟨_, _, hframe⟩, hout⟩ := switchOut_keeps x c t b (show TState.miss ≠ .ready by decide)
    have hu : issueOther s c t uses true op = _ := issueOther_of_ne_exception hnow uses (hperform.trans hparks) (by
      rw [hout]
      exact nofun)
    obtain ⟨_, _, hx⟩ := hx
    rw [hu]
    refine ⟨fun p => ?_, ?_, ?_, fun h => ?_⟩
    · rw [hframe, hx]
      exact hmem p
    · rw [passedBy, hout, hxthread]
      exact ⟨rfl, rfl⟩
    · rw [hframe, hx, hw]
      rfl
    · rw [hframe, hx]
      exact herr h

/-- What AADD does in the scratch of its own core, where it meets no error. -/
theorem doAadd_own {u : State} {pc gd : Nat} {v a : BitVec 64} (halign : a.toNat % 8 = 0)
    (hown : ownScratch c a.toNat = true)
    (hcause : accessCause u c 8 true a = 0) (hbad : badIn u a.toNat 8 = []) (hupsets : upsetsIn u a.toNat 8 = []) :
    let old := loadValue u 8 false a.toNat
    let w := agentWrite u a.toNat (leBytes 8 (old + v).toNat)
    doAadd u c t pc gd v a = setThread w c t ((getThread w c t).putAll gd old) := by
  simp only [doAadd, halign, hown, hcause, readMeets_of_no_upset hupsets, hbad, ne_eq, not_true_eq_false, if_true, if_false]

/-- AADD in the scratch of its own core, where it meets no error, by a thread that issues now. -/
theorem completes_aadd {i : Instr} {gd : Nat} {v a : BitVec 64} (hnow : issuesNow s c t) (hwf : memWf s.mem = true)
    {uses : List Nat} {op : Thread → CoreOp} (hexec : exec i s = .next (issueOther s c t uses true op))
    (hop : op (getThread s c t) = .aadd gd v a) (halign : a.toNat % 8 = 0) (hown : ownScratch c a.toNat = true)
    (hmay : mayAccess s (coreClass s c) true a.toNat 8 = true) (hbad : badIn s a.toNat 8 = [])
        (hupsets : upsetsIn s a.toNat 8 = []) :
    completes i s (fun u =>
      let old := BitVec.ofNat 64 (memNum s.mem a.toNat 8)
      (∀ p, memRead u.mem p = if a.toNat ≤ p ∧ p < a.toNat + 8 then
        BitVec.ofNat 8 ((old + v).toNat / 2 ^ (8 * (p - a.toNat))) else memRead s.mem p) ∧
      wrote (getThread s c t) (getThread u c t) gd old ∧ (getThread u c t).pc = ((getThread s c t).pc + 4) % 2 ^ 20 ∧
      u = { s with mem := u.mem, bad := u.bad, upsets := u.upsets, ccache := u.ccache, csr := u.csr, cores := u.cores }) :=
          by
  have hcause : accessCause (advanced s c t) c 8 true a = 0 := by
    rw [accessCause_advanced]
    simp [accessCause, halign, hmay]
  have hclean : upsetsIn (advanced s c t) a.toNat 8 = [] := hupsets
  have hsound : badIn (advanced s c t) a.toNat 8 = [] := hbad
  have hperform := (congrArg (performOp (advanced s c t) c t (getThread s c t).pc) hop).trans
    (doAadd_own (t := t) (pc := (getThread s c t).pc) (gd := gd) (v := v) halign hown hcause hsound hclean)
  obtain ⟨⟨_, _, _, _, _, _, hw⟩, hthreads⟩ := agentWrite_touches (advanced s c t) a.toNat
    (leBytes 8 (loadValue (advanced s c t) 8 false a.toNat + v).toNat)
  have herr := agentWrite_err (s := advanced s c t) (a := a.toNat)
    (bs := leBytes 8 (loadValue (advanced s c t) 8 false a.toNat + v).toNat) (by rwa [length_leBytes])
  have hthread := (hthreads c t).trans (getThread_advanced s c t)
  have hrunning := running_of_issuesNow hnow
  rw [completes, hexec]
  refine ⟨_, rfl, ?_⟩
  rw [issueOther_of_ne_exception hnow uses hperform (by
    rw [getThread_setThread_same, hthread]
    simp [Thread.putAll, hrunning])]
  refine ⟨fun p => ?_, ?_, ?_, ?_⟩
  · rw [setThread_mem, hw]
    exact memRead_memWrites_leBytes hwf _ _ _ _
  · rw [getThread_setThread_same, hthread]
    exact wrote_of_regs_eq rfl
  · rw [getThread_setThread_same, hthread]
    rfl
  · rw [hw] at herr
    have herr : _ = s.err := herr
    subst herr
    rw [hw]
    rfl

/-- Settles O6: each store by its width, AADD in the scratch of its own core. -/
theorem stores : Obligations.Stores := by
  intro s c t gd ga imm x a n v stored stores hnow hwf
  refine ⟨?_, ?_, ?_, fun halign hown hmay hbad hupsets => ?_⟩
  · exact fun halign hmay _ => completes_store hnow hwf rfl rfl halign hmay
  · exact fun halign hmay _ => completes_store hnow hwf rfl rfl halign hmay
  · exact fun halign hmay _ => completes_store hnow hwf rfl rfl halign hmay
  · exact completes_aadd hnow hwf rfl rfl halign hown hmay hbad hupsets

end Sys2Proof.Machine
end

section
/-! The branches and jumps of a control core. -/

open Sys2Proof
namespace Sys2Proof.Machine

theorem branchTaken_slt_not (a b : BitVec 64) : branchTaken 3 a b = decide (b.toInt ≤ a.toInt) := by
  simp only [branchTaken, BitVec.slt_eq_decide, ← decide_not, not_lt]

theorem branchTaken_ult_not (a b : BitVec 64) : branchTaken 5 a b = decide (b.toNat ≤ a.toNat) := by
  simp only [branchTaken, BitVec.ult_eq_decide, ← decide_not, not_lt]

/-- Settles O7: each branch by its condition, along the path that its predictor entry gives. -/
theorem branches : Obligations.Branches := by
  intro s c t ga gb off s1 x target next index predicted branches hmay hga
  have hissues : ∀ {i : Instr} {kind : Nat} {taken : Bool}, x.awaited gb = false →
      exec i s = .next (issueBranch s c t kind ga gb off) → branchTaken kind (x.reg ga) (x.reg gb) = taken → branches i
          taken := by
    intro i kind taken hgb hexec htaken
    refine ⟨_, hexec, ?_⟩
    have hgoes : ¬ (mayIssue s1 c t = false ∨ x.awaited ga = true ∨ x.awaited gb = true) := by simp [hmay, hga, hgb]
    rw [← htaken]
    exact if_neg hgoes
  refine ⟨fun hgb => ⟨hissues hgb rfl rfl, hissues hgb rfl rfl, hissues hgb rfl BitVec.slt_eq_decide,
    hissues hgb rfl (branchTaken_slt_not _ _), hissues hgb rfl BitVec.ult_eq_decide, hissues hgb rfl
        (branchTaken_ult_not _ _)⟩,
    fun far => ?_⟩
  have hgoes : ¬ (mayIssue s1 c t = false ∨ x.awaited ga = true) := by simp [hmay, hga]
  refine ⟨_, congrArg Host.Outcome.next (if_neg hgoes), ?_⟩
  dsimp only
  rw [getThread_setThread_same]
  exact ⟨rfl, wrote_of_regs_eq rfl, rfl, rfl⟩

end Sys2Proof.Machine
end

section
/-! What the trace of a core changes; JALR and HALT. -/

open Sys2Proof
namespace Sys2Proof.Machine

/-- `u` is `s` but for trace buffers, the outcomes that wait in threads for their packet, and counters. -/
def Traces (s u : State) : Prop :=
  (∃ cores csr, u = { s with cores := cores, csr := csr }) ∧
    ∀ d r, getThread u d r = { getThread s d r with tnt := (getThread u d r).tnt }

theorem Traces.refl (s : State) : Traces s s := ⟨⟨_, _, rfl⟩, fun _ _ => rfl⟩

theorem Traces.trans {s u v : State} (hu : Traces s u) (hv : Traces u v) : Traces s v := by
  obtain ⟨⟨_, _, rfl⟩, hthreads⟩ := hu
  obtain ⟨⟨_, _, rfl⟩, hthreads'⟩ := hv
  refine ⟨⟨_, _, rfl⟩, fun d r => ?_⟩
  rw [hthreads' d r, hthreads d r]

theorem setCore_traces {s : State} {c : Nat} {x : Core} (h : x.threads = (getCore s c).threads) : Traces s (setCore s c x)
    := by
  refine ⟨⟨_, _, rfl⟩, fun d r => ?_⟩
  have hthread : getThread (setCore s c x) d r = getThread s d r := by
    unfold getThread
    by_cases hd : d = c
    · subst hd
      rw [getCore_setCore_same, h]
    · rw [getCore_setCore_other _ _ hd]
  rw [hthread]

theorem bump_traces (s : State) (o k : Nat) : Traces s (bump s o k) := ⟨⟨_, _, rfl⟩, fun _ _ => rfl⟩

theorem tracePacket_threads (k : Core) (s : State) (w : TraceWait) : (k.tracePacket s w).threads = k.threads := by
  unfold Core.tracePacket
  extract_lets dropped k1 k2 named k3 k4
  have hk1 : k1.threads = k.threads := by
    unfold k1
    split <;> rfl
  have hk2 : k2.threads = k.threads := by
    unfold k2
    split
    · exact hk1
    · exact hk1
  have hk3 : k3.threads = k.threads := by
    unfold k3
    split
    · exact hk2
    · exact hk2
  split
  · exact hk3
  · exact hk3

theorem tracePut_traces (s : State) (c : Nat) (w : TraceWait) : Traces s (tracePut s c w) := by
  unfold tracePut
  dsimp only
  split
  · exact setCore_traces rfl
  · split
    · exact setCore_traces (tracePacket_threads _ _ _)
    · split
      · exact setCore_traces rfl
      · exact Traces.trans (setCore_traces (by rfl)) (bump_traces _ _ _)

theorem traceOut_traces (s : State) (c t pc : Nat) (p : TracePkt) : Traces s (traceOut s c t pc p) := by
  unfold traceOut
  split
  · exact tracePut_traces s c _
  · exact Traces.refl s

theorem setThread_tnt_traces (s : State) (c t : Nat) (l : List (Bool × Nat)) :
    Traces s (setThread s c t { getThread s c t with tnt := l }) := by
  refine ⟨⟨_, _, rfl⟩, fun d r => ?_⟩
  by_cases h : d = c ∧ r = t
  · obtain ⟨rfl, rfl⟩ := h
    rw [getThread_setThread_same]
  · rw [getThread_setThread_other _ _ (by tauto)]

theorem traceTnt_traces (s : State) (c t : Nat) : Traces s (traceTnt s c t) := by
  unfold traceTnt
  split
  · exact Traces.refl s
  · exact (traceOut_traces s c t _ _).trans (setThread_tnt_traces _ c t [])

theorem traceTarget_traces (s : State) (c t pc target : Nat) : Traces s (traceTarget s c t pc target) :=
  (traceTnt_traces s c t).trans (traceOut_traces _ c t pc _)

/-! ### JALR -/

variable {s : State} {c t : Nat}

/-- A thread that is switched out ready holds what it held, whether or not it runs again at once. -/
theorem getThread_switchOut_ready (u : State) (c t : Nat) (b : Blocked) :
    ∃ st run, (st = .ready ∨ st = .running) ∧
      getThread (switchOut u c t .ready b) c t = { getThread u c t with st := st, run := run, blocked := b } := by
  have hset : getThread (bump (setThread u c t { getThread u c t with st := .ready, blocked := b }) (O.coreSwitches c)) c t
      =
      { getThread u c t with st := .ready, blocked := b } := getThread_setThread_same u c t _
  rcases scheduledTo_reschedule (bump (setThread u c t { getThread u c t with st := .ready, blocked := b })
      (O.coreSwitches c)) c c t
    with h | ⟨-, h⟩
  · exact ⟨.ready, _, .inl rfl, by rw [switchOut, h, hset]⟩
  · exact ⟨.running, 0, .inr rfl, by rw [switchOut, h, hset]⟩

theorem doJalr_legal {u : State} {pc gd : Nat} {a : BitVec 64} (halign : a.toNat % 4 = 0) (hlt : a.toNat < 2 ^ 20)
    (hrunning : (getThread u c t).st = .running) : ∃ w tnt, (∃ cores csr, w = { u with cores := cores, csr := csr }) ∧
      getThread w c t = { (getThread u c t).putAll gd (BitVec.ofNat 64 (pcNext pc)) with pc := a.toNat, tnt := tnt } ∧
      doJalr u c t pc gd a = switchOut w c t .ready .none := by
  obtain ⟨⟨_, _, hv⟩, hthreads⟩ := traceTarget_traces u c t pc a.toNat
  have hst : (getThread (traceTarget u c t pc a.toNat) c t).st = .running := by
    rw [hthreads c t]
    exact hrunning
  refine ⟨setThread (traceTarget u c t pc a.toNat) c t
    { (getThread (traceTarget u c t pc a.toNat) c t).putAll gd (BitVec.ofNat 64 (pcNext pc)) with pc := a.toNat },
    (getThread (traceTarget u c t pc a.toNat) c t).tnt, ⟨_, _, by rw [setThread, setCore, hv]⟩, ?_, ?_⟩
  · rw [getThread_setThread_same, hthreads c t]
    rfl
  · unfold doJalr
    rw [if_neg (not_not.mpr halign), if_neg (by omega)]
    dsimp only
    rw [getThread_setThread_same, if_pos]
    exact hst

/-- JALR to a legal target, by a thread that issues now. -/
theorem completes_jalr {i : Instr} {gd : Nat} {a : BitVec 64} (hnow : issuesNow s c t) {uses : List Nat}
    {op : Thread → CoreOp}
    (hexec : exec i s = .next (issueOther s c t uses true op)) (hop : op (getThread s c t) = .jalr gd a)
    (halign : a.toNat % 4 = 0) (hlt : a.toNat < 2 ^ 20) :
    completes i s (fun u =>
      let y := getThread u c t
      y.pc = a.toNat ∧ (y.st = .ready ∨ y.st = .running) ∧
        wrote (getThread s c t) y gd (BitVec.ofNat 64 (((getThread s c t).pc + 4) % 2 ^ 20)) ∧
        u = { s with cores := u.cores, csr := u.csr }) := by
  have hrunning := running_of_issuesNow hnow
  obtain ⟨w, tnt, ⟨_, _, hw⟩, hthread, hjumps⟩ := doJalr_legal (c := c) (t := t) (u := advanced s c t)
      (pc := (getThread s c t).pc)
    (gd := gd) halign hlt (by rw [getThread_advanced]; exact hrunning)
  have hperform := (congrArg (performOp (advanced s c t) c t (getThread s c t).pc) hop).trans hjumps
  obtain ⟨st, run, hst, hout⟩ := getThread_switchOut_ready w c t .none
  rw [hthread, getThread_advanced] at hout
  rw [completes, hexec]
  refine ⟨_, rfl, ?_⟩
  rw [issueOther_of_ne_exception hnow uses hperform (by
    rw [hout]
    rcases hst with h | h <;> simp [h])]
  dsimp only
  rw [hout]
  refine ⟨rfl, hst, wrote_of_regs_eq rfl, ?_⟩
  rw [hw]
  rfl

/-! ### HALT -/

theorem keyLive_foldl_retireKey (g : Nat) (l : List (BitVec 64)) (u : State) (k : BitVec 64) :
    keyLive (l.foldl (fun s k => retireKey s g k) u) g k = (decide (k ∉ l) && keyLive u g k) := by
  induction l generalizing u with
  | nil => simp
  | cons j l ih =>
    rw [List.foldl_cons, ih, keyLive_retireKey, Bool.eq_iff_iff]
    simp
    tauto

/-- `u` is `s` but for its cores, its registers and its keys. -/
def Retires (s u : State) : Prop := ∃ cores csr keyTab, u = { s with cores := cores, csr := csr, keyTab := keyTab }

theorem Retires.refl (s : State) : Retires s s := ⟨_, _, _, rfl⟩

theorem Retires.trans {s u v : State} (hu : Retires s u) (hv : Retires u v) : Retires s v := by
  obtain ⟨_, _, _, rfl⟩ := hu
  obtain ⟨_, _, _, rfl⟩ := hv
  exact ⟨_, _, _, rfl⟩

theorem Traces.retires {s u : State} (h : Traces s u) : Retires s u := by
  obtain ⟨⟨_, _, h⟩, -⟩ := h
  exact ⟨_, _, _, h⟩

theorem getThread_foldl_retireKey (g : Nat) (l : List (BitVec 64)) (u : State) (c t : Nat) :
    getThread (l.foldl (fun s k => retireKey s g k) u) c t = getThread u c t :=
  foldl_keeps (fun s k => retireKey s g k) (fun s => getThread s c t) (fun _ _ => rfl) l u

/-- The state in which a halted thread's keys are retired and its acting rank is the device's own again. -/
def keysRetired (u : State) (c t : Nat) : State := csrPut (retireKeys (traceTnt u c t) c t) (O.coreKeyRank c t) 0

theorem keysRetired_spec (u : State) (c t : Nat) :
    Retires u (keysRetired u c t) ∧
    (∃ tnt, getThread (keysRetired u c t) c t = { getThread u c t with keys := [], tnt := tnt }) ∧
    csrGet (keysRetired u c t) (O.coreKeyRank c t) = 0 ∧
    ∀ k ∈ (getThread u c t).keys, keyLive (keysRetired u c t) (clusterOf c) k = false := by
  have htnt := traceTnt_traces u c t
  have hthreads := htnt.2
  refine ⟨?_, ⟨(getThread (traceTnt u c t) c t).tnt, ?_⟩, ?_, fun k hk => ?_⟩
  · refine (htnt.retires.trans (v := setThread (traceTnt u c t) c t { getThread (traceTnt u c t) c t with keys := [] })
      ⟨_, _, _, rfl⟩).trans (Retires.trans ?_ (v := keysRetired u c t) ⟨_, _, _, rfl⟩)
    exact foldl_rel Retires.refl Retires.trans (fun _ _ => ⟨_, _, _, rfl⟩) (getThread (traceTnt u c t) c t).keys _
  · have hthread : getThread (keysRetired u c t) c t = { getThread (traceTnt u c t) c t with keys := [] } :=
      (getThread_foldl_retireKey (clusterOf c) _ _ c t).trans (getThread_setThread_same _ _ _ _)
    rw [hthread, hthreads c t]
  · simp [keysRetired]
  · have hmem : k ∈ (getThread (traceTnt u c t) c t).keys := by
      rw [hthreads c t]
      exact hk
    refine (keyLive_foldl_retireKey (clusterOf c) _ _ k).trans ?_
    simp [hmem]

/-- A thread whose keys are retired halts. -/
theorem haltThread_spec (u : State) (c t : Nat) :
    let v := retainCluster (stopThread u c t .halted) (clusterOf c)
    (getThread v c t).st = .halted ∧ (getThread v c t).regs = (getThread u c t).regs ∧ (getThread v c t).keys = [] ∧
      csrGet v (O.coreKeyRank c t) = 0 ∧ (∀ k ∈ (getThread u c t).keys, keyLive v (clusterOf c) k = false) ∧
      v = { u with cores := v.cores, csr := v.csr, keyTab := v.keyTab, power := v.power } := by
  obtain ⟨hframe, ⟨tnt, hthread⟩, hrank, hlive⟩ := keysRetired_spec u c t
  have hset := getThread_setThread_same (keysRetired u c t) c t { getThread (keysRetired u c t) c t with
    st := .halted, blocked := .none, branches := [], buffer := [] }
  have hcleared : clearThread u c t .halted = reschedule (setThread (keysRetired u c t) c t
      { getThread (keysRetired u c t) c t with
    st := .halted, blocked := .none, branches := [], buffer := [] }) c := rfl
  obtain ⟨_, hone⟩ := retainCluster_eq_with (clearThread u c t .halted) (clusterOf c)
  obtain ⟨_, htwo⟩ := retainCluster_eq_with (stopThread u c t .halted) (clusterOf c)
  have hcores : (retainCluster (stopThread u c t .halted) (clusterOf c)).cores = (clearThread u c t .halted).cores := by
    rw [htwo, stopThread, hone]
  have hout : getThread (retainCluster (stopThread u c t .halted) (clusterOf c)) c t =
      { getThread u c t with st := .halted, blocked := .none, branches := [], buffer := [], keys := [], tnt := tnt } := by
    have hsame : getThread (retainCluster (stopThread u c t .halted) (clusterOf c)) c t = getThread
        (clearThread u c t .halted) c t := by
      rw [getThread, getCore, hcores]
      rfl
    rw [hsame, hcleared, getThread_reschedule_of_ne_ready c (by rw [hset]; exact nofun), hset, hthread]
  dsimp only
  rw [hout]
  refine ⟨rfl, rfl, rfl, ?_, fun k hk => ?_, ?_⟩
  · rw [csrGet, htwo, stopThread, hone]
    exact hrank
  · rw [htwo, stopThread, hone]
    exact hlive k hk
  · obtain ⟨_, _, _, hcleared⟩ : Retires u (clearThread u c t .halted) := hframe.trans ⟨_, _, _, hcleared⟩
    rw [htwo, stopThread, hone, hcleared]

/-- Settles O8: JALR by its target, HALT by what its thread gives up. -/
theorem jumpsAndHalt : Obligations.JumpsAndHalt := by
  intro s c t gd ga imm x a hnow
  refine ⟨fun halign hlt => completes_jalr hnow rfl rfl halign hlt, ?_⟩
  obtain ⟨hst, hregs, hkeys, hrank, hlive, hframe⟩ := haltThread_spec (advanced s c t) c t
  rw [getThread_advanced] at hregs hlive
  have hhalts : issueOther s c t [] true (fun _ => .halt) = _ := issueOther_of_ne_exception hnow [] (op := fun _ => .halt)
    (u := retainCluster (stopThread (advanced s c t) c t .halted) (clusterOf c)) rfl (by rw [hst]; exact nofun)
  refine ⟨_, rfl, ?_⟩
  dsimp only
  simp only [decide_true, Bool.and_self, hhalts]
  exact ⟨hst, hregs, hkeys, hrank, hlive, hframe⟩

end Sys2Proof.Machine
end

section
/-! O13. The CSR instructions and TRACE: what a write of the own block leaves alone, and what the trace of a thread changes.
    -/

open Sys2Proof
namespace Sys2Proof.Machine

/-! ### Writes of the own block bring no thread an exception -/

/-- No thread has an exception in `u` that it has not in `s`. -/
def Unhurt (s u : State) : Prop := ∀ d r, (getThread u d r).st = .exception → (getThread s d r).st = .exception

theorem Unhurt.refl (s : State) : Unhurt s s := fun _ _ h => h

theorem Unhurt.trans {s u v : State} (hu : Unhurt s u) (hv : Unhurt u v) : Unhurt s v := fun d r h => hu d r (hv d r h)

theorem unhurt_of_cores {s u : State} (h : u.cores = s.cores) : Unhurt s u := fun d r => by
  rw [getThread_congr h]
  exact id

theorem csrPut_unhurt (s : State) (off v : Nat) : Unhurt s (csrPut s off v) := unhurt_of_cores rfl

theorem Traces.unhurt {s u : State} (h : Traces s u) : Unhurt s u := fun d r => by
  rw [h.2 d r]
  exact id

theorem Touches.unhurt {s u : State} (h : Touches s u) : Unhurt s u := fun d r => by
  rw [h.2 d r]
  exact id

theorem Waits.unhurt {s u : State} (h : Waits s u) : Unhurt s u := fun d r => by
  rw [h.getThread d r]
  exact id

theorem setCore_unhurt {s : State} {c : Nat} {x : Core} (h : x.threads = (getCore s c).threads) : Unhurt s (setCore s c x)
    :=
  (setCore_traces h).unhurt

theorem setThread_unhurt {s : State} {c t : Nat} {x : Thread} (h : x.st = .exception → (getThread s c t).st = .exception) :
    Unhurt s (setThread s c t x) := by
  intro d r
  by_cases hsame : d = c ∧ r = t
  · obtain ⟨rfl, rfl⟩ := hsame
    rwa [getThread_setThread_same]
  · rw [getThread_setThread_other _ _ (by tauto)]
    exact id

theorem reschedule_unhurt (s : State) (c : Nat) : Unhurt s (reschedule s c) := by
  intro d r
  rcases scheduledTo_reschedule s c d r with h | ⟨-, h⟩
  · rw [h]
    exact id
  · rw [h]
    exact nofun

theorem retainCluster_unhurt (s : State) (g : Nat) : Unhurt s (retainCluster s g) := unhurt_of_cores
    (retainCluster_cores s g)

theorem clearThread_unhurt (s : State) (c t : Nat) : Unhurt s (clearThread s c t .halted) := by
  refine (traceTnt_traces s c t).unhurt.trans ?_
  refine Unhurt.trans (u := keysRetired s c t) ?_ ((setThread_unhurt (by exact nofun)).trans (reschedule_unhurt _ _))
  refine Unhurt.trans (setThread_unhurt (c := c) (t := t) (x := { getThread (traceTnt s c t) c t with keys := [] }) id) ?_
  intro d r
  have hkeys : getThread (keysRetired s c t) d r = _ := getThread_foldl_retireKey (clusterOf c)
      (getThread (traceTnt s c t) c t).keys
    (setThread (traceTnt s c t) c t { getThread (traceTnt s c t) c t with keys := [] }) d r
  rw [hkeys]
  exact id

theorem stopThread_unhurt (s : State) (c t : Nat) : Unhurt s (stopThread s c t .halted) :=
  (clearThread_unhurt s c t).trans (retainCluster_unhurt _ _)

theorem traceStart_traces (s : State) (c t : Nat) : Traces s (traceStart s c t) := traceOut_traces s c t _ _

theorem startThread_unhurt (s : State) (c t : Nat) : Unhurt s (startThread s c t) := by
  unfold startThread
  dsimp only
  split
  · exact (clearThread_unhurt s c t).trans (retainCluster_unhurt _ _)
  · exact (clearThread_unhurt s c t).trans ((setThread_unhurt (by exact nofun)).trans
      ((reschedule_unhurt _ _).trans (traceStart_traces _ c t).unhurt))

theorem closeWindow_unhurt (s : State) (x : STile) : Unhurt s (closeWindow s x) := by
  refine foldl_rel Unhurt.refl Unhurt.trans (fun u w => ?_) x.src s
  split
  · exact Unhurt.refl u
  · exact setCore_unhurt rfl

theorem discardStream_unhurt (s : State) (p : Nat × StreamEnt) : Unhurt s (discardStream s p) :=
  Unhurt.trans (u := setStream s p.1 { getStream s p.1 with queue := [], held := [], router := [] }) (unhurt_of_cores rfl)
    (foldl_rel Unhurt.refl Unhurt.trans closeWindow_unhurt _ _)

theorem lint_unhurt (s : State) (c ring kind sid entry arg : Nat) : Unhurt s (lint s c ring kind sid entry arg) := fun d r
    => by
  rw [getThread_lint]
  exact id

theorem setStn_unhurt (s : State) (c n : Nat) (x : Station) : Unhurt s (setStn s c n x) := fun d r => by
  rw [getThread_setStn]
  exact id

theorem setEng_unhurt (s : State) (c n : Nat) (x : Engine) : Unhurt s (setEng s c n x) := fun d r => by
  rw [getThread_setEng]
  exact id

theorem startStnReset_unhurt (s : State) (c n : Nat) : Unhurt s (startStnReset s c n) := by
  have hdiscard : ∀ l : List (Nat × StreamEnt), Unhurt s (l.foldl discardStream s) := fun l => foldl_rel Unhurt.refl
      Unhurt.trans discardStream_unhurt l s
  have hclose : ∀ (l : List STile) u, Unhurt u (l.foldl closeWindow u) := fun l u =>
    foldl_rel Unhurt.refl Unhurt.trans closeWindow_unhurt l u
  have hreset : ∀ x, Unhurt s (retainCluster (setStn (((getStn s c n).out.map Prod.snd).foldl closeWindow
      ((stationStreams s c n).foldl discardStream s)) c n x) (clusterOf c)) := fun x =>
    ((hdiscard (stationStreams s c n)).trans (hclose ((getStn s c n).out.map Prod.snd) _)).trans
      ((setStn_unhurt _ c n x).trans (retainCluster_unhurt _ (clusterOf c)))
  unfold startStnReset
  refine Unhurt.trans ?_ (lint_unhurt _ _ _ _ _ _ _)
  split
  · exact (hreset _).trans (setEng_unhurt _ _ _ _)
  · exact hreset _

theorem csrStore_unhurt (s : State) (off v : Nat) : Unhurt s (csrStore s off v) := by
  unfold csrStore
  split
  · exact Unhurt.refl s
  · exact unhurt_of_cores rfl

theorem tracePump_traces (s : State) (c : Nat) : Traces s (tracePump s c) := by
  unfold tracePump
  dsimp only
  split
  · exact Traces.refl s
  · exact (setCore_traces (by rfl)).trans (foldl_rel Traces.refl Traces.trans (fun u w => tracePut_traces u c w) _ _)

theorem goOn_waits (s : State) (r : HbmReq) (a n : Nat) : Waits s (goOn s r a n) := by
  unfold goOn
  refine foldl_rel Waits.refl Waits.trans (fun u p => ?_) _ s
  dsimp only
  split
  · exact Waits.refl u
  · exact ⟨_, _, rfl⟩

theorem agentWrite_unhurt (s : State) (a : Nat) (bs : List Byte) : Unhurt s (agentWrite s a bs) :=
  Unhurt.trans (u := { s with mem := memWrites s.mem a bs }) (unhurt_of_cores rfl) (agentWrite_touches s a bs).unhurt

theorem raise_note_unhurt (s : State) (code cls k src : Nat) (info : List Nat) : Unhurt s (raise s code 0 cls k src info) :=
    by
  obtain ⟨_, _, h⟩ := raise_note_eq_with s code cls k src info
  rw [h]
  exact unhurt_of_cores rfl

theorem traceChunk_unhurt (s : State) (c : Nat) : Unhurt s (traceChunk s c) := by
  unfold traceChunk
  extract_lets k wr a may bs s1 w full
  split
  · exact (waitFor_waits s _ _ _).unhurt
  · split
    · have hgo := goOn_waits s ⟨.drain c, 4⟩ a 4096
      have hcut : Unhurt s (setCore (goOn s ⟨.drain c, 4⟩ a 4096) c { k with trace := k.trace.drop 4096 }) := by
        refine hgo.unhurt.trans (setCore_unhurt ?_)
        obtain ⟨_, _, h⟩ := hgo
        rw [h]
        rfl
      have hwritten : Unhurt s s1 := hcut.trans (agentWrite_unhurt _ _ _)
      have hfull : Unhurt s (setCore s1 c { getCore s1 c with ringFull := full }) := hwritten.trans (setCore_unhurt rfl)
      exact (hfull.trans (csrPut_unhurt _ _ _)).trans (tracePump_traces _ c).unhurt
    · have hempty : Unhurt s (setCore s c { k with trace := [], tracePend := [] }) := setCore_unhurt rfl
      exact (hempty.trans (csrPut_unhurt _ _ _)).trans (raise_note_unhurt _ _ _ _ _ _)

theorem traceFlushN_unhurt (s : State) (c n : Nat) : Unhurt s (traceFlushN s c n) := by
  induction n generalizing s with
  | zero => exact Unhurt.refl s
  | succ n ih =>
    rw [traceFlushN]
    split
    · exact (traceChunk_unhurt s c).trans (ih _)
    · exact Unhurt.refl s

theorem foldl_range_unhurt {f : State → Nat → State} {p : State → Nat → Prop} [∀ s n, Decidable (p s n)]
    (h : ∀ s n, Unhurt s (f s n)) (l : List Nat) (s : State) : Unhurt s (l.foldl (fun s n => if p s n then f s n else s) s)
        :=
  foldl_rel Unhurt.refl Unhurt.trans (fun u n => by
    split
    · exact h u n
    · exact Unhurt.refl u) l s

theorem writeTraceCtrl_unhurt (s : State) (c v : Nat) : Unhurt s (writeTraceCtrl s c v) := by
  unfold writeTraceCtrl
  extract_lets stops was s1 s2 s3
  have h1 : Unhurt s s1 := foldl_range_unhurt (fun u t => (traceTnt_traces u c t).unhurt) _ s
  have h2 : Unhurt s s2 := (h1.trans (csrStore_unhurt _ _ _)).trans (tracePump_traces _ c).unhurt
  have h3 : Unhurt s s3 := h2.trans (foldl_rel Unhurt.refl Unhurt.trans (fun u t => by
    dsimp only
    split
    · exact Unhurt.refl u
    · exact (traceStart_traces u c t).unhurt) _ _)
  split
  · exact h3.trans (traceFlushN_unhurt _ c 4)
  · exact h3

theorem clearPerf_unhurt (s : State) (c : Nat) : Unhurt s (clearPerf s c) := setCore_unhurt rfl

theorem ringFull_unhurt (s : State) (c : Nat) (b : Bool) : Unhurt s (setCore s c { getCore s c with ringFull := b }) :=
  setCore_unhurt rfl

/-- A write of a register of CORE. -/
theorem writeCore_unhurt (s : State) (c o v : Nat) : Unhurt s (writeCore s c o v) := by
  unfold writeCore
  extract_lets off s1 s2
  split
  · exact (foldl_range_unhurt (fun u t => stopThread_unhurt u c t) _ s).trans
        (foldl_range_unhurt (fun u t => startThread_unhurt u c t) _ _)
  split
  · exact foldl_range_unhurt (fun u n => startStnReset_unhurt u c n) _ s
  split
  · exact writeTraceCtrl_unhurt s c v
  split
  · split
    · exact (csrStore_unhurt s off v).trans (clearPerf_unhurt _ c)
    · exact csrStore_unhurt s off v
  split
  · exact ((csrStore_unhurt s off v).trans (ringFull_unhurt _ c false)).trans (tracePump_traces _ c).unhurt
  split
  · exact (csrStore_unhurt s off v).trans (retainCluster_unhurt _ _)
  · exact csrStore_unhurt s off v

end Sys2Proof.Machine
end

section
/-! O13, the instructions themselves. -/

open Sys2Proof
namespace Sys2Proof.Machine

theorem readClear_eq_with (s : State) (off : Nat) : ∃ csr, readClear s off = { s with csr := csr } := by
  unfold readClear
  extract_lets v
  clear_value v
  split <;> exact ⟨_, rfl⟩

/-- Reading a register changes no more than what it clears or latches. -/
theorem csrRead_eq_with (s : State) (reader off : Nat) :
    ∃ csr cycleHi engHi, (csrRead s reader off).1 = { s with csr := csr, cycleHi := cycleHi, engHi := engHi } := by
  unfold csrRead
  split
  · exact ⟨_, _, _, rfl⟩
  split
  · exact ⟨_, _, _, rfl⟩
  split
  · exact ⟨_, _, _, rfl⟩
  split
  · exact ⟨_, _, _, rfl⟩
  split
  · exact ⟨_, _, _, rfl⟩
  · exact ⟨_, _, _, rfl⟩
  · obtain ⟨_, h⟩ := readClear_eq_with s off
    exact ⟨_, _, _, h⟩

theorem getThread_csrRead (s : State) (reader off c t : Nat) : getThread (csrRead s reader off).1 c t = getThread s c t :=
    by
  obtain ⟨_, _, _, h⟩ := csrRead_eq_with s reader off
  rw [h]
  rfl

/-- The fields of the operand of CSRR and CSRW. -/
theorem csrFields_ofNat {space off : Nat} (hspace : space < 2) (hoff : off < 0x4000) :
    (BitVec.ofNat 16 (space * 0x8000 + off)).getLsbD 14 = false ∧
    bitsOf (BitVec.ofNat 16 (space * 0x8000 + off)).toNat 15 15 = space ∧
    bitsOf (BitVec.ofNat 16 (space * 0x8000 + off)).toNat 13 0 = off := by
  have hnum : (BitVec.ofNat 16 (space * 0x8000 + off)).toNat = space * 0x8000 + off := by
    rw [BitVec.toNat_ofNat]
    omega
  refine ⟨?_, ?_, ?_⟩
  · rw [← BitVec.testBit_toNat, hnum, Nat.testBit_eq_decide_div_mod_eq]
    norm_num
    omega
  · rw [hnum, bitsOf_eq_div_mod]
    norm_num
    omega
  · rw [hnum, bitsOf_eq_div_mod]
    norm_num
    omega

variable {s : State} {c t : Nat}

/-- A read of a register that a thread may name. -/
theorem completes_csrr {gd ga space off o : Nat} (hnow : issuesNow s c t) (hspace : space < 2) (hoff : off < 0x4000)
    (htarget : csrTarget c space off = some o) :
    completes (.csrr c t gd ga (BitVec.ofNat 16 (space * 0x8000 + off))) s (fun u =>
      let r := csrRead (advanced s c t) (threadReader c t) o
      u = setThread r.1 c t (getThread u c t) ∧ wrote (getThread r.1 c t) (getThread u c t) gd (BitVec.ofNat 64 r.2) ∧
        passedBy s r.1 c t) := by
  obtain ⟨hrsv, hbank, hlow⟩ := csrFields_ofNat hspace hoff
  have hthread := getThread_csrRead (advanced s c t) (threadReader c t) o c t
  have hperform : performOp (advanced s c t) c t (getThread s c t).pc (.csrr gd space off) =
      setThread (csrRead (advanced s c t) (threadReader c t) o).1 c t
        ((getThread (csrRead (advanced s c t) (threadReader c t) o).1 c t).putAll gd
          (BitVec.ofNat 64 (csrRead (advanced s c t) (threadReader c t) o).2)) := by
    rw [performOp, doCsrr, htarget]
  have hreads : issueOther s c t [gd] true (fun _ => .csrr gd space off) = _ :=
    issueOther_of_ne_exception hnow [gd] (op := fun _ => .csrr gd space off) hperform (by
      rw [getThread_setThread_same, hthread, getThread_advanced]
      simp [Thread.putAll, running_of_issuesNow hnow])
  have hexec : exec (.csrr c t gd ga (BitVec.ofNat 16 (space * 0x8000 + off))) s =
      .next (issueOther s c t [gd] true (fun _ => .csrr gd space off)) := by
    rw [exec, execCsrr, hrsv, hbank, hlow, Bool.not_false]
  refine ⟨_, hexec.trans (congrArg Host.Outcome.next hreads), ?_⟩
  · dsimp only
    rw [getThread_setThread_same]
    refine ⟨rfl, wrote_of_regs_eq rfl, ?_⟩
    rw [passedBy, hthread, getThread_advanced]
    exact ⟨rfl, rfl⟩

theorem csrEffect_core_unhurt (s : State) (v : BitVec 32) {off : Nat} (h : 0x100000 ≤ off) : Unhurt s (csrEffect s off v).1
    := by
  have hcore : csrEffect s off v =
      (writeCore s ((off - 0x100000) / 0x1000) ((off - 0x100000) % 0x1000) v.toNat, 0) := by
    simp only [csrEffect, if_pos h]
  rw [hcore]
  dsimp only
  exact writeCore_unhurt _ _ _ _

/-- A write of the own block. -/
theorem completes_csrw_own {ga off : Nat} (hnow : issuesNow s c t) (hoff : off < 0x400) :
    completes (.csrw c t 0 ga (BitVec.ofNat 16 off)) s (fun u =>
      u = (csrEffect (advanced s c t) (0x100000 + c * 0x1000 + off * 4) (((getThread s c t).reg ga).setWidth 32)).1) := by
  obtain ⟨hrsv, hbank, hlow⟩ := csrFields_ofNat (space := 0) (off := off) (by decide) (by omega)
  rw [Nat.zero_mul, Nat.zero_add] at hrsv hbank hlow
  have hwrites : doCsrw (advanced s c t) c t (getThread s c t).pc ((getThread s c t).reg ga) 0 off =
      (csrEffect (advanced s c t) (0x100000 + c * 0x1000 + off * 4) (((getThread s c t).reg ga).setWidth 32)).1 :=
    if_neg (by omega)
  have hst : (getThread (csrEffect (advanced s c t) (0x100000 + c * 0x1000 + off * 4)
      (((getThread s c t).reg ga).setWidth 32)).1 c t).st ≠ .exception := by
    intro hexc
    have hbefore := csrEffect_core_unhurt _ _ (show 0x100000 ≤ 0x100000 + c * 0x1000 + off * 4 by omega) c t hexc
    rw [getThread_advanced] at hbefore
    have hrunning := running_of_issuesNow hnow
    rw [show (getThread s c t).st = .exception from hbefore] at hrunning
    cases hrunning
  refine ⟨_, ?_, rfl⟩
  rw [exec_csrw_legal hrsv, hbank, hlow]
  exact congrArg Host.Outcome.next (issueOther_of_ne_exception hnow [ga]
    (op := fun x => .csrw (x.reg ga) 0 off) hwrites hst)

/-! ### TRACE -/

theorem coreTraceCtrl_ne_drop (c : Nat) : O.coreTraceCtrl c ≠ O.coreTraceDrop c := by
  unfold O.coreTraceCtrl O.coreTraceDrop
  omega

theorem csrBit_of_csrGet {s u : State} {o : Nat} (i : Nat) (h : csrGet u o = csrGet s o) : csrBit u o i = csrBit s o i := by
  rw [csrBit_eq_testBit, csrBit_eq_testBit, h]

theorem csrBit_csrPutBits_same (s : State) (o : Nat) {i b : Nat} (hi : i < 32) :
    csrBit (csrPutBits s o i i b) o i = decide (b % 2 = 1) := by
  rw [csrBit, csrBits_csrPutBits_same _ _ _ _ hi, Nat.add_sub_cancel_left, pow_one]

/-- A trace action that changes no more than the trace, by a thread that issues now. -/
theorem completes_trace {gd ga : Nat} {imm : BitVec 16} {u : State} (hnow : issuesNow s c t) (himm : imm.toNat < 3)
    (hperform : doTrace (advanced s c t) c t (getThread s c t).pc ((getThread s c t).reg ga) imm.toNat = u)
    (htraces : Traces (advanced s c t) u) :
    exec (.traceOp c t gd ga imm) s = .next u ∧ passedBy s u c t ∧ u.mem = s.mem := by
  have hthread := htraces.2 c t
  rw [getThread_advanced] at hthread
  have hissues := issueOther_of_ne_exception hnow [ga] (op := fun x => .trace (x.reg ga) imm.toNat) hperform (by
    rw [hthread]
    simp [running_of_issuesNow hnow])
  refine ⟨?_, ?_, ?_⟩
  · rw [exec, execTraceOp, decide_eq_true himm, hissues]
  · rw [passedBy, hthread]
    exact ⟨rfl, rfl⟩
  · obtain ⟨_, _, h⟩ := htraces.1
    rw [h]
    rfl

theorem csrPutBits_traces (s : State) (o hi lo v : Nat) : Traces s (csrPutBits s o hi lo v) := ⟨⟨_, _, rfl⟩, fun _ _ => rfl⟩

theorem completes_trace_start {gd ga : Nat} (hnow : issuesNow s c t) (ht : t < 8) :
    completes (.traceOp c t gd ga 1#16) s (fun u => csrBit u (O.coreTraceCtrl c) (8 + t) = true ∧ passedBy s u c t ∧ u.mem =
        s.mem) := by
  obtain ⟨hexec, hpass, hmem⟩ := completes_trace (gd := gd) (ga := ga) (imm := 1#16)
    (u := traceStart (csrPutBits (advanced s c t) (O.coreTraceCtrl c) (8 + t) (8 + t) 1) c t) hnow (by decide) rfl
    ((csrPutBits_traces _ _ _ _ _).trans (traceStart_traces _ c t))
  refine ⟨_, hexec, ?_, hpass, hmem⟩
  rw [traceStart, csrBit_of_csrGet _ (csrGet_traceOut _ _ _ _ (coreTraceCtrl_ne_drop c)), csrBit_csrPutBits_same _ _
      (by omega)]
  rfl

theorem completes_trace_stop {gd ga : Nat} (hnow : issuesNow s c t) (ht : t < 8) :
    completes (.traceOp c t gd ga 2#16) s (fun u => csrBit u (O.coreTraceCtrl c) (8 + t) = false ∧ passedBy s u c t ∧ u.mem
        = s.mem) := by
  obtain ⟨hexec, hpass, hmem⟩ := completes_trace (gd := gd) (ga := ga) (imm := 2#16)
    (u := csrPutBits (traceTnt (advanced s c t) c t) (O.coreTraceCtrl c) (8 + t) (8 + t) 0) hnow (by decide) rfl
    ((traceTnt_traces _ c t).trans (csrPutBits_traces _ _ _ _ _))
  refine ⟨_, hexec, ?_, hpass, hmem⟩
  rw [csrBit_csrPutBits_same _ _ (by omega)]
  rfl

theorem traceMark_traces (u : State) (c t pc v : Nat) : Traces u (traceMark u c t pc v) :=
  (traceTnt_traces u c t).trans (traceOut_traces _ c t pc _)

/-- A MARK of a traced thread joins the buffer where it has room and nothing waits before it. -/
theorem traceMark_room {u : State} {pc v : Nat} (hon : traceOn u c t = true) (hlost : (getCore u c).traceLost = 0)
    (hgap : (getCore u c).traceGap = false) (hpend : (getCore u c).tracePend = []) (hroom : traceBlocked u c 5 = false)
    (hsince : (getCore u c).traceSince + 14 < 4096) (hthread : (getCore u c).traceThread = t)
        (htnt : (getThread u c t).tnt = []) :
    (getCore (traceMark u c t pc v) c).trace = (getCore u c).trace ++ 0xF0#8 :: leBytes 4 v := by
  rw [traceOn, Bool.and_eq_true, decide_eq_true_eq] at hon
  obtain ⟨harmed, hlevel⟩ := hon
  have hpacket : (getCore u c).tracePacket u ⟨t, pc, .mark v⟩ = (getCore u c).traceAppend (0xF0#8 :: leBytes 4 v) := by
    have hno : ¬ 4096 ≤ (getCore u c).traceSince + 14 := by omega
    simp [Core.tracePacket, hlost, hgap, hthread, hno, TracePkt.bytes]
  have hlen : ((getCore u c).trace ++ 0xF0#8 :: leBytes 4 v).length - (getCore u c).trace.length = 5 := by simp
  have htraced : traceTnt u c t = u := by rw [traceTnt, htnt]
  rw [traceMark, htraced, traceOut, if_pos harmed, tracePut]
  rw [if_neg (not_not.mpr hlevel), hpacket, if_pos ⟨by rw [hpend]; rfl, by rw [← hroom, ← hlen]; rfl⟩, getCore_setCore_same]
  rfl

/-- Settles O13: reads by the register named, writes as writes of the own block, trace actions by what they do to the trace.
    -/
theorem coreCsrAndTrace : Obligations.CoreCsrAndTrace := by
  intro s c t gd ga off x s1 reads bit hnow ht
  refine ⟨fun hoff => ⟨?_, ?_⟩, fun hoff => ?_, completes_trace_start hnow ht, completes_trace_stop hnow ht, fun _ => ?_,
    fun hon hlost hgap hpend hroom hsince hthread htnt => ?_⟩
  · exact completes_csrr hnow (by decide) (by omega) (by rw [csrTarget, if_neg (by decide), if_pos (by omega)])
  · exact completes_csrw_own hnow hoff
  · exact completes_csrr hnow (by decide) hoff (by rw [csrTarget, if_pos rfl, if_pos (by omega)])
  · obtain ⟨hexec, hpass, hmem⟩ := completes_trace (gd := gd) (ga := ga) (imm := 0#16) hnow (by decide) rfl
        (traceMark_traces _ c t _ _)
    exact ⟨_, hexec, hpass, hmem⟩
  · obtain ⟨hexec, hpass, hmem⟩ := completes_trace (gd := gd) (ga := ga) (imm := 0#16) hnow (by decide) rfl
        (traceMark_traces _ c t _ _)
    refine ⟨_, hexec, ?_, hpass⟩
    have hcore : getCore (advanced s c t) c = { getCore s c with threads := (getCore (advanced s c t) c).threads } := by
      unfold advanced setThread
      rw [getCore_setCore_same]
    have hblocked : traceBlocked (advanced s c t) c 5 = false := by
      rw [← hroom]
      unfold traceBlocked ringRoom ringUsed
      rw [hcore]
      rfl
    have hmark := traceMark_room (u := advanced s c t) (c := c) (t := t) (pc := (getThread s c t).pc)
      (v := (x.reg ga).toNat % 2 ^ 32) hon (by rw [hcore]; exact hlost) (by rw [hcore]; exact hgap)
          (by rw [hcore]; exact hpend)
      hblocked (by rw [hcore]; exact hsince) (by rw [hcore]; exact hthread) (by rw [getThread_advanced]; exact htnt)
    rw [hcore] at hmark
    exact hmark

end Sys2Proof.Machine
end

section
/-! O15. What waits behind an unresolved branch, and what does not issue. -/

open Sys2Proof
namespace Sys2Proof.Machine

variable {s : State} {c t : Nat}

/-- A legal instruction of a thread that may issue, none of whose registers is awaited. -/
theorem issueOther_of_mayIssue {uses : List Nat} (op : Thread → CoreOp) (hmay : mayIssue (drainBuffer s c t) c t = true)
    (huses : ∀ g ∈ uses, (getThread (drainBuffer s c t) c t).awaited g = false) :
    issueOther s c t uses true op = issueOp (drainBuffer s c t) c t (op (getThread (drainBuffer s c t) c t)) := by
  have hnone : uses.any (getThread (drainBuffer s c t) c t).awaited = false := by simpa using huses
  simp [issueOther, hmay, hnone]

/-- An instruction that may not issue, or whose registers are awaited, has no effect yet. -/
theorem exec_other_of_held {i : Instr} {uses : List Nat} {legal : Bool} {op : Thread → CoreOp}
    (hexec : exec i s = .next (issueOther s c t uses legal op)) {g : Nat} (hg : g ∈ uses)
    (h : mayIssue (drainBuffer s c t) c t = false ∨ (getThread (drainBuffer s c t) c t).awaited g = true) :
    exec i s = .next (drainBuffer s c t) :=
  hexec.trans (congrArg Host.Outcome.next
    (if_pos (h.imp_right fun hawaited => List.any_eq_true.mpr ⟨g, hg, hawaited⟩)))

theorem exec_reg_of_held {i : Instr} {uses : List Nat} {f : Thread → Thread}
    (hexec : exec i s = .next (issueReg s c t uses f)) {g : Nat} (hg : g ∈ uses)
    (h : mayIssue (drainBuffer s c t) c t = false ∨ (getThread (drainBuffer s c t) c t).awaited g = true) :
    exec i s = .next (drainBuffer s c t) :=
  hexec.trans (congrArg Host.Outcome.next
    (if_pos (h.imp_right fun hawaited => List.any_eq_true.mpr ⟨g, hg, hawaited⟩)))

/-- Under an unresolved branch an instruction that is no jump joins the buffer, as far as it has room. -/
theorem issueOp_behind_branch {u : State} {op : CoreOp} (hbranches : (getThread u c t).branches ≠ [])
    (hjump : ∀ gd a, op ≠ .jalr gd a) :
    ((getThread u c t).buffer.length < 4 → issueOp u c t op = setThread u c t { getThread u c t with
      pc := ((getThread u c t).pc + 4) % 2 ^ 20
      run := (getThread u c t).run + 1
      buffer := (getThread u c t).buffer ++ [⟨(getThread u c t).branches.length, (getThread u c t).pc, op,
          (getThread u c t).regs⟩] }) ∧
    (4 ≤ (getThread u c t).buffer.length → issueOp u c t op = switchOut u c t .queueFull .none) := by
  have hopen : ¬ ((getThread u c t).branches.isEmpty = true ∧ (getThread u c t).buffer.isEmpty = true) := by
    simp [hbranches]
  unfold issueOp
  dsimp only
  rw [if_neg hopen]
  refine ⟨fun hroom => ?_, fun hfull => if_pos hfull⟩
  rw [if_neg (by omega)]
  split
  · next gd a => exact absurd rfl (hjump gd a)
  · rfl

/-- What an instruction that waits behind a branch does to its thread. -/
theorem waits_behind_branch {i : Instr} {uses : List Nat} {op : Thread → CoreOp} {o : CoreOp}
    (hexec : exec i s = .next (issueOther s c t uses true op)) (hop : op (getThread (drainBuffer s c t) c t) = o)
    (hjump : ∀ gd a, o ≠ .jalr gd a) (hmay : mayIssue (drainBuffer s c t) c t = true)
    (hbranches : (getThread (drainBuffer s c t) c t).branches ≠ [])
    (huses : ∀ g ∈ uses, (getThread (drainBuffer s c t) c t).awaited g = false) :
    let s1 := drainBuffer s c t
    let x := getThread s1 c t
    (x.buffer.length < 4 → completes i s (fun u => u = setThread s1 c t { x with
      pc := (x.pc + 4) % 2 ^ 20
      run := x.run + 1
      buffer := x.buffer ++ [⟨x.branches.length, x.pc, o, x.regs⟩] })) ∧
    (4 ≤ x.buffer.length → completes i s (fun u =>
      (getThread u c t).st = .queueFull ∧ (getThread u c t).pc = x.pc ∧ (getThread u c t).buffer = x.buffer ∧ u.mem =
          s1.mem)) := by
  obtain ⟨hroom, hfull⟩ := issueOp_behind_branch hbranches hjump
  have hissues : exec i s = .next (issueOp (drainBuffer s c t) c t o) := by
    rw [hexec, issueOther_of_mayIssue op hmay huses, hop]
  refine ⟨fun h => ⟨_, hissues, hroom h⟩, fun h => ⟨_, hissues, ?_⟩⟩
  rw [hfull h]
  dsimp only
  rw [getThread_switchOut _ c t .none (show TState.queueFull ≠ .ready by decide)]
  exact ⟨rfl, rfl, rfl, rfl⟩

/-- Settles O15: an instruction under a branch by the room in the buffer, one that may not issue by what holds it. -/
theorem issueBuffer : Obligations.IssueBuffer := by
  refine ⟨?_, ?_⟩
  · intro s c t gd ga imm s1 x a waits hmay hbranches hgd hga
    have hboth : ∀ g ∈ [gd, ga], x.awaited g = false := by simp [hgd, hga]
    exact ⟨waits_behind_branch rfl rfl nofun hmay hbranches hboth, waits_behind_branch rfl rfl nofun hmay hbranches hboth,
      waits_behind_branch rfl rfl nofun hmay hbranches hboth, waits_behind_branch rfl rfl nofun hmay hbranches hboth,
      waits_behind_branch rfl rfl nofun hmay hbranches (by simp)⟩
  · intro s c t gd ga imm off s1 h
    have hga : ga ∈ [gd, ga] := by simp
    have hadds : exec (.addi c t gd ga imm) s =
      .next (issueReg s c t [gd, ga] (fun x => x.put gd (x.reg ga + sext16 imm))) := rfl
    exact ⟨exec_reg_of_held hadds hga h, exec_other_of_held rfl hga h, exec_other_of_held rfl hga h,
      congrArg Host.Outcome.next (if_pos (h.imp_right .inl)), exec_other_of_held rfl hga h⟩

end Sys2Proof.Machine
end

section
/-! O16. The resolution of a branch. -/

open Sys2Proof
namespace Sys2Proof.Machine

theorem traceOutcome_traces (s : State) (c t pc : Nat) (taken : Bool) : Traces s (traceOutcome s c t pc taken) := by
  unfold traceOutcome
  split
  · have hjoined := setThread_tnt_traces s c t ((getThread s c t).tnt ++ [(taken, pc)])
    dsimp only
    split
    · exact hjoined.trans (traceTnt_traces _ c t)
    · exact hjoined
  · exact Traces.refl s

theorem csrGet_traceOutcome (s : State) (c t pc : Nat) (taken : Bool) {o : Nat} (h : o ≠ O.coreTraceDrop c) :
    csrGet (traceOutcome s c t pc taken) o = csrGet s o := by
  unfold traceOutcome
  dsimp only
  split
  · split
    · exact csrGet_traceTnt _ t h
    · rfl
  · rfl

/-- The state of core `c` after its predictor learnt the outcome of a branch. -/
def learnt (s : State) (c : Nat) (b : Branch) : State :=
  setCore s c { getCore s c with
    predictor := tset (getCore s c).predictor b.index (predNext (tget (getCore s c).predictor b.index 0) b.taken) }

theorem getThread_learnt (s : State) (c t : Nat) (b : Branch) : getThread (learnt s c b) c t = getThread s c t := by
  exact getThread_setCore (x := { getCore s c with
    predictor := tset (getCore s c).predictor b.index (predNext (tget (getCore s c).predictor b.index 0) b.taken) }) rfl c t

/-- What the trace of an outcome leaves of the thread that it belongs to: all but the outcomes not yet sent. -/
theorem traceOutcome_leaves (w : State) (c t pc : Nat) (taken : Bool) :
    let v := traceOutcome w c t pc taken
    (getThread v c t).regs = (getThread w c t).regs ∧ (getThread v c t).pc = (getThread w c t).pc ∧
      (getThread v c t).branches = (getThread w c t).branches ∧ v.mem = w.mem ∧
      (getThread v c t).buffer = (getThread w c t).buffer := by
  intro v
  obtain ⟨⟨_, _, hframe⟩, hthreads⟩ := traceOutcome_traces w c t pc taken
  have hthread := hthreads c t
  have hmem := congrArg State.mem hframe
  exact ⟨by rw [hthread], by rw [hthread], by rw [hthread], hmem, by rw [hthread]⟩

theorem csrGet_bump_same (s : State) (o : Nat) :
    csrGet (bump s o) o = min (csrGet s o + 1) 0xFFFFFFFF := by
  unfold bump
  rw [csrGet_csrPut_same, Nat.mod_eq_of_lt (by omega)]

theorem coreBpMiss_ne_traceDrop (c : Nat) : O.coreBpMiss c ≠ O.coreTraceDrop c := by
  unfold O.coreBpMiss O.coreTraceDrop
  omega

theorem getThread_setThread_learnt (s : State) (c t : Nat) (b : Branch) (y : Thread) :
    getThread (setThread (learnt s c b) c t y) c t = y :=
  getThread_setThread_same _ _ _ _

/-- Settles O16: what the thread is set to by the outcome, and what the trace of the outcome leaves of it. -/
theorem branchResolves : Obligations.BranchResolves := by
  intro s c t b rest x hbranches hruns
  have hexec : exec (.branchResolve c t) s = .next (resolveBranch s c t b rest) := by
    rw [exec, execBranchResolve, hbranches]
    exact congrArg Host.Outcome.next (if_pos hruns)
  refine ⟨fun hpredicted => ⟨_, hexec, ?_⟩, fun hmissed => ⟨_, hexec, ?_⟩⟩
  · obtain ⟨y, hy⟩ : ∃ y : Thread, y = { getThread (learnt s c b) c t with
      branches := rest
      buffer := (getThread (learnt s c b) c t).buffer.map (fun w => { w with depth := w.depth - 1 }) } := ⟨_, rfl⟩
    obtain ⟨w, hw⟩ : ∃ w, w = setThread (learnt s c b) c t y := ⟨_, rfl⟩
    refine ⟨traceOutcome w c t b.pc b.taken, by subst hw hy; exact if_pos hpredicted, ?_⟩
    obtain ⟨hregs, hpc, hrest, hmem, hbuffer⟩ := traceOutcome_leaves w c t b.pc b.taken
    have hthread : getThread w c t = y := hw ▸ getThread_setThread_learnt s c t b y
    rw [hthread, hy] at hregs hpc hrest hbuffer
    rw [getThread_learnt] at hbuffer hregs hpc
    exact ⟨hregs, hpc, hrest, hmem.trans (hw ▸ rfl), hbuffer⟩
  · obtain ⟨y, hy⟩ : ∃ y : Thread, y = { getThread (learnt s c b) c t with
      branches := []
      buffer := (getThread (learnt s c b) c t).buffer.filter (fun w => decide (w.depth = 0))
      regs := b.regs, pc := b.other } := ⟨_, rfl⟩
    obtain ⟨w, hw⟩ : ∃ w, w = bump (setThread (learnt s c b) c t y) (O.coreBpMiss c) := ⟨_, rfl⟩
    refine ⟨traceOutcome w c t b.pc b.taken, by subst hw hy; exact if_neg hmissed, ?_⟩
    obtain ⟨hregs, hpc, hrest, hmem, hbuffer⟩ := traceOutcome_leaves w c t b.pc b.taken
    have hthread : getThread w c t = y := by
      rw [hw]
      exact getThread_setThread_learnt s c t b y
    have hcount : csrGet w (O.coreBpMiss c) = min (csrGet s (O.coreBpMiss c) + 1) 0xFFFFFFFF := by
      rw [hw]
      exact csrGet_bump_same _ _
    rw [hthread, hy] at hregs hpc hrest hbuffer
    rw [getThread_learnt] at hbuffer
    exact ⟨hregs, hpc, hrest, hmem.trans (hw ▸ rfl), hbuffer,
      (csrGet_traceOutcome w c t b.pc b.taken (coreBpMiss_ne_traceDrop c)).trans hcount⟩

end Sys2Proof.Machine
end

section
/-! O17. The end of a quantum where two threads of a core run. -/

open Sys2Proof
namespace Sys2Proof.Machine

/-- Core 0 with threads 0 and 1 running, the quantum of thread 0 used up, and thread 2 ready. No run reaches it: a core
runs one thread at a time. -/
def twoRunning : State :=
  { State.reset with
    power := { PowerSt.reset with doms := [(0, Dom.onDom)] }
    cores := [(0, { Core.reset with threads := [(0, { Thread.reset with st := .running, run := 256 }),
      (1, { Thread.reset with st := .running }), (2, { Thread.reset with st := .ready })] })] }

/-- Refutes O17: where a second thread of the core runs (`twoRunning`), the end of a quantum hands the core to none. -/
theorem not_coreEventsComplete : ¬ Obligations.CoreEventsComplete := by
  intro h
  obtain ⟨-, -, -, -, -, hquantum, -, -⟩ := h twoRunning 0 0 0 0 0 0 0#64
  obtain ⟨u, hexec, -, hrunning, -⟩ := hquantum 2 (by decide) (by decide) (by decide) (by decide) (by decide) (by decide)
  have hnext : exec (.threadQuantumExpire 0) twoRunning = .next (switchOut twoRunning 0 0 .ready .none) := rfl
  have hready : (getThread (switchOut twoRunning 0 0 .ready .none) 0 2).st = .ready := by decide
  cases hexec.symm.trans hnext
  exact absurd (hready.symm.trans hrunning) (by decide)

end Sys2Proof.Machine
end

section
/-! O18. The tokens of every stream. -/

open Sys2Proof
namespace Sys2Proof.Machine

/-- The tokens of a stream: what `streamTokens` counts of an entry. -/
def StreamSt.tokens (x : StreamSt) : Nat :=
  x.credits + x.queue.length + x.held.length + x.ret + b2n x.crease + x.router.length + x.routerCr

/-- Every stream of `u` has the tokens that it has in `s`. -/
def KeepsTokens (s u : State) : Prop := ∀ f, (getStream u f).tokens = (getStream s f).tokens

variable {s u v : State}

theorem KeepsTokens.refl (s : State) : KeepsTokens s s := fun _ => rfl

theorem KeepsTokens.trans (hu : KeepsTokens s u) (hv : KeepsTokens u v) : KeepsTokens s v :=
  fun f => (hv f).trans (hu f)

theorem keepsTokens_of_streams (h : u.streams = s.streams) : KeepsTokens s u := fun f => by rw [getStream_congr h]

/-- A stream set to one of the same tokens. -/
theorem setStream_keepsTokens {e : Nat} {x : StreamSt} (h : x.tokens = (getStream s e).tokens) :
    KeepsTokens s (setStream s e x) := by
  intro f
  by_cases hf : f = e
  · subst hf
    rw [getStream_setStream_same, h]
  · rw [getStream_setStream_other _ _ hf]

theorem StreamSt.TakesTo.tokens {x y : StreamSt} (h : x.TakesTo y) : y.tokens = x.tokens := by
  obtain ⟨taken, left, hqueue, rfl⟩ := h
  simp only [StreamSt.tokens, hqueue, List.length_append]
  omega

theorem FedTo.keepsTokens (h : FedTo s u) : KeepsTokens s u := fun f => (h.takes f).tokens

theorem takeTile_keepsTokens (s : State) (e : Nat) : KeepsTokens s (takeTile s e) := (takeTile_fedTo s e).keepsTokens

@[simp] theorem waitFor_streams (s : State) (r : HbmReq) (a n : Nat) : (waitFor s r a n).streams = s.streams := by
  obtain ⟨_, _, h⟩ := waitFor_waits s r a n
  rw [h]

/-! ### Placing a tile -/

/-- A tile placed where there is a credit: the credit became a tile. -/
theorem StreamSt.placed_tokens {x : StreamSt} (t : STile) (runs : Bool) (h : 0 < x.credits) :
    (x.placed t runs).tokens = x.tokens := by
  cases runs
  · simp only [StreamSt.placed, StreamSt.tokens, Bool.false_eq_true, if_false, List.length_append, List.length_singleton]
    omega
  · simp only [StreamSt.placed, StreamSt.tokens, if_true, List.length_append, List.length_singleton]
    omega

theorem placeTile_keepsTokens {c n : Nat} {es : List Nat} {t : STile} (hnodup : es.Nodup)
    (hcredits : hasCredits s es = true) :
    KeepsTokens s (placeTile s c n es t) := by
  intro f
  by_cases hf : f ∈ es
  · obtain ⟨runs, -, hplaced⟩ := getStream_placeTile_of_mem (s := s) c n t hnodup hf
    have hcredit : 0 < (getStream s f).credits := by
      obtain ⟨-, hall⟩ := Bool.and_eq_true_iff.mp hcredits
      exact of_decide_eq_true (List.all_eq_true.mp hall f hf)
    rw [hplaced, StreamSt.placed_tokens t runs hcredit]
  · rw [getStream_placeTile_of_notMem c n t hf]

theorem hasCredits_of_placeable {l : List (List Nat × STile)} {i : Nat} {es : List Nat} {t : STile}
    (h : placeable s l = some (i, es, t)) : (es, t) ∈ l ∧ hasCredits s es = true := by
  obtain ⟨o, ho, heq⟩ := Option.map_eq_some_iff.mp h
  have ho1 : o.1 = (es, t) := congrArg Prod.snd heq
  refine ⟨ho1 ▸ List.fst_mem_of_mem_zipIdx (List.mem_of_find?_eq_some ho), ?_⟩
  have hcredits : hasCredits s o.1.1 = true := by simpa using List.find?_some ho
  rwa [ho1] at hcredits

theorem placeNext_keepsTokens {c n : Nat} (hnodup : ∀ o ∈ (getStn s c n).out, o.1.Nodup) : KeepsTokens s (placeNext s c n)
    := by
  unfold placeNext
  dsimp only
  split
  · exact .refl s
  · next i es t hplaceable =>
    obtain ⟨hmem, hcredits⟩ := hasCredits_of_placeable hplaceable
    obtain ⟨w, hw⟩ : ∃ w, w = setStn s c n { getStn s c n with out := (getStn s c n).out.eraseIdx i } := ⟨_, rfl⟩
    have hplaced : KeepsTokens s (placeTile w c n es t) :=
      (keepsTokens_of_streams (hw ▸ setStn_streams s c n _)).trans
        (placeTile_keepsTokens (hnodup _ hmem) (hw ▸ hcredits))
    have hfed := hplaced.trans (FedTo.foldl feedEp_fedTo es (placeTile w c n es t)).keepsTokens
    rw [← hw]
    split
    · exact hfed.trans (feedEngine_fedTo _ _ _).keepsTokens
    · exact hfed

/-! ### Releasing a tile, and the credit that comes back -/

theorem tileRelease_keepsTokens {e : Nat} (hexec : exec (.tileRelease e) s = .next u)
    (hcrease : owesCrease s e = true → (getStream s e).crease = false) : KeepsTokens s u := by
  rw [exec] at hexec
  unfold execTileRelease at hexec
  dsimp only at hexec
  split at hexec
  · cases hexec
    exact .refl s
  · next t rest hheld =>
    split at hexec
    · cases hexec
      exact .refl s
    · cases hexec
      refine KeepsTokens.trans (fun f => ?_) (feedEp_fedTo (released s e t rest) e).keepsTokens
      rw [getStream_congr (released_streams s e t rest)]
      by_cases hf : f = e
      · subst hf
        rw [getStream_releaseCredit_same, getStream_setStream_same]
        have howes : owesCrease (setStream s f { getStream s f with held := rest }) f = owesCrease s f := rfl
        rw [howes]
        split
        · next h => simp [StreamSt.tokens, hheld, hcrease h, b2n]; omega
        · simp [StreamSt.tokens, hheld]; omega
      · rw [getStream_releaseCredit_other _ hf, getStream_setStream_other _ _ hf]

theorem creditReturn_keepsTokens {e : Nat} (hexec : exec (.creditReturn e) s = .next u)
    (hcredits : (getStream s e).credits < (entryOf s e).depth) : KeepsTokens s u := by
  rw [exec] at hexec
  unfold execCreditReturn at hexec
  dsimp only at hexec
  rw [if_neg (by omega)] at hexec
  split at hexec
  · cases hexec
    exact .refl s
  · split at hexec
    · cases hexec
      refine KeepsTokens.trans (KeepsTokens.trans (setStream_keepsTokens ?_)
          (keepsTokens_of_streams (creditArrives_streams _ e)))
        (feedFoot_fedTo _ e).keepsTokens
      simp only [StreamSt.tokens]
      omega
    · cases hexec
      refine KeepsTokens.trans (setStream_keepsTokens ?_) (keepsTokens_of_streams (routerEvent_streams _ _))
      simp only [StreamSt.tokens]
      omega

/-! ### Creases -/

theorem enterCrease_keepsTokens {c e ep : Nat} {a : ArrWord} (h : (getStream s ep).crease = false) :
    KeepsTokens s (enterCrease s c e ep a) := by
  unfold enterCrease
  dsimp only
  refine KeepsTokens.trans (setStream_keepsTokens ?_) (keepsTokens_of_streams
      ((lint_streams _ _ _ _ _ _ _).trans (setEng_streams _ _ _ _)))
  split
  · simp [StreamSt.tokens, h, b2n]; omega
  · split
    · rfl
    · simp [StreamSt.tokens, h, b2n]; simp_all; omega

theorem creaseFor_keepsTokens {c e ep : Nat} {a : ArrWord} (h : (getStream s ep).crease = false) :
    KeepsTokens s (creaseFor s c e ep a) := by
  unfold creaseFor
  split
  · exact enterCrease_keepsTokens h
  · exact .refl s

theorem enterReplay_keepsTokens {c e : Nat} (h : ∀ part ep, actEp s c e part = some ep → (getStream s ep).crease = false) :
    KeepsTokens s (enterReplay s c e) := by
  unfold enterReplay
  dsimp only
  split
  · exact .refl s
  · split
    · exact .refl s
    · next ep hep => exact (creaseFor_keepsTokens (h _ ep hep)).trans (setAStream_fedTo _ _ _ _ _).keepsTokens

theorem creaseComplete_keepsTokens {c e : Nat} (hexec : exec (.creaseComplete c e) s = .next u)
    (hone : ∀ part ep, actEp s c e part = some ep → (getStream s ep).crease = true →
      ∃ k, (getEng s c e).crease = some k ∧ k.ep = ep) : KeepsTokens s u := by
  rw [exec] at hexec
  unfold execCreaseComplete at hexec
  cases hcrease : (getEng s c e).crease with
  | none =>
    rw [hcrease] at hexec
    cases hexec
    exact .refl s
  | some k =>
    rw [hcrease] at hexec
    dsimp only at hexec
    cases hexec
    obtain ⟨x, hx⟩ : ∃ x, x = { getStream s k.ep with
      ret := (getStream s k.ep).ret + b2n (getStream s k.ep).crease, crease := false } := ⟨_, rfl⟩
    have hfreed : x.crease = false := hx ▸ rfl
    have hgiven : KeepsTokens s (setStream s k.ep x) := by
      refine setStream_keepsTokens ?_
      rw [hx]
      simp [StreamSt.tokens, b2n]
      omega
    rw [← hx]
    refine (hgiven.trans (keepsTokens_of_streams (setEng_streams _ _ _ _))).trans
        (enterReplay_keepsTokens fun part ep hep => ?_)
    rw [getStream_congr (setEng_streams _ _ _ _)]
    by_cases hk : ep = k.ep
    · rw [hk, getStream_setStream_same, hfreed]
    · rw [getStream_setStream_other _ _ hk]
      cases hheld : (getStream s ep).crease with
      | false => rfl
      | true =>
        obtain ⟨k', hk', rfl⟩ := hone part ep hep hheld
        exact absurd (congrArg Crease.ep (Option.some.inj (hcrease.symm.trans hk')) |>.symm) hk

/-! ### Stores and planes -/

theorem takenOff_keepsTokens (s : State) (e c n : Nat) (t : STile) (q : QEntry) (d : Desc) (m : Nat) :
    KeepsTokens s (stepWalk (consume (takeTile s e) c t) c n q d m) :=
  (takeTile_keepsTokens s e).trans (keepsTokens_of_streams ((setStn_streams _ _ _ _).trans (consume_streams _ _ _)))

theorem storeWrite_keepsTokens {c n : Nat} (hexec : exec (.storeWrite c n) s = .next u) : KeepsTokens s u := by
  rw [exec] at hexec
  unfold execStoreWrite at hexec
  dsimp only at hexec
  split at hexec
  · next q d m _ =>
    split at hexec
    · cases hexec
      exact .refl s
    · next e _ _ =>
      split at hexec
      · cases hexec
        exact .refl s
      · next t _ =>
        split at hexec
        · split at hexec
          · cases hexec
            exact keepsTokens_of_streams (waitFor_streams _ _ _ _)
          · cases hexec
            have htaken (w : State) (hw : w.streams = s.streams) :=
              (keepsTokens_of_streams hw).trans (takenOff_keepsTokens w e c n t q d m)
            split
            · exact (htaken _ (goOn_streams _ _ _ _)).trans (keepsTokens_of_streams (agentWrite_streams _ _ _))
            · exact (htaken _ rfl).trans (keepsTokens_of_streams (pageDenied_streams _ _))
        · cases hexec
          exact .refl s
  · cases hexec
    exact .refl s

theorem planeLoadComplete_keepsTokens {c e : Nat} (hexec : exec (.planeLoadComplete c e) s = .next u) : KeepsTokens s u :=
    by
  rw [exec] at hexec
  unfold execPlaneLoadComplete at hexec
  dsimp only at hexec
  split at hexec
  · next q rest ep _ _ =>
    split at hexec
    · cases hexec
      exact .refl s
    · cases hexec
      refine KeepsTokens.trans (foldl_rel KeepsTokens.refl KeepsTokens.trans (fun s (_ : Nat) => takeTile_keepsTokens s ep)
          (List.range (shapeParts (arrWord q.word).shape)) s)
        (keepsTokens_of_streams ?_)
      rw [lint_streams, setEng_streams]
      exact foldl_keeps _ State.streams (fun s t => consumePart_streams s c t _ _) _ _
  · cases hexec
    exact .refl s

/-- Settles O18, command by command. -/
theorem streamTokensKept : Obligations.StreamTokensKept := by
  intro s u c n e f h
  rcases h with ⟨hexec, hnodup⟩ | ⟨hexec, hcrease⟩ | ⟨hexec, hcredits⟩ | ⟨hexec, hone⟩ | hexec | hexec
  · have hplace : exec (.tilePlace c n) s = .next (if coreRuns s c = true ∧ (getStn s c n).resetting = false ∧
      (n ≠ 12 ∨ fenceStops s = false) then placeNext s c n else s) := rfl
    cases hplace.symm.trans hexec
    split
    · exact placeNext_keepsTokens hnodup f
    · rfl
  · exact tileRelease_keepsTokens hexec hcrease f
  · exact creditReturn_keepsTokens hexec hcredits f
  · exact creaseComplete_keepsTokens hexec hone f
  · exact storeWrite_keepsTokens hexec f
  · exact planeLoadComplete_keepsTokens hexec f

end Sys2Proof.Machine
end

section
/-! O21. Fetches and stores. -/

open Sys2Proof
namespace Sys2Proof.Machine

variable {s : State} {c n k : Nat} {q : QEntry} {d : Desc}

theorem Waits.eq {s u : State} (h : Waits s u) : u = { s with hbm := u.hbm, power := u.power } := by
  obtain ⟨_, _, rfl⟩ := h
  rfl

/-! ### The next image of a walk -/

/-- One piece of an image goes on at its stacks; a piece that meets no upset does nothing else. -/
theorem goes_waits_of_no_upset {l : List Piece} (r : HbmReq) (h : ∀ p ∈ l, upsetsIn s p.addr.toNat p.len = []) :
    Waits s (l.foldl (fun s p => readMeets (goOn s r p.addr.toNat p.len) p.addr.toNat p.len) s) := by
  have hall : ∀ w, Waits s w → Waits s (l.foldl (fun s p => readMeets (goOn s r p.addr.toNat p.len) p.addr.toNat p.len) w)
      := by
    induction l with
    | nil => exact fun w hw => hw
    | cons p l ih =>
      intro w hw
      have hgone := hw.trans (goOn_waits w r p.addr.toNat p.len)
      have hupsets : upsetsIn (goOn w r p.addr.toNat p.len) p.addr.toNat p.len = [] := by
        obtain ⟨_, _, heq⟩ := hgone
        rw [heq]
        exact h p List.mem_cons_self
      refine ih (fun p' hp' => h p' (List.mem_cons_of_mem _ hp')) _ ?_
      dsimp only
      rw [readMeets_of_no_upset hupsets]
      exact hgone
  exact hall s (.refl s)

/-- What opening windows leaves: everything but windows of the core. -/
def OpensWindows (s u : State) : Prop := (∃ cores, u = { s with cores := cores }) ∧ ∀ d m, getStn u d m = getStn s d m

theorem openWindow_opens (c : Nat) (r : State × List (Nat × Nat)) (p : Piece) : OpensWindows r.1 (openWindow c r p).1 := by
  unfold openWindow
  dsimp only
  split
  · exact ⟨⟨_, rfl⟩, fun _ _ => rfl⟩
  · exact ⟨⟨_, rfl⟩, getStn_setCore rfl⟩

theorem foldl_openWindow_opens (c : Nat) (ps : List Piece) (r : State × List (Nat × Nat)) :
    OpensWindows r.1 (ps.foldl (openWindow c) r).1 := by
  refine foldl_rel (R := fun r r' : State × List (Nat × Nat) => OpensWindows r.1 r'.1) (fun _ => ⟨⟨_, rfl⟩, fun _ _ => rfl⟩)
      ?_
    (openWindow_opens c) ps r
  rintro ⟨s, _⟩ ⟨u, _⟩ ⟨v, _⟩ ⟨⟨_, rfl⟩, h⟩ ⟨⟨_, rfl⟩, h'⟩
  exact ⟨⟨_, rfl⟩, fun d m => (h' d m).trans (h d m)⟩

/-- An image that may be read at once and meets no error is queued with its header. -/
theorem fetchImage_of_calm {last : Bool} {es : List Nat}
    (h : ∀ p ∈ piecesOf s (coreClass s c) (d.addrOf k) d.imageLen, p.ok = true →
      mayGo s (stationReq s c n d.tag) p.addr.toNat p.len = true ∧
      upsetsIn s p.addr.toNat p.len = [] ∧ badIn s p.addr.toNat p.len = []) :
    ∃ v stale wins, v.mem = s.mem ∧ getStn v c n = getStn s c n ∧
      (let denied := ((piecesOf s (coreClass s c) (d.addrOf k) d.imageLen).filter (fun p => !p.ok)).length
       0 < denied → csrGet v (O.coreRunaheadSquash c) = min (csrGet s (O.coreRunaheadSquash c) + denied) 0xFFFFFFFF) ∧
      (let r := readPieces s (piecesOf s (coreClass s c) (d.addrOf k) d.imageLen)
       fetchImage s c n q d k k last [es] = pushTile (stepWalk v c n q d k) c n es
        ⟨fetchHdr s c n d k last stale, d.deliver r.1, poisonElems d.read r.2, wins⟩) := by
  have hgoing := goes_waits_of_no_upset (s := s) (l := (piecesOf s (coreClass s c) (d.addrOf k) d.imageLen).filter (·.ok))
    (stationReq s c n d.tag) fun p hp => (h p (List.mem_of_mem_filter hp) (List.of_mem_filter hp)).2.1
  have hwaits : (piecesOf s (coreClass s c) (d.addrOf k) d.imageLen).filter
      (fun p => p.ok && !mayGo s (stationReq s c n d.tag) p.addr.toNat p.len) = [] := by
    refine List.filter_eq_nil_iff.mpr fun p hp => ?_
    cases hok : p.ok with
    | false => simp
    | true => simp [(h p hp hok).1]
  generalize hend : fetchImage s c n q d k k last [es] = u
  unfold fetchImage at hend
  dsimp only at hend
  rw [hwaits, if_neg (by simp)] at hend
  generalize List.foldl _ s (List.filter _ _) = w at hgoing hend
  obtain ⟨hbm, power, rfl⟩ := hgoing
  have hbad : badPieces { s with hbm := hbm, power := power } (piecesOf s (coreClass s c) (d.addrOf k) d.imageLen) = [] :=
    List.flatMap_eq_nil_iff.mpr fun p hp => (h p (List.mem_of_mem_filter hp) (List.of_mem_filter hp)).2.2
  rw [hbad] at hend
  dsimp only at hend
  generalize hpieces : piecesOf s (coreClass s c) (d.addrOf k) d.imageLen = ps at *
  generalize hdenied : (ps.filter (fun p => !p.ok)).length = denied at *
  obtain ⟨s1, hs1⟩ : ∃ s1, s1 = (if denied = 0 then { s with hbm := hbm, power := power }
    else bump (State.useFree { s with hbm := hbm, power := power }) (O.coreRunaheadSquash c) denied) := ⟨_, rfl⟩
  obtain ⟨⟨cores, hopened⟩, hstns⟩ := foldl_openWindow_opens c (ps.filter (·.ok)) (s1, [])
  have hs1mem : s1.mem = s.mem := by rw [hs1]; split <;> rfl
  have hs1stn : getStn s1 c n = getStn s c n := by rw [hs1]; split <;> rfl
  have hs1csr : 0 < denied → csrGet s1 (O.coreRunaheadSquash c) = min (csrGet s (O.coreRunaheadSquash c) + denied)
      0xFFFFFFFF := by
    intro hpos
    rw [hs1, if_neg (by omega)]
    unfold bump
    rw [csrGet_csrPut_same, Nat.mod_eq_of_lt (by omega)]
    rfl
  rw [← hs1] at hend
  refine ⟨_, _, _, ?_, ?_, ?_, hend.symm⟩
  · rw [hopened]
    exact hs1mem
  · rw [hstns]
    exact hs1stn
  · rw [hopened]
    exact hs1csr

theorem exec_fetchReadIssue_walk {s : State} {c n k : Nat} {q : QEntry} {d : Desc}
    (hwork : (getStn s c n).work = .walk q d k)
    (hruns : coreRuns s c = true) (hreset : (getStn s c n).resetting = false) (hk : k < d.total) (hrot : d.rot = false)
    (hn : n < 2) (hroom : fetchRoom s (getStn s c n) d [(fetchTargets s c n d).map Prod.fst] = true) :
    exec (.fetchReadIssue c n) s = .next (fetchImage s c n q d k k (decide (k + 1 = d.total))
      [(fetchTargets s c n d).map Prod.fst]) := by
  have hring : ringPlace s c d = none := if_neg (by simp [hrot])
  have htotal : fetchTotal s c d = d.total := by rw [fetchTotal, hring]
  rw [exec, execFetchReadIssue, hwork]
  dsimp only
  rw [htotal, if_pos ⟨hn, hruns, hreset, hk⟩, hring]
  exact congrArg Host.Outcome.next (if_pos hroom)

/-- An image one of whose pieces has to wait changes nothing but who waits for memory. -/
theorem fetchImage_waits {s : State} {c n k : Nat} {q : QEntry} {d : Desc} {last : Bool} {ess : List (List Nat)}
    (h : ∃ p ∈ piecesOf s (coreClass s c) (d.addrOf k) d.imageLen, p.ok = true ∧
      mayGo s (stationReq s c n d.tag) p.addr.toNat p.len = false) : Waits s (fetchImage s c n q d k k last ess) := by
  obtain ⟨p, hp, hok, hheld⟩ := h
  have hwaits : p ∈ (piecesOf s (coreClass s c) (d.addrOf k) d.imageLen).filter
      (fun p => p.ok && !mayGo s (stationReq s c n d.tag) p.addr.toNat p.len) :=
    List.mem_filter.mpr ⟨hp, by simp [hok, hheld]⟩
  have hsome : (((piecesOf s (coreClass s c) (d.addrOf k) d.imageLen).filter
      (fun p => p.ok && !mayGo s (stationReq s c n d.tag) p.addr.toNat p.len)).isEmpty = false) :=
    List.isEmpty_eq_false_iff.mpr (List.ne_nil_of_mem hwaits)
  unfold fetchImage
  dsimp only
  rw [if_pos hsome]
  exact foldl_rel Waits.refl Waits.trans (fun s (p : Piece) => waitFor_waits s _ p.addr.toNat p.len) _ s

/-! ### The next tile of a store -/

theorem getStn_meetUpset (s : State) (u : Nat × Upset) (c n : Nat) : getStn (meetUpset s u) c n = getStn s c n := by
  unfold meetUpset
  dsimp only
  split
  · rfl
  · obtain ⟨_, _, h⟩ := memCorrected_eq_with { s with upsets := s.upsets.erase u } u.1
    rw [h]
    rfl

theorem getStn_dropLines (s : State) (lo hi c n : Nat) : getStn (dropLines s lo hi) c n = getStn s c n := by
  have hcore : getCore (dropLines s lo hi) c = { getCore s c with
      l1 := (getCore s c).l1.filter (fun x => decide (x < lo) || decide (hi < x)) } :=
    tget_map_values (fun k : Core => { k with l1 := k.l1.filter (fun x => decide (x < lo) || decide (hi < x)) }) s.cores c
        rfl
  rw [getStn, hcore]
  rfl

theorem getStn_memPut (s : State) (a : Nat) (bs : List Byte) (c n : Nat) : getStn (memPut s a bs) c n = getStn s c n := by
  unfold memPut
  dsimp only
  split
  · rfl
  · exact getStn_dropLines _ _ _ c n

theorem getStn_agentWrite (s : State) (a : Nat) (bs : List Byte) (c n : Nat) :
    getStn (agentWrite s a bs) c n = getStn s c n := by
  unfold agentWrite
  dsimp only
  rw [foldl_keeps _ (fun s => getStn s c n) (fun s d => ?_), getStn_memPut,
    foldl_keeps _ (fun s => getStn s c n) (fun s u => getStn_meetUpset s u c n)]
  unfold overwriteCore
  dsimp only
  split <;> rfl

theorem takeTile_mem (s : State) (e : Nat) : (takeTile s e).mem = s.mem := by
  unfold takeTile
  dsimp only
  split <;> rfl

theorem takeTile_err (s : State) (e : Nat) : (takeTile s e).err = s.err := by
  unfold takeTile
  dsimp only
  split <;> rfl

theorem takeTile_coreClass (s : State) (e c : Nat) : coreClass (takeTile s e) c = coreClass s c := by
  unfold takeTile
  dsimp only
  split <;> rfl

theorem consume_of_clean {t : STile} (h : t.poison = []) (s : State) (c : Nat) : consume s c t = s :=
  if_pos (by simp [h])

/-- An event whose queue has room changes the error state and the register table alone, and is queued. -/
theorem raise_of_room {sev cls : Nat} (code srcKind src : Nat) (info : List Nat) (hsev : sev = 2 ∨ sev = 3 ∧ cls = 1)
    (hroom : hasRoom s sev) : (∃ csr err, raise s code sev cls srcKind src info = { s with csr := csr, err := err }) ∧
      queued (raise s code sev cls srcKind src info) sev code := by
  have hlevel : (if sev = 3 ∧ (cls = 0 ∨ cls = 2) then 2 else sev) = sev := if_neg (by omega)
  unfold raise
  rw [hlevel]
  exact ⟨placeEvent_eq_with s _ (by omega) hroom, queued_placeEvent _ (by omega) hroom⟩

/-- A refused access is an event of the core, where its queue has room. -/
theorem pageDenied_spec {c : Nat} (hroom : hasRoom s (excSev s c)) :
    (pageDenied s c).mem = s.mem ∧ (∀ d m, getStn (pageDenied s c) d m = getStn s d m) ∧
      queued (pageDenied s c) (excSev s c) 0x2012 := by
  unfold pageDenied
  unfold excSev at hroom ⊢
  split
  · next hcls =>
    rw [if_pos hcls] at hroom
    obtain ⟨⟨_, _, heq⟩, hqueued⟩ := raise_of_room (s := s) 0x2012 (cls := 0) 1 c [] (.inl rfl) hroom
    exact ⟨by rw [heq]; rfl, fun d m => by rw [heq]; rfl, hqueued⟩
  · next hcls =>
    rw [if_neg hcls] at hroom
    obtain ⟨⟨_, _, heq⟩, hqueued⟩ := raise_of_room (s := s) 0x2012 (cls := 1) 1 c [] (.inr ⟨rfl, rfl⟩) hroom
    have hdropped : dropMicroBatch (raise s 0x2012 3 1 1 c) = { raise s 0x2012 3 1 1 c with
        pru := (dropMicroBatch (raise s 0x2012 3 1 1 c)).pru } := by
      unfold dropMicroBatch
      split <;> rfl
    rw [hdropped]
    exact ⟨by rw [heq], fun d m => by rw [heq]; rfl, hqueued⟩

/-- Settles O21: the image of a fetch by what its pieces meet, the tile of a store by whether its page and its stacks
let it go. -/
theorem fetchAndStore : Obligations.FetchAndStore := by
  intro s c n k q d x hwork hruns hreset hk
  refine ⟨?_, ?_⟩
  · intro es ps r denied hrot hn hroom
    have hexec := exec_fetchReadIssue_walk hwork hruns hreset hk hrot hn hroom
    refine ⟨fun hcalm => ⟨_, hexec, ?_⟩, fun hwaits => ⟨_, hexec, (fetchImage_waits hwaits).eq⟩⟩
    obtain ⟨v, stale, wins, hmem, hstn, hcsr, hend⟩ := fetchImage_of_calm (q := q) (last := decide (k + 1 = d.total))
        (es := es) hcalm
    dsimp only at hend
    rw [hend]
    refine ⟨?_, hmem, hcsr, ⟨fetchHdr s c n d k (decide (k + 1 = d.total)) stale, d.deliver r.1, poisonElems d.read r.2,
        wins⟩,
      ?_, rfl, rfl, rfl, rfl, rfl, rfl, rfl, rfl, rfl, rfl, rfl⟩
    · rw [pushTile, getStn_setStn_same, stepWalk, getStn_setStn_same]
    · rw [pushTile, getStn_setStn_same, stepWalk, getStn_setStn_same, hstn]
  · intro a e p t hn hsource hhead hpoison hlo hhi
    have hvalid : addrValid (d.addrOf k) t.img.length = true := by
      simpa [addrValid, hlo] using hhi
    have hexec : exec (.storeWrite c n) s = .next (if (addrValid (d.addrOf k) t.img.length && mayWrite s c a t.img.length)
        &&
        !mayGo s (stationReq s c n 0) a t.img.length then waitFor s (stationReq s c n 0) a t.img.length
      else
        let s1 := stepWalk (consume (takeTile (if addrValid (d.addrOf k) t.img.length && mayWrite s c a t.img.length then
          goOn s (stationReq s c n 0) a t.img.length else s) e) c t) c n q d k
        if addrValid (d.addrOf k) t.img.length && mayWrite s c a t.img.length then agentWrite s1 a t.img else pageDenied s1
            c) := by
      rw [exec, execStoreWrite, hwork]
      dsimp only
      rw [hsource]
      dsimp only
      rw [hhead]
      exact congrArg Host.Outcome.next (if_pos ⟨hn, hruns, hreset, hk⟩)
    rw [hvalid, Bool.true_and] at hexec
    refine ⟨fun hmay hgo hwf => ?_, fun hmay hgo => ?_, fun hmay hroom => ?_⟩
    · rw [hmay, hgo] at hexec
      refine ⟨_, hexec, ?_⟩
      simp only [Bool.not_true, Bool.and_false, Bool.false_eq_true, if_false, if_true]
      rw [consume_of_clean hpoison]
      obtain ⟨hbm, power, hgone⟩ := goOn_waits s (stationReq s c n 0) a t.img.length
      generalize goOn s (stationReq s c n 0) a t.img.length = g at hgone
      have htakes := (takeTile_fedTo g e).takes e
      have hqueue := queue_takeTile g e
      obtain ⟨w, hw⟩ : ∃ w, w = stepWalk (takeTile g e) c n q d k := ⟨_, rfl⟩
      obtain ⟨⟨_, _, _, _, _, _, htouched⟩, -⟩ := agentWrite_touches w a t.img
      have hstream : getStream (agentWrite w a t.img) e = getStream (takeTile g e) e :=
        getStream_congr ((agentWrite_streams _ _ _).trans (hw ▸ setStn_streams _ _ _ _)) e
      rw [← hw]
      refine ⟨?_, ?_, ?_, ?_⟩
      · rw [getStn_agentWrite, hw, stepWalk, getStn_setStn_same]
      · rw [streamTiles, hstream]
        exact htakes.tiles.trans (hgone ▸ rfl)
      · rw [hstream, hqueue, hgone]
        rfl
      · intro y
        have hmem : w.mem = s.mem := by
          rw [hw]
          exact (takeTile_mem g e).trans (hgone ▸ rfl)
        rw [htouched]
        dsimp only
        rw [hmem]
        exact memRead_memWrites s.mem a y t.img hwf
    · rw [hmay, hgo] at hexec
      exact ⟨_, hexec, (waitFor_waits s _ _ _).eq⟩
    · rw [hmay] at hexec
      refine ⟨_, hexec, ?_⟩
      simp only [Bool.false_and, Bool.false_eq_true, if_false]
      rw [consume_of_clean hpoison]
      obtain ⟨w, hw⟩ : ∃ w, w = stepWalk (takeTile s e) c n q d k := ⟨_, rfl⟩
      have hmem : w.mem = s.mem := hw ▸ takeTile_mem s e
      have herr : w.err = s.err := hw ▸ takeTile_err s e
      have hsev : excSev w c = excSev s c := by
        rw [hw]
        exact congrArg (fun cls => if cls = 0 then 2 else 3) (takeTile_coreClass s e c)
      have hwroom : hasRoom w (excSev w c) := by
        rw [hsev]
        unfold hasRoom
        rw [herr]
        exact hroom
      obtain ⟨hdmem, hdstn, hdqueued⟩ := pageDenied_spec hwroom
      rw [← hw]
      refine ⟨?_, hdmem.trans hmem, hsev ▸ hdqueued⟩
      rw [hdstn, hw, stepWalk, getStn_setStn_same]

end Sys2Proof.Machine
end

section
/-! O22. What an engine notes beside its work, and how a stream enters. -/

open Sys2Proof
namespace Sys2Proof.Machine

/-- `u` is `s` but for cores, registers and errors, and every station and engine of `u` is that of `s`. -/
def Notes (s u : State) : Prop :=
  (∃ cores csr err, u = { s with cores := cores, csr := csr, err := err }) ∧
    (∀ c n, getStn u c n = getStn s c n) ∧ ∀ c e, getEng u c e = getEng s c e

theorem Notes.refl (s : State) : Notes s s := ⟨⟨_, _, _, rfl⟩, fun _ _ => rfl, fun _ _ => rfl⟩

theorem Notes.trans {s u v : State} (hu : Notes s u) (hv : Notes u v) : Notes s v := by
  obtain ⟨⟨_, _, _, rfl⟩, hstn, heng⟩ := hu
  obtain ⟨⟨_, _, _, rfl⟩, hstn', heng'⟩ := hv
  exact ⟨⟨_, _, _, rfl⟩, fun c n => (hstn' c n).trans (hstn c n), fun c e => (heng' c e).trans (heng c e)⟩

theorem bump_notes (s : State) (o k : Nat) : Notes s (bump s o k) := ⟨⟨_, _, _, rfl⟩, fun _ _ => rfl, fun _ _ => rfl⟩

theorem setCore_notes {s : State} {c : Nat} {x : Core} (hstn : x.stations = (getCore s c).stations)
    (heng : x.engines = (getCore s c).engines) : Notes s (setCore s c x) :=
  ⟨⟨_, _, _, rfl⟩, getStn_setCore hstn, getEng_setCore heng⟩

theorem observe_notes (s : State) (c entry : Nat) (f : StatObs → StatObs) : Notes s (observe s c entry f) :=
  setCore_notes rfl rfl

theorem lint_notes (s : State) (c ring kind sid entry arg : Nat) : Notes s (lint s c ring kind sid entry arg) := by
  obtain ⟨_, h⟩ := lint_eq_with s c ring kind sid entry arg
  exact ⟨⟨_, _, _, h⟩, fun _ _ => getStn_lint .., fun _ _ => getEng_lint ..⟩

theorem raise_notes (s : State) {sev : Nat} (hsev : sev < 2) (code cls srcKind src : Nat) (info : List Nat) :
    Notes s (raise s code sev cls srcKind src info) := by
  obtain ⟨_, _, h⟩ := raise_minor_eq_with s hsev code cls srcKind src info
  rw [h]
  exact ⟨⟨_, _, _, rfl⟩, fun _ _ => rfl, fun _ _ => rfl⟩

theorem getCore_fillSpots (s : State) (entry t : Nat) (j : FootJob) (c : Nat) :
    (getCore (fillSpots s entry t j) c).stations = (getCore s c).stations ∧
      (getCore (fillSpots s entry t j) c).engines = (getCore s c).engines := by
  have hcore := tget_map_values (fun k : Core => { k with spots := k.spots.map (fun x =>
      if x.entry = entry ∧ x.tile = t ∧ x.arr.isNone then
        { x with arr := some (j.column x.col), wide := x.wide.map (·.take (partSpan j.a.shape j.a.part).1) }
      else x) }) s.cores c (d := Core.reset) rfl
  have hfilled : getCore (fillSpots s entry t j) c = _ := hcore
  rw [hfilled]
  exact ⟨rfl, rfl⟩

theorem fillSpots_notes (s : State) (entry t : Nat) (j : FootJob) : Notes s (fillSpots s entry t j) := by
  refine ⟨⟨_, _, _, rfl⟩, fun c n => ?_, fun c e => ?_⟩
  · rw [getStn, (getCore_fillSpots s entry t j c).1]
    rfl
  · rw [getEng, (getCore_fillSpots s entry t j c).2]
    rfl

theorem footOverflows_notes (s : State) (c : Nat) (h : TileHdr) (n : Nat) : Notes s (footOverflows s c h n) := by
  unfold footOverflows
  split
  · exact .refl s
  · exact observe_notes s _ _ _

/-! ### A stream enters -/

variable {s : State} {c e i ep : Nat} {x : AStream} {t : STile} {rest : List STile}

/-- The stream after the vectors of a tile have entered. -/
def AStream.entering (x : AStream) (t : STile) : AStream :=
  { x with
    entered := x.entered + min (t.hdr.rows + 1) ((arrWord x.e.word).m - x.entered)
    due := x.due + min (t.hdr.rows + 1) ((arrWord x.e.word).m - x.entered)
    inside := x.inside ++ [t] }

theorem feedStream_enters (hx : (getEng s c e).streams[i]? = some x) (hstarted : x.started = true)
    (hep : actEp s c e (arrWord x.e.word).part = some ep) (hqueue : (getStream s ep).queue = t :: rest)
    (hheld : (getStream s ep).held = []) (hroom : x.entered < (arrWord x.e.word).m) (hfoot : footHolds s c e = false)
    (hclean : t.poison = []) : feedStream s c e i = setAStream (takeTile s ep) c e i (x.entering t) := by
  have hhead : headTile s ep = some t := by rw [headTile, hqueue]; rfl
  unfold feedStream
  rw [hx]
  dsimp only
  rw [hep]
  dsimp only
  rw [hhead, hheld]
  dsimp only
  rw [if_pos ⟨hstarted, hroom, hfoot⟩, consumePart_of_clean _ _ _ _ hclean]
  rfl

theorem getEng_setAStream_same (s : State) (c e i : Nat) (x : AStream) :
    getEng (setAStream s c e i x) c e = { getEng s c e with streams := (getEng s c e).streams.set i x } :=
  getEng_setEng_same ..

theorem takeTile_eq (h : (getStream s ep).queue = t :: rest) : takeTile s ep = setStream s ep { getStream s ep with
    queue := rest, held := (getStream s ep).held ++ [t] } := by
  unfold takeTile
  dsimp only
  rw [h]

/-- What a stream that starts and takes its first tile changes. -/
theorem startStream_spec (hx : (getEng s c e).streams[i]? = some x)
    (hep : actEp s c e (arrWord x.e.word).part = some ep) (hqueue : (getStream s ep).queue = t :: rest)
    (hheld : (getStream s ep).held = []) (hroom : x.entered < (arrWord x.e.word).m) (hfoot : footHolds s c e = false)
    (hclean : t.poison = []) :
    let u := feedStream (setAStream s c e i { x with started := true }) c e i
    u.mem = s.mem ∧ getStream u ep = { getStream s ep with queue := rest, held := [t] } ∧
      getEng u c e = { getEng s c e with
        streams := (getEng s c e).streams.set i ({ x with started := true }.entering t) } := by
  obtain ⟨w, hw⟩ : ∃ w, w = setAStream s c e i { x with started := true } := ⟨_, rfl⟩
  have hengine : getEng w c e = { getEng s c e with streams := (getEng s c e).streams.set i { x with started := true } } :=
    hw ▸ getEng_setAStream_same s c e i _
  have hstream : getStream w ep = getStream s ep := hw ▸ rfl
  have hlen : i < (getEng s c e).streams.length := (List.getElem?_eq_some_iff.mp hx).1
  have hstarted : (getEng w c e).streams[i]? = some { x with started := true } := by
    rw [hengine]
    exact List.getElem?_set_self hlen
  have hfoots : footHolds w c e = false := by
    rw [hw, footHolds, setAStream, getStn_setEng]
    exact hfoot
  have hfeed := feedStream_enters (s := w) hstarted rfl (hw ▸ hep) (hstream ▸ hqueue) (hstream ▸ hheld) hroom hfoots hclean
  rw [← hw]
  intro u
  have hu : u = setAStream (takeTile w ep) c e i ({ x with started := true }.entering t) := hfeed
  clear_value u
  subst hu
  rw [takeTile_eq (hstream ▸ hqueue)]
  refine ⟨hw ▸ rfl, ?_, ?_⟩
  · exact (getStream_setStream_same ..).trans (by rw [hstream, hheld]; rfl)
  · rw [getEng_setAStream_same]
    have hkept : getEng (setStream w ep { getStream w ep with queue := rest, held := (getStream w ep).held ++ [t] }) c e =
      getEng w c e := rfl
    rw [hkept, hengine]
    simp

end Sys2Proof.Machine
end

section
/-! O22. The start of a stream, creases and plane loads. -/

open Sys2Proof
namespace Sys2Proof.Machine

variable {s : State} {c e i ep : Nat} {x : AStream} {t : STile} {rest : List STile}

theorem mem_nextToEnter (h : nextToEnter s c e = some (i, x)) :
    (getEng s c e).streams[i]? = some x ∧ mayEnter s c e x = true := by
  refine ⟨?_, by simpa using List.find?_some h⟩
  have hmem : (i, x) ∈ (getEng s c e).waiting := List.mem_of_find?_eq_some h
  obtain ⟨⟨y, j⟩, hy, heq⟩ := List.mem_map.mp hmem
  cases heq
  exact List.mem_zipIdx_iff_getElem?.mp (List.mem_of_mem_filter hy)

/-- A stream that may enter has no tile held at its input and no output of the foot that waits for credits. -/
theorem mayEnter_spec (h : mayEnter s c e x = true) (hep : actEp s c e (arrWord x.e.word).part = some ep) :
    footHolds s c e = false ∧ (getStream s ep).held = [] := by
  unfold mayEnter at h
  simp only [hep, Bool.and_eq_true, Bool.not_eq_true', List.isEmpty_iff] at h
  exact ⟨h.1.1.2, h.2.2⟩

theorem exec_arrayStreamStart (hnext : nextToEnter s c e = some (i, x))
    (hep : actEp s c e (arrWord x.e.word).part = some ep) :
    ∃ u, exec (.arrayStreamStart c e) s = .next u ∧
      Notes (feedStream (setAStream (creaseFor s c e ep (arrWord x.e.word)) c e i { x with started := true }) c e i) u := by
  rw [exec, execArrayStreamStart, hnext]
  dsimp only
  rw [hep]
  dsimp only
  refine ⟨_, rfl, ?_⟩
  split
  · exact observe_notes _ _ _ _
  · exact .refl _

/-- The endpoint whose crease takes a credit: one that is on its way back first, else one of the producer's. -/
def StreamSt.creased (x : StreamSt) : StreamSt :=
  if 0 < x.ret then { x with ret := x.ret - 1, crease := true }
  else if decide (x.ret = 0 ∧ x.credits = 0) then x else { x with credits := x.credits - 1, crease := true }

theorem enterCrease_eq_with (s : State) (c e ep : Nat) (a : ArrWord) :
    ∃ cores, enterCrease s c e ep a = { setStream s ep (getStream s ep).creased with cores := cores } := by
  unfold enterCrease
  dsimp only
  obtain ⟨cores, h⟩ := lint_eq_with (setEng (setStream s ep (getStream s ep).creased) c e
    { getEng s c e with
      mode := a.mode
      shape := a.shape
      crease := some ⟨ep, decide ((getStream s ep).ret = 0 ∧ (getStream s ep).credits = 0)⟩ })
    c (2 + e) 9 (entryOf s ep).cSid 0 0
  exact ⟨cores, h⟩

theorem enterCrease_spec (s : State) (c e ep : Nat) (a : ArrWord) :
    getEng (enterCrease s c e ep a) c e = { getEng s c e with
        mode := a.mode
        shape := a.shape
        crease := some ⟨ep, decide ((getStream s ep).ret = 0 ∧ (getStream s ep).credits = 0)⟩ } ∧
      (∀ d n, getStn (enterCrease s c e ep a) d n = getStn s d n) ∧
      getStream (enterCrease s c e ep a) ep = (getStream s ep).creased ∧
      ∀ f, f ≠ ep → getStream (enterCrease s c e ep a) f = getStream s f := by
  obtain ⟨_, h⟩ := enterCrease_eq_with s c e ep a
  refine ⟨?_, fun d n => ?_, ?_, fun f hf => ?_⟩
  · unfold enterCrease
    dsimp only
    rw [getEng_lint, getEng_setEng_same]
    rfl
  · unfold enterCrease
    dsimp only
    rw [getStn_lint, getStn_setEng]
    rfl
  · rw [h]
    exact getStream_setStream_same s ep _
  · rw [h]
    exact getStream_setStream_other s _ hf

theorem creased_spec (x : StreamSt) : x.creased.queue = x.queue ∧ x.creased.held = x.held ∧
    (0 < x.credits + x.ret → x.creased.crease = true ∧ x.creased.credits + x.creased.ret + 1 = x.credits + x.ret) ∧
    (x.credits + x.ret = 0 → x.creased.credits + x.creased.ret = 0) := by
  unfold StreamSt.creased
  by_cases hret : 0 < x.ret
  · rw [if_pos hret]
    exact ⟨rfl, rfl, fun _ => ⟨rfl, by dsimp only; omega⟩, fun _ => by omega⟩
  · rw [if_neg hret]
    by_cases hnone : x.credits = 0
    · rw [if_pos (by simp; omega)]
      exact ⟨rfl, rfl, fun _ => by omega, fun h => h⟩
    · rw [if_neg (by simp; omega)]
      exact ⟨rfl, rfl, fun _ => ⟨rfl, by dsimp only; omega⟩, fun _ => by omega⟩

/-- A crease takes credits of one endpoint alone, so an output that goes elsewhere has its own still. -/
theorem footHolds_enterCrease (a : ArrWord) (hout : ∀ o ∈ (getStn s c (2 + e)).out, ep ∉ o.1)
    (h : footHolds s c e = false) : footHolds (enterCrease s c e ep a) c e = false := by
  obtain ⟨-, hstn, -, hother⟩ := enterCrease_spec s c e ep a
  rw [footHolds, List.any_eq_false] at h ⊢
  intro o ho
  rw [hstn] at ho
  have hsame : hasCredits (enterCrease s c e ep a) o.1 = hasCredits s o.1 := by
    unfold hasCredits
    congr 1
    rw [Bool.eq_iff_iff, List.all_eq_true, List.all_eq_true]
    exact forall₂_congr fun f hf => by rw [hother f fun heq => hout o ho (heq ▸ hf)]
  rw [hsame]
  exact h o ho

theorem enterReplay_of_none (h : ∀ y ∈ (getEng s c e).streams, y.waits = false) : enterReplay s c e = s := by
  have hnone : (getEng s c e).streams.zipIdx.find? (fun p => p.1.waits && !(getEng s c e).creaseWaits (arrWord p.1.e.word))
      =
      none := by
    refine List.find?_eq_none.mpr fun p hp => ?_
    simp [h p.1 (List.fst_mem_of_mem_zipIdx hp)]
  unfold enterReplay
  dsimp only
  rw [hnone]

theorem completes_creaseComplete {owed : Bool} (hcrease : (getEng s c e).crease = some ⟨ep, owed⟩)
    (hwaits : ∀ y ∈ (getEng s c e).streams, y.waits = false) : completes (.creaseComplete c e) s (fun u =>
      (getEng u c e).crease = none ∧
      getStream u ep = { getStream s ep with ret := (getStream s ep).ret + b2n (getStream s ep).crease, crease := false } ∧
        u = { s with streams := u.streams, cores := u.cores }) := by
  obtain ⟨u, hu⟩ : ∃ u, u = setEng (setStream s ep { getStream s ep with
      ret := (getStream s ep).ret + b2n (getStream s ep).crease, crease := false }) c e
    { getEng s c e with crease := none } := ⟨_, rfl⟩
  have hengine : getEng u c e = { getEng s c e with crease := none } := hu ▸ getEng_setEng_same ..
  have hexec : exec (.creaseComplete c e) s = .next (enterReplay u c e) := by
    rw [exec, execCreaseComplete, hcrease, hu]
  rw [enterReplay_of_none (by rw [hengine]; exact hwaits)] at hexec
  refine ⟨u, hexec, by rw [hengine], ?_, by rw [hu]; rfl⟩
  rw [hu]
  exact getStream_setStream_same s ep _

/-! ### Planes -/

theorem getEng_takeTile (s : State) (f c e : Nat) : getEng (takeTile s f) c e = getEng s c e := by
  unfold takeTile
  dsimp only
  split <;> rfl

/-- Tiles taken one by one from the front of a queue. -/
theorem getStream_foldl_takeTile {ts more : List STile} (n : Nat) (hlen : ts.length = n)
    (h : (getStream s ep).queue = ts ++ more) :
    let u := (List.range n).foldl (fun s _ => takeTile s ep) s
    (getStream u ep).queue = more ∧ (getStream u ep).held = (getStream s ep).held ++ ts ∧
      ∀ d f, getEng u d f = getEng s d f := by
  have hall : ∀ (l : List Nat) (ts : List STile) (s : State), ts.length = l.length → (getStream s ep).queue = ts ++ more →
      (getStream (l.foldl (fun s _ => takeTile s ep) s) ep).queue = more ∧
      (getStream (l.foldl (fun s _ => takeTile s ep) s) ep).held = (getStream s ep).held ++ ts ∧
      ∀ d f, getEng (l.foldl (fun s _ => takeTile s ep) s) d f = getEng s d f := by
    intro l
    induction l with
    | nil =>
      intro ts s hlen h
      have hnil : ts = [] := List.length_eq_zero_iff.mp hlen
      subst hnil
      exact ⟨h, (List.append_nil _).symm, fun _ _ => rfl⟩
    | cons k l ih =>
      intro ts s hlen h
      cases ts with
      | nil => simp at hlen
      | cons t ts =>
        have hstream : getStream (takeTile s ep) ep = { getStream s ep with
            queue := ts ++ more, held := (getStream s ep).held ++ [t] } := by
          rw [takeTile_eq h]
          exact getStream_setStream_same ..
        obtain ⟨hqueue, hheld, heng⟩ := ih ts (takeTile s ep) (by simpa using hlen) (by rw [hstream])
        refine ⟨hqueue, ?_, fun d f => (heng d f).trans (getEng_takeTile ..)⟩
        rw [List.foldl_cons, hheld, hstream]
        simp
  exact hall (List.range n) ts s (by simpa using hlen) h

theorem foldl_consumePart_of_clean (cols rows : STile → Nat) {ts : List STile} (h : ∀ t ∈ ts, t.poison = []) (s : State)
    (c : Nat) :
    ts.foldl (fun s t => consumePart s c t (cols t) (rows t)) s = s := by
  induction ts with
  | nil => rfl
  | cons t ts ih =>
    rw [List.foldl_cons, consumePart_of_clean _ _ _ _ (h t List.mem_cons_self)]
    exact ih fun t' ht' => h t' (List.mem_cons_of_mem _ ht')

theorem completes_planeLoadComplete {q : QEntry} {qs : List QEntry} {ts more : List STile} (hruns : coreRuns s c = true)
    (hloads : (getEng s c e).loads = q :: qs) (hloading : (getEng s c e).loading = true) (hep : weightEp s c e = some ep)
    (hqueue : (getStream s ep).queue = ts ++ more) (hlen : ts.length = shapeParts (arrWord q.word).shape)
    (hclean : ∀ t ∈ ts, t.poison = []) :
    completes (.planeLoadComplete c e) s (fun u =>
      (getEng u c e).loads = qs ∧ (getEng u c e).loading = false ∧
      tget (getEng u c e).planes (arrWord q.word).plane Plane.clear = loadedPlane (arrWord q.word).outFmt
          (arrWord q.word).shape ts ∧
      (∀ n, n ≠ (arrWord q.word).plane →
        tget (getEng u c e).planes n Plane.clear = tget (getEng s c e).planes n Plane.clear) ∧
      (getStream u ep).queue = more ∧ (getStream u ep).held = (getStream s ep).held ++ ts) := by
  have htake : (getStream s ep).queue.take (shapeParts (arrWord q.word).shape) = ts := by
    rw [hqueue, ← hlen]
    exact List.take_left
  obtain ⟨hleft, hheld, heng⟩ := getStream_foldl_takeTile (s := s) (ep := ep) _ hlen hqueue
  obtain ⟨w, hw⟩ : ∃ w, w = (List.range (shapeParts (arrWord q.word).shape)).foldl (fun s _ => takeTile s ep) s := ⟨_, rfl⟩
  have hexec : exec (.planeLoadComplete c e) s = .next (lint (setEng w c e { getEng w c e with
      loads := qs, loading := false
      planes := tset (getEng w c e).planes (arrWord q.word).plane
        (loadedPlane (arrWord q.word).outFmt (arrWord q.word).shape ts) }) c (2 + e) 8 0xFF 0 (q.word.toNat % 2 ^ 32)) := by
    rw [exec, execPlaneLoadComplete]
    dsimp only
    rw [hloads, hep]
    dsimp only
    rw [htake, if_neg (by simp [hloading, hruns, hlen]), foldl_consumePart_of_clean _ _ hclean, ← hw]
  refine ⟨_, hexec, ?_⟩
  dsimp only
  rw [getEng_lint, getEng_setEng_same]
  have hstream : getStream (lint (setEng w c e { getEng w c e with
      loads := qs, loading := false
      planes := tset (getEng w c e).planes (arrWord q.word).plane
        (loadedPlane (arrWord q.word).outFmt (arrWord q.word).shape ts) }) c (2 + e) 8 0xFF 0 (q.word.toNat % 2 ^ 32)) ep =
      getStream w ep := getStream_congr ((lint_streams ..).trans (setEng_streams ..)) ep
  rw [hstream, hw]
  refine ⟨rfl, rfl, tget_tset_same .., fun n hn => ?_, hleft, hheld⟩
  rw [tget_tset_other _ _ _ hn, heng]

theorem completes_planeLoadStart {q : QEntry} {qs : List QEntry} (hruns : coreRuns s c = true)
    (hloads : (getEng s c e).loads = q :: qs) (hloading : (getEng s c e).loading = false)
    (hplane : ∀ x ∈ (getEng s c e).streams, (arrWord x.e.word).plane ≠ (arrWord q.word).plane) :
    completes (.planeLoadStart c e) s (fun u => u = setEng s c e { getEng s c e with loading := true }) := by
  refine ⟨_, ?_, rfl⟩
  rw [exec, execPlaneLoadStart]
  dsimp only
  rw [hloads]
  exact congrArg Host.Outcome.next (if_neg (by simpa [hloading, hruns] using hplane))

/-! ### A stream starts -/

theorem completes_arrayStreamStart_straight (hnext : nextToEnter s c e = some (i, x))
    (hep : actEp s c e (arrWord x.e.word).part = some ep) (hqueue : (getStream s ep).queue = t :: rest)
        (hclean : t.poison = [])
    (hroom : x.entered < (arrWord x.e.word).m) (hsame : (getEng s c e).differs (arrWord x.e.word) = false) :
    completes (.arrayStreamStart c e) s (fun u => u.mem = s.mem ∧
      getStream u ep = { getStream s ep with queue := rest, held := [t] } ∧
      getEng u c e = { getEng s c e with
        streams := (getEng s c e).streams.set i ({ x with started := true }.entering t) }) := by
  obtain ⟨hx, hmay⟩ := mem_nextToEnter hnext
  obtain ⟨hfoot, hheld⟩ := mayEnter_spec hmay hep
  obtain ⟨u, hexec, ⟨_, _, _, hu⟩, -, heng⟩ := exec_arrayStreamStart hnext hep
  have hcrease : creaseFor s c e ep (arrWord x.e.word) = s := if_neg (by simp [hsame])
  rw [hcrease] at hu heng
  obtain ⟨hmem, hstream, hengine⟩ := startStream_spec hx hep hqueue hheld hroom hfoot hclean
  exact ⟨u, hexec, (hu ▸ hmem), (hu ▸ hstream), (heng c e).trans hengine⟩

theorem completes_arrayStreamStart_crease (hnext : nextToEnter s c e = some (i, x))
    (hep : actEp s c e (arrWord x.e.word).part = some ep) (hqueue : (getStream s ep).queue = t :: rest)
        (hclean : t.poison = [])
    (hroom : x.entered < (arrWord x.e.word).m) (hdiffers : (getEng s c e).differs (arrWord x.e.word) = true)
    (hout : ∀ o ∈ (getStn s c (2 + e)).out, ep ∉ o.1) :
    completes (.arrayStreamStart c e) s (fun u => u.mem = s.mem ∧
      getStream u ep = { (getStream s ep).creased with queue := rest, held := [t] } ∧
      getEng u c e = { getEng s c e with
        mode := (arrWord x.e.word).mode
        shape := (arrWord x.e.word).shape
        crease := some ⟨ep, decide ((getStream s ep).ret = 0 ∧ (getStream s ep).credits = 0)⟩
        streams := (getEng s c e).streams.set i ({ x with started := true }.entering t) }) := by
  obtain ⟨hx, hmay⟩ := mem_nextToEnter hnext
  obtain ⟨hfoot, hheld⟩ := mayEnter_spec hmay hep
  obtain ⟨u, hexec, ⟨_, _, _, hu⟩, -, heng⟩ := exec_arrayStreamStart hnext hep
  have hcrease : creaseFor s c e ep (arrWord x.e.word) = enterCrease s c e ep (arrWord x.e.word) := if_pos hdiffers
  rw [hcrease] at hu heng
  obtain ⟨hcengine, -, hcstream, -⟩ := enterCrease_spec s c e ep (arrWord x.e.word)
  obtain ⟨hcqueue, hcheld, -⟩ := creased_spec (getStream s ep)
  have hcfoot := footHolds_enterCrease (arrWord x.e.word) hout hfoot
  obtain ⟨_, hwith⟩ := enterCrease_eq_with s c e ep (arrWord x.e.word)
  obtain ⟨w, hw⟩ : ∃ w, w = enterCrease s c e ep (arrWord x.e.word) := ⟨_, rfl⟩
  rw [← hw] at hu heng hcengine hcstream hcfoot hwith
  have hcep : actEp w c e (arrWord x.e.word).part = some ep := by
    rw [hwith]
    exact hep
  obtain ⟨hmem, hstream, hengine⟩ := startStream_spec (s := w) (by rw [hcengine]; exact hx) hcep
    (by rw [hcstream, hcqueue]; exact hqueue) (by rw [hcstream, hcheld]; exact hheld) hroom hcfoot hclean
  rw [hcengine] at hengine
  rw [hcstream] at hstream
  have hwmem : w.mem = s.mem := by rw [hwith]; rfl
  exact ⟨u, hexec, hu ▸ (hmem.trans hwmem), hu ▸ hstream, (heng c e).trans hengine⟩

end Sys2Proof.Machine
end

section
/-! O22. The foot. -/

open Sys2Proof
namespace Sys2Proof.Machine

variable {s : State} {c e i sid : Nat} {x : AStream}

theorem mem_footReady (h : footReady s c e = some (i, x)) : (getEng s c e).streams[i]? = some x ∧ x.waits = false := by
  obtain ⟨p, hp, heq⟩ := Option.map_eq_some_iff.mp h
  cases heq
  refine ⟨List.mem_zipIdx_iff_getElem?.mp (List.mem_of_find?_eq_some hp), ?_⟩
  have hready := List.find?_some hp
  simp only [Bool.and_eq_true, Bool.not_eq_true'] at hready
  exact hready.1.2

theorem exec_footTileOut (hruns : coreRuns s c = true) (hready : footReady s c e = some (i, x))
    (hsid : footSid s c e (arrWord x.e.word).part = some sid) (hbank : bankFull s c e sid (arrWord x.e.word) = false)
    (hacc : (arrWord x.e.word).acc = false) :
    exec (.footTileOut c e) s = .next (enterReplay (footTile s c e i sid x x.part) c e) := by
  rw [exec, execFootTileOut, hready]
  dsimp only
  rw [hsid]
  dsimp only
  rw [if_neg (by simp [hruns, hbank]), if_neg (by simp [hacc])]

/-! ### A tile leaves -/

theorem giveTile_spec {n : Nat} (t : STile) (hfanout : ownFanout s c n sid ≠ []) :
    ∃ hdr : TileHdr, (getStn (giveTile s c n sid t) c n).out = (getStn s c n).out ++
        [((ownFanout s c n sid).map Prod.fst, { t with hdr := hdr })] ∧
      hdr = { t.hdr with tile := hdr.tile, tag := hdr.tag } ∧
      (giveTile s c n sid t).mem = s.mem ∧ ∀ d f, getEng (giveTile s c n sid t) d f = getEng s d f := by
  unfold giveTile
  dsimp only
  rw [if_neg (by simpa using hfanout)]
  refine ⟨{ t.hdr with
    tile := tget (getStn s c n).made sid 0 % 2 ^ 18
    tag := if leadsToShip s 2 (ownFanout s c n sid) ∨ n = 12 then t.hdr.tag else 0 }, ?_, rfl, rfl,
    fun d f => getEng_setStn ..⟩
  rw [getStn_setStn_same]

/-- What an output tile that leaves changes, where the stream's tile is no replay. -/
theorem footEmit_spec {j : FootJob} {rows : List FootRow} {again : Bool} {h : TileHdr} (hreplay : x.replay = false)
    (hfanout : ownFanout s c (2 + e) sid ≠ []) :
    let u := footEmit s c e i sid x j rows again h
    u.mem = s.mem ∧ getEng u c e = { getEng s c e with
        tileCount := tmod (getEng s c e).tileCount j.a.srStream 0 (· + 1)
        streams := if decide (x.outDone + j.n = j.a.m) then (getEng s c e).streams.eraseIdx i
          else (getEng s c e).streams.set i (x.put j.n) } ∧
      ∃ t : STile, (getStn u c (2 + e)).out = (getStn s c (2 + e)).out ++ [((ownFanout s c (2 + e) sid).map Prod.fst, t)] ∧
        t.img = (footPack j.ctl 0 (j.final rows again)).1.image ∧ t.hdr.rows = j.n - 1 ∧ t.hdr.entry = h.entry ∧
        t.hdr.pass = h.pass ∧ t.hdr.stale = h.stale ∧ t.hdr.last = decide (x.outDone + j.n = j.a.m) := by
  obtain ⟨tile, htile⟩ : ∃ tile : STile, tile = ⟨{ h with
    fmt := (footPack j.ctl 0 (j.final rows again)).1.fmt
    blk32 := j.a.blk32 && (bfmtOf (footPack j.ctl 0 (j.final rows again)).1.fmt).isSome
    wide := false, last := decide (x.outDone + j.n = j.a.m)
    rows := j.n - 1, cols := j.wt.vecs.length - 1 }, (footPack j.ctl 0 (j.final rows again)).1.image, [], []⟩ := ⟨_, rfl⟩
  obtain ⟨hdr, hout, hhdr, hmem, heng⟩ := giveTile_spec (s := s) tile hfanout
  obtain ⟨w, hw⟩ : ∃ w, w = setEng (giveTile s c (2 + e) sid tile) c e { getEng (giveTile s c (2 + e) sid tile) c e with
    tileCount := tmod (getEng (giveTile s c (2 + e) sid tile) c e).tileCount j.a.srStream 0 (· + 1)
    streams := if decide (x.outDone + j.n = j.a.m) then (getEng (giveTile s c (2 + e) sid tile) c e).streams.eraseIdx i
      else (getEng (giveTile s c (2 + e) sid tile) c e).streams.set i (x.put j.n) } := ⟨_, rfl⟩
  have hnotes : Notes w (footEmit s c e i sid x j rows again h) := by
    unfold footEmit
    dsimp only
    rw [← htile, hreplay, if_neg Bool.false_ne_true, ← hw]
    have hover := footOverflows_notes w c h ((rows.flatMap id).map (·.2)).sum
    generalize footOverflows w c h ((rows.flatMap id).map (·.2)).sum = s3 at hover ⊢
    have hobserved : Notes w (if observed s3 c h then
        fillSpots (if j.a.fin then observe s3 c h.entry (fun o => o.blocksSeen (j.observed (j.final rows again)))
          else observe s3 c h.entry (fun o => { o with tiles := o.tiles + 1 })) h.entry (footTileIndex s c e x h) j
        else s3) := by
      split
      · refine hover.trans (Notes.trans ?_ (fillSpots_notes _ _ _ _))
        split
        · exact observe_notes _ _ _ _
        · exact observe_notes _ _ _ _
      · exact hover
    split
    · exact hobserved.trans (lint_notes _ _ _ _ _ _ _)
    · exact hobserved
  obtain ⟨⟨_, _, _, hu⟩, hustn, hueng⟩ := hnotes
  intro u
  refine ⟨?_, ?_, { tile with hdr := hdr }, ?_, ?_⟩
  · have humem := congrArg State.mem hu
    refine humem.trans ?_
    rw [hw]
    exact hmem
  · rw [hueng, hw, getEng_setEng_same, heng]
  · rw [hustn, hw, getStn_setEng, hout]
  · rw [hhdr, htile]
    exact ⟨rfl, rfl, rfl, rfl, rfl, rfl⟩

/-- The tile of a stream that STAT does not see saturated or captured leaves at once. -/
theorem footTile_plain (hplain : (observed s c (footHdr s c e x x.part) && ((footJob s c e x x.part).saturated ||
      ((footJob s c e x x.part).rows c e).any (footJob s c e x x.part).rowCaptured)) = false) :
    footTile s c e i sid x x.part = footEmit s c e i sid x (footJob s c e x x.part) ((footJob s c e x x.part).rows c e)
        false
      (footHdr s c e x x.part) := by
  unfold footTile
  dsimp only
  generalize footJob s c e x x.part = j at hplain ⊢
  generalize footHdr s c e x x.part = h at hplain ⊢
  have hsat : (!x.replay && j.saturated && observed s c h) = false := by
    cases hobs : observed s c h with
    | false => simp
    | true =>
      rw [hobs, Bool.true_and, Bool.or_eq_false_iff] at hplain
      simp [hplain.1]
  have hcapture : ¬ (observed s c h = true ∧ (j.rows c e).any j.rowCaptured = true) := by
    rintro ⟨hobs, hany⟩
    rw [hobs, hany] at hplain
    simp at hplain
  rw [hsat, if_neg (by simp), if_neg Bool.false_ne_true]
  exact if_neg hcapture

theorem completes_footTileOut_plain (hruns : coreRuns s c = true) (hready : footReady s c e = some (i, x))
    (hsid : footSid s c e (arrWord x.e.word).part = some sid) (hbank : bankFull s c e sid (arrWord x.e.word) = false)
    (hfanout : ownFanout s c (2 + e) sid ≠ []) (hacc : (arrWord x.e.word).acc = false) (hreplay : x.replay = false) :
    let j := footJob s c e x x.part
    let h := footHdr s c e x x.part
    (observed s c h && (j.saturated || (j.rows c e).any j.rowCaptured)) = false →
    (∀ y ∈ (getEng s c e).streams, y.waits = false) → completes (.footTileOut c e) s (fun u =>
      u.mem = s.mem ∧ getEng u c e = { getEng s c e with
        tileCount := tmod (getEng s c e).tileCount j.a.srStream 0 (· + 1)
        streams := if decide (x.outDone + j.n = j.a.m) then (getEng s c e).streams.eraseIdx i
          else (getEng s c e).streams.set i (x.put j.n) } ∧
      ∃ t : STile, (getStn u c (2 + e)).out = (getStn s c (2 + e)).out ++ [((ownFanout s c (2 + e) sid).map Prod.fst, t)] ∧
        t.img = (footPack j.ctl 0 (j.final (j.rows c e) false)).1.image ∧ t.hdr.rows = j.n - 1 ∧ t.hdr.entry = h.entry ∧
        t.hdr.pass = h.pass ∧ t.hdr.stale = h.stale ∧ t.hdr.last = decide (x.outDone + j.n = j.a.m)) := by
  intro j h hplain hwaits
  have hexec := exec_footTileOut hruns hready hsid hbank hacc
  rw [footTile_plain hplain] at hexec
  obtain ⟨u, hu⟩ : ∃ u, u = footEmit s c e i sid x j (j.rows c e) false h := ⟨_, rfl⟩
  have hspec := footEmit_spec (s := s) (c := c) (e := e) (i := i) (j := j) (rows := j.rows c e) (again := false) (h := h)
      hreplay
    hfanout
  rw [← hu] at hexec hspec
  obtain ⟨hmem, hengine, htile⟩ := hspec
  have hnone : enterReplay u c e = u := by
    refine enterReplay_of_none fun y hy => ?_
    rw [hengine] at hy
    dsimp only at hy
    split at hy
    · exact hwaits y (List.mem_of_mem_eraseIdx hy)
    · rcases List.mem_or_eq_of_mem_set hy with hy | rfl
      · exact hwaits y hy
      · exact (mem_footReady hready).2
  rw [hnone] at hexec
  exact ⟨u, hexec, hmem, hengine, htile⟩

/-! ### A replay -/

theorem queued_raise_notice (s : State) (code cls srcKind src : Nat) (info : List Nat) (hroom : hasRoom s 1) :
    queued (raise s code 1 cls srcKind src info) 1 code := by
  unfold raise
  rw [if_neg (by omega)]
  unfold hasRoom at hroom
  rw [placeEvent, if_neg (by decide), if_neg (by decide)]
  split
  · next q hq =>
    obtain ⟨y, hy, hcode⟩ := exists_code_of_coalesceIn hq
    exact ⟨y, by simpa [State.withErr] using hy, hcode⟩
  · rw [if_neg (by decide), if_pos hroom]
    exact queued_enqueue _ _ _

theorem countReplay_spec (s : State) (c e : Nat) (h : TileHdr) (n : Nat) :
    getEng (countReplay s c e h n) c e = { getEng s c e with replays := tmod (getEng s c e).replays h.entry 0 (· + 1) } ∧
      (∀ d m, getStn (countReplay s c e h n) d m = getStn s d m) ∧
      (hasRoom s 1 → queued (countReplay s c e h n) 1 0x1020) := by
  obtain ⟨w, hw⟩ : ∃ w, w = observe (raise (bump s O.pruCntReplay) 0x1020 1 (coreClass s c) 1 c) c h.entry
    (fun o => { o with replays := o.replays + 1 }) := ⟨_, rfl⟩
  have hnotes : Notes s w := by
    rw [hw]
    exact (bump_notes _ _ _).trans ((raise_notes _ (by decide) _ _ _ _ _).trans (observe_notes _ _ _ _))
  obtain ⟨-, hstn, heng⟩ := hnotes
  unfold countReplay
  dsimp only
  rw [← hw]
  refine ⟨?_, fun d m => ?_, fun hroom => ?_⟩
  · rw [getEng_lint, getEng_setEng_same, heng]
  · rw [getStn_lint, getStn_setEng, hstn]
  · have hraised : queued w 1 0x1020 := by
      rw [hw]
      exact queued_raise_notice (bump s O.pruCntReplay) 0x1020 _ _ _ _ hroom
    obtain ⟨_, hlint⟩ := lint_eq_with (setEng w c e { getEng w c e with
      replays := tmod (getEng w c e).replays h.entry 0 (· + 1) })
      c (outRing n) 0x0A 0xFF h.lintEntry h.tile
    rw [hlint]
    exact hraised

theorem footOverflows_err (s : State) (c : Nat) (h : TileHdr) (n : Nat) : (footOverflows s c h n).err = s.err := by
  unfold footOverflows
  split <;> rfl

theorem creaseFor_keeps (s : State) (c e ep : Nat) (a : ArrWord) :
    (creaseFor s c e ep a).err = s.err ∧ (∀ d n, getStn (creaseFor s c e ep a) d n = getStn s d n) ∧
      (getEng (creaseFor s c e ep a) c e).tileCount = (getEng s c e).tileCount ∧
      (getEng (creaseFor s c e ep a) c e).replays = (getEng s c e).replays ∧
      (getEng (creaseFor s c e ep a) c e).streams = (getEng s c e).streams := by
  unfold creaseFor
  split
  · obtain ⟨hengine, hstn, -⟩ := enterCrease_spec s c e ep a
    obtain ⟨_, hwith⟩ := enterCrease_eq_with s c e ep a
    rw [hengine]
    exact ⟨by rw [hwith]; rfl, hstn, rfl, rfl, rfl⟩
  · exact ⟨rfl, fun _ _ => rfl, rfl, rfl, rfl⟩

/-- A replay that enters changes of each stream but whether it waits and how far it is due. -/
theorem enterReplay_spec (s : State) (c e : Nat) :
    (enterReplay s c e).err = s.err ∧ (∀ d n, getStn (enterReplay s c e) d n = getStn s d n) ∧
      (getEng (enterReplay s c e) c e).tileCount = (getEng s c e).tileCount ∧
      (getEng (enterReplay s c e) c e).replays = (getEng s c e).replays ∧
      ∀ (i : Nat) (y : AStream), (getEng s c e).streams[i]? = some y → ∃ waits due,
        (getEng (enterReplay s c e) c e).streams[i]? = some { y with waits := waits, due := due } := by
  have hsame : (∀ (i : Nat) (y : AStream), (getEng s c e).streams[i]? = some y → ∃ waits due,
      (getEng s c e).streams[i]? = some { y with waits := waits, due := due }) := fun i y hy => ⟨y.waits, y.due, hy⟩
  unfold enterReplay
  dsimp only
  split
  · exact ⟨rfl, fun _ _ => rfl, rfl, rfl, hsame⟩
  · next x k hfound =>
    have hx : (getEng s c e).streams[k]? = some x := List.mem_zipIdx_iff_getElem?.mp (List.mem_of_find?_eq_some hfound)
    split
    · exact ⟨rfl, fun _ _ => rfl, rfl, rfl, hsame⟩
    · next ep _ =>
      obtain ⟨herr, hstn, htiles, hreplays, hstreams⟩ := creaseFor_keeps s c e ep (arrWord x.e.word)
      refine ⟨herr, fun d n => (getStn_setEng ..).trans (hstn d n), ?_, ?_, fun i y hy => ?_⟩
      · rw [getEng_setAStream_same, ← htiles]
      · rw [getEng_setAStream_same, ← hreplays]
      · rw [getEng_setAStream_same, hstreams]
        by_cases hik : k = i
        · subst hik
          cases hx.symm.trans hy
          exact ⟨_, _, List.getElem?_set_self (List.getElem?_eq_some_iff.mp hx).1⟩
        · exact ⟨y.waits, y.due, (List.getElem?_set_ne hik).trans hy⟩

theorem completes_footTileOut_replay (hruns : coreRuns s c = true) (hready : footReady s c e = some (i, x))
    (hsid : footSid s c e (arrWord x.e.word).part = some sid) (hbank : bankFull s c e sid (arrWord x.e.word) = false)
    (hacc : (arrWord x.e.word).acc = false) (hreplay : x.replay = false) :
    let j := footJob s c e x x.part
    let h := footHdr s c e x x.part
    observed s c h = true → j.saturated = true → mayReplay s c e h.entry = true → hasRoom s 1 →
    completes (.footTileOut c e) s (fun u =>
      (getStn u c (2 + e)).out = (getStn s c (2 + e)).out ∧
      (∃ y, (getEng u c e).streams[i]? = some y ∧ y.e = x.e ∧ y.replay = true ∧ y.outDone = x.outDone ∧
        y.tileNo = tget (getEng s c e).tileCount j.a.srStream 0) ∧
      tget (getEng u c e).tileCount j.a.srStream 0 = tget (getEng s c e).tileCount j.a.srStream 0 + 1 ∧
      tget (getEng u c e).replays h.entry 0 = tget (getEng s c e).replays h.entry 0 + 1 ∧ queued u 1 0x1020) := by
  intro j h hobs hsat hmay hroom
  have hexec := exec_footTileOut hruns hready hsid hbank hacc
  have hfoot : footTile s c e i sid x x.part = replayL16 s c e i x x.part j h := by
    unfold footTile
    dsimp only
    exact if_pos (by simp [j, h, hreplay, hobs, hsat, hmay])
  obtain ⟨hcengine, hcstn, hcqueued⟩ := countReplay_spec s c e h (2 + e)
  obtain ⟨v, hv⟩ : ∃ v, v = footOverflows (countReplay s c e h (2 + e)) c h (((j.rows c e).flatMap id).map (·.2)).sum :=
    ⟨_, rfl⟩
  obtain ⟨-, hvstn, hveng⟩ := footOverflows_notes (countReplay s c e h (2 + e)) c h
      (((j.rows c e).flatMap id).map (·.2)).sum
  have hverr := footOverflows_err (countReplay s c e h (2 + e)) c h (((j.rows c e).flatMap id).map (·.2)).sum
  rw [← hv] at hvstn hveng hverr
  have hvengine := (hveng c e).trans hcengine
  obtain ⟨y, hy⟩ : ∃ y : AStream, y = { x with
    replay := true, waits := true, tileNo := tget (getEng v c e).tileCount j.a.srStream 0, part := x.part } := ⟨_, rfl⟩
  obtain ⟨w, hw⟩ : ∃ w, w = setEng v c e { getEng v c e with
    tileCount := tmod (getEng v c e).tileCount j.a.srStream 0 (· + 1)
    streams := (getEng v c e).streams.set i y } := ⟨_, rfl⟩
  have hfoot' : footTile s c e i sid x x.part = enterReplay w c e := by
    rw [hfoot, hw, hy, hv]
    rfl
  have hwengine : getEng w c e = { getEng v c e with
    tileCount := tmod (getEng v c e).tileCount j.a.srStream 0 (· + 1)
    streams := (getEng v c e).streams.set i y } := hw ▸ getEng_setEng_same ..
  have hyi : (getEng w c e).streams[i]? = some y := by
    rw [hwengine]
    have hlen := (List.getElem?_eq_some_iff.mp (mem_footReady hready).1).1
    refine List.getElem?_set_self ?_
    rw [hvengine]
    exact hlen
  obtain ⟨herr1, hstn1, htiles1, hreplays1, hstreams1⟩ := enterReplay_spec w c e
  obtain ⟨herr2, hstn2, htiles2, hreplays2, hstreams2⟩ := enterReplay_spec (enterReplay w c e) c e
  obtain ⟨_, _, hy1⟩ := hstreams1 i y hyi
  obtain ⟨_, _, hy2⟩ := hstreams2 i _ hy1
  rw [hfoot'] at hexec
  refine ⟨_, hexec, ?_, ⟨_, hy2, ?_⟩, ?_, ?_, ?_⟩
  · rw [hstn2, hstn1, hw, getStn_setEng, hvstn, hcstn]
  · rw [hy, hvengine]
    exact ⟨rfl, rfl, rfl, rfl⟩
  · rw [htiles2, htiles1, hwengine, hvengine]
    exact tget_tset_same ..
  · rw [hreplays2, hreplays1, hwengine, hvengine]
    exact tget_tset_same ..
  · have herr : (enterReplay (enterReplay w c e) c e).err = (countReplay s c e h (2 + e)).err := by
      rw [herr2, herr1, hw, ← hverr]
      rfl
    exact (queued_congr herr 1 0x1020).mpr (hcqueued hroom)

/-- Settles O22: streams with and without a crease, creases that end, planes, and the foot with and without a replay. -/
theorem enginesRun : Obligations.EnginesRun := by
  refine ⟨?_, ?_⟩
  · intro s c e i ep x t rest a g p m entered
    refine ⟨fun hnext hep hqueue hclean hroom => ⟨fun hsame => ?_, fun hdiffers hout => ?_⟩, fun owed hcrease hwaits =>
      completes_creaseComplete hcrease hwaits⟩
    · obtain ⟨u, hexec, hmem, hstream, hengine⟩ :=
        completes_arrayStreamStart_straight hnext hep hqueue hclean hroom hsame
      refine ⟨u, hexec, ⟨?_, ?_, hmem, ?_⟩, ?_, ?_, ?_⟩
      · rw [hstream]
      · rw [hstream]
      · rw [hengine]
        rfl
      · rw [hengine]
      · rw [hstream]
      · rw [hstream]
    · obtain ⟨u, hexec, hmem, hstream, hengine⟩ :=
        completes_arrayStreamStart_crease hnext hep hqueue hclean hroom hdiffers hout
      obtain ⟨-, -, hsome, hnone⟩ := creased_spec p
      refine ⟨u, hexec, ⟨?_, ?_, hmem, ?_⟩, ?_, ?_, fun hpos => ?_, fun hzero => ?_⟩
      · rw [hstream]
      · rw [hstream]
      · rw [hengine]
        rfl
      · rw [hengine]
      · rw [hengine]
      · rw [hstream, hengine]
        refine ⟨?_, hsome hpos⟩
        have howed : decide (p.ret = 0 ∧ p.credits = 0) = false := decide_eq_false (by omega)
        exact congrArg (fun owed => some (Crease.mk ep owed)) howed
      · rw [hstream, hengine]
        refine ⟨?_, hnone hzero⟩
        have howed : decide (p.ret = 0 ∧ p.credits = 0) = true := decide_eq_true (by omega)
        exact congrArg (fun owed => some (Crease.mk ep owed)) howed
  · intro s c e g hruns
    refine ⟨fun q rest hloads hloading hplane => completes_planeLoadStart hruns hloads hloading hplane,
      fun q rest ep ts more hloads hloading hep hqueue hlen hclean =>
        completes_planeLoadComplete hruns hloads hloading hep hqueue hlen hclean,
      ?_⟩
    intro i x sid hready hsid hbank hfanout hacc hreplay j h es
    refine ⟨fun hplain hwaits => ?_, fun hobs hsat hmay hroom =>
      completes_footTileOut_replay hruns hready hsid hbank hacc hreplay hobs hsat hmay hroom⟩
    obtain ⟨u, hexec, hmem, hengine, htile⟩ :=
      completes_footTileOut_plain hruns hready hsid hbank hfanout hacc hreplay hplain hwaits
    refine ⟨u, hexec, hmem, ?_, ?_, htile⟩
    · rw [hengine]
      exact tget_tset_same ..
    · rw [hengine]
      simp only [decide_eq_true_eq]
      rfl

end Sys2Proof.Machine
end

section
/-! O23. The boundary of a step: records close, rules are evaluated, pending entries install. -/

open Sys2Proof
namespace Sys2Proof.Machine

variable {s : State}

/-! ### Registers through reports -/

/-- A register below those of the Ethernet ports. -/
theorem csrGet_toEgress (s : State) (e : EthOut) {o : Nat} (ho : o < 0x90000) : csrGet (toEgress s e) o = csrGet s o := by
  unfold toEgress
  dsimp only
  split
  · rfl
  · split
    · exact csrGet_bump_other _ _ (by unfold O.ethpTxFrames; omega)
    · rfl
    · rfl

theorem csrGet_emit (s : State) (e : Emit) {o : Nat} (ho : o < 0x90000) : csrGet (s.emit e) o = csrGet s o := by
  have hall := foldl_keeps toEgress (fun s => csrGet s o) (fun s e => csrGet_toEgress s e ho) (e.ethFrames s)
    { s with out := e :: s.out }
  exact hall

theorem csrGet_foldr_emit (es : List Emit) (s : State) {o : Nat} (ho : o < 0x90000) :
    csrGet (es.foldr (fun e s => s.emit e) s) o = csrGet s o := by
  induction es with
  | nil => rfl
  | cons e es ih => exact (csrGet_emit _ e ho).trans ih

theorem csrGet_notifyAll (s : State) (code : Nat) (body : List Byte) {o : Nat} (ho : o < 0x90000) :
    csrGet (notifyAll s code body) o = csrGet s o := by
  unfold notifyAll
  dsimp only
  split
  · exact csrGet_foldr_emit _ _ ho
  · exact (csrGet_bump_other _ _ (by unfold O.ethCntNoteLost; omega)).trans (csrGet_foldr_emit _ _ ho)

theorem csrGet_notifyGroup (s : State) (code : Nat) (body : List Byte) {o : Nat} (ho : o < 0x90000) :
    csrGet (notifyGroup s code body) o = csrGet s o := by
  unfold notifyGroup
  split
  · exact csrGet_notifyAll s code body ho
  · rfl

theorem csrGet_raiseRule (s : State) (ev : RuleEv) {o : Nat} (ho : outsideErrlog o) : csrGet (raiseRule s ev) o = csrGet s o
    := by
  cases ev with
  | deferred n => exact csrGet_raise_note s _ _ _ _ (by decide) ho
  | top n => exact csrGet_raise_note s _ _ _ _ (by decide) ho
  | alarm n => exact csrGet_raise_note s _ _ _ _ (by decide) ho

theorem Reports.pru {s u : State} (h : Reports s u) : u.pru = s.pru := by
  obtain ⟨_, _, _, _, _, _, rfl⟩ := h
  rfl

theorem reports_raiseRule (s : State) (ev : RuleEv) : Reports s (raiseRule s ev) := by
  cases ev with
  | deferred n => exact reports_raise_minor (by decide) (Reports.refl s)
  | top n => exact reports_raise_minor (by decide) (Reports.refl s)
  | alarm n => exact reports_raise_minor (by decide) (Reports.refl s)

/-! ### The close of records -/

theorem exec_recordClose (hstep : s.inStep = true) (hstage : s.pru.stage = .none)
    (hblock : s.gate.block = none ∨ s.gate.decided = true) : exec .recordClose s =
      .next (retryFrames (handRecords { clearTaps s with
        inStep := false
        pru := { s.pru with
          stage := .closed
          step := s.step
          own := if reducesRecords s then (if ((validEntries s).map (fun e => (e.1, mergedRecord s e.1))).isEmpty then
              [(0, StatRec.zero)] else (validEntries s).map (fun e => (e.1, mergedRecord s e.1))) else []
          reducing := reducesRecords s }
        gate := { s.gate with block := none, decided := false, pins := [], stale := [], subs := [] } })) := by
  refine congrArg Host.Outcome.next (if_neg ?_)
  rcases hblock with h | h <;> simp [hstep, hstage, h]

/-! ### Evaluation -/

/-- The end of an evaluation: what its outcome left, with the step that it was of. -/
def evaluatedOf (s w : State) : State :=
  (csrPut w O.pruEvalStep s.pru.step).withPru (fun p =>
    { p with stage := .evaluated, final := p.final.filter (fun n => decide (s.pru.step < n)) })

theorem exec_evaluation {ok : Bool} (hstage : s.pru.stage = .closed) (hcheck : statCheck s = some ok) :
    exec .evaluation s = .next (evaluatedOf s (if ok then evaluatePassed s else csrPut (raise s 0x1014 0 1 0 0) O.pruStatus
        2)) := by
  rw [exec, execEvaluation, if_neg (by simp [hstage]), hcheck]
  rfl

/-- What an outcome of the evaluation leaves shows at its end. -/
theorem evaluatedOf_spec {w : State} {status : Nat} (hstatus : csrGet w O.pruStatus = status) (hmem : w.mem = s.mem) :
    (evaluatedOf s w).pru.stage = .evaluated ∧ csrGet (evaluatedOf s w) O.pruStatus = status ∧
      csrGet (evaluatedOf s w) O.pruEvalStep = s.pru.step % 2 ^ 32 ∧ (evaluatedOf s w).mem = s.mem ∧
      (evaluatedOf s w).pru.active = w.pru.active ∧ (evaluatedOf s w).pru.rstate = w.pru.rstate := by
  refine ⟨rfl, ?_, ?_, hmem, rfl, rfl⟩
  · exact (csrGet_csrPut_other _ _ (by decide)).trans hstatus
  · exact csrGet_csrPut_same _ _ _

/-- The evaluation of the step's reduced records. -/
def evaluation (s : State) : EvalSt :=
  evaluateRules (csrGet s O.pruBudget) (csrBits s O.pruAlarmSteps 7 0) s.pru.active s.pru.rstate
    ((validEntries s).map (fun e => (e.1, reducedRecord s e.1)))

/-- The counters and the last changes that an evaluation shows. -/
def evaluationCounts (s : State) (r : EvalSt) (alarms : Nat) : State :=
  csrPut (csrPut (bump (bump (bump (bump (bump s O.pruCntWiden r.widened) O.pruCntNarrow r.narrowed)
    O.pruCntDefer r.nDeferred) O.pruCntTop r.nTop) O.pruCntAlarm alarms) O.pruLastA (r.narrowed * 2 ^ 16 + r.widened))
    O.pruLastB (r.nTop * 2 ^ 16 + r.nDeferred)

theorem csrGet_evaluationCounts_widen (s : State) (r : EvalSt) (alarms : Nat) :
    csrGet (evaluationCounts s r alarms) O.pruCntWiden = min (csrGet s O.pruCntWiden + r.widened) 0xFFFFFFFF := by
  unfold evaluationCounts
  rw [csrGet_csrPut_other _ _ (by decide), csrGet_csrPut_other _ _ (by decide), csrGet_bump_other _ _ (by decide),
    csrGet_bump_other _ _ (by decide), csrGet_bump_other _ _ (by decide), csrGet_bump_other _ _ (by decide)]
  unfold bump
  rw [csrGet_csrPut_same, Nat.mod_eq_of_lt (by omega)]

/-- The state of the rule table and its counters after an evaluation, before its events and its status. -/
theorem runEvaluate_reports (s : State) : ∃ v alarms, Reports (evaluationCounts (s.withPru (fun p =>
    { p with active := tableOf (evaluation s).entries, rstate := tableOf (evaluation s).states })) (evaluation s) alarms) v
        ∧
    csrGet v O.pruCntWiden = min (csrGet s O.pruCntWiden + (evaluation s).widened) 0xFFFFFFFF ∧
    runEvaluate s = csrPut v O.pruStatus 1 := by
  unfold runEvaluate
  extract_lets recs r alarms s1 s2 s3 s4 s5
  have hevents : Reports s3 s4 := foldl_rel Reports.refl Reports.trans reports_raiseRule r.events s3
  have hcount : csrGet s4 O.pruCntWiden = csrGet s3 O.pruCntWiden :=
    foldl_keeps raiseRule (fun s => csrGet s O.pruCntWiden) (fun s ev => csrGet_raiseRule s ev (.inr (by decide))) r.events
        s3
  have hwiden : csrGet s3 O.pruCntWiden = min (csrGet s O.pruCntWiden + r.widened) 0xFFFFFFFF :=
    csrGet_evaluationCounts_widen s1 r alarms.length
  refine ⟨s5, alarms.length, ?_, ?_, rfl⟩
  · unfold s5
    split
    · exact hevents
    · exact reports_notifyGroup hevents
  · refine Eq.trans ?_ hwiden
    unfold s5
    split
    · exact hcount
    · exact (csrGet_notifyGroup _ _ _ (by decide)).trans hcount

theorem runEvaluate_spec (s : State) : (runEvaluate s).mem = s.mem ∧ csrGet (runEvaluate s) O.pruStatus = 1 ∧
    (runEvaluate s).pru.active = tableOf (evaluation s).entries ∧ (runEvaluate s).pru.rstate = tableOf (evaluation s).states
        ∧
    csrGet (runEvaluate s) O.pruCntWiden = min (csrGet s O.pruCntWiden + (evaluation s).widened) 0xFFFFFFFF := by
  obtain ⟨v, alarms, hreports, hcount, hrun⟩ := runEvaluate_reports s
  have hpru := hreports.pru
  have hmem := hreports.mem
  rw [hrun]
  refine ⟨hmem, csrGet_csrPut_same _ _ _, congrArg PruSt.active hpru, congrArg PruSt.rstate hpru, ?_⟩
  exact (csrGet_csrPut_other _ _ (by decide)).trans hcount

/-- Records whose digests agree are evaluated. -/
theorem evaluatePassed_agreed (hon : csrBit s O.pruCtrl 0 = true)
    (hspan : digestSpan (updateScales s) = none ∨ ∃ a, digestSpan (updateScales s) = some (a, a)) :
    evaluatePassed s = runEvaluate (updateScales s) := by
  have hon' : ¬ (!csrBit (updateScales s) O.pruCtrl 0) = true := by
    have hsame : csrBit (updateScales s) O.pruCtrl 0 = csrBit s O.pruCtrl 0 := rfl
    simp [hsame, hon]
  unfold evaluatePassed
  dsimp only
  rw [if_neg hon']
  rcases hspan with h | ⟨a, h⟩
  · rw [h]
  · rw [h]
    exact if_pos rfl

theorem evaluatePassed_off (hoff : csrBit s O.pruCtrl 0 = false) :
    evaluatePassed s = csrPut (updateScales s) O.pruStatus 0 := by
  have hoff' : (!csrBit (updateScales s) O.pruCtrl 0) = true := by
    have hsame : csrBit (updateScales s) O.pruCtrl 0 = csrBit s O.pruCtrl 0 := rfl
    simp [hsame, hoff]
  exact if_pos hoff'

/-- Records whose digests differ are not evaluated. -/
theorem evaluatePassed_diverged {a b : BitVec 32} (hon : csrBit s O.pruCtrl 0 = true)
    (hspan : digestSpan (updateScales s) = some (a, b)) (hne : a ≠ b) :
    Reports (updateScales s) (evaluatePassed s) ∧ csrGet (evaluatePassed s) O.pruStatus = 4 := by
  have hon' : ¬ (!csrBit (updateScales s) O.pruCtrl 0) = true := by
    have hsame : csrBit (updateScales s) O.pruCtrl 0 = csrBit s O.pruCtrl 0 := rfl
    simp [hsame, hon]
  unfold evaluatePassed
  dsimp only
  rw [if_neg hon', hspan]
  dsimp only
  rw [if_neg hne]
  refine ⟨reports_notifyGroup (reports_csrPut (reports_raise_minor (by decide) (Reports.refl _))), ?_⟩
  exact (csrGet_notifyGroup _ _ _ (by decide)).trans (csrGet_csrPut_same _ _ _)

/-! ### Installation -/

/-- A note that finds room, or its like in the queue already, is in the queue after. -/
theorem queued_raise_note (s : State) (code cls srcKind src : Nat) (info : List Nat)
    (h : hasRoom s 0 ∨ queued s 0 code) : queued (raise s code 0 cls srcKind src info) 0 code := by
  unfold raise
  rw [if_neg (by omega), placeEvent, if_neg (by decide), if_neg (by decide)]
  split
  · next q hq =>
    obtain ⟨y, hy, hcode⟩ := exists_code_of_coalesceIn hq
    exact ⟨y, by simpa [State.withErr] using hy, hcode⟩
  · rw [if_neg (by decide)]
    split
    · exact queued_enqueue _ _ _
    · next hfull =>
      rw [if_neg (by decide)]
      exact h.resolve_left hfull

theorem installEntry_installs {all : State} {p : Nat × RuleEntry} (h : mayInstall all p.1 p.2 = true) (s : State) :
    installEntry all s p = s.withPru (fun q => { q with
      active := tset q.active p.1 p.2, rstate := tset q.rstate p.1 RuleState.zero }) := if_pos h

/-- An entry that is refused leaves the rule table, and is reported. -/
theorem installEntry_refuses {all : State} {p : Nat × RuleEntry} (h : mayInstall all p.1 p.2 = false) (s : State) :
    (installEntry all s p).pru = s.pru ∧ (hasRoom s 0 ∨ queued s 0 0x1015 → queued (installEntry all s p) 0 0x1015) := by
  unfold installEntry
  rw [if_neg (by simp [h])]
  dsimp only
  refine ⟨?_, fun hbefore => queued_raise_note _ _ _ _ _ _ hbefore⟩
  obtain ⟨_, _, hraise⟩ := raise_note_eq_with
    (csrPutBits s O.pruPending 28 16 (min (csrBits s O.pruPending 28 16 + 1) 0x1FFF)) 0x1015 1 0 0 []
  rw [hraise]
  rfl

/-- Entries that the list does not install stay. -/
theorem foldl_installEntry_other (all : State) {n : Nat} (l : List (Nat × RuleEntry))
    (h : ∀ p ∈ l, p.1 = n → mayInstall all p.1 p.2 = false) (s : State) :
    tget? (l.foldl (installEntry all) s).pru.active n = tget? s.pru.active n ∧
      tget? (l.foldl (installEntry all) s).pru.rstate n = tget? s.pru.rstate n := by
  induction l generalizing s with
  | nil => exact ⟨rfl, rfl⟩
  | cons p l ih =>
    obtain ⟨hactive, hstate⟩ := ih (fun p' hp' => h p' (List.mem_cons_of_mem _ hp')) (installEntry all s p)
    rw [List.foldl_cons, hactive, hstate]
    cases hmay : mayInstall all p.1 p.2 with
    | false =>
      rw [(installEntry_refuses hmay s).1]
      exact ⟨rfl, rfl⟩
    | true =>
      have hne : n ≠ p.1 := fun heq => by
        rw [h p List.mem_cons_self heq.symm] at hmay
        exact Bool.false_ne_true hmay
      rw [installEntry_installs hmay]
      exact ⟨tget?_tset_other _ _ hne, tget?_tset_other _ _ hne⟩

/-- Every entry of the list that may be installed is, with a fresh state. -/
theorem foldl_installEntry_installs (all : State) {l : List (Nat × RuleEntry)} (hnodup : (l.map Prod.fst).Nodup)
    {p : Nat × RuleEntry} (hp : p ∈ l) (hmay : mayInstall all p.1 p.2 = true) (s : State) :
    tget? (l.foldl (installEntry all) s).pru.active p.1 = some p.2 ∧
      tget? (l.foldl (installEntry all) s).pru.rstate p.1 = some RuleState.zero := by
  induction l generalizing s with
  | nil => cases hp
  | cons q l ih =>
    rw [List.map_cons, List.nodup_cons] at hnodup
    rw [List.foldl_cons]
    rcases List.mem_cons.mp hp with rfl | hp
    · obtain ⟨hactive, hstate⟩ := foldl_installEntry_other all l
        (fun p' hp' heq => absurd (List.mem_map.mpr ⟨p', hp', heq⟩) hnodup.1) (installEntry all s p)
      rw [hactive, hstate, installEntry_installs hmay]
      exact ⟨tget?_tset_same _ _ _, tget?_tset_same _ _ _⟩
    · exact ih hnodup.2 hp _

theorem queued_foldl_installEntry (all : State) (l : List (Nat × RuleEntry)) (s : State)
    (h : queued s 0 0x1015 ∨ hasRoom s 0 ∧ ∃ p ∈ l, mayInstall all p.1 p.2 = false) :
    queued (l.foldl (installEntry all) s) 0 0x1015 := by
  induction l generalizing s with
  | nil => exact h.elim id (by rintro ⟨-, p, hp, -⟩; cases hp)
  | cons p l ih =>
    refine ih _ ?_
    cases hmay : mayInstall all p.1 p.2 with
    | false => exact .inl ((installEntry_refuses hmay s).2 (h.symm.imp_left And.left))
    | true =>
      rw [installEntry_installs hmay]
      refine h.imp_right fun ⟨hroom, p', hp', hrefused⟩ => ⟨hroom, p', ?_, hrefused⟩
      refine (List.mem_cons.mp hp').resolve_left fun heq => ?_
      rw [heq, hmay] at hrefused
      exact Bool.false_ne_true hrefused.symm

/-- Settles O23: the close, the four outcomes of an evaluation, and the installation of pending entries. -/
theorem boundaryEvaluates : Obligations.BoundaryEvaluates := by
  intro s
  refine ⟨fun hstep hstage hblock => ?_, fun hstage => ?_, fun hstage hinstalls hnodup => ?_⟩
  · refine ⟨_, exec_recordClose hstep hstage hblock, _, rfl, rfl, rfl, rfl, rfl, rfl, fun e he => ?_, rfl, fun hreduces
        hsome => ?_⟩
    · obtain ⟨k, -, rfl⟩ := List.mem_map.mp he
      exact ⟨rfl, rfl⟩
    · dsimp only
      rw [if_pos hreduces]
      exact if_neg (by simpa using hsome)
  · intro evaluates
    refine ⟨fun hcheck => ?_, fun hcheck hoff => ?_, fun a b hcheck hon hspan hne => ?_, fun hcheck hon hspan => ?_⟩
    · have hexec := exec_evaluation hstage hcheck
      obtain ⟨_, _, hraise⟩ := raise_note_eq_with s 0x1014 1 0 0 []
      obtain ⟨h1, h2, h3, h4, h5, h6⟩ := evaluatedOf_spec (s := s) (w := csrPut (raise s 0x1014 0 1 0 0) O.pruStatus 2)
        (csrGet_csrPut_same _ _ _) (by rw [hraise]; rfl)
      have hpru := congrArg State.pru hraise
      exact ⟨_, hexec, h1, h2, h3, h4, fun _ =>
        ⟨h5.trans (congrArg PruSt.active hpru), h6.trans (congrArg PruSt.rstate hpru)⟩⟩
    · have hexec := exec_evaluation hstage hcheck
      rw [if_pos rfl, evaluatePassed_off hoff] at hexec
      obtain ⟨h1, h2, h3, h4, h5, h6⟩ := evaluatedOf_spec (s := s) (w := csrPut (updateScales s) O.pruStatus 0)
        (csrGet_csrPut_same _ _ _) rfl
      exact ⟨_, hexec, h1, h2, h3, h4, fun _ => ⟨h5, h6⟩⟩
    · have hexec := exec_evaluation hstage hcheck
      rw [if_pos rfl] at hexec
      obtain ⟨hreports, hstatus⟩ := evaluatePassed_diverged hon hspan hne
      obtain ⟨h1, h2, h3, h4, h5, h6⟩ := evaluatedOf_spec (s := s) hstatus hreports.mem
      rw [hreports.pru] at h5 h6
      exact ⟨_, hexec, h1, h2, h3, h4, fun _ => ⟨h5, h6⟩⟩
    · have hexec := exec_evaluation hstage hcheck
      rw [if_pos rfl, evaluatePassed_agreed hon hspan] at hexec
      obtain ⟨hmem, hstatus, hactive, hstate, hcount⟩ := runEvaluate_spec (updateScales s)
      obtain ⟨h1, h2, h3, h4, h5, h6⟩ := evaluatedOf_spec (s := s) hstatus hmem
      refine ⟨⟨_, hexec, h1, h2, h3, h4, nofun⟩, _, hexec, h5.trans hactive, h6.trans hstate, ?_⟩
      exact (csrGet_csrPut_other _ _ (by decide)).trans hcount
  · have hexec : exec .pendingInstall s = .next ((csrPut (markLayers (s.pru.pending.foldl (installEntry s) s)
        (efCleared s (s.pru.pending.foldl (installEntry s) s))) O.pruApplyStep 0xFFFFFFFF).withPru
        (fun p => { p with pending := [], stage := .installed })) := congrArg Host.Outcome.next (if_pos ⟨hstage, hinstalls⟩)
    refine ⟨_, hexec, rfl, rfl, csrGet_csrPut_same _ _ _, fun p hp hmay => ?_, fun n hn => ?_, fun hroom hrefused => ?_⟩
    · obtain ⟨hactive, hstate⟩ := foldl_installEntry_installs s hnodup hp hmay s
      exact ⟨congrArg (·.getD RuleEntry.zero) hactive, congrArg (·.getD RuleState.zero) hstate⟩
    · exact (foldl_installEntry_other s _ hn s).1
    · exact queued_foldl_installEntry s _ s (.inr ⟨hroom, hrefused⟩)

end Sys2Proof.Machine
end

section
/-! O25. The ready gate. -/

open Sys2Proof
namespace Sys2Proof.Machine

variable {s : State} {b : Nat} {v : VBlock}

/-- The gate with its tests so far: how many inputs passed, and whether one missed. -/
def tested (s : State) (pos : Nat) (miss : Bool) : State := s.withGate (fun g => { g with pos := pos, miss := miss })

/-- An input that has not arrived when the wait ends, or that lies below the floor. -/
def misses (s : State) (r : GateRec) : Bool := !hasArrived s r s.step || belowFloor s r s.step

/-- Where no input stops the tests, the gate decides. -/
theorem gateTest_ends {expired : Bool} (l : List GateRec) (h : expired = true ∨ ∀ r ∈ l, hasArrived s r s.step = true) :
    gateTest expired b v l s = gateFinish (tested s (s.gate.pos + l.length) (s.gate.miss || l.any (misses s))) b v := by
  have hall : ∀ (l : List GateRec) (pos : Nat) (miss : Bool), (expired = true ∨ ∀ r ∈ l, hasArrived s r s.step = true) →
      gateTest expired b v l (tested s pos miss) = gateFinish (tested s (pos + l.length) (miss || l.any (misses s))) b v :=
          by
    intro l
    induction l with
    | nil =>
      intro pos miss _
      simp [gateTest]
    | cons r l ih =>
      intro pos miss h
      have hrest : expired = true ∨ ∀ r ∈ l, hasArrived s r s.step = true :=
        h.imp_right fun hall r' hr' => hall r' (List.mem_cons_of_mem _ hr')
      have harr : hasArrived (tested s pos miss) r (tested s pos miss).step = hasArrived s r s.step := rfl
      have hnext := ih (pos + 1) (miss || misses s r) hrest
      rw [List.length_cons, List.any_cons, ← Bool.or_assoc, Nat.add_comm l.length, ← Nat.add_assoc, ← hnext]
      rw [gateTest]
      cases harrived : hasArrived s r s.step with
      | true =>
        rw [if_pos (harr.trans harrived)]
        have hmiss : misses s r = belowFloor s r s.step := by simp [misses, harrived]
        rw [hmiss]
        rfl
      | false =>
        have hexpired : expired = true :=
          h.resolve_right fun hall => Bool.false_ne_true (harrived.symm.trans (hall r List.mem_cons_self))
        have hmiss : misses s r = true := by simp [misses, harrived]
        rw [if_neg (by simp [harr, harrived]), if_pos hexpired, hmiss, Bool.or_true]
        rfl
  exact hall l s.gate.pos s.gate.miss h

/-- Before the end of the wait an input that has not arrived keeps the gate open. -/
theorem gateTest_waits {l : List GateRec} (h : ∃ r ∈ l, hasArrived s r s.step = false) :
    ∃ pos miss, gateTest false b v l s = tested s pos miss := by
  have hall : ∀ (l : List GateRec) (pos : Nat) (miss : Bool), (∃ r ∈ l, hasArrived s r s.step = false) →
      ∃ pos' miss', gateTest false b v l (tested s pos miss) = tested s pos' miss' := by
    intro l
    induction l with
    | nil => rintro _ _ ⟨r, hr, -⟩; cases hr
    | cons r l ih =>
      rintro pos miss ⟨r', hr', hwaits⟩
      have harr : hasArrived (tested s pos miss) r (tested s pos miss).step = hasArrived s r s.step := rfl
      rw [gateTest]
      cases harrived : hasArrived s r s.step with
      | true =>
        rw [if_pos (harr.trans harrived)]
        have hr'' : r' ∈ l := (List.mem_cons.mp hr').resolve_left fun heq => by
          rw [heq, harrived] at hwaits
          exact Bool.false_ne_true hwaits.symm
        exact ih _ _ ⟨r', hr'', hwaits⟩
      | false =>
        rw [if_neg (by simp [harr, harrived]), if_neg Bool.false_ne_true]
        exact ⟨pos, miss, rfl⟩
  exact hall l s.gate.pos s.gate.miss h

/-- The gate as it opens for a block. -/
def opened (s : State) (b : Nat) : State :=
  s.withGate (fun g => { g with block := some b, decided := false, pos := 0, miss := false })

theorem exec_gateDecide (hstep : s.inStep = true) (hdropped : s.pru.dropped = false) (hdone : b ∉ s.gate.done)
    (hblock : (gateBlocks s)[b]? = some v) (hidle : s.gate.block = none ∨ s.gate.decided = true) :
    exec (.gateDecide b) s = .next (gateTest false b v v.gates (opened s b)) := by
  have hlen : b < (gateBlocks s).length := (List.getElem?_eq_some_iff.mp hblock).1
  have hfresh : ¬ (s.gate.block = some b ∧ s.gate.decided = false) := by
    rcases hidle with h | h <;> simp [h]
  have hopen : ¬ (s.inStep = false ∨ s.pru.dropped = true ∨ s.gate.done.contains b = true ∨ (gateBlocks s).length ≤ b ∨
      (s.gate.block.isSome = true ∧ s.gate.decided = false ∧ s.gate.block ≠ some b)) := by
    have hnot : ¬ (gateBlocks s).length ≤ b := by omega
    rcases hidle with h | h <;> simp [hstep, hdropped, hdone, hnot, h]
  rw [exec, execGateDecide, if_neg hopen]
  dsimp only
  rw [if_neg hfresh]
  refine congrArg Host.Outcome.next ?_
  have hblock' : (gateBlocks (opened s b))[b]? = some v := hblock
  have hagain : gateAgain (opened s b) false = gateTest false b v v.gates (opened s b) := by
    unfold gateAgain
    dsimp only [opened, State.withGate]
    dsimp only [opened, State.withGate] at hblock'
    rw [hblock']
    rfl
  exact hagain

theorem completes_gateWaitExpire_next (hblock : s.gate.block = some b) (hdecided : s.gate.decided = false)
    (hv : (gateBlocks s)[b]? = some v) (hwaits : ∃ r ∈ v.gates.drop s.gate.pos, hasArrived s r s.step = false) :
    ∃ pos, exec .gateWaitExpire s = .next (gateFinish (tested s pos true) b v) := by
  obtain ⟨r, hr, hlate⟩ := hwaits
  have hmiss : (v.gates.drop s.gate.pos).any (misses s) = true :=
    List.any_eq_true.mpr ⟨r, hr, by simp [misses, hlate]⟩
  refine ⟨s.gate.pos + (v.gates.drop s.gate.pos).length, ?_⟩
  have hexec : exec .gateWaitExpire s = .next (gateTest true b v (v.gates.drop s.gate.pos) s) := by
    refine congrArg Host.Outcome.next ?_
    unfold gateAgain
    rw [hblock]
    dsimp only
    rw [if_neg (by simp [hdecided]), hv]
  rw [hexec, gateTest_ends _ (.inl rfl), hmiss, Bool.or_true]

/-- Where every input that missed has a copy within the limit, the block runs on the copies, each noted as stale. -/
theorem gateFinish_substitutes {l : List (Nat × RackBuf)} (hmiss : s.gate.miss = true) (hl : substitutes s v = some l) :
    ∃ w, (∃ csr err, w = { s with csr := csr, err := err }) ∧
      gateFinish s b v = (gateRun w b v.entry ((l.head?.map (·.2.fmt)).getD v.variant) (l.map (fun p => (p.1, p.2.len)))
        (l.map (·.1))).withGate (fun g => { g with
          subs := tset g.subs v.entry (tget g.subs v.entry 0 + l.length)
          subTags := g.subTags ++ v.gates.map (fun r => (r.tag, s.step)) }) := by
  have hnotes := foldl_rel (R := fun s u : State => ∃ csr err, u = { s with csr := csr, err := err })
    (f := fun u (p : Nat × RackBuf) => raise u 0x2010 0 1 0 0
      [v.entry, (tget s.pru.active v.entry RuleEntry.zero).layer, u.step - p.2.step])
    (fun _ => ⟨_, _, rfl⟩) (by rintro _ _ _ ⟨_, _, rfl⟩ ⟨_, _, rfl⟩; exact ⟨_, _, rfl⟩)
    (fun s p => raise_note_eq_with s _ _ _ _ _) l s
  refine ⟨_, hnotes, ?_⟩
  rw [gateFinish, if_neg (by simp [hmiss]), hl]

/-- Settles O25: the gate by what has arrived, the end of its wait by the copies that stand in, and the end of a block. -/
theorem readyGate : Obligations.ReadyGate := by
  intro s b v idle
  refine ⟨fun hstep hdropped hdone hblock hidle => ⟨fun hall => ?_, fun hwaits => ?_⟩,
    fun hblock hdecided hv hwaits => ⟨fun l hl => ?_, fun hnone hstep hroom => ?_⟩, fun hended => ?_⟩
  · have hexec := exec_gateDecide hstep hdropped hdone hblock hidle
    have hends := gateTest_ends (s := opened s b) (expired := false) (b := b) (v := v) v.gates
        (.inr fun r hr => (hall r hr).1)
    have hmiss : v.gates.any (misses (opened s b)) = false := by
      refine List.any_eq_false.mpr fun r hr => ?_
      obtain ⟨harrived, hfloor⟩ := hall r hr
      have hsame : misses (opened s b) r = misses s r := rfl
      rw [hsame]
      simp [misses, harrived, hfloor]
    rw [hmiss] at hends
    rw [hends] at hexec
    refine ⟨_, hexec, rfl, rfl, rfl, rfl, rfl, fun r hr hkind => ?_⟩
    refine List.mem_append_right _ (List.mem_map.mpr ⟨(r.window * 256, imageBytes s r.tag), ?_, rfl⟩)
    exact List.mem_filterMap.mpr ⟨r, hr, if_pos hkind⟩
  · have hexec := exec_gateDecide hstep hdropped hdone hblock hidle
    obtain ⟨pos, miss, hopen⟩ := gateTest_waits (s := opened s b) (b := b) (v := v) hwaits
    rw [hopen] at hexec
    exact ⟨_, hexec, rfl, rfl, rfl, rfl⟩
  · obtain ⟨pos, hexec⟩ := completes_gateWaitExpire_next hblock hdecided hv hwaits
    obtain ⟨w, hw, hend⟩ := gateFinish_substitutes (s := tested s pos true) (b := b) rfl hl
    rw [hend] at hexec
    obtain ⟨_, _, rfl⟩ := hw
    refine ⟨_, hexec, rfl, rfl, rfl, fun p hp => ⟨?_, ?_⟩, fun r hr => ?_, tget_tset_same .., rfl⟩
    · exact List.mem_append_right _ (List.mem_map.mpr ⟨(p.1, p.2.len), List.mem_map.mpr ⟨p, hp, rfl⟩, rfl⟩)
    · exact List.mem_append_right _ (List.mem_map.mpr ⟨p.1, List.mem_map.mpr ⟨p, hp, rfl⟩, rfl⟩)
    · exact List.mem_append_right _ (List.mem_map.mpr ⟨r, hr, rfl⟩)
  · obtain ⟨pos, hexec⟩ := completes_gateWaitExpire_next hblock hdecided hv hwaits
    have hdrop : gateFinish (tested s pos true) b v = gateDrop (tested s pos true) b v := by
      have hnone' : substitutes (tested s pos true) v = none := hnone
      rw [gateFinish, if_neg (by simp [tested, State.withGate]), hnone']
    rw [hdrop] at hexec
    obtain ⟨x, hx⟩ : ∃ x, x = (tested s pos true).withGate
      (fun g => { g with block := none, decided := false, done := g.done ++ [b] }) := ⟨_, rfl⟩
    obtain ⟨⟨csr, err, hraise⟩, hqueued⟩ := raise_of_room (sev := 3) (cls := 1) (s := x) 0x2011 0 0 [v.entry]
        (.inr ⟨rfl, rfl⟩)
      (hx ▸ hroom)
    obtain ⟨u, hu⟩ : ∃ u, u = raise x 0x2011 3 1 0 0 [v.entry] := ⟨_, rfl⟩
    have hgate : u.gate = x.gate := by rw [hu, hraise]
    have hmem : u.mem = x.mem := by rw [hu, hraise]
    have hinStep : u.inStep = x.inStep := by rw [hu, hraise]
    have hend : gateDrop (tested s pos true) b v = { u with pru := { u.pru with dropped := true } } := by
      rw [gateDrop, ← hx, ← hu]
      exact if_pos (hinStep.trans (hx ▸ hstep))
    rw [hend] at hexec
    rw [← hu] at hqueued
    refine ⟨_, hexec, ?_, ?_, rfl, hqueued, hmem.trans (hx ▸ rfl)⟩
    · exact (congrArg GateSt.block hgate).trans (hx ▸ rfl)
    · exact (congrArg GateSt.done hgate).trans (hx ▸ rfl)
  · have hnot : ¬ (s.gate.decided = false ∧ s.gate.block = some b) := by
      rcases hended with h | h <;> simp [h]
    refine ⟨_, congrArg Host.Outcome.next (if_neg hnot), _, rfl, rfl, fun p => ?_, ?_⟩
    · exact List.mem_filter.trans (and_congr_right fun _ => decide_eq_true_iff)
    · dsimp only [State.withGate]
      split <;> simp_all

end Sys2Proof.Machine
end

section
/-! O27. The drain of a trace. -/

open Sys2Proof
namespace Sys2Proof.Machine

variable {s : State} {c : Nat}

/-- `k'` is `k` with more in its trace, and what the trace's packets carry changed. -/
def Core.MoreTrace (k k' : Core) : Prop :=
  k.trace <+: k'.trace ∧ k'.entryPts = k.entryPts ∧ k'.stations = k.stations ∧ k'.tracePend = k.tracePend

theorem Core.MoreTrace.refl (k : Core) : k.MoreTrace k := ⟨List.prefix_refl _, rfl, rfl, rfl⟩

theorem Core.MoreTrace.trans {k l m : Core} (hl : k.MoreTrace l) (hm : l.MoreTrace m) : k.MoreTrace m := by
  obtain ⟨hpre, hent, hstn, hpend⟩ := hl
  obtain ⟨hpre', hent', hstn', hpend'⟩ := hm
  exact ⟨hpre.trans hpre', hent'.trans hent, hstn'.trans hstn, hpend'.trans hpend⟩

theorem Core.moreTrace_traceAppend (k : Core) (bs : List Byte) : k.MoreTrace (k.traceAppend bs) :=
  ⟨List.prefix_append _ _, rfl, rfl, rfl⟩

theorem Core.moreTrace_traceSync (k : Core) (s : State) (t pc : Nat) : k.MoreTrace (k.traceSync s t pc) :=
  ⟨List.prefix_append _ _, rfl, rfl, rfl⟩

theorem Core.moreTrace_tracePacket (k : Core) (s : State) (w : TraceWait) : k.MoreTrace (k.tracePacket s w) := by
  unfold Core.tracePacket
  extract_lets dropped k1 k2 named k3 k4
  have h1 : k.MoreTrace k1 := by
    unfold k1
    split
    · exact ⟨List.prefix_append _ _, rfl, rfl, rfl⟩
    · exact .refl k
  have h2 : k.MoreTrace k2 := by
    unfold k2
    split
    · exact h1.trans (moreTrace_traceSync _ _ _ _)
    · exact h1
  have h3 : k.MoreTrace k3 := by
    unfold k3
    split
    · exact h2
    · exact h2.trans ⟨List.prefix_append _ _, rfl, rfl, rfl⟩
  have h4 : k.MoreTrace k4 := h3.trans (moreTrace_traceAppend _ _)
  split
  · exact h4.trans ⟨List.prefix_refl _, rfl, rfl, rfl⟩
  · exact h4

/-- What putting a packet keeps of every core: what its trace holds already, its entry points and its stations. -/
def KeepsTrace (s u : State) : Prop := ∀ d, (getCore s d).trace <+: (getCore u d).trace ∧
  (getCore u d).entryPts = (getCore s d).entryPts ∧ (getCore u d).stations = (getCore s d).stations

theorem KeepsTrace.refl (s : State) : KeepsTrace s s := fun _ => ⟨List.prefix_refl _, rfl, rfl⟩

theorem KeepsTrace.trans {s u v : State} (hu : KeepsTrace s u) (hv : KeepsTrace u v) : KeepsTrace s v := fun d =>
  ⟨(hu d).1.trans (hv d).1, (hv d).2.1.trans (hu d).2.1, (hv d).2.2.trans (hu d).2.2⟩

theorem setCore_keepsTrace {x : Core} (htrace : (getCore s c).trace <+: x.trace)
    (hent : x.entryPts = (getCore s c).entryPts)
    (hstn : x.stations = (getCore s c).stations) : KeepsTrace s (setCore s c x) := by
  intro d
  by_cases hd : d = c
  · subst hd
    rw [getCore_setCore_same]
    exact ⟨htrace, hent, hstn⟩
  · rw [getCore_setCore_other _ _ hd]
    exact ⟨List.prefix_refl _, rfl, rfl⟩

theorem keepsTrace_of_cores {s u : State} (h : u.cores = s.cores) : KeepsTrace s u := fun d => by
  rw [getCore_congr h]
  exact ⟨List.prefix_refl _, rfl, rfl⟩

theorem bump_keepsTrace (s : State) (o k : Nat) : KeepsTrace s (bump s o k) := keepsTrace_of_cores rfl

theorem tracePut_keepsTrace (s : State) (c : Nat) (w : TraceWait) : KeepsTrace s (tracePut s c w) := by
  unfold tracePut
  dsimp only
  split
  · exact setCore_keepsTrace (List.prefix_refl _) rfl rfl
  · split
    · obtain ⟨htrace, hent, hstn, -⟩ := (getCore s c).moreTrace_tracePacket s w
      exact setCore_keepsTrace htrace hent hstn
    · split
      · exact setCore_keepsTrace (List.prefix_refl _) rfl rfl
      · exact (setCore_keepsTrace (by exact List.prefix_refl _) (by rfl) (by rfl)).trans (bump_keepsTrace _ _ _)

theorem tracePump_keepsTrace (s : State) (c : Nat) : KeepsTrace s (tracePump s c) := by
  unfold tracePump
  dsimp only
  split
  · exact .refl s
  · exact (setCore_keepsTrace (by exact List.prefix_refl _) (by rfl) (by rfl)).trans
      (foldl_rel KeepsTrace.refl KeepsTrace.trans (fun s w => tracePut_keepsTrace s c w) _ _)

theorem tracePump_of_none (h : (getCore s c).tracePend = []) : tracePump s c = s := by
  unfold tracePump
  exact if_pos (by simp [h])

theorem csrGet_tracePump {o : Nat} (h : o ≠ O.coreTraceDrop c) : csrGet (tracePump s c) o = csrGet s o := by
  unfold tracePump
  dsimp only
  split
  · rfl
  · exact foldl_keeps (fun s w => tracePut s c w) (fun s => csrGet s o) (fun s w => csrGet_tracePut s w h) _ _

/-! ### What a write by an agent leaves of a core -/

theorem getCore_dropLines (s : State) (lo hi c : Nat) : ∃ l1, getCore (dropLines s lo hi) c = { getCore s c with l1 := l1 }
    :=
  ⟨_, tget_map_values (fun k : Core => { k with l1 := k.l1.filter (fun x => decide (x < lo) || decide (hi < x)) }) s.cores c
      rfl⟩

theorem getCore_memPut (s : State) (a : Nat) (bs : List Byte) (c : Nat) :
    ∃ l1, getCore (memPut s a bs) c = { getCore s c with l1 := l1 } := by
  unfold memPut
  dsimp only
  split
  · exact ⟨_, rfl⟩
  · exact getCore_dropLines _ _ _ c

theorem meetUpset_cores (s : State) (u : Nat × Upset) : (meetUpset s u).cores = s.cores := by
  unfold meetUpset
  dsimp only
  split
  · rfl
  · obtain ⟨_, _, h⟩ := memCorrected_eq_with { s with upsets := s.upsets.erase u } u.1
    rw [h]

theorem getCore_agentWrite (s : State) (a : Nat) (bs : List Byte) (c : Nat) :
    ∃ l1, getCore (agentWrite s a bs) c = { getCore s c with l1 := l1 } := by
  have hwritten : (agentWrite s a bs).cores = (memPut (((upsetsIn s a bs.length).filter
      (fun u => !codeCovered u.1 a bs.length)).foldl meetUpset s) a bs).cores := by
    unfold agentWrite
    dsimp only
    refine foldl_keeps (fun s c => overwriteCore s a bs.length c) State.cores (fun s d => ?_) _ _
    unfold overwriteCore
    dsimp only
    split <;> rfl
  have hmet : (((upsetsIn s a bs.length).filter (fun u => !codeCovered u.1 a bs.length)).foldl meetUpset s).cores = s.cores
      :=
    foldl_keeps meetUpset State.cores meetUpset_cores _ s
  obtain ⟨l1, h⟩ := getCore_memPut (((upsetsIn s a bs.length).filter (fun u => !codeCovered u.1 a bs.length)).foldl
      meetUpset s)
    a bs c
  refine ⟨l1, ?_⟩
  rw [getCore_congr hwritten, h, getCore_congr hmet]

/-! ### One chunk -/

/-- What the drain of a chunk leaves: the chunk in memory, the rest of the trace, and the write pointer. -/
def Drained (s : State) (c : Nat) (u : State) : Prop :=
  let wr := csrGet s (O.coreTraceWr c)
  let a := csrBits s (O.coreTraceBase c) 27 0 * 4096 + wr
  (∀ p, memRead u.mem p = if a ≤ p ∧ p < a + 4096 then (getCore s c).trace.getD (p - a) 0#8 else memRead s.mem p) ∧
  (getCore s c).trace.drop 4096 <+: (getCore u c).trace ∧
  ((getCore s c).tracePend = [] → (getCore u c).trace = (getCore s c).trace.drop 4096) ∧
  csrGet u (O.coreTraceWr c) = (wr + 4096) % ringBytes s c % 2 ^ 32

theorem coreTraceWr_ne_drop (c : Nat) : O.coreTraceWr c ≠ O.coreTraceDrop c := by
  unfold O.coreTraceWr O.coreTraceDrop
  omega

/-- A chunk is the front of the trace, with zeros after its end. -/
theorem getD_chunk (l : List Byte) {n i : Nat} (hi : i < n) :
    (l.take n ++ List.replicate (n - (l.take n).length) 0#8).getD i 0#8 = l.getD i 0#8 := by
  simp only [List.getD_eq_getElem?_getD, List.getElem?_append, List.getElem?_replicate, List.getElem?_take,
      List.length_take]
  by_cases h : i < min n l.length
  · rw [if_pos h, if_pos hi]
  · rw [if_neg h, if_pos (by omega), List.getElem?_eq_none (by omega : l.length ≤ i)]
    rfl

theorem length_chunk (l : List Byte) (n : Nat) : (l.take n ++ List.replicate (n - (l.take n).length) 0#8).length = n := by
  simp only [List.length_append, List.length_replicate, List.length_take]
  omega

theorem traceChunk_drained
    (hmay : class2May s true (csrBits s (O.coreTraceBase c) 27 0 * 4096 + csrGet s (O.coreTraceWr c)) 4096 = true)
    (hin : inHbm (csrBits s (O.coreTraceBase c) 27 0 * 4096 + csrGet s (O.coreTraceWr c)) 4096 = true)
    (hgo : mayGo s ⟨.drain c, 4⟩ (csrBits s (O.coreTraceBase c) 27 0 * 4096 + csrGet s (O.coreTraceWr c)) 4096 = true)
    (hwf : memWf s.mem = true) : Drained s c (traceChunk s c) := by
  unfold Drained
  intro wr a
  obtain ⟨bs, hbs⟩ : ∃ bs, bs = (getCore s c).trace.take 4096 ++
    List.replicate (4096 - ((getCore s c).trace.take 4096).length) 0#8 := ⟨_, rfl⟩
  obtain ⟨hbm, power, hgone⟩ := goOn_waits s ⟨.drain c, 4⟩ a 4096
  obtain ⟨w, hw⟩ : ∃ w, w = setCore (goOn s ⟨.drain c, 4⟩ a 4096) c { getCore s c with
    trace := (getCore s c).trace.drop 4096 } := ⟨_, rfl⟩
  obtain ⟨⟨_, _, _, _, _, _, htouched⟩, -⟩ := agentWrite_touches w a bs
  obtain ⟨l1, hcore⟩ := getCore_agentWrite w a bs c
  obtain ⟨v, hv⟩ : ∃ v, v = csrPut (setCore (agentWrite w a bs) c { getCore (agentWrite w a bs) c with
    ringFull := decide ((wr + 4096) % ringBytes s c = csrGet s (O.coreTraceRd c) % ringBytes s c) }) (O.coreTraceWr c)
    ((wr + 4096) % ringBytes s c) := ⟨_, rfl⟩
  have hchunk : traceChunk s c = tracePump v c := by
    unfold traceChunk
    dsimp only
    rw [hmay, hin, hgo, if_neg (by simp), if_pos (by simp), hv, hw, hbs]
  have hwcore : getCore w c = { getCore s c with trace := (getCore s c).trace.drop 4096 } := hw ▸ getCore_setCore_same _ c _
  have hvtrace : (getCore v c).trace = (getCore s c).trace.drop 4096 ∧ (getCore v c).tracePend = (getCore s c).tracePend :=
      by
    have hvcore : getCore v c = { getCore (agentWrite w a bs) c with
        ringFull := decide ((wr + 4096) % ringBytes s c = csrGet s (O.coreTraceRd c) % ringBytes s c) } :=
      hv ▸ getCore_setCore_same _ c _
    rw [hvcore, hcore, hwcore]
    exact ⟨rfl, rfl⟩
  obtain ⟨⟨_, _, hpumped⟩, -⟩ := tracePump_traces v c
  rw [hchunk]
  refine ⟨fun p => ?_, ?_, fun hpend => ?_, ?_⟩
  · have hmem : (tracePump v c).mem = memWrites s.mem a bs := by
      have hpm : (tracePump v c).mem = v.mem := by rw [hpumped]
      have hvm : v.mem = (agentWrite w a bs).mem := hv ▸ rfl
      have hwm : w.mem = s.mem := by
        rw [hw, hgone]
        rfl
      rw [hpm, hvm, htouched, hwm]
    have hlen : bs.length = 4096 := hbs ▸ length_chunk _ _
    rw [hmem, memRead_memWrites _ _ _ _ hwf, hlen]
    split
    · next hin => rw [hbs, getD_chunk _ (by omega)]
    · rfl
  · exact hvtrace.1 ▸ ((tracePump_keepsTrace v c) c).1
  · rw [tracePump_of_none (hvtrace.2.trans hpend), hvtrace.1]
  · rw [csrGet_tracePump (coreTraceWr_ne_drop c), hv]
    exact csrGet_csrPut_same _ _ _

/-- A trace of at most one chunk, without packets that wait, is drained at once by a flush. -/
theorem traceFlushCore_eq (hmay : mayDrain s c 1 = true) (hempty : (getCore (traceChunk s c) c).trace = []) :
    traceFlushCore s c = traceChunk s c := by
  have hnext : mayDrain (traceChunk s c) c 1 = false := by
    unfold mayDrain
    simp [hempty]
  unfold traceFlushCore
  rw [traceFlushN, if_pos hmay, traceFlushN, if_neg (by simp [hnext])]

end Sys2Proof.Machine
end

section
/-! O27. Threads that are restarted or halted from outside. -/

open Sys2Proof
namespace Sys2Proof.Machine

variable {s u v : State} {c n t : Nat}

/-! ### Writes to a control register of a core -/

theorem csrLocate_core {o : Nat} (hc : c < 256) (ho : o < 0x1000) :
    csrLocate (0x100000 + c * 0x1000 + o) = some (regsCore, o) := by
  have hmod : (0x100000 + c * 0x1000 + o - 0x100000) % 0x1000 = o := by omega
  unfold csrLocate
  simp only [show ¬ 0x100000 + c * 0x1000 + o < 0x10000 by omega, show ¬ 0x100000 + c * 0x1000 + o < 0x20000 by omega,
    show ¬ 0x100000 + c * 0x1000 + o < 0x30000 by omega, show ¬ 0x100000 + c * 0x1000 + o < 0x40000 by omega,
    show ¬ 0x100000 + c * 0x1000 + o < 0x50000 by omega, show ¬ 0x100000 + c * 0x1000 + o < 0x60000 by omega,
    show ¬ 0x100000 + c * 0x1000 + o < 0x70000 by omega, show ¬ 0x100000 + c * 0x1000 + o < 0x80000 by omega,
    show ¬ 0x100000 + c * 0x1000 + o < 0x86000 by omega, show ¬ 0x100000 + c * 0x1000 + o < 0x90000 by omega,
    show ¬ 0x100000 + c * 0x1000 + o < 0xA0000 by omega, show ¬ 0x100000 + c * 0x1000 + o < 0xB0000 by omega,
    show ¬ 0x100000 + c * 0x1000 + o < 0xC0000 by omega, show ¬ 0x100000 + c * 0x1000 + o < 0x100000 by omega,
    show 0x100000 + c * 0x1000 + o < 0x200000 by omega, if_false, if_true, hmod]

theorem hostWrite_core {o : Nat} (w : BitVec 32) (hc : c < 256) (ho : o < 0x1000) (hhard : s.err.hard = false)
    (hdev : s.dev = .quiesced ∨ s.dev = .running ∧ coreClass s c = 0) :
    hostWrite s (0x100000 + c * 0x1000 + o) w = writeCore s c o w.toNat := by
  have hdiv : (0x100000 + c * 0x1000 + o - 0x100000) / 0x1000 = c := by omega
  have hmod : (0x100000 + c * 0x1000 + o - 0x100000) % 0x1000 = o := by omega
  have hnotact : s.dev ≠ .activating := by
    rcases hdev with h | ⟨h, -⟩ <;> simp [h]
  have hbusy : writeBusy s (0x100000 + c * 0x1000 + o) = false := by
    unfold writeBusy
    rw [if_neg (by simp [hnotact]), hdiv]
    split
    · rcases hdev with h | ⟨h, hcls⟩
      · simp [h]
      · simp [h, hcls]
    · rw [if_neg (by unfold O.mangleTagW O.groupSeed; omega)]
  have hdark : blockDark s (0x100000 + c * 0x1000 + o) = false := by simp [blockDark, hhard]
  rw [hostWrite_eq_effect s w (by rw [csrLocate_core hc ho]; rfl) hbusy hdark]
  unfold csrEffect
  dsimp only
  rw [if_pos (by omega), hdiv, hmod]

/-! ### What stopping and starting a thread leaves -/

/-- `u` is `s` but for its cores, registers, keys and power. -/
def Halts (s u : State) : Prop := ∃ cores csr keyTab power, u = { s with cores := cores, csr := csr, keyTab := keyTab, power
    := power }

theorem Halts.refl (s : State) : Halts s s := ⟨_, _, _, _, rfl⟩

theorem Halts.trans (hu : Halts s u) (hv : Halts u v) : Halts s v := by
  obtain ⟨_, _, _, _, rfl⟩ := hu
  obtain ⟨_, _, _, _, rfl⟩ := hv
  exact ⟨_, _, _, _, rfl⟩

theorem Retires.halts (h : Retires s u) : Halts s u := by
  obtain ⟨_, _, _, h⟩ := h
  exact ⟨_, _, _, _, h⟩

theorem retainCluster_halts (s : State) (g : Nat) : Halts s (retainCluster s g) := by
  obtain ⟨_, h⟩ := retainCluster_eq_with s g
  exact ⟨_, _, _, _, h⟩

/-- The entry points of every core are the same. -/
def KeepsEntries (s u : State) : Prop := ∀ d, (getCore u d).entryPts = (getCore s d).entryPts

theorem KeepsEntries.refl (s : State) : KeepsEntries s s := fun _ => rfl

theorem KeepsEntries.trans (hu : KeepsEntries s u) (hv : KeepsEntries u v) : KeepsEntries s v := fun d => (hv d).trans
    (hu d)

theorem keepsEntries_of_cores (h : u.cores = s.cores) : KeepsEntries s u := fun d => by rw [getCore_congr h]

theorem KeepsTrace.entries (h : KeepsTrace s u) : KeepsEntries s u := fun d => (h d).2.1

theorem setThread_keepsEntries (s : State) (c t : Nat) (x : Thread) : KeepsEntries s (setThread s c t x) := by
  intro d
  by_cases hd : d = c
  · subst hd
    rw [setThread, getCore_setCore_same]
  · rw [setThread, getCore_setCore_other _ _ hd]

theorem schedule_entryPts (k : Core) : k.schedule.entryPts = k.entryPts := by
  unfold Core.schedule
  split <;> rfl

theorem reschedule_keepsEntries (s : State) (c : Nat) : KeepsEntries s (reschedule s c) := by
  intro d
  by_cases hd : d = c
  · subst hd
    rw [reschedule, getCore_setCore_same, schedule_entryPts]
  · rw [reschedule, getCore_setCore_other _ _ hd]

theorem traceOut_keepsEntries (s : State) (c t pc : Nat) (p : TracePkt) : KeepsEntries s (traceOut s c t pc p) := by
  unfold traceOut
  split
  · exact (tracePut_keepsTrace s c _).entries
  · exact .refl s

theorem traceTnt_keepsEntries (s : State) (c t : Nat) : KeepsEntries s (traceTnt s c t) := by
  unfold traceTnt
  split
  · exact .refl s
  · exact (traceOut_keepsEntries _ _ _ _ _).trans (setThread_keepsEntries _ _ _ _)

theorem keysRetired_keepsEntries (s : State) (c t : Nat) : KeepsEntries s (keysRetired s c t) := by
  refine (traceTnt_keepsEntries s c t).trans ((setThread_keepsEntries _ c t
    { getThread (traceTnt s c t) c t with keys := [] }).trans (keepsEntries_of_cores (u := keysRetired s c t) ?_))
  exact foldl_keeps (fun s k => retireKey s (clusterOf c) k) State.cores (fun _ _ => rfl)
    (getThread (traceTnt s c t) c t).keys
    (setThread (traceTnt s c t) c t { getThread (traceTnt s c t) c t with keys := [] })

/-- A cleared thread, once its keys are retired. -/
theorem clearThread_eq (s : State) (c t : Nat) : clearThread s c t .halted = reschedule (setThread (keysRetired s c t) c t
    { getThread (keysRetired s c t) c t with st := .halted, blocked := .none, branches := [], buffer := [] }) c := rfl

theorem clearThread_frame (s : State) (c t : Nat) :
    Halts s (clearThread s c t .halted) ∧ KeepsEntries s (clearThread s c t .halted) := by
  rw [clearThread_eq]
  refine ⟨(keysRetired_spec s c t).1.halts.trans ⟨_, _, _, _, rfl⟩, ?_⟩
  exact (keysRetired_keepsEntries s c t).trans ((setThread_keepsEntries _ _ _ _).trans (reschedule_keepsEntries _ _))

theorem getThread_clearThread_same (s : State) (c t : Nat) : ∃ tnt, getThread (clearThread s c t .halted) c t =
    { getThread s c t with
      st := .halted, blocked := .none, branches := [], buffer := [], keys := [], tnt := tnt } := by
  obtain ⟨-, ⟨tnt, hthread⟩, -⟩ := keysRetired_spec s c t
  have hset := getThread_setThread_same (keysRetired s c t) c t { getThread (keysRetired s c t) c t with
    st := .halted, blocked := .none, branches := [], buffer := [] }
  refine ⟨tnt, ?_⟩
  rw [clearThread_eq, getThread_reschedule_of_ne_ready c (by rw [hset]; exact nofun), hset, hthread]

/-- What becomes of a thread while others are stopped and started: it may be given the core. -/
def Carries (c n : Nat) (s u : State) : Prop :=
  csrGet u (O.coreKeyRank c n) = csrGet s (O.coreKeyRank c n) ∧
  ∃ st run tnt, getThread u c n = { getThread s c n with st := st, run := run, tnt := tnt } ∧
    (st = (getThread s c n).st ∨ (getThread s c n).st = .ready ∧ st = .running)

theorem Carries.refl (s : State) : Carries c n s s := ⟨rfl, _, _, _, rfl, .inl rfl⟩

theorem Carries.trans (hu : Carries c n s u) (hv : Carries c n u v) : Carries c n s v := by
  obtain ⟨hrank, st, run, tnt, hthread, hst⟩ := hu
  obtain ⟨hrank', st', run', tnt', hthread', hst'⟩ := hv
  refine ⟨hrank'.trans hrank, st', run', tnt', by rw [hthread', hthread], ?_⟩
  rw [hthread] at hst'
  rcases hst' with rfl | ⟨hready, rfl⟩
  · exact hst
  · rcases hst with rfl | ⟨-, rfl⟩
    · exact .inr ⟨hready, rfl⟩
    · exact absurd hready nofun

theorem carries_of_thread (hcsr : csrGet u (O.coreKeyRank c n) = csrGet s (O.coreKeyRank c n))
    (h : getThread u c n = getThread s c n) : Carries c n s u := ⟨hcsr, _, _, _, h, .inl rfl⟩

theorem reschedule_carries (s : State) (d : Nat) : Carries c n s (reschedule s d) := by
  rcases scheduledTo_reschedule s d c n with h | ⟨hready, h⟩
  · exact carries_of_thread rfl h
  · exact ⟨rfl, .running, 0, _, h, .inr ⟨hready, rfl⟩⟩

theorem coreKeyRank_ne_drop (hn : n < 8) (d : Nat) : O.coreKeyRank c n ≠ O.coreTraceDrop d := by
  unfold O.coreKeyRank O.coreTraceDrop
  omega

theorem Traces.carries (h : Traces s u) (hcsr : csrGet u (O.coreKeyRank c n) = csrGet s (O.coreKeyRank c n)) :
    Carries c n s u := ⟨hcsr, _, _, _, h.2 c n, .inl rfl⟩

theorem csrGet_retireKeys (s : State) (c t o : Nat) : csrGet (retireKeys s c t) o = csrGet s o :=
  foldl_keeps (fun s k => retireKey s (clusterOf c) k) (fun s => csrGet s o) (fun _ _ => rfl) (getThread s c t).keys
    (setThread s c t { getThread s c t with keys := [] })

theorem getThread_retireKeys_other (s : State) (h : n ≠ t) : getThread (retireKeys s c t) c n = getThread s c n :=
  (getThread_foldl_retireKey (clusterOf c) (getThread s c t).keys
    (setThread s c t { getThread s c t with keys := [] }) c n).trans (getThread_setThread_other _ _ (.inr h))

theorem keysRetired_carries (hn : n < 8) (ht : t ≠ n) : Carries c n s (keysRetired s c t) := by
  have htnt : Carries c n s (traceTnt s c t) :=
    (traceTnt_traces s c t).carries (csrGet_traceTnt s t (coreKeyRank_ne_drop hn c))
  have hne : O.coreKeyRank c n ≠ O.coreKeyRank c t := by unfold O.coreKeyRank; omega
  refine htnt.trans (carries_of_thread ?_ (getThread_retireKeys_other (traceTnt s c t) ht.symm))
  exact (csrGet_csrPut_other _ _ hne).trans (csrGet_retireKeys (traceTnt s c t) c t _)

theorem setThread_carries (s : State) (x : Thread) (ht : t ≠ n) : Carries c n s (setThread s c t x) := by
  have hthread : getThread (setThread s c t x) c n = getThread s c n := getThread_setThread_other s x (.inr ht.symm)
  generalize hu : setThread s c t x = u at hthread
  have hcsr : u.csr = s.csr := hu ▸ rfl
  exact carries_of_thread (by rw [csrGet, hcsr, csrGet]) hthread

theorem traceStart_carries (hn : n < 8) (s : State) (t : Nat) : Carries c n s (traceStart s c t) :=
  (traceStart_traces s c t).carries (csrGet_traceOut s _ _ _ (coreKeyRank_ne_drop hn c))

theorem clearThread_carries (hn : n < 8) (ht : t ≠ n) : Carries c n s (clearThread s c t .halted) := by
  rw [clearThread_eq]
  exact (keysRetired_carries hn ht).trans ((setThread_carries _ _ ht).trans (reschedule_carries _ _))

theorem retainCluster_carries (s : State) (g : Nat) : Carries c n s (retainCluster s g) := by
  obtain ⟨_, h⟩ := retainCluster_eq_with s g
  rw [h]
  exact carries_of_thread rfl rfl

theorem stopThread_frame (s : State) (c t : Nat) :
    Halts s (stopThread s c t .halted) ∧ KeepsEntries s (stopThread s c t .halted) := by
  obtain ⟨hhalts, hentries⟩ := clearThread_frame s c t
  exact ⟨hhalts.trans (retainCluster_halts _ _), hentries.trans (keepsEntries_of_cores (retainCluster_cores _ _))⟩

theorem stopThread_carries (hn : n < 8) (ht : t ≠ n) : Carries c n s (stopThread s c t .halted) :=
  (clearThread_carries hn ht).trans (retainCluster_carries _ _)

theorem startThread_frame (s : State) (c t : Nat) : Halts s (startThread s c t) ∧ KeepsEntries s (startThread s c t) := by
  obtain ⟨hhalts, hentries⟩ := clearThread_frame s c t
  unfold startThread
  dsimp only
  split
  · exact ⟨hhalts.trans (retainCluster_halts _ _), hentries.trans (keepsEntries_of_cores (retainCluster_cores _ _))⟩
  · refine ⟨hhalts.trans (Halts.trans ⟨_, _, _, _, rfl⟩ (traceStart_traces _ c t).retires.halts), ?_⟩
    exact hentries.trans ((setThread_keepsEntries _ _ _ _).trans
      ((reschedule_keepsEntries _ _).trans (traceOut_keepsEntries _ _ _ _ _)))

theorem startThread_carries (hn : n < 8) (ht : t ≠ n) : Carries c n s (startThread s c t) := by
  unfold startThread
  dsimp only
  split
  · exact (clearThread_carries hn ht).trans (retainCluster_carries _ _)
  · exact (clearThread_carries hn ht).trans ((setThread_carries _ _ ht).trans
      ((reschedule_carries _ _).trans (traceStart_carries hn _ t)))

end Sys2Proof.Machine
end

section
/-! O27. The commands of the CORE registers. -/

open Sys2Proof
namespace Sys2Proof.Machine

variable {s u v : State} {c n t : Nat}

theorem bitOf_mod {bits k : Nat} (hn : n < k) (h : bits.testBit n = true) : bitOf (bits % 2 ^ k) n = true := by
  unfold bitOf
  rw [Nat.testBit_mod_two_pow, h]
  simp [hn]

/-- A state with thread 0 bits set has no thread to act on. -/
theorem foldl_ifBit_zero (f : State → Nat → State) (l : List Nat) (s : State) :
    l.foldl (fun s t => if bitOf 0 t then f s t else s) s = s := by
  induction l with
  | nil => rfl
  | cons t l ih =>
    have hbit : bitOf 0 t = false := by simp [bitOf]
    rw [List.foldl_cons, hbit, if_neg Bool.false_ne_true, ih]

/-- A numbered list met in order: what comes before a number, and what after it. -/
theorem range_split {k : Nat} (hn : n < k) :
    ∃ before after, List.range k = before ++ n :: after ∧ n ∉ before ∧ n ∉ after := by
  obtain ⟨before, after, h⟩ := List.append_of_mem (List.mem_range.mpr hn)
  have hnodup := List.nodup_range (n := k)
  rw [h] at hnodup
  refine ⟨before, after, h, fun hmem => ?_, (List.nodup_cons.mp (List.nodup_append.mp hnodup).2.1).1⟩
  exact (List.nodup_append.mp hnodup).2.2 n hmem n List.mem_cons_self rfl

/-- The registers below those of the cores are the same. -/
def KeepsLow (s u : State) : Prop := ∀ o, o < 0x100000 → csrGet u o = csrGet s o

theorem KeepsLow.refl (s : State) : KeepsLow s s := fun _ _ => rfl

theorem KeepsLow.trans (hu : KeepsLow s u) (hv : KeepsLow u v) : KeepsLow s v := fun o ho => (hv o ho).trans (hu o ho)

theorem KeepsLow.coreClass (h : KeepsLow s u) (c : Nat) : coreClass u c = coreClass s c := by
  unfold Machine.coreClass clusterClass
  rw [csrBit_of_csrGet _ (h O.globalPartMap (by decide))]

theorem clearThread_keepsLow (s : State) (c t : Nat) : KeepsLow s (clearThread s c t .halted) := by
  intro o ho
  have hrank : o ≠ O.coreKeyRank c t := by unfold O.coreKeyRank; omega
  have hdrop : o ≠ O.coreTraceDrop c := by unfold O.coreTraceDrop; omega
  have hretired : csrGet (keysRetired s c t) o = csrGet s o :=
    (csrGet_csrPut_other _ _ hrank).trans ((csrGet_retireKeys _ _ _ _).trans (csrGet_traceTnt s t hdrop))
  exact hretired

theorem retainCluster_keepsLow (s : State) (g : Nat) : KeepsLow s (retainCluster s g) := fun o _ => by
  rw [csrGet, retainCluster_csr, csrGet]

theorem startThread_keepsLow (s : State) (c t : Nat) : KeepsLow s (startThread s c t) := by
  unfold startThread
  dsimp only
  split
  · exact (clearThread_keepsLow s c t).trans (retainCluster_keepsLow _ _)
  · refine (clearThread_keepsLow s c t).trans fun o ho => ?_
    exact csrGet_traceOut _ _ _ _ (by unfold O.coreTraceDrop; omega)

/-- Acting on the threads of a mask: the frame of every action, and what becomes of one of them after its own. -/
theorem foldl_ifBit_spec {f : State → Nat → State} {bits : Nat} (hn : n < 8) (hbit : bitOf bits n = true)
    (hframe : ∀ s t, Halts s (f s t) ∧ KeepsEntries s (f s t)) (hlow : ∀ s t, KeepsLow s (f s t))
    (hcarries : ∀ s t, t ≠ n → Carries c n s (f s t)) (s : State) :
    ∃ w, Halts s w ∧ KeepsEntries s w ∧ KeepsLow s w ∧ Carries c n (f w n)
        ((List.range 8).foldl (fun s t => if bitOf bits t then f s t else s) s) ∧
      Halts s ((List.range 8).foldl (fun s t => if bitOf bits t then f s t else s) s) := by
  obtain ⟨before, after, hsplit, -, hafter⟩ := range_split hn
  have hstep (s : State) (t : Nat) : Halts s (if bitOf bits t then f s t else s) ∧
      KeepsEntries s (if bitOf bits t then f s t else s) ∧ KeepsLow s (if bitOf bits t then f s t else s) := by
    split
    · exact ⟨(hframe s t).1, (hframe s t).2, hlow s t⟩
    · exact ⟨.refl s, .refl s, .refl s⟩
  have hlist (l : List Nat) (s : State) := foldl_rel (R := fun s u => Halts s u ∧ KeepsEntries s u ∧ KeepsLow s u)
    (fun s => ⟨.refl s, .refl s, .refl s⟩)
    (fun ⟨hu, hu', hu''⟩ ⟨hv, hv', hv''⟩ => ⟨hu.trans hv, hu'.trans hv', hu''.trans hv''⟩) hstep l s
  have hcarried : ∀ (l : List Nat) (s : State), n ∉ l →
      Carries c n s (l.foldl (fun s t => if bitOf bits t then f s t else s) s) := by
    intro l
    induction l with
    | nil => exact fun s _ => .refl s
    | cons t l ih =>
      intro s hmem
      rw [List.mem_cons, not_or] at hmem
      refine Carries.trans (u := if bitOf bits t then f s t else s) ?_ (ih _ hmem.2)
      split
      · exact hcarries s t (fun heq => hmem.1 heq.symm)
      · exact .refl s
  have hall := hlist (List.range 8) s
  obtain ⟨hhalts, hentries, hregs⟩ := hlist before s
  refine ⟨before.foldl (fun s t => if bitOf bits t then f s t else s) s, hhalts, hentries, hregs, ?_, hall.1⟩
  rw [hsplit, List.foldl_append, List.foldl_cons, hbit, if_pos rfl]
  exact hcarried after _ hafter

theorem Halts.mem (h : Halts s u) : u.mem = s.mem := by
  obtain ⟨_, _, _, _, rfl⟩ := h
  rfl

theorem Halts.step (h : Halts s u) : u.step = s.step := by
  obtain ⟨_, _, _, _, rfl⟩ := h
  rfl

/-! ### Restart and halt -/

/-- A thread that starts: its entry point, and the registers that tell it where it runs. -/
theorem startThread_spec {e : Nat} (h : tget? (getCore s c).entryPts n = some e) :
    ∃ st run tnt, (st = .ready ∨ st = .running) ∧ getThread (startThread s c n) c n = { getThread s c n with
      pc := e / 4 * 4
      regs := tset (tset (tset [] 1 (BitVec.ofNat 64 (if coreClass s c = 1 then s.step else 0))) 2 (BitVec.ofNat 64 c)) 3
        (BitVec.ofNat 64 n)
      st := st, run := run, blocked := .none, branches := [], buffer := [], keys := [], tnt := tnt } := by
  obtain ⟨tnt, hcleared⟩ := getThread_clearThread_same s c n
  have hentry : tget? (getCore (clearThread s c n .halted) c).entryPts n = some e := by
    rw [(clearThread_frame s c n).2 c, h]
  obtain ⟨x, hx⟩ : ∃ x : Thread, x = { getThread (clearThread s c n .halted) c n with
      pc := e / 4 * 4
      regs := tset (tset (tset [] 1 (BitVec.ofNat 64 (if coreClass s c = 1 then s.step else 0))) 2 (BitVec.ofNat 64 c)) 3
        (BitVec.ofNat 64 n)
      st := .ready, run := 0 } := ⟨_, rfl⟩
  have hstart : startThread s c n = traceStart (reschedule (setThread (clearThread s c n .halted) c n x) c) c n := by
    unfold startThread
    dsimp only
    rw [hentry, hx]
  obtain ⟨-, hthreads⟩ := traceStart_traces (reschedule (setThread (clearThread s c n .halted) c n x) c) c n
  have hset : getThread (setThread (clearThread s c n .halted) c n x) c n = x := getThread_setThread_same ..
  rw [hstart, hthreads c n]
  rcases scheduledTo_reschedule (setThread (clearThread s c n .halted) c n x) c c n with hsched | ⟨-, hsched⟩
  · rw [hsched, hset, hx, hcleared]
    exact ⟨_, _, _, .inl rfl, rfl⟩
  · rw [hsched, hset, hx, hcleared]
    exact ⟨_, _, _, .inr rfl, rfl⟩

theorem toNat_low (bits : Nat) : (BitVec.ofNat 32 (bits % 256)).toNat = bits % 2 ^ 8 := by
  rw [BitVec.toNat_ofNat]
  omega

theorem completes_threadRestart {bits e : Nat} (hc : c < 256) (hhard : s.err.hard = false)
    (hdev : s.dev = .quiesced ∨ s.dev = .running ∧ coreClass s c = 0) (hn : n < 8) (hbit : bits.testBit n = true)
    (hentry : tget? (getCore s c).entryPts n = some e) : completes (.threadRestart c bits) s (fun u =>
      let y := getThread u c n
      y.pc = e / 4 * 4 ∧ (y.st = .ready ∨ y.st = .running) ∧ y.branches = [] ∧ y.buffer = [] ∧ y.keys = [] ∧
      y.reg 1 = BitVec.ofNat 64 (if coreClass s c = 1 then s.step else 0) ∧ y.reg 2 = BitVec.ofNat 64 c ∧
      y.reg 3 = BitVec.ofNat 64 n ∧ (∀ r, 3 < r → y.reg r = 0#64) ∧ u.mem = s.mem) := by
  have hval : (BitVec.ofNat 32 (bits % 256 * 256)).toNat = bits % 2 ^ 8 * 256 := by
    rw [BitVec.toNat_ofNat]
    omega
  have hexec : exec (.threadRestart c bits) s = .next (restartThreads s c (bits % 2 ^ 8)) := by
    refine congrArg Host.Outcome.next ?_
    rw [show O.coreThreadCtrl c = 0x100000 + c * 0x1000 + 0 from rfl, hostWrite_core _ hc (by decide) hhard hdev, hval]
    unfold writeCore
    dsimp only
    rw [if_pos rfl]
    have hlow : bitsOf (bits % 2 ^ 8 * 256) 7 0 = 0 := by rw [bitsOf_eq_div_mod]; omega
    have hhigh : bitsOf (bits % 2 ^ 8 * 256) 15 8 = bits % 2 ^ 8 := by rw [bitsOf_eq_div_mod]; omega
    rw [hlow, hhigh, haltThreads, foldl_ifBit_zero]
  obtain ⟨w, hhalts, hentries, hregs, hcarries, hframe⟩ := foldl_ifBit_spec (c := c) (f := fun s t => startThread s c t) hn
    (bitOf_mod hn hbit) (fun s t => startThread_frame s c t)
    (fun s t => startThread_keepsLow s c t) (fun s t ht => startThread_carries hn ht) s
  obtain ⟨st, run, tnt, hst, hthread⟩ := startThread_spec (s := w) (c := c) (n := n) (e := e) (by rw [hentries c, hentry])
  obtain ⟨-, st', run', tnt', hlater, hst'⟩ := hcarries
  refine ⟨_, hexec, ?_⟩
  have hend : getThread (restartThreads s c (bits % 2 ^ 8)) c n = _ := hlater
  rw [hthread] at hend hst'
  rw [hregs.coreClass c, hhalts.step] at hend
  dsimp only
  rw [hend]
  refine ⟨rfl, ?_, rfl, rfl, rfl, rfl, rfl, rfl, fun r hr => ?_, hframe.mem⟩
  · rcases hst' with rfl | ⟨-, rfl⟩
    · exact hst
    · exact .inr rfl
  · refine (if_neg (by omega)).trans ?_
    dsimp only
    rw [tget_tset_other _ _ _ (by omega), tget_tset_other _ _ _ (by omega), tget_tset_other _ _ _ (by omega)]
    rfl

theorem stopThread_spec (s : State) (c n : Nat) : (getThread (stopThread s c n .halted) c n).st = .halted ∧
    (getThread (stopThread s c n .halted) c n).keys = [] ∧ csrGet (stopThread s c n .halted) (O.coreKeyRank c n) = 0 := by
  obtain ⟨tnt, hcleared⟩ := getThread_clearThread_same s c n
  obtain ⟨-, -, hrank, -⟩ := keysRetired_spec s c n
  obtain ⟨_, hretain⟩ := retainCluster_eq_with (clearThread s c n .halted) (clusterOf c)
  have hthread : getThread (stopThread s c n .halted) c n = getThread (clearThread s c n .halted) c n := by
    rw [stopThread, hretain]
    rfl
  have hcsr : (stopThread s c n .halted).csr = (keysRetired s c n).csr := by
    rw [stopThread, hretain]
    rfl
  rw [hthread, hcleared]
  exact ⟨rfl, rfl, by rw [csrGet, hcsr]; exact hrank⟩

theorem completes_threadHalt {bits : Nat} (hc : c < 256) (hhard : s.err.hard = false)
    (hdev : s.dev = .quiesced ∨ s.dev = .running ∧ coreClass s c = 0) (hn : n < 8) (hbit : bits.testBit n = true) :
    completes (.threadHalt c bits) s (fun u => (getThread u c n).st = .halted ∧ (getThread u c n).keys = [] ∧
      csrGet u (O.coreKeyRank c n) = 0 ∧ u.mem = s.mem) := by
  have hexec : exec (.threadHalt c bits) s = .next (haltThreads s c (bits % 2 ^ 8)) := by
    refine congrArg Host.Outcome.next ?_
    rw [show O.coreThreadCtrl c = 0x100000 + c * 0x1000 + 0 from rfl, hostWrite_core _ hc (by decide) hhard hdev, toNat_low]
    unfold writeCore
    dsimp only
    rw [if_pos rfl]
    have hlow : bitsOf (bits % 2 ^ 8) 7 0 = bits % 2 ^ 8 := by rw [bitsOf_eq_div_mod]; omega
    have hhigh : bitsOf (bits % 2 ^ 8) 15 8 = 0 := by rw [bitsOf_eq_div_mod]; omega
    rw [hlow, hhigh, restartThreads, foldl_ifBit_zero]
  obtain ⟨w, -, -, -, hcarries, hframe⟩ := foldl_ifBit_spec (c := c) (f := fun s t => stopThread s c t .halted) hn
    (bitOf_mod hn hbit) (fun s t => stopThread_frame s c t)
    (fun s t => (clearThread_keepsLow s c t).trans (retainCluster_keepsLow _ _)) (fun s t ht => stopThread_carries hn ht) s
  obtain ⟨hst, hkeys, hrank⟩ := stopThread_spec w c n
  obtain ⟨hcsr, st', run', tnt', hlater, hst'⟩ := hcarries
  have hend : getThread (haltThreads s c (bits % 2 ^ 8)) c n = _ := hlater
  refine ⟨_, hexec, ?_, ?_, hcsr.trans hrank, hframe.mem⟩
  · rw [hend]
    rcases hst' with rfl | ⟨hready, -⟩
    · exact hst
    · exact absurd (hst.symm.trans hready) nofun
  · rw [hend]
    exact hkeys

end Sys2Proof.Machine
end

section
/-! O27. The reset of stations, the counters of a core, and the registers of its exceptions. -/

open Sys2Proof
namespace Sys2Proof.Machine

variable {s u v : State} {c n : Nat}

/-! ### The reset of a station -/

/-- `u` is `s` but for streams, cores and power; station `n` of core `c` is the same, and no stream got a tile. -/
def Empties (c n : Nat) (s u : State) : Prop :=
  (∃ streams cores power, u = { s with streams := streams, cores := cores, power := power }) ∧
    getStn u c n = getStn s c n ∧ ∀ e, streamTiles s e = [] → streamTiles u e = []

theorem Empties.refl (s : State) : Empties c n s s := ⟨⟨_, _, _, rfl⟩, rfl, fun _ h => h⟩

theorem Empties.trans (hu : Empties c n s u) (hv : Empties c n u v) : Empties c n s v := by
  obtain ⟨⟨_, _, _, rfl⟩, hstn, htiles⟩ := hu
  obtain ⟨⟨_, _, _, rfl⟩, hstn', htiles'⟩ := hv
  exact ⟨⟨_, _, _, rfl⟩, hstn'.trans hstn, fun e h => htiles' e (htiles e h)⟩

theorem closeWindow_empties (s : State) (t : STile) : Empties c n s (closeWindow s t) := by
  refine foldl_rel Empties.refl Empties.trans (fun s w => ?_) t.src s
  split
  · exact .refl s
  · exact ⟨⟨_, _, _, rfl⟩, getStn_setCore (x := { getCore s w.1 with windows := tdel (getCore s w.1).windows w.2 }) rfl c n,
      fun _ h => h⟩

theorem foldl_closeWindow_empties (l : List STile) (s : State) : Empties c n s (l.foldl closeWindow s) :=
  foldl_rel Empties.refl Empties.trans closeWindow_empties l s

theorem discardStream_spec (s : State) (p : Nat × StreamEnt) :
    Empties c n s (discardStream s p) ∧ streamTiles (discardStream s p) p.1 = [] := by
  obtain ⟨w, hw⟩ : ∃ w, w = setStream s p.1 { getStream s p.1 with queue := [], held := [], router := [] } := ⟨_, rfl⟩
  have hsame : getStream w p.1 = { getStream s p.1 with queue := [], held := [], router := [] } :=
    hw ▸ getStream_setStream_same s p.1 _
  have hnone : streamTiles w p.1 = [] := by rw [streamTiles, hsame]; rfl
  have hset : Empties c n s w := by
    refine ⟨⟨_, _, _, hw⟩, hw ▸ rfl, fun e he => ?_⟩
    by_cases hep : e = p.1
    · rw [hep, hnone]
    · have hother : getStream w e = getStream s e := hw ▸ getStream_setStream_other s _ hep
      rw [streamTiles, hother]
      exact he
  have hclosed : Empties c n w (discardStream s p) := hw ▸ foldl_closeWindow_empties _ _
  exact ⟨hset.trans hclosed, hclosed.2.2 p.1 hnone⟩

theorem foldl_discardStream_spec (l : List (Nat × StreamEnt)) (s : State) :
    Empties c n s (l.foldl discardStream s) ∧ ∀ p ∈ l, streamTiles (l.foldl discardStream s) p.1 = [] := by
  induction l generalizing s with
  | nil => exact ⟨.refl s, fun p hp => by cases hp⟩
  | cons q l ih =>
    obtain ⟨hfirst, hgone⟩ := discardStream_spec (c := c) (n := n) s q
    obtain ⟨hrest, hall⟩ := ih (discardStream s q)
    refine ⟨hfirst.trans hrest, fun p hp => ?_⟩
    rcases List.mem_cons.mp hp with rfl | hp
    · exact hrest.2.2 p.1 hgone
    · exact hall p hp

theorem retainCluster_empties (s : State) (g : Nat) : Empties c n s (retainCluster s g) := by
  obtain ⟨_, h⟩ := retainCluster_eq_with s g
  rw [h]
  exact ⟨⟨_, _, _, rfl⟩, rfl, fun _ h => h⟩

theorem setEng_empties (s : State) (d e : Nat) (x : Engine) : Empties c n s (setEng s d e x) :=
  ⟨⟨_, _, _, rfl⟩, getStn_setEng .., fun _ h => h⟩

theorem lint_empties (s : State) (d ring kind sid entry arg : Nat) : Empties c n s (lint s d ring kind sid entry arg) := by
  obtain ⟨_, h⟩ := lint_eq_with s d ring kind sid entry arg
  have htiles : ∀ e, streamTiles (lint s d ring kind sid entry arg) e = streamTiles s e := fun e => by rw [h]; rfl
  exact ⟨⟨_, _, _, h⟩, getStn_lint .., fun e he => (htiles e).trans he⟩

/-- The reset of a station, once its tiles are discarded and its own state is cleared. -/
theorem startStnReset_eq (s : State) (c m : Nat) : ∃ w, (∀ {d k}, Empties d k s w) ∧
    (∀ p ∈ stationStreams s c m, streamTiles w p.1 = []) ∧
    ∀ {d k}, Empties d k (setStn w c m { getStn w c m with queue := [], work := .idle, out := [], resetting := true })
      (startStnReset s c m) := by
  refine ⟨((getStn s c m).out.map Prod.snd).foldl closeWindow ((stationStreams s c m).foldl discardStream s),
    fun {d k} => (foldl_discardStream_spec _ s).1.trans (foldl_closeWindow_empties _ _), fun p hp => ?_, fun {d k} => ?_⟩
  · have hclosed := foldl_closeWindow_empties (c := c) (n := m) ((getStn s c m).out.map Prod.snd)
      ((stationStreams s c m).foldl discardStream s)
    exact hclosed.2.2 p.1 ((foldl_discardStream_spec (c := c) (n := m) (stationStreams s c m) s).2 p hp)
  · unfold startStnReset
    dsimp only
    refine Empties.trans ?_ (lint_empties _ _ _ _ _ _ _)
    split
    · exact (retainCluster_empties _ _).trans (setEng_empties _ _ _ _)
    · exact retainCluster_empties _ _

theorem startStnReset_other (s : State) {m : Nat} (hm : m ≠ n) : Empties c n s (startStnReset s c m) := by
  obtain ⟨w, hw, -, hreset⟩ := startStnReset_eq s c m
  refine hw.trans (Empties.trans ⟨⟨_, _, _, rfl⟩, getStn_setStn_other _ _ (.inr hm.symm), fun _ h => h⟩ hreset)

/-- What a reset leaves of its station: nothing, and no tile on its streams. -/
def ResetDone (s : State) (c n : Nat) (u : State) : Prop :=
  (getStn u c n).resetting = true ∧ (getStn u c n).queue = [] ∧ (getStn u c n).work = .idle ∧ (getStn u c n).out = [] ∧
    (∀ p ∈ stationStreams s c n, streamTiles u p.1 = []) ∧ u.mem = s.mem

theorem startStnReset_same (s : State) (c n : Nat) : ResetDone s c n (startStnReset s c n) := by
  obtain ⟨w, hw, htiles, hreset⟩ := startStnReset_eq s c n
  obtain ⟨⟨_, _, _, hwframe⟩, -, -⟩ := hw (d := c) (k := n)
  obtain ⟨⟨_, _, _, hframe⟩, hstn, hkept⟩ := hreset (d := c) (k := n)
  rw [getStn_setStn_same] at hstn
  have hmem := congrArg State.mem hframe
  have hwmem := congrArg State.mem hwframe
  refine ⟨?_, ?_, ?_, ?_, fun p hp => hkept p.1 (htiles p hp), hmem.trans hwmem⟩
  all_goals rw [hstn]

theorem ResetDone.later (h : ResetDone s c n u) (hv : Empties c n u v) : ResetDone s c n v := by
  obtain ⟨h1, h2, h3, h4, htiles, hmem⟩ := h
  obtain ⟨⟨_, _, _, hframe⟩, hstn, hkept⟩ := hv
  have hvmem := congrArg State.mem hframe
  exact ⟨hstn ▸ h1, hstn ▸ h2, hstn ▸ h3, hstn ▸ h4, fun p hp => hkept p.1 (htiles p hp), hvmem.trans hmem⟩

theorem resetStns_done {bits : Nat} (hn : n < 13) (hbit : bitOf bits n = true) : ResetDone s c n (resetStns s c bits) := by
  obtain ⟨before, after, hsplit, hbefore, hafter⟩ := range_split hn
  have hothers : ∀ (l : List Nat) (s : State), n ∉ l →
      Empties c n s (l.foldl (fun s m => if bitOf bits m then startStnReset s c m else s) s) := by
    intro l
    induction l with
    | nil => exact fun s _ => .refl s
    | cons m l ih =>
      intro s hmem
      rw [List.mem_cons, not_or] at hmem
      refine Empties.trans (u := if bitOf bits m then startStnReset s c m else s) ?_ (ih _ hmem.2)
      split
      · exact startStnReset_other s (fun heq => hmem.1 heq.symm)
      · exact .refl s
  obtain ⟨w, hw⟩ : ∃ w, w = before.foldl (fun s m => if bitOf bits m then startStnReset s c m else s) s := ⟨_, rfl⟩
  have hfirst : Empties c n s w := hw ▸ hothers before s hbefore
  have hdone := startStnReset_same w c n
  have hlater := hdone.later (hothers after (startStnReset w c n) hafter)
  have hend : resetStns s c bits = after.foldl (fun s m => if bitOf bits m then startStnReset s c m else s)
      (startStnReset w c n) := by
    rw [resetStns, hsplit, List.foldl_append, List.foldl_cons, hbit, if_pos rfl, ← hw]
  obtain ⟨⟨_, _, _, hframe⟩, -, -⟩ := hfirst
  have hwmem : w.mem = s.mem := by rw [hframe]
  have hwstreams : stationStreams w c n = stationStreams s c n := by rw [hframe]; rfl
  rw [hend]
  unfold ResetDone at hlater ⊢
  rw [hwmem, hwstreams] at hlater
  exact hlater

theorem completes_stationReset {bits : Nat} (hc : c < 256) (hhard : s.err.hard = false)
    (hdev : s.dev = .quiesced ∨ s.dev = .running ∧ coreClass s c = 0) (hn : n < 13) (hbit : bits.testBit n = true) :
    completes (.stationReset c bits) s (ResetDone s c n) := by
  have hval : (BitVec.ofNat 32 (bits % 2 ^ 13)).toNat = bits % 2 ^ 13 := by
    rw [BitVec.toNat_ofNat]
    omega
  refine ⟨resetStns s c (bits % 2 ^ 13), congrArg Host.Outcome.next ?_, resetStns_done hn (bitOf_mod hn hbit)⟩
  rw [show O.coreStnReset c = 0x100000 + c * 0x1000 + 8 by unfold O.coreStnReset; omega,
    hostWrite_core _ hc (by decide) hhard hdev, hval]
  unfold writeCore
  dsimp only
  rw [if_neg (by decide), if_pos rfl]
  have hlow : bitsOf (bits % 2 ^ 13) 12 0 = bits % 2 ^ 13 := by rw [bitsOf_eq_div_mod]; omega
  rw [hlow]

/-! ### The count of exceptions -/

theorem csrFields_coreExcCount (hc : c < 256) : csrFields (O.coreExcCount c) = [⟨15, 0, .rc, 0⟩] := by
  have hfound : regsCore.find? (fun r => r.hits 0x60) = some ⟨0x060, 1, 4, [⟨15, 0, .rc, 0⟩]⟩ := by decide
  rw [show O.coreExcCount c = 0x100000 + c * 0x1000 + 0x60 by unfold O.coreExcCount; omega, csrFields,
    csrLocate_core hc (by decide)]
  dsimp only
  rw [hfound]

theorem csrRead_coreExcCount (hc : c < 256) (hhard : s.err.hard = false) :
    (csrRead s 0 (O.coreExcCount c)).1 = readClear s (O.coreExcCount c) := by
  have hoff : O.coreExcCount c = 0x100000 + c * 0x1000 + 0x60 := by unfold O.coreExcCount; omega
  have hlocate : csrLocate (O.coreExcCount c) = some (regsCore, 0x60) := hoff ▸ csrLocate_core hc (by decide)
  have hdark : blockDark s (O.coreExcCount c) = false := by simp [blockDark, hhard]
  have hlo : O.coreExcCount c ≠ O.globalCycleLo := by rw [hoff]; unfold O.globalCycleLo; omega
  have hhi : O.coreExcCount c ≠ O.globalCycleHi := by rw [hoff]; unfold O.globalCycleHi; omega
  have hcounter : engCounter (O.coreExcCount c) = none := by
    rw [hoff]
    unfold engCounter
    rw [if_neg (by omega)]
    dsimp only
    exact if_pos (.inl (by omega))
  unfold csrRead
  rw [hlocate, if_neg (by simp), if_neg (by simp [hdark]), if_neg hlo, if_neg hhi, hcounter]

theorem completes_excCountRead (hc : c < 256) (hhard : s.err.hard = false) : completes (.excCountRead c) s (fun u =>
    csrBits u (O.coreExcCount c) 15 0 = 0 ∧ ∀ o, o ≠ O.coreExcCount c → csrGet u o = csrGet s o) := by
  refine ⟨_, congrArg Host.Outcome.next (csrRead_coreExcCount hc hhard), ?_⟩
  have hcleared : bitsOf (setBits (csrGet s (O.coreExcCount c)) 15 0 0) 15 0 = 0 := bitsOf_setBits_same _ _ _ _
  have hvalue : (csrFields (O.coreExcCount c)).foldl (fun w f => if f.acc = .rc then
      setBits w f.hi f.lo (if O.coreExcCount c = O.powerVin then 0xFFFF else 0) else w) (csrGet s (O.coreExcCount c)) =
      setBits (csrGet s (O.coreExcCount c)) 15 0 0 := by
    have hvin : O.coreExcCount c ≠ O.powerVin := by unfold O.coreExcCount O.powerVin; omega
    rw [csrFields_coreExcCount hc, List.foldl_cons, List.foldl_nil, if_pos rfl, if_neg hvin]
  unfold readClear
  dsimp only
  rw [hvalue]
  split
  · next hsame =>
    rw [csrBits, ← hsame]
    exact ⟨hcleared, fun _ _ => rfl⟩
  · rw [csrBits, csrGet_csrPut_same, bitsOf_mod_word _ _ (by decide)]
    exact ⟨hcleared, fun o ho => csrGet_csrPut_other _ _ ho⟩

/-! ### The counters of a core -/

theorem completes_perfClear (hdev : s.dev ≠ .activating) : completes (.perfClear c) s (fun u =>
    (getCore u c).perf = [] ∧ u = setCore s c { getCore s c with perf := [] }) := by
  have hbusy : writeBusy s (O.corePerfCtrl c) = false := by
    unfold writeBusy
    rw [if_neg (by simp [hdev]), if_neg (by unfold O.corePerfCtrl; omega),
      if_neg (by unfold O.corePerfCtrl O.mangleTagW O.groupSeed; omega)]
  refine ⟨setCore s c { getCore s c with perf := [] }, ?_, ?_, rfl⟩
  · exact congrArg Host.Outcome.next (if_neg (by simp [hbusy]))
  · rw [getCore_setCore_same]

theorem completes_traceFlush (hmay : mayDrain s c 1 = true) (hlen : (getCore s c).trace.length ≤ 4096)
    (hpend : (getCore s c).tracePend = []) (hdev : s.dev ≠ .activating) (hdrained : Drained s c (traceChunk s c)) :
    completes (.traceFlush c) s (Drained s c) := by
  have hbusy : writeBusy s (O.coreTraceCtrl c) = false := by
    unfold writeBusy
    rw [if_neg (by simp [hdev]), if_neg (by unfold O.coreTraceCtrl; omega),
      if_neg (by unfold O.coreTraceCtrl O.mangleTagW O.groupSeed; omega)]
  have hempty : (getCore (traceChunk s c) c).trace = [] := by
    obtain ⟨-, -, htrace, -⟩ := hdrained
    rw [htrace hpend]
    exact List.drop_eq_nil_of_le hlen
  refine ⟨traceChunk s c, ?_, hdrained⟩
  rw [exec, execTraceFlush, hbusy, if_neg Bool.false_ne_true, traceFlushCore_eq hmay hempty]

/-- Settles O27, command by command. -/
theorem coreRegisterCommands : Obligations.CoreRegisterCommands := by
  intro s c n bits wr a drained writes
  refine ⟨fun hmay hin hgo hwf => ?_, fun ⟨hc, hhard, hdev⟩ hn hbit => ⟨fun e hentry => ?_, ?_⟩,
    fun ⟨hc, hhard, hdev⟩ hn hbit => completes_stationReset hc hhard hdev hn hbit, fun hdev => completes_perfClear hdev,
    fun hc hhard => completes_excCountRead hc hhard⟩
  · have hdrained := traceChunk_drained hmay hin hgo hwf
    exact ⟨fun hroom => ⟨traceChunk s c, congrArg Host.Outcome.next (if_pos hroom), hdrained⟩,
      fun hroom hlen hpend hdev => completes_traceFlush hroom hlen hpend hdev hdrained⟩
  · exact completes_threadRestart hc hhard hdev hn hbit hentry
  · exact completes_threadHalt hc hhard hdev hn hbit

end Sys2Proof.Machine
end

section
/-! O31. Instances that end, tags that are staged and installed. -/

open Sys2Proof
namespace Sys2Proof.Machine

theorem tget?_tdel_same {α : Type} (t : Tbl α) (k : Nat) : tget? (tdel t k) k = none := by
  induction t with
  | nil => rfl
  | cons e t ih =>
    rw [tdel]
    split
    · exact ih
    · next h => exact (if_neg h).trans ih

variable {s : State} {tag step : Nat} {i : Inst} {d : TagDesc}

theorem findInst_freeInst_same (hi : i.tag = tag) (hstep : i.step = step) : findInst (freeInst s i) tag step = none := by
  refine List.find?_eq_none.mpr fun x hx => ?_
  have hkept := List.of_mem_filter hx
  rw [hi, hstep] at hkept
  simp only [Bool.or_eq_true, decide_eq_true_eq] at hkept
  simp only [Bool.and_eq_true, decide_eq_true_eq]
  tauto

theorem findInst_freeInst_other {t p : Nat} (h : t ≠ i.tag ∨ p ≠ i.step) : findInst (freeInst s i) t p = findInst s t p :=
    by
  unfold findInst freeInst
  dsimp only [State.withMangle]
  rw [List.find?_filter]
  congr 1
  funext x
  rw [Bool.eq_iff_iff]
  simp only [Bool.and_eq_true, Bool.or_eq_true, decide_eq_true_eq]
  constructor
  · exact fun hx => hx.2
  · rintro ⟨rfl, rfl⟩
    exact ⟨by tauto, rfl, rfl⟩

/-- A STEP event whose queue has room leaves every register outside ERRLOG. -/
theorem csrGet_raise_of_room {sev cls code o : Nat} (srcKind src : Nat) (info : List Nat)
    (hsev : sev = 2 ∨ sev = 3 ∧ cls = 1)
    (hroom : hasRoom s sev) (hcode : code < 0x10000) (ho : outsideErrlog o) :
    csrGet (raise s code sev cls srcKind src info) o = csrGet s o := by
  have hlevel : (if sev = 3 ∧ (cls = 0 ∨ cls = 2) then 2 else sev) = sev := if_neg (by omega)
  unfold hasRoom at hroom
  unfold raise
  rw [hlevel, placeEvent, if_neg (by omega)]
  split
  · exact (csrGet_withErr _ _ _).trans (csrGet_countEvent s hcode (by omega) ho)
  · by_cases hstep : sev = 3
    · subst hstep
      rw [if_pos rfl, placeStep, if_pos hroom]
      exact csrGet_enqueue s _ hcode (by decide) ho
    · rw [if_neg hstep, if_pos hroom]
      exact csrGet_enqueue s _ hcode (by omega) ho

theorem completes_collTimeout (hfound : findInst s tag step = some i) (hdesc : descOf s tag = some d)
    (hi : i.tag = tag) (hstep : i.step = step) (hdone : instDone s i d = false) (hop : d.op = 4 ∨ d.op = 5 ∨ d.op = 6)
    (hroom : hasRoom s 3) : completes (.collTimeout tag step) s (fun u =>
      findInst u tag step = none ∧ queued u 3 0x3003 ∧ u.mem = s.mem ∧ (s.inStep = true → u.pru.dropped = true) ∧
        csrGet u O.mangleCntTimeout = min (csrGet s O.mangleCntTimeout + 1) 0xFFFFFFFF) := by
  obtain ⟨w, hw⟩ : ∃ w, w = bump (freeInst s i) O.mangleCntTimeout := ⟨_, rfl⟩
  have hexec : exec (.collTimeout tag step) s = .next (dropMicroBatch (raise w 0x3003 3 1 9 tag)) := by
    rw [exec, execCollTimeout, hfound, hdesc, hw]
    exact congrArg Host.Outcome.next (if_pos ⟨hop, hdone⟩)
  have hwroom : hasRoom w 3 := hw ▸ hroom
  obtain ⟨⟨_, _, hraise⟩, hqueued⟩ := raise_of_room 0x3003 9 tag [] (.inr ⟨rfl, rfl⟩) hwroom
  have hcount := csrGet_raise_of_room (cls := 1) (code := 0x3003) (o := O.mangleCntTimeout) 9 tag [] (.inr ⟨rfl, rfl⟩)
      hwroom
    (by decide) (.inr (by decide))
  obtain ⟨u, hu⟩ : ∃ u, u = raise w 0x3003 3 1 9 tag := ⟨_, rfl⟩
  rw [← hu] at hexec hqueued hcount hraise
  have hmangle : u.mangle = (freeInst s i).mangle := by rw [hraise, hw]; rfl
  have hmem : u.mem = s.mem := by rw [hraise, hw]; rfl
  have hinStep : u.inStep = s.inStep := by rw [hraise, hw]; rfl
  have hbumped : csrGet w O.mangleCntTimeout = min (csrGet s O.mangleCntTimeout + 1) 0xFFFFFFFF := hw ▸ csrGet_bump_same _ _
  have hfree : findInst u tag step = none := by
    rw [findInst, hmangle]
    exact findInst_freeInst_same hi hstep
  refine ⟨_, hexec, ?_⟩
  unfold dropMicroBatch
  split
  · exact ⟨hfree, hqueued, hmem, fun _ => rfl, hcount.trans hbumped⟩
  · next hout => exact ⟨hfree, hqueued, hmem, fun h => absurd (hinStep.trans h) hout, hcount.trans hbumped⟩

/-- Settles O31: the two ends of a live reduction, and the staging and installation of a tag by the device's state. -/
theorem instancesAndTags : Obligations.InstancesAndTags := by
  intro s tag step n v d i
  refine ⟨fun hfound hi hstep hdesc => ⟨fun hdone => ?_, fun hdone hop hroom =>
    completes_collTimeout hfound hdesc hi hstep hdone hop hroom⟩, fun hopen => ?_, fun hclosed => ?_⟩
  · have hexec : exec (.instanceClose tag step) s = .next (freeInst s i) := by
      rw [exec, execInstanceClose, hfound, hdesc]
      exact congrArg Host.Outcome.next (if_pos hdone)
    refine ⟨_, hexec, findInst_freeInst_same hi hstep, tget?_tdel_same _ _, rfl, fun t p h => findInst_freeInst_other ?_⟩
    rw [hi, hstep]
    exact h
  · intro sel
    refine ⟨fun hn hno => ?_, fun hfits => ?_⟩
    · refine ⟨stageTag s n v, congrArg Host.Outcome.next ?_, rfl⟩
      exact (if_pos ⟨hopen, hn⟩).trans (if_neg hno)
    · have hexec : exec .tagInstall s = .next ((s.withMangle (fun m => { m with staging := tdel m.staging sel })).withMangle
          (fun m => { m with
            desc := tset m.desc sel ((stagedTag s sel).put 0 31 31 1)
            eGPrev := tdel m.eGPrev (stagedTag s sel).tag })) :=
        congrArg Host.Outcome.next ((if_pos hopen).trans (if_pos hfits))
      exact ⟨_, hexec, tget?_tset_same _ _ _, tget?_tdel_same _ _, rfl, fun j hj => tget?_tset_other _ _ hj⟩
  · exact ⟨⟨s, congrArg Host.Outcome.next (if_neg (by simp [hclosed])), rfl⟩,
      ⟨s, congrArg Host.Outcome.next (if_neg (by simp [hclosed])), rfl⟩⟩

end Sys2Proof.Machine
end

section
/-! O28. Tiles that wait for a slot, where the opening of a slot ends in a hard fence. -/

open Sys2Proof
namespace Sys2Proof.Machine

/-- The descriptor of tag 9 (Table 2 of *Sharded training and the mangle*): a reduction of two tiles of four elements. -/
def tag9Reduce : TagDesc := ⟨[0x80200009#32, 0#32, 0x10001#32, 2#32, 4#32] ++ List.replicate 11 0#32⟩

/-- Tile 1 of step 7 for tag 9. -/
def tileOfTag9 : STile :=
  ⟨{ TileHdr.zero with fmt := 7, cols := 3, tag := 9, tile := 1, step := 7 }, List.replicate 64 1#8, [], []⟩

/-- Tag 9 live at step 5. -/
def instOfStep5 : Inst :=
  { tag := 9, step := 5, epoch := 0, eG := 0, slot := 0, ownTiles := [], ownBytes := [], ownRecs := [], ownLate := false
    ownAbsent := false, qcache := [], hops := [], delivered := [], outcomes := [], got := [], checked := false, began := false
    lostOut := false, tooBig := false }

/-- Two tiles wait for slots, that of step 5 is still there with two ledgers of step 4 behind it, no page lets
the mangle clear them, and the STEP queue holds 16 records. -/
def ledgersDenied : State :=
  { State.reset with
    dev := .running
    csr := [(O.mangleCtrl, 1#32)]
    power := { PowerSt.reset with doms := [(53, Dom.onDom)] }
    err := { ErrSt.reset with
      queues := [(3, List.replicate 16 ⟨0x9005, 3, 3, 1, 0, 0, 0, 1, 1, 0, 0, [0, 0, 0, 0], true⟩)] }
    mangle := { MangleSt.reset with
      desc := [(0, tag9Reduce)], insts := [instOfStep5], waitShip := [(0, tileOfTag9), (3, tileOfTag9)]
      ledger := [(ledgerKey 9 0, ⟨4, false, [], 0, 0#64, 0⟩), (ledgerKey 9 1, ⟨4, false, [], 0, 0#64, 0⟩)] }
    step := 7 }

/-- Refutes O28: opening the slot of the new step closes that of step 5, whose two ledgers may not be cleared (`ledgersDenied`); the
STEP queue being full, the first denial begins the fence and the second fences hard, so the tile behind no longer waits. -/
theorem not_tilesShipped : ¬ Obligations.TilesShipped := by
  intro h
  obtain ⟨-, hslot⟩ := h ledgersDenied 0 0 tileOfTag9 tag9Reduce
  obtain ⟨u, hexec, hwait, -⟩ := hslot [(3, tileOfTag9)] (by decide) (by decide) (by decide) (by decide) (by decide +kernel)
    (by decide) (by decide) (by decide) (by decide) (by decide) (by decide) (by decide)
  obtain ⟨v, hnext, hgone⟩ : ∃ v, exec .slotFreeOpen ledgersDenied = .next v ∧ v.mangle.waitShip = [] :=
    ⟨_, rfl, by decide +kernel⟩
  cases hexec.symm.trans hnext
  exact absurd (hwait.symm.trans hgone) (by decide)

end Sys2Proof.Machine
end

section
/-! Links: what a read of the link table returns, and O38, where a received frame goes. -/

open Sys2Proof
namespace Sys2Proof.Machine

theorem csrGet_bump_add (s : State) (o k : Nat) : csrGet (bump s o k) o = min (csrGet s o + k) 0xFFFFFFFF := by
  unfold bump
  rw [csrGet_csrPut_same, Nat.mod_eq_of_lt (by omega)]

/-! ### The link table -/

@[simp] theorem getLink_setLink_same (s : State) (n : Nat) (k : Link) : getLink (setLink s n k) n = k := tget_tset_same _ _
    _ _

theorem getLink_setLink_other (s : State) {n m : Nat} (k : Link) (h : m ≠ n) : getLink (setLink s n k) m = getLink s m :=
  tget_tset_other _ _ _ h

@[simp] theorem setLink_setLink (s : State) (n : Nat) (k l : Link) : setLink (setLink s n k) n l = setLink s n l := by
  unfold setLink
  rw [tset_tset]

/-- Whether a link is up is kept by a write that keeps the link's stage of life. -/
theorem linkUpNow_setLink {s : State} {n : Nat} {k : Link} (h : k.st = (getLink s n).st) (m : Nat) :
    linkUpNow (setLink s n k) m = linkUpNow s m := by
  unfold linkUpNow
  by_cases hm : m = n
  · subst hm
    rw [getLink_setLink_same, h]
  · rw [getLink_setLink_other s k hm]

/-! ### Where a frame goes -/

section
variable {s : State} {n vc : Nat} {f : LinkFrame} {rest : List (Nat × LinkFrame)}

theorem freeSlots_setLink (s : State) (n vc c : Nat) (k : Link) :
    freeSlots (setLink s n k) n vc c = setLink s n { k with freed := k.freed.set vc ((k.freed.getD vc 0 + c) % 65536) } :=
        by
  unfold freeSlots
  simp

theorem routeOf_congr {u : State} (hroutes : u.routes = s.routes) (d : Nat) : routeOf u d = routeOf s d := by
  unfold routeOf
  rw [hroutes]

theorem wayOf_congr {u : State} (hmend : u.mend = s.mend) (hroutes : u.routes = s.routes)
    (hup : ∀ m, linkUpNow u m = linkUpNow s m) (d : Nat) : wayOf u d = wayOf s d := by
  unfold wayOf selfRank
  rw [routeOf_congr hroutes]
  simp only [hup, hmend]

theorem frameForUs_congr {u : State} (hmend : u.mend = s.mend) (hroutes : u.routes = s.routes)
    (hup : ∀ m, linkUpNow u m = linkUpNow s m) (f : LinkFrame) : frameForUs u f = frameForUs s f := by
  unfold frameForUs
  simp only [routeOf_congr hroutes, hup, hmend]

theorem exec_frameRx (h : (getLink s n).rxq = (vc, f) :: rest) :
    exec (.frameRx n) s = .next (frameIn (setLink s n { getLink s n with rxq := rest }) n vc f) := by
  change execFrameRx n s = _
  unfold execFrameRx
  dsimp only
  rw [h]

theorem countDiscard_of_lt (s : State) (h : n < 24) : countDiscard s n = bump s (O.seamCntDiscard n) := if_pos h

theorem outsideErrlog_seam {o : Nat} (h : 0x80000 ≤ o) : outsideErrlog o := .inr (by omega)

/-- Settles O38: a received frame takes the one branch of `frameIn` that its class, address and time to live name. -/
theorem framesForwarded : Obligations.FramesForwarded := by
  unfold Obligations.FramesForwarded
  intro s n vc f rest k s1 freed hq
  have hexec := exec_frameRx hq
  have hfreed : freeSlots s1 n vc f.flits = freed := freeSlots_setLink s n vc f.flits _
  have hup : ∀ m, linkUpNow s1 m = linkUpNow s m := linkUpNow_setLink rfl
  have hus : frameForUs s1 f = frameForUs s f := frameForUs_congr (by rfl) (by rfl) hup f
  have hway : wayOf s1 f.dst = wayOf s f.dst := wayOf_congr (by rfl) (by rfl) hup f.dst
  refine ⟨fun hproto hvc hmine hclass => ?_, fun hproto hvc hmine htable httl => ?_, fun hn hproto hvc hmine htable httl =>
      ?_,
    fun hn hbad => ?_⟩
  · have hgood : ¬ (f.body.proto = 0 ∨ f.body.vc ≠ vc) := by simp [hproto, hvc]
    have hin : frameIn s1 n vc f = if reservedKind f.body then bump (freeSlots s1 n vc f.flits) O.groupCntBadFrame
        else deliverFrom s1 vc f (some n) := by
      unfold frameIn
      rw [if_neg hgood, hus, if_pos hmine, if_neg hclass]
    refine ⟨fun hkind => ⟨_, hexec, ?_⟩, fun hkind hmangle => ⟨_, hexec, ?_⟩, fun hkind hmangle => ⟨_, hexec, ?_⟩⟩
    · exact hin.trans (by rw [if_pos hkind, hfreed])
    · exact hin.trans (by rw [hkind, if_neg (by decide), deliverFrom, if_pos hmangle]; rfl)
    · exact hin.trans (by rw [hkind, if_neg (by decide), deliverFrom, if_neg hmangle, hfreed]; rfl)
  · refine ⟨_, hexec, ?_⟩
    dsimp only
    have hknown : s1.mend.table ≠ none := htable
    unfold frameIn
    rw [if_neg (by simp [hproto, hvc]), hus, hmine, if_neg (by decide), if_neg hknown, if_neg httl, hway]
  · have hin : frameIn s1 n vc f = raise (bump freed (O.seamCntDiscard n)) 0x5007 0 3 5 n := by
      have hknown : s1.mend.table ≠ none := htable
      unfold frameIn
      rw [if_neg (by simp [hproto, hvc]), hus, hmine, if_neg (by decide), if_neg hknown, if_pos httl, hfreed,
          countDiscard_of_lt _ hn]
    refine ⟨_, hexec, ?_⟩
    dsimp only
    rw [hin]
    obtain ⟨csr, err, hnote⟩ := raise_note_eq_with (bump freed (O.seamCntDiscard n)) 0x5007 3 5 n []
    refine ⟨by rw [hnote]; rfl, by rw [hnote]; rfl, fun hroom => queued_raise_note _ _ _ _ _ _ (.inl hroom), ?_⟩
    rw [csrGet_raise_note _ 3 5 n [] (by decide) (outsideErrlog_seam (by unfold O.seamCntDiscard; omega)), csrGet_bump_same]
    rfl
  · refine ⟨_, hexec, ?_⟩
    dsimp only
    unfold frameIn
    rw [if_pos hbad]
    exact (countDiscard_of_lt _ hn).trans (by rw [hfreed])

end
end Sys2Proof.Machine
end

section
/-! O41. Received Ethernet frames, priority flow control and the order of the egress queues. -/

open Sys2Proof
namespace Sys2Proof.Machine

variable {s : State} {p : Nat}

@[simp] theorem setPort_setPort (s : State) (p : Nat) (x y : Port) : setPort (setPort s p x) p y = setPort s p y := by
  unfold setPort
  rw [tset_tset]

theorem up_of_portUpNow (h : portUpNow s p = true) : (getPort s p).up = true := by
  unfold portUpNow at h
  exact (Bool.and_eq_true_iff.mp h).2

theorem present_of_portUpNow (h : portUpNow s p = true) : portPresent s p = true := by
  unfold portUpNow at h
  exact (Bool.and_eq_true_iff.mp h).1

theorem lt_of_portUpNow (h : portUpNow s p = true) : p < 8 := by
  have hpresent := present_of_portUpNow h
  unfold portPresent at hpresent
  exact of_decide_eq_true (Bool.and_eq_true_iff.mp hpresent).1

/-! ### Flow-control frames -/

/-- A flow-control frame of a port that is up leaves at once and is counted. -/
theorem sendPfc_of_up (h : (getPort s p).up = true) (q : Nat) (xoff : Bool) : sendPfc s p q xoff =
    bump (bump { s with out := .pfc p q xoff :: s.out, wire := (Emit.pfc p q xoff).ethFrames s ++ s.wire }
      (O.ethpTxFrames p)) (O.ethpPfcTx p) := by
  have hup : (tget s.ports p Port.reset).up = true := h
  unfold sendPfc State.emit
  simp only [Emit.ethFrames, List.foldl_cons, List.foldl_nil, toEgress, hup, Bool.true_eq_false, if_false, leave]
  rfl

theorem csrGet_sendPfc {o : Nat} (h : (getPort s p).up = true) (q : Nat) (xoff : Bool)
    (htx : o ≠ O.ethpTxFrames p) (hpfc : o ≠ O.ethpPfcTx p) : csrGet (sendPfc s p q xoff) o = csrGet s o := by
  rw [sendPfc_of_up h, csrGet_bump_other _ _ hpfc, csrGet_bump_other _ _ htx]
  rfl

theorem csrGet_ethpPfcTx_sendPfc (h : (getPort s p).up = true) (q : Nat) (xoff : Bool) :
    csrGet (sendPfc s p q xoff) (O.ethpPfcTx p) = min (csrGet s (O.ethpPfcTx p) + 1) 0xFFFFFFFF := by
  rw [sendPfc_of_up h, csrGet_bump_same, csrGet_bump_other _ _ (by unfold O.ethpPfcTx O.ethpTxFrames; omega)]
  rfl

/-! ### The fill of a queue, R466 -/

section
variable {q n : Nat}

theorem setFill_of_off (h : pfcOn s p q = false) : setFill s p q n =
    setPort s p { getPort s p with fill := tset (getPort s p).fill q n
                                   xoff := (getPort s p).xoff.filter (fun y => decide (y ≠ q)) } := by
  unfold setFill
  dsimp only
  rw [if_pos h, getPort_setPort_same, setPort_setPort]

theorem setFill_between (h : pfcOn s p q = true) (hlo : 131072 ≤ n) (hhi : n ≤ 196608 ∨ (getPort s p).xoff.contains q =
    true) :
    setFill s p q n = setPort s p { getPort s p with fill := tset (getPort s p).fill q n } := by
  unfold setFill
  dsimp only
  rw [if_neg (by rw [h]; decide), if_neg, if_neg (by omega)]
  rintro ⟨habove, hfree⟩
  rcases hhi with hhi | hhi
  · omega
  · rw [hfree] at hhi
    exact absurd hhi (by decide)

theorem setFill_above (h : pfcOn s p q = true) (hn : 196608 < n) (hfree : (getPort s p).xoff.contains q = false) :
    setFill s p q n = sendPfc (setPort s p { getPort s p with fill := tset (getPort s p).fill q n
                                                              xoff := (getPort s p).xoff ++ [q] }) p q true := by
  unfold setFill
  dsimp only
  rw [if_neg (by rw [h]; decide), if_pos ⟨hn, hfree⟩, getPort_setPort_same, setPort_setPort]

theorem setFill_below (h : pfcOn s p q = true) (hn : n < 131072) (hsent : (getPort s p).xoff.contains q = true)
    (hlevel : s.power.level = 0) :
    setFill s p q n = sendPfc (setPort s p { getPort s p with fill := tset (getPort s p).fill q n
                                                              xoff := (getPort s p).xoff.erase q }) p q false := by
  unfold setFill
  dsimp only
  rw [if_neg (by rw [h]; decide), if_neg (by omega), if_pos ⟨hn, hsent, .inl hlevel⟩, getPort_setPort_same, setPort_setPort]

end

/-! ### Received frames -/

section
variable {f : EthFrame}

/-- A count of a port leaves what decides on a frame. -/
theorem csrGet_of_ne_rxFrames (s : State) {o : Nat} (h : o ≠ O.ethpRxFrames p) :
    csrGet (bump s (O.ethpRxFrames p)) o = csrGet s o := csrGet_bump_other _ _ h

theorem acceptsTags_rxFrames (s : State) (p : Nat) (vids : List Nat) :
    acceptsTags (bump s (O.ethpRxFrames p)) p vids = acceptsTags s p vids := by
  unfold acceptsTags csrBits
  rw [csrGet_of_ne_rxFrames s (by unfold O.ethpVlan O.ethpRxFrames; omega)]

theorem framePcp_rxFrames (s : State) (p : Nat) (f : EthFrame) : framePcp (bump s (O.ethpRxFrames p)) p f = framePcp s p f
    := by
  unfold framePcp csrBits
  rw [csrGet_of_ne_rxFrames s (by unfold O.ethpVlan O.ethpRxFrames; omega)]

theorem queueOf_rxFrames (s : State) (p k : Nat) : queueOf (bump s (O.ethpRxFrames p)) p k = queueOf s p k := by
  unfold queueOf csrBits
  rw [csrGet_of_ne_rxFrames s (by unfold O.ethpPcpMap O.ethpRxFrames; omega)]

theorem pfcOn_congr {u : State} (h : csrGet u (O.ethpPfc p) = csrGet s (O.ethpPfc p)) (q : Nat) : pfcOn u p q = pfcOn s p q
    := by
  unfold pfcOn csrBit csrBits
  rw [h]

theorem pfcOn_rxFrames (s : State) (p q : Nat) : pfcOn (bump s (O.ethpRxFrames p)) p q = pfcOn s p q :=
  pfcOn_congr (csrGet_of_ne_rxFrames s (by unfold O.ethpPfc O.ethpRxFrames; omega)) q

/-- What a frame passes on: all but flow-control counts, by which the later tests are decided. -/
structure KeepsTests (p : Nat) (s u : State) : Prop where
  csr : ∀ o, o ≠ O.ethpRxFrames p → o ≠ O.ethpTxFrames p → o ≠ O.ethpPfcTx p → csrGet u o = csrGet s o

theorem keepsTests_rxFrames (s : State) (p : Nat) : KeepsTests p s (bump s (O.ethpRxFrames p)) :=
  ⟨fun _ h _ _ => csrGet_bump_other _ _ h⟩

theorem KeepsTests.misqueued {u : State} (h : KeepsTests p s u) (hp : p < 8) (q : Nat) (f : EthFrame) :
    misqueued u q f = misqueued s q f := by
  unfold Machine.misqueued csrBits
  rw [h.csr O.ethScorePort (by unfold O.ethScorePort O.ethpRxFrames; omega) (by unfold O.ethScorePort O.ethpTxFrames; omega)
    (by unfold O.ethScorePort O.ethpPfcTx; omega)]

theorem KeepsTests.droppedByIp {u : State} (h : KeepsTests p s u) (f : EthFrame) : droppedByIp u p f = droppedByIp s p f :=
    by
  have hscore := h.csr O.ethScorePort (by unfold O.ethScorePort O.ethpRxFrames; omega)
    (by unfold O.ethScorePort O.ethpTxFrames; omega) (by unfold O.ethScorePort O.ethpPfcTx; omega)
  have hwcp := h.csr O.ethWcpPort (by unfold O.ethWcpPort O.ethpRxFrames; omega)
      (by unfold O.ethWcpPort O.ethpTxFrames; omega)
    (by unfold O.ethWcpPort O.ethpPfcTx; omega)
  have haddr := h.csr (O.ethpIpv4Addr p) (by unfold O.ethpIpv4Addr O.ethpRxFrames; omega)
    (by unfold O.ethpIpv4Addr O.ethpTxFrames; omega) (by unfold O.ethpIpv4Addr O.ethpPfcTx; omega)
  have hglobal : global6 u p = global6 s p := by
    unfold global6
    refine congrArg List.sum (List.map_congr_left fun i hi => ?_)
    have hlt := List.mem_range.mp hi
    rw [h.csr (O.ethpIpv6G p i) (by unfold O.ethpIpv6G O.ethpRxFrames; omega) (by unfold O.ethpIpv6G O.ethpTxFrames; omega)
      (by unfold O.ethpIpv6G O.ethpPfcTx; omega)]
  unfold Machine.droppedByIp forPort ownAddress csrBits
  rw [hscore, hwcp, haddr, hglobal]

/-- A good frame that fits its queue changes what `setFill` changes, and is counted. -/
theorem exec_ethFrameRx_good (hup : portUpNow s p = true) (hlen : f.len ≤ 9216) (hfcs : f.fcsOk = true)
    (htags : acceptsTags s p f.vids = true) {q : Nat} (hq : queueOf s p (framePcp s p f) = q)
    (hroom : q ≠ 0 ∨ f.fill + f.len ≤ 262144)
    {u : State} (hfill : setFill (bump s (O.ethpRxFrames p)) p q (f.fill + f.len) = u) (hkeeps : KeepsTests p s u)
    (hmis : misqueued s q f = false) (hip : droppedByIp s p f = false) : exec (.ethFrameRx p f) s = .next u := by
  change execEthFrameRx p f s = _
  unfold execEthFrameRx
  dsimp only
  rw [hup, if_neg (by decide), if_neg (by rw [hfcs]; simp; omega), acceptsTags_rxFrames, htags, if_neg (by decide),
      framePcp_rxFrames,
    queueOf_rxFrames, hq, if_neg (by omega), hfill, hkeeps.misqueued (lt_of_portUpNow hup), hmis, if_neg (by decide),
    hkeeps.droppedByIp, hip, if_neg (by decide)]

theorem exec_pfcRefresh (hup : portUpNow s p = true) {k m : Nat} (hk : k < 8) : exec (.pfcRefresh p k m) s =
    .next (if pfcOn s p k ∧ (getPort s p).xoff.contains k ∧ (getPort (setFill s p k m) p).xoff.contains k then
      sendPfc (setFill s p k m) p k true else setFill s p k m) := by
  change execPfcRefresh p k m s = _
  unfold execPfcRefresh
  dsimp only
  rw [hup, if_neg (by simp; omega)]

end

/-! ### Egress queues -/

@[simp] theorem getEgress_setEgress_same (s : State) (p q : Nat) (l : List EthOut) : getEgress (setEgress s p q l) p q = l
    :=
  tget_tset_same _ _ _ _

theorem getEgress_setEgress_other (s : State) (p : Nat) {q k : Nat} (l : List EthOut) (h : k ≠ q) :
    getEgress (setEgress s p q l) p k = getEgress s p k := tget_tset_other _ _ _ (by omega)

/-- The queues before Q4 to Q7, in the order of their turn. -/
theorem turn_of_pair (last : Nat) : [2, 3].filter (fun q => decide (last < q)) ++ [2, 3].filter (fun q => decide (q ≤ last))
    =
    if last = 2 then [3, 2] else [2, 3] := by
  rcases Nat.lt_or_ge last 2 with h | h
  · simp [show last < 2 by omega, show last < 3 by omega, show ¬ 2 ≤ last by omega, show ¬ 3 ≤ last by omega, show last ≠ 2
        by omega]
  · rcases Nat.lt_or_ge last 3 with h3 | h3
    · obtain rfl : last = 2 := by omega
      decide
    · simp [show ¬ last < 2 by omega, show ¬ last < 3 by omega, h, h3, show last ≠ 2 by omega]

/-- The bulk queues follow the one served last, in a ring. -/
theorem turn_of_four {t : Nat} (h4 : 4 ≤ t) (h8 : t < 8) :
    [4, 5, 6, 7].filter (fun q => decide (t < q)) ++ [4, 5, 6, 7].filter (fun q => decide (q ≤ t)) =
      (List.range' 1 4).map (fun k => 4 + (t + k) % 4) := by
  interval_cases t <;> decide

theorem find?_ring {r : Nat → Bool} {t j : Nat} (hlo : 1 ≤ j) (hhi : j ≤ 4) (hready : r (4 + (t + j) % 4) = true)
    (hbefore : ∀ k, 1 ≤ k → k < j → r (4 + (t + k) % 4) = false) :
    ((List.range' 1 4).map (fun k => 4 + (t + k) % 4)).find? r = some (4 + (t + j) % 4) := by
  interval_cases j
  · simp [List.range', hready]
  · simp [List.range', hready, hbefore 1 (by decide) (by decide)]
  · simp [List.range', hready, hbefore 1 (by decide) (by decide), hbefore 2 (by decide) (by decide)]
  · have hlast : r (4 + t % 4) = true := by simpa using hready
    simp [List.range', hlast, hbefore 1 (by decide) (by decide), hbefore 2 (by decide) (by decide),
      hbefore 3 (by decide) (by decide)]

/-- The order of R465, with Q2 and Q3 in turn. -/
theorem nextEgress_eq (s : State) (p : Nat) : nextEgress s p =
    ([0, 1] ++ (if tget s.egressTurn (2 * p) 3 = 2 then [3, 2] else [2, 3]) ++
      ([4, 5, 6, 7].filter (fun q => decide (tget s.egressTurn (2 * p + 1) 7 < q)) ++
        [4, 5, 6, 7].filter (fun q => decide (q ≤ tget s.egressTurn (2 * p + 1) 7)))).find? (egressReady s p) := by
  rw [← turn_of_pair]
  rfl

/-- With the first four queues unready, the ring of Q4 to Q7 decides. -/
theorem nextEgress_of_low_unready (h0 : egressReady s p 0 = false) (h1 : egressReady s p 1 = false)
    (h2 : egressReady s p 2 = false) (h3 : egressReady s p 3 = false) : nextEgress s p =
    ([4, 5, 6, 7].filter (fun q => decide (tget s.egressTurn (2 * p + 1) 7 < q)) ++
      [4, 5, 6, 7].filter (fun q => decide (q ≤ tget s.egressTurn (2 * p + 1) 7))).find? (egressReady s p) := by
  rw [nextEgress_eq]
  split <;> simp [h0, h1, h2, h3]

theorem egress_inOrder (s : State) (p : Nat) :
    let r (q : Nat) : Bool := egressReady s p q
    (r 0 = true → nextEgress s p = some 0) ∧
    (r 0 = false → r 1 = true → nextEgress s p = some 1) ∧
    (r 0 = false → r 1 = false →
      (r 2 = true → r 3 = true → nextEgress s p = some (if tget s.egressTurn (2 * p) 3 = 2 then 3 else 2)) ∧
      (r 2 = true → r 3 = false → nextEgress s p = some 2) ∧ (r 2 = false → r 3 = true → nextEgress s p = some 3) ∧
      (r 2 = false → r 3 = false → (∀ q, q < 8 → r q = false) → nextEgress s p = none) ∧
      (r 2 = false → r 3 = false → ∀ q t, tget s.egressTurn (2 * p + 1) 7 = t → 4 ≤ t → t < 8 → 4 ≤ q → q < 8 → r q = true →
        (∀ k, 1 ≤ k → k < (q + 3 - t) % 4 + 1 → r (4 + (t + k) % 4) = false) → nextEgress s p = some q)) := by
  intro r
  refine ⟨fun h0 => ?_, fun h0 h1 => ?_, fun h0 h1 => ⟨fun h2 h3 => ?_, fun h2 h3 => ?_, fun h2 h3 => ?_, fun h2 h3 hnone =>
      ?_,
    fun h2 h3 q t hlast h4 h8 hq4 hq8 hready hbefore => ?_⟩⟩
  · rw [nextEgress_eq]
    simp [show egressReady s p 0 = true from h0]
  · rw [nextEgress_eq]
    simp [show egressReady s p 0 = false from h0, show egressReady s p 1 = true from h1]
  · rw [nextEgress_eq]
    split <;> simp [show egressReady s p 0 = false from h0, show egressReady s p 1 = false from h1,
      show egressReady s p 2 = true from h2, show egressReady s p 3 = true from h3]
  · rw [nextEgress_eq]
    split <;> simp [show egressReady s p 0 = false from h0, show egressReady s p 1 = false from h1,
      show egressReady s p 2 = true from h2, show egressReady s p 3 = false from h3]
  · rw [nextEgress_eq]
    split <;> simp [show egressReady s p 0 = false from h0, show egressReady s p 1 = false from h1,
      show egressReady s p 2 = false from h2, show egressReady s p 3 = true from h3]
  · rw [nextEgress_of_low_unready h0 h1 h2 h3, List.find?_eq_none]
    intro q hq
    simp only [List.mem_append, List.mem_filter, List.mem_cons, List.not_mem_nil, or_false] at hq
    have hunready : egressReady s p q = false := hnone q (by omega)
    rw [hunready]
    decide
  · have hpos : q = 4 + (t + ((q + 3 - t) % 4 + 1)) % 4 := by omega
    rw [nextEgress_of_low_unready h0 h1 h2 h3, hlast, turn_of_four h4 h8]
    rw [hpos] at hready
    exact (find?_ring (by omega) (by omega) hready hbefore).trans (congrArg some hpos.symm)

theorem serveEgress_eq {q : Nat} {e : EthOut} {rest : List EthOut} (hup : portUpNow s p = true)
    (hnext : nextEgress s p = some q)
    (hqueue : getEgress s p q = e :: rest) : serveEgress s p =
    leave (if q < 2 then setEgress s p q rest else { setEgress s p q rest with
      egressTurn := tset s.egressTurn (2 * p + b2n (decide (4 ≤ q))) q }) e := by
  unfold serveEgress
  rw [hup, if_neg (by decide)]
  simp only [hnext, hqueue]
  rfl

theorem egress_served {q : Nat} {e : EthOut} {rest : List EthOut} (hup : portUpNow s p = true)
    (hnext : nextEgress s p = some q)
    (hqueue : getEgress s p q = e :: rest) :
    let u := serveEgress s p
    u.wire = e :: s.wire ∧ getEgress u p q = rest ∧ u.out = s.out ∧ u.mem = s.mem ∧
      (∀ k, k ≠ q → k < 8 → getEgress u p k = getEgress s p k) ∧
      (q = 2 ∨ q = 3 → tget u.egressTurn (2 * p) 3 = q) ∧ (4 ≤ q → tget u.egressTurn (2 * p + 1) 7 = q) := by
  intro u
  have hu : u = _ := serveEgress_eq hup hnext hqueue
  obtain ⟨v, hv⟩ : ∃ v, v = (if q < 2 then setEgress s p q rest else { setEgress s p q rest with
      egressTurn := tset s.egressTurn (2 * p + b2n (decide (4 ≤ q))) q }) := ⟨_, rfl⟩
  rw [← hv] at hu
  have hegress : v.egress = (setEgress s p q rest).egress := by rw [hv]; split <;> rfl
  have hrest : v.wire = s.wire ∧ v.out = s.out ∧ v.mem = s.mem := by rw [hv]; split <;> exact ⟨rfl, rfl, rfl⟩
  obtain ⟨hwire, hout, hmem⟩ := hrest
  have hget : ∀ k, getEgress u p k = getEgress (setEgress s p q rest) p k := fun k => by
    rw [hu]
    exact congrArg (fun t => tget t (8 * p + k) []) hegress
  have hturn : 2 ≤ q → u.egressTurn = tset s.egressTurn (2 * p + b2n (decide (4 ≤ q))) q := fun h2 => by
    rw [hu, hv, if_neg (by omega)]
    rfl
  refine ⟨by rw [hu]; exact congrArg (e :: ·) hwire, by rw [hget, getEgress_setEgress_same], by rw [hu]; exact hout,
    by rw [hu]; exact hmem, fun k hk _ => by rw [hget, getEgress_setEgress_other _ _ _ hk], fun hpair => ?_, fun hbulk =>
        ?_⟩
  · rw [hturn (by omega), show decide (4 ≤ q) = false from decide_eq_false (by omega)]
    exact tget_tset_same _ _ _ _
  · rw [hturn (by omega), decide_eq_true hbulk]
    exact tget_tset_same _ _ _ _

theorem keepsTests_setPort {u : State} (h : KeepsTests p s u) (x : Port) : KeepsTests p s (setPort u p x) :=
  ⟨fun o h1 h2 h3 => h.csr o h1 h2 h3⟩

theorem keepsTests_sendPfc {u : State} (h : KeepsTests p s u) (hup : (getPort u p).up = true) (q : Nat) (b : Bool) :
    KeepsTests p s (sendPfc u p q b) :=
  ⟨fun o h1 h2 h3 => (csrGet_sendPfc hup q b h2 h3).trans (h.csr o h1 h2 h3)⟩

theorem pfc_ethFrames_congr {u : State} (h : csrGet u (O.ethpVlan p) = csrGet s (O.ethpVlan p)) (q : Nat) (b : Bool) :
    (Emit.pfc p q b).ethFrames u = (Emit.pfc p q b).ethFrames s := by
  simp only [Emit.ethFrames, Emit.pcp, egressVid, csrBits, h]

theorem frames_received (s : State) (p : Nat) (f : EthFrame) :
    let x := getPort s p
    let q := queueOf s p (framePcp s p f)
    let n := f.fill + f.len
    let got (u : State) : Prop := csrGet u (O.ethpRxFrames p) = min (csrGet s (O.ethpRxFrames p) + 1) 0xFFFFFFFF
    portUpNow s p = true →
    f.len ≤ 9216 → f.fcsOk = true → acceptsTags s p f.vids = true → misqueued s q f = false → droppedByIp s p f = false →
      (pfcOn s p q = false → (q ≠ 0 ∨ n ≤ 262144) → completes (.ethFrameRx p f) s (fun u => got u ∧
        u = { s with csr := u.csr, ports := u.ports } ∧
        getPort u p = { x with fill := tset x.fill q n, xoff := x.xoff.filter (fun y => decide (y ≠ q)) })) ∧
      (pfcOn s p q = true → 131072 ≤ n → n ≤ 196608 → completes (.ethFrameRx p f) s (fun u => got u ∧
        u = { s with csr := u.csr, ports := u.ports } ∧ getPort u p = { x with fill := tset x.fill q n })) ∧
      (pfcOn s p q = true → 196608 < n → x.xoff.contains q = false → completes (.ethFrameRx p f) s (fun u => got u ∧
        u.out = .pfc p q true :: s.out ∧ u.wire = (Emit.pfc p q true).ethFrames s ++ s.wire ∧
        getPort u p = { x with fill := tset x.fill q n, xoff := x.xoff ++ [q] })) := by
  intro x q n got hup hlen hfcs htags hmis hip
  have hbump := keepsTests_rxFrames s p
  have hcount : got (bump s (O.ethpRxFrames p)) := csrGet_bump_same _ _
  have hon : pfcOn s p q = true → q ≠ 0 := by
    intro h hzero
    rw [hzero] at h
    exact absurd h (by simp [pfcOn])
  refine ⟨fun hoff hroom => ?_, fun hpfc hlo hhi => ?_, fun hpfc habove hfree => ?_⟩
  · have hfill := setFill_of_off (s := bump s (O.ethpRxFrames p)) (n := n) ((pfcOn_rxFrames s p q).trans hoff)
    exact ⟨_, exec_ethFrameRx_good hup hlen hfcs htags rfl hroom hfill (keepsTests_setPort hbump _) hmis hip, hcount, rfl,
      getPort_setPort_same _ _ _⟩
  · have hfill := setFill_between (s := bump s (O.ethpRxFrames p)) ((pfcOn_rxFrames s p q).trans hpfc) hlo (.inl hhi)
    exact ⟨_, exec_ethFrameRx_good hup hlen hfcs htags rfl (.inl (hon hpfc)) hfill (keepsTests_setPort hbump _) hmis hip,
        hcount, rfl,
      getPort_setPort_same _ _ _⟩
  · have hfill := setFill_above (s := bump s (O.ethpRxFrames p)) ((pfcOn_rxFrames s p q).trans hpfc) habove hfree
    obtain ⟨v, hv⟩ : ∃ v, v = setPort (bump s (O.ethpRxFrames p)) p { getPort (bump s (O.ethpRxFrames p)) p with
        fill := tset (getPort (bump s (O.ethpRxFrames p)) p).fill q n
        xoff := (getPort (bump s (O.ethpRxFrames p)) p).xoff ++ [q] } := ⟨_, rfl⟩
    rw [← hv] at hfill
    have hport : getPort v p = { x with fill := tset x.fill q n, xoff := x.xoff ++ [q] } := by
      rw [hv]
      exact getPort_setPort_same _ _ _
    have hvup : (getPort v p).up = true := by
      rw [hport]
      exact up_of_portUpNow hup
    have hkeeps : KeepsTests p s v := by
      rw [hv]
      exact keepsTests_setPort hbump _
    have hsent := sendPfc_of_up hvup q true
    have hvlan : csrGet v (O.ethpVlan p) = csrGet s (O.ethpVlan p) := hkeeps.csr _
        (by unfold O.ethpVlan O.ethpRxFrames; omega)
      (by unfold O.ethpVlan O.ethpTxFrames; omega) (by unfold O.ethpVlan O.ethpPfcTx; omega)
    refine ⟨_, exec_ethFrameRx_good hup hlen hfcs htags rfl (.inl (hon hpfc)) hfill (keepsTests_sendPfc hkeeps hvup q true)
        hmis hip,
      ?_, ?_, ?_, ?_⟩
    · refine (csrGet_sendPfc hvup q true (by unfold O.ethpRxFrames O.ethpTxFrames; omega)
        (by unfold O.ethpRxFrames O.ethpPfcTx; omega)).trans ?_
      rw [hv]
      exact hcount
    · rw [hsent, hv]
      rfl
    · rw [hsent]
      change (Emit.pfc p q true).ethFrames v ++ v.wire = _
      rw [pfc_ethFrames_congr hvlan, hv]
      rfl
    · rw [hsent]
      exact hport

theorem pfc_refreshes (s : State) (p k m : Nat) (hup : portUpNow s p = true) (hk : k < 8) :
    let x := getPort s p
    (pfcOn s p k = true → x.xoff.contains k = true → 131072 ≤ m → completes (.pfcRefresh p k m) s (fun u =>
      u.out = .pfc p k true :: s.out ∧ u.wire = (Emit.pfc p k true).ethFrames s ++ s.wire ∧
      getPort u p = { x with fill := tset x.fill k m } ∧
      csrGet u (O.ethpPfcTx p) = min (csrGet s (O.ethpPfcTx p) + 1) 0xFFFFFFFF)) ∧
    (pfcOn s p k = true → x.xoff.contains k = true → x.xoff.Nodup → s.power.level = 0 → m < 131072 →
      completes (.pfcRefresh p k m) s (fun u =>
        u.out = .pfc p k false :: s.out ∧ u.wire = (Emit.pfc p k false).ethFrames s ++ s.wire ∧
        getPort u p = { x with fill := tset x.fill k m, xoff := x.xoff.erase k })) ∧
    (pfcOn s p k = false → completes (.pfcRefresh p k m) s (fun u =>
      u = setPort s p { x with fill := tset x.fill k m, xoff := x.xoff.filter (fun y => decide (y ≠ k)) })) := by
  intro x
  have hxup : x.up = true := up_of_portUpNow hup
  have hexec := exec_pfcRefresh hup (m := m) hk
  refine ⟨fun hpfc hsent hlo => ?_, fun hpfc hsent hnodup hlevel hlow => ?_, fun hoff => ?_⟩
  · have hfill := setFill_between hpfc hlo (.inr hsent)
    obtain ⟨v, hv⟩ : ∃ v, v = setPort s p { x with fill := tset x.fill k m } := ⟨_, rfl⟩
    have hport : getPort v p = { x with fill := tset x.fill k m } := by
      rw [hv]
      exact getPort_setPort_same _ _ _
    have hvup : (getPort v p).up = true := by rw [hport]; exact hxup
    have hframes : (Emit.pfc p k true).ethFrames v = (Emit.pfc p k true).ethFrames s := pfc_ethFrames_congr
        (by rw [hv]; rfl) k true
    rw [hfill, ← hv, if_pos ⟨hpfc, hsent, by rw [hport]; exact hsent⟩] at hexec
    refine ⟨_, hexec, ?_, ?_, ?_, ?_⟩
    · rw [sendPfc_of_up hvup, hv]
      rfl
    · rw [sendPfc_of_up hvup]
      change (Emit.pfc p k true).ethFrames v ++ v.wire = _
      rw [hframes, hv]
      rfl
    · rw [sendPfc_of_up hvup]
      exact hport
    · rw [csrGet_ethpPfcTx_sendPfc hvup, hv]
      rfl
  · have hfill := setFill_below hpfc hlow hsent hlevel
    obtain ⟨v, hv⟩ : ∃ v, v = setPort s p { x with fill := tset x.fill k m, xoff := x.xoff.erase k } := ⟨_, rfl⟩
    have hport : getPort v p = { x with fill := tset x.fill k m, xoff := x.xoff.erase k } := by
      rw [hv]
      exact getPort_setPort_same _ _ _
    have hvup : (getPort v p).up = true := by rw [hport]; exact hxup
    have hframes : (Emit.pfc p k false).ethFrames v = (Emit.pfc p k false).ethFrames s := pfc_ethFrames_congr
        (by rw [hv]; rfl) k false
    have hsentPort : getPort (sendPfc v p k false) p = getPort v p := by rw [sendPfc_of_up hvup]; rfl
    have hgone : ¬ (x.xoff.erase k).contains k = true := by simp [hnodup.mem_erase_iff]
    rw [hfill, ← hv, if_neg (by rw [hsentPort, hport]; exact fun h => hgone h.2.2)] at hexec
    refine ⟨_, hexec, ?_, ?_, hsentPort.trans hport⟩
    · rw [sendPfc_of_up hvup, hv]
      rfl
    · rw [sendPfc_of_up hvup]
      change (Emit.pfc p k false).ethFrames v ++ v.wire = _
      rw [hframes, hv]
      rfl
  · rw [setFill_of_off hoff, if_neg (by rw [hoff]; simp)] at hexec
    exact ⟨_, hexec, rfl⟩

/-- Settles O41: a good frame takes the case of `setFill` that its queue's fill names, and the order of egress is the
ring of `nextEgress`. -/
theorem framesReceived : Obligations.FramesReceived := by
  unfold Obligations.FramesReceived
  refine ⟨fun s p f => ?_, fun s p => ?_⟩
  · intro x q n got hup
    refine ⟨fun hlen hfcs htags hmis hip => frames_received s p f hup hlen hfcs htags hmis hip, fun hbad => ?_,
      fun hlen hfcs htags => ?_, fun k m hk => (pfc_refreshes s p k m hup hk).1, fun k m hk =>
          (pfc_refreshes s p k m hup hk).2.1,
      fun k m hk => (pfc_refreshes s p k m hup hk).2.2, fun ks => ?_, fun k hheld => ?_⟩
    · refine ⟨_, rfl, ?_⟩
      dsimp only
      rw [hup, if_neg (by decide), if_pos hbad]
    · refine ⟨_, rfl, ?_⟩
      dsimp only
      rw [hup, if_neg (by decide), if_neg (by rw [hfcs]; simp; omega), acceptsTags_rxFrames, if_pos htags]
    · obtain ⟨v, hv⟩ : ∃ v, v = bump (bump s (O.ethpRxFrames p)) (O.ethpPfcRx p) := ⟨_, rfl⟩
      have hcount : got v := by
        rw [hv]
        exact (csrGet_bump_other _ _ (by unfold O.ethpRxFrames O.ethpPfcRx; omega)).trans (csrGet_bump_same _ _)
      have hpfc : ∀ k, pfcOn v p k = pfcOn s p k := fun k => pfcOn_congr (by
        rw [hv, csrGet_bump_other _ _ (by unfold O.ethpPfc O.ethpPfcRx; omega),
          csrGet_bump_other _ _ (by unfold O.ethpPfc O.ethpRxFrames; omega)]) k
      have hport : getPort v p = x := by rw [hv]; rfl
      have hexec : exec (.pfcFrameRx p ks) s = .next (setPort v p { x with
          held := x.held ++ (ks.filter (fun q => decide (q < 8) && pfcOn v p q && !x.held.contains q)).dedup }) := by
        change execPfcFrameRx p ks s = _
        unfold execPfcFrameRx
        rw [hup, if_neg (by decide), ← hv]
        dsimp only
        rw [hport]
      refine ⟨_, hexec, hcount, by rw [hv]; rfl, fun k => ?_⟩
      rw [getPort_setPort_same]
      simp only [List.mem_append, List.mem_dedup, List.mem_filter, hpfc, Bool.and_eq_true, decide_eq_true_eq,
          Bool.not_eq_true',
        List.contains_eq_mem, decide_eq_false_iff_not]
      tauto
    · refine ⟨_, rfl, ?_⟩
      dsimp only
      rw [if_pos hheld]
  · intro r
    obtain ⟨h0, h1, hrest⟩ := egress_inOrder s p
    exact ⟨h0, h1, hrest, fun q e rest hup hnext hqueue => egress_served hup hnext hqueue⟩

end Sys2Proof.Machine
end

section
/-! O40. Ports go up and down, and the messages of R470 to R472. -/

open Sys2Proof
namespace Sys2Proof.Machine

variable {s : State} {p : Nat}

/-! ### A message joins the queue of PCP 0 -/

theorem toEgress_of_up {e : EthOut} (hport : e.port = p) (hup : (getPort s p).up = true)
    (hpfc : ∀ a b c, e.e ≠ .pfc a b c) (hresult : ∀ a b, e.e ≠ .result a b) :
    toEgress s e = setEgress s p (queueOf s p e.pcp) (getEgress s p (queueOf s p e.pcp) ++ [e]) := by
  subst hport
  have hport : (tget s.ports e.port Port.reset).up = true := hup
  unfold toEgress
  simp only [hport, Bool.true_eq_false, if_false]
  rfl

/-- What a message of the address protocols is: one frame of its port, with PCP 0. -/
def isAddressMessage (p : Nat) (m : Emit) : Prop :=
  (∃ a b, m = .neighbour p a b) ∨ (∃ a bs, m = .echo p a bs) ∨ ∃ k c l, m = .dhcp p k c l

theorem ethFrames_of_isAddressMessage {m : Emit} (h : isAddressMessage p m) (s : State) :
    ∃ fr, m.ethFrames s = [fr] ∧ fr.port = p ∧ fr.pcp = 0 ∧ fr.e = m := by
  rcases h with ⟨a, b, rfl⟩ | ⟨a, bs, rfl⟩ | ⟨k, c, l, rfl⟩ <;> exact ⟨_, rfl, rfl, rfl, rfl⟩

theorem emit_of_isAddressMessage {m : Emit} (h : isAddressMessage p m) (hup : (getPort s p).up = true) :
    s.emit m = setEgress { s with out := m :: s.out } p (queueOf s p 0) (getEgress s p (queueOf s p 0) ++ m.ethFrames s) :=
        by
  obtain ⟨fr, hframes, hport, hpcp, hfr⟩ := ethFrames_of_isAddressMessage h s
  have hpfc : ∀ a b c, m ≠ .pfc a b c := by
    rcases h with ⟨_, _, rfl⟩ | ⟨_, _, rfl⟩ | ⟨_, _, _, rfl⟩ <;> exact fun _ _ _ hm => Emit.noConfusion hm
  have hresult : ∀ a b, m ≠ .result a b := by
    rcases h with ⟨_, _, rfl⟩ | ⟨_, _, rfl⟩ | ⟨_, _, _, rfl⟩ <;> exact fun _ _ hm => Emit.noConfusion hm
  have hone := toEgress_of_up (s := { s with out := m :: s.out }) hport hup (by rw [hfr]; exact hpfc)
      (by rw [hfr]; exact hresult)
  rw [hpcp] at hone
  unfold State.emit
  rw [hframes]
  exact hone

theorem ethFrames_congr_of_isAddressMessage {m : Emit} (h : isAddressMessage p m) {u : State} (hcsr : u.csr = s.csr) :
    m.ethFrames u = m.ethFrames s := by
  have hvid : egressVid u p = egressVid s p := by
    unfold egressVid csrBits csrGet
    rw [hcsr]
  rcases h with ⟨_, _, rfl⟩ | ⟨_, _, rfl⟩ | ⟨_, _, _, rfl⟩ <;>
    · simp only [Emit.ethFrames, hvid]
      rfl

/-- Sending a message of the address protocols changes what was sent and the queue of PCP 0. -/
theorem sends_address {m : Emit} (h : isAddressMessage p m) {v : State} (hv : v = { s with ports := v.ports })
    (hup : (getPort v p).up = true) :
    let u := v.emit m
    let q := queueOf s p 0
    (u.out = m :: s.out ∧ getEgress u p q = getEgress s p q ++ m.ethFrames s ∧ u.wire = s.wire ∧
      u = { s with ports := u.ports, out := u.out, egress := u.egress }) ∧ u.ports = v.ports := by
  intro u q
  have hu : u = _ := emit_of_isAddressMessage h hup
  have hcsr : v.csr = s.csr := by rw [hv]
  have hq : queueOf v p 0 = q := by
    unfold q queueOf csrBits csrGet
    rw [hcsr]
  have hqueue : getEgress v p q = getEgress s p q := by
    rw [hv]
    rfl
  rw [hq, ethFrames_congr_of_isAddressMessage h hcsr, hqueue] at hu
  refine ⟨⟨?_, ?_, ?_, ?_⟩, by rw [hu]; rfl⟩
  · rw [hu, hv]
    rfl
  · rw [hu, getEgress_setEgress_same]
  · rw [hu, hv]
    rfl
  · rw [hu, hv]
    rfl

/-! ### Ports -/

theorem raise_note_frame (s : State) (code cls srcKind src : Nat) (info : List Nat) :
    (raise s code 0 cls srcKind src info).out = s.out ∧ (raise s code 0 cls srcKind src info).mem = s.mem ∧
      (raise s code 0 cls srcKind src info).egress = s.egress ∧ (raise s code 0 cls srcKind src info).ports = s.ports := by
  obtain ⟨_, _, h⟩ := raise_note_eq_with s code cls srcKind src info
  rw [h]
  exact ⟨rfl, rfl, rfl, rfl⟩

theorem emit_err (s : State) (m : Emit) : (s.emit m).err = s.err := by
  obtain ⟨_, _, _, h⟩ := emit_eq_with s m
  rw [h]

theorem emit_out (s : State) (m : Emit) : (s.emit m).out = m :: s.out := by
  obtain ⟨_, _, _, h⟩ := emit_eq_with s m
  rw [h]

theorem portLinkUp_completes (s : State) (p : Nat) :
    let x := getPort s p
    portPresent s p = true → portRuns s p = true → s.dev ≠ .boot → x.up = false → completes (.portLinkUp p) s (fun u =>
      getPort u p = { x with up := true } ∧ (∀ k, k ≠ p → getPort u k = getPort s k) ∧ (hasRoom s 0 → queued u 0 0x6001) ∧
      (csrBit s O.ethCtrl 2 = true → csrGet s (O.ethpIpv4Addr p) = 0 →
        u.out.head? = some (.dhcp p 2 (dhcpClient p) [1, 3, 51])) ∧ u.mem = s.mem) := by
  intro x hpresent hruns hdev hdown
  obtain ⟨v, hv⟩ : ∃ v, v = raise (setPort s p { x with up := true }) 0x6001 0 3 6 p [p] := ⟨_, rfl⟩
  obtain ⟨hout, hmem, -, hports⟩ := raise_note_frame (setPort s p { x with up := true }) 0x6001 3 6 p [p]
  rw [← hv] at hout hmem hports
  have hcsr : ∀ o, 0x90000 ≤ o → csrGet v o = csrGet s o := fun o ho => by
    rw [hv]
    exact csrGet_raise_note (setPort s p { x with up := true }) 3 6 p [p] (by decide) (outsideErrlog_seam (by omega))
  have hexec : exec (.portLinkUp p) s = .next (if csrBit s O.ethCtrl 2 ∧ csrGet s (O.ethpIpv4Addr p) = 0 then sendDhcp v p 2
      else v) := by
    change Host.Outcome.next (portUp s p) = _
    unfold portUp
    rw [if_neg (by simp [hpresent, hruns, hdev, show (getPort s p).up = false from hdown])]
    dsimp only
    rw [← hv, csrBit_of_csrGet 2 (hcsr O.ethCtrl (by decide)), hcsr _ (by unfold O.ethpIpv4Addr; omega)]
  have hqueued : hasRoom s 0 → queued v 0 0x6001 := fun hroom => by
    rw [hv]
    exact queued_raise_note _ _ _ _ _ _ (.inl hroom)
  have hport : ∀ k, getPort v k = getPort (setPort s p { x with up := true }) k := fun k => getPort_congr hports k
  refine ⟨_, hexec, ?_⟩
  dsimp only
  split
  · have hsent := emit_out v (.dhcp p 2 (dhcpClient p) [1, 3, 51])
    have hkeeps := fun k => getPort_congr (emit_ports v (.dhcp p 2 (dhcpClient p) [1, 3, 51])) k
    exact ⟨(hkeeps p).trans ((hport p).trans (getPort_setPort_same _ _ _)),
      fun k hk => (hkeeps k).trans ((hport k).trans (getPort_setPort_other _ _ hk)),
      fun hroom => (queued_congr (emit_err _ _) _ _).mpr (hqueued hroom), fun _ _ => congrArg List.head? hsent,
      (emit_mem _ _).trans hmem⟩
  · next hclient =>
    exact ⟨(hport p).trans (getPort_setPort_same _ _ _), fun k hk => (hport k).trans (getPort_setPort_other _ _ hk),
        hqueued,
      fun hdhcp haddr => absurd ⟨hdhcp, haddr⟩ hclient, hmem⟩

theorem tget_filter_of_dropped {α : Type} (t : Tbl α) {k : Nat} {keep : Nat → Bool} (h : keep k = false) (d : α) :
    tget (t.filter (fun e => keep e.1)) k d = d := by
  induction t with
  | nil => rfl
  | cons e t ih =>
    by_cases hkeep : keep e.1 = true
    · rw [List.filter_cons_of_pos (by exact hkeep)]
      have hne : ¬ k = e.1 := fun hk => by rw [← hk, h] at hkeep; exact absurd hkeep (by decide)
      unfold tget at ih ⊢
      rw [tget?, if_neg hne]
      exact ih
    · rw [List.filter_cons_of_neg (by exact hkeep)]
      exact ih

theorem portLinkDown_completes (s : State) (p : Nat) :
    let x := getPort s p
    x.up = true → completes (.portLinkDown p) s (fun u =>
      getPort u p = { x with up := false, fill := [], xoff := [], held := [] } ∧ (∀ k, k ≠ p → getPort u k = getPort s k) ∧
      (p < 8 → ∀ q, q < 8 → getEgress u p q = []) ∧ (hasRoom s 0 → queued u 0 0x6002) ∧ u.mem = s.mem) := by
  intro x hup
  obtain ⟨v, hv⟩ : ∃ v, v = setPort { s with egress := s.egress.filter (fun e => decide (e.1 / 8 ≠ p)) } p
      { x with up := false, fill := [], xoff := [], held := [] } := ⟨_, rfl⟩
  obtain ⟨-, hmem, hegress, hports⟩ := raise_note_frame v 0x6002 3 6 p [p]
  have hexec : exec (.portLinkDown p) s = .next (raise v 0x6002 0 3 6 p [p]) := by
    change Host.Outcome.next (portDown s p) = _
    unfold portDown
    rw [if_pos hup, hv]
  have hport : ∀ k, getPort (raise v 0x6002 0 3 6 p [p]) k = getPort v k := fun k => getPort_congr hports k
  refine ⟨_, hexec, (hport p).trans (by rw [hv, getPort_setPort_same]), fun k hk => (hport k).trans ?_, fun _ q hq => ?_,
    fun hroom => queued_raise_note _ _ _ _ _ _ (.inl (by rw [hv]; exact hroom)), hmem.trans (by rw [hv]; rfl)⟩
  · rw [hv, getPort_setPort_other _ _ hk]
    rfl
  · unfold getEgress
    rw [hegress, hv]
    exact tget_filter_of_dropped s.egress (keep := fun k => decide (k / 8 ≠ p)) (decide_eq_false (by omega)) []

/-! ### Leases -/

theorem setLease_spec (s : State) (p : Nat) (l : Option Lease) (addr plen gw : Nat) :
    let u := setLease s p l addr plen gw
    getPort u p = { getPort s p with lease := l } ∧ csrGet u (O.ethpIpv4Addr p) = addr % 2 ^ 32 ∧
      csrBits u (O.ethpIpv4Plen p) 5 0 = plen % 64 ∧ csrGet u (O.ethpIpv4Gw p) = gw % 2 ^ 32 ∧ u.out = s.out ∧
      (hasRoom s 0 → queued u 0 0x6003) ∧ u.mem = s.mem := by
  intro u
  obtain ⟨v, hv⟩ : ∃ v, v = csrPutBits (csrPut (setPort s p { getPort s p with lease := l }) (O.ethpIpv4Addr p) addr)
      (O.ethpIpv4Plen p) 5 0 plen := ⟨_, rfl⟩
  have hu : u = raise (csrPut v (O.ethpIpv4Gw p) gw) 0x6003 0 3 6 p [] := by
    rw [hv]
    rfl
  obtain ⟨hout, hmem, -, hports⟩ := raise_note_frame (csrPut v (O.ethpIpv4Gw p) gw) 0x6003 3 6 p []
  have hcsr : ∀ o, 0x90000 ≤ o → csrGet u o = csrGet (csrPut v (O.ethpIpv4Gw p) gw) o := fun o ho => by
    rw [hu]
    exact csrGet_raise_note _ 3 6 p [] (by decide) (outsideErrlog_seam (by omega))
  rw [← hu] at hout hmem hports
  have hgwAddr : O.ethpIpv4Addr p ≠ O.ethpIpv4Gw p := by unfold O.ethpIpv4Addr O.ethpIpv4Gw; omega
  have hgwPlen : O.ethpIpv4Plen p ≠ O.ethpIpv4Gw p := by unfold O.ethpIpv4Plen O.ethpIpv4Gw; omega
  have hplenAddr : O.ethpIpv4Addr p ≠ O.ethpIpv4Plen p := by unfold O.ethpIpv4Addr O.ethpIpv4Plen; omega
  refine ⟨(getPort_congr hports p).trans ?_, ?_, ?_, ?_, hout.trans (by rw [hv]; rfl), fun hroom => ?_, hmem.trans
      (by rw [hv]; rfl)⟩
  · rw [hv]
    exact getPort_setPort_same s p { getPort s p with lease := l }
  · rw [hcsr _ (by unfold O.ethpIpv4Addr; omega), csrGet_csrPut_other _ _ hgwAddr, hv, csrPutBits, csrGet_csrPut_other _ _
        hplenAddr,
      csrGet_csrPut_same]
  · unfold csrBits
    rw [hcsr _ (by unfold O.ethpIpv4Plen; omega), csrGet_csrPut_other _ _ hgwPlen, hv]
    exact csrBits_csrPutBits_same _ _ _ _ (by decide)
  · rw [hcsr _ (by unfold O.ethpIpv4Gw; omega), csrGet_csrPut_same]
  · rw [hu]
    exact queued_raise_note _ _ _ _ _ _ (.inl (by rw [hv]; exact hroom))

theorem dhcpReply_completes {l : Lease} (hup : portUpNow s p = true) (hruns : dhcpRuns s p = true)
    (hnew : (getPort s p).lease ≠ some l) : completes (.dhcpReplyRx p l) s (fun u =>
      getPort u p = { getPort s p with lease := some l } ∧ csrGet u (O.ethpIpv4Addr p) = l.addr % 2 ^ 32 ∧
      csrBits u (O.ethpIpv4Plen p) 5 0 = l.plen % 64 ∧ csrGet u (O.ethpIpv4Gw p) = l.gw % 2 ^ 32 ∧
      ((getPort s p).lease = none → .dhcp p 0 (dhcpClient p) [1, 3, 51] ∈ u.out) ∧ (hasRoom s 0 → queued u 0 0x6003) ∧
      u.mem = s.mem) := by
  obtain ⟨v, hv⟩ : ∃ v, v = if (getPort s p).lease.isNone then sendDhcp s p 0 else s := ⟨_, rfl⟩
  have hexec : exec (.dhcpReplyRx p l) s = .next (setLease v p (some l) l.addr l.plen l.gw) := by
    change execDhcpReplyRx p l s = _
    unfold execDhcpReplyRx
    rw [if_neg (by simp [hup, hruns, hnew]), hv]
  obtain ⟨hport, haddr, hplen, hgw, hout, hqueued, hmem⟩ := setLease_spec v p (some l) l.addr l.plen l.gw
  have hportv : getPort v p = getPort s p := by
    rw [hv]
    split
    · exact getPort_congr (emit_ports _ _) p
    · rfl
  have hroomv : hasRoom v 0 ↔ hasRoom s 0 := by
    unfold hasRoom
    rw [hv]
    split
    · rw [sendDhcp, emit_err]
    · rfl
  refine ⟨_, hexec, by rw [hport, hportv], haddr, hplen, hgw, fun hnone => ?_, fun hroom => hqueued (hroomv.mpr hroom),
    hmem.trans ?_⟩
  · rw [hout, hv, hnone, if_pos (by rfl), sendDhcp, emit_out]
    exact List.mem_cons_self
  · rw [hv]
    split
    · exact emit_mem _ _
    · rfl

theorem leaseExpire_completes (hlease : (getPort s p).lease.isSome = true) : completes (.dhcpLeaseExpire p) s (fun u =>
      getPort u p = { getPort s p with lease := none } ∧ csrGet u (O.ethpIpv4Addr p) = 0 ∧ csrGet u (O.ethpIpv4Gw p) = 0 ∧
      (hasRoom s 0 → queued u 0 0x6003) ∧ u.mem = s.mem) := by
  obtain ⟨hport, haddr, -, hgw, -, hqueued, hmem⟩ := setLease_spec s p none 0 0 0
  obtain ⟨v, hv⟩ : ∃ v, v = setLease s p none 0 0 0 := ⟨_, rfl⟩
  rw [← hv] at hport haddr hgw hqueued hmem
  have hsome : ¬ (getPort s p).lease.isNone = true := by simpa [Option.isSome_iff_ne_none] using hlease
  refine ⟨_, by
    change execDhcpLeaseExpire p s = _
    unfold execDhcpLeaseExpire
    rw [if_neg hsome, ← hv], ?_⟩
  dsimp only
  split
  · next hclient =>
    have hvup : (getPort v p).up = true := up_of_portUpNow (Bool.and_eq_true_iff.mp hclient).1
    have hsent := emit_of_isAddressMessage (m := .dhcp p 2 (dhcpClient p) [1, 3, 51]) (.inr (.inr ⟨_, _, _, rfl⟩)) hvup
    have hsends : sendDhcp v p 2 = _ := hsent
    refine ⟨?_, ?_, ?_, fun hroom => ?_, ?_⟩
    · rw [hsends]
      exact hport
    · rw [hsends]
      exact haddr
    · rw [hsends]
      exact hgw
    · rw [hsends]
      exact hqueued hroom
    · rw [hsends]
      exact hmem
  · exact ⟨hport, haddr, hgw, hqueued, hmem⟩

/-- Settles O40: a port's message joins its queue of PCP 0, a lease sets the address registers, and the ports' own state
follows the link. -/
theorem portsAndAddresses : Obligations.PortsAndAddresses := by
  unfold Obligations.PortsAndAddresses
  refine ⟨fun s p => ⟨portLinkUp_completes s p, portLinkDown_completes s p⟩, ?_⟩
  intro s p a b len bs l x q sends
  refine ⟨fun hup => ⟨fun hown => ?_, fun hecho hlen hfits => ?_, fun hruns hnew _ => dhcpReply_completes hup hruns hnew,
    fun hlease => ?_, ?_⟩, fun hlease _ => leaseExpire_completes hlease⟩
  · obtain ⟨v, hv⟩ : ∃ v, v = setPort s p
        { x with neighbours := (b :: x.neighbours.filter (fun n => decide (n ≠ b))).take 256 } := ⟨_, rfl⟩
    have hport : getPort v p = { x with neighbours := (b :: x.neighbours.filter (fun n => decide (n ≠ b))).take 256 } := by
      rw [hv, getPort_setPort_same]
    obtain ⟨hsends, hports⟩ := sends_address (s := s) (v := v) (m := .neighbour p a b) (.inl ⟨_, _, rfl⟩) (by rw [hv]; rfl)
      (by rw [hport]; exact up_of_portUpNow hup)
    refine ⟨_, by
      change execArpNdRx p a b s = _
      unfold execArpNdRx
      rw [if_neg (by simp [hup, hown])]
      dsimp only
      rw [← hv], hsends, ?_, ?_, fun k hk => ?_⟩
    · rw [getPort_congr hports, hport]
      rfl
    · rw [getPort_congr hports, hport]
      exact List.length_take_le _ _
    · rw [getPort_congr hports, hv, getPort_setPort_other _ _ hk]
  · obtain ⟨hsends, hports⟩ := sends_address (s := s) (v := s) (m := .echo p a bs) (.inr (.inl ⟨_, _, rfl⟩)) rfl
        (up_of_portUpNow hup)
    refine ⟨_, by
      change execIcmpEchoRx p a len bs s = _
      unfold execIcmpEchoRx
      rw [if_pos ⟨hup, hecho, hfits, hlen⟩], hsends, hports⟩
  · obtain ⟨hsends, hports⟩ := sends_address (s := s) (v := s) (m := .dhcp p 0 (dhcpClient p) [1, 3, 51])
      (.inr (.inr ⟨_, _, _, rfl⟩)) rfl (up_of_portUpNow hup)
    refine ⟨_, by
      change execDhcpRenew p s = _
      unfold execDhcpRenew
      rw [if_pos ⟨hup, hlease⟩, sendDhcp, if_neg (by decide)], hsends, hports⟩
  · have hexec : exec (.routerAdvertRx p) s =
        .next (setPort s.useFree p { x with router := some (Config.routerAddress s.freeCtr) }) := by
      change execRouterAdvertRx p s = _
      unfold execRouterAdvertRx
      rw [if_pos hup]
    exact ⟨_, hexec, _, getPort_setPort_same _ _ _, rfl⟩

end Sys2Proof.Machine
end

section
/-! What sending over the links can do: the relation `Relays`, kept by every step of the way of a frame. -/

open Sys2Proof
namespace Sys2Proof.Machine

/-! ### What a note leaves in the queues -/

theorem code_kept_of_coalesceIn {r : EventRec} {l q : List EventRec} (h : coalesceIn r l = some q) {code : Nat}
    (hl : ∃ y ∈ l, y.code = code) : ∃ y ∈ q, y.code = code := by
  induction l generalizing q with
  | nil => cases h
  | cons x xs ih =>
    obtain ⟨y, hy, hcode⟩ := hl
    rw [coalesceIn] at h
    split at h
    · cases h
      rcases List.mem_cons.mp hy with rfl | hy
      · exact ⟨_, List.mem_cons_self, hcode⟩
      · exact ⟨y, List.mem_cons_of_mem _ hy, hcode⟩
    · obtain ⟨q', hq', rfl⟩ := Option.map_eq_some_iff.mp h
      rcases List.mem_cons.mp hy with rfl | hy
      · exact ⟨_, List.mem_cons_self, hcode⟩
      · obtain ⟨z, hz, hzcode⟩ := ih hq' ⟨y, hy, hcode⟩
        exact ⟨z, List.mem_cons_of_mem _ hz, hzcode⟩

theorem queued_of_queues_tset {s u : State} {sev k code : Nat} {l : List EventRec}
    (herr : u.err.queues = tset s.err.queues k l) (hl : queued s k code → ∃ y ∈ l, y.code = code)
    (h : queued s sev code) : queued u sev code := by
  unfold queued at h ⊢
  rw [herr]
  by_cases hsev : sev = k
  · subst hsev
    rw [tget_tset_same]
    exact hl h
  · rw [tget_tset_other _ _ _ hsev]
    exact h

/-- A note takes no event out of a queue. -/
theorem queued_of_queued_raise_note {s : State} (code cls srcKind src : Nat) (info : List Nat) {sev other : Nat}
    (h : queued s sev other) : queued (raise s code 0 cls srcKind src info) sev other := by
  unfold raise
  rw [if_neg (by omega), placeEvent, if_neg (by decide), if_neg (by decide)]
  split
  · next q hq => exact queued_of_queues_tset (k := 0) (l := q) rfl (code_kept_of_coalesceIn hq) h
  · rw [if_neg (by decide)]
    split
    · refine queued_of_queues_tset (k := 0) rfl (fun hold => ?_) h
      obtain ⟨y, hy, hcode⟩ := hold
      exact ⟨y, List.mem_append_left _ hy, hcode⟩
    · rw [if_neg (by decide)]
      exact h

/-! ### Relays -/

/-- From `s` to `u` frames were sent, forwarded, lost or reported: memory, routes, power and device state stay, links keep
their stage of life, and what was queued is still queued. -/
structure Relays (s u : State) : Prop where
  frame : ∃ csr err out links mend mangle inbox freeCtr, u = { s with
    csr := csr, err := err, out := out, links := links, mend := mend, mangle := mangle, inbox := inbox, freeCtr := freeCtr }
  st : ∀ n, (getLink u n).st = (getLink s n).st
  csr : ∀ o, outsideErrlog o → (∀ m, o ≠ O.seamCntTx m ∧ o ≠ O.seamCntDiscard m) → csrGet u o = csrGet s o
  queue : ∀ sev code, queued s sev code → queued u sev code
  mend : ∃ probes times, u.mend = { s.mend with probes := probes, suspectAt := times }
  probes : ∀ d ∈ s.mend.probes, d ∈ u.mend.probes

namespace Relays
variable {s u v : State}

theorem refl (s : State) : Relays s s :=
  ⟨⟨_, _, _, _, _, _, _, _, rfl⟩, fun _ => rfl, fun _ _ _ => rfl, fun _ _ h => h, ⟨_, _, rfl⟩, fun _ h => h⟩

theorem trans (h : Relays s u) (h' : Relays u v) : Relays s v := by
  obtain ⟨_, _, _, _, _, _, _, _, hu⟩ := h.frame
  obtain ⟨_, _, _, _, _, _, _, _, hv⟩ := h'.frame
  obtain ⟨_, _, hmend⟩ := h.mend
  obtain ⟨_, _, hmend'⟩ := h'.mend
  refine ⟨⟨_, _, _, _, _, _, _, _, hv.trans (by rw [hu])⟩, fun n => (h'.st n).trans (h.st n),
    fun o ho hm => (h'.csr o ho hm).trans (h.csr o ho hm), fun sev code hq => h'.queue sev code (h.queue sev code hq),
    ⟨_, _, hmend'.trans (by rw [hmend])⟩, fun d hd => h'.probes d (h.probes d hd)⟩

theorem table (h : Relays s u) : u.mend.table = s.mend.table := by
  obtain ⟨_, _, hmend⟩ := h.mend
  rw [hmend]

theorem mem (h : Relays s u) : u.mem = s.mem := by
  obtain ⟨_, _, _, _, _, _, _, _, hu⟩ := h.frame
  rw [hu]

theorem power (h : Relays s u) : u.power = s.power := by
  obtain ⟨_, _, _, _, _, _, _, _, hu⟩ := h.frame
  rw [hu]

theorem oes (h : Relays s u) : u.oes = s.oes := by
  obtain ⟨_, _, _, _, _, _, _, _, hu⟩ := h.frame
  rw [hu]

end Relays

section
variable {s : State}

theorem relays_setLink {n : Nat} {k : Link} (h : k.st = (getLink s n).st) : Relays s (setLink s n k) := by
  refine ⟨⟨_, _, _, _, _, _, _, _, rfl⟩, fun m => ?_, fun _ _ _ => rfl, fun _ _ hq => hq, ⟨_, _, rfl⟩, fun _ hd => hd⟩
  by_cases hm : m = n
  · subst hm
    rw [getLink_setLink_same, h]
  · rw [getLink_setLink_other s k hm]

theorem relays_freeSlots (s : State) (n vc k : Nat) : Relays s (freeSlots s n vc k) := relays_setLink rfl

theorem relays_bump_cntTx (s : State) (n : Nat) : Relays s (bump s (O.seamCntTx n)) :=
  ⟨⟨_, _, _, _, _, _, _, _, rfl⟩, fun _ => rfl, fun _ _ hm => csrGet_bump_other _ _ (hm n).1, fun _ _ hq => hq, ⟨_, _, rfl⟩,
      fun _
      hd => hd⟩

theorem relays_bump_cntDiscard (s : State) (n k : Nat) : Relays s (bump s (O.seamCntDiscard n) k) :=
  ⟨⟨_, _, _, _, _, _, _, _, rfl⟩, fun _ => rfl, fun _ _ hm => csrGet_bump_other _ _ (hm n).2, fun _ _ hq => hq, ⟨_, _, rfl⟩,
      fun _
      hd => hd⟩

theorem relays_out (s : State) (out : List Emit) : Relays s { s with out := out } :=
  ⟨⟨_, _, _, _, _, _, _, _, rfl⟩, fun _ => rfl, fun _ _ _ => rfl, fun _ _ hq => hq, ⟨_, _, rfl⟩, fun _ hd => hd⟩

theorem relays_useFree (s : State) : Relays s s.useFree :=
  ⟨⟨_, _, _, _, _, _, _, _, rfl⟩, fun _ => rfl, fun _ _ _ => rfl, fun _ _ hq => hq, ⟨_, _, rfl⟩, fun _ hd => hd⟩

theorem relays_inbox (s : State) (l : List Arrived) : Relays s { s with inbox := l } :=
  ⟨⟨_, _, _, _, _, _, _, _, rfl⟩, fun _ => rfl, fun _ _ _ => rfl, fun _ _ hq => hq, ⟨_, _, rfl⟩, fun _ hd => hd⟩

theorem relays_raise_note (s : State) {code : Nat} (cls srcKind src : Nat) (info : List Nat) (hcode : code < 0x10000) :
    Relays s (raise s code 0 cls srcKind src info) := by
  obtain ⟨csr, err, h⟩ := raise_note_eq_with s code cls srcKind src info
  refine ⟨⟨csr, err, _, _, _, _, _, _, h⟩, fun n => by rw [h]; rfl,
    fun o ho _ => csrGet_raise_note s cls srcKind src info hcode ho,
    fun sev c hq => queued_of_queued_raise_note _ _ _ _ _ hq, ⟨s.mend.probes, s.mend.suspectAt, by rw [h]⟩, fun d hd => by rw [h]; exact hd⟩

/-- What the links carry leaves by no port. -/
theorem emit_of_noFrames {e : Emit} (h : e.ethFrames s = []) : s.emit e = { s with out := e :: s.out } := by
  unfold State.emit
  rw [h]
  rfl

theorem relays_flitSent {n : Nat} {k : Link} (e : Emit) (hst : k.st = (getLink s n).st)
    (he : e.ethFrames (setLink s n k) = []) :
    Relays s (bump ((setLink s n k).emit e) (O.seamCntTx n)) := by
  rw [emit_of_noFrames he]
  exact ((relays_setLink hst).trans (relays_out _ _)).trans (relays_bump_cntTx _ n)

theorem relays_sendFlit (s : State) (n vc : Nat) : Relays s (sendFlit s n vc) := by
  unfold sendFlit
  dsimp only
  split
  · exact .refl s
  · next e rest _ =>
    split
    · refine Relays.trans ?_ (relays_freeSlots _ _ _ _)
      exact relays_flitSent _ (by rfl) (by rfl)
    · exact relays_flitSent _ (by rfl) (by rfl)

theorem relays_pumpN (fuel : Nat) (s : State) (n : Nat) : Relays s (pumpN s n fuel) := by
  induction fuel generalizing s with
  | zero => exact .refl s
  | succ fuel ih =>
    rw [pumpN]
    split
    · split
      · refine Relays.trans (Relays.trans (Relays.trans (relays_useFree s) ?_) (relays_sendFlit _ _ _)) (ih _)
        exact relays_setLink (by rfl)
      · exact .refl s
    · exact .refl s

theorem relays_queueOn (s : State) (n vc : Nat) (f : LinkFrame) (inbound : Option Nat) : Relays s (queueOn s n vc f inbound)
    := by
  unfold queueOn pump
  refine Relays.trans ?_ (relays_pumpN _ _ _)
  exact relays_setLink (by rfl)

theorem relays_deliverFrom (s : State) (vc : Nat) (f : LinkFrame) (inbound : Option Nat) : Relays s
    (deliverFrom s vc f inbound) := by
  unfold deliverFrom
  split
  · exact relays_inbox _ _
  · split
    · exact relays_inbox _ _
    · exact (relays_freeSlots _ _ _ _).trans (relays_inbox _ _)

theorem relays_noWay (s : State) (d : Nat) : Relays s (noWay s d) := by
  have hcount : ∀ n, Relays s (countDiscard s n) := fun n => by
    unfold countDiscard
    split
    · exact relays_bump_cntDiscard _ _ _
    · exact .refl s
  exact (hcount _).trans (relays_raise_note _ 3 8 d [] (by decide))

/-- Probes and the times of suspicion are all that the keeping of failure reports writes into the mend state. -/
theorem relays_mend (s : State) {m : MendSt} (hmend : ∃ probes times, m =
    { s.mend with probes := probes, suspectAt := times })
    (hprobes : ∀ d ∈ s.mend.probes, d ∈ m.probes) : Relays s { s with mend := m } :=
  ⟨⟨_, _, _, _, _, _, _, _, rfl⟩, fun _ => rfl, fun _ _ _ => rfl, fun _ _ hq => hq, hmend, hprobes⟩

theorem relays_foldl {α : Type} {f : State → α → State} (h : ∀ s a, Relays s (f s a)) (l : List α) (s : State) :
    Relays s (l.foldl f s) := foldl_rel Relays.refl Relays.trans h l s

theorem relays_probeRank (s : State) (d : Nat) : Relays s (probeRank s d) ∧ d ∈ (probeRank s d).mend.probes := by
  have hadd : Relays s (if s.mend.probes.contains d then s else { s with mend :=
      { s.mend with probes := s.mend.probes ++ [d] } }) ∧
      d ∈ (if s.mend.probes.contains d then s else { s with mend := { s.mend with probes := s.mend.probes ++ [d] }
          }).mend.probes := by
    split
    · next h => exact ⟨.refl s, List.contains_iff_mem.mp h⟩
    · exact ⟨relays_mend s ⟨_, _, rfl⟩ fun x hx => List.mem_append_left _ hx, List.mem_append_right _ List.mem_cons_self⟩
  unfold probeRank
  dsimp only
  refine ⟨hadd.1.trans (relays_foldl (fun s n => relays_queueOn s n 3 _ none) _ _), ?_⟩
  exact (relays_foldl (fun s n => relays_queueOn s n 3 _ none) _ _).probes d hadd.2

theorem relays_suspectN (fuel : Nat) (s : State) (d : Nat) : Relays s (suspectN fuel s d) := by
  induction fuel generalizing s d with
  | zero => exact .refl s
  | succ fuel ih =>
    have hnoted : ∀ t, Relays s { s with mend := { s.mend with suspectAt := t } } := fun t => relays_mend s ⟨_, _, rfl⟩ fun
        _ h => h
    rw [suspectN]
    split
    · exact .refl s
    · dsimp only
      split
      · exact .refl s
      · split
        · exact hnoted _
        · split
          · split
            · exact hnoted _
            · exact (hnoted _).trans (relays_probeRank _ d).1
          · split
            · exact (hnoted _).trans (relays_inbox _ _)
            · exact (hnoted _).trans (relays_queueOn _ _ _ _ _)
            · exact ((hnoted _).trans (relays_noWay _ _)).trans (ih _ _)

theorem relays_suspectRank (s : State) (d : Nat) : Relays s (suspectRank s d) := relays_suspectN 4 s d

theorem relays_loseOwn (s : State) (f : LinkFrame) : Relays s (loseOwn s f) := by
  have hmangle : ∀ m, Relays s { s with mangle := m } := fun m =>
    ⟨⟨_, _, _, _, _, _, _, _, rfl⟩, fun _ => rfl, fun _ _ _ => rfl, fun _ _ hq => hq, ⟨_, _, rfl⟩, fun _ hd => hd⟩
  unfold loseOwn
  split
  · split
    · exact hmangle _
    · exact .refl s
  · exact .refl s

theorem relays_unreachable (s : State) (d : Nat) : Relays s (unreachable s d) := (relays_noWay s d).trans
    (relays_suspectRank _ d)

theorem relays_sendOn (s : State) (vc : Nat) (f : LinkFrame) (inbound : Option Nat) : Relays s (sendOn s vc f inbound) := by
  have hlost := (relays_unreachable s f.dst).trans (relays_loseOwn _ f)
  unfold sendOn
  split
  · exact relays_deliverFrom _ _ _ _
  · exact relays_queueOn _ _ _ _ _
  · dsimp only
    split
    · exact hlost.trans (relays_freeSlots _ _ _ _)
    · exact hlost

theorem relays_reroute (l : List TxEntry) (s : State) : Relays s (reroute s l) := by
  induction l generalizing s with
  | nil => exact .refl s
  | cons e es ih => exact (relays_sendOn _ _ _ _).trans (ih _)

theorem relays_reportStranded (s : State) (n : Nat) : Relays s (reportStranded s n) := by
  unfold reportStranded
  split
  · exact .refl s
  · exact relays_foldl relays_suspectRank _ _

theorem relays_sendFrame (s : State) (dst : Nat) (b : FrameBody) : Relays s (sendFrame s dst b) := relays_sendOn _ _ _ _

theorem relays_sendMend (s : State) (dst : Nat) (h : MendHdr) (b : MendBody) : Relays s (sendMend s dst h b) :=
  relays_sendFrame _ _ _

end
end Sys2Proof.Machine
end

section
/-! What taking a link down and training it again leave (R442, R444, R445). -/

open Sys2Proof
namespace Sys2Proof.Machine

variable {s v : State} {n : Nat}

/-! ### The start of training -/

theorem getLink_startTraining_same (s : State) (n : Nat) : getLink (startTraining s n) n = { Link.reset with
    st := .training, cfg := vcSizes s n, laneThr := csrBits s (O.seamLaneThr n) 19 0
    freed := (List.range 4).map (fun v => (vcSizes s n).getD v 0 - heldFlits s n v), rxq := (getLink s n).rxq } :=
  getLink_setLink_same _ _ _

theorem getLink_startTraining_other (s : State) {n m : Nat} (h : m ≠ n) : getLink (startTraining s n) m = getLink s m :=
  getLink_setLink_other s _ h

theorem csrGet_startTraining (s : State) {n o : Nat} (ha : o ≠ O.seamPartnerA n) (hb : o ≠ O.seamPartnerB n) :
    csrGet (startTraining s n) o = csrGet s o :=
  (csrGet_csrPut_other _ _ hb).trans (csrGet_csrPut_other _ _ ha)

theorem startTraining_eq_with (s : State) (n : Nat) :
    ∃ csr links, startTraining s n = { s with csr := csr, links := links } := ⟨_, _, rfl⟩

/-! ### A link taken down -/

/-- From `s` to `v` link `n` went down, with what follows but for its own next stage. -/
structure Downed (n : Nat) (s v : State) : Prop where
  frame : ∃ csr err out links mend mangle inbox freeCtr, v = { s with
    csr := csr, err := err, out := out, links := links, mend := mend, mangle := mangle, inbox := inbox, freeCtr := freeCtr }
  st_self : (getLink v n).st = .down
  st_other : ∀ m, m ≠ n → (getLink v m).st = (getLink s m).st
  csr : ∀ o, outsideErrlog o → (∀ m, o ≠ O.seamCntTx m ∧ o ≠ O.seamCntDiscard m) → o ≠ O.seamCntDown n → csrGet v o = csrGet
      s o
  queue : ∀ sev code, queued s sev code → queued v sev code

theorem Downed.relays (h : Downed n s v) {u : State} (hr : Relays v u) : Downed n s u := by
  obtain ⟨_, _, _, _, _, _, _, _, hv⟩ := h.frame
  obtain ⟨_, _, _, _, _, _, _, _, hu⟩ := hr.frame
  exact ⟨⟨_, _, _, _, _, _, _, _, hu.trans (by rw [hv])⟩, (hr.st n).trans h.st_self,
    fun m hm => (hr.st m).trans (h.st_other m hm), fun o ho hm hd => (hr.csr o ho hm).trans (h.csr o ho hm hd),
    fun sev code hq => hr.queue sev code (h.queue sev code hq)⟩

theorem downed_of_relays (hr : Relays s v) {k : Link} (hk : k.st = .down) : Downed n s (setLink v n k) := by
  obtain ⟨_, _, _, _, _, _, _, _, hv⟩ := hr.frame
  exact ⟨⟨_, _, _, _, _, _, _, _, (congrArg (setLink · n k) hv).trans rfl⟩, by rw [getLink_setLink_same, hk],
    fun m hm => by rw [getLink_setLink_other _ _ hm, hr.st m], fun o ho hm _ => hr.csr o ho hm, hr.queue⟩

/-- The frames that a link going down loses: those begun, and those sent and not acknowledged. -/
def lostFrames (k : Link) : List LinkFrame :=
  k.unacked.map (·.frame) ++ (k.txq.filter (fun e => 0 < e.sent)).map (·.frame)

/-- The count of frames that had begun on a link, either way. -/
def begunFrames (k : Link) : Nat :=
  (k.unacked.filter (fun u => decide (u.idx + 1 = u.frame.flits))).length +
    (k.txq.filter (fun e => 0 < e.sent)).length + (k.rxPart.filter (fun p => 0 < p)).length

/-- Slots of frames half forwarded return to the links they came from. -/
def releaseBegun (s : State) (es : List TxEntry) : State :=
  (es.filter (fun e => 0 < e.sent)).foldl (fun s e => match e.inbound with
    | some m => freeSlots s m e.vc (e.frame.flits - e.sent)
    | none => s) s

/-- A link down with its frames lost and counted, before anything is reported. -/
def linkGone (s : State) (n : Nat) : State :=
  let k := getLink s n
  let s1 := (lostFrames k).foldl loseOwn (setLink (releaseBegun s k.txq) n
      { Link.reset with st := .down, cfg := k.cfg, rxq := k.rxq })
  if begunFrames k = 0 then s1 else bump s1 (O.seamCntDiscard n) (begunFrames k)

/-- A link down, reported and its waiting frames rerouted. -/
def linkReported (s : State) (n : Nat) (report : Bool) : State :=
  reroute (reportStranded (if report then raise (bump (linkGone s n) (O.seamCntDown n)) 0x5003 0 3 5 n else linkGone s n) n)
    ((getLink s n).txq.filter (fun e => e.sent = 0))

theorem takeDown_eq (s : State) (n : Nat) (report : Bool) : takeDown s n report =
    if csrBit (linkReported s n report) (O.seamCtrl n) 0 then startTraining (linkReported s n report) n
    else setLink (linkReported s n report) n { getLink (linkReported s n report) n with st := .off } := rfl

theorem relays_releaseBegun (s : State) (es : List TxEntry) : Relays s (releaseBegun s es) :=
  relays_foldl (fun s e => by
    split
    · exact relays_freeSlots _ _ _ _
    · exact .refl s) _ s

theorem downed_linkGone (s : State) (n : Nat) : Downed n s (linkGone s n) := by
  have hdown : Downed n s (setLink (releaseBegun s (getLink s n).txq) n
      { Link.reset with st := .down, cfg := (getLink s n).cfg, rxq := (getLink s n).rxq }) :=
    downed_of_relays (relays_releaseBegun s _) rfl
  have hlost := hdown.relays (relays_foldl relays_loseOwn (lostFrames (getLink s n)) _)
  unfold linkGone
  dsimp only
  split
  · exact hlost
  · exact hlost.relays (relays_bump_cntDiscard _ _ _)

theorem linkGone_err (s : State) (n : Nat) : (linkGone s n).err = s.err := by
  have hslots : ∀ es, (releaseBegun s es).err = s.err := fun es =>
    foldl_keeps _ State.err (fun s e => by split <;> rfl) _ s
  have hlost : ∀ (l : List LinkFrame) (u : State), (l.foldl loseOwn u).err = u.err := fun l u =>
    foldl_keeps loseOwn State.err (fun s f => by
      unfold loseOwn
      split
      · split <;> rfl
      · rfl) l u
  unfold linkGone
  dsimp only
  split
  · rw [hlost]
    exact hslots _
  · change ((lostFrames (getLink s n)).foldl loseOwn _).err = _
    rw [hlost]
    exact hslots _

theorem seamCntDown_ne (n m : Nat) : O.seamCntDown n ≠ O.seamCntTx m ∧ O.seamCntDown n ≠ O.seamCntDiscard m := by
  unfold O.seamCntDown O.seamCntTx O.seamCntDiscard
  omega

theorem seamCtrl_ne (n m : Nat) : O.seamCtrl n ≠ O.seamCntTx m ∧ O.seamCtrl n ≠ O.seamCntDiscard m := by
  unfold O.seamCtrl O.seamCntTx O.seamCntDiscard
  omega

theorem linkGone_cntDown (s : State) (n : Nat) : csrGet (linkGone s n) (O.seamCntDown n) = csrGet s (O.seamCntDown n) := by
  have hslots := (relays_releaseBegun s (getLink s n).txq).csr (O.seamCntDown n)
    (outsideErrlog_seam (by unfold O.seamCntDown; omega)) (seamCntDown_ne n)
  have hlost : ∀ (l : List LinkFrame) (u : State), csrGet (l.foldl loseOwn u) (O.seamCntDown n) = csrGet u (O.seamCntDown n)
      := fun l u =>
    (relays_foldl relays_loseOwn l u).csr (O.seamCntDown n) (outsideErrlog_seam (by unfold O.seamCntDown; omega))
        (seamCntDown_ne n)
  unfold linkGone
  dsimp only
  split
  · exact (hlost _ _).trans hslots
  · exact (csrGet_bump_other _ _ (seamCntDown_ne n n).2).trans ((hlost _ _).trans hslots)

theorem downed_bump_cntDown (h : Downed n s v) : Downed n s (bump v (O.seamCntDown n)) := by
  obtain ⟨_, _, _, _, _, _, _, _, hv⟩ := h.frame
  exact ⟨⟨_, _, _, _, _, _, _, _, (congrArg (bump · (O.seamCntDown n)) hv).trans rfl⟩, h.st_self, h.st_other,
    fun o ho hm hd => (csrGet_bump_other _ _ hd).trans (h.csr o ho hm hd), h.queue⟩

theorem downed_linkReported (s : State) (n : Nat) (report : Bool) : Downed n s (linkReported s n report) := by
  have hgone := downed_linkGone s n
  unfold linkReported
  refine Downed.relays ?_ ((relays_reportStranded _ _).trans (relays_reroute _ _))
  cases report with
  | false => exact hgone
  | true => exact (downed_bump_cntDown hgone).relays (relays_raise_note _ 3 5 n [] (by decide))

/-- A reported link down is counted, and queued where there is room. -/
theorem linkReported_counts (s : State) (n : Nat) :
    csrGet (linkReported s n true) (O.seamCntDown n) = min (csrGet s (O.seamCntDown n) + 1) 0xFFFFFFFF ∧
      (hasRoom s 0 → queued (linkReported s n true) 0 0x5003) := by
  have houtside : outsideErrlog (O.seamCntDown n) := outsideErrlog_seam (by unfold O.seamCntDown; omega)
  obtain ⟨w, hw⟩ : ∃ w, w = raise (bump (linkGone s n) (O.seamCntDown n)) 0x5003 0 3 5 n [] := ⟨_, rfl⟩
  have hrelays : Relays w (linkReported s n true) := by
    rw [hw]
    exact (relays_reportStranded _ _).trans (relays_reroute _ _)
  refine ⟨(hrelays.csr _ houtside (seamCntDown_ne n)).trans ?_, fun hroom => hrelays.queue _ _ ?_⟩
  · rw [hw, csrGet_raise_note _ 3 5 n [] (by decide) houtside, csrGet_bump_same, linkGone_cntDown]
  · rw [hw]
    refine queued_raise_note _ _ _ _ _ _ (.inl ?_)
    change (tget (linkGone s n).err.queues 0 []).length < 16
    rw [linkGone_err]
    exact hroom

theorem csrBit_linkReported (s : State) (n : Nat) (report : Bool) (i : Nat) :
    csrBit (linkReported s n report) (O.seamCtrl n) i = csrBit s (O.seamCtrl n) i :=
  csrBit_of_csrGet i ((downed_linkReported s n report).csr _ (outsideErrlog_seam (by unfold O.seamCtrl; omega))
      (seamCtrl_ne n)
    (by unfold O.seamCtrl O.seamCntDown; omega))

/-- Everything that taking a link down leaves. -/
structure TakenDown (n : Nat) (s u : State) : Prop where
  frame : ∃ csr err out links mend mangle inbox freeCtr, u = { s with
    csr := csr, err := err, out := out, links := links, mend := mend, mangle := mangle, inbox := inbox, freeCtr := freeCtr }
  st_self : (getLink u n).st = if csrBit s (O.seamCtrl n) 0 then .training else .off
  st_other : ∀ m, m ≠ n → (getLink u m).st = (getLink s m).st
  csr : ∀ o, outsideErrlog o → (∀ m, o ≠ O.seamCntTx m ∧ o ≠ O.seamCntDiscard m) → o ≠ O.seamCntDown n →
    o ≠ O.seamPartnerA n → o ≠ O.seamPartnerB n → csrGet u o = csrGet s o
  queue : ∀ sev code, queued s sev code → queued u sev code

theorem takenDown_takeDown (s : State) (n : Nat) (report : Bool) : TakenDown n s (takeDown s n report) := by
  obtain ⟨v, hv⟩ : ∃ v, v = linkReported s n report := ⟨_, rfl⟩
  have hdown := downed_linkReported s n report
  have hctrl := csrBit_linkReported s n report 0
  rw [takeDown_eq, ← hv]
  rw [← hv] at hdown hctrl
  obtain ⟨_, _, _, _, _, _, _, _, hframe⟩ := hdown.frame
  rw [hctrl]
  split
  · next hon =>
    obtain ⟨_, _, htrain⟩ := startTraining_eq_with v n
    exact ⟨⟨_, _, _, _, _, _, _, _, htrain.trans (by rw [hframe])⟩, by rw [getLink_startTraining_same, if_pos hon],
      fun m hm => by rw [getLink_startTraining_other _ hm, hdown.st_other m hm],
      fun o ho hm hd ha hb => (csrGet_startTraining v ha hb).trans (hdown.csr o ho hm hd), hdown.queue⟩
  · next hoff =>
    exact ⟨⟨_, _, _, _, _, _, _, _, (congrArg (setLink · n { getLink v n with st := .off }) hframe).trans rfl⟩,
      by rw [getLink_setLink_same, if_neg hoff], fun m hm => by rw [getLink_setLink_other _ _ hm, hdown.st_other m hm],
      fun o ho hm hd _ _ => hdown.csr o ho hm hd, hdown.queue⟩

namespace TakenDown

theorem mem {u : State} (h : TakenDown n s u) : u.mem = s.mem := by
  obtain ⟨_, _, _, _, _, _, _, _, hu⟩ := h.frame
  rw [hu]

theorem oes {u : State} (h : TakenDown n s u) : u.oes = s.oes := by
  obtain ⟨_, _, _, _, _, _, _, _, hu⟩ := h.frame
  rw [hu]

theorem power {u : State} (h : TakenDown n s u) : u.power = s.power := by
  obtain ⟨_, _, _, _, _, _, _, _, hu⟩ := h.frame
  rw [hu]

theorem linkUpNow_other {u : State} (h : TakenDown n s u) {m : Nat} (hm : m ≠ n) : linkUpNow u m = linkUpNow s m := by
  unfold linkUpNow
  rw [h.st_other m hm]

theorem linkUpNow_self {u : State} (h : TakenDown n s u) : linkUpNow u n = false := by
  unfold linkUpNow
  rw [h.st_self]
  split <;> simp

end TakenDown

theorem takeDown_counts (s : State) (n : Nat) :
    csrGet (takeDown s n true) (O.seamCntDown n) = min (csrGet s (O.seamCntDown n) + 1) 0xFFFFFFFF ∧
      (hasRoom s 0 → queued (takeDown s n true) 0 0x5003) := by
  obtain ⟨hcount, hqueued⟩ := linkReported_counts s n
  rw [takeDown_eq]
  split
  · exact ⟨(csrGet_startTraining _ (by unfold O.seamCntDown O.seamPartnerA; omega)
        (by unfold O.seamCntDown O.seamPartnerB; omega)).trans
      hcount, hqueued⟩
  · exact ⟨hcount, hqueued⟩

end Sys2Proof.Machine
end

section
/-! O39. A link trains, comes up and starts again. -/

open Sys2Proof
namespace Sys2Proof.Machine

variable {s v : State} {n : Nat}

theorem vcSizes_congr {u : State} (ha : csrGet u (O.seamVcCredA n) = csrGet s (O.seamVcCredA n))
    (hb : csrGet u (O.seamVcCredB n) = csrGet s (O.seamVcCredB n)) : vcSizes u n = vcSizes s n := by
  unfold vcSizes csrBits
  rw [ha, hb]

/-- What a link that starts training from `s` is. -/
def Restarted (n : Nat) (s u : State) : Prop :=
  (getLink u n).st = .training ∧ (getLink u n).stage = .optical ∧ (getLink u n).unacked = [] ∧
    (getLink u n).txSeq = 0 ∧ (getLink u n).rxSeq = 0 ∧ (getLink u n).cfg = vcSizes s n ∧ u.mem = s.mem

theorem restarted_startTraining (hsizes : vcSizes v n = vcSizes s n) (hmem : v.mem = s.mem) :
    Restarted n s (startTraining v n) := by
  have hlink := getLink_startTraining_same v n
  exact ⟨by rw [hlink], by rw [hlink]; rfl, by rw [hlink]; rfl, by rw [hlink]; rfl, by rw [hlink]; rfl,
    by rw [hlink]; exact hsizes, hmem⟩

/-- A link that is enabled trains again when it is taken down. -/
theorem restarted_takeDown (hon : csrBit s (O.seamCtrl n) 0 = true) (report : Bool) : Restarted n s (takeDown s n report) :=
    by
  have hdown := downed_linkReported s n report
  have hcred : ∀ o, o = O.seamVcCredA n ∨ o = O.seamVcCredB n → csrGet (linkReported s n report) o = csrGet s o := fun o ho
      => by
    unfold O.seamVcCredA O.seamVcCredB at ho
    refine hdown.csr o (outsideErrlog_seam (by omega)) (fun m => ?_) (by unfold O.seamCntDown; omega)
    unfold O.seamCntTx O.seamCntDiscard
    omega
  obtain ⟨_, _, _, _, _, _, _, _, hframe⟩ := hdown.frame
  rw [takeDown_eq, csrBit_linkReported, if_pos hon]
  exact restarted_startTraining (vcSizes_congr (hcred _ (.inl rfl)) (hcred _ (.inr rfl))) (by rw [hframe])

theorem emitCtl_eq (s : State) (n : Nat) (c : CtlFlit) :
    emitCtl s n c = { s with out := .control n c (getLink s n).ack :: s.out } := emit_of_noFrames rfl

theorem sendCredit_eq (s : State) (n : Nat) : sendCredit s n =
    { setLink s n { getLink s n with reported := (getLink s n).freed } with
      out := .control n (.credit (getLink s n).freed) (getLink s n).ack :: s.out } := by
  unfold sendCredit
  rw [emitCtl_eq, getLink_setLink_same]
  rfl

/-- The identity and the credits go out together. -/
theorem identity_sent (s : State) (n : Nat) :
    let u := sendCredit (emitCtl s n (ownLinkId s n)) n
    u.out = .control n (.credit (getLink s n).freed) (getLink s n).ack :: .control n (ownLinkId s n) (getLink s n).ack ::
        s.out ∧
      (getLink u n).reported = (getLink s n).freed ∧ (getLink u n).stage = (getLink s n).stage := by
  intro u
  have hu : u = _ := sendCredit_eq (emitCtl s n (ownLinkId s n)) n
  rw [emitCtl_eq] at hu
  have hlink : getLink u n = { getLink s n with reported := (getLink s n).freed } := by
    rw [hu]
    exact getLink_setLink_same _ _ _
  exact ⟨by rw [hu]; rfl, by rw [hlink], by rw [hlink]⟩

theorem linkUp_completes {k : Link} (hk : getLink s n = k) (htrain : k.st = .training) (hstage : k.stage = .identity)
    (hid : k.gotId = true) (hcredit : k.gotCredit = true) (hfull : k.credits = k.cfg) (hlanes : laneCount k.active = 4)
    (hmin : csrBit s (O.seamCtrl n) 2 = false) (hlevel : s.power.level < 3) : completes (.linkUp n) s (fun u =>
      getLink u n = { k with st := .up } ∧ (hasRoom s 0 → queued u 0 0x5004) ∧ u.mem = s.mem) := by
  obtain ⟨w, hw⟩ : ∃ w, w = raise (setLink s n { k with st := .up }) 0x5004 0 3 5 n [] := ⟨_, rfl⟩
  obtain ⟨csr, err, hframe⟩ := raise_note_eq_with (setLink s n { k with st := .up }) 0x5004 3 5 n []
  rw [← hw] at hframe
  have hctrl : csrBit w (O.seamCtrl n) 2 = false := by
    rw [← hmin]
    refine csrBit_of_csrGet 2 ?_
    rw [hw, csrGet_raise_note _ 3 5 n [] (by decide) (outsideErrlog_seam (by unfold O.seamCtrl; omega))]
    rfl
  have hexec : exec (.linkUp n) s = .next w := by
    change execLinkUp n s = _
    unfold execLinkUp
    dsimp only
    have hall : ¬ laneCount k.active < 4 := by omega
    rw [hk, if_pos ⟨htrain, hstage, hid, hcredit, hfull⟩]
    simp only [if_neg hall]
    rw [← hw, hctrl]
    refine congrArg _ (if_neg ?_)
    rintro (h | h)
    · exact absurd h (by decide)
    · rw [hframe] at h
      exact absurd h (by simpa [setLink] using hlevel)
  refine ⟨_, hexec, ?_, fun hroom => ?_, by rw [hframe]; rfl⟩
  · rw [hframe]
    exact getLink_setLink_same _ _ _
  · rw [hw]
    exact queued_raise_note _ _ _ _ _ _ (.inl hroom)

theorem linkIdRx_completes (a b : BitVec 32) (htrain : (getLink s n).st = .training)
    (hstage : (getLink s n).stage = .identity) :
    completes (.linkIdRx n a b) s (fun u => (getLink u n).gotId = true ∧
      csrGet u (O.seamPartnerB n) = a.toNat ∧ csrBits u (O.seamPartnerA n) 13 0 = bitsOf b.toNat 13 0 ∧
      csrBits u (O.seamPartnerA n) 21 16 = bitsOf b.toNat 21 16 % 2 ^ 6 ∧ csrBit u (O.seamPartnerA n) 31 = true) := by
  obtain ⟨x, hx⟩ : ∃ x, x = 0x80000000 + bitsOf b.toNat 15 15 * 0x40000000 + bitsOf b.toNat 21 16 * 0x10000 + bitsOf b.toNat
      13 0 :=
    ⟨_, rfl⟩
  have hexec : exec (.linkIdRx n a b) s = .next (csrPut (csrPut (setLink s n { getLink s n with gotId := true })
      (O.seamPartnerA n) x)
      (O.seamPartnerB n) a.toNat) := by
    change execLinkIdRx n a b s = _
    unfold execLinkIdRx
    rw [if_pos (.inr ⟨htrain, hstage⟩), hx]
  have hrank : bitsOf b.toNat 13 0 < 2 ^ 14 := by
    rw [bitsOf_eq_div_mod]
    exact Nat.mod_lt _ (by decide)
  have hnum : bitsOf b.toNat 21 16 < 2 ^ 6 := by
    rw [bitsOf_eq_div_mod]
    exact Nat.mod_lt _ (by decide)
  have hknown : bitsOf b.toNat 15 15 < 2 := by
    rw [bitsOf_eq_div_mod]
    exact Nat.mod_lt _ (by decide)
  have hne : O.seamPartnerA n ≠ O.seamPartnerB n := by unfold O.seamPartnerA O.seamPartnerB; omega
  generalize bitsOf b.toNat 13 0 = r at hrank hx ⊢
  generalize bitsOf b.toNat 21 16 = m at hnum hx ⊢
  generalize bitsOf b.toNat 15 15 = t at hknown hx
  have hget : csrGet (csrPut (csrPut (setLink s n { getLink s n with gotId := true }) (O.seamPartnerA n) x)
      (O.seamPartnerB n) a.toNat) (O.seamPartnerA n) = x := by
    rw [csrGet_csrPut_other _ _ hne, csrGet_csrPut_same, Nat.mod_eq_of_lt (by omega)]
  refine ⟨_, hexec, congrArg Link.gotId (getLink_setLink_same s n { getLink s n with gotId := true }), ?_, ?_, ?_, ?_⟩
  · rw [csrGet_csrPut_same, Nat.mod_eq_of_lt a.isLt]
  · unfold csrBits
    rw [hget, bitsOf_eq_div_mod]
    omega
  · unfold csrBits
    rw [hget, bitsOf_eq_div_mod]
    omega
  · unfold csrBit csrBits
    rw [hget, bitsOf_eq_div_mod]
    exact decide_eq_true (by omega)

theorem laneLock_eq (htrain : (getLink s n).st = .training) (hstage : (getLink s n).stage = .lock) (m : Nat) :
    exec (.laneLock n m) s = .next (if laneCount (m % 32 &&& (31 - darkLanes s n)) < 2 then startTraining s n
      else setLink s n { getLink s n with
        lock := m % 32 &&& (31 - darkLanes s n), active := lowestLanes (m % 32 &&& (31 - darkLanes s n)) 4
        failed := 31 - (m % 32 &&& (31 - darkLanes s n)), stage := .equalise }) := by
  change execLaneLock n m s = _
  unfold execLaneLock
  dsimp only
  rw [if_pos ⟨htrain, hstage⟩]

/-- The stages of a link in training. -/
theorem training_stages (s : State) (n m : Nat) :
    let k := getLink s n
    let o := getOe s (n / 3)
    let lit := m % 32 &&& (31 - darkLanes s n)
    let sent (u : State) : Prop := u.out = .control n (.credit k.freed) k.ack :: .control n (ownLinkId s n) k.ack :: s.out ∧
      (getLink u n).reported = k.freed
    k.st = .training →
      (k.stage = .optical → (o.st = 2 ∨ o.st = 3) → completes (.opticalReady n) s (fun u =>
        getLink u n = { k with stage := .lock } ∧ getOe u (n / 3) = { o with st := 3 } ∧ u =
            { s with links := u.links, oes := u.oes })) ∧
      (k.stage = .lock → 2 ≤ laneCount lit → completes (.laneLock n m) s (fun u =>
        u = setLink s n { k with lock := lit, active := lowestLanes lit 4, failed := 31 - lit, stage := .equalise })) ∧
      (k.stage = .lock → laneCount lit < 2 → completes (.laneLock n m) s (Restarted n s)) ∧
      (k.stage = .equalise → completes (.equalisation n) s (fun u => u = setLink s n { k with stage := .fec })) ∧
      (k.stage = .fec → completes (.fecLock n) s (fun u => sent u ∧ (getLink u n).stage = .identity)) ∧
      (k.stage = .identity → completes (.linkIdResend n) s (fun u => sent u ∧ (getLink u n).stage = .identity)) := by
  intro k o lit sent htrain
  refine ⟨fun hstage hlit => ?_, fun hstage hlanes => ?_, fun hstage hlanes => ?_, fun hstage => ?_, fun hstage => ?_, fun
      hstage => ?_⟩
  · have hexec : exec (.opticalReady n) s = .next (setLink (setOe s (n / 3) { o with st := 3 }) n { k with stage := .lock })
        := by
      change execOpticalReady n s = _
      unfold execOpticalReady
      dsimp only
      rw [if_pos ⟨htrain, hstage, hlit⟩]
    exact ⟨_, hexec, getLink_setLink_same _ _ _, tget_tset_same _ _ _ _, rfl⟩
  · have hexec := laneLock_eq htrain hstage m
    rw [if_neg (by change ¬ laneCount lit < 2; omega)] at hexec
    exact ⟨_, hexec, rfl⟩
  · have hexec := laneLock_eq htrain hstage m
    rw [if_pos hlanes] at hexec
    exact ⟨_, hexec, restarted_startTraining rfl rfl⟩
  · refine ⟨_, rfl, ?_⟩
    dsimp only
    rw [if_pos ⟨htrain, hstage⟩]
  · have hexec : exec (.fecLock n) s = .next (sendCredit (emitCtl (setLink s n { k with stage := .identity }) n
        (ownLinkId (setLink s n { k with stage := .identity }) n)) n) := by
      change execFecLock n s = _
      unfold execFecLock
      dsimp only
      rw [if_pos ⟨htrain, hstage⟩]
    obtain ⟨hout, hreported, hnext⟩ := identity_sent (setLink s n { k with stage := .identity }) n
    rw [getLink_setLink_same] at hout hreported hnext
    exact ⟨_, hexec, ⟨hout, hreported⟩, hnext⟩
  · have hexec : exec (.linkIdResend n) s = .next (sendCredit (emitCtl s n (ownLinkId s n)) n) := by
      change execLinkIdResend n s = _
      unfold execLinkIdResend
      dsimp only
      rw [if_pos ⟨htrain, hstage⟩]
    obtain ⟨hout, hreported, hnext⟩ := identity_sent s n
    exact ⟨_, hexec, ⟨hout, hreported⟩, hnext.trans hstage⟩

/-- Settles O39: each stage hands on to the next, and a start of training or a link taken down begins from the stage of
    light. -/
theorem linkTraining : Obligations.LinkTraining := by
  unfold Obligations.LinkTraining
  intro s n m a b k o lit sent restarted
  refine ⟨fun htrain => ?_, fun hoff hon => ?_, fun hlive _ hon => ?_, fun hoff => ?_, fun hlive _ => ?_⟩
  · obtain ⟨hoptical, hlock, hdark, hequal, hfec, hidentity⟩ := training_stages s n m htrain
    refine ⟨hoptical, hlock, hdark, hequal, hfec, hidentity, fun hstage => linkIdRx_completes a b htrain hstage,
      fun hstage hid hcredit hfull hlanes hmin hlevel => linkUp_completes rfl htrain hstage hid hcredit hfull hlanes hmin
          hlevel, ?_⟩
    have hexec : exec (.trainingTimeout n) s = .next (startTraining s n) := by
      change execTrainingTimeout n s = _
      unfold execTrainingTimeout
      rw [if_pos htrain]
    exact ⟨_, hexec, restarted_startTraining rfl rfl⟩
  · have hexec : exec (.seamRetrain n) s = .next (startTraining s n) := by
      change execSeamRetrain n s = _
      unfold execSeamRetrain
      rw [if_pos hoff, if_pos hon]
    exact ⟨_, hexec, restarted_startTraining rfl rfl⟩
  · have hexec : exec (.seamRetrain n) s = .next (takeDown s n (linkUpNow s n)) := by
      change execSeamRetrain n s = _
      unfold execSeamRetrain
      rw [if_neg hlive]
    exact ⟨_, hexec, restarted_takeDown hon _⟩
  · obtain ⟨w, hw⟩ : ∃ w, w = csrPutBits s (O.seamCtrl n) 0 0 1 := ⟨_, rfl⟩
    have hexec : exec (.seamEnable n true) s = .next (startTraining w n) := by
      change execSeamEnable n true s = _
      unfold execSeamEnable
      rw [decide_eq_true (by exact hoff), hw]
      rfl
    have hcred : ∀ o, o ≠ O.seamCtrl n → csrGet w o = csrGet s o := fun o ho => by
      rw [hw]
      exact csrGet_csrPut_other _ _ ho
    have hsizes : vcSizes w n = vcSizes s n := vcSizes_congr (hcred _ (by unfold O.seamVcCredA O.seamCtrl; omega))
      (hcred _ (by unfold O.seamVcCredB O.seamCtrl; omega))
    have hctrl : csrBit (startTraining w n) (O.seamCtrl n) 0 = csrBit w (O.seamCtrl n) 0 := csrBit_of_csrGet 0
      (csrGet_startTraining w (by unfold O.seamCtrl O.seamPartnerA; omega) (by unfold O.seamCtrl O.seamPartnerB; omega))
    refine ⟨_, hexec, restarted_startTraining hsizes (by rw [hw]; rfl), hctrl.trans ?_⟩
    rw [hw, csrBit_csrPutBits_same _ _ (by decide)]
    rfl
  · obtain ⟨w, hw⟩ : ∃ w, w = csrPutBits s (O.seamCtrl n) 0 0 0 := ⟨_, rfl⟩
    have hexec : exec (.seamEnable n false) s = .next (takeDown w n (linkUpNow w n)) := by
      change execSeamEnable n false s = _
      unfold execSeamEnable
      rw [decide_eq_false (by exact hlive), hw]
      rfl
    have hoff : csrBit w (O.seamCtrl n) 0 = false := by
      rw [hw, csrBit_csrPutBits_same _ _ (by decide)]
      rfl
    have hdown := takenDown_takeDown w n (linkUpNow w n)
    refine ⟨_, hexec, ?_, ?_, hdown.mem.trans (by rw [hw]; rfl)⟩
    · rw [hdown.st_self, hoff]
      rfl
    · rw [← hoff]
      exact csrBit_of_csrGet 0 (hdown.csr _ (outsideErrlog_seam (by unfold O.seamCtrl; omega)) (seamCtrl_ne n)
        (by unfold O.seamCtrl O.seamCntDown; omega) (by unfold O.seamCtrl O.seamPartnerA; omega)
        (by unfold O.seamCtrl O.seamPartnerB; omega))

end Sys2Proof.Machine
end

section
/-! O37. Flits, acknowledgements, replays, credits and silence. -/

open Sys2Proof
namespace Sys2Proof.Machine

variable {s v : State} {n : Nat}

/-! ### The sending of flits -/

theorem pickVc_of_empty (h : (getLink s n).txq = []) : pickVc s n = none := by
  unfold pickVc
  simp [h]

/-- A link with nothing to send sends nothing. -/
theorem pump_of_empty (h : (getLink s n).txq = []) : pump s n = s := by
  unfold pump
  cases (getLink s n).credits.sum with
  | zero => rfl
  | succ fuel =>
    rw [pumpN]
    simp only [pickVc_of_empty h, ite_self]

/-- The flits of a replay, the newest first in what was sent. -/
def replayed (s : State) (n : Nat) (us : List TxFlit) : List Emit :=
  (us.map (fun u => Emit.flit n u.vc u.seq (getLink s n).ack (u.idx = 0) (u.idx + 1 = u.frame.flits) u.frame)).reverse

theorem replayFlits_of_ne_nil {us : List TxFlit} (h : us ≠ []) (s : State) (n : Nat) :
    replayFlits s n us = bump { s with out := replayed s n us ++ s.out } (O.seamCntRetry n) := by
  unfold replayFlits
  split
  · exact absurd rfl h
  · rfl

theorem replayFrom_of_free {us : List TxFlit} (hreform : (getLink s n).reform = false) (hmap : (getLink s n).mapNext = none)
    :
    replayFrom s n us = replayFlits s n us := by
  have hfree : (getLink s n).remapping = false := by
    unfold Link.remapping
    rw [hreform, hmap]
    rfl
  unfold replayFrom
  dsimp only
  rw [hfree, if_neg (by decide)]

theorem replayFrom_of_remapping (us : List TxFlit) (h : (getLink s n).reform = true ∨ (getLink s n).mapNext.isSome = true) :
    replayFrom s n us = setLink s n { getLink s n with replayDue := true } := by
  have hbusy : (getLink s n).remapping = true := by
    unfold Link.remapping
    exact (Bool.or_eq_true _ _).mpr h
  unfold replayFrom
  dsimp only
  rw [hbusy, if_pos rfl]

/-! ### The asking for what was lost -/

theorem nakFlit_of_free (hnak : (getLink v n).nakSent = false) (hreform : (getLink v n).reform = false) : nakFlit v n =
    { setLink v n { getLink v n with nakSent := true } with
      out := .control n (.nak (getLink v n).rxSeq) (getLink v n).ack :: v.out } := by
  unfold nakFlit
  dsimp only
  rw [hnak, if_neg (by decide), sendCtl]
  rw [getLink_setLink_same, if_neg (by rw [hreform]; decide), emitCtl_eq, getLink_setLink_same]
  rfl

theorem nakFlit_of_reform (hnak : (getLink v n).nakSent = false) (hreform : (getLink v n).reform = true) : nakFlit v n =
    setLink v n { getLink v n with nakSent := true, waitCtl := (getLink v n).waitCtl ++ [.nak (getLink v n).rxSeq] } := by
  unfold nakFlit
  dsimp only
  rw [hnak, if_neg (by decide), sendCtl]
  rw [getLink_setLink_same, if_pos hreform, setLink_setLink]

theorem nakFlit_csr (hnak : (getLink v n).nakSent = false) : (nakFlit v n).csr = v.csr := by
  by_cases hreform : (getLink v n).reform = true
  · rw [nakFlit_of_reform hnak hreform]
    rfl
  · rw [nakFlit_of_free hnak (by simpa using hreform)]
    rfl

/-! ### The stages of a received flit -/

/-- The count of corrected and uncorrectable codewords. -/
def flitCounted (s : State) (n : Nat) (f : Flit) : State :=
  if f.codeword = 1 then bump s (O.seamCntFecCorr n)
  else if f.codeword = 2 then bump s (O.seamCntFecUncorr n) else s

/-- The acknowledgement that a good flit carries. -/
def flitAcked (s : State) (n : Nat) (f : Flit) : State :=
  if f.ackv then pump (setLink s n { getLink s n with unacked := ackFlits (getLink s n).unacked f.ack }) n else s

/-- A good flit of a link that is up. -/
def flitTaken (s : State) (n : Nat) (f : Flit) : State :=
  if f.kind ≠ 0 then flitAcked s n f
  else if f.seq = (getLink (flitAcked s n f) n).rxSeq then acceptFlit (flitAcked s n f) n f
  else nakFlit (flitAcked s n f) n

theorem exec_flitRx (s : State) (n : Nat) (f : Flit) : exec (.flitRx n f) s = .next (
    if !f.good || decide (f.codeword = 2) then
      (if (getLink (flitCounted s n f) n).st = .up then nakFlit (bump (flitCounted s n f) (O.seamCntCrc n)) n
       else bump (flitCounted s n f) (O.seamCntCrc n))
    else if f.kind = 3 ∨ (getLink (flitCounted s n f) n).st ≠ .up then flitCounted s n f
    else flitTaken (flitCounted s n f) n f) := by
  change (if !f.good || decide (f.codeword = 2) then
      .next (if (getLink (flitCounted s n f) n).st = .up then nakFlit (bump (flitCounted s n f) (O.seamCntCrc n)) n
        else bump (flitCounted s n f) (O.seamCntCrc n))
    else if f.kind = 3 ∨ (getLink (flitCounted s n f) n).st ≠ .up then Host.Outcome.next (flitCounted s n f)
    else .next (flitTaken (flitCounted s n f) n f)) = _
  split
  · rfl
  · split <;> rfl

theorem flitCounted_frame (s : State) (n : Nat) (f : Flit) :
    getLink (flitCounted s n f) n = getLink s n ∧ (flitCounted s n f).out = s.out := by
  unfold flitCounted
  split
  · exact ⟨rfl, rfl⟩
  · split <;> exact ⟨rfl, rfl⟩

theorem flitCounted_of_clean {f : Flit} (h : f.codeword = 0) (s : State) (n : Nat) : flitCounted s n f = s := by
  unfold flitCounted
  rw [if_neg (by omega), if_neg (by omega)]

theorem flitAcked_of_none {f : Flit} (h : f.ackv = false) (s : State) (n : Nat) : flitAcked s n f = s := by
  unfold flitAcked
  rw [if_neg (by rw [h]; decide)]

/-- A bad flit, or one that is not the expected, asks for the expected. -/
theorem exec_flitRx_bad {f : Flit} (hup : (getLink s n).st = .up)
    (hbad : f.good = false ∨ f.codeword = 2 ∨ f.kind = 0 ∧ f.ackv = false ∧ f.seq ≠ (getLink s n).rxSeq) :
    ∃ w, exec (.flitRx n f) s = .next (nakFlit w n) ∧ getLink w n = getLink s n ∧ w.out = s.out ∧
      (f.good = false → f.codeword = 0 → csrGet w (O.seamCntCrc n) = min (csrGet s (O.seamCntCrc n) + 1) 0xFFFFFFFF) := by
  obtain ⟨hlink, hout⟩ := flitCounted_frame s n f
  have hexec := exec_flitRx s n f
  rw [hlink, if_pos hup] at hexec
  by_cases hcrc : (!f.good || decide (f.codeword = 2)) = true
  · rw [if_pos hcrc] at hexec
    refine ⟨_, hexec, hlink, hout, fun _ hcode => ?_⟩
    rw [csrGet_bump_same, flitCounted_of_clean hcode]
  · obtain ⟨hgood, hcode⟩ : f.good = true ∧ f.codeword ≠ 2 := by simpa using hcrc
    obtain ⟨hkind, hack, hseq⟩ : f.kind = 0 ∧ f.ackv = false ∧ f.seq ≠ (getLink s n).rxSeq := by
      rcases hbad with h | h | h
      · rw [hgood] at h
        exact absurd h (by decide)
      · exact absurd h hcode
      · exact h
    rw [if_neg hcrc, if_neg (by simp [hkind, hup]), flitTaken, if_neg (by simp [hkind]), flitAcked_of_none hack, hlink,
      if_neg hseq] at hexec
    exact ⟨_, hexec, hlink, hout, fun h => absurd h (by rw [hgood]; decide)⟩

/-! ### The flits taken -/

theorem exec_flitRx_good {f : Flit} (hup : (getLink s n).st = .up) (hgood : f.good = true) (hcode : f.codeword = 0)
    (hkind : f.kind ≠ 3) :
    exec (.flitRx n f) s = .next (flitTaken s n f) := by
  rw [exec_flitRx, flitCounted_of_clean hcode, if_neg (by simp [hgood, hcode]), if_neg (by simp [hkind, hup])]

/-- A link after the flit that it expected. -/
def linkAfterFlit (k : Link) (f : Flit) : Link :=
  { k with
    rxSeq := (k.rxSeq + 1) % 4096, accepted := true, nakSent := false
    rxPart := k.rxPart.set f.vc (if f.eof then 0 else k.rxPart.getD f.vc 0 + 1)
    rxq := match f.eof, f.frame with
      | true, some fr => k.rxq ++ [(f.vc, fr)]
      | _, _ => k.rxq }

theorem acceptFlit_of_noMap (h : (getLink s n).mapNext = none) (f : Flit) :
    acceptFlit s n f = bump (setLink s n (linkAfterFlit (getLink s n) f)) (O.seamCntRx n) := by
  unfold acceptFlit
  dsimp only
  split
  · next hmap =>
    rw [h] at hmap
    cases hmap
  · rfl

theorem flitRx_inOrder {f : Flit} (hup : (getLink s n).st = .up) (hgood : f.good = true) (hcode : f.codeword = 0)
    (hkind : f.kind = 0)
    (hack : f.ackv = false) (hseq : f.seq = (getLink s n).rxSeq) (hmap : (getLink s n).mapNext = none) :
    let k := getLink s n
    completes (.flitRx n f) s (fun u =>
        (getLink u n).rxSeq = (k.rxSeq + 1) % 4096 ∧ (getLink u n).nakSent = false ∧ u.out = s.out ∧
        (∀ fr, f.eof = true → f.frame = some fr → (getLink u n).rxq = k.rxq ++ [(f.vc, fr)]) ∧
        (f.eof = false → (getLink u n).rxq = k.rxq) ∧
        csrGet u (O.seamCntRx n) = min (csrGet s (O.seamCntRx n) + 1) 0xFFFFFFFF ∧ u =
            { s with links := u.links, csr := u.csr }) := by
  intro k
  have hexec := exec_flitRx_good (f := f) hup hgood hcode (by omega)
  have htaken : flitTaken s n f = bump (setLink s n (linkAfterFlit k f)) (O.seamCntRx n) := by
    rw [flitTaken, if_neg (by simp [hkind]), flitAcked_of_none hack, if_pos hseq, acceptFlit_of_noMap hmap]
  have hlink : getLink (bump (setLink s n (linkAfterFlit k f)) (O.seamCntRx n)) n = linkAfterFlit k f :=
      getLink_setLink_same _ _ _
  rw [htaken] at hexec
  refine ⟨_, hexec, ?_⟩
  dsimp only
  rw [hlink]
  refine ⟨rfl, rfl, rfl, fun fr heof hframe => ?_, fun heof => ?_, csrGet_bump_same _ _, rfl⟩
  · simp only [linkAfterFlit, heof, hframe]
  · simp only [linkAfterFlit, heof]

theorem dropWhile_split {pre post : List TxFlit} {x : TxFlit} {a : Nat} (hx : x.seq = a) (hpre : ∀ y ∈ pre, y.seq ≠ a) :
    (pre ++ x :: post).dropWhile (fun u => u.seq ≠ a) = x :: post := by
  rw [List.dropWhile_append_of_pos (fun y hy => decide_eq_true (hpre y hy)), List.dropWhile_cons_of_neg (by simp [hx])]

theorem ackFlits_split {pre post : List TxFlit} {x : TxFlit} {a : Nat} (hx : x.seq = a) (hpre : ∀ y ∈ pre, y.seq ≠ a) :
    ackFlits (pre ++ x :: post) a = post := by
  unfold ackFlits
  rw [if_pos (by simp [hx]), dropWhile_split hx hpre]
  rfl

theorem flitRx_acks {f : Flit} {pre post : List TxFlit} {x : TxFlit} (hup : (getLink s n).st = .up) (hgood : f.good = true)
    (hcode : f.codeword = 0) (hkind : f.kind = 1) (hack : f.ackv = true) (hempty : (getLink s n).txq = [])
    (hsplit : (getLink s n).unacked = pre ++ x :: post) (hx : x.seq = f.ack) (hpre : ∀ y ∈ pre, y.seq ≠ f.ack) :
    completes (.flitRx n f) s (fun u => getLink u n = { getLink s n with unacked := post } ∧ u =
        { s with links := u.links }) := by
  have hexec := exec_flitRx_good (f := f) hup hgood hcode (by omega)
  have htaken : flitTaken s n f = setLink s n { getLink s n with unacked := post } := by
    rw [flitTaken, if_pos (by omega), flitAcked, if_pos hack, hsplit, ackFlits_split hx hpre, pump_of_empty]
    rw [getLink_setLink_same]
    exact hempty
  rw [htaken] at hexec
  exact ⟨_, hexec, getLink_setLink_same _ _ _, rfl⟩

/-! ### Credits -/

theorem creditRx_eq (hup : (getLink s n).st = .up) (counts : List Nat) :
    exec (.creditRx n counts) s = .next (
      let k := getLink s n
      let p := takeCredits k.cfg k.credits k.lastCount counts
      let s1 := setLink s n { k with credits := p.1, lastCount := counts, gotCredit := true }
      if p.2 then takeDown (raise s1 0x5005 2 3 5 n) n true else pump s1 n) := by
  change execCreditRx n counts s = _
  unfold execCreditRx
  dsimp only
  rw [if_neg (by simp [hup]), decide_eq_true hup]

/-- What a report of credits brings a virtual channel to. -/
def creditsUp (k : Link) (counts : List Nat) (v : Nat) : Nat :=
  k.credits.getD v 0 + (counts.getD v 0 + 65536 - k.lastCount.getD v 0) % 65536

theorem takeCredits_getD (k : Link) (counts : List Nat) {v : Nat} (hv : v < 4) :
    (takeCredits k.cfg k.credits k.lastCount counts).1.getD v 0 = min (creditsUp k counts v) (k.cfg.getD v 0) := by
  unfold takeCredits creditsUp
  interval_cases v <;> rfl

theorem takeCredits_tooMany (k : Link) (counts : List Nat) : (takeCredits k.cfg k.credits k.lastCount counts).2 = true ↔
    ∃ v, v < 4 ∧ k.cfg.getD v 0 < creditsUp k counts v := by
  unfold takeCredits creditsUp
  simp only [List.any_eq_true, List.mem_range, decide_eq_true_eq]
  refine exists_congr fun v => and_congr_right fun hv => ?_
  interval_cases v <;> rfl

theorem creditRx_fits {counts : List Nat} (hup : (getLink s n).st = .up) (hempty : (getLink s n).txq = [])
    (hfits : ∀ v, v < 4 → creditsUp (getLink s n) counts v ≤ (getLink s n).cfg.getD v 0) :
    completes (.creditRx n counts) s (fun u =>
      (∀ v, v < 4 → (getLink u n).credits.getD v 0 = creditsUp (getLink s n) counts v) ∧ (getLink u n).lastCount = counts ∧
        u = { s with links := u.links }) := by
  have hexec := creditRx_eq hup counts
  have hfew : ¬ (takeCredits (getLink s n).cfg (getLink s n).credits (getLink s n).lastCount counts).2 = true := by
    rw [takeCredits_tooMany]
    rintro ⟨v, hv, hover⟩
    exact absurd (hfits v hv) (by omega)
  dsimp only at hexec
  rw [if_neg hfew, pump_of_empty (by rw [getLink_setLink_same]; exact hempty)] at hexec
  refine ⟨_, hexec, fun v hv => ?_, by rw [getLink_setLink_same], rfl⟩
  rw [getLink_setLink_same]
  exact (takeCredits_getD _ _ hv).trans (Nat.min_eq_left (hfits v hv))

theorem creditRx_overruns {counts : List Nat} (hup : (getLink s n).st = .up) (hroom : hasRoom s 2)
    (hover : ∃ v, v < 4 ∧ (getLink s n).cfg.getD v 0 < creditsUp (getLink s n) counts v) :
    completes (.creditRx n counts) s (fun u => (getLink u n).st ≠ .up ∧ queued u 2 0x5005 ∧ u.mem = s.mem) := by
  have hexec := creditRx_eq hup counts
  dsimp only at hexec
  rw [if_pos ((takeCredits_tooMany _ _).mpr hover)] at hexec
  obtain ⟨s1, hs1⟩ : ∃ s1, s1 = setLink s n { getLink s n with
    credits := (takeCredits (getLink s n).cfg (getLink s n).credits (getLink s n).lastCount counts).1
    lastCount := counts, gotCredit := true } := ⟨_, rfl⟩
  rw [← hs1] at hexec
  obtain ⟨⟨_, _, hframe⟩, hqueued⟩ := raise_of_room (s := s1) (sev := 2) (cls := 3) 0x5005 5 n [] (.inl rfl)
      (by rw [hs1]; exact hroom)
  have hdown := takenDown_takeDown (raise s1 0x5005 2 3 5 n []) n true
  refine ⟨_, hexec, ?_, hdown.queue _ _ hqueued, hdown.mem.trans ?_⟩
  · rw [hdown.st_self]
    split <;> decide
  · rw [hframe, hs1]
    rfl

/-- Settles O37: a flit goes through the stages of `flitTaken`, what is unacknowledged is replayed as it stands, and credits
follow `creditsUp`. -/
theorem flitsAndCredits : Obligations.FlitsAndCredits := by
  unfold Obligations.FlitsAndCredits
  intro s n f k replay
  refine ⟨fun hup hgood hcode hkind hack hseq hmap => flitRx_inOrder hup hgood hcode hkind hack hseq hmap,
    fun hup hnak hbad => ?_, fun pre x post hup hgood hcode hkind hack hempty hsplit hx hpre =>
      flitRx_acks hup hgood hcode hkind hack hempty hsplit hx hpre, fun pre x post q hup hreform hmap hsplit hx hpre => ?_,
    fun hup hreform hmap hsome => ?_, fun hup hbusy => ⟨?_, fun q => ?_⟩, fun counts hup hempty => ?_, fun hup hreform hnew
        => ?_,
    fun hup hreform => ?_, fun hreform => ⟨?_, ?_⟩, fun hup _ => ?_⟩
  · obtain ⟨w, hexec, hlink, hout, hcrc⟩ := exec_flitRx_bad hup hbad
    have hnakw : (getLink w n).nakSent = false := by rw [hlink]; exact hnak
    refine ⟨_, hexec, fun hreform => ?_, fun hreform => ?_, fun hgood hcode => ?_⟩
    · rw [nakFlit_of_free hnakw (by rw [hlink]; exact hreform), hlink, hout]
      exact ⟨getLink_setLink_same _ _ _, rfl⟩
    · rw [nakFlit_of_reform hnakw (by rw [hlink]; exact hreform), hlink]
      exact ⟨getLink_setLink_same _ _ _, hout⟩
    · rw [← hcrc hgood hcode]
      unfold csrGet
      rw [nakFlit_csr hnakw]
  · have hexec : exec (.nakRx n q) s = .next (bump { s with out := replay (x :: post) ++ s.out } (O.seamCntRetry n)) := by
      change execNakRx n q s = _
      unfold execNakRx
      dsimp only
      rw [if_neg (by simp [show (getLink s n).st = .up from hup]), show (getLink s n).unacked = pre ++ x :: post from
          hsplit,
        dropWhile_split hx hpre, replayFrom_of_free hreform hmap, replayFlits_of_ne_nil (List.cons_ne_nil _ _)]
      rfl
    exact ⟨_, hexec, rfl, csrGet_bump_same _ _, rfl⟩
  · have hexec : exec (.ackTimeout n) s = .next (bump { s with out := replay k.unacked ++ s.out } (O.seamCntRetry n)) := by
      change execAckTimeout n s = _
      unfold execAckTimeout
      dsimp only
      rw [if_pos (by exact hup), replayFrom_of_free hreform hmap, replayFlits_of_ne_nil hsome]
      rfl
    exact ⟨_, hexec, rfl, rfl⟩
  · have hexec : exec (.ackTimeout n) s = .next (setLink s n { k with replayDue := true }) := by
      change execAckTimeout n s = _
      unfold execAckTimeout
      dsimp only
      rw [if_pos (by exact hup), replayFrom_of_remapping _ hbusy]
    exact ⟨_, hexec, rfl⟩
  · have hexec : exec (.nakRx n q) s = .next (setLink s n { k with replayDue := true }) := by
      change execNakRx n q s = _
      unfold execNakRx
      dsimp only
      rw [if_neg (by simp [show (getLink s n).st = .up from hup]), replayFrom_of_remapping _ hbusy]
    exact ⟨_, hexec, rfl⟩
  · exact ⟨fun hfits => creditRx_fits hup hempty hfits, fun hover hroom => creditRx_overruns hup hroom hover⟩
  · have hexec : exec (.creditSend n) s = .next (sendCredit s n) := by
      change execCreditSend n s = _
      unfold execCreditSend
      dsimp only
      rw [if_pos ⟨hup, hreform, hnew⟩]
    rw [sendCredit_eq] at hexec
    exact ⟨_, hexec, getLink_setLink_same _ _ _, rfl, rfl⟩
  · have hexec : exec (.keepaliveSend n) s = .next (emitCtl s n .keepalive) := by
      change execKeepaliveSend n s = _
      unfold execKeepaliveSend
      rw [if_pos ⟨hup, hreform⟩]
    rw [emitCtl_eq] at hexec
    exact ⟨_, hexec, rfl⟩
  · refine ⟨_, rfl, ?_⟩
    dsimp only
    rw [if_neg (by simp [show (getLink s n).reform = true from hreform])]
  · refine ⟨_, rfl, ?_⟩
    dsimp only
    rw [if_neg (by simp [show (getLink s n).reform = true from hreform])]
  · have hexec : exec (.linkSilence n) s = .next (takeDown s n true) := by
      change execLinkSilence n s = _
      unfold execLinkSilence
      rw [if_pos hup]
    obtain ⟨hcount, hqueued⟩ := takeDown_counts s n
    have hdown := takenDown_takeDown s n true
    exact ⟨_, hexec, hdown.st_self, hqueued, hcount, hdown.mem⟩

end Sys2Proof.Machine
end

section
/-! O33. Failure reports and probes. -/

open Sys2Proof
namespace Sys2Proof.Machine

variable {s : State} {h : MendHdr} {t : GroupT}

theorem withTable_of_some {u : State} (htable : u.mend.table = some t) (f : GroupT → State) : withTable u f = f t := by
  unfold withTable
  rw [htable]

theorem suspectRx_eq (htable : s.mend.table = some t) : exec (.suspectRx h) s = .next (
    let s2 := bump (takeMend s h) O.groupCntSuspect
    match lowestLiveBut t h.subject with
    | none => s2
    | some k =>
      if k ≠ t.self then
        (if h.passed then s2 else sendMend s2 k { mendHdr s2 2 h.subject h.step with marked := h.marked, passed := true })
      else if h.marked then runKeeperFail s2 h.subject
      else if notFailed t h.subject then probeRank s2 h.subject
      else s2) := by
  exact congrArg Host.Outcome.next (withTable_of_some (u := takeMend s h) htable _)

/-- The probes of the answer to a probe: all but the one answered. -/
theorem notMem_erase_of_nodup {l : List Nat} (hnodup : l.Nodup) (r : Nat) : r ∉ l.erase r := by
  simp [hnodup.mem_erase_iff]

theorem probeAckRx_completes (htable : s.mend.table = some t) (hprobed : h.subject ∈ s.mend.probes)
    (hnodup : s.mend.probes.Nodup)
    (hspares : addSparesFor s h.subject = []) : completes (.probeAckRx h) s (fun u =>
      h.subject ∉ u.mend.probes ∧ u = { takeMend s h with mend := u.mend } ∧ u.mend.table = some t) := by
  obtain ⟨w, hw⟩ : ∃ w, w = (takeMend s h).withMend (fun m => { m with probes := m.probes.erase h.subject }) := ⟨_, rfl⟩
  have hexec : exec (.probeAckRx h) s = .next w := by
    change execProbeAckRx h s = _
    unfold execProbeAckRx
    dsimp only
    rw [withTable_of_some (u := takeMend s h) htable, if_pos (List.contains_iff_mem.mpr (by exact hprobed))]
    have hnone : addSparesFor w h.subject = [] := by rw [hw]; exact hspares
    rw [← hw, hnone]
  exact ⟨_, hexec, by rw [hw]; exact notMem_erase_of_nodup hnodup _, by rw [hw]; rfl, by rw [hw]; exact htable⟩

theorem probeTimeout_completes {r : Nat} (htable : s.mend.table = some t) (hprobed : r ∈ s.mend.probes)
    (hnodup : s.mend.probes.Nodup)
    (hspares : addSparesFor s r = []) : completes (.probeTimeout r) s (fun u => ∃ v,
      u = runKeeperFail v r ∧ r ∉ v.mend.probes ∧ v.mend.table = some t ∧
        csrGet v O.groupCntProbeFail = min (csrGet s O.groupCntProbeFail + 1) 0xFFFFFFFF) := by
  obtain ⟨w, hw⟩ : ∃ w, w = bump (s.withMend (fun m => { m with probes := m.probes.erase r })) O.groupCntProbeFail :=
      ⟨_, rfl⟩
  have hexec : exec (.probeTimeout r) s = .next (runKeeperFail w r) := by
    change execProbeTimeout r s = _
    unfold execProbeTimeout
    rw [if_pos (List.contains_iff_mem.mpr (by exact hprobed))]
    have hnone : addSparesFor w r = [] := by rw [hw]; exact hspares
    dsimp only
    rw [← hw, hnone]
  refine ⟨_, hexec, w, rfl, by rw [hw]; exact notMem_erase_of_nodup hnodup _, by rw [hw]; exact htable, ?_⟩
  rw [hw]
  exact csrGet_bump_same _ _

/-- Settles O33: each report acts through the one branch that the lowest LIVE rank selects. -/
theorem failureReports : Obligations.FailureReports := by
  unfold Obligations.FailureReports
  intro s h t r k s1 s2 htable
  have hdepart : exec (.departRx h) s = .next (if lowestLiveBut t h.src = some t.self then runKeeperFail s1 h.src else s1)
      := by
    change execDepartRx h s = _
    unfold execDepartRx
    dsimp only
    rw [withTable_of_some (u := takeMend s h) htable]
  have hsuspect := suspectRx_eq (h := h) htable
  have hprobe : exec (.probeRx h) s = .next (if isSelf t h.subject then sendMend s1 h.src (mendHdr s1 4 h.subject 0) else
      s1) := by
    change execProbeRx h s = _
    unfold execProbeRx
    dsimp only
    rw [withTable_of_some (u := takeMend s h) htable]
  refine ⟨fun hself => ?_, fun hother => ?_, fun hk hother hpassed => ?_, fun hk hother hpassed => ?_, fun hself hmarked =>
      ?_,
    fun hself hmarked hfine => ?_, fun hmarks hfine hk => ?_, fun hself => ?_, fun hother => ?_,
    fun hprobed hnodup hspares => probeAckRx_completes htable hprobed hnodup hspares,
    fun hprobed hnodup hspares => probeTimeout_completes htable hprobed hnodup hspares⟩
  · rw [if_pos hself] at hdepart
    exact ⟨_, hdepart, rfl⟩
  · rw [if_neg hother] at hdepart
    exact ⟨_, hdepart, rfl⟩
  · simp only [hk, hother, hpassed, ne_eq, not_false_eq_true, if_true, Bool.false_eq_true, if_false] at hsuspect
    exact ⟨_, hsuspect, rfl⟩
  · simp only [hk, hother, hpassed, ne_eq, not_false_eq_true, if_true] at hsuspect
    exact ⟨_, hsuspect, rfl⟩
  · simp only [hself, hmarked, ne_eq, not_true_eq_false, if_false, if_true] at hsuspect
    exact ⟨_, hsuspect, rfl⟩
  · simp only [hself, hmarked, hfine, ne_eq, not_true_eq_false, if_false, if_true, Bool.false_eq_true] at hsuspect
    obtain ⟨hrelays, hadded⟩ := relays_probeRank s2 h.subject
    exact ⟨_, hsuspect, hadded, hrelays.table.trans htable, hrelays.mem⟩
  · have hany : s.mend.marks.any (fun m => decide (m.1 = r)) = true := by
      obtain ⟨m, hm, hrank⟩ := hmarks
      exact List.any_eq_true.mpr ⟨m, hm, decide_eq_true hrank⟩
    have hexec : exec (.suspectResend r) s = .next (sendMend s k { mendHdr s 2 r 0 with marked := true }) := by
      change execSuspectResend r s = _
      unfold execSuspectResend
      rw [withTable_of_some htable, if_pos ⟨hany, hfine⟩, hk]
    exact ⟨_, hexec, rfl⟩
  · rw [if_pos hself] at hprobe
    exact ⟨_, hprobe, rfl⟩
  · rw [if_neg (by rw [hother]; decide)] at hprobe
    exact ⟨_, hprobe, rfl⟩

end Sys2Proof.Machine
end

section
/-! Lanes as bits, and what one step of the settling of lanes does (R425 to R429). -/

open Sys2Proof
namespace Sys2Proof.Machine

/-! ### Lane masks -/

theorem testBit_setBit (n l v i : Nat) : (setBits n l l v).testBit i = if i = l then decide (v % 2 = 1) else n.testBit i :=
    by
  rw [testBit_setBits]
  by_cases h : i = l
  · subst h
    simp
  · rw [if_neg h, if_neg (by omega)]

theorem testBit_lanesBut {f i : Nat} (hf : f < 32) (hi : i < 5) : (31 - f).testBit i = !f.testBit i := by
  have hall : ∀ f < 32, ∀ i < 5, (31 - f).testBit i = !f.testBit i := by decide
  exact hall f hf i hi

theorem laneCount_mono {a b : Nat} (h : ∀ i, i < 5 → a.testBit i = true → b.testBit i = true) : laneCount a ≤ laneCount b :=
    by
  unfold laneCount
  rw [← List.countP_eq_length_filter, ← List.countP_eq_length_filter]
  exact List.countP_mono_left fun i hi => h i (List.mem_range.mp hi)

theorem lowestLane_zero : lowestLane 0 = none := rfl

theorem lowestLane_eq {m l : Nat} (hl : l < 5) (hm : ∀ i, i < 5 → m.testBit i = decide (i = l)) : lowestLane m = some l :=
    by
  unfold lowestLane
  rw [List.find?_range_eq_some]
  refine ⟨?_, List.mem_range.mpr hl, fun j hj => ?_⟩
  · rw [bitOf, hm l hl]
    simp
  · rw [bitOf, hm j (by omega), decide_eq_false (by omega)]
    rfl

theorem eq_zero_of_testBit {m : Nat} (h : ∀ i, m.testBit i = false) : m = 0 := Nat.eq_of_testBit_eq fun i => by simp [h i]

theorem testBit_disjoint {a b : Nat} (h : a &&& b = 0) (i : Nat) : (a.testBit i && b.testBit i) = false := by
  rw [← Nat.testBit_and, h, Nat.zero_testBit]

theorem setBits_lane_lt {n l : Nat} (v : Nat) (hn : n < 32) (hl : l < 5) : setBits n l l v < 32 := by
  refine Nat.lt_pow_two_of_testBit (n := 5) _ fun i hi => ?_
  rw [testBit_setBit, if_neg (by omega)]
  exact Nat.testBit_lt_two_pow (lt_of_lt_of_le hn (Nat.pow_le_pow_right (n := 2) (by decide) hi))

/-- The lanes that a link could run on, lane by lane. -/
theorem testBit_usable {a k f i : Nat} (hf : f < 32) (hi : i < 5) :
    ((a ||| k) &&& (31 - f)).testBit i = ((a.testBit i || k.testBit i) && !f.testBit i) := by
  rw [Nat.testBit_and, Nat.testBit_or, testBit_lanesBut hf hi]

/-- Lanes mapped that have not failed are usable. -/
theorem usable_of_mapped {k : Link} {m : Nat} (hactive : k.active = m) (hfailed : k.failed < 32) (hm : 2 ≤ laneCount m)
    (hfree : ∀ i, i < 5 → m.testBit i = true → k.failed.testBit i = false) : 2 ≤ k.usable := by
  refine le_trans hm (laneCount_mono fun i hi hbit => ?_)
  rw [testBit_usable hfailed hi, hactive, hbit, hfree i hi hbit]
  rfl

/-! ### The settling of lanes -/

section
variable {s u : State} {n : Nat}

theorem settleLane_of_not_up (h : (getLink s n).st ≠ .up) : settleLane s n = s := by
  unfold settleLane
  rw [if_pos h]

theorem settleLane_of_reform (husable : 2 ≤ (getLink s n).usable) (hreform : (getLink s n).reform = true) : settleLane s n =
    s := by
  unfold settleLane
  dsimp only
  rw [if_pos hreform]
  split
  · rfl
  · exact if_neg (by omega)

/-- A link whose active lanes have not failed stays. -/
theorem settleLane_of_sound (husable : 2 ≤ (getLink s n).usable) (hsound : (getLink s n).active &&& (getLink s n).failed =
    0) :
    settleLane s n = s := by
  unfold settleLane
  dsimp only
  split
  · rfl
  · rw [if_neg (by omega), hsound, lowestLane_zero]
    split <;> rfl

theorem settleLane_of_few (hup : (getLink s n).st = .up) (husable : (getLink s n).usable < 2) :
    settleLane s n = takeDown s n true := by
  unfold settleLane
  dsimp only
  rw [if_neg (by simp [hup]), if_pos husable]

theorem settleLane_spare {l : Nat} (hup : (getLink s n).st = .up) (husable : 2 ≤ (getLink s n).usable)
    (hreform : (getLink s n).reform = false) (hlane : lowestLane ((getLink s n).active &&& (getLink s n).failed) = some l)
    (hshed : (getLink s n).preShed = none)
    (hspare : bitOf (getLink s n).active 4 = false ∧ bitOf (getLink s n).failed 4 = false ∧ bitOf (getLink s n).lock 4 =
        true) :
    settleLane s n = sendLaneMap (raise (bump (setLink s n { getLink s n with
      active := setBits (setBits (getLink s n).active l l 0) 4 4 1 }) (O.seamCntSpare n)) 0x5001 1 3 5 n) n := by
  have hfull : (getLink s n).full = (getLink s n).active := by
    unfold Link.full
    rw [hshed]
    rfl
  obtain ⟨h1, h2, h3⟩ := hspare
  unfold settleLane
  dsimp only
  rw [if_neg (by simp [hup]), if_neg (by omega), if_neg (by rw [hreform]; decide), hlane]
  dsimp only
  rw [hfull, h1, h2, h3, if_pos (by rfl), hshed]
  rfl

theorem settleLane_narrow {l : Nat} (hup : (getLink s n).st = .up) (husable : 2 ≤ (getLink s n).usable)
    (hreform : (getLink s n).reform = false) (hlane : lowestLane ((getLink s n).active &&& (getLink s n).failed) = some l)
    (hshed : (getLink s n).preShed = none)
    (hspare : bitOf (getLink s n).active 4 = true ∨ bitOf (getLink s n).failed 4 = true ∨ bitOf (getLink s n).lock 4 =
        false) :
    settleLane s n = sendLaneMap (raise (setLink s n { getLink s n with
      active := setBits (getLink s n).active l l 0, reform := true }) 0x5002 0 3 5 n) n := by
  have hfull : (getLink s n).full = (getLink s n).active := by
    unfold Link.full
    rw [hshed]
    rfl
  have hnone : ¬ (!bitOf (getLink s n).active 4 && !bitOf (getLink s n).failed 4 && bitOf (getLink s n).lock 4) = true := by
    rcases hspare with h | h | h <;> simp [h]
  unfold settleLane
  dsimp only
  rw [if_neg (by simp [hup]), if_neg (by omega), if_neg (by rw [hreform]; decide), hlane]
  dsimp only
  rw [hfull, if_neg hnone, hshed]
  rfl

/-- Once a step of the settling changes nothing, the rest of it changes nothing. -/
theorem settleLanes_of_fixed (h : settleLane s n = u) (hfixed : settleLane u n = u) : settleLanes s n = u := by
  unfold settleLanes
  rw [show List.range 5 = [0, 1, 2, 3, 4] from rfl]
  simp only [List.foldl_cons, List.foldl_nil, h, hfixed]

theorem settleLanes_of_sound (husable : 2 ≤ (getLink s n).usable) (hsound : (getLink s n).active &&& (getLink s n).failed =
    0) :
    settleLanes s n = s :=
  settleLanes_of_fixed (settleLane_of_sound husable hsound) (settleLane_of_sound husable hsound)

theorem settleLanes_of_reform (husable : 2 ≤ (getLink s n).usable) (hreform : (getLink s n).reform = true) : settleLanes s n
    = s :=
  settleLanes_of_fixed (settleLane_of_reform husable hreform) (settleLane_of_reform husable hreform)

theorem sendLaneMap_eq (s : State) (n : Nat) : sendLaneMap s n =
    { s with out := .control n (.laneMap (getLink s n).active (getLink s n).txSeq) (getLink s n).ack :: s.out } :=
        emitCtl_eq _ _ _

/-- A link with too few lanes goes down once. -/
theorem settleLanes_of_few (hup : (getLink s n).st = .up) (husable : (getLink s n).usable < 2) :
    settleLanes s n = takeDown s n true := by
  refine settleLanes_of_fixed (settleLane_of_few hup husable) (settleLane_of_not_up ?_)
  rw [(takenDown_takeDown s n true).st_self]
  split <;> decide

theorem actOnFailed_of_up (hup : (getLink s n).st = .up) : actOnFailed s n = settleLanes s n := by
  unfold actOnFailed
  dsimp only
  rw [if_neg]
  rintro ⟨htrain, -⟩
  rw [hup] at htrain
  exact absurd htrain (by decide)

end
end Sys2Proof.Machine
end

section
/-! O36, first part: a lane that fails, and the LANE_MAP of the other side. -/

open Sys2Proof
namespace Sys2Proof.Machine

variable {s : State} {n l : Nat}

/-- An event of severity CORRECTED leaves every register outside ERRLOG. -/
theorem csrGet_raise_notice (s : State) {code o : Nat} (cls srcKind src : Nat) (info : List Nat)
    (hcode : code < 0x10000) (ho : outsideErrlog o) : csrGet (raise s code 1 cls srcKind src info) o = csrGet s o := by
  have hcount := csrGet_countEvent s hcode (show 1 ≤ 4 by decide) ho
  unfold raise
  rw [if_neg (by omega), placeEvent, if_neg (by decide), if_neg (by decide)]
  split
  · exact hcount
  · rw [if_neg (by decide)]
    split
    · exact csrGet_enqueue s _ hcode (by decide) ho
    · have hlost : o ≠ O.errlogLost := by unfold outsideErrlog at ho; simp only [O.errlogLost]; omega
      rw [if_neg (by decide)]
      exact (csrGet_bump_other _ _ hlost).trans hcount

theorem exec_laneFail (s : State) (n l : Nat) : exec (.laneFail n l) s = .next (failLane s n l) := rfl

/-- A link with lane `l` marked failed. -/
def laneMarked (k : Link) (l : Nat) : Link := { k with failed := setBits k.failed l l 1, lock := setBits k.lock l l 0 }

theorem failLane_of_up (hup : (getLink s n).st = .up) (hl : l < 5) :
    failLane s n l = settleLanes (setLink s n (laneMarked (getLink s n) l)) n := by
  have hmark : markFailed s n l = setLink s n (laneMarked (getLink s n) l) := by
    unfold markFailed
    dsimp only
    rw [if_neg (by omega)]
    split
    · rfl
    · next h => exact absurd (hup.symm.trans h) (by decide)
    · next hnotUp _ => exact absurd hup hnotUp
  unfold failLane
  rw [hmark, actOnFailed_of_up]
  rw [getLink_setLink_same]
  exact hup

theorem failed_laneMarked (k : Link) (l i : Nat) : (laneMarked k l).failed.testBit i =
    (decide (i = l) || k.failed.testBit i) := by
  unfold laneMarked
  rw [testBit_setBit]
  by_cases h : i = l <;> simp [h]

/-- The lane just marked is the one to act on, where no other active lane has failed. -/
theorem lowestLane_laneMarked {k : Link} (hl : l < 5) (hsound : k.active &&& k.failed = 0)
    (hactive : bitOf k.active l = true) :
    lowestLane ((laneMarked k l).active &&& (laneMarked k l).failed) = some l := by
  refine lowestLane_eq hl fun i hi => ?_
  have hfree := testBit_disjoint hsound i
  rw [Nat.testBit_and, failed_laneMarked]
  change (k.active.testBit i && _) = _
  by_cases h : i = l
  · subst h
    rw [show k.active.testBit i = true from hactive]
    simp
  · simp [h, hfree]

/-- A lane marked that carried nothing leaves the active lanes sound. -/
theorem sound_laneMarked {k : Link} (hsound : k.active &&& k.failed = 0) (hactive : bitOf k.active l = false) :
    (laneMarked k l).active &&& (laneMarked k l).failed = 0 := by
  refine eq_zero_of_testBit fun i => ?_
  have hfree := testBit_disjoint hsound i
  rw [Nat.testBit_and, failed_laneMarked]
  change (k.active.testBit i && _) = _
  by_cases h : i = l
  · subst h
    rw [show k.active.testBit i = false from hactive]
    rfl
  · simp [h, hfree]

/-- What an event of severity NOTE or CORRECTED leaves of the links. -/
theorem raise_minor_frame (s : State) {sev : Nat} (hsev : sev < 2) (code cls srcKind src : Nat) (info : List Nat) :
    (∀ m, getLink (raise s code sev cls srcKind src info) m = getLink s m) ∧
      (raise s code sev cls srcKind src info).out = s.out ∧ (raise s code sev cls srcKind src info).mem = s.mem := by
  obtain ⟨_, _, h⟩ := raise_minor_eq_with s hsev code cls srcKind src info
  rw [h]
  exact ⟨fun _ => rfl, rfl, rfl⟩

/-! ### The spare takes the failed lane's place -/

/-- A link whose lane `l` was replaced by the spare. -/
def laneSwapped (k : Link) (l : Nat) : Link := { k with active := setBits (setBits k.active l l 0) 4 4 1 }

theorem active_laneSwapped (k : Link) (l i : Nat) :
    (laneSwapped k l).active.testBit i = (decide (i = 4) || (!decide (i = l) && k.active.testBit i)) := by
  unfold laneSwapped
  rw [testBit_setBit, testBit_setBit]
  by_cases h4 : i = 4
  · simp [h4]
  · by_cases hi : i = l <;> simp [h4, hi]

theorem usable_laneSwapped {k : Link} (hfailed : k.failed < 32) (hl : k.failed.testBit l = true) :
    k.usable ≤ (laneSwapped k l).usable := by
  refine laneCount_mono fun i hi hbit => ?_
  change (((laneSwapped k l).active ||| k.lock) &&& (31 - k.failed)).testBit i = true
  rw [testBit_usable hfailed hi] at hbit ⊢
  obtain ⟨hor, hsound⟩ := Bool.and_eq_true_iff.mp hbit
  have hne : i ≠ l := by
    rintro rfl
    rw [hl] at hsound
    exact absurd hsound (by decide)
  rw [active_laneSwapped, hsound, Bool.and_true, decide_eq_false hne]
  by_cases h4 : i = 4
  · simp [h4]
  · simpa [h4] using hor

theorem sound_laneSwapped {k : Link} (hfree : ∀ i, i ≠ l → (k.active.testBit i && k.failed.testBit i) = false)
    (hspare : bitOf k.failed 4 = false) : (laneSwapped k l).active &&& (laneSwapped k l).failed = 0 := by
  refine eq_zero_of_testBit fun i => ?_
  rw [Nat.testBit_and]
  change ((laneSwapped k l).active.testBit i && k.failed.testBit i) = false
  by_cases h4 : i = 4
  · subst h4
    rw [show k.failed.testBit 4 = false from hspare, Bool.and_false]
  · rw [active_laneSwapped, decide_eq_false h4, Bool.false_or]
    by_cases hi : i = l
    · simp [hi]
    · simpa [hi] using hfree i hi

theorem laneFail_spare {k : Link} (hk : getLink s n = k) (hl : l < 5) (hup : k.st = .up) (hfailed : k.failed < 32)
    (hsound : k.active &&& k.failed = 0) (hreform : k.reform = false) (hshed : k.preShed = none)
        (hactive : bitOf k.active l = true)
    (husable : 2 ≤ (laneMarked k l).usable)
    (hspare : bitOf k.active 4 = false ∧ bitOf (laneMarked k l).failed 4 = false ∧ bitOf (laneMarked k l).lock 4 = true) :
    completes (.laneFail n l) s (fun u =>
      getLink u n = laneSwapped (laneMarked k l) l ∧
      u.out = .control n (.laneMap (laneSwapped (laneMarked k l) l).active k.txSeq) k.ack :: s.out ∧
      csrGet u (O.seamCntSpare n) = min (csrGet s (O.seamCntSpare n) + 1) 0xFFFFFFFF ∧ (hasRoom s 1 → queued u 1 0x5001) ∧
      u.mem = s.mem) := by
  obtain ⟨k1, hk1⟩ : ∃ k1, k1 = laneMarked k l := ⟨_, rfl⟩
  have hlane : lowestLane (k1.active &&& k1.failed) = some l := by rw [hk1]; exact lowestLane_laneMarked hl hsound hactive
  have hfree : ∀ i, i ≠ l → (k1.active.testBit i && k1.failed.testBit i) = false := fun i hi => by
    rw [hk1, failed_laneMarked, decide_eq_false hi, Bool.false_or]
    exact testBit_disjoint hsound i
  have hfailed1 : k1.failed < 32 := by rw [hk1]; exact setBits_lane_lt _ hfailed hl
  have hmarked : k1.failed.testBit l = true := by rw [hk1, failed_laneMarked]; simp
  have hup1 : k1.st = .up := by rw [hk1]; exact hup
  have hreform1 : k1.reform = false := by rw [hk1]; exact hreform
  have hshed1 : k1.preShed = none := by rw [hk1]; exact hshed
  have hsend1 : k1.txSeq = k.txSeq ∧ k1.ack = k.ack := by rw [hk1]; exact ⟨rfl, rfl⟩
  have hspare1 : bitOf k1.active 4 = false ∧ bitOf k1.failed 4 = false ∧ bitOf k1.lock 4 = true := by rw [hk1]; exact hspare
  rw [← hk1] at husable ⊢
  obtain ⟨v, hv⟩ : ∃ v, v = raise (bump (setLink (setLink s n k1) n (laneSwapped k1 l)) (O.seamCntSpare n)) 0x5001 1 3 5 n
      [] := ⟨_, rfl⟩
  obtain ⟨hlinks, hout, hmem⟩ := raise_minor_frame (bump (setLink (setLink s n k1) n (laneSwapped k1 l)) (O.seamCntSpare n))
    (sev := 1) (by decide) 0x5001 3 5 n []
  rw [← hv] at hlinks hout hmem
  have hvlink : getLink v n = laneSwapped k1 l := (hlinks n).trans (getLink_setLink_same _ _ _)
  have hstep : settleLane (setLink s n k1) n = sendLaneMap v n := by
    have hsettle := settleLane_spare (s := setLink s n k1) (n := n) (l := l)
    rw [getLink_setLink_same] at hsettle
    rw [hsettle hup1 husable hreform1 hlane hshed1 hspare1, hv]
    rfl
  have hsend := sendLaneMap_eq v n
  rw [hvlink] at hsend
  have hulink : getLink (sendLaneMap v n) n = laneSwapped k1 l := by
    rw [hsend]
    exact hvlink
  have hfixed : settleLane (sendLaneMap v n) n = sendLaneMap v n :=
    settleLane_of_sound (by rw [hulink]; exact le_trans husable (usable_laneSwapped hfailed1 hmarked))
      (by rw [hulink]; exact sound_laneSwapped hfree hspare1.2.1)
  have hexec := exec_laneFail s n l
  rw [failLane_of_up (by rw [hk]; exact hup) hl, hk, ← hk1, settleLanes_of_fixed hstep hfixed] at hexec
  refine ⟨_, hexec, hulink, ?_, ?_, fun hroom => ?_, ?_⟩
  · rw [hsend, hout, ← hsend1.1, ← hsend1.2]
    rfl
  · rw [hsend]
    change csrGet v (O.seamCntSpare n) = _
    rw [hv, csrGet_raise_notice _ 3 5 n [] (by decide) (outsideErrlog_seam (by unfold O.seamCntSpare; omega)),
        csrGet_bump_same]
    rfl
  · rw [hsend]
    change queued v 1 0x5001
    rw [hv]
    exact queued_raise_notice _ _ _ _ _ _ hroom
  · rw [hsend]
    exact hmem

/-! ### The link narrows -/

/-- A link that goes on without lane `l` and re-forms. -/
def laneDropped (k : Link) (l : Nat) : Link := { k with active := setBits k.active l l 0, reform := true }

theorem usable_laneDropped {k : Link} (hfailed : k.failed < 32) (hl : k.failed.testBit l = true) :
    k.usable ≤ (laneDropped k l).usable := by
  refine laneCount_mono fun i hi hbit => ?_
  change ((setBits k.active l l 0 ||| k.lock) &&& (31 - k.failed)).testBit i = true
  rw [testBit_usable hfailed hi] at hbit ⊢
  obtain ⟨hor, hsound⟩ := Bool.and_eq_true_iff.mp hbit
  have hne : i ≠ l := by
    rintro rfl
    rw [hl] at hsound
    exact absurd hsound (by decide)
  rw [testBit_setBit, if_neg hne, hor, hsound]
  rfl

theorem laneFail_narrow {k : Link} (hk : getLink s n = k) (hl : l < 5) (hup : k.st = .up) (hfailed : k.failed < 32)
    (hsound : k.active &&& k.failed = 0) (hreform : k.reform = false) (hshed : k.preShed = none)
        (hactive : bitOf k.active l = true)
    (husable : 2 ≤ (laneMarked k l).usable)
    (hspare : bitOf k.active 4 = true ∨ bitOf (laneMarked k l).failed 4 = true ∨ bitOf (laneMarked k l).lock 4 = false) :
    completes (.laneFail n l) s (fun u =>
      getLink u n = laneDropped (laneMarked k l) l ∧
      u.out = .control n (.laneMap (setBits k.active l l 0) k.txSeq) k.ack :: s.out ∧ (hasRoom s 0 → queued u 0 0x5002) ∧
      u.mem = s.mem) := by
  obtain ⟨k1, hk1⟩ : ∃ k1, k1 = laneMarked k l := ⟨_, rfl⟩
  have hlane : lowestLane (k1.active &&& k1.failed) = some l := by rw [hk1]; exact lowestLane_laneMarked hl hsound hactive
  have hfailed1 : k1.failed < 32 := by rw [hk1]; exact setBits_lane_lt _ hfailed hl
  have hmarked : k1.failed.testBit l = true := by rw [hk1, failed_laneMarked]; simp
  have hup1 : k1.st = .up := by rw [hk1]; exact hup
  have hreform1 : k1.reform = false := by rw [hk1]; exact hreform
  have hshed1 : k1.preShed = none := by rw [hk1]; exact hshed
  have hsend1 : k1.active = k.active ∧ k1.txSeq = k.txSeq ∧ k1.ack = k.ack := by rw [hk1]; exact ⟨rfl, rfl, rfl⟩
  have hspare1 : bitOf k1.active 4 = true ∨ bitOf k1.failed 4 = true ∨ bitOf k1.lock 4 = false := by rw [hk1]; exact hspare
  rw [← hk1] at husable ⊢
  obtain ⟨v, hv⟩ : ∃ v, v = raise (setLink (setLink s n k1) n (laneDropped k1 l)) 0x5002 0 3 5 n [] := ⟨_, rfl⟩
  obtain ⟨hlinks, hout, hmem⟩ := raise_minor_frame (setLink (setLink s n k1) n (laneDropped k1 l)) (sev := 0) (by decide)
      0x5002 3 5 n []
  rw [← hv] at hlinks hout hmem
  have hvlink : getLink v n = laneDropped k1 l := (hlinks n).trans (getLink_setLink_same _ _ _)
  have hstep : settleLane (setLink s n k1) n = sendLaneMap v n := by
    have hsettle := settleLane_narrow (s := setLink s n k1) (n := n) (l := l)
    rw [getLink_setLink_same] at hsettle
    rw [hsettle hup1 husable hreform1 hlane hshed1 hspare1, hv]
    rfl
  have hsend := sendLaneMap_eq v n
  rw [hvlink] at hsend
  have hulink : getLink (sendLaneMap v n) n = laneDropped k1 l := by
    rw [hsend]
    exact hvlink
  have hfixed : settleLane (sendLaneMap v n) n = sendLaneMap v n :=
    settleLane_of_reform (by rw [hulink]; exact le_trans husable (usable_laneDropped hfailed1 hmarked))
        (by rw [hulink]; rfl)
  have hexec := exec_laneFail s n l
  rw [failLane_of_up (by rw [hk]; exact hup) hl, hk, ← hk1, settleLanes_of_fixed hstep hfixed] at hexec
  refine ⟨_, hexec, hulink, ?_, fun hroom => ?_, ?_⟩
  · rw [hsend, hout, ← hsend1.1, ← hsend1.2.1, ← hsend1.2.2]
    rfl
  · rw [hsend]
    change queued v 0 0x5002
    rw [hv]
    exact queued_raise_note _ _ _ _ _ _ (.inl hroom)
  · rw [hsend]
    exact hmem

/-! ### Nothing to do, or too few lanes -/

theorem laneFail_marks {k : Link} (hk : getLink s n = k) (hl : l < 5) (hup : k.st = .up)
    (husable : 2 ≤ (laneMarked k l).usable)
    (hidle : k.reform = true ∨ k.active &&& k.failed = 0 ∧ bitOf k.active l = false) :
    completes (.laneFail n l) s (fun u => u = setLink s n (laneMarked k l)) := by
  have hexec := exec_laneFail s n l
  rw [failLane_of_up (by rw [hk]; exact hup) hl, hk] at hexec
  refine ⟨_, hexec, ?_⟩
  rcases hidle with hreform | ⟨hsound, hidle⟩
  · exact settleLanes_of_reform (by rw [getLink_setLink_same]; exact husable) (by rw [getLink_setLink_same]; exact hreform)
  · exact settleLanes_of_sound (by rw [getLink_setLink_same]; exact husable)
      (by rw [getLink_setLink_same]; exact sound_laneMarked hsound hidle)

/-- What a link that went down by itself leaves of its state and count. -/
theorem takeDown_of_marked {k : Link} :
    (getLink (takeDown (setLink s n k) n true) n).st = (if csrBit s (O.seamCtrl n) 0 then .training else .off) ∧
      csrGet (takeDown (setLink s n k) n true) (O.seamCntDown n) = min (csrGet s (O.seamCntDown n) + 1) 0xFFFFFFFF :=
  ⟨(takenDown_takeDown (setLink s n k) n true).st_self, (takeDown_counts (setLink s n k) n).1⟩

theorem laneFail_few {k : Link} (hk : getLink s n = k) (hl : l < 5) (hup : k.st = .up)
    (husable : (laneMarked k l).usable < 2) :
    completes (.laneFail n l) s (fun u => (getLink u n).st = (if csrBit s (O.seamCtrl n) 0 then .training else .off) ∧
      csrGet u (O.seamCntDown n) = min (csrGet s (O.seamCntDown n) + 1) 0xFFFFFFFF) := by
  have hexec := exec_laneFail s n l
  rw [failLane_of_up (by rw [hk]; exact hup) hl, hk, settleLanes_of_few (by rw [getLink_setLink_same]; exact hup)
    (by rw [getLink_setLink_same]; exact husable)] at hexec
  exact ⟨_, hexec, takeDown_of_marked⟩

theorem laneFail_none {k : Link} (hk : getLink s n = k)
    (h : k.st = .off ∨ k.st = .down ∨ k.st = .up ∧ 5 ≤ l ∧ k.active &&& k.failed = 0 ∧ 2 ≤ k.usable) :
    completes (.laneFail n l) s (fun u => u = s) := by
  subst hk
  have hnot : (getLink s n).st ≠ .training := by
    rcases h with h | h | ⟨h, -⟩ <;> rw [h] <;> decide
  have hmark : markFailed s n l = s := by
    unfold markFailed
    dsimp only
    split
    · rfl
    · next hl =>
      split
      · next hup =>
        rcases h with h | h | ⟨-, h5, -⟩
        · exact absurd (h.symm.trans hup) (by decide)
        · exact absurd (h.symm.trans hup) (by decide)
        · exact absurd h5 hl
      · next htrain => exact absurd htrain hnot
      · rfl
  have hact : actOnFailed s n = settleLanes s n := by
    unfold actOnFailed
    dsimp only
    rw [if_neg (fun hc => hnot hc.1)]
  refine ⟨_, exec_laneFail s n l, ?_⟩
  dsimp only
  rw [failLane, hmark, hact]
  rcases h with h | h | ⟨-, -, hsound, husable⟩
  · exact settleLanes_of_fixed (settleLane_of_not_up (by rw [h]; decide)) (settleLane_of_not_up (by rw [h]; decide))
  · exact settleLanes_of_fixed (settleLane_of_not_up (by rw [h]; decide)) (settleLane_of_not_up (by rw [h]; decide))
  · exact settleLanes_of_sound husable hsound

end Sys2Proof.Machine
end

section
/-! O36, second part: what a LANE_MAP, the shedding of lanes and the end of a re-forming do. -/

open Sys2Proof
namespace Sys2Proof.Machine

variable {s : State} {n m : Nat}

theorem replayWaited_of_not_due (h : (getLink s n).replayDue = false) : replayWaited s n = s := by
  unfold replayWaited
  dsimp only
  rw [h, if_neg (by simp)]

/-! ### LANE_MAP -/

/-- What a map of at least two lanes makes of a link, before the lanes settle. -/
def lanesMapped (s : State) (n m : Nat) : State :=
  let k := { getLink s n with mapNext := none }
  let gone := k.active &&& (31 - m)
  let fewer := { k with failed := k.failed ||| gone, preShed := k.preShed.map (fun p => (p &&& (31 - gone)) ||| m) }
  if laneCount m = laneCount k.active then
    raise (bump (setLink s n { fewer with active := m }) (O.seamCntSpare n)) 0x5001 1 3 5 n
  else if laneCount m + 1 = laneCount k.active then
    raise (setLink s n { fewer with active := m, reform := true }) 0x5002 0 3 5 n
  else if laneCount m < laneCount k.active then
    setLink s n { k with preShed := some k.full, active := m, reform := true }
  else setLink s n { k with active := m, preShed := none, failed := k.failed &&& (31 - m) }

theorem applyLaneMap_eq (hup : (getLink s n).st = .up) (hm : m < 32) : applyLaneMap s n m =
    if m = (getLink s n).active then setLink s n { getLink s n with mapNext := none }
    else if laneCount m < 2 then takeDown s n true
    else replayWaited (settleLanes (lanesMapped s n m) n) n := by
  unfold applyLaneMap
  rw [Nat.mod_eq_of_lt hm]
  exact if_neg (fun h => h hup)

theorem exec_laneMapRx_now (hup : (getLink s n).st = .up) :
    exec (.laneMapRx n m (getLink s n).rxSeq) s = .next (applyLaneMap s n m) := by
  change execLaneMapRx n m (getLink s n).rxSeq s = _
  unfold execLaneMapRx
  dsimp only
  rw [if_neg (fun h => h hup), if_pos rfl]

/-- A map that leaves the lanes settled and nothing to replay is the whole of the command. -/
theorem exec_laneMapRx_mapped (hup : (getLink s n).st = .up) (hm : m < 32) (hnew : m ≠ (getLink s n).active)
    (htwo : 2 ≤ laneCount m)
    (hsettled : settleLanes (lanesMapped s n m) n = lanesMapped s n m)
        (hdue : (getLink (lanesMapped s n m) n).replayDue = false) :
    exec (.laneMapRx n m (getLink s n).rxSeq) s = .next (lanesMapped s n m) := by
  rw [exec_laneMapRx_now hup, applyLaneMap_eq hup hm, if_neg hnew, if_neg (by omega), hsettled, replayWaited_of_not_due
      hdue]

section
variable {k : Link}

/-- The lanes gone by a map are marked failed, and none that the map names. -/
theorem mapped_failed (hm : m < 32) (hk : k.failed < 32) (hsound : m &&& k.failed = 0) :
    k.failed ||| (k.active &&& (31 - m)) < 32 ∧
      ∀ i, i < 5 → m.testBit i = true → (k.failed ||| (k.active &&& (31 - m))).testBit i = false := by
  refine ⟨Nat.or_lt_two_pow (n := 5) hk (lt_of_le_of_lt Nat.and_le_right (by omega)), fun i hi hbit => ?_⟩
  have hfree := testBit_disjoint hsound i
  rw [hbit, Bool.true_and] at hfree
  rw [Nat.testBit_or, Nat.testBit_and, hfree, testBit_lanesBut hm hi, hbit]
  simp

theorem mapped_sound (hm : m < 32) (hk : k.failed < 32) (hsound : m &&& k.failed = 0) :
    m &&& (k.failed ||| (k.active &&& (31 - m))) = 0 := by
  refine eq_zero_of_testBit fun i => ?_
  rw [Nat.testBit_and]
  by_cases hbit : m.testBit i = true
  · have hi : i < 5 := by
      by_contra hge
      have hpow : 2 ^ 5 ≤ 2 ^ i := Nat.pow_le_pow_right (by decide) (show 5 ≤ i by omega)
      rw [Nat.testBit_lt_two_pow (lt_of_lt_of_le hm hpow)] at hbit
      exact absurd hbit (by decide)
    rw [(mapped_failed hm hk hsound).2 i hi hbit, Bool.and_false]
  · rw [Bool.not_eq_true] at hbit
    rw [hbit, Bool.false_and]

theorem laneMapRx_same {k : Link} (hk : getLink s n = k) (hup : k.st = .up) (hm : m < 32) (hsound : m &&& k.failed = 0)
    (hfailed : k.failed < 32)
    (hshed : k.preShed = none) (hdue : k.replayDue = false) (hnew : m ≠ k.active)
    (htwo : 2 ≤ laneCount m) (hcount : laneCount m = laneCount k.active) :
    completes (.laneMapRx n m k.rxSeq) s (fun u =>
      getLink u n = { k with active := m, failed := k.failed ||| (k.active &&& (31 - m)), mapNext := none } ∧ u.out = s.out
          ∧
      csrGet u (O.seamCntSpare n) = min (csrGet s (O.seamCntSpare n) + 1) 0xFFFFFFFF ∧ (hasRoom s 1 → queued u 1 0x5001)) :=
          by
  obtain ⟨k1, hk1⟩ : ∃ k1 : Link, k1 = { k with active := m, failed := k.failed ||| (k.active &&& (31 - m)), mapNext := none
      } := ⟨_, rfl⟩
  have hmapped : lanesMapped s n m = raise (bump (setLink s n k1) (O.seamCntSpare n)) 0x5001 1 3 5 n [] := by
    unfold lanesMapped
    dsimp only
    rw [hk, if_pos hcount, hk1, hshed]
    rfl
  obtain ⟨hlinks, hout, -⟩ := raise_minor_frame (bump (setLink s n k1) (O.seamCntSpare n)) (sev := 1) (by decide) 0x5001 3 5
      n []
  rw [← hmapped] at hlinks hout
  have hlink : getLink (lanesMapped s n m) n = k1 := (hlinks n).trans (getLink_setLink_same _ _ _)
  obtain ⟨hlt, hfree⟩ := mapped_failed hm hfailed hsound
  have hexec := exec_laneMapRx_mapped (s := s) (n := n) (m := m) (by rw [hk]; exact hup) hm (by rw [hk]; exact hnew) htwo
    (settleLanes_of_sound (by rw [hlink, hk1]; exact usable_of_mapped rfl hlt htwo hfree)
      (by rw [hlink, hk1]; exact mapped_sound hm hfailed hsound)) (by rw [hlink, hk1]; exact hdue)
  rw [hk] at hexec
  rw [← hk1]
  refine ⟨_, hexec, hlink, hout, ?_, fun hroom => ?_⟩
  · rw [hmapped, csrGet_raise_notice _ 3 5 n [] (by decide) (outsideErrlog_seam (by unfold O.seamCntSpare; omega)),
        csrGet_bump_same]
    rfl
  · rw [hmapped]
    exact queued_raise_notice _ _ _ _ _ _ hroom

theorem laneMapRx_oneFewer {k : Link} (hk : getLink s n = k) (hup : k.st = .up) (hm : m < 32) (hsound : m &&& k.failed = 0)
    (hfailed : k.failed < 32)
    (hshed : k.preShed = none) (hdue : k.replayDue = false) (hnew : m ≠ k.active)
    (htwo : 2 ≤ laneCount m) (hcount : laneCount m + 1 = laneCount k.active) :
    completes (.laneMapRx n m k.rxSeq) s (fun u =>
      getLink u n = { k with active := m, failed := k.failed ||| (k.active &&& (31 - m)), reform := true, mapNext := none }
          ∧
      u.out = s.out ∧ (hasRoom s 0 → queued u 0 0x5002)) := by
  obtain ⟨k1, hk1⟩ : ∃ k1 : Link, k1 = { k with
    active := m, failed := k.failed ||| (k.active &&& (31 - m)), reform := true, mapNext := none } := ⟨_, rfl⟩
  have hmapped : lanesMapped s n m = raise (setLink s n k1) 0x5002 0 3 5 n [] := by
    unfold lanesMapped
    dsimp only
    rw [hk, if_neg (by omega), if_pos hcount, hk1, hshed]
    rfl
  obtain ⟨hlinks, hout, -⟩ := raise_minor_frame (setLink s n k1) (sev := 0) (by decide) 0x5002 3 5 n []
  rw [← hmapped] at hlinks hout
  have hlink : getLink (lanesMapped s n m) n = k1 := (hlinks n).trans (getLink_setLink_same _ _ _)
  obtain ⟨hlt, hfree⟩ := mapped_failed hm hfailed hsound
  have hexec := exec_laneMapRx_mapped (s := s) (n := n) (m := m) (by rw [hk]; exact hup) hm (by rw [hk]; exact hnew) htwo
    (settleLanes_of_reform (by rw [hlink, hk1]; exact usable_of_mapped rfl hlt htwo hfree) (by rw [hlink, hk1]))
    (by rw [hlink, hk1]; exact hdue)
  rw [hk] at hexec
  rw [← hk1]
  refine ⟨_, hexec, hlink, hout, fun hroom => ?_⟩
  rw [hmapped]
  exact queued_raise_note _ _ _ _ _ _ (.inl hroom)

theorem laneMapRx_fewer {k : Link} (hk : getLink s n = k) (hup : k.st = .up) (hm : m < 32) (hsound : m &&& k.failed = 0)
    (hfailed : k.failed < 32)
    (hshed : k.preShed = none) (hdue : k.replayDue = false) (hnew : m ≠ k.active)
    (htwo : 2 ≤ laneCount m) (hcount : laneCount m + 1 < laneCount k.active) :
    completes (.laneMapRx n m k.rxSeq) s (fun u =>
      u = setLink s n { k with active := m, preShed := some k.active, reform := true, mapNext := none }) := by
  obtain ⟨k1, hk1⟩ : ∃ k1 : Link, k1 = { k with active := m, preShed := some k.active, reform := true, mapNext := none } :=
      ⟨_, rfl⟩
  have hfull : (Link.full { k with mapNext := none }) = k.active := by
    unfold Link.full
    dsimp only
    rw [hshed]
    rfl
  have hmapped : lanesMapped s n m = setLink s n k1 := by
    unfold lanesMapped
    dsimp only
    rw [hk, if_neg (by omega), if_neg (by omega), if_pos (by omega), hfull, hk1]
  have hlink : getLink (lanesMapped s n m) n = k1 := by rw [hmapped, getLink_setLink_same]
  have hfree : ∀ i, i < 5 → m.testBit i = true → k.failed.testBit i = false := fun i _ hbit => by
    have h := testBit_disjoint hsound i
    rwa [hbit, Bool.true_and] at h
  have hexec := exec_laneMapRx_mapped (s := s) (n := n) (m := m) (by rw [hk]; exact hup) hm (by rw [hk]; exact hnew) htwo
    (settleLanes_of_reform (by rw [hlink, hk1]; exact usable_of_mapped rfl hfailed htwo hfree) (by rw [hlink, hk1]))
    (by rw [hlink, hk1]; exact hdue)
  rw [hk] at hexec
  exact ⟨_, hexec, by rw [hmapped, hk1]⟩

theorem laneMapRx_more {k : Link} (hk : getLink s n = k) (hup : k.st = .up) (hm : m < 32) (hsound : m &&& k.failed = 0)
    (hfailed : k.failed < 32)
    (hshed : k.preShed = none) (hdue : k.replayDue = false) (hnew : m ≠ k.active)
    (htwo : 2 ≤ laneCount m) (hcount : laneCount k.active < laneCount m) :
    completes (.laneMapRx n m k.rxSeq) s (fun u =>
      u = setLink s n { k with active := m, failed := k.failed &&& (31 - m), mapNext := none }) := by
  obtain ⟨k1, hk1⟩ : ∃ k1 : Link, k1 = { k with active := m, failed := k.failed &&& (31 - m), mapNext := none } := ⟨_, rfl⟩
  have hmapped : lanesMapped s n m = setLink s n k1 := by
    unfold lanesMapped
    dsimp only
    rw [hk, if_neg (by omega), if_neg (by omega), if_neg (by omega), hk1, hshed]
  have hlink : getLink (lanesMapped s n m) n = k1 := by rw [hmapped, getLink_setLink_same]
  have hlt : k.failed &&& (31 - m) < 32 := lt_of_le_of_lt Nat.and_le_left hfailed
  have hfree : ∀ i, (m.testBit i && (k.failed &&& (31 - m)).testBit i) = false := fun i => by
    have h := testBit_disjoint hsound i
    rw [Nat.testBit_and, ← Bool.and_assoc, h, Bool.false_and]
  have hexec := exec_laneMapRx_mapped (s := s) (n := n) (m := m) (by rw [hk]; exact hup) hm (by rw [hk]; exact hnew) htwo
    (settleLanes_of_sound
      (by rw [hlink, hk1]; exact usable_of_mapped rfl hlt htwo (fun i _ hbit => by simpa [hbit] using hfree i))
      (by rw [hlink, hk1]; exact eq_zero_of_testBit fun i => by rw [Nat.testBit_and]; exact hfree i))
    (by rw [hlink, hk1]; exact hdue)
  rw [hk] at hexec
  exact ⟨_, hexec, by rw [hmapped, hk1]⟩

end

/-! ### The other commands of the lanes -/

theorem laneErrorWindow_counts {l x e : Nat} :
    let v := csrPutBits (bump s (O.seamCntFecCorr n) e) (O.seamLane n l) 19 0 (min x 0xFFFFF)
    csrBits v (O.seamLane n l) 19 0 = min x 0xFFFFF ∧
      (l < 5 → csrGet v (O.seamCntFecCorr n) = min (csrGet s (O.seamCntFecCorr n) + e) 0xFFFFFFFF) ∧ v =
          { s with csr := v.csr } := by
  intro v
  refine ⟨?_, fun hl => ?_, rfl⟩
  · rw [csrBits_csrPutBits_same _ _ _ _ (by decide), Nat.mod_eq_of_lt (by omega)]
  · refine (csrGet_csrPut_other _ _ ?_).trans (csrGet_bump_add _ _ _)
    unfold O.seamCntFecCorr O.seamLane
    omega

theorem csrBit_forced (s : State) (n b : Nat) :
    csrBit (csrPutBits s (O.seamCtrl n) 2 2 b) (O.seamCtrl n) 2 = decide (b % 2 = 1) := csrBit_csrPutBits_same _ _
        (by decide)

theorem forceMin_sheds {k : Link} (hk : getLink s n = k) (hup : k.st = .up) (hshed : k.preShed = none) :
    (2 < laneCount k.active → completes (.seamForceMin n true) s (fun u =>
      csrBit u (O.seamCtrl n) 2 = true ∧
      getLink u n = { k with preShed := some k.active, active := lowestLanes k.active 2, reform := true } ∧
      u.out = .control n (.laneMap (lowestLanes k.active 2) k.txSeq) k.ack :: s.out)) ∧
    (laneCount k.active ≤ 2 → completes (.seamForceMin n true) s (fun u =>
      csrBit u (O.seamCtrl n) 2 = true ∧ getLink u n = { k with preShed := some k.active } ∧ u.out = s.out)) := by
  obtain ⟨w, hw⟩ : ∃ w, w = csrPutBits s (O.seamCtrl n) 2 2 1 := ⟨_, rfl⟩
  have hexec : exec (.seamForceMin n true) s = .next (shedLanes w n) := by rw [hw]; rfl
  have hbit : csrBit w (O.seamCtrl n) 2 = true := by
    rw [hw, csrBit_forced]
    rfl
  have hlink : getLink w n = k := by rw [hw]; exact hk
  have hopen : ¬ ((getLink w n).st ≠ .up ∨ (getLink w n).preShed.isSome = true) := by simp [hlink, hup, hshed]
  unfold shedLanes at hexec
  dsimp only at hexec
  rw [if_neg hopen, hlink] at hexec
  refine ⟨fun hmany => ?_, fun hfew => ?_⟩
  · rw [if_neg (by omega), sendLaneMap_eq, getLink_setLink_same] at hexec
    exact ⟨_, hexec, hbit, getLink_setLink_same _ _ _, by rw [hw]; rfl⟩
  · rw [if_pos hfew] at hexec
    exact ⟨_, hexec, hbit, getLink_setLink_same _ _ _, by rw [hw]; rfl⟩

theorem forceMin_shed_already (h : (getLink s n).st ≠ .up ∨ (getLink s n).preShed.isSome = true) :
    completes (.seamForceMin n true) s (fun u => csrBit u (O.seamCtrl n) 2 = true ∧ u = { s with csr := u.csr }) := by
  obtain ⟨w, hw⟩ : ∃ w, w = csrPutBits s (O.seamCtrl n) 2 2 1 := ⟨_, rfl⟩
  have hexec : exec (.seamForceMin n true) s = .next w := by
    change Host.Outcome.next (shedLanes (csrPutBits s (O.seamCtrl n) 2 2 1) n) = _
    rw [← hw]
    unfold shedLanes
    dsimp only
    rw [if_pos (by rw [hw]; exact h)]
  exact ⟨_, hexec, by rw [hw, csrBit_forced]; rfl, by rw [hw]; rfl⟩

theorem forceMin_restores {k : Link} (hk : getLink s n = k) (hshed : k.preShed = some m) (hlevel : s.power.level < 3)
    (hsound : m &&& k.failed = 0) (hnew : m ≠ k.active) (hfailed : k.failed < 32) (htwo : 2 ≤ laneCount m) :
    completes (.seamForceMin n false) s (fun u =>
        csrBit u (O.seamCtrl n) 2 = false ∧ getLink u n = { k with preShed := none, active := m } ∧
        u.out = .control n (.laneMap m k.txSeq) k.ack :: s.out) := by
  obtain ⟨w, hw⟩ : ∃ w, w = csrPutBits s (O.seamCtrl n) 2 2 0 := ⟨_, rfl⟩
  have hlink : getLink w n = k := by rw [hw]; exact hk
  obtain ⟨v, hv⟩ : ∃ v, v = sendLaneMap (setLink w n { k with preShed := none, active := m }) n := ⟨_, rfl⟩
  have hsend : v = _ := hv.trans (sendLaneMap_eq _ _)
  rw [getLink_setLink_same] at hsend
  have hvlink : getLink v n = { k with preShed := none, active := m } := by
    rw [hsend]
    exact getLink_setLink_same _ _ _
  have hfree : ∀ i, i < 5 → m.testBit i = true → k.failed.testBit i = false := fun i _ hbit => by
    have h := testBit_disjoint hsound i
    rwa [hbit, Bool.true_and] at h
  have hexec : exec (.seamForceMin n false) s = .next v := by
    change Host.Outcome.next (if (csrPutBits s (O.seamCtrl n) 2 2 0).power.level < 3 then
      unshedLanes (csrPutBits s (O.seamCtrl n) 2 2 0) n else csrPutBits s (O.seamCtrl n) 2 2 0) = _
    rw [if_pos (by exact hlevel), ← hw]
    unfold unshedLanes
    dsimp only
    rw [hlink, hshed]
    dsimp only
    rw [if_neg hnew, ← hv, settleLanes_of_sound (by rw [hvlink]; exact usable_of_mapped rfl hfailed htwo hfree)
      (by rw [hvlink]; exact hsound)]
  refine ⟨_, hexec, ?_, hvlink, ?_⟩
  · rw [hsend]
    change csrBit w (O.seamCtrl n) 2 = false
    rw [hw, csrBit_forced]
    rfl
  · rw [hsend, hw]
    rfl

theorem forceMin_released (h : (getLink s n).preShed = none ∨ 3 ≤ s.power.level) :
    completes (.seamForceMin n false) s (fun u => csrBit u (O.seamCtrl n) 2 = false ∧ u = { s with csr := u.csr }) := by
  obtain ⟨w, hw⟩ : ∃ w, w = csrPutBits s (O.seamCtrl n) 2 2 0 := ⟨_, rfl⟩
  have hexec : exec (.seamForceMin n false) s = .next w := by
    change Host.Outcome.next (if (csrPutBits s (O.seamCtrl n) 2 2 0).power.level < 3 then
      unshedLanes (csrPutBits s (O.seamCtrl n) 2 2 0) n else csrPutBits s (O.seamCtrl n) 2 2 0) = _
    rw [← hw]
    split
    · next hlevel =>
      have hnone : (getLink w n).preShed = none := by
        rcases h with h | h
        · rw [hw]
          exact h
        · rw [hw] at hlevel
          exact absurd hlevel (Nat.not_lt.mpr h)
      unfold unshedLanes
      dsimp only
      rw [hnone]
    · rfl
  exact ⟨_, hexec, by rw [hw, csrBit_forced]; rfl, by rw [hw]; rfl⟩

theorem foldl_emitCtl (l : List CtlFlit) (s : State) (n : Nat) : l.foldl (fun s c => emitCtl s n c) s =
    { s with out := (l.map (fun c => Emit.control n c (getLink s n).ack)).reverse ++ s.out } := by
  induction l generalizing s with
  | nil => rfl
  | cons c l ih =>
    rw [List.foldl_cons, ih, emitCtl_eq]
    simp only [List.map_cons, List.reverse_cons, List.append_assoc, List.singleton_append]
    rfl

theorem reformDone_completes {k : Link} (hk : getLink s n = k) (hup : k.st = .up) (hreform : k.reform = true)
    (hempty : k.txq = [])
    (hsound : k.active &&& k.failed = 0) (husable : 2 ≤ k.usable) :
    let sent : List Emit := (k.waitCtl.map (fun c => Emit.control n c k.ack)).reverse ++ s.out
    (k.mapNext = none → completes (.interleaveReformDone n) s (fun u =>
      getLink u n = { k with reform := false, waitCtl := [], replayDue := false } ∧
      u.out = (k.unacked.map (fun x => Emit.flit n x.vc x.seq k.ack (x.idx = 0)
        (x.idx + 1 = x.frame.flits) x.frame)).reverse ++ sent)) ∧
    (k.mapNext.isSome = true → completes (.interleaveReformDone n) s (fun u =>
      getLink u n = { k with reform := false, waitCtl := [], replayDue := true } ∧ u.out = sent)) := by
  intro sent
  obtain ⟨w, hw⟩ : ∃ w, w = { setLink s n { k with reform := false, waitCtl := [] } with out := sent } := ⟨_, rfl⟩
  have hwlink : getLink w n = { k with reform := false, waitCtl := [] } := by
    rw [hw]
    exact getLink_setLink_same _ _ _
  have hfold : k.waitCtl.foldl (fun s c => emitCtl s n c) (setLink s n { k with reform := false, waitCtl := [] }) = w := by
    rw [foldl_emitCtl, getLink_setLink_same, hw]
    rfl
  have hexec : exec (.interleaveReformDone n) s = .next (settleLanes (pump (
      if k.mapNext.isSome then setLink w n { getLink w n with replayDue := true }
      else replayFlits (setLink w n { getLink w n with replayDue := false }) n k.unacked) n) n) := by
    change execInterleaveReformDone n s = _
    unfold execInterleaveReformDone
    dsimp only
    rw [hk, if_pos ⟨hup, hreform⟩, hfold]
  have hdone : ∀ v : State, (getLink v n).txq = [] → 2 ≤ (getLink v n).usable →
      (getLink v n).active &&& (getLink v n).failed = 0 → settleLanes (pump v n) n = v := fun v h1 h2 h3 => by
    rw [pump_of_empty h1, settleLanes_of_sound h2 h3]
  refine ⟨fun hnone => ?_, fun hsome => ?_⟩
  · rw [hnone, if_neg (by decide), hwlink] at hexec
    obtain ⟨v, hv⟩ : ∃ v, v = setLink w n { k with reform := false, waitCtl := [], replayDue := false } := ⟨_, rfl⟩
    have hvlink : getLink v n = { k with reform := false, waitCtl := [], replayDue := false } := by
      rw [hv, getLink_setLink_same]
    have hreplay : getLink (replayFlits v n k.unacked) n = getLink v n ∧
        (replayFlits v n k.unacked).out = replayed v n k.unacked ++ v.out := by
      by_cases hnil : k.unacked = []
      · rw [hnil]
        exact ⟨rfl, rfl⟩
      · rw [replayFlits_of_ne_nil hnil]
        exact ⟨rfl, rfl⟩
    rw [← hv, hdone _ (by rw [hreplay.1, hvlink]; exact hempty) (by rw [hreplay.1, hvlink]; exact husable)
      (by rw [hreplay.1, hvlink]; exact hsound)] at hexec
    refine ⟨_, hexec, hreplay.1.trans hvlink, hreplay.2.trans ?_⟩
    unfold replayed
    rw [hvlink, hv, hw]
    rfl
  · rw [if_pos hsome, hwlink] at hexec
    rw [hdone _ (by rw [getLink_setLink_same]; exact hempty) (by rw [getLink_setLink_same]; exact husable)
      (by rw [getLink_setLink_same]; exact hsound)] at hexec
    exact ⟨_, hexec, getLink_setLink_same _ _ _, by rw [hw]; rfl⟩

theorem reformDone_none (h : (getLink s n).st ≠ .up ∨ (getLink s n).reform = false) :
    completes (.interleaveReformDone n) s (fun u => u = s) := by
  refine ⟨_, rfl, ?_⟩
  dsimp only
  rw [if_neg]
  rintro ⟨hup, hreform⟩
  rcases h with h | h
  · exact h hup
  · rw [h] at hreform
    exact absurd hreform (by decide)

end Sys2Proof.Machine
end

section
/-! O36, third part: laser inputs, hot optical engines, and the obligation. -/

open Sys2Proof
namespace Sys2Proof.Machine

variable {s u : State} {n e : Nat}

/-! ### What the lanes of a link can change -/

theorem settleLane_oes (s : State) (n : Nat) : (settleLane s n).oes = s.oes := by
  have hsend : ∀ v : State, (sendLaneMap v n).oes = v.oes := fun v => by rw [sendLaneMap_eq]
  have hraise : ∀ (v : State) {sev : Nat} (_ : sev < 2) (code : Nat), (raise v code sev 3 5 n []).oes = v.oes := fun v sev
      hsev code => by
    obtain ⟨_, _, h⟩ := raise_minor_eq_with v hsev code 3 5 n []
    rw [h]
  unfold settleLane
  dsimp only
  split
  · rfl
  · split
    · exact (takenDown_takeDown s n true).oes
    · split
      · rfl
      · split
        · rfl
        · split
          · exact (hsend _).trans (hraise _ (by decide) _)
          · exact (hsend _).trans (hraise _ (by decide) _)

theorem settleLanes_oes (s : State) (n : Nat) : (settleLanes s n).oes = s.oes :=
  foldl_keeps (fun s _ => settleLane s n) State.oes (fun s _ => settleLane_oes s n) _ s

theorem actOnFailed_oes (s : State) (n : Nat) : (actOnFailed s n).oes = s.oes := by
  unfold actOnFailed
  dsimp only
  split
  · rfl
  · exact settleLanes_oes s n

theorem markFailed_oes (s : State) (n l : Nat) : (markFailed s n l).oes = s.oes := by
  unfold markFailed
  dsimp only
  split
  · rfl
  · split
    · rfl
    · split <;> rfl
    · rfl

theorem failLanes_oes (s : State) (ls : List (Nat × Nat)) : (failLanes s ls).oes = s.oes := by
  unfold failLanes
  rw [foldl_keeps actOnFailed State.oes actOnFailed_oes,
    foldl_keeps (fun s (p : Nat × Nat) => markFailed s p.1 p.2) State.oes (fun s p => markFailed_oes s p.1 p.2)]

/-! ### Laser inputs -/

theorem getOe_setOe_same (s : State) (e : Nat) (o : OptEngine) : getOe (setOe s e o) e = o := tget_tset_same _ _ _ _

theorem getOe_congr (h : u.oes = s.oes) (e : Nat) : getOe u e = getOe s e := by
  unfold getOe
  rw [h]

/-- Whether a measured input is below a bound; one that gives no light is. -/
def inputBelow (v : Option Int) (x : Int) : Bool := match v with
  | some w => decide (w < x)
  | none => true

theorem measureLaser_eq (x : Laser) (p : Option Int) : measureLaser x p =
    (⟨p, inputBelow p 1600, x.off || inputBelow p 1400⟩, inputBelow p 1600 && !x.low, inputBelow p 1400 && !x.off) := by
  cases p <;> rfl

/-- The state of a laser input once it is measured. -/
def laserMeasured (x : Laser) (v : Option Int) : Laser := ⟨v, inputBelow v 1600, x.off || inputBelow v 1400⟩

/-- One input of an engine measured. -/
def oeMeasured (o : OptEngine) (inputB : Bool) (v : Option Int) : OptEngine :=
  if inputB then { o with b := laserMeasured o.b v } else { o with a := laserMeasured o.a v }

/-- The input that a side of an engine names. -/
def laserOf (o : OptEngine) (inputB : Bool) : Laser := if inputB then o.b else o.a

theorem laserInput_eq (s : State) (e : Nat) (inputB : Bool) (p : Option Int) : laserInput s e inputB p =
    let v := setOe s e (oeMeasured (getOe s e) inputB p)
    let w := if inputBelow p 1600 && !(laserOf (getOe s e) inputB).low then raise v 0x7002 0 3 11 e else v
    if inputBelow p 1400 && !(laserOf (getOe s e) inputB).off then failLanes w (fedLanes e inputB) else w := by
  unfold laserInput
  dsimp only
  rw [measureLaser_eq]
  cases inputB <;> rfl

/-- What one measurement leaves, and what it queues. -/
theorem laserInput_spec (s : State) (e : Nat) (inputB : Bool) (p : Option Int) :
    getOe (laserInput s e inputB p) e = oeMeasured (getOe s e) inputB p ∧
    (inputBelow p 1400 = false ∨ (laserOf (getOe s e) inputB).off = true →
      (laserInput s e inputB p).links = s.links ∧ (laserInput s e inputB p).out = s.out ∧ (laserInput s e inputB p).mem =
          s.mem ∧
      (hasRoom s 0 → inputBelow p 1600 = true → (laserOf (getOe s e) inputB).low = false → queued (laserInput s e inputB p)
          0 0x7002) ∧
      (∀ sev code, queued s sev code → queued (laserInput s e inputB p) sev code) ∧
      ((inputBelow p 1600 && !(laserOf (getOe s e) inputB).low) = false → (laserInput s e inputB p).err = s.err)) := by
  obtain ⟨v, hv⟩ : ∃ v, v = setOe s e (oeMeasured (getOe s e) inputB p) := ⟨_, rfl⟩
  obtain ⟨w, hw⟩ : ∃ w, w = if inputBelow p 1600 && !(laserOf (getOe s e) inputB).low then raise v 0x7002 0 3 11 e [] else v
      := ⟨_, rfl⟩
  have heq : laserInput s e inputB p = if inputBelow p 1400 && !(laserOf (getOe s e) inputB).off then failLanes w
      (fedLanes e inputB) else w := by
    rw [laserInput_eq, hw, hv]
  obtain ⟨csr, err, hnote⟩ := raise_note_eq_with v 0x7002 3 11 e []
  have hwframe : ∃ csr err, w = { v with csr := csr, err := err } := by
    rw [hw]
    split
    · exact ⟨csr, err, hnote⟩
    · exact ⟨_, _, rfl⟩
  obtain ⟨csr', err', hframe⟩ := hwframe
  have hoes : w.oes = v.oes := by rw [hframe]
  rw [heq]
  refine ⟨?_, fun hon => ?_⟩
  · have hend : (if inputBelow p 1400 && !(laserOf (getOe s e) inputB).off then failLanes w (fedLanes e inputB) else w).oes
        = v.oes := by
      split
      · exact (failLanes_oes _ _).trans hoes
      · exact hoes
    rw [getOe_congr hend, hv, getOe_setOe_same]
  · rw [if_neg (by rcases hon with h | h <;> simp [h])]
    refine ⟨by rw [hframe, hv]; rfl, by rw [hframe, hv]; rfl, by rw [hframe, hv]; rfl, fun hroom hlow hwas => ?_, fun sev
        code hq => ?_,
      fun hno => ?_⟩
    · rw [hw, hlow, hwas, if_pos (by rfl)]
      exact queued_raise_note _ _ _ _ _ _ (.inl (by rw [hv]; exact hroom))
    · rw [hw]
      have hqv : queued v sev code := by rw [hv]; exact hq
      split
      · exact queued_of_queued_raise_note _ _ _ _ _ hqv
      · exact hqv
    · rw [hw, hno, if_neg (by decide), hv]
      rfl

theorem laserMeasure_eq (hpowered : (getOe s e).st ≠ 0) (p q : Option Int) :
    exec (.laserMeasure e p q) s = .next (laserInput (laserInput s e false p) e true q) := by
  change execLaserMeasure e p q s = _
  unfold execLaserMeasure
  rw [if_neg hpowered]

theorem laserMeasure_shows (hpowered : (getOe s e).st ≠ 0) (p q : Option Int) : completes (.laserMeasure e p q) s (fun u =>
    getOe u e = { getOe s e with a := laserMeasured (getOe s e).a p, b := laserMeasured (getOe s e).b q }) := by
  obtain ⟨hfirst, -⟩ := laserInput_spec s e false p
  obtain ⟨hsecond, -⟩ := laserInput_spec (laserInput s e false p) e true q
  rw [hfirst] at hsecond
  exact ⟨_, laserMeasure_eq hpowered p q, hsecond⟩

theorem laserMeasure_quiet (hpowered : (getOe s e).st ≠ 0) {p q : Option Int}
    (hp : inputBelow p 1400 = false ∨ (getOe s e).a.off = true) (hq : inputBelow q 1400 = false ∨ (getOe s e).b.off = true)
        :
    completes (.laserMeasure e p q) s (fun u => u.links = s.links ∧ u.out = s.out ∧ u.mem = s.mem ∧
      (hasRoom s 0 → (inputBelow p 1600 = true ∧ (getOe s e).a.low = false ∨ inputBelow q 1600 = true ∧ (getOe s e).b.low =
          false) →
        queued u 0 0x7002)) := by
  obtain ⟨hoe, hfirst⟩ := laserInput_spec s e false p
  obtain ⟨hlinks, hout, hmem, hqueued, -, herr⟩ := hfirst hp
  obtain ⟨-, hsecond⟩ := laserInput_spec (laserInput s e false p) e true q
  rw [hoe] at hsecond
  obtain ⟨hlinks', hout', hmem', hqueued', hkeeps, -⟩ := hsecond hq
  refine ⟨_, laserMeasure_eq hpowered p q, hlinks'.trans hlinks, hout'.trans hout, hmem'.trans hmem, fun hroom hlow => ?_⟩
  by_cases hraised : (inputBelow p 1600 && !(getOe s e).a.low) = true
  · obtain ⟨hbelow, hwas⟩ : inputBelow p 1600 = true ∧ (getOe s e).a.low = false := by simpa using hraised
    exact hkeeps _ _ (hqueued hroom hbelow hwas)
  · have hsame := herr (Bool.not_eq_true _ ▸ hraised)
    rcases hlow with ⟨hbelow, hwas⟩ | ⟨hbelow, hwas⟩
    · exact absurd (by rw [hbelow, hwas]; rfl) hraised
    · exact hqueued' (by unfold hasRoom; rw [hsame]; exact hroom) hbelow hwas

/-! ### A hot engine -/

/-- What taking the links of an engine down leaves. -/
structure EngineDown (s u : State) : Prop where
  mem : u.mem = s.mem
  oes : u.oes = s.oes
  queue : ∀ sev code, queued s sev code → queued u sev code
  down : ∀ m, linkUpNow s m = false → linkUpNow u m = false

/-- One link of an engine that grew hot. -/
def engineLinkDown (s : State) (n : Nat) : State :=
  if linkUpNow s n then takeDown s n true else if (getLink s n).st = .training then startTraining s n else s

theorem engineDown_link (s : State) (n : Nat) : EngineDown s (engineLinkDown s n) ∧ linkUpNow (engineLinkDown s n) n = false
    := by
  unfold engineLinkDown
  split
  · have hdown := takenDown_takeDown s n true
    refine ⟨⟨hdown.mem, hdown.oes, hdown.queue, fun m hm => ?_⟩, hdown.linkUpNow_self⟩
    by_cases hmn : m = n
    · subst hmn
      exact hdown.linkUpNow_self
    · rw [hdown.linkUpNow_other hmn]
      exact hm
  · next hnot =>
    split
    · have hself : linkUpNow (startTraining s n) n = false := by
        unfold linkUpNow
        rw [getLink_startTraining_same]
        simp
      refine ⟨⟨rfl, rfl, fun _ _ h => h, fun m hm => ?_⟩, hself⟩
      by_cases hmn : m = n
      · subst hmn
        exact hself
      · unfold linkUpNow at hm ⊢
        rw [getLink_startTraining_other s hmn]
        exact hm
    · exact ⟨⟨rfl, rfl, fun _ _ h => h, fun _ h => h⟩, by simpa using hnot⟩

theorem EngineDown.trans {v : State} (h : EngineDown s u) (h' : EngineDown u v) : EngineDown s v :=
  ⟨h'.mem.trans h.mem, h'.oes.trans h.oes, fun sev code hq => h'.queue sev code (h.queue sev code hq),
    fun m hm => h'.down m (h.down m hm)⟩

theorem engineDown_links (s : State) (e : Nat) :
    EngineDown s (engineLinksDown s e) ∧ ∀ m, m / 3 = e → linkUpNow (engineLinksDown s e) m = false := by
  have heq : engineLinksDown s e = engineLinkDown (engineLinkDown (engineLinkDown s (3 * e)) (3 * e + 1)) (3 * e + 2) := rfl
  obtain ⟨h0, hd0⟩ := engineDown_link s (3 * e)
  obtain ⟨h1, hd1⟩ := engineDown_link (engineLinkDown s (3 * e)) (3 * e + 1)
  obtain ⟨h2, hd2⟩ := engineDown_link (engineLinkDown (engineLinkDown s (3 * e)) (3 * e + 1)) (3 * e + 2)
  rw [heq]
  refine ⟨(h0.trans h1).trans h2, fun m hm => ?_⟩
  obtain rfl | rfl | rfl : m = 3 * e ∨ m = 3 * e + 1 ∨ m = 3 * e + 2 := by omega
  · exact h2.down _ (h1.down _ hd0)
  · exact h2.down _ hd1
  · exact hd2

theorem overtemp_completes {t : Nat} (hpowered : (getOe s e).st ≠ 0) (hhot : 190 ≤ t) (hnew : (getOe s e).st ≠ 4)
    (hroom : hasRoom s 2) :
    completes (.oeOvertemp e t) s (fun u => getOe u e = { getOe s e with temp := t, st := 4, back := (getOe s e).st } ∧
      queued u 2 0x7003 ∧ u.mem = s.mem ∧ ∀ n, n / 3 = e → linkUpNow u n = false) := by
  obtain ⟨o, ho⟩ : ∃ o : OptEngine, o = { getOe s e with temp := t, st := 4, back := (getOe s e).st } := ⟨_, rfl⟩
  obtain ⟨⟨csr, err, hframe⟩, hqueued⟩ := raise_of_room (s := setOe s e o) (sev := 2) (cls := 3) 0x7003 11 e [] (.inl rfl)
      hroom
  obtain ⟨hdown, hlinks⟩ := engineDown_links (raise (setOe s e o) 0x7003 2 3 11 e []) e
  have hexec : exec (.oeOvertemp e t) s = .next (engineLinksDown (raise (setOe s e o) 0x7003 2 3 11 e []) e) := by
    change execOeOvertemp e t s = _
    unfold execOeOvertemp
    dsimp only
    rw [if_neg hpowered, if_pos ⟨hhot, hnew⟩, ho]
  rw [← ho]
  refine ⟨_, hexec, ?_, hdown.queue _ _ hqueued, hdown.mem.trans (by rw [hframe]; rfl), hlinks⟩
  rw [getOe_congr hdown.oes, hframe]
  exact getOe_setOe_same _ _ _

theorem laserRecover_completes (s : State) (e : Nat) (inputB : Bool) :
    let o := getOe s e
    let x := if inputB then o.b else o.a
    let y := { x with off := false }
    (∀ w, x.power = some w → x.off = true → 1700 ≤ w → completes (.laserRecover e inputB) s (fun u =>
      u = setOe s e (if inputB then { o with b := y } else { o with a := y }))) ∧
    (x.off = false ∨ inputBelow x.power 1700 = true → completes (.laserRecover e inputB) s (fun u => u = s)) := by
  intro o x y
  have hexec : exec (.laserRecover e inputB) s = .next (match x.power with
      | some v => if x.off ∧ 1700 ≤ v then setOe s e (if inputB then { o with b := y } else { o with a := y }) else s
      | none => s) := rfl
  refine ⟨fun w hw hoff hbright => ?_, fun hdim => ?_⟩
  · rw [hw] at hexec
    dsimp only at hexec
    rw [if_pos ⟨hoff, hbright⟩] at hexec
    exact ⟨_, hexec, rfl⟩
  · refine ⟨_, hexec, ?_⟩
    dsimp only
    cases hpower : x.power with
    | none => rfl
    | some w =>
      dsimp only
      rw [if_neg]
      rintro ⟨hoff, hbright⟩
      rcases hdim with h | h
      · rw [h] at hoff
        exact absurd hoff (by decide)
      · rw [hpower] at h
        exact absurd (of_decide_eq_true h) (by omega)

/-- The lanes of a link (R425 to R429, R438, R447). -/
theorem links_keep_width (s : State) (n l : Nat) :
    let k := getLink s n
    let failed := setBits k.failed l l 1
    let lock := setBits k.lock l l 0
    let usable := laneCount ((k.active ||| lock) &&& (31 - failed))
    let down (u : State) : Prop := (getLink u n).st = (if csrBit s (O.seamCtrl n) 0 then .training else .off) ∧
      csrGet u (O.seamCntDown n) = min (csrGet s (O.seamCntDown n) + 1) 0xFFFFFFFF
    l < 5 → k.st = .up → k.failed < 32 →
      (k.active &&& k.failed = 0 → k.reform = false → k.preShed = none → bitOf k.active l = true → 2 ≤ usable →
        (bitOf k.active 4 = false → bitOf failed 4 = false → bitOf lock 4 = true → completes (.laneFail n l) s (fun u =>
          let m := setBits (setBits k.active l l 0) 4 4 1
          getLink u n = { k with failed := failed, lock := lock, active := m } ∧
          u.out = .control n (.laneMap m k.txSeq) k.ack :: s.out ∧
          csrGet u (O.seamCntSpare n) = min (csrGet s (O.seamCntSpare n) + 1) 0xFFFFFFFF ∧ (hasRoom s 1 → queued u 1 0x5001)
              ∧
          u.mem = s.mem)) ∧
        (bitOf k.active 4 = true ∨ bitOf failed 4 = true ∨ bitOf lock 4 = false → completes (.laneFail n l) s (fun u =>
          let m := setBits k.active l l 0
          getLink u n = { k with failed := failed, lock := lock, active := m, reform := true } ∧
          u.out = .control n (.laneMap m k.txSeq) k.ack :: s.out ∧ (hasRoom s 0 → queued u 0 0x5002) ∧ u.mem = s.mem))) ∧
      (2 ≤ usable → (k.reform = true ∨ k.active &&& k.failed = 0 ∧ bitOf k.active l = false) → completes (.laneFail n l) s
          (fun u =>
        u = setLink s n { k with failed := failed, lock := lock })) ∧
      (usable < 2 → k.txq = [] → completes (.laneFail n l) s down) := by
  intro k failed lock usable down hl hup hfailed
  exact ⟨fun hsound hreform hshed hactive husable =>
      ⟨fun h1 h2 h3 => laneFail_spare rfl hl hup hfailed hsound hreform hshed hactive husable ⟨h1, h2, h3⟩,
        fun h => laneFail_narrow rfl hl hup hfailed hsound hreform hshed hactive husable h⟩,
    fun husable hidle => laneFail_marks rfl hl hup husable hidle, fun husable _ => laneFail_few rfl hl hup husable⟩

/-- Settles O36: the lanes of a link through `settleLane`, a LANE_MAP through `lanesMapped`, the laser inputs one by one,
    and
the links of a hot engine. -/
theorem linkWidthAndOptics : Obligations.LinkWidthAndOptics := by
  unfold Obligations.LinkWidthAndOptics
  refine ⟨fun s n l _ => ?_, fun s e t p q => ?_⟩
  · intro k failed lock usable down
    refine ⟨fun hl hup hfailed => links_keep_width s n l hl hup hfailed, fun h => laneFail_none rfl h, fun x e hl =>
        ⟨fun hx => ?_, fun hx => ?_⟩,
      fun m q hst => ?_, fun m q hst hseq => ?_, fun m hup hm hfailed => ?_, fun hup hshed => forceMin_sheds rfl hup hshed,
      fun h => forceMin_shed_already h, fun m hup hshed hlevel hsound hnew hfailed htwo =>
        forceMin_restores rfl hshed hlevel hsound hnew hfailed htwo, fun h => forceMin_released h,
      fun hup hreform hempty hsound husable => reformDone_completes rfl hup hreform hempty hsound husable, fun h =>
          reformDone_none h⟩
    · obtain ⟨hlane, hcount, hframe⟩ := laneErrorWindow_counts (s := s) (n := n) (l := l) (x := x) (e := e)
      have hexec : exec (.laneErrorWindow n l x e) s = .next (csrPutBits (bump s (O.seamCntFecCorr n) e) (O.seamLane n l) 19
          0 (min x 0xFFFFF)) := by
        change execLaneErrorWindow n l x e s = _
        unfold execLaneErrorWindow
        dsimp only
        rw [if_neg (by exact Nat.not_lt.mpr hx)]
      exact ⟨_, hexec, hlane, hcount hl, hframe⟩
    · obtain ⟨hlane, hcount, hframe⟩ := laneErrorWindow_counts (s := s) (n := n) (l := l) (x := x) (e := e)
      have hexec : exec (.laneErrorWindow n l x e) s =
          .next (failLane (csrPutBits (bump s (O.seamCntFecCorr n) e) (O.seamLane n l) 19 0 (min x 0xFFFFF)) n l) := by
        change execLaneErrorWindow n l x e s = _
        unfold execLaneErrorWindow
        dsimp only
        rw [if_pos (by exact hx)]
      exact ⟨_, hexec, _, hlane, hcount hl, hframe, rfl⟩
    · refine ⟨_, rfl, ?_⟩
      dsimp only
      rw [if_pos hst]
    · refine ⟨_, rfl, ?_⟩
      dsimp only
      rw [if_neg (fun h => h hst), if_neg hseq]
    · have happly := applyLaneMap_eq (s := s) (n := n) hup hm
      have hexec := exec_laneMapRx_now (s := s) (n := n) (m := m) hup
      refine ⟨fun heq => ?_, fun hnew hfew _ => ?_, fun hnew htwo hsound hshed hreform hdue =>
          ⟨fun hcount => ?_, fun hcount => ?_,
        fun hcount => ?_, fun hcount => ?_⟩⟩
      · rw [happly, if_pos heq] at hexec
        exact ⟨_, hexec, rfl⟩
      · rw [happly, if_neg hnew, if_pos hfew] at hexec
        exact ⟨_, hexec, (takenDown_takeDown s n true).st_self, (takeDown_counts s n).1⟩
      · exact laneMapRx_same rfl hup hm hsound hfailed hshed hdue hnew htwo hcount
      · exact laneMapRx_oneFewer rfl hup hm hsound hfailed hshed hdue hnew htwo hcount
      · exact laneMapRx_fewer rfl hup hm hsound hfailed hshed hdue hnew htwo hcount
      · exact laneMapRx_more rfl hup hm hsound hfailed hshed hdue hnew htwo hcount
  · intro o below measured
    have hbelow : below = inputBelow := by
      funext v x
      cases v <;> rfl
    refine ⟨fun hpowered => ⟨?_, fun hp hq => ?_, fun hhot hnew hroom => overtemp_completes hpowered hhot hnew hroom, fun
        hcool => ?_,
      fun hcool hwas => ?_, fun hcool => ?_⟩, fun hdark => ⟨?_, ?_, ?_⟩, fun inputB => ?_⟩
    · have hshows := laserMeasure_shows hpowered p q
      unfold laserMeasured at hshows
      rw [← hbelow] at hshows
      exact hshows
    · rw [hbelow] at hp hq ⊢
      exact laserMeasure_quiet hpowered hp hq
    · refine ⟨_, rfl, ?_⟩
      dsimp only
      rw [if_neg hpowered, if_neg (fun hc => hcool.elim (fun h => absurd hc.1 (Nat.not_le.mpr h)) hc.2)]
    · refine ⟨_, rfl, ?_⟩
      dsimp only
      rw [if_neg hpowered, if_pos ⟨hwas, hcool⟩]
    · refine ⟨_, rfl, ?_⟩
      dsimp only
      rw [if_neg hpowered, if_neg (fun hc => hcool.elim (fun h => absurd hc.2 (Nat.not_lt.mpr h)) (fun h => h hc.1))]
    · refine ⟨_, rfl, ?_⟩
      dsimp only
      rw [if_pos hdark]
    · refine ⟨_, rfl, ?_⟩
      dsimp only
      rw [if_pos hdark]
    · refine ⟨_, rfl, ?_⟩
      dsimp only
      rw [if_pos hdark]
    · rw [hbelow]
      exact laserRecover_completes s e inputB

end Sys2Proof.Machine
end

section
/-! O30 and O54. A hop whose ledger may not be written ends in a hard fence, which empties the mangle; and the power domain 52
has no optical engine, so that its entry to off takes down no link. -/

open Sys2Proof
namespace Sys2Proof.Machine

/-- A weave whose first page class 1 may read and may not write. -/
def weaveOfReadPage : Weave :=
  { meas := 0#256, spare := false, devices := 1, job := 0, classMap := 0, usedMap := 0, routes := [], paths := [], ladder := []
    streams := [], rings := [], progs := [], regions := [], pages0 := [], pages1 := [⟨0, 1, false, false, 0⟩], pages2 := []
    hasVariants := false, blocks := [], rules := [], pruInit := [], group := none, power := [], preset := [] }

/-- The one hop of a chunk that folds its ledger and keeps the sum. -/
def foldingPlan : HopPlan := ⟨false, 0, true, none, .final⟩

/-- Tag 9 live at step 5, whose own contribution comes late and whose hop of chunk 0 is planned. -/
def instOfFoldingHop : Inst :=
  { instOfStep5 with ownLate := true, hops := [(hopKey 0 0 false 0, { HopSt.fresh with plan := some foldingPlan })] }

/-- A hop consumes a ledger of step 4 that no page lets it free, while a fence has begun and the STEP queue holds 16
records. -/
def ledgerKept : State :=
  { State.reset with
    dev := .running
    weave := some weaveOfReadPage
    power := { PowerSt.reset with doms := [(0, Dom.onDom), (53, Dom.onDom)] }
    err := { ErrSt.reset with
      fence := some .freeze
      queues := [(3, List.replicate 16 ⟨0x9005, 3, 3, 1, 0, 0, 0, 1, 1, 0, 0, [0, 0, 0, 0], true⟩)] }
    mangle := { MangleSt.reset with
      desc := [(0, tag9Reduce)], insts := [instOfFoldingHop], ledger := [(ledgerKey 9 0, ⟨4, false, [], 0, 0#64, 0⟩)] }
    step := 7 }

/-- Refutes O30: the hop frees the ledger that it has consumed, which class 1 may not write (`ledgerKept`); the denial finds
the STEP queue full during a fence, so the device fences hard, and nothing live is left whose hop is done. -/
theorem not_hopsAndDelivery : ¬ Obligations.HopsAndDelivery := by
  intro h
  obtain ⟨hhop, -⟩ := h
  obtain ⟨hdone, -⟩ := hhop ledgerKept 9 5 0 0 0 instOfFoldingHop tag9Reduce foldingPlan (by decide) (by decide) (by decide)
    (by decide) (by decide) (by decide) (by decide) (by decide) (by decide +kernel) (by decide +kernel) (by decide) (by decide)
    (by decide) (by decide)
  obtain ⟨u, hexec, j, -, hfound, -⟩ := hdone (by decide) (fun r hr => nomatch hr)
  obtain ⟨v, hnext, hgone⟩ : ∃ v, exec (.hop 9 5 0 0 false 0) ledgerKept = .next v ∧ findInst v 9 5 = none :=
    ⟨_, rfl, by decide +kernel⟩
  cases hexec.symm.trans hnext
  exact Option.some_ne_none j (hfound.symm.trans hgone)

/-- Domain 52 goes off while a link of a number that no optical engine has is up. -/
def linkBeyondEngines : State :=
  { State.reset with
    power := { PowerSt.reset with doms := [(52, { Dom.offDom with st := .on, entering := some .off })] }
    links := [(24, { Link.reset with st := .up })] }

/-- Refutes O54: the entry of a domain to off is stated of every domain number, and the links of domain 52 would be 24 to 26,
which are none of an engine's (`linkBeyondEngines`): link 24 stays up. -/
theorem not_domainsMove : ¬ Obligations.DomainsMove := by
  intro h
  obtain ⟨-, -, -, hentry, -⟩ := h linkBeyondEngines ⟨0, 0, ⟨0, 0, 0⟩, true⟩ ⟨0, 0, 0, ⟨0, 0, 0⟩⟩ 52 0
  obtain ⟨u, hexec, -, -, hoff, -⟩ := hentry .off (by decide) (by decide)
  obtain ⟨-, hdark⟩ := hoff rfl
  obtain ⟨v, hnext, hup⟩ : ∃ v, exec (.domainEntryDone 52) linkBeyondEngines = .next v ∧ (getLink v 24).st = .up :=
    ⟨_, rfl, by decide +kernel⟩
  cases hexec.symm.trans hnext
  exact hdark 24 (by decide) hup

end Sys2Proof.Machine
end

section
/-! O34. Notices of a membership change. -/

open Sys2Proof
namespace Sys2Proof.Machine

variable {s u v : State} {h : MendHdr} {t : GroupT} {n : Notice}

/-- What the adoption of a notice does beyond the table: from `s` to `u` hops are planned again and the change is reported.
    -/
structure Adopts (s u : State) : Prop where
  mem : u.mem = s.mem
  table : u.mend.table = s.mend.table
  adopted : u.mend.adopted = s.mend.adopted
  count : csrGet u O.groupCntNotice = csrGet s O.groupCntNotice

namespace Adopts

theorem refl (s : State) : Adopts s s := ⟨rfl, rfl, rfl, rfl⟩

theorem trans (h : Adopts s u) (h' : Adopts u v) : Adopts s v :=
  ⟨h'.mem.trans h.mem, h'.table.trans h.table, h'.adopted.trans h.adopted, h'.count.trans h.count⟩

end Adopts

theorem Relays.adopts (h : Relays s u) : Adopts s u := by
  obtain ⟨_, _, hmend⟩ := h.mend
  refine ⟨h.mem, h.table, by rw [hmend], h.csr _ (.inr (by decide)) fun m => ⟨?_, ?_⟩⟩
  · unfold O.groupCntNotice O.seamCntTx; omega
  · unfold O.groupCntNotice O.seamCntDiscard; omega

theorem adopts_mangle (s : State) (m : MangleSt) : Adopts s { s with mangle := m } := ⟨rfl, rfl, rfl, rfl⟩

theorem adopts_notifyGroup (s : State) (code : Nat) (body : List Byte) : Adopts s (notifyGroup s code body) := by
  have hcount := csrGet_notifyGroup s code body (o := O.groupCntNotice) (by decide)
  obtain ⟨_, _, _, _, _, _, h⟩ := reports_notifyGroup (code := code) (body := body) (Reports.refl s)
  exact ⟨by rw [h], by rw [h], by rw [h], hcount⟩

theorem adopts_endDeferred (s : State) (x : Running) (st detail : Nat) (body : List Byte) :
    Adopts s (endDeferred s x st detail body) := by
  obtain ⟨_, _, _, h⟩ := respond_eq_with (dropRunning s x) x.req st detail body
  unfold endDeferred
  rw [h]
  exact ⟨rfl, rfl, rfl, rfl⟩

theorem adopts_failRankIn (t : GroupT) (s : State) (i : Inst) (f : Nat) : Adopts s (failRankIn t s i f) := by
  unfold failRankIn
  dsimp only
  split
  · exact .refl s
  · split
    · exact .refl s
    · refine foldl_rel Adopts.refl Adopts.trans (fun s k => ?_) _ s
      refine foldl_rel Adopts.refl Adopts.trans (fun s g => ?_) _ s
      refine foldl_rel Adopts.refl Adopts.trans (fun s rev => ?_) _ s
      refine foldl_rel Adopts.refl Adopts.trans (fun s l => ?_) _ s
      have hput : ∀ j, Adopts s (putInst s j) := fun j => adopts_mangle s _
      have hkept : ∀ (p : Prop) [Decidable p] (j : Inst), Adopts s (if p then s else putInst s j) := fun p _ j => by
        split
        · exact .refl s
        · exact hput j
      split
      · exact .refl s
      · split
        · exact .refl s
        · split
          · exact hkept _ _
          · split
            · split
              · exact hput _
              · exact hkept _ _
            · split
              · exact hput _
              · exact hkept _ _
            · exact hkept _ _

theorem adopts_reportCopy (s : State) (valid : Bool) : Adopts s (reportCopy s valid) := by
  unfold reportCopy
  split
  · exact .refl s
  · split
    · exact .refl s
    · exact (relays_sendMend _ _ _ _).adopts

theorem adopts_settleMarks (s : State) : Adopts s (settleMarks s) := by
  unfold settleMarks
  split
  · exact .refl s
  · refine Adopts.trans (u := s.withMend _) ⟨rfl, rfl, rfl, rfl⟩ (foldl_rel Adopts.refl Adopts.trans (fun s m => ?_) _ _)
    split
    · exact adopts_endDeferred _ _ _ _ _
    · exact .refl s

/-- A rank that is covered fails in every live reduction, and the change is reported. -/
theorem adopts_adoptState_covered (t : GroupT) (s : State) (n : Notice) (r : Nat) (c : Bool) :
    Adopts s (adoptState t s n ⟨r, .covered, c, 0⟩) := by
  unfold adoptState
  dsimp only
  split
  · exact .refl s
  · refine Adopts.trans ?_ (adopts_notifyGroup _ _ _)
    refine Adopts.trans ?_ (relays_raise_note _ _ _ _ _ (by decide)).adopts
    exact foldl_rel Adopts.refl Adopts.trans (fun s i => adopts_failRankIn t s i r) _ s

/-! ### The table after one change -/

section
variable {r : Nat} {c : Change}

theorem members_putMem (h : r < t.members.length) : memOf (putMem t { c with idx := r }) r =
    { memOf t r with st := c.st, copy := c.copy, link := c.link } := by
  have hget : t.members[r]? = some (memOf t r) := by
    rw [memOf, List.getD_eq_getElem _ _ h, List.getElem?_eq_getElem h]
  rw [putMem, hget, memOf]
  simp [List.getD_eq_getElem?_getD, h]

theorem memOf_putMem_other {p : Nat} (hp : p ≠ c.idx) : memOf (putMem t c) p = memOf t p := by
  unfold putMem
  split
  · simp [memOf, List.getD_eq_getElem?_getD, List.getElem?_set_ne hp.symm]
  · rfl

theorem putMem_fields (t : GroupT) (c : Change) : (putMem t c).self = t.self ∧ (putMem t c).ranks = t.ranks := by
  unfold putMem
  split <;> exact ⟨rfl, rfl⟩

end

/-- The table after a notice that covers one rank. -/
def coveredTable (t : GroupT) (n : Notice) (r : Nat) (c : Bool) : GroupT :=
  applyChanges t n.epoch [⟨r, .covered, c, 0⟩] n.keeper

theorem coveredTable_spec {r : Nat} {c : Bool} (hr : r < t.members.length) :
    (coveredTable t n r c).epoch = n.epoch ∧ memOf (coveredTable t n r c) r =
        { memOf t r with st := .covered, copy := c, link := 0 } ∧
    (∀ p, p ≠ r → memOf (coveredTable t n r c) p = memOf t p) ∧ (coveredTable t n r c).self = t.self :=
  ⟨rfl, members_putMem (c := ⟨r, .covered, c, 0⟩) hr, fun _ hp => memOf_putMem_other (c := ⟨r, .covered, c, 0⟩) hp,
    (putMem_fields t ⟨r, .covered, c, 0⟩).1⟩

/-- The state in which a notice has been noted and its table adopted, before its changes take effect. -/
def noticed (s : State) (n : Notice) (t t1 : GroupT) : State :=
  bump (s.withMend (fun m => { m with
    table := some t1
    adopted := n :: m.adopted, before := some ⟨t, s.mend.joins, s.routes⟩
    srcs := m.srcs.filter (fun x =>
      let y := memOf t1 x.target
      if x.role = 3 then y.st = .live else y.st = .live || (decide (y.st = .filling) && decide (y.link = x.spare)))
    stopped := m.stopped && !(decide (t1.keeper = t1.self) && decide (t.epoch < n.epoch)) })) O.groupCntNotice

/-- A covered rank other than its own changes nothing but the table, the plans and what is reported. -/
theorem adopts_adoptNotice_covered {r : Nat} {c : Bool} (htable : s.mend.table = some t) (hlost : n.lost = false)
    (hr : r < t.members.length) (hself : r ≠ t.self) (hlive : (memOf t t.self).st = .live) :
    Adopts (noticed s n t (coveredTable t n r c)) (adoptNotice s n [⟨r, .covered, c, 0⟩]) := by
  obtain ⟨-, -, hothers, hown⟩ := coveredTable_spec (n := n) (c := c) hr
  obtain ⟨w, hw⟩ : ∃ w, w = adoptState t (noticed s n t (coveredTable t n r c)) n ⟨r, .covered, c, 0⟩ := ⟨_, rfl⟩
  have hcovered := adopts_adoptState_covered t (noticed s n t (coveredTable t n r c)) n r c
  rw [← hw] at hcovered
  have hjoin : adoptJoin w t n ⟨r, .covered, c, 0⟩ = w := by
    unfold adoptJoin
    rw [if_neg fun h => MState.noConfusion h.2.1]
  have hstays : evict (adoptLost w n) = w := by
    have hst : (memOf (coveredTable t n r c) (coveredTable t n r c).self).st = .live := by
      rw [hown, hothers _ hself.symm, hlive]
    rw [adoptLost, if_neg (by rw [hlost]; decide), evict, hcovered.table, show
        (noticed s n t (coveredTable t n r c)).mend.table = some (coveredTable t n r c) from rfl]
    dsimp only
    rw [if_neg (by rw [hst]; simp)]
  have hadopt : adoptNotice s n [⟨r, .covered, c, 0⟩] = settleMarks (
      if (coveredTable t n r c).keeper ≠ t.keeper ∧ (coveredTable t n r c).keeper ≠ (coveredTable t n r c).self then
        reportCopy w (((heldRank (coveredTable t n r c)).map (fun p => (memOf (coveredTable t n r c) p).copy)).getD true)
      else w) := by
    have hfolded : adoptNotice s n [⟨r, .covered, c, 0⟩] = settleMarks (
        if (coveredTable t n r c).keeper ≠ t.keeper ∧ (coveredTable t n r c).keeper ≠ (coveredTable t n r c).self then
          reportCopy (evict (adoptLost (adoptJoin w t n ⟨r, .covered, c, 0⟩) n))
            (((heldRank (coveredTable t n r c)).map (fun p => (memOf (coveredTable t n r c) p).copy)).getD true)
        else evict (adoptLost (adoptJoin w t n ⟨r, .covered, c, 0⟩) n)) := by
      unfold adoptNotice
      rw [htable, hw]
      rfl
    rw [hfolded, hjoin, hstays]
  rw [hadopt]
  refine hcovered.trans (Adopts.trans ?_ (adopts_settleMarks _))
  split
  · exact adopts_reportCopy _ _
  · exact .refl w

theorem noticeRx_covered {r : Nat} {c : Bool} (htable : s.mend.table = some t) (hepoch : n.epoch = t.epoch + 1)
    (hchanges : n.changes = [⟨r, .covered, c, 0⟩]) (hlost : n.lost = false) (hr : r < t.members.length) (hself : r ≠ t.self)
    (hlive : (memOf t t.self).st = .live) (hheld : s.mend.held = []) :
    completes (.noticeRx h n) s (fun u => ∃ v t1, u = ackNotice v n.keeper n.epoch ∧
      v.mend.table = some t1 ∧ t1.epoch = n.epoch ∧ (memOf t1 r).st = .covered ∧ (memOf t1 r).copy = c ∧
      (∀ p, p ≠ r → memOf t1 p = memOf t p) ∧ t1.self = t.self ∧ n ∈ v.mend.adopted ∧ v.mem = s.mem ∧
      csrGet v O.groupCntNotice = min (csrGet s O.groupCntNotice + 1) 0xFFFFFFFF) := by
  obtain ⟨v, hv⟩ : ∃ v, v = adoptNotice (takeMend s h) n n.changes := ⟨_, rfl⟩
  have hadopts : Adopts (noticed (takeMend s h) n t (coveredTable t n r c)) v := by
    rw [hv, hchanges]
    exact adopts_adoptNotice_covered htable hlost hr hself hlive
  have hexec : exec (.noticeRx h n) s = .next (ackNotice v n.keeper n.epoch) := by
    change Host.Outcome.next (withTable (takeMend s h) _) = _
    rw [withTable_of_some (u := takeMend s h) htable, if_pos hepoch, ← hv, show (takeMend s h).mend.held = [] from hheld]
    rfl
  obtain ⟨htepoch, hmem, hothers, hown⟩ := coveredTable_spec (n := n) (c := c) hr
  refine ⟨_, hexec, v, coveredTable t n r c, rfl, hadopts.table, htepoch, by rw [hmem], by rw [hmem], hothers, hown, ?_,
    hadopts.mem, hadopts.count.trans (csrGet_bump_same _ _)⟩
  rw [hadopts.adopted]
  exact List.mem_cons_self

theorem setCopy_spec {r : Nat} {c : Bool} (hr : r < t.members.length) :
    (memOf (setCopy t r c) r).copy = c ∧ (memOf (setCopy t r c) r).st = (memOf t r).st ∧
    ∀ p, p ≠ r → memOf (setCopy t r c) p = memOf t p := by
  have hget : t.members[r]? = some (memOf t r) := by
    rw [memOf, List.getD_eq_getElem _ _ hr, List.getElem?_eq_getElem hr]
  unfold setCopy
  rw [hget]
  refine ⟨?_, ?_, fun p hp => ?_⟩
  · simp [memOf, List.getD_eq_getElem?_getD, hr]
  · simp [memOf, List.getD_eq_getElem?_getD, hr]
  · simp [memOf, List.getD_eq_getElem?_getD, List.getElem?_set_ne hp.symm]

theorem noticeRx_ahead (htable : s.mend.table = some t) (hepoch : t.epoch + 1 < n.epoch) :
    completes (.noticeRx h n) s (fun u => n ∈ u.mend.held ∧ u.mend.table = some t ∧ u =
        { takeMend s h with mend := u.mend }) := by
  have hexec : exec (.noticeRx h n) s = .next (if (takeMend s h).mend.held.contains n then takeMend s h
      else (takeMend s h).withMend (fun m => { m with held := m.held ++ [n] })) := by
    change Host.Outcome.next (withTable (takeMend s h) _) = _
    rw [withTable_of_some (u := takeMend s h) htable, if_neg (by omega), if_pos hepoch]
  refine ⟨_, hexec, ?_⟩
  split
  · next hin => exact ⟨List.contains_iff_mem.mp hin, htable, rfl⟩
  · exact ⟨List.mem_append_right _ List.mem_cons_self, htable, rfl⟩

theorem noticeRx_again (htable : s.mend.table = some t) (hepoch : n.epoch ≤ t.epoch) (hadopted : n ∈ s.mend.adopted) :
    completes (.noticeRx h n) s (fun u => u = ackNotice (takeMend s h) n.keeper n.epoch) := by
  refine ⟨_, ?_, rfl⟩
  change Host.Outcome.next (withTable (takeMend s h) _) = _
  rw [withTable_of_some (u := takeMend s h) htable, if_neg (by omega), if_neg (by omega),
    if_pos (List.contains_iff_mem.mpr (by exact hadopted))]

theorem noticeAckRx_completes (s : State) (h : MendHdr) :
    completes (.noticeAckRx h) s (fun u => u = { takeMend s h with mend := u.mend } ∧
      ∀ x, x ∈ u.mend.unacked ↔ x ∈ s.mend.unacked ∧ ¬ (acksFor s h.src x.1 = true ∧ x.2.epoch = h.epoch)) := by
  refine ⟨_, rfl, rfl, fun x => ?_⟩
  simp only [State.withMend, List.mem_filter, Bool.not_eq_true', Bool.and_eq_false_iff, decide_eq_false_iff_not]
  exact and_congr_right fun _ => by rw [not_and_or, Bool.not_eq_true]

theorem noticeResend_completes {d : Nat} {m : Notice} (htable : s.mend.table = some t)
    (hunacked : s.mend.unacked = [(d, m)])
    (hlives : notFailed t d = true) :
    completes .noticeResend s (fun u => u = bump (sendNotice s d m) O.groupCntResend) := by
  have hkept : s.mend.unacked.filter (fun x => notFailed t x.1) = [(d, m)] := by
    rw [hunacked, List.filter_cons_of_pos (by exact hlives), List.filter_nil]
  have hsame : s.withMend (fun m' => { m' with unacked := [(d, m)] }) = s := by
    rw [← hunacked]
    rfl
  refine ⟨_, ?_, rfl⟩
  change Host.Outcome.next (withTable s _) = _
  rw [withTable_of_some htable]
  dsimp only
  rw [hkept, hsame]
  rfl

theorem copyReportRx_completes {c : Bool} (htable : s.mend.table = some t) (hkeeper : t.keeper = t.self)
    (hepoch : t.epoch ≤ h.epoch) (hsubject : h.subject < t.ranks) (hranks : t.ranks ≤ t.members.length) :
    completes (.copyReportRx h c) s (fun u => ∃ t1, u.mend.table = some t1 ∧ (memOf t1 h.subject).copy = c ∧
      (memOf t1 h.subject).st = (memOf t h.subject).st ∧ (∀ p, p ≠ h.subject → memOf t1 p = memOf t p) ∧
      u = { takeMend s h with mend := u.mend }) := by
  have hcurrent : current s h = true := by
    unfold current epochOf
    rw [htable]
    exact decide_eq_true hepoch
  have hexec : exec (.copyReportRx h c) s = .next ((takeMend s h).withMend (fun m =>
      { m with table := some (setCopy t h.subject c) })) := by
    change Host.Outcome.next (withTable (takeMend s h) _) = _
    rw [withTable_of_some (u := takeMend s h) htable, if_pos ⟨hcurrent, hkeeper, hsubject⟩]
  obtain ⟨hcopy, hst, hothers⟩ := setCopy_spec (c := c) (lt_of_lt_of_le hsubject hranks)
  exact ⟨_, hexec, _, rfl, hcopy, hst, hothers, rfl⟩

/-- Settles O34: the next notice by the step from one table to the next (`adopts_adoptNotice_covered`), the other cases each
by the branch of its command. -/
theorem noticesAdopted : Obligations.NoticesAdopted := by
  intro s h n t s1 htable
  exact ⟨fun r c hepoch hchanges hlost hr hranks hself hlive hheld =>
      noticeRx_covered htable hepoch hchanges hlost (lt_of_lt_of_le hr hranks) hself hlive hheld,
    noticeRx_ahead htable, noticeRx_again htable, noticeAckRx_completes s h, fun d m => noticeResend_completes htable,
    fun c => copyReportRx_completes htable⟩

end Sys2Proof.Machine
end

section
/-! A WCP command that is next in the queue: what it finds when it begins. -/

open Sys2Proof
namespace Sys2Proof.Machine

variable {s u v : State} {q : WcpReq} {op : Nat} {img : Bool} {n : Request}

/-! ### Deep trace -/

/-- What a record of the deep trace leaves: from `s` to `u` memory was written, with the check bits, caches, counters and
minor events that a write may change. -/
structure DeepTraces (s u : State) : Prop where
  frame : ∃ mem bad upsets ccache csr cores queues freeCtr, u = { s with
    mem := mem, bad := bad, upsets := upsets, ccache := ccache, csr := csr, cores := cores
    err := { s.err with queues := queues }, freeCtr := freeCtr }
  csr : ∀ o, o < 0xB0000 → o < 0x2000C ∨ 0x30000 ≤ o → o ≠ O.secMtraceWr → csrGet u o = csrGet s o
  queues : ∀ sev, 2 ≤ sev → tget u.err.queues sev [] = tget s.err.queues sev []
  memWf : memWf s.mem = true → memWf u.mem = true

namespace DeepTraces

theorem refl (s : State) : DeepTraces s s :=
  ⟨⟨_, _, _, _, _, _, _, _, rfl⟩, fun _ _ _ _ => rfl, fun _ _ => rfl, fun h => h⟩

theorem trans (h : DeepTraces s u) (h' : DeepTraces u v) : DeepTraces s v := by
  obtain ⟨_, _, _, _, _, _, _, _, hu⟩ := h.frame
  obtain ⟨_, _, _, _, _, _, _, _, hv⟩ := h'.frame
  exact ⟨⟨_, _, _, _, _, _, _, _, hv.trans (by rw [hu])⟩, fun o ho hout hwr => (h'.csr o ho hout hwr).trans
      (h.csr o ho hout hwr),
    fun sev hsev => (h'.queues sev hsev).trans (h.queues sev hsev), fun hm => h'.memWf (h.memWf hm)⟩

end DeepTraces

theorem deepTraces_bump (s : State) {o : Nat} (k : Nat) (ho : 0xB0000 ≤ o) : DeepTraces s (bump s o k) :=
  ⟨⟨_, _, _, _, _, _, _, _, rfl⟩, fun _ hlt _ _ => csrGet_bump_other _ _ (by omega), fun _ _ => rfl, fun h => h⟩

theorem deepTraces_useFree (s : State) : DeepTraces s s.useFree :=
  ⟨⟨_, _, _, _, _, _, _, _, rfl⟩, fun _ _ _ _ => rfl, fun _ _ => rfl, fun h => h⟩

/-- A note or a corrected error joins the queue of its severity, and nothing else. -/
theorem raise_minor_queues (s : State) {sev : Nat} (hsev : sev < 2) (code cls srcKind src : Nat) (info : List Nat) :
    ∃ csr q, raise s code sev cls srcKind src info =
      { s with csr := csr, err := { s.err with queues := tset s.err.queues sev q } } ∨
      raise s code sev cls srcKind src info = { s with csr := csr } := by
  have hfrozen : ∀ b : Bool, (b || decide (sev = 3)) = b := fun b => by rw [decide_eq_false (by omega), Bool.or_false]
  have hfrozen' : ∀ b : Bool, (b || decide (3 ≤ sev)) = b := fun b => by rw [decide_eq_false (by omega), Bool.or_false]
  unfold raise
  rw [if_neg (by omega), placeEvent, if_neg (by omega), if_neg (by omega)]
  split
  · next q hq => exact ⟨_, q, .inl (by simp only [State.withErr, hfrozen]; rfl)⟩
  · rw [if_neg (by omega)]
    split
    · exact ⟨_, _, .inl (by simp only [enqueue, takeSeq, State.withErr, hfrozen']; rfl)⟩
    · rw [if_neg (by omega)]
      exact ⟨_, [], .inr rfl⟩

/-- A minor event changes no register but the sequence number and the counters of the log. -/
theorem csrGet_raise_minor (s : State) {sev code o : Nat} (hsev : sev < 2) (hcode : code < 0x10000) (cls srcKind src : Nat)
    (info : List Nat) (ho : o < 0x2000C ∨ 0x30000 ≤ o) : csrGet (raise s code sev cls srcKind src info) o = csrGet s o := by
  have harea : o ≠ O.errlogCntArea (areaOf code - 1) := by simp only [O.errlogCntArea, areaOf]; omega
  have hcnt : o ≠ O.errlogCntNote + 4 * sev := by simp only [O.errlogCntNote]; omega
  have hseq : o ≠ O.errlogSeq := by simp only [O.errlogSeq]; omega
  have hlost : o ≠ O.errlogLost := by simp only [O.errlogLost]; omega
  have hcount : csrGet (countEvent s code sev) o = csrGet s o :=
    (csrGet_bump_other _ _ hcnt).trans (csrGet_bump_other _ _ harea)
  unfold raise
  rw [if_neg (by omega), placeEvent, if_neg (by omega), if_neg (by omega)]
  split
  · rw [csrGet_withErr, hcount]
  · rw [if_neg (by omega)]
    split
    · simp only [enqueue, takeSeq]
      rw [csrGet_withErr, csrGet_csrPut_other _ _ hseq, hcount]
    · rw [if_neg (by omega), csrGet_bump_other _ _ hlost, hcount]

theorem deepTraces_raise_minor (s : State) {sev code : Nat} (hsev : sev < 2) (hcode : code < 0x10000)
    (cls srcKind src : Nat)
    (info : List Nat) : DeepTraces s (raise s code sev cls srcKind src info) := by
  have hcsr := fun o (ho : o < 0x2000C ∨ 0x30000 ≤ o) => csrGet_raise_minor s hsev hcode cls srcKind src info ho
  obtain ⟨_, q, h | h⟩ := raise_minor_queues s hsev code cls srcKind src info
  · refine ⟨⟨_, _, _, _, _, _, _, _, h⟩, fun o _ ho _ => hcsr o ho, fun k hk => ?_, fun hm => by rw [h]; exact hm⟩
    rw [h]
    exact tget_tset_other _ _ _ (by omega)
  · exact ⟨⟨_, _, _, _, _, _, _, _, h⟩, fun o _ ho _ => hcsr o ho, fun k hk => by rw [h], fun hm => by rw [h]; exact hm⟩

theorem deepTraces_meetUpset (s : State) (x : Nat × Upset) : DeepTraces s (meetUpset s x) := by
  have hmet : DeepTraces s { s with upsets := s.upsets.erase x } :=
    ⟨⟨_, _, _, _, _, _, _, _, rfl⟩, fun _ _ _ _ => rfl, fun _ _ => rfl, fun h => h⟩
  unfold meetUpset
  dsimp only
  split
  · exact ⟨⟨_, _, _, _, _, _, _, _, rfl⟩, fun _ _ _ _ => rfl, fun _ _ => rfl, fun h => h⟩
  · unfold memCorrected
    dsimp only
    refine hmet.trans (DeepTraces.trans ?_ (deepTraces_raise_minor _ (by omega) (by decide) _ _ _ _))
    split
    · exact deepTraces_bump _ _ (by unfold O.hbmCe; omega)
    · exact deepTraces_bump _ _ (by unfold O.hbmSramCe; omega)
    · exact .refl _

theorem deepTraces_memPut (s : State) (a : Nat) (bs : List Byte) : DeepTraces s (memPut s a bs) := by
  have hput : ∀ bad upsets, DeepTraces s { s with mem := memWrites s.mem a bs, bad := bad, upsets := upsets } := fun _ _ =>
    ⟨⟨_, _, _, _, _, _, _, _, rfl⟩, fun _ _ _ _ => rfl, fun _ _ => rfl, memWf_memWrites s.mem a bs⟩
  have hdrop : ∀ (w : State) lo hi, DeepTraces w (dropLines w lo hi) := fun w _ _ =>
    ⟨⟨_, _, _, _, _, _, _, _, rfl⟩, fun _ _ _ _ => rfl, fun _ _ => rfl, fun h => h⟩
  unfold memPut
  dsimp only
  split
  · exact hput _ _
  · exact (hput _ _).trans ((hdrop _ _ _).trans (deepTraces_bump _ _ (by decide)))

theorem deepTraces_agentWrite (s : State) (a : Nat) (bs : List Byte) : DeepTraces s (agentWrite s a bs) := by
  unfold agentWrite
  dsimp only
  refine DeepTraces.trans (foldl_rel DeepTraces.refl DeepTraces.trans deepTraces_meetUpset _ s)
    ((deepTraces_memPut _ a bs).trans (foldl_rel DeepTraces.refl DeepTraces.trans (fun w c => ?_) _ _))
  unfold overwriteCore
  dsimp only
  split
  · exact .refl w
  · exact deepTraces_bump _ _ (by unfold O.corePrefetchOverwritten; omega)

theorem deepTraces_deepTrace (s : State) : DeepTraces s (deepTrace s) := by
  have hmark : ∀ (w : State) x, DeepTraces w (csrPut w O.secMtraceWr x) := fun w x =>
    ⟨⟨_, _, _, _, _, _, _, _, rfl⟩, fun _ _ _ hwr => csrGet_csrPut_other _ _ hwr, fun _ _ => rfl, fun h => h⟩
  unfold deepTrace
  dsimp only
  split
  · exact .refl s
  · split
    · exact (deepTraces_useFree s).trans
        ((deepTraces_agentWrite _ _ _).trans ((deepTraces_agentWrite _ _ _).trans (hmark _ _)))
    · exact deepTraces_raise_minor _ (by omega) (by decide) _ _ _ _

/-! ### The request that is taken -/

/-- The state in which a request is no longer in the queue. -/
def taken (s : State) (q : WcpReq) (op : Nat) (n : Request) : State :=
  (received s q op).withWcp (fun w => { w with queue := w.queue.erase n })

theorem begun_eq (s : State) (q : WcpReq) (op : Nat) (n : Request) : begun s q op n = deepTrace (taken s q op n) := rfl

theorem emit_wcp (s : State) (e : Emit) : (s.emit e).wcp = s.wcp := by
  obtain ⟨_, _, _, h⟩ := emit_eq_with s e
  rw [h]

theorem respond_queue (s : State) (m : Request) (st : Nat) : (respond s m st).wcp.queue = s.wcp.queue := by
  obtain ⟨_, _, _, h⟩ := respond_eq_with s m st 0 []
  rw [h]

theorem duplicate_queue (s : State) (x : Session) (k : Nat) : (duplicate s x k).wcp.queue = s.wcp.queue := by
  unfold duplicate
  dsimp only
  split
  · rw [emit_wcp]
    rfl
  · rfl

theorem mem_queue_of_closeSession {id cause : Nat} {m : Request} (h : m ∈ (closeSession s id cause).wcp.queue) :
    m ∈ s.wcp.queue := by
  unfold closeSession at h
  split at h
  · exact h
  · next x _ =>
    obtain ⟨_, _, hraise⟩ := raise_note_eq_with ((dropLatches s (sessionReader x.slot)).withWcp (fun w => { w with
      sessions := w.sessions.filter (fun y => decide (y.id ≠ id))
      queue := w.queue.filter (fun r => decide (r.session ≠ id)) })) 0x6004 3 6 x.bind.port [cause]
    rw [hraise] at h
    exact (List.mem_filter.mp h).1

/-- A session as a request leaves it that is new to it. -/
def Session.noting (x : Session) (r : Request) : Session :=
  { x with bind := r.bind, highest := max x.highest r.seq, accepted := r.seq :: x.accepted }

theorem takeRequest_sessionless {r : Request} (h : r.session = 0) : takeRequest s r =
    if sessionless r.opcode = false then bump s O.ethCntBadTag
    else if 32 ≤ s.wcp.queue.length then s.emit (.resp r.bind 0 r.seq r.opcode stQueueFull 0 [])
    else s.withWcp (fun w => { w with queue := w.queue ++ [r] }) := by
  unfold takeRequest takeRequestIf
  simp [h]

theorem takeRequest_unknown {r : Request} (h : r.session ≠ 0) (hnone : findSession s r.session = none) :
    takeRequest s r = bump s O.ethCntBadTag := by
  unfold takeRequest takeRequestIf
  simp [h, hnone]

theorem takeRequest_session {r : Request} {x : Session} (h : r.session ≠ 0) (hx : findSession s r.session = some x) :
    takeRequest s r =
      let s1 := setSession s { x with bind := r.bind }
      let s2 := setSession s1 (x.noting r)
      if 2 ^ 63 < r.seq then closeSession s1 x.id 3
      else if x.accepted.contains r.seq then duplicate s1 { x with bind := r.bind } r.seq
      else if r.seq + 64 ≤ x.highest then s1
      else if 32 ≤ s.wcp.queue.length then s1.emit (.resp r.bind x.id r.seq r.opcode stQueueFull 0 [])
      else if knownOpcode r.opcode = false then respond s2 r stUnknownOpcode
      else s2.withWcp (fun w => { w with queue := w.queue ++ [r] }) := by
  unfold takeRequest takeRequestIf
  simp [h, hx, Session.noting]

/-- A request joins the queue, its session noting it, or every request of the queue was there before. -/
theorem takeRequest_joins (s : State) (r : Request) :
    (∃ sessions, takeRequest s r = { s with wcp := { s.wcp with queue := s.wcp.queue ++ [r], sessions := sessions } }) ∨
    ∀ m ∈ (takeRequest s r).wcp.queue, m ∈ s.wcp.queue := by
  by_cases h : r.session = 0
  · rw [takeRequest_sessionless h]
    split
    · exact .inr fun m hm => hm
    · split
      · exact .inr fun m hm => by rw [emit_wcp] at hm; exact hm
      · exact .inl ⟨s.wcp.sessions, rfl⟩
  · cases hx : findSession s r.session with
    | none =>
      rw [takeRequest_unknown h hx]
      exact .inr fun m hm => hm
    | some x =>
      rw [takeRequest_session h hx]
      dsimp only
      split
      · exact .inr fun m hm => mem_queue_of_closeSession (s := setSession s { x with bind := r.bind }) hm
      · split
        · exact .inr fun m hm => by rw [duplicate_queue] at hm; exact hm
        · split
          · exact .inr fun m hm => hm
          · split
            · exact .inr fun m hm => by rw [emit_wcp] at hm; exact hm
            · split
              · exact .inr fun m hm => by rw [respond_queue] at hm; exact hm
              · exact .inl ⟨_, rfl⟩

theorem mem_queue_of_nextRequest (h : nextRequest s = some n) : n ∈ s.wcp.queue := by
  unfold nextRequest at h
  split at h
  · next r hr =>
    cases h
    exact List.mem_of_find?_eq_some hr
  · exact List.mem_of_mem_head? h

/-- A request that is next in the queue is there already, or has joined it. -/
theorem received_of_upNext (h : upNext s q op img n) : ∃ queue sessions,
    received s q op = { s with wcp := { s.wcp with queue := queue, sessions := sessions } } := by
  obtain ⟨-, -, -, hnext, hsame, -⟩ := h
  by_cases hany : s.wcp.queue.any (sameReq ⟨q.session, q.seq, op, q.bind⟩) = true
  · exact ⟨s.wcp.queue, s.wcp.sessions, if_pos hany⟩
  · have hjoin : received s q op = takeRequest s ⟨q.session, q.seq, op, q.bind⟩ := if_neg hany
    rw [hjoin] at hnext ⊢
    rcases takeRequest_joins s ⟨q.session, q.seq, op, q.bind⟩ with ⟨sessions, hjoined⟩ | hold
    · exact ⟨_, sessions, hjoined⟩
    · refine absurd (List.any_eq_true.mpr ⟨n, hold n (mem_queue_of_nextRequest hnext), ?_⟩) hany
      unfold sameReq at hsame ⊢
      simp only [Bool.and_eq_true, decide_eq_true_eq] at hsame ⊢
      exact ⟨⟨hsame.1.1.symm, hsame.1.2.symm⟩, hsame.2.symm⟩

theorem taken_of_upNext (h : upNext s q op img n) : ∃ queue sessions,
    taken s q op n = { s with wcp := { s.wcp with queue := queue, sessions := sessions } } := by
  obtain ⟨_, _, hr⟩ := received_of_upNext h
  exact ⟨_, _, by rw [taken, hr]; rfl⟩

theorem opcode_of_upNext (h : upNext s q op img n) : n.opcode = op := by
  obtain ⟨-, -, -, -, hsame, -⟩ := h
  unfold sameReq at hsame
  simp only [Bool.and_eq_true, decide_eq_true_eq] at hsame
  exact hsame.2

theorem session_of_upNext (h : upNext s q op img n) : n.session = q.session := by
  obtain ⟨-, -, -, -, hsame, -⟩ := h
  unfold sameReq at hsame
  simp only [Bool.and_eq_true, decide_eq_true_eq] at hsame
  exact hsame.1.1

/-! ### The command begins -/

theorem wcpRowWith_of_upNext {fail : State → Request → Nat → State} {ok busy : State → Bool} {run : Request → State → State}
    (h : upNext s q op img n) (hok : ok (taken s q op n) = true) :
    wcpRowWith fail q op img ok busy run s =
      if busy (taken s q op n) then fail (taken s q op n) n stBusy else run n (begun s q op n) := by
  obtain ⟨hdev, hthermal, hq, hnext, hsame, hlimited⟩ := h
  have hmay : (limited (taken s q op n) ⟨q.session, q.seq, op, q.bind⟩ && !unownedMay op img) = false := by
    cases hl : limited (received s q op) ⟨q.session, q.seq, op, q.bind⟩ with
    | true => rw [hlimited hl, Bool.not_true, Bool.and_false]
    | false => exact Bool.and_eq_false_iff.mpr (.inl hl)
  have hrow : wcpRowWith fail q op img ok busy run s = match nextRequest (received s q op) with
      | none => received s q op
      | some m =>
        if s.dev = .boot ∨ s.power.thermalOff then s
        else if sameReq m ⟨q.session, q.seq, op, q.bind⟩ = false then received s q op
        else if (limited (taken s q op m) ⟨q.session, q.seq, op, q.bind⟩ && !unownedMay op img) || !ok (taken s q op m) then
          fail (taken s q op m) m stBadState
        else if busy (taken s q op m) then fail (taken s q op m) m stBusy
        else if !q.ok then fail (taken s q op m) m stMalformed
        else run m (deepTrace (taken s q op m)) := rfl
  rw [hrow, hnext]
  dsimp only
  rw [if_neg (by rw [hthermal]; simp [hdev]), if_neg (by rw [hsame]; decide), hmay, hok, if_neg (by decide), hq]
  rfl

theorem wcpRow_of_upNext {ok busy : State → Bool} {run : Request → State → State} (h : upNext s q op img n)
    (hok : ok (taken s q op n) = true) (hbusy : busy (taken s q op n) = false) :
    wcpRow q op img ok busy run s = run n (begun s q op n) := by
  rw [wcpRow, wcpRowWith_of_upNext h hok, if_neg (by rw [hbusy]; decide)]

/-- What a command finds as its request left it: all but the queue, the sessions and what the deep trace writes. -/
theorem begun_of_upNext (h : upNext s q op img n) :
    ∃ mem bad upsets ccache csr cores queues freeCtr queue sessions, begun s q op n = { s with
      mem := mem, bad := bad, upsets := upsets, ccache := ccache, csr := csr, cores := cores
      err := { s.err with queues := queues }, freeCtr := freeCtr
      wcp := { s.wcp with queue := queue, sessions := sessions } } := by
  obtain ⟨_, _, ht⟩ := taken_of_upNext h
  obtain ⟨_, _, _, _, _, _, _, _, hd⟩ := (deepTraces_deepTrace (taken s q op n)).frame
  exact ⟨_, _, _, _, _, _, _, _, _, _, by rw [begun_eq, hd, ht]⟩

theorem csrGet_begun (h : upNext s q op img n) {o : Nat} (ho : o < 0xB0000) (hout : o < 0x2000C ∨ 0x30000 ≤ o)
    (hwr : o ≠ O.secMtraceWr) :
    csrGet (begun s q op n) o = csrGet s o := by
  obtain ⟨_, _, ht⟩ := taken_of_upNext h
  rw [begun_eq, (deepTraces_deepTrace _).csr o ho hout hwr, ht]
  rfl

theorem memWf_begun (h : upNext s q op img n) (hwf : memWf s.mem = true) : memWf (begun s q op n).mem = true := by
  obtain ⟨_, _, ht⟩ := taken_of_upNext h
  have htaken : memWf (taken s q op n).mem = true := by
    rw [ht]
    exact hwf
  exact (deepTraces_deepTrace _).memWf htaken

end Sys2Proof.Machine
end

section
/-! O45. The session commands of WCP. -/

open Sys2Proof
namespace Sys2Proof.Machine

variable {s : State} {q : WcpReq} {n : Request} {o : OpenArgs}

/-- A response adds no session and closes none. -/
theorem map_id_respond (s : State) (n : Request) (st detail : Nat) (body : List Byte) :
    (respond s n st detail body).wcp.sessions.map (fun y => y.id) = s.wcp.sessions.map (fun y => y.id) := by
  by_cases h : n.session = 0
  · obtain ⟨_, hu⟩ := respond_sessionless s st detail body h
    rw [hu]
  · cases hx : findSession s n.session with
    | none => rw [respond_unknown s st detail body h hx]
    | some x =>
      obtain ⟨_, hu⟩ := respond_session s st detail body h hx
      rw [hu]
      exact map_id_setSession s _

/-- Which session is answered depends on the sessions alone. -/
theorem answered_of_sessions {b w u : State} {st detail : Nat} {body : List Byte} (hsame : w.wcp.sessions = b.wcp.sessions)
    (h : answered w u n st detail body) : answered b u n st detail body := by
  have hfind : findSession w n.session = findSession b n.session := by rw [findSession, hsame, findSession]
  exact ⟨h.1, fun x hne hx => h.2 x hne (hfind.trans hx)⟩

theorem hello_completes (h : upNext s q 1 false n) : completes (.hello q) s (fun u =>
    u.wcp.nonces = (begun s q 1 n).wcp.nonces ++ [⟨Config.nonce (begun s q 1 n).freeCtr, (begun s q 1 n).cycle⟩] ∧
    u.freeCtr = (begun s q 1 n).freeCtr + 1 ∧ u.mem = (begun s q 1 n).mem ∧
    answered (begun s q 1 n) u n stOk 0 (digestBytes (Config.nonce (begun s q 1 n).freeCtr) ++ digestBytes Config.identity
        ++
      leBytes 4 romLevel)) := by
  obtain ⟨w, hw⟩ : ∃ w, w = (begun s q 1 n).useFree.withWcp (fun w => { w with nonces := w.nonces ++
    [⟨Config.nonce (begun s q 1 n).freeCtr, (begun s q 1 n).cycle⟩] }) := ⟨_, rfl⟩
  obtain ⟨body, hbody⟩ : ∃ body, body = digestBytes (Config.nonce (begun s q 1 n).freeCtr) ++ digestBytes Config.identity ++
    leBytes 4 romLevel := ⟨_, rfl⟩
  have hexec : exec (.hello q) s = .next (respond w n stOk 0 body) := by
    rw [hw, hbody]
    exact congrArg Host.Outcome.next (wcpRow_of_upNext h rfl rfl)
  have hanswered := answered_respond w n stOk 0 body
  obtain ⟨_, _, _, hu⟩ := respond_eq_with w n stOk 0 body
  rw [← hbody]
  refine ⟨_, hexec, by rw [hu, hw]; rfl, by rw [hu, hw]; rfl, by rw [hu, hw]; rfl, ?_⟩
  rw [hw] at hanswered ⊢
  exact hanswered

/-- The state after the nonce of an OPEN has been used up. -/
def nonceUsed (s : State) (nonce : BitVec 256) : State :=
  s.withWcp (fun w => { w with nonces := w.nonces.filter (fun x => decide (x.nonce ≠ nonce)) })

/-- The session that an OPEN gives. -/
def openedSession (s : State) (slot : Nat) (n : Request) (o : OpenArgs) : Session :=
  { id := nextSession s, slot := slot, bind := n.bind, hostKey := o.hostKey
    keyIn := (openKeys (nextSession s) s.freeCtr o).take 32, keyOut := (openKeys (nextSession s) s.freeCtr o).drop 32
    unowned := s.sec.owner.isNone, noNotify := o.noNotify, highest := 0, accepted := [], cache := [], noteNum := 0, notes :=
        []
    lost := 0, reasm := [] }

theorem exec_wcpOpen (h : upNext s q 3 false n) :
    let b := begun s q 3 n
    let s1 := nonceUsed b o.nonce
    exec (.wcpOpen q o) s = .next (
      if !nonceCurrent b o.nonce || !hostKeyOk b o.hostKey || !o.sigOk then refuseOpen s1 n stAuth
      else match (List.range 8).find? (fun k => !b.wcp.sessions.any (fun x => decide (x.slot = k))) with
        | none => refuseOpen s1 n stNoResource
        | some slot => respond (raise (s1.useFree.withWcp (fun w => { w with
              sessions := w.sessions ++ [openedSession b slot n o], lastId := nextSession b })) 0x8001 0 3 6 n.bind.port
            [nextSession b, digestWord o.hostKey 0, digestWord o.hostKey 1, digestWord o.hostKey 2]) n stOk 0
            (openBody (nextSession b) b.freeCtr o)) :=
  congrArg Host.Outcome.next (wcpRow_of_upNext h rfl rfl)

theorem wcpOpen_opens {k : Nat} (h : upNext s q 3 false n) (hsession : q.session = 0)
    (hnonce : nonceCurrent (begun s q 3 n) o.nonce = true) (hkey : hostKeyOk (begun s q 3 n) o.hostKey = true)
    (hsig : o.sigOk = true) (hk : k < 8) (hfree : ∀ y ∈ (begun s q 3 n).wcp.sessions, y.slot ≠ k) :
    completes (.wcpOpen q o) s (fun u =>
      (∃ y ∈ u.wcp.sessions, y.id = nextSession (begun s q 3 n) ∧ y.bind = n.bind ∧ y.hostKey = o.hostKey ∧ y.slot < 8 ∧
        y.accepted = [] ∧ y.keyIn = (openKeys (nextSession (begun s q 3 n)) (begun s q 3 n).freeCtr o).take 32 ∧
        y.keyOut = (openKeys (nextSession (begun s q 3 n)) (begun s q 3 n).freeCtr o).drop 32) ∧
      (∀ m ∈ u.wcp.nonces, m.nonce ≠ o.nonce) ∧ u.wcp.lastId = nextSession (begun s q 3 n) ∧
      (hasRoom (begun s q 3 n) 0 → queued u 0 0x8001) ∧
      u.out.head? = some (.resp n.bind 0 n.seq n.opcode stOk 0 (openBody (nextSession (begun s q 3 n))
          (begun s q 3 n).freeCtr o))) := by
  have hexec := exec_wcpOpen (o := o) h
  obtain ⟨b, hb⟩ : ∃ b, b = begun s q 3 n := ⟨_, rfl⟩
  rw [← hb] at hexec hnonce hkey hfree ⊢
  obtain ⟨slot, hslot⟩ : ∃ slot, (List.range 8).find? (fun k => !b.wcp.sessions.any (fun x => decide (x.slot = k))) = some
      slot :=
    Option.isSome_iff_exists.mp (List.find?_isSome.mpr ⟨k, List.mem_range.mpr hk, by simpa using hfree⟩)
  have hlt : slot < 8 := List.mem_range.mp (List.mem_of_find?_eq_some hslot)
  dsimp only at hexec
  rw [hnonce, hkey, hsig, if_neg (by decide), hslot] at hexec
  dsimp only at hexec
  obtain ⟨w, hw⟩ : ∃ w, w = (nonceUsed b o.nonce).useFree.withWcp (fun w => { w with
    sessions := w.sessions ++ [openedSession b slot n o], lastId := nextSession b }) := ⟨_, rfl⟩
  obtain ⟨info, hinfo⟩ : ∃ info, info =
    [nextSession b, digestWord o.hostKey 0, digestWord o.hostKey 1, digestWord o.hostKey 2] := ⟨_, rfl⟩
  rw [← hw, ← hinfo] at hexec
  obtain ⟨_, _, hraise⟩ := raise_note_eq_with w 0x8001 3 6 n.bind.port info
  obtain ⟨_, hu⟩ := respond_sessionless (raise w 0x8001 0 3 6 n.bind.port info) stOk 0
      (openBody (nextSession b) b.freeCtr o)
    ((session_of_upNext h).trans hsession)
  refine ⟨_, hexec, ⟨openedSession b slot n o, ?_, rfl, rfl, rfl, hlt, rfl, rfl, rfl⟩, fun m hm => ?_, ?_, fun hroom => ?_,
      ?_⟩
  · rw [hu, hraise, hw]
    exact List.mem_append_right _ List.mem_cons_self
  · rw [hu, hraise, hw] at hm
    exact of_decide_eq_true (List.mem_filter.mp hm).2
  · rw [hu, hraise, hw]
    rfl
  · rw [hu]
    refine queued_raise_note w 0x8001 3 6 n.bind.port info (.inl ?_)
    rw [hw]
    exact hroom
  · rw [hu]
    rfl

theorem wcpOpen_refuses (h : upNext s q 3 false n) (hbad : nonceCurrent (begun s q 3 n) o.nonce = false ∨
      hostKeyOk (begun s q 3 n) o.hostKey = false ∨ o.sigOk = false) :
    completes (.wcpOpen q o) s (fun u =>
      u.wcp.sessions.map (fun y => y.id) = (begun s q 3 n).wcp.sessions.map (fun y => y.id) ∧
      (hasRoom (begun s q 3 n) 0 → queued u 0 0x8002) ∧ answered (begun s q 3 n) u n stAuth 0 [] ∧
      csrGet u O.secCntAuthFail = min (csrGet (begun s q 3 n) O.secCntAuthFail + 1) 0xFFFFFFFF) := by
  have hexec := exec_wcpOpen (o := o) h
  obtain ⟨b, hb⟩ : ∃ b, b = begun s q 3 n := ⟨_, rfl⟩
  rw [← hb] at hexec hbad ⊢
  dsimp only at hexec
  rw [if_pos (by rcases hbad with h | h | h <;> simp [h])] at hexec
  obtain ⟨v, hv⟩ : ∃ v, v = raise (nonceUsed b o.nonce) 0x8002 0 3 6 n.bind.port [stAuth] := ⟨_, rfl⟩
  have hrefused : refuseOpen (nonceUsed b o.nonce) n stAuth = respond (bump v O.secCntAuthFail) n stAuth := by
    rw [hv]
    rfl
  rw [hrefused] at hexec
  obtain ⟨_, _, hraise⟩ := raise_note_eq_with (nonceUsed b o.nonce) 0x8002 3 6 n.bind.port [stAuth]
  rw [← hv] at hraise
  have hwcp : (bump v O.secCntAuthFail).wcp.sessions = b.wcp.sessions := by
    change v.wcp.sessions = _
    rw [hraise]
    rfl
  obtain ⟨_, _, _, hu⟩ := respond_eq_with (bump v O.secCntAuthFail) n stAuth 0 []
  refine ⟨_, hexec, ?_, fun hroom => ?_, ?_, ?_⟩
  · rw [← hwcp]
    exact map_id_respond _ _ _ _ _
  · rw [hu]
    change queued v 0 0x8002
    rw [hv]
    exact queued_raise_note _ 0x8002 3 6 _ _ (.inl hroom)
  · exact answered_of_sessions (by rw [hwcp]) (answered_respond _ n stAuth 0 [])
  · rw [hu]
    refine (csrGet_bump_same v O.secCntAuthFail).trans ?_
    rw [hv, csrGet_raise_note _ 3 6 _ _ (by decide) (.inr (by decide))]
    rfl

theorem wcpClose_completes {x : Session} (h : upNext s q 4 false n) (hsession : n.session ≠ 0)
    (hx : findSession (begun s q 4 n) n.session = some x) : completes (.wcpClose q) s (fun u =>
      (∀ y ∈ u.wcp.sessions, y.id ≠ n.session) ∧ .resp x.bind x.id n.seq n.opcode stOk 0 [] ∈ u.out ∧
      u.mem = (begun s q 4 n).mem) := by
  obtain ⟨b, hb⟩ : ∃ b, b = begun s q 4 n := ⟨_, rfl⟩
  obtain ⟨v, hv⟩ : ∃ v, v = respond b n stOk := ⟨_, rfl⟩
  have hexec : exec (.wcpClose q) s = .next (closeSession v n.session 0) := by
    rw [hv, hb]
    exact congrArg Host.Outcome.next (wcpRow_of_upNext h rfl rfl)
  rw [← hb] at hx ⊢
  obtain ⟨_, hresp⟩ := respond_session b stOk 0 [] hsession hx
  have hfound : findSession v n.session = some (x.answers n stOk 0 []) := by
    rw [hv, hresp]
    exact findSession_setSession b hx (y := x.answers n stOk 0 []) (id_of_findSession (x := x) hx)
  obtain ⟨w, hw⟩ : ∃ w, w = (dropLatches v (sessionReader (x.answers n stOk 0 []).slot)).withWcp (fun w => { w with
    sessions := w.sessions.filter (fun y => decide (y.id ≠ n.session))
    queue := w.queue.filter (fun r => decide (r.session ≠ n.session)) }) := ⟨_, rfl⟩
  have hclose : closeSession v n.session 0 = raise w 0x6004 0 3 6 (x.answers n stOk 0 []).bind.port [0] := by
    rw [closeSession, hfound, hw]
  obtain ⟨_, _, hraise⟩ := raise_note_eq_with w 0x6004 3 6 (x.answers n stOk 0 []).bind.port [0]
  refine ⟨_, hexec, fun y hy => ?_, ?_, ?_⟩
  · rw [hclose, hraise, hw] at hy
    exact of_decide_eq_true (List.mem_filter.mp hy).2
  · rw [hclose, hraise, hw]
    change _ ∈ v.out
    rw [hv, hresp]
    exact List.mem_cons_self
  · rw [hclose, hraise, hw]
    change v.mem = b.mem
    rw [hv, hresp]
    rfl

theorem notifyAck_completes {x : Session} {upTo : Nat} (h : upNext s q 8 false n)
    (hx : findSession (begun s q 8 n) n.session = some x) : completes (.notifyAck q upTo) s (fun u =>
      u = setSession (begun s q 8 n) { x with notes := x.notes.filter (fun m => decide (upTo < m.num)) }) := by
  obtain ⟨-, -, hq, -⟩ := id h
  have hwell : { q with ok := true } = q := by rw [← hq]
  have hexec : exec (.notifyAck q upTo) s = .next (wcpRow { q with ok := true } 0x0008 false inAny neverBusy (fun r s =>
    match findSession s r.session with
    | some x => if q.ok then setSession s { x with notes := x.notes.filter (fun n => decide (upTo < n.num)) } else s
    | none => s) s) := rfl
  rw [hwell, wcpRow_of_upNext h rfl rfl, hx, hq] at hexec
  exact ⟨_, hexec, rfl⟩

theorem ping_completes {bs : List Byte} (h : upNext s q 7 false n) (hlen : bs.length ≤ 1024) :
    completes (.ping q bs) s (fun u => u = respond (begun s q 7 n) n stOk 0 bs) := by
  refine ⟨_, congrArg Host.Outcome.next (wcpRow_of_upNext h rfl rfl), ?_⟩
  dsimp only
  rw [if_neg (by omega)]

/-- Settles O45: each command by what it does once it is next. -/
theorem sessionCommands : Obligations.SessionCommands := by
  intro s q n o off upTo bs x
  exact ⟨hello_completes, fun h => ⟨_, congrArg Host.Outcome.next (wcpRow_of_upNext h rfl rfl), rfl⟩,
    fun h hsession => ⟨fun k hnonce hkey hsig hk hfree => wcpOpen_opens h hsession hnonce hkey hsig hk hfree,
        wcpOpen_refuses h⟩,
    wcpClose_completes, fun h => ⟨_, congrArg Host.Outcome.next (wcpRow_of_upNext h rfl rfl), rfl⟩, ping_completes,
    notifyAck_completes⟩

end Sys2Proof.Machine
end

section
/-! O46. The register, job and group commands of WCP. -/

open Sys2Proof
namespace Sys2Proof.Machine

variable {s u : State} {q : WcpReq} {n : Request}

/-! ### Notified sessions keep their addresses -/

/-- From `s` to `u` every session keeps its address. -/
def KeepsAddresses (s u : State) : Prop :=
  ∀ id x, findSession s id = some x → ∃ y, findSession u id = some y ∧ y.bind = x.bind ∧ y.id = x.id

theorem KeepsAddresses.of_sessions (h : u.wcp.sessions = s.wcp.sessions) : KeepsAddresses s u := fun id x hx =>
  ⟨x, by rw [findSession, h]; exact hx, rfl, rfl⟩

theorem KeepsAddresses.trans {v : State} (h : KeepsAddresses s u) (h' : KeepsAddresses u v) : KeepsAddresses s v :=
    fun id x hx => by
  obtain ⟨y, hy, hbind, hid⟩ := h id x hx
  obtain ⟨z, hz, hbind', hid'⟩ := h' id y hy
  exact ⟨z, hz, hbind'.trans hbind, hid'.trans hid⟩

theorem answered_of_addresses {b w : State} {st detail : Nat} {body : List Byte} (hsame : KeepsAddresses b w)
    (h : answered w u n st detail body) : answered b u n st detail body := by
  refine ⟨h.1, fun x hne hx => ?_⟩
  obtain ⟨y, hy, hbind, hid⟩ := hsame _ _ hx
  rw [← hbind, ← hid]
  exact h.2 y hne hy

theorem find?_notifyList (code self step : Nat) (body : List Byte) (l : List Session) {id : Nat} {x : Session}
    (h : l.find? (fun x => decide (x.id = id)) = some x) :
    ∃ y, (notifyList code self step body l).1.find? (fun x => decide (x.id = id)) = some y ∧ y.bind = x.bind ∧ y.id = x.id
        := by
  induction l with
  | nil => cases h
  | cons z l ih =>
    unfold notifyList
    by_cases hz : z.id = id
    · rw [List.find?_cons_of_pos (by exact decide_eq_true hz)] at h
      cases h
      dsimp only
      split
      · exact ⟨_, List.find?_cons_of_pos (by exact decide_eq_true hz), rfl, rfl⟩
      · exact ⟨_, List.find?_cons_of_pos (by exact decide_eq_true hz), rfl, rfl⟩
    · rw [List.find?_cons_of_neg (by simpa using hz)] at h
      obtain ⟨y, hy, hsame⟩ := ih h
      dsimp only
      split
      · exact ⟨y, (List.find?_cons_of_neg (by simpa using hz)).trans hy, hsame⟩
      · exact ⟨y, (List.find?_cons_of_neg (by simpa [Session.note] using hz)).trans hy, hsame⟩

theorem notifyAll_keepsAddresses (s : State) (code : Nat) (body : List Byte) : KeepsAddresses s (notifyAll s code body) :=
    by
  intro id x hx
  have hwcp : ∀ (es : List Emit) (w : State), (es.foldr (fun e s => s.emit e) w).wcp = w.wcp := fun es w => by
    induction es with
    | nil => rfl
    | cons e es ih => rw [List.foldr_cons, emit_wcp, ih]
  obtain ⟨y, hy, hsame⟩ := find?_notifyList code (selfRank s) s.step body s.wcp.sessions hx
  refine ⟨y, ?_, hsame⟩
  unfold notifyAll findSession
  dsimp only
  split
  · rw [hwcp]
    exact hy
  · rw [show ∀ (w : State) o k, (bump w o k).wcp = w.wcp from fun _ _ _ => rfl, hwcp]
    exact hy

theorem setDev_keepsAddresses (s : State) (d : DevState) : KeepsAddresses s (setDev s d) := by
  unfold setDev
  split
  · exact .of_sessions rfl
  · exact (KeepsAddresses.of_sessions rfl).trans (notifyAll_keepsAddresses { s with dev := d } _ _)

/-! ### The commands -/

theorem regRead_completes {off : Nat} (h : upNext s q 0x501 false n) (haligned : off % 4 = 0) :
    completes (.regRead q [off]) s (fun u => u = respond (csrRead (begun s q 0x501 n) (readerOf (begun s q 0x501 n) n)
        off).1 n
      stOk 0 (leBytes 4 (csrRead (begun s q 0x501 n) (readerOf (begun s q 0x501 n) n) off).2)) := by
  have hall : misaligned [off] = none := by simp [misaligned, haligned]
  refine ⟨_, congrArg Host.Outcome.next (wcpRow_of_upNext h rfl rfl), ?_⟩
  dsimp only
  rw [if_neg (by simp), answerRegs, hall]
  simp [readRegs]

theorem regWrite_completes {off : Nat} {v : BitVec 32} (h : upNext s q 0x502 false n) (hdev : s.dev ≠ .fenced)
    (haligned : off % 4 = 0) : completes (.regWrite q [(off, v)]) s (fun u =>
      u = respond (csrWrite (begun s q 0x502 n) off v).1 n (csrWrite (begun s q 0x502 n) off v).2 0) := by
  obtain ⟨_, _, ht⟩ := taken_of_upNext h
  refine ⟨_, congrArg Host.Outcome.next (wcpRow_of_upNext h (by rw [ht]; simpa [notFenced] using hdev) rfl), ?_⟩
  dsimp only
  obtain ⟨w, hw⟩ : ∃ w, w = csrWrite (begun s q 0x502 n) off v := ⟨_, rfl⟩
  rw [writeRegs, if_neg (by omega), ← hw]
  dsimp only
  split
  · next hok => rw [writeRegs, hok]
  · rfl

theorem regReadSeq_completes {first count : Nat} (h : upNext s q 0x503 false n) (hpos : 0 < count) (hcount : count ≤ 1024)
    (haligned : first % 4 = 0) : completes (.regReadSeq q first count) s (fun u =>
      let a := readRegs (readerOf (begun s q 0x503 n) n) ((List.range count).map (fun i => first + 4 * i))
          (begun s q 0x503 n)
      u = respond a.1 n stOk 0 a.2) := by
  have hall : misaligned ((List.range count).map (fun i => first + 4 * i)) = none := by
    refine List.findIdx?_eq_none_iff.mpr fun o ho => ?_
    obtain ⟨i, -, rfl⟩ := List.mem_map.mp ho
    exact decide_eq_false (not_not.mpr (by omega))
  refine ⟨_, congrArg Host.Outcome.next (wcpRow_of_upNext h rfl rfl), ?_⟩
  dsimp only
  rw [if_neg (by omega), answerRegs, hall]

theorem jobStatus_completes (h : upNext s q 0x301 false n) : completes (.jobStatus q) s (fun u =>
    u = respond (begun s q 0x301 n) n stOk 0 (leBytes 4 (csrValue (begun s q 0x301 n) O.globalState) ++ leBytes 4 s.step ++
      leBytes 4 (epochOf s) ++ leBytes 2 (selfRank s) ++ leBytes 2 0)) := by
  obtain ⟨_, _, _, _, _, _, _, _, _, _, hb⟩ := begun_of_upNext h
  have hstep : (begun s q 0x301 n).step = s.step := by rw [hb]
  have hmend : (begun s q 0x301 n).mend = s.mend := by rw [hb]
  refine ⟨_, congrArg Host.Outcome.next (wcpRow_of_upNext h rfl rfl), ?_⟩
  dsimp only
  rw [hstep, epochOf, epochOf, selfRank, selfRank, hmend]

/-- A command that goes on in the background is answered at once and joins those that run. -/
theorem startBg_completes (s : State) (n : Request) (a b c : Nat) :
    answered s (startBg s n a b c) n stInProgress 0 [] ∧ (startBg s n a b c).wcp.running = s.wcp.running ++ [⟨n, a, b, c⟩] ∧
    (startBg s n a b c).dev = s.dev := by
  obtain ⟨_, _, _, hu⟩ := respond_eq_with s n stInProgress 0 []
  refine ⟨answered_respond s n stInProgress 0 [], ?_, ?_⟩
  · rw [startBg, hu]
    rfl
  · rw [startBg, hu]
    rfl

theorem runningBg_taken {op o : Nat} {img : Bool} (h : upNext s q op img n) : runningBg (taken s q op n) o = runningBg s o
    := by
  obtain ⟨_, _, ht⟩ := taken_of_upNext h
  rw [runningBg, runningBg, ht]

theorem quiesceAt_eq (s : State) (step : Nat) : quiesceAt s step = max step (begunTo s + 1) := by
  unfold quiesceAt
  split <;> omega

theorem quiesce_completes {step : Nat} (h : upNext s q 0x302 false n) (hdev : s.dev = .running)
    (hidle : runningBg s 0x302 = none) : completes (.quiesce q step) s (fun u =>
      answered (begun s q 0x302 n) u n stInProgress 0 [] ∧
      u.wcp.running = s.wcp.running ++ [⟨n, max step (begunTo s + 1), 0, 0⟩] ∧ u.dev = .running) := by
  obtain ⟨_, _, ht⟩ := taken_of_upNext h
  obtain ⟨_, _, _, _, _, _, _, _, _, _, hb⟩ := begun_of_upNext h
  have hto : begunTo (begun s q 0x302 n) = begunTo s := by rw [begunTo, begunTo, hb]
  have hrunning : (begun s q 0x302 n).wcp.running = s.wcp.running := by rw [hb]
  obtain ⟨hanswered, hjoined, hsame⟩ := startBg_completes (begun s q 0x302 n) n (quiesceAt (begun s q 0x302 n) step) 0 0
  refine ⟨_, congrArg Host.Outcome.next (wcpRow_of_upNext h (by rw [ht]; simp [inStates, hdev])
    (by simp [busyWith, runningBg_taken h, hidle])), hanswered, ?_, hsame.trans (by rw [hb, hdev])⟩
  rw [hjoined, hrunning, quiesceAt_eq, hto]

theorem resume_completes (h : upNext s q 0x303 false n) (hdev : s.dev = .quiesced) (hlost : s.mend.lost = false)
    (hact : s.act = .none) : completes (.resume q) s (fun u =>
      u.dev = .running ∧ answered (begun s q 0x303 n) u n stOk 0 [] ∧ u.mem = (begun s q 0x303 n).mem) := by
  obtain ⟨_, _, ht⟩ := taken_of_upNext h
  obtain ⟨w, hw⟩ : ∃ w, w = setDev (begun s q 0x303 n) .running := ⟨_, rfl⟩
  obtain ⟨_, _, _, hu⟩ := respond_eq_with w n stOk 0 []
  refine ⟨respond w n stOk, by
    rw [hw]
    exact congrArg Host.Outcome.next (wcpRow_of_upNext h (by rw [ht]; simp [inStates, hdev, hlost, hact]) rfl), ?_, ?_, ?_⟩
  · rw [hu, hw]
    exact setDev_dev _ _
  · refine answered_of_addresses ?_ (answered_respond w n stOk 0 [])
    rw [hw]
    exact setDev_keepsAddresses _ _
  · rw [hu, hw]
    exact setDev_mem _ _

theorem groupStatus_completes (h : upNext s q 0x601 false n) : completes (.groupStatus q) s (fun u =>
    ∃ bs, bs.length = 20 ∧ u = respond (begun s q 0x601 n) n stOk 0 bs) :=
  ⟨_, congrArg Host.Outcome.next (wcpRow_of_upNext h rfl rfl), _, by simp [leBytes], rfl⟩

section
variable {rank : Nat} {t : GroupT}

/-- What the commands on a rank find: the table as it was, in a device that is not fenced. -/
theorem begun_withLive {op : Nat} {img : Bool} (h : upNext s q op img n) (hdev : s.dev ≠ .fenced)
    (htable : s.mend.table = some t) :
    withLive (taken s q op n) = true ∧ (begun s q op n).mend.table = some t := by
  obtain ⟨_, _, ht⟩ := taken_of_upNext h
  obtain ⟨_, _, _, _, _, _, _, _, _, _, hb⟩ := begun_of_upNext h
  refine ⟨?_, by rw [hb]; exact htable⟩
  rw [ht]
  simp [withLive, notFenced, hdev, htable]

theorem exec_markFailed (h : upNext s q 0x602 false n) (hdev : s.dev ≠ .fenced) (htable : s.mend.table = some t) :
    exec (.markFailed q rank) s = .next (markMember t rank n (begun s q 0x602 n)) := by
  obtain ⟨hlive, hbegun⟩ := begun_withLive h hdev htable
  refine congrArg Host.Outcome.next ((wcpRow_of_upNext h hlive rfl).trans ?_)
  rw [hbegun]

theorem markFailed_again (h : upNext s q 0x602 false n) (hdev : s.dev ≠ .fenced) (htable : s.mend.table = some t)
    (hrank : rank < t.ranks + t.spares) (hfailed : notFailed t rank = false) :
    completes (.markFailed q rank) s (fun u => u = respond (begun s q 0x602 n) n stOk) := by
  refine ⟨_, exec_markFailed h hdev htable, ?_⟩
  rw [markMember, if_neg (by omega), if_pos (by rw [hfailed]; rfl)]

theorem markFailed_keeper (h : upNext s q 0x602 false n) (hdev : s.dev ≠ .fenced) (htable : s.mend.table = some t)
    (hrank : rank < t.ranks + t.spares) (hlives : notFailed t rank = true) (hkeeper : t.keeper = t.self) :
    completes (.markFailed q rank) s (fun u => u = respond (runKeeperFail (begun s q 0x602 n) rank) n stOk) := by
  refine ⟨_, exec_markFailed h hdev htable, ?_⟩
  rw [markMember, if_neg (by omega), if_neg (by rw [hlives]; decide), if_pos hkeeper]

theorem addSpare_completes (h : upNext s q 0x603 false n) (hdev : s.dev ≠ .fenced) (htable : s.mend.table = some t)
    (hrank : rank < t.ranks + t.spares) (hkeeper : t.keeper = t.self) (hgone : (memOf t rank).st = .gone) :
    completes (.addSpare q rank) s (fun u => u = probeRank (deferResp (begun s q 0x603 n) n rank 0 0) rank) := by
  obtain ⟨hlive, hbegun⟩ := begun_withLive h hdev htable
  refine ⟨_, congrArg Host.Outcome.next (wcpRow_of_upNext h hlive rfl), ?_⟩
  dsimp only
  rw [hbegun]
  dsimp only
  rw [if_neg (by omega), if_neg (by rw [hkeeper]; simp), if_neg (by rw [hgone]; simp)]

end

theorem sendCtl_wcp (s : State) (n : Nat) (c : CtlFlit) : (sendCtl s n c).wcp = s.wcp := by
  unfold sendCtl
  dsimp only
  split
  · rfl
  · exact emit_wcp _ _

theorem groupRelease_completes (h : upNext s q 0x604 false n) (hdev : s.dev = .idle) (hidle : s.wcp.running = []) :
    completes (.groupRelease q) s (fun u =>
      u.mend.table = none ∧ answered (begun s q 0x604 n) u n stOk 0 [] ∧ u.mem = (begun s q 0x604 n).mem) := by
  obtain ⟨_, _, ht⟩ := taken_of_upNext h
  obtain ⟨_, _, _, _, _, _, _, _, _, _, hb⟩ := begun_of_upNext h
  obtain ⟨b, hbdef⟩ : ∃ b, b = begun s q 0x604 n := ⟨_, rfl⟩
  have hrunning : b.wcp.running = [] := by rw [hbdef, hb]; exact hidle
  have hreleased : (releaseGroup b).mend.table = none ∧ (releaseGroup b).wcp = b.wcp ∧ (releaseGroup b).mem = b.mem := by
    unfold releaseGroup
    split
    · next hnone => exact ⟨Option.isNone_iff_eq_none.mp hnone, rfl, rfl⟩
    · rw [hrunning]
      refine ⟨by rw [announceIds_mend]; rfl, ?_, by rw [announceIds_mem]; rfl⟩
      refine foldl_keeps _ State.wcp (fun w k => ?_) _ _
      split
      · exact sendCtl_wcp _ _ _
      · rfl
  obtain ⟨hnone, hwcp, hmem⟩ := hreleased
  obtain ⟨_, _, _, hu⟩ := respond_eq_with (releaseGroup b) n stOk 0 []
  rw [← hbdef]
  refine ⟨respond (releaseGroup b) n stOk, by
    rw [hbdef]
    exact congrArg Host.Outcome.next (wcpRow_of_upNext h (by rw [ht]; simp [mayRelease, hdev]) rfl), by rw [hu]; exact
        hnone,
    answered_of_sessions (by rw [hwcp]) (answered_respond _ n stOk 0 []), by rw [hu]; exact hmem⟩

theorem routeSet_completes {first : Nat} {e : BitVec 32} (h : upNext s q 0x605 false n) (hdev : s.dev ≠ .fenced)
    (hword : e.toNat < 65536) (hfirst : first < 16384) (hlo : routeField (e.toNat % 256) = true)
    (hhi : routeField (e.toNat / 256) = true) : completes (.routeSet q first [e]) s (fun u =>
      tget u.routes first (0xFF, 0xFF) = (e.toNat % 256, e.toNat / 256) ∧ answered (begun s q 0x605 n) u n stOk 0 [] ∧
      ∀ k, k ≠ first → tget u.routes k (0xFF, 0xFF) = tget s.routes k (0xFF, 0xFF)) := by
  obtain ⟨_, _, ht⟩ := taken_of_upNext h
  obtain ⟨_, _, _, _, _, _, _, _, _, _, hb⟩ := begun_of_upNext h
  have hroutes : (begun s q 0x605 n).routes = s.routes := by rw [hb]
  obtain ⟨w, hw⟩ : ∃ w, w = { begun s q 0x605 n with routes := tset s.routes first (e.toNat % 256, e.toNat / 256) } :=
      ⟨_, rfl⟩
  have hwritten : writeRoutes first [e] 0 (begun s q 0x605 n) = (w, stOk, 0) := by
    rw [writeRoutes, if_neg (by omega), if_neg (by rw [hlo, hhi]; simp; omega), writeRoutes, hw, hroutes]
    rfl
  obtain ⟨_, _, _, hu⟩ := respond_eq_with w n stOk 0 []
  refine ⟨respond w n stOk, ?_, ?_, ?_, fun k hk => ?_⟩
  · refine congrArg Host.Outcome.next ((wcpRow_of_upNext h (by rw [ht]; simpa [notFenced] using hdev) rfl).trans ?_)
    dsimp only
    rw [if_neg (by simp), hwritten]
  · rw [hu, hw]
    exact tget_tset_same _ _ _ _
  · have hanswered := answered_respond w n stOk 0 []
    rw [hw] at hanswered ⊢
    exact hanswered
  · rw [hu, hw]
    exact tget_tset_other _ _ _ hk

/-- Settles O46: each command by what it does once it is next. -/
theorem jobCommands : Obligations.JobCommands := by
  intro s q n off first count step rank v e t
  exact ⟨regRead_completes, regWrite_completes, regReadSeq_completes, jobStatus_completes, quiesce_completes,
      resume_completes,
    groupStatus_completes, fun h hdev htable hrank => ⟨markFailed_again h hdev htable hrank, markFailed_keeper h hdev htable
        hrank⟩,
    addSpare_completes, groupRelease_completes, routeSet_completes⟩

end Sys2Proof.Machine
end

section
/-! O47. The memory, window and queue-pair commands of WCP. -/

open Sys2Proof
namespace Sys2Proof.Machine

variable {s u : State} {q : WcpReq} {n : Request}

/-! ### What class 2 may reach -/

theorem placeAlive_of_ready (hpower : u.power = s.power) (hready : ∀ k, (getStack u k).ready = (getStack s k).ready)
    (a : Nat) :
    placeAlive u a = placeAlive s a := by
  unfold placeAlive getDom
  rw [hpower]
  split
  · rfl
  · rfl
  · exact hready _
  · exact hready _
  · rfl

theorem class2May_congr (hweave : u.weave = s.weave) (hdev : u.dev = s.dev) (hsec : u.sec.scopes = s.sec.scopes)
    (hpower : u.power = s.power) (hready : ∀ k, (getStack u k).ready = (getStack s k).ready) (w : Bool) (a k : Nat) :
    class2May u w a k = class2May s w a k := by
  have hpages : pageMap u 2 = pageMap s 2 := by rw [pageMap, pageMap, hweave]
  unfold class2May mayAccess grantOf
  simp only [hweave, hdev, hsec, hpages, placeAlive_of_ready hpower hready]

/-- What the taking of a turn at the stacks leaves: all but how much of their turns is used and who waits. -/
theorem goOn_spec (s : State) (r : HbmReq) (a k : Nat) :
    (∃ hbm, goOn s r a k = { s with hbm := hbm }) ∧ ∀ i, (getStack (goOn s r a k) i).ready = (getStack s i).ready := by
  have hstep : ∀ (w : State) (p : Nat × Nat),
      (∃ hbm, (if (getStack w p.1).level = 0 then w else setStack w p.1 { getStack w p.1 with
        used := (getStack w p.1).used + p.2, waits := (getStack w p.1).waits.erase r }) = { w with hbm := hbm }) ∧
      ∀ i, (getStack (if (getStack w p.1).level = 0 then w else setStack w p.1 { getStack w p.1 with
        used := (getStack w p.1).used + p.2, waits := (getStack w p.1).waits.erase r }) i).ready = (getStack w i).ready :=
            by
    intro w p
    split
    · exact ⟨⟨_, rfl⟩, fun _ => rfl⟩
    · refine ⟨⟨_, rfl⟩, fun i => ?_⟩
      by_cases hi : i = p.1
      · rw [hi, getStack, setStack, tget_tset_same]
      · rw [getStack, setStack, tget_tset_other _ _ _ hi, getStack]
  refine foldl_rel (R := fun s u => (∃ hbm, u = { s with hbm := hbm }) ∧ ∀ i, (getStack u i).ready = (getStack s i).ready)
    (fun _ => ⟨⟨_, rfl⟩, fun _ => rfl⟩) (fun hu hv => ?_) hstep _ s
  obtain ⟨⟨_, rfl⟩, hready⟩ := hu
  obtain ⟨⟨_, rfl⟩, hready'⟩ := hv
  exact ⟨⟨_, rfl⟩, fun i => (hready' i).trans (hready i)⟩

theorem class2May_goOn (s : State) (r : HbmReq) (a k : Nat) (w : Bool) (b l : Nat) :
    class2May (goOn s r a k) w b l = class2May s w b l := by
  obtain ⟨⟨_, h⟩, hready⟩ := goOn_spec s r a k
  exact class2May_congr (by rw [h]) (by rw [h]) (by rw [h]) (by rw [h]) hready w b l

/-! ### The rows that touch memory -/

section
variable {op a len : Nat} {run : Request → State → State}

theorem memRow_of_upNext {write : Bool} (h : upNext s q op false n) (hlevel : s.power.level = 0) (hdev : s.dev ≠ .fenced)
    (hgo : mayGo s (cmdReq q) a len = true) :
    memRow q op a len write run s = run n (if class2May (begun s q op n) write a len = false then begun s q op n
      else if write then goOn (begun s q op n) (cmdReq q) a len
      else readMeets (goOn (begun s q op n) (cmdReq q) a len) a len) := by
  obtain ⟨_, _, ht⟩ := taken_of_upNext h
  have hhold : ((class2Holds s || (class2May s write a len && !mayGo s (cmdReq q) a len)) && notFenced s &&
      decide (s.dev ≠ .boot)) = false := by
    rw [hgo]
    simp [class2Holds, hlevel]
  unfold memRow
  dsimp only
  rw [hhold, if_neg Bool.false_ne_true]
  exact wcpRow_of_upNext h (by rw [ht]; simpa [notFenced] using hdev) rfl

theorem memRow_writes (h : upNext s q op false n) (hlevel : s.power.level = 0) (hdev : s.dev ≠ .fenced)
    (hgo : mayGo s (cmdReq q) a len = true) (hmay : class2May (begun s q op n) true a len = true) :
    memRow q op a len true run s = run n (goOn (begun s q op n) (cmdReq q) a len) := by
  rw [memRow_of_upNext h hlevel hdev hgo, if_neg (by rw [hmay]; decide), if_pos rfl]

theorem memRow_reads (h : upNext s q op false n) (hlevel : s.power.level = 0) (hdev : s.dev ≠ .fenced)
    (hgo : mayGo s (cmdReq q) a len = true) (hmay : class2May (begun s q op n) false a len = true)
    (hupsets : upsetsIn (begun s q op n) a len = []) :
    memRow q op a len false run s = run n (goOn (begun s q op n) (cmdReq q) a len) := by
  obtain ⟨⟨_, hgone⟩, -⟩ := goOn_spec (begun s q op n) (cmdReq q) a len
  rw [memRow_of_upNext h hlevel hdev hgo, if_neg (by rw [hmay]; decide), if_neg (by decide),
    readMeets_of_no_upset (by rw [hgone]; exact hupsets)]

end

theorem memRead_completes {a len : Nat} (h : upNext s q 0x401 false n) (hlevel : s.power.level = 0) (hdev : s.dev ≠ .fenced)
    (haligned : a % 8 = 0) (hlen : len % 8 = 0) (hmax : len ≤ 65024) (hgo : mayGo s (cmdReq q) a len = true)
    (hmay : class2May (begun s q 0x401 n) false a len = true) (hupsets : upsetsIn (begun s q 0x401 n) a len = [])
    (hbad : badIn (begun s q 0x401 n) a len = []) : completes (.memRead q a len) s (fun u =>
      u = respond (goOn (begun s q 0x401 n) (cmdReq q) a len) n stOk 0 (memGet (begun s q 0x401 n) a len)) := by
  obtain ⟨b, hb⟩ : ∃ b, b = begun s q 0x401 n := ⟨_, rfl⟩
  obtain ⟨v, hv⟩ : ∃ v, v = goOn b (cmdReq q) a len := ⟨_, rfl⟩
  obtain ⟨⟨_, hgone⟩, -⟩ := goOn_spec b (cmdReq q) a len
  have hmayv : class2May v false a len = true := by rw [hv, class2May_goOn, hb]; exact hmay
  rw [← hv] at hgone
  have hbadv : badIn v a len = [] := by rw [hgone, hb]; exact hbad
  refine ⟨_, congrArg Host.Outcome.next (memRow_reads h hlevel hdev hgo hmay hupsets), ?_⟩
  dsimp only
  rw [← hb, ← hv, if_neg (by omega), if_neg (by rw [hmayv]; decide), hbadv]
  change respond v n stOk 0 (memGet v a len) = _
  rw [memGet, hgone, memGet]

theorem memRead_waits {a len : Nat} (hdev : s.dev ≠ .fenced) (hboot : s.dev ≠ .boot)
    (hmay : class2May s false a len = true) (hgo : mayGo s (cmdReq q) a len = false) :
    completes (.memRead q a len) s (fun u => u = waitFor (received s q 0x401) (cmdReq q) a len) := by
  refine ⟨_, rfl, ?_⟩
  unfold memRow
  dsimp only
  rw [if_pos (by simp [hmay, hgo, notFenced, hdev, hboot]), if_pos (by simp [hmay, hgo])]
  rfl

theorem memWrite_completes {a : Nat} {bs : List Byte} (h : upNext s q 0x402 false n) (hlevel : s.power.level = 0)
    (hdev : s.dev ≠ .fenced) (haligned : a % 8 = 0) (hlen : bs.length % 8 = 0) (hgo : mayGo s (cmdReq q) a bs.length = true)
    (hwf : memWf s.mem = true) (hmay : class2May (begun s q 0x402 n) true a bs.length = true) :
    completes (.memWrite q a bs) s (fun u => answered (begun s q 0x402 n) u n stOk 0 [] ∧ ∀ i, memRead u.mem i =
      if a ≤ i ∧ i < a + bs.length then bs.getD (i - a) 0#8 else memRead (begun s q 0x402 n).mem i) := by
  have hwfb := memWf_begun h hwf
  obtain ⟨b, hb⟩ : ∃ b, b = begun s q 0x402 n := ⟨_, rfl⟩
  rw [← hb] at hwfb hmay ⊢
  obtain ⟨v, hv⟩ : ∃ v, v = agentWrite (goOn b (cmdReq q) a bs.length) a bs := ⟨_, rfl⟩
  obtain ⟨⟨_, hgone⟩, -⟩ := goOn_spec b (cmdReq q) a bs.length
  obtain ⟨⟨_, _, _, _, _, _, hwrote⟩, -⟩ := agentWrite_touches (goOn b (cmdReq q) a bs.length) a bs
  rw [← hv, hgone] at hwrote
  obtain ⟨_, _, _, hu⟩ := respond_eq_with v n stOk 0 []
  refine ⟨respond v n stOk, ?_, ?_, fun i => ?_⟩
  · refine congrArg Host.Outcome.next ((memRow_writes h hlevel hdev hgo (by rw [← hb]; exact hmay)).trans ?_)
    rw [← hb, if_neg (by omega), if_neg (by rw [class2May_goOn, hmay]; decide), hv]
  · exact answered_of_sessions (by rw [hwrote]) (answered_respond v n stOk 0 [])
  · rw [hu]
    change memRead v.mem i = _
    rw [hwrote]
    exact memRead_memWrites b.mem a i bs hwfb

theorem memFill_completes {a len : Nat} {w : BitVec 64} (h : upNext s q 0x403 false n) (hlevel : s.power.level = 0)
    (hdev : s.dev ≠ .fenced) (haligned : a % 64 = 0) (hlen : len % 64 = 0) (hgo : mayGo s (cmdReq q) a len = true)
    (hmay : class2May (begun s q 0x403 n) true a len = true) : completes (.memFill q a len w) s (fun u =>
      u = deferResp (goOn (begun s q 0x403 n) (cmdReq q) a len) n a len w.toNat) := by
  refine ⟨_, congrArg Host.Outcome.next (memRow_writes h hlevel hdev hgo hmay), ?_⟩
  dsimp only
  rw [if_neg (by omega), if_neg (by rw [class2May_goOn, hmay]; decide)]

/-! ### The end of a fill -/

theorem getD_flatten_replicate (bs : List Byte) (k j : Nat) (hj : j < k * bs.length) :
    (List.replicate k bs).flatten.getD j 0#8 = bs.getD (j % bs.length) 0#8 := by
  induction k generalizing j with
  | zero => omega
  | succ k ih =>
    rw [List.replicate_succ, List.flatten_cons]
    by_cases hlt : j < bs.length
    · rw [List.getD_append _ _ _ _ hlt, Nat.mod_eq_of_lt hlt]
    · rw [List.getD_append_right _ _ _ _ (by omega), ih _ (by rw [Nat.add_mul] at hj; omega),
        ← Nat.mod_eq_sub_mod (by omega)]

theorem length_fillBytes (len c : Nat) : (fillBytes len c).length = len / 8 * 8 := by
  simp [fillBytes, length_leBytes]

theorem getD_fillBytes {len c j : Nat} (h : j < len / 8 * 8) :
    (fillBytes len c).getD j 0#8 = BitVec.ofNat 8 (c / 2 ^ (8 * (j % 8))) := by
  rw [fillBytes, getD_flatten_replicate _ _ _ (by rw [length_leBytes]; exact h), length_leBytes,
    getD_leBytes c (Nat.mod_lt _ (by decide))]

/-- A response that was put off answers its request and leaves memory. -/
theorem endDeferred_spec (s : State) (x : Running) (st detail : Nat) (body : List Byte) :
    answered s (endDeferred s x st detail body) x.req st detail body ∧
    ∃ sessions out egress, endDeferred s x st detail body = { s with
      wcp := { s.wcp with running := s.wcp.running.erase x, sessions := sessions }, out := out, egress := egress } := by
  obtain ⟨_, _, _, hu⟩ := respond_eq_with (dropRunning s x) x.req st detail body
  exact ⟨answered_of_sessions (w := dropRunning s x) rfl (answered_respond _ _ _ _ _), _, _, _, hu⟩

theorem memFillDone_completes {x : Running} (hrunning : runningBg s 0x403 = some x) (hlevel : s.power.level = 0)
    (hmay : class2May s true x.a x.b = true) (hgo : mayGo s ⟨.background 0x403, 4⟩ x.a x.b = true)
        (hwf : memWf s.mem = true) :
    completes .memFillDone s (fun u => answered s u x.req stOk 0 [] ∧ ∀ i, memRead u.mem i =
      if x.a ≤ i ∧ i < x.a + x.b / 8 * 8 then BitVec.ofNat 8 (x.c / 2 ^ (8 * ((i - x.a) % 8))) else memRead s.mem i) := by
  obtain ⟨v, hv⟩ : ∃ v, v = agentWrite (goOn s ⟨.background 0x403, 4⟩ x.a x.b) x.a (fillBytes x.b x.c) := ⟨_, rfl⟩
  have hexec : exec .memFillDone s = .next (endDeferred v x stOk 0) := by
    change Host.Outcome.next _ = _
    rw [hrunning]
    dsimp only
    rw [if_neg (by simp [class2Holds, hlevel]), if_neg (by rw [hgo]; simp), if_pos hmay, hv]
  obtain ⟨⟨_, hgone⟩, -⟩ := goOn_spec s ⟨.background 0x403, 4⟩ x.a x.b
  obtain ⟨⟨_, _, _, _, _, _, hwrote⟩, -⟩ := agentWrite_touches (goOn s ⟨.background 0x403, 4⟩ x.a x.b) x.a
      (fillBytes x.b x.c)
  rw [← hv, hgone] at hwrote
  obtain ⟨hanswered, _, _, _, hu⟩ := endDeferred_spec v x stOk 0 []
  refine ⟨_, hexec, answered_of_sessions (by rw [hwrote]) hanswered, fun i => ?_⟩
  rw [hu]
  change memRead v.mem i = _
  rw [hwrote]
  refine (memRead_memWrites s.mem x.a i (fillBytes x.b x.c) hwf).trans ?_
  rw [length_fillBytes]
  split
  · next hin => exact getD_fillBytes (by omega)
  · rfl

/-! ### Windows and queue pairs -/

theorem ok_notFenced {op : Nat} {img : Bool} (h : upNext s q op img n) (hdev : s.dev ≠ .fenced) :
    notFenced (taken s q op n) = true := by
  obtain ⟨_, _, ht⟩ := taken_of_upNext h
  rw [ht]
  simpa [notFenced] using hdev

theorem winOpen_completes {base len access k : Nat} (h : upNext s q 0x404 false n) (hdev : s.dev ≠ .fenced)
    (hbase : base % 4096 = 0) (hlen : len % 4096 = 0) (hpos : 0 < len) (hmax : len ≤ 2 ^ 36) (haccess : 0 < access)
    (hrights : access < 4) (hfree : freeWindow (begun s q 0x404 n) = some k) :
    completes (.winOpen q base len access) s (fun u =>
      let gen := ((tget? s.wcp.windows k).map (fun w => w.gen)).getD 0 + 1
      tget? u.wcp.windows k = some ⟨gen, some ⟨base, len, decide (access % 2 = 1), decide (2 ≤ access), false⟩⟩ ∧
      answered (begun s q 0x404 n) u n stOk 0 (leBytes 4 k ++ leBytes 4 (k * 2 ^ 24 + gen)) ∧
      u.mem = (begun s q 0x404 n).mem) := by
  obtain ⟨_, _, _, _, _, _, _, _, _, _, hbegun⟩ := begun_of_upNext h
  have hwindows : (begun s q 0x404 n).wcp.windows = s.wcp.windows := by rw [hbegun]
  obtain ⟨b, hb⟩ : ∃ b, b = begun s q 0x404 n := ⟨_, rfl⟩
  rw [← hb] at hwindows hfree ⊢
  obtain ⟨gen, hgen⟩ : ∃ gen, gen = ((tget? s.wcp.windows k).map (fun w => w.gen)).getD 0 + 1 := ⟨_, rfl⟩
  obtain ⟨slot, hslot⟩ : ∃ slot : WinSlot,
    slot = ⟨gen, some ⟨base, len, decide (access % 2 = 1), decide (2 ≤ access), false⟩⟩ := ⟨_, rfl⟩
  obtain ⟨v, hv⟩ : ∃ v, v = b.withWcp (fun x => { x with windows := tset x.windows k slot }) := ⟨_, rfl⟩
  obtain ⟨_, _, _, hu⟩ := respond_eq_with v n stOk 0 (leBytes 4 k ++ leBytes 4 (k * 2 ^ 24 + gen))
  rw [← hgen]
  refine ⟨respond v n stOk 0 (leBytes 4 k ++ leBytes 4 (k * 2 ^ 24 + gen)), ?_, ?_, ?_, ?_⟩
  · refine congrArg Host.Outcome.next ((wcpRow_of_upNext h (ok_notFenced h hdev) rfl).trans ?_)
    dsimp only
    rw [← hb, if_neg (by omega), if_neg (by omega), hfree]
    dsimp only
    rw [hwindows, ← hgen, hv, hslot]
  · rw [hu, hv, ← hslot]
    exact tget?_tset_same _ _ _
  · exact answered_of_sessions (by rw [hv]; rfl) (answered_respond v n stOk 0 _)
  · rw [hu, hv]
    rfl

theorem openWindow?_begun {op k : Nat} {img : Bool} (h : upNext s q op img n) : openWindow? (begun s q op n) k = openWindow?
    s k := by
  obtain ⟨_, _, _, _, _, _, _, _, _, _, hbegun⟩ := begun_of_upNext h
  rw [openWindow?, openWindow?, hbegun]

theorem winClose_completes {k : Nat} {z : WinSlot} {y : Window} (h : upNext s q 0x405 false n) (hdev : s.dev ≠ .fenced)
    (hk : k < 256) (hopen : openWindow? s k = some (z, y)) (hnew : y.closing = false) :
    completes (.winClose q k) s (fun u =>
      tget? u.wcp.windows k = some { z with win := some { y with closing := true } } ∧
      u.wcp.running = s.wcp.running ++ [⟨n, k, 0, 0⟩] ∧ u.out = (begun s q 0x405 n).out) := by
  obtain ⟨_, _, _, _, _, _, _, _, _, _, hbegun⟩ := begun_of_upNext h
  have hrunning : (begun s q 0x405 n).wcp.running = s.wcp.running := by rw [hbegun]
  refine ⟨_, congrArg Host.Outcome.next (wcpRow_of_upNext h (ok_notFenced h hdev) rfl), ?_⟩
  dsimp only
  rw [if_neg (by omega), openWindow?_begun h, hopen]
  dsimp only
  rw [if_neg (by rw [hnew]; decide)]
  refine ⟨tget?_tset_same _ _ _, ?_, rfl⟩
  rw [← hrunning]
  rfl

theorem winCloseDone_waits {k : Nat} {z : WinSlot} {y : Window} (hopen : openWindow? s k = some (z, y))
    (hbusy : y.closing = false ∨ windowBusy s k = true) : completes (.winCloseDone k) s (fun u => u = s) := by
  refine ⟨_, rfl, ?_⟩
  rw [hopen]
  dsimp only
  rw [if_neg (by rcases hbusy with h | h <;> simp [h])]

theorem winCloseDone_completes {k : Nat} {z : WinSlot} {y : Window} (hopen : openWindow? s k = some (z, y))
    (hclosing : y.closing = true) (hidle : windowBusy s k = false) : completes (.winCloseDone k) s (fun u =>
      tget? u.wcp.windows k = some { z with win := none } ∧ u.mem = s.mem) := by
  refine ⟨_, rfl, ?_⟩
  rw [hopen]
  dsimp only
  rw [if_pos ⟨hclosing, hidle⟩]
  split
  · next x _ =>
    obtain ⟨-, _, _, _, hu⟩ := endDeferred_spec (s.withWcp (fun y => { y with
      windows := tset y.windows k { z with win := none } })) x stOk 0 []
    rw [hu]
    exact ⟨tget?_tset_same _ _ _, rfl⟩
  · exact ⟨tget?_tset_same _ _ _, rfl⟩

/-- A command that changes one queue pair and answers. -/
theorem respond_setQps (b : State) (n : Request) (qps : Tbl QP) (body : List Byte) :
    answered b (respond (b.withWcp (fun w => { w with qps := qps })) n stOk 0 body) n stOk 0 body ∧
    (respond (b.withWcp (fun w => { w with qps := qps })) n stOk 0 body).wcp.qps = qps := by
  obtain ⟨_, _, _, hu⟩ := respond_eq_with (b.withWcp (fun w => { w with qps := qps })) n stOk 0 body
  exact ⟨answered_of_sessions rfl (answered_respond _ n stOk 0 body), by rw [hu]; rfl⟩

theorem qps_begun {op : Nat} {img : Bool} (h : upNext s q op img n) : (begun s q op n).wcp.qps = s.wcp.qps := by
  obtain ⟨_, _, _, _, _, _, _, _, _, _, hbegun⟩ := begun_of_upNext h
  rw [hbegun]

theorem qpOpen_completes {k : Nat} (h : upNext s q 0x406 false n) (hdev : s.dev ≠ .fenced) (hk : k < 64)
    (hfree : tget? s.wcp.qps k = none) (hlowest : ∀ j, j < k → tget? s.wcp.qps j ≠ none) :
    completes (.qpOpen q) s (fun u =>
      tget? u.wcp.qps k = some QP.fresh ∧ answered (begun s q 0x406 n) u n stOk 0 (leBytes 4 k)) := by
  have hfound : (List.range 64).find? (fun n => (tget? s.wcp.qps n).isNone) = some k := by
    refine List.find?_range_eq_some.mpr ⟨by rw [hfree]; rfl, List.mem_range.mpr hk, fun j hj => ?_⟩
    rw [Bool.not_eq_true', Option.isNone_eq_false_iff, Option.isSome_iff_ne_none]
    exact hlowest j hj
  obtain ⟨hanswered, hqps⟩ := respond_setQps (begun s q 0x406 n) n (tset s.wcp.qps k QP.fresh) (leBytes 4 k)
  refine ⟨respond ((begun s q 0x406 n).withWcp (fun w => { w with qps := tset s.wcp.qps k QP.fresh })) n stOk 0
      (leBytes 4 k),
    ?_, by rw [hqps]; exact tget?_tset_same _ _ _, hanswered⟩
  refine congrArg Host.Outcome.next ((wcpRow_of_upNext h (ok_notFenced h hdev) rfl).trans ?_)
  rw [qps_begun h, hfound]
  dsimp only
  rw [State.withWcp, qps_begun h]
  rfl

/-- A queue pair once it is connected. -/
def QP.connect (p : QP) (g : QpArgs) (mtu : Nat) : QP :=
  { p with connected := true, port := g.port, pcp := g.pcp, dscp := g.dscp, mtu := mtu, gid := g.gid
           remoteQpn := g.remoteQpn, sendPsn := g.sendPsn, recvPsn := g.recvPsn }

theorem qpConnect_completes {k mtu : Nat} {g : QpArgs} {p : QP} (h : upNext s q 0x407 false n) (hdev : s.dev ≠ .fenced)
    (hp : tget? s.wcp.qps k = some p) (hnew : p.connected = false) (hmtu : pathMtu g.mtuCode = some mtu)
    (hport : portPresent s g.port = true) (hpcp : g.pcp < 8) (hdscp : g.dscp < 64)
    (hfits : mtu + roceHeaders g.gid ≤ csrBits s (O.ethpMtu g.port) 13 0) :
    completes (.qpConnect q k g) s (fun u => answered (begun s q 0x407 n) u n stOk 0 [] ∧ ∃ y, tget? u.wcp.qps k = some y ∧
      y.connected = true ∧ y.port = g.port ∧ y.mtu = mtu ∧ y.gid = g.gid ∧ y.remoteQpn = g.remoteQpn ∧ y.sendPsn = g.sendPsn
          ∧
      y.recvPsn = g.recvPsn ∧ y.pcp = g.pcp ∧ y.dscp = g.dscp) := by
  have hmode : portMode (begun s q 0x407 n) g.port = portMode s g.port := by
    simp only [portMode, csrBits, csrGet_begun h (o := O.ethMode) (by decide) (.inr (by decide)) (by decide)]
  have hpresent : portPresent (begun s q 0x407 n) g.port = true := by rw [portPresent, hmode]; exact hport
  have hlt : g.port < 8 := by
    unfold portPresent at hport
    exact of_decide_eq_true (Bool.and_eq_true_iff.mp hport).1
  have hcsr : csrBits (begun s q 0x407 n) (O.ethpMtu g.port) 13 0 = csrBits s (O.ethpMtu g.port) 13 0 := by
    rw [csrBits, csrBits, csrGet_begun h (by unfold O.ethpMtu; omega) (.inr (by unfold O.ethpMtu; omega))
      (by unfold O.ethpMtu O.secMtraceWr; omega)]
  obtain ⟨y, hy⟩ : ∃ y, y = p.connect g mtu := ⟨_, rfl⟩
  obtain ⟨hanswered, hqps⟩ := respond_setQps (begun s q 0x407 n) n (tset s.wcp.qps k y) []
  refine ⟨respond ((begun s q 0x407 n).withWcp (fun w => { w with qps := tset s.wcp.qps k y })) n stOk, ?_, hanswered, y,
      ?_, ?_⟩
  · refine congrArg Host.Outcome.next ((wcpRow_of_upNext h (ok_notFenced h hdev) rfl).trans ?_)
    dsimp only
    rw [qps_begun h, hp, hmtu]
    dsimp only
    rw [if_neg (by rw [hnew]; decide), if_neg (by rw [hcsr, hpresent]; simp; omega), hy, State.withWcp, qps_begun h]
    rfl
  · rw [hqps]
    exact tget?_tset_same _ _ _
  · rw [hy]
    exact ⟨rfl, rfl, rfl, rfl, rfl, rfl, rfl, rfl, rfl⟩

theorem qpClose_completes {k : Nat} {p : QP} (h : upNext s q 0x408 false n) (hdev : s.dev ≠ .fenced)
    (hp : tget? s.wcp.qps k = some p) : completes (.qpClose q k) s (fun u =>
      tget? u.wcp.qps k = none ∧ answered (begun s q 0x408 n) u n stOk 0 []) := by
  obtain ⟨hanswered, hqps⟩ := respond_setQps (begun s q 0x408 n) n (tdel s.wcp.qps k) []
  refine ⟨respond ((begun s q 0x408 n).withWcp (fun w => { w with qps := tdel s.wcp.qps k })) n stOk, ?_,
    by rw [hqps]; exact tget?_tdel_same _ _, hanswered⟩
  refine congrArg Host.Outcome.next ((wcpRow_of_upNext h (ok_notFenced h hdev) rfl).trans ?_)
  rw [qps_begun h, hp, if_neg (by simp), State.withWcp, qps_begun h]
  rfl

/-- Settles O47: each command by what it does once it is next, or where it has to wait. -/
theorem memoryCommands : Obligations.MemoryCommands := by
  intro s q n a len access k bs w g x z y p
  exact ⟨fun hlevel hdev => ⟨fun h ha hlen hmax hgo hmay hupsets hbad => memRead_completes h hlevel hdev ha hlen hmax hgo
      hmay hupsets hbad,
      fun hboot hmay hgo => memRead_waits hdev hboot hmay hgo,
      fun h ha hlen hgo hwf hmay => memWrite_completes h hlevel hdev ha hlen hgo hwf hmay,
      fun h ha hlen hgo hmay => memFill_completes h hlevel hdev ha hlen hgo hmay⟩,
    fun hrunning hlevel hmay hgo hwf => memFillDone_completes hrunning hlevel hmay hgo hwf,
    fun hdev => ⟨fun h hbase hlen hpos hmax haccess hrights hfree =>
        winOpen_completes h hdev hbase hlen hpos hmax haccess hrights hfree,
      fun h hk hopen hnew => winClose_completes h hdev hk hopen hnew,
      fun h hk hfree hlowest => qpOpen_completes h hdev hk hfree hlowest,
      fun mtu h hp hnew hmtu hport hpcp hdscp hfits => qpConnect_completes h hdev hp hnew hmtu hport hpcp hdscp hfits,
      fun h hp => qpClose_completes h hdev hp⟩,
    winCloseDone_waits, winCloseDone_completes⟩

end Sys2Proof.Machine
end

section
/-! O44. The datagrams of WCP. -/

open Sys2Proof
namespace Sys2Proof.Machine

variable {s : State} {d : Datagram} {x : Session}

/-! ### What joins an egress queue -/

theorem toEgress_eq_egress (s : State) {f : EthOut} (h : ∀ p q x, f.e ≠ .pfc p q x) :
    ∃ egress, toEgress s f = { s with egress := egress } := by
  unfold toEgress
  dsimp only
  split
  · exact ⟨_, rfl⟩
  · split
    · next heq => exact absurd heq (h _ _ _)
    · exact ⟨_, rfl⟩
    · exact ⟨_, rfl⟩

theorem e_of_mem_ethFrames {e : Emit} {f : EthOut} (h : f ∈ e.ethFrames s) : f.e = e := by
  have hpieces : ∀ {b fl op st sid sq bs}, f ∈ wcpFrames s b fl op st sid sq bs e → f.e = e := fun hf => by
    obtain ⟨_, _, rfl⟩ := List.mem_map.mp hf
    rfl
  cases e with
  | resp => exact hpieces h
  | notify => exact hpieces h
  | result => rw [List.mem_singleton.mp h]
  | roce => rw [List.mem_singleton.mp h]
  | pfc => rw [List.mem_singleton.mp h]
  | neighbour => rw [List.mem_singleton.mp h]
  | echo => rw [List.mem_singleton.mp h]
  | dhcp => rw [List.mem_singleton.mp h]
  | flit | control | idle | failN | operationOn | jtag => cases h

/-- What is sent but a PFC frame changes the egress queues alone. -/
theorem emit_eq_egress (s : State) {e : Emit} (h : ∀ p q x, e ≠ .pfc p q x) :
    ∃ egress, s.emit e = { s with out := e :: s.out, egress := egress } := by
  have hall : ∀ (l : List EthOut) (w : State), (∀ f ∈ l, f.e = e) → ∃ egress, l.foldl toEgress w =
      { w with egress := egress } := by
    intro l
    induction l with
    | nil => exact fun w _ => ⟨_, rfl⟩
    | cons f l ih =>
      intro w hl
      obtain ⟨_, hf⟩ := toEgress_eq_egress w (f := f) (by rw [hl f List.mem_cons_self]; exact h)
      obtain ⟨_, hrest⟩ := ih (toEgress w f) fun g hg => hl g (List.mem_cons_of_mem _ hg)
      exact ⟨_, by rw [List.foldl_cons, hrest, hf]⟩
  exact hall _ _ fun f hf => e_of_mem_ethFrames hf

/-! ### A datagram that holds one request -/

/-- The request of a datagram. -/
def requestOf (d : Datagram) : Request := ⟨d.session, d.seq, d.opcode, d.bind⟩

theorem exec_wcpDatagramRx_one (hport : portUpNow s d.bind.port = true) (hgood : badDatagram s d = false)
    (hcount : d.count ≤ 1)
    (hfits : datagramFits d = true) : exec (.wcpDatagramRx d) s = .next (takeRequest s (requestOf d)) := by
  have hone : d.count = 1 := by
    unfold datagramFits at hfits
    simp only [Bool.and_eq_true, decide_eq_true_eq] at hfits
    omega
  change Host.Outcome.next _ = _
  rw [if_neg (by rw [hport]; decide), if_neg (by rw [hgood]; decide), if_pos (.inr hone), hfits]
  rfl

/-- A new request of a session: its sequence number was not accepted before and is not too old. -/
theorem takeRequest_new {r : Request} (h : r.session ≠ 0) (hx : findSession s r.session = some x) (hmax : r.seq ≤ 2 ^ 63)
    (hnew : x.accepted.contains r.seq = false) (hlate : x.highest < r.seq + 64) :
    takeRequest s r =
      let s1 := setSession s { x with bind := r.bind }
      let s2 := setSession s1 (x.noting r)
      if 32 ≤ s.wcp.queue.length then s1.emit (.resp r.bind x.id r.seq r.opcode stQueueFull 0 [])
      else if knownOpcode r.opcode = false then respond s2 r stUnknownOpcode
      else s2.withWcp (fun w => { w with queue := w.queue ++ [r] }) := by
  rw [takeRequest_session h hx]
  dsimp only
  rw [if_neg (by omega), hnew, if_neg (by decide), if_neg (by omega)]

theorem findSession_noting {r : Request} (hx : findSession s r.session = some x) :
    findSession (setSession (setSession s { x with bind := r.bind }) (x.noting r)) r.session = some (x.noting r) :=
  findSession_setSession _ (findSession_setSession s hx (y := { x with bind := r.bind }) (id_of_findSession (x := x) hx))
    (y := x.noting r) (id_of_findSession (x := x) hx)

section
variable (hport : portUpNow s d.bind.port = true) (hgood : badDatagram s d = false) (hcount : d.count ≤ 1)
  (hfits : datagramFits d = true) (hsession : d.session ≠ 0) (hx : findSession s d.session = some x)
include hport hgood hcount hfits hsession hx

theorem wcpDatagramRx_unknownOpcode (hmax : d.seq ≤ 2 ^ 63) (hnew : x.accepted.contains d.seq = false)
    (hlate : x.highest < d.seq + 64) (hroom : s.wcp.queue.length < 32) (hunknown : knownOpcode d.opcode = false) :
    completes (.wcpDatagramRx d) s (fun u => u.wcp.queue = s.wcp.queue ∧
      u.out.head? = some (.resp d.bind d.session d.seq d.opcode stUnknownOpcode 0 [])) := by
  have htaken := takeRequest_new (r := requestOf d) hsession hx hmax hnew hlate
  dsimp only at htaken
  rw [if_neg (by omega), if_pos (by exact hunknown)] at htaken
  obtain ⟨_, hu⟩ := respond_session _ stUnknownOpcode 0 [] (n := requestOf d) hsession
      (findSession_noting (r := requestOf d) hx)
  refine ⟨_, exec_wcpDatagramRx_one hport hgood hcount hfits, ?_, ?_⟩
  · rw [htaken, respond_queue]
    rfl
  · rw [htaken, hu, ← id_of_findSession hx]
    rfl

theorem wcpDatagramRx_joins (hmax : d.seq ≤ 2 ^ 63) (hnew : x.accepted.contains d.seq = false)
    (hlate : x.highest < d.seq + 64) (hroom : s.wcp.queue.length < 32) (hknown : knownOpcode d.opcode = true) :
    completes (.wcpDatagramRx d) s (fun u => u.wcp.queue = s.wcp.queue ++ [⟨d.session, d.seq, d.opcode, d.bind⟩] ∧
      u = { s with wcp := u.wcp } ∧
      ∃ y, findSession u d.session = some y ∧ y.bind = d.bind ∧ y.highest = max x.highest d.seq ∧ d.seq ∈ y.accepted) := by
  have htaken := takeRequest_new (r := requestOf d) hsession hx hmax hnew hlate
  dsimp only at htaken
  rw [if_neg (by omega), if_neg (by rw [requestOf, hknown]; decide)] at htaken
  refine ⟨_, exec_wcpDatagramRx_one hport hgood hcount hfits, ?_, ?_, x.noting (requestOf d), ?_, rfl, rfl,
      List.mem_cons_self⟩
  · rw [htaken]
    rfl
  · rw [htaken]
    rfl
  · rw [htaken]
    exact findSession_noting (r := requestOf d) hx

theorem wcpDatagramRx_queueFull (hmax : d.seq ≤ 2 ^ 63) (hnew : x.accepted.contains d.seq = false)
    (hlate : x.highest < d.seq + 64) (hfull : 32 ≤ s.wcp.queue.length) :
    completes (.wcpDatagramRx d) s (fun u => u.wcp.queue = s.wcp.queue ∧
      u.out.head? = some (.resp d.bind d.session d.seq d.opcode stQueueFull 0 [])) := by
  have htaken := takeRequest_new (r := requestOf d) hsession hx hmax hnew hlate
  dsimp only at htaken
  rw [if_pos hfull] at htaken
  obtain ⟨_, hu⟩ := emit_resp_eq_with (setSession s { x with bind := d.bind }) d.bind x.id d.seq d.opcode stQueueFull 0 []
  refine ⟨_, exec_wcpDatagramRx_one hport hgood hcount hfits, ?_, ?_⟩
  · rw [htaken, emit_wcp]
    rfl
  · rw [htaken]
    rw [show (requestOf d) = ⟨d.session, d.seq, d.opcode, d.bind⟩ from rfl, hu, id_of_findSession hx]
    rfl

theorem wcpDatagramRx_again {c : CachedResp} (hmax : d.seq ≤ 2 ^ 63) (hold : x.accepted.contains d.seq = true)
    (hc : x.cache.find? (fun c => decide (c.seq = d.seq)) = some c) :
    completes (.wcpDatagramRx d) s (fun u => u.wcp.queue = s.wcp.queue ∧
      u.out.head? = some (.resp d.bind d.session c.seq c.opcode c.status c.detail c.body) ∧
      csrGet u O.ethCntDup = min (csrGet s O.ethCntDup + 1) 0xFFFFFFFF) := by
  obtain ⟨v, hv⟩ : ∃ v, v = bump (setSession s { x with bind := d.bind }) O.ethCntDup := ⟨_, rfl⟩
  have htaken : takeRequest s (requestOf d) = v.emit (.resp d.bind x.id c.seq c.opcode c.status c.detail c.body) := by
    rw [takeRequest_session (x := x) hsession hx]
    dsimp only
    rw [if_neg (by exact not_lt.mpr hmax), if_pos (by exact hold), duplicate]
    dsimp only
    rw [show x.cache.find? (fun c => decide (c.seq = (requestOf d).seq)) = some c from hc, hv]
    rfl
  obtain ⟨_, hu⟩ := emit_resp_eq_with v d.bind x.id c.seq c.opcode c.status c.detail c.body
  refine ⟨_, exec_wcpDatagramRx_one hport hgood hcount hfits, ?_, ?_, ?_⟩
  · rw [htaken, emit_wcp, hv]
    rfl
  · rw [htaken, hu, id_of_findSession hx]
    rfl
  · rw [htaken, hu, hv]
    exact csrGet_bump_same _ _

end

/-! ### Time-outs and resending -/

theorem fragTimeout_completes {k n : Nat} (hx : findSession s k = some x) (hk : k ≠ 0)
    (hany : x.reasm.any (fun m => decide (m.seq = n)) = true) : completes (.fragTimeout k n) s (fun u =>
      (∃ y, findSession u k = some y ∧ y.reasm = x.reasm.filter (fun m => decide (m.seq ≠ n))) ∧
      csrGet u O.ethCntFragDrop = min (csrGet s O.ethCntFragDrop + 1) 0xFFFFFFFF ∧ u =
          { s with wcp := u.wcp, csr := u.csr }) := by
  have hexec : exec (.fragTimeout k n) s = .next (bump (setSession s { x with
      reasm := x.reasm.filter (fun m => !decide (m.seq = n)) }) O.ethCntFragDrop) := by
    change Host.Outcome.next _ = _
    rw [if_neg hk, hx]
    dsimp only
    rw [if_pos hany]
  refine ⟨_, hexec, ⟨_, findSession_setSession s hx (id_of_findSession (x := x) hx), ?_⟩, csrGet_bump_same _ _, rfl⟩
  exact List.filter_congr fun m _ => (decide_not (p := m.seq = n)).symm

theorem sessionIdleTimeout_completes {k : Nat} (hx : findSession s k = some x) : completes (.sessionIdleTimeout k) s
    (fun u =>
    (∀ y ∈ u.wcp.sessions, y.id ≠ k) ∧ u.wcp.queue = s.wcp.queue.filter (fun r => decide (r.session ≠ k)) ∧
    (hasRoom s 0 → queued u 0 0x6004) ∧ u.mem = s.mem) := by
  obtain ⟨v, hv⟩ : ∃ v, v = (dropLatches s (sessionReader x.slot)).withWcp (fun w => { w with
    sessions := w.sessions.filter (fun y => decide (y.id ≠ k))
    queue := w.queue.filter (fun r => decide (r.session ≠ k)) }) := ⟨_, rfl⟩
  have hexec : exec (.sessionIdleTimeout k) s = .next (raise v 0x6004 0 3 6 x.bind.port [1]) := by
    change Host.Outcome.next (closeSession s k 1) = _
    rw [closeSession, hx, hv]
  obtain ⟨_, _, hraise⟩ := raise_note_eq_with v 0x6004 3 6 x.bind.port [1]
  refine ⟨_, hexec, fun y hy => ?_, ?_, fun hroom => ?_, ?_⟩
  · rw [hraise, hv] at hy
    exact of_decide_eq_true (List.mem_filter.mp hy).2
  · rw [hraise, hv]
    rfl
  · refine queued_raise_note v 0x6004 3 6 _ _ (.inl ?_)
    rw [hv]
    exact hroom
  · rw [hraise, hv]
    rfl

theorem notifyResend_completes {k : Nat} {m : Note} {ms : List Note} (hx : findSession s k = some x)
    (hnotes : x.notes = m :: ms) :
    completes (.notifyResend k) s (fun u =>
      u.out = .notify x.bind x.id m :: s.out ∧ u = { s with out := u.out, egress := u.egress }) := by
  have hexec : exec (.notifyResend k) s = .next (s.emit (.notify x.bind x.id m)) := by
    change Host.Outcome.next _ = _
    rw [hx]
    dsimp only
    rw [hnotes]
    rfl
  obtain ⟨_, hu⟩ := emit_eq_egress s (e := .notify x.bind x.id m) fun _ _ _ h => nomatch h
  refine ⟨_, hexec, by rw [hu], ?_⟩
  rw [hu]

/-- Settles O44: what a datagram's request meets (`takeRequest_session`), and each time-out by its branch. -/
theorem datagramsTaken : Obligations.DatagramsTaken := by
  intro s d x r
  refine ⟨fun hport hbad => ⟨_, rfl, ?_⟩, fun hport hgood hcount hfits hsession hx hmax =>
      ⟨wcpDatagramRx_unknownOpcode hport hgood hcount hfits hsession hx hmax,
        wcpDatagramRx_joins hport hgood hcount hfits hsession hx hmax,
        wcpDatagramRx_queueFull hport hgood hcount hfits hsession hx hmax,
        fun c => wcpDatagramRx_again hport hgood hcount hfits hsession hx hmax⟩,
    fun k n => fragTimeout_completes, fun k => sessionIdleTimeout_completes, fun k m ms => notifyResend_completes⟩
  rw [if_neg (by rw [hport]; decide), if_pos hbad]

end Sys2Proof.Machine
end

section
/-! O51. The handlers of events, and the lint dump. -/

open Sys2Proof
namespace Sys2Proof.Machine

variable {s u v : State} {q : WcpReq} {n : Request} {r : EventRec}

/-! ### Notifications -/

/-- What notifying leaves: everything but registers, sessions and what is sent. -/
def Notifies (s u : State) : Prop := ∃ csr sessions out egress wire, u =
  { s with csr := csr, wcp := { s.wcp with sessions := sessions }, out := out, egress := egress, wire := wire }

theorem Notifies.refl (s : State) : Notifies s s := ⟨_, _, _, _, _, rfl⟩

theorem Notifies.trans (hu : Notifies s u) (hv : Notifies u v) : Notifies s v := by
  obtain ⟨_, _, _, _, _, rfl⟩ := hu
  obtain ⟨_, _, _, _, _, rfl⟩ := hv
  exact ⟨_, _, _, _, _, rfl⟩

theorem emit_notifies (s : State) (e : Emit) : Notifies s (s.emit e) := by
  obtain ⟨_, _, _, h⟩ := emit_eq_with s e
  exact ⟨_, _, _, _, _, h⟩

theorem notifyAll_notifies (s : State) (code : Nat) (body : List Byte) : Notifies s (notifyAll s code body) := by
  have hsent : ∀ (es : List Emit) (w : State), Notifies w (es.foldr (fun e s => s.emit e) w) := by
    intro es w
    induction es with
    | nil => exact .refl w
    | cons e es ih => exact ih.trans (emit_notifies _ e)
  obtain ⟨w, hw⟩ : ∃ w, w = { s with wcp := { s.wcp with
      sessions := (notifyList code (selfRank s) s.step body s.wcp.sessions).1 } } := ⟨_, rfl⟩
  have hlisted : Notifies s w := ⟨_, _, _, _, _, hw⟩
  unfold notifyAll
  dsimp only
  rw [← hw]
  split
  · exact hlisted.trans (hsent _ w)
  · exact (hlisted.trans (hsent _ w)).trans ⟨_, _, _, _, _, rfl⟩

theorem notifyEvent_notifies (s : State) (r : EventRec) : Notifies s (notifyEvent s r) := by
  unfold notifyEvent
  split
  · exact notifyAll_notifies _ _ _
  · exact .refl s

/-! ### Handlers -/

theorem find?_topQueue {x : EventRec} {rest : List EventRec} {sev : Nat} (hqueue : tget s.err.queues sev [] = x :: rest)
    (hsev : sev ≤ 4) (habove : ∀ m, sev < m → m ≤ 4 → tget s.err.queues m [] = []) : topQueue s = some sev := by
  have hempty : ∀ m, sev < m → m ≤ 4 → (!(tget s.err.queues m []).isEmpty) = false := fun m hlt hle => by
    rw [habove m hlt hle]
    rfl
  have hfull : (!(tget s.err.queues sev []).isEmpty) = true := by rw [hqueue]; rfl
  unfold topQueue
  obtain rfl | rfl | rfl | rfl | rfl : sev = 4 ∨ sev = 3 ∨ sev = 2 ∨ sev = 1 ∨ sev = 0 := by omega
  all_goals simp [hempty, hfull]

theorem takeHandler_of_cons {x : EventRec} {rest : List EventRec} {sev : Nat}
    (hqueue : tget s.err.queues sev [] = x :: rest) : takeHandler s sev =
      { s with err := { s.err with queues := tset s.err.queues sev rest, running := some x } } := by
  unfold takeHandler
  rw [hqueue]
  rfl

theorem handlerStart_completes {x : EventRec} {rest : List EventRec} {sev : Nat}
    (hqueue : tget s.err.queues sev [] = x :: rest)
    (htop : topQueue s = some sev) (hhandles : handles s = true) (hnone : s.err.running = none)
    (hsuspended : s.err.suspended = []) : completes .handlerStart s (fun u =>
      u = deepTrace { s with err := { s.err with queues := tset s.err.queues sev rest, running := some x } }) := by
  have hnext : nextHandler s = takeHandler s sev := by
    unfold nextHandler
    rw [hsuspended, htop]
  refine ⟨deepTrace (takeHandler s sev), ?_, by rw [takeHandler_of_cons hqueue]⟩
  change Host.Outcome.next _ = _
  rw [if_neg (by simp [hhandles, hnone, htop]), hnext]

theorem handlerYield_completes {x : EventRec} {rest : List EventRec} {sev : Nat}
    (hqueue : tget s.err.queues sev [] = x :: rest)
    (htop : topQueue s = some sev) (hrunning : s.err.running = some r) (hlt : r.sev < sev) :
    completes .handlerYield s (fun u => u = deepTrace { s with err := { s.err with
      queues := tset s.err.queues sev rest, running := some x, suspended := r :: s.err.suspended } }) := by
  have hqueue' : tget (s.withErr (fun e => { e with suspended := r :: e.suspended })).err.queues sev [] = x :: rest :=
      hqueue
  refine ⟨deepTrace (takeHandler (s.withErr (fun e => { e with suspended := r :: e.suspended })) sev), ?_,
    by rw [takeHandler_of_cons hqueue']; rfl⟩
  change Host.Outcome.next _ = _
  rw [hrunning, htop]
  dsimp only
  rw [if_pos hlt]

/-- The record of a handler that ends enters the log, with nothing suspended behind it. -/
theorem endHandler_spec (h : s.err.suspended = []) (r : EventRec) : (endHandler s r).err.running = none ∧
    (endHandler s r).err.log = (r :: s.err.log).take 256 ∧ (endHandler s r).mem = s.mem ∧ (endHandler s r).pru = s.pru := by
  obtain ⟨_, _, _, _, _, hu⟩ := notifyEvent_notifies (logRec (s.withErr (fun e => { e with running := none })) r) r
  have hnone : (notifyEvent (logRec (s.withErr (fun e => { e with running := none })) r) r).err.suspended = [] := by
    rw [hu]
    exact h
  unfold endHandler
  dsimp only
  rw [hnone]
  dsimp only
  rw [hu]
  exact ⟨rfl, rfl, rfl, rfl⟩

theorem handlerDone_low (hrunning : s.err.running = some r) (hdump : s.err.dump = none) (hsuspended : s.err.suspended = [])
    (hsev : r.sev ≤ 2) : completes .handlerDone s (fun u =>
      u.err.running = none ∧ u.err.log = (r :: s.err.log).take 256 ∧ u.mem = (deepTrace s).mem) := by
  obtain ⟨_, _, _, _, _, _, _, _, hd⟩ := (deepTraces_deepTrace s).frame
  have herr : (deepTrace s).err.suspended = s.err.suspended ∧ (deepTrace s).err.log = s.err.log := by
    rw [hd]
    exact ⟨rfl, rfl⟩
  obtain ⟨hended, hlog, hmem, -⟩ := endHandler_spec (s := deepTrace s) (herr.1.trans hsuspended) r
  refine ⟨endHandler (deepTrace s) r, ?_, hended, herr.2 ▸ hlog, hmem⟩
  change Host.Outcome.next _ = _
  rw [hrunning]
  dsimp only
  rw [if_neg (by rw [hdump]; simp; omega), if_neg (by omega)]

/-! ### The halt of class 1 -/

/-- `u` is `s` but for cores, streams, keys, power and the registers of cores. -/
structure Clears (s u : State) : Prop where
  frame : ∃ streams cores csr keyTab power, u = { s with streams := streams, cores := cores, csr := csr, keyTab := keyTab
                                                         power := power }
  low : KeepsLow s u

namespace Clears

theorem refl (s : State) : Clears s s := ⟨⟨_, _, _, _, _, rfl⟩, .refl s⟩

theorem trans (hu : Clears s u) (hv : Clears u v) : Clears s v := by
  obtain ⟨⟨_, _, _, _, _, rfl⟩, hlow⟩ := hu
  obtain ⟨⟨_, _, _, _, _, rfl⟩, hlow'⟩ := hv
  exact ⟨⟨_, _, _, _, _, rfl⟩, hlow.trans hlow'⟩

theorem of_empties {c k : Nat} (h : Empties c k s u) : Clears s u := by
  obtain ⟨⟨_, _, _, rfl⟩, -⟩ := h
  exact ⟨⟨_, _, _, _, _, rfl⟩, fun _ _ => rfl⟩

end Clears

theorem clears_stopThread (s : State) (c t : Nat) : Clears s (stopThread s c t .halted) := by
  obtain ⟨⟨_, _, _, _, h⟩, -⟩ := stopThread_frame s c t
  exact ⟨⟨_, _, _, _, _, h⟩, (clearThread_keepsLow s c t).trans (retainCluster_keepsLow _ _)⟩

theorem clears_haltCore (s : State) (c : Nat) : Clears s (haltCore s c) :=
  foldl_rel Clears.refl Clears.trans (fun w t => clears_stopThread w c t) _ s

theorem clears_setStn (s : State) (c k : Nat) (x : Station) : Clears s (setStn s c k x) :=
  ⟨⟨_, _, _, _, _, rfl⟩, fun _ _ => rfl⟩

theorem clears_startStnReset (s : State) (c k : Nat) : Clears s (startStnReset s c k) := by
  obtain ⟨w, hw, -, hreset⟩ := startStnReset_eq s c k
  exact (Clears.of_empties (hw (d := 0) (k := 0))).trans ((clears_setStn w c k _).trans
      (Clears.of_empties (hreset (d := 0) (k := 0))))

theorem clears_restoreStream (s : State) (p : Nat × StreamEnt) : Clears s (restoreStream s p) :=
  (Clears.of_empties (discardStream_spec (c := 0) (n := 0) s p).1).trans ⟨⟨_, _, _, _, _, rfl⟩, fun _ _ => rfl⟩

theorem clears_endStnReset (s : State) (c k : Nat) : Clears s (endStnReset s c k) :=
  (foldl_rel Clears.refl Clears.trans clears_restoreStream _ s).trans (clears_setStn _ c k _)

theorem clears_resetStations (s : State) (c : Nat) : Clears s (resetStations s c) :=
  foldl_rel Clears.refl Clears.trans (fun w k => (clears_startStnReset w c k).trans (clears_endStnReset _ c k)) _ s

theorem clears_haltClass1 (s : State) : Clears s (haltClass1 s) :=
  foldl_rel Clears.refl Clears.trans (fun w c => (clears_haltCore w c).trans (clears_resetStations _ c)) _ s

/-- The handler of a STEP event that struck a live step: it restarts the step, and changes no register of the log. -/
theorem stepHandled_spec (hlive : r.live = true) (hcode : r.code ≠ 0x4006) : (stepHandled s r).pru.restart = true ∧
    (stepHandled s r).err = s.err ∧ KeepsLow s (stepHandled s r) := by
  obtain ⟨⟨_, _, _, _, _, hframe⟩, hlow⟩ := clears_haltClass1 s
  have hdrop : (dropMicroBatch (haltClass1 s)).err = (haltClass1 s).err ∧
      (dropMicroBatch (haltClass1 s)).csr = (haltClass1 s).csr := by
    unfold dropMicroBatch
    split <;> exact ⟨rfl, rfl⟩
  have hhandled : stepHandled s r = { dropMicroBatch (haltClass1 s) with
      pru := { (dropMicroBatch (haltClass1 s)).pru with restart := true } } := by
    unfold stepHandled
    rw [if_pos hlive, if_neg hcode]
  refine ⟨by rw [hhandled], ?_, fun o ho => ?_⟩
  · rw [hhandled]
    exact hdrop.1.trans (by rw [hframe])
  · rw [← hlow o ho, hhandled]
    change csrGet (dropMicroBatch (haltClass1 s)) o = _
    rw [csrGet, hdrop.2, csrGet]

theorem handlerDone_step (hrunning : s.err.running = some r) (hdump : s.err.dump = none) (hsuspended : s.err.suspended = [])
    (hsev : r.sev = 3) (hlive : r.live = true) (hcode : r.code ≠ 0x4006) (hauto : csrBit s O.errlogCtrl 2 = false) :
    completes .handlerDone s (fun u =>
      u.err.running = none ∧ u.err.log = (r :: s.err.log).take 256 ∧ u.pru.restart = true) := by
  obtain ⟨hrestart, herr, hlow⟩ := stepHandled_spec (s := s) hlive hcode
  obtain ⟨w, hw⟩ : ∃ w, w = deepTrace (stepHandled s r) := ⟨_, rfl⟩
  have htraced : DeepTraces (stepHandled s r) w := hw ▸ deepTraces_deepTrace _
  obtain ⟨_, _, _, _, _, _, _, _, hd⟩ := htraced.frame
  have hbit : csrBit w O.errlogCtrl 2 = false := by
    rw [← hauto]
    exact csrBit_of_csrGet 2 ((htraced.csr _ (by decide) (.inl (by decide)) (by decide)).trans (hlow _ (by decide)))
  have hkept : (thaw w).err.suspended = s.err.suspended ∧ (thaw w).err.log = s.err.log ∧
      (thaw w).pru = (stepHandled s r).pru := by
    rw [thaw, hd, ← herr]
    exact ⟨rfl, rfl, rfl⟩
  obtain ⟨hended, hlog, -, hpru⟩ := endHandler_spec (s := thaw w) (hkept.1.trans hsuspended) r
  refine ⟨endHandler (thaw w) r, ?_, hended, hkept.2.1 ▸ hlog, by rw [hpru, hkept.2.2, hrestart]⟩
  have hnodump : (if w.err.fence.isSome then none else autoDump w r) = none := by
    split
    · rfl
    · unfold autoDump
      dsimp only
      rw [if_neg (by rw [hbit]; simp)]
  change Host.Outcome.next _ = _
  rw [hrunning]
  dsimp only
  rw [if_neg (by rw [hdump]; simp; omega), if_pos hsev, ← hw, hnodump]

/-! ### A handler that faults -/

/-- A DEVICE event outside a fence and outside boot starts one. -/
theorem raise_device (hfence : s.err.fence = none) (hboot : s.dev ≠ .boot) (hfenced : s.dev ≠ .fenced)
    (code cls srcKind src : Nat) (info : List Nat) : (raise s code 4 cls srcKind src info).err.running = s.err.running ∧
      queued (raise s code 4 cls srcKind src info) 4 code ∧
      (raise s code 4 cls srcKind src info).err.fence = some .freeze := by
  unfold raise
  rw [if_neg (by simp), placeEvent, if_pos rfl, placeDevice, if_neg (by rw [hfence]; simp)]
  dsimp only
  rw [if_neg hboot, if_neg hfenced]
  refine ⟨rfl, ?_, rfl⟩
  unfold queued
  change ∃ r ∈ tget (tset s.err.queues 4 _) 4 [], r.code = code
  rw [tget_tset_same]
  exact ⟨_, List.mem_singleton.mpr rfl, rfl⟩

theorem handlerLost_spec (hrunning : s.err.running = some r) (hfence : s.err.fence = none) (hboot : s.dev ≠ .boot)
    (hfenced : s.dev ≠ .fenced) (info : EventRec → List Nat) : (handlerLost s info).err.running = none ∧
      queued (handlerLost s info) 4 0x9010 ∧ (handlerLost s info).err.fence = some .freeze := by
  obtain ⟨w, hw⟩ : ∃ w, w = notifyEvent (s.withErr (fun e => { e with running := none })) r := ⟨_, rfl⟩
  obtain ⟨_, _, _, _, _, hnotes⟩ := notifyEvent_notifies (s.withErr (fun e => { e with running := none })) r
  rw [← hw] at hnotes
  have hkept : w.err = { s.err with running := none } ∧ w.dev = s.dev := by rw [hnotes]; exact ⟨rfl, rfl⟩
  obtain ⟨hnone, hqueued, hfreeze⟩ := raise_device (s := w) (by rw [hkept.1, hfence]) (by rwa [hkept.2]) (by rwa [hkept.2])
    0x9010 3 0 0 (info r)
  unfold handlerLost
  rw [hrunning]
  dsimp only
  rw [← hw]
  exact ⟨by rw [hnone, hkept.1], hqueued, hfreeze⟩

/-- What the fault of a handler finds: the deep trace changes no handler, fence or state of the device. -/
theorem deepTrace_err (s : State) : (deepTrace s).err.running = s.err.running ∧ (deepTrace s).err.fence = s.err.fence ∧
    (deepTrace s).dev = s.dev := by
  obtain ⟨_, _, _, _, _, _, _, _, hd⟩ := (deepTraces_deepTrace s).frame
  rw [hd]
  exact ⟨rfl, rfl, rfl⟩

theorem handlerFault_completes (hboot : s.dev ≠ .boot) (hfenced : s.dev ≠ .fenced) (hfence : s.err.fence = none)
    (hrunning : s.err.running = some r) : completes (.handlerFault none) s (fun u =>
      u.err.running = none ∧ queued u 4 0x9010 ∧ u.err.fence = some .freeze) := by
  obtain ⟨hran, hno, hdev⟩ := deepTrace_err s
  refine ⟨handlerLost (deepTrace s) (fun r => [r.code]), ?_, handlerLost_spec (hran.trans hrunning) (hno.trans hfence)
    (by rwa [hdev]) (by rwa [hdev]) _⟩
  change Host.Outcome.next _ = _
  rw [hrunning]

theorem countUe_frame (s : State) (a : Nat) : ∃ csr, countUe s a = { s with csr := csr } := by
  unfold countUe
  split
  · exact ⟨_, rfl⟩
  · exact ⟨_, rfl⟩
  · exact ⟨_, rfl⟩

theorem storageFault_completes {addr : Nat} (hboot : s.dev ≠ .boot) (hfenced : s.dev ≠ .fenced)
    (hfence : s.err.fence = none)
    (hhandles : handles s = true) : completes (.handlerFault (some addr)) s (fun u =>
      u.err.running = none ∧ queued u 4 0x9010 ∧ u.err.fence = some .freeze) := by
  obtain ⟨hran, hno, hdev⟩ := deepTrace_err s
  obtain ⟨w, hw⟩ : ∃ w, w = countUe (deepTrace s) addr := ⟨_, rfl⟩
  obtain ⟨_, hcounted⟩ := countUe_frame (deepTrace s) addr
  have hkept : w.err = (deepTrace s).err ∧ w.dev = s.dev := by rw [hw, hcounted, ← hdev]; exact ⟨rfl, rfl⟩
  have hwfence : w.err.fence = none := by rw [hkept.1, hno, hfence]
  refine ⟨storageFault (deepTrace s) addr, congrArg Host.Outcome.next (if_pos hhandles), ?_⟩
  unfold storageFault
  dsimp only
  rw [← hw]
  cases hrunning : w.err.running with
  | some r =>
    rw [if_pos (by simp)]
    exact handlerLost_spec hrunning hwfence (by rwa [hkept.2]) (by rwa [hkept.2]) _
  | none =>
    rw [if_neg (by decide), ← hrunning]
    exact raise_device hwfence (by rwa [hkept.2]) (by rwa [hkept.2]) _ _ _ _ _

/-! ### The lint dump -/

theorem lintDump_completes {addr : Nat} (h : upNext s q 0x803 false n) (hhard : s.err.hard = false)
    (hidle : runningBg s 0x803 = none) : completes (.lintDump q addr) s (fun u =>
      u.err.frozen = true ∧ answered (begun s q 0x803 n) u n stInProgress 0 [] ∧
      u.wcp.running = s.wcp.running ++ [⟨n, addr, 0, 0⟩]) := by
  obtain ⟨_, _, ht⟩ := taken_of_upNext h
  obtain ⟨_, _, _, _, _, _, _, _, _, _, hb⟩ := begun_of_upNext h
  obtain ⟨hanswered, hrunning, -⟩ := startBg_completes (begun s q 0x803 n) n addr 0 0
  refine ⟨(startBg (begun s q 0x803 n) n addr 0 0).withErr (fun e => { e with frozen := true }),
    congrArg Host.Outcome.next (wcpRow_of_upNext h (by rw [ht]; simp [hhard])
        (by simp [busyWith, runningBg_taken h, hidle])),
    rfl, hanswered, ?_⟩
  rw [← show (begun s q 0x803 n).wcp.running = s.wcp.running by rw [hb]]
  exact hrunning

theorem lintDumpDone_completes {y : Running} (hlevel : s.power.level = 0) (hdump : s.err.dump = none)
    (hrunning : runningBg s 0x803 = some y) (hgo : mayGo s ⟨.background 0x803, 4⟩ y.a dumpLen = true)
    (hmay : class2May s true y.a dumpLen = true) : completes .lintDumpDone s (fun u =>
      u.mem = memWrites s.mem y.a (dumpBytes s 0 0) ∧ u.wcp.running = s.wcp.running.erase y) := by
  obtain ⟨w, hw⟩ : ∃ w, w = goOn s ⟨.background 0x803, 4⟩ y.a dumpLen := ⟨_, rfl⟩
  obtain ⟨⟨_, hgone⟩, -⟩ := goOn_spec s ⟨.background 0x803, 4⟩ y.a dumpLen
  have hwmay : class2May w true y.a dumpLen = true := by rw [hw, class2May_goOn, hmay]
  obtain ⟨bs, hbs⟩ : ∃ bs, bs = dumpBytes s 0 0 := ⟨_, rfl⟩
  have hbytes : dumpBytes w 0 0 = bs := by rw [hbs, hw, hgone]; rfl
  rw [← hbs]
  obtain ⟨x, hx⟩ : ∃ x, x = writeDump w ⟨false, y.a, 0, 0⟩ := ⟨_, rfl⟩
  obtain ⟨⟨_, _, _, _, _, _, hwrote⟩, -⟩ := agentWrite_touches w y.a bs
  have hwritten : x.mem = memWrites s.mem y.a bs ∧ x.wcp = s.wcp := by
    rw [hx]
    unfold writeDump
    rw [if_pos hwmay]
    dsimp only
    rw [if_neg (by decide), bump16, csrPutBits, csrPut, hbytes, hwrote, hw, hgone]
    exact ⟨rfl, rfl⟩
  have hended : ∀ st, endBg x 0x803 st 0 = completion (dropRunning x y) y.req st 0 := fun st => by
    rw [endBg, runningBg, hwritten.2, ← runningBg, hrunning]
  obtain ⟨_, _, _, _, _, hnotes⟩ := notifyAll_notifies (dropRunning x y) 0x0A01
    (leBytes 2 y.req.opcode ++ leBytes 2 stOk ++ leBytes 4 0 ++ leBytes 8 y.req.seq)
  refine ⟨thaw (endBg x 0x803 stOk 0), ?_, ?_, ?_⟩
  · change Host.Outcome.next _ = _
    rw [if_neg (by omega), hdump, hrunning]
    dsimp only
    rw [if_neg (by rw [hgo]; simp), if_pos hmay, ← hw, ← hx]
  · rw [hended, completion, hnotes, ← hwritten.1]
    rfl
  · rw [hended, completion, hnotes, ← hwritten.2]
    rfl

/-- Settles O51: what each handler command leaves of the queues, the log and the handlers. -/
theorem handlersServe : Obligations.HandlersServe := by
  intro s q n r x rest sev addr y
  refine ⟨fun hqueue hsev habove => ?_, fun hrunning hdump hsuspended =>
      ⟨fun hsev => handlerDone_low hrunning hdump hsuspended hsev, fun hsev hlive hcode hauto =>
        handlerDone_step hrunning hdump hsuspended hsev hlive hcode hauto⟩,
    fun hboot hfenced hfence => ⟨fun hrunning => handlerFault_completes hboot hfenced hfence hrunning,
      fun hhandles => storageFault_completes hboot hfenced hfence hhandles⟩,
    lintDump_completes, lintDumpDone_completes⟩
  have htop := find?_topQueue hqueue hsev habove
  exact ⟨handlerStart_completes hqueue htop, handlerYield_completes hqueue htop⟩

end Sys2Proof.Machine
end

section
/-! O52. The stages of a fence, and the wait-for graph. -/

open Sys2Proof
namespace Sys2Proof.Machine

variable {s u v : State} {q : WcpReq} {n : Request}

/-! ### Acting on all of a list -/

/-- What an action establishes of its own element and every action keeps holds of all at the end. -/
theorem foldl_establishes {σ α : Type} {f : σ → α → σ} {P : α → σ → Prop} (hdo : ∀ s a, P a (f s a))
    (hkeep : ∀ s a b, P a s → P a (f s b)) (l : List α) (s : σ) : ∀ a ∈ l, P a (l.foldl f s) := by
  have hlater : ∀ (l : List α) (s : σ) (a : α), P a s → P a (l.foldl f s) := by
    intro l
    induction l with
    | nil => exact fun _ _ h => h
    | cons b l ih => exact fun s a h => ih (f s b) a (hkeep s a b h)
  induction l generalizing s with
  | nil => exact fun a ha => by cases ha
  | cons b l ih =>
    intro a ha
    rcases List.mem_cons.mp ha with rfl | ha
    · exact hlater l (f s a) a (hdo s a)
    · exact ih (f s b) a ha

/-! ### The freeze -/

theorem halted_keysRetired {d k : Nat} (c t : Nat) (h : (getThread s d k).st = .halted) :
    (getThread (keysRetired s c t) d k).st = .halted := by
  have htnt := (traceTnt_traces s c t).2 d k
  have hretired : (getThread (retireKeys (traceTnt s c t) c t) d k).st = (getThread (traceTnt s c t) d k).st := by
    unfold retireKeys
    rw [getThread_foldl_retireKey]
    by_cases hsame : d = c ∧ k = t
    · obtain ⟨rfl, rfl⟩ := hsame
      rw [getThread_setThread_same]
    · rw [getThread_setThread_other _ _ (by omega)]
  have hcsr : getThread (keysRetired s c t) d k = getThread (retireKeys (traceTnt s c t) c t) d k := rfl
  rw [hcsr, hretired, htnt]
  exact h

theorem halted_stopThread {d k : Nat} (s : State) (c t : Nat) (h : (getThread s d k).st = .halted) :
    (getThread (stopThread s c t .halted) d k).st = .halted := by
  by_cases hsame : d = c ∧ k = t
  · obtain ⟨rfl, rfl⟩ := hsame
    exact (stopThread_spec s d k).1
  · obtain ⟨_, hretain⟩ := retainCluster_eq_with (clearThread s c t .halted) (clusterOf c)
    have hother : getThread (setThread (keysRetired s c t) c t { getThread (keysRetired s c t) c t with
        st := .halted, blocked := .none, branches := [], buffer := [] }) d k = getThread (keysRetired s c t) d k :=
      getThread_setThread_other _ _ (by omega)
    have hthread : getThread (stopThread s c t .halted) d k = getThread (clearThread s c t .halted) d k := by
      rw [stopThread, hretain]
      rfl
    have hset := (congrArg Thread.st hother).trans (halted_keysRetired c t h)
    rw [hthread, clearThread_eq, getThread_reschedule_of_ne_ready c (by rw [hset]; exact nofun)]
    exact hset

theorem halted_haltCore {d k : Nat} (s : State) (c : Nat) (h : (getThread s d k).st = .halted) :
    (getThread (haltCore s c) d k).st = .halted :=
  foldl_rel (R := fun s u => (getThread s d k).st = .halted → (getThread u d k).st = .halted) (fun _ h => h)
    (fun hu hv h => hv (hu h)) (fun w t => halted_stopThread w c t) _ s h

theorem haltCore_halts (s : State) (c : Nat) : ∀ k < 8, (getThread (haltCore s c) c k).st = .halted := fun k hk =>
  foldl_establishes (P := fun t u => (getThread u c t).st = .halted) (fun w t => (stopThread_spec w c t).1)
    (fun w _ b => halted_stopThread w c b) (List.range 8) s k (List.mem_range.mpr hk)

theorem fenceFreezeDone_completes (hfence : s.err.fence = some .freeze) : completes .fenceFreezeDone s (fun u =>
    u.err.fence = some .depart ∧ u.mem = s.mem ∧
    ∀ c ∈ s.cores.map Prod.fst, ∀ k, k < 8 → (getThread u c k).st = .halted) := by
  obtain ⟨⟨_, _, _, _, _, hframe⟩, -⟩ := foldl_rel Clears.refl Clears.trans clears_haltCore (s.cores.map Prod.fst) s
  have hmem : ((s.cores.map Prod.fst).foldl haltCore s).mem = s.mem := by rw [hframe]
  refine ⟨stage ((s.cores.map Prod.fst).foldl haltCore s) .depart, congrArg Host.Outcome.next (if_pos hfence), rfl,
    hmem, ?_⟩
  exact foldl_establishes (P := fun c u => ∀ k < 8, (getThread u c k).st = .halted) haltCore_halts
    (fun w _ b h k hk => halted_haltCore w b (h k hk)) (s.cores.map Prod.fst) s

/-! ### The stages behind the freeze -/

theorem relays_sendDeparts (s : State) : Relays s (sendDeparts s) := by
  unfold sendDeparts
  split
  · exact .refl s
  · exact relays_foldl (fun w n => relays_foldl (fun w d => relays_queueOn w n _ _ none) _ w) _ s

theorem fenceDepartDone_completes (hfence : s.err.fence = some .depart) : completes .fenceDepartDone s (fun u =>
    u.err.fence = some .fence ∧ u.mem = s.mem) :=
  ⟨stage (sendDeparts s) .fence, congrArg Host.Outcome.next (if_pos hfence), rfl, (relays_sendDeparts s).mem⟩

theorem failLow_spec (s : State) : (failLow s).power.failLow = true ∧ (failLow s).inStep = s.inStep ∧ (failLow s).act =
    s.act ∧
    (failLow s).mem = s.mem := by
  unfold failLow
  split
  · next h => exact ⟨h, rfl, rfl, rfl⟩
  · obtain ⟨_, _, _, h⟩ := emit_eq_with { s with power := { s.power with failLow := true } } (.failN true)
    rw [h]
    exact ⟨rfl, rfl, rfl, rfl⟩

theorem fenceStageDone_completes (hfence : s.err.fence = some .fence) : completes .fenceStageDone s (fun u =>
    u.err.fence = some .links ∧ u.dev = .fenced ∧ u.power.failLow = true ∧ u.inStep = false ∧ u.act = .none ∧
    u.mem = s.mem) := by
  obtain ⟨x, hx⟩ : ∃ x, x = setDev (failLow { s with act := .none, installing := none, inStep := false }) .fenced :=
      ⟨_, rfl⟩
  obtain ⟨w, hw⟩ : ∃ w, w = (match x.err.cause with
    | some r => notifyEvent (notifyAll x 0x0A0C (leBytes 2 r.code ++ leBytes 2 0)) r
    | none => x) := ⟨_, rfl⟩
  obtain ⟨hlow, hstep, hact, hmem⟩ := failLow_spec { s with act := .none, installing := none, inStep := false }
  have hreports : Reports x w := by
    rw [hw]
    split
    · exact reports_notifyEvent (reports_notifyAll (.refl x))
    · exact .refl x
  obtain ⟨_, _, _, _, _, _, hset⟩ := setDev_reports (failLow { s with act := .none, installing := none, inStep := false })
      .fenced
  obtain ⟨_, _, _, _, _, _, hsent⟩ := hx ▸ hreports
  have hkept : w.dev = .fenced ∧ w.power.failLow = true ∧ w.inStep = false ∧ w.act = .none ∧ w.mem = s.mem := by
    rw [hsent, hset]
    exact ⟨rfl, hlow, hstep, hact, hmem⟩
  refine ⟨stage w .links, ?_, rfl, hkept⟩
  rw [hw, hx]
  exact congrArg Host.Outcome.next (if_pos hfence)

theorem fenceLinksDone_completes (hfence : s.err.fence = some .links) : completes .fenceLinksDone s (fun u =>
    u.err.fence = some .lint ∧ (∀ k, linkUpNow u k = false) ∧ u.mem = s.mem) := by
  obtain ⟨w, hw⟩ : ∃ w : State, w = { s with
    links := s.links.map (fun e => (e.1, e.2.lost (if e.2.st = .off then .off else .down))) } := ⟨_, rfl⟩
  refine ⟨stage (w.withErr (fun e => { e with dump := w.err.cause.bind (autoDump w) })) .lint, ?_, rfl, fun k => ?_, ?_⟩
  · rw [hw]
    exact congrArg Host.Outcome.next (if_pos hfence)
  · have hdown : getLink w k = (getLink s k).lost (if (getLink s k).st = .off then .off else .down) := by
      rw [hw]
      exact tget_map_values (fun x : Link => x.lost (if x.st = .off then .off else .down)) s.links k (by rfl)
    have hst : (getLink w k).st ≠ .up := by
      rw [hdown]
      change (if (getLink s k).st = .off then LState.off else LState.down) ≠ .up
      split
      · exact nofun
      · exact nofun
    change linkUpNow w k = false
    simp [linkUpNow, hst]
  · rw [hw]
    rfl

theorem fenceLintDone_completes (hfence : s.err.fence = some .lint) (hdump : s.err.dump = none) :
    completes .fenceLintDone s (fun u => u.err.fence = some .flush ∧ u.err.dump = none ∧ u.mem = s.mem) := by
  refine ⟨thaw (stage (s.withErr (fun e => { e with dump := none })) .flush), ?_, rfl, rfl, rfl⟩
  refine congrArg Host.Outcome.next ((if_pos hfence).trans ?_)
  dsimp only
  rw [hdump]

/-- The settling of a domain is its own: what management demands of a domain stays. -/
theorem settleDom_mgmt (s : State) (d k : Nat) : (getDom (settleDom s d) k).mgmt = (getDom s k).mgmt := by
  have hset : ∀ x : Dom, x.mgmt = (getDom s d).mgmt → (getDom (setDom s d x) k).mgmt = (getDom s k).mgmt := by
    intro x hx
    unfold getDom setDom
    by_cases hk : k = d
    · rw [hk, tget_tset_same]
      exact hx
    · rw [tget_tset_other _ _ _ hk]
  unfold settleDom
  dsimp only
  split
  · rfl
  · split
    · exact hset _ rfl
    · exact hset _ rfl
    · exact hset _ rfl
    · exact hset _ rfl
    · exact hset _ rfl
    · exact hset _ rfl
    · rfl

theorem getDom_setMgmt (s : State) (d k : Nat) (p : PState) :
    (getDom (setMgmt s d p) k).mgmt = if k = d then p else (getDom s k).mgmt := by
  rw [setMgmt, settleDom_mgmt, getDom, setDom, getDom]
  split
  · next hk => rw [hk, tget_tset_same]
  · next hk =>
    rw [tget_tset_other _ _ _ hk]
    rfl

theorem fenceFlushDone_completes (hfence : s.err.fence = some .flush) : completes .fenceFlushDone s (fun u =>
    u.err.fence = some .power ∧ ∀ d, d < 32 → (getDom u d).mgmt = .off) := by
  obtain ⟨w, hw⟩ : ∃ w, w = (List.range 32).foldl (fun s d => setMgmt s d .off)
      ((s.cores.map Prod.fst).foldl traceFlushCore s) := ⟨_, rfl⟩
  have hoff : ∀ d ∈ List.range 32, (getDom w d).mgmt = .off := hw ▸
    foldl_establishes (P := fun d u => (getDom u d).mgmt = .off) (fun u a => by rw [getDom_setMgmt, if_pos rfl])
      (fun u a b h => by rw [getDom_setMgmt, h, ite_self]) (List.range 32) _
  exact ⟨stage w .power, hw ▸ congrArg Host.Outcome.next (if_pos hfence), rfl, fun d hd => hoff d (List.mem_range.mpr hd)⟩

theorem fencePowerDone_completes {r : EventRec} (hfence : s.err.fence = some .power)
    (hoff : ∀ d, d < 32 → (getDom s d).st = .off) (hcause : s.err.cause = some r) (hsuspended : s.err.suspended = []) :
    completes .fencePowerDone s (fun u =>
      u.err.fence = none ∧ u.err.cause = none ∧ u.err.log = (r :: s.err.log).take 256 ∧ u.mem = s.mem) := by
  have hall : (List.range 32).all (fun d => decide ((getDom s d).st = .off)) = true :=
    List.all_eq_true.mpr fun d hd => decide_eq_true (hoff d (List.mem_range.mp hd))
  refine ⟨(logRec s r).withErr (fun e => { e with
      fence := none, cause := none, queues := tdel e.queues 4
      running := if (e.running.map (fun r => decide (r.sev = 4))).getD false then none else e.running }), ?_, rfl, rfl, rfl,
    rfl⟩
  refine congrArg Host.Outcome.next ((if_pos hfence).trans ((if_pos hall).trans ?_))
  rw [hcause]
  dsimp only
  simp only [State.withErr, logRec, hsuspended]
  split
  · next h => cases h
  · rfl

/-! ### The wait-for graph -/

theorem endGraph_held {w : Wfg} (hreq : w.req = none) : endGraph s w =
    { s with err := { s.err with collecting := none, held := some w } } := by
  unfold endGraph
  rw [hreq]
  rfl

/-- A graph that a command asked for is its answer. -/
theorem endGraph_answers {w : Wfg} (hreq : w.req = some n) : answered s (endGraph s w) n stOk 0 (w.bytes s) ∧
    (endGraph s w).err = { s.err with collecting := none } := by
  have hended : endGraph s w = respond (s.withErr (fun e => { e with collecting := none })) n stOk 0 (w.bytes s) := by
    unfold endGraph
    rw [hreq]
    rfl
  obtain ⟨_, _, _, hu⟩ := respond_eq_with (s.withErr (fun e => { e with collecting := none })) n stOk 0 (w.bytes s)
  rw [hended]
  refine ⟨answered_of_sessions (w := s.withErr (fun e => { e with collecting := none })) rfl (answered_respond _ _ _ _ _),
      ?_⟩
  rw [hu]
  rfl

theorem settleGraph_own (s : State) (h : expands s = false) (req : Option Request) :
    settleGraph (beginGraph s req).1 (beginGraph s req).2 =
      endGraph s.useFree ⟨ownEdges s, false, s.cycle, s.step, [], [], req⟩ := by
  unfold beginGraph
  dsimp only
  rw [h, if_neg (by decide)]
  rfl

theorem hangCheck_completes (hctrl : csrBit s O.errlogCtrl 1 = true) (hdev : s.dev = .running) (hhang : s.err.hang = false)
    (hcollecting : s.err.collecting = none) (hexpands : expands s = false) : completes .hangCheck s (fun u =>
      let h : State := (raise s 0x9012 0 3 0 0 []).withErr (fun e => { e with hang := true })
      (u.err.held = some ⟨ownEdges h, false, s.cycle, s.step, [], [], none⟩ ∧ u.err.collecting = none) ∧ u.err.hang = true ∧
        (hasRoom s 0 → queued u 0 0x9012) ∧ u.mem = s.mem) := by
  obtain ⟨h, hh⟩ : ∃ h, h = (raise s 0x9012 0 3 0 0 []).withErr (fun e => { e with hang := true }) := ⟨_, rfl⟩
  obtain ⟨_, _, hraise⟩ := raise_note_eq_with s 0x9012 3 0 0 []
  have hkept : expands h = expands s ∧ h.cycle = s.cycle ∧ h.step = s.step ∧ h.mem = s.mem ∧ h.err.hang = true := by
    rw [hh, hraise]
    exact ⟨rfl, rfl, rfl, rfl, rfl⟩
  obtain ⟨hweave, hcycle, hstep, hmem, hhung⟩ := hkept
  refine ⟨endGraph h.useFree ⟨ownEdges h, false, h.cycle, h.step, [], [], none⟩, ?_, ?_⟩
  · rw [← settleGraph_own h (hweave.trans hexpands) none, hh]
    exact congrArg Host.Outcome.next (if_neg (by simp [hctrl, hdev, hhang, hcollecting]))
  · rw [endGraph_held rfl, hcycle, hstep]
    dsimp only
    rw [← hh]
    refine ⟨⟨rfl, rfl⟩, hhung, fun hroom => ?_, hmem⟩
    have hqueued := queued_raise_note s 0x9012 3 0 0 [] (.inl hroom)
    change queued h 0 0x9012
    rw [hh]
    exact hqueued

theorem waitfor_held {g : Wfg} (h : upNext s q 0x804 false n) (hhard : s.err.hard = false)
    (hcollecting : s.err.collecting = none) (hheld : s.err.held = some g) : completes (.waitfor q) s (fun u =>
      u.err.held = none ∧ answered (begun s q 0x804 n) u n stOk 0 (g.bytes (begun s q 0x804 n))) := by
  obtain ⟨_, _, ht⟩ := taken_of_upNext h
  obtain ⟨_, _, _, _, _, _, _, _, _, _, hb⟩ := begun_of_upNext h
  have hfound : (begun s q 0x804 n).err.held = some g := by rw [hb]; exact hheld
  obtain ⟨w, hw⟩ : ∃ w, w = (begun s q 0x804 n).withErr (fun e => { e with held := none }) := ⟨_, rfl⟩
  have hbytes : Wfg.bytes w { g with req := some n } = g.bytes (begun s q 0x804 n) := by rw [hw]; rfl
  obtain ⟨hanswered, herr⟩ := endGraph_answers (s := w) (w := { g with req := some n }) rfl
  refine ⟨endGraph w { g with req := some n }, ?_, by rw [herr, hw]; rfl, hbytes ▸ answered_of_sessions (by rw [hw]; rfl)
      hanswered⟩
  refine congrArg Host.Outcome.next ((wcpRow_of_upNext h (by rw [ht]; simp [hhard]) (by rw [ht]; simp [hcollecting])).trans
      ?_)
  rw [hfound, hw]

theorem waitfor_own (h : upNext s q 0x804 false n) (hhard : s.err.hard = false)
    (hcollecting : s.err.collecting = none) (hheld : s.err.held = none) (hexpands : expands s = false) :
    completes (.waitfor q) s (fun u => answered (begun s q 0x804 n) u n stOk 0 ((Wfg.mk (ownEdges (begun s q 0x804 n)) false
      (begun s q 0x804 n).cycle (begun s q 0x804 n).step [] [] none).bytes (begun s q 0x804 n))) := by
  obtain ⟨_, _, ht⟩ := taken_of_upNext h
  obtain ⟨_, _, _, _, _, _, _, _, _, _, hb⟩ := begun_of_upNext h
  have hfound : (begun s q 0x804 n).err.held = none := by rw [hb]; exact hheld
  have hweave : expands (begun s q 0x804 n) = false := by rw [expands, hb]; exact hexpands
  obtain ⟨b, hbegun⟩ : ∃ b, b = begun s q 0x804 n := ⟨_, rfl⟩
  rw [← hbegun] at hfound hweave ⊢
  obtain ⟨hanswered, -⟩ := endGraph_answers (s := b.useFree)
    (w := ⟨ownEdges b, false, b.cycle, b.step, [], [], some n⟩) (n := n) rfl
  refine ⟨_, ?_, answered_of_sessions (b := b) (w := b.useFree) rfl hanswered⟩
  refine congrArg Host.Outcome.next ((wcpRow_of_upNext h (by rw [ht]; simp [hhard]) (by rw [ht]; simp [hcollecting])).trans
      ?_)
  rw [← hbegun, hfound]
  exact settleGraph_own b hweave (some n)

theorem wfgReplyRx_completes {g : Wfg} {src : Nat} {es : List GEdge} (hcollecting : s.err.collecting = some g)
    (hawaiting : g.awaiting = [src]) (hreq : g.req = none) (hfar : farNodes es = []) :
    completes (.wfgReplyRx src es) s (fun u => (u.err.held = some { g with
      edges := g.edges ++ es.filter (fun e => !g.edges.contains e), awaiting := [] } ∧ u.err.collecting = none) ∧
      u.mem = s.mem) := by
  obtain ⟨w, hw⟩ : ∃ w, w = (takeInbox s (.wfgReply es)).1 := ⟨_, rfl⟩
  have hkept : w.err.collecting = some g ∧ w.mem = s.mem := by rw [hw]; exact ⟨hcollecting, rfl⟩
  have hend := endGraph_held (s := w) (w := { g with
    edges := g.edges ++ es.filter (fun e => !g.edges.contains e), awaiting := [] }) hreq
  refine ⟨endGraph w { g with edges := g.edges ++ es.filter (fun e => !g.edges.contains e), awaiting := [] }, ?_, ?_⟩
  · change Host.Outcome.next _ = _
    rw [← hw]
    dsimp only
    rw [hkept.1]
    dsimp only
    rw [hawaiting, if_pos (by simp), queryRanks, hfar, List.erase_cons_head]
    rfl
  · rw [hend]
    exact ⟨⟨rfl, rfl⟩, hkept.2⟩

theorem wfgQueryTimeout_completes {g : Wfg} {src : Nat} (hcollecting : s.err.collecting = some g)
    (hawaiting : g.awaiting = [src]) (hreq : g.req = none) : completes (.wfgQueryTimeout src) s (fun u =>
      (u.err.held = some { g with awaiting := [] } ∧ u.err.collecting = none) ∧ u.mem = s.mem) := by
  have hend := endGraph_held (s := s) (w := { g with awaiting := [] }) hreq
  refine ⟨endGraph s { g with awaiting := [] }, ?_, by rw [hend]; exact ⟨⟨rfl, rfl⟩, rfl⟩⟩
  change Host.Outcome.next _ = _
  rw [hcollecting]
  dsimp only
  rw [hawaiting, if_pos (by simp), List.erase_cons_head]
  rfl

/-- Settles O52: stage by stage, then the ways a wait-for graph begins and ends. -/
theorem fencesAndGraphs : Obligations.FencesAndGraphs := by
  intro s q n r g src node step es t
  refine ⟨fenceFreezeDone_completes, fenceDepartDone_completes, fenceStageDone_completes, fenceLinksDone_completes,
    fenceLintDone_completes, fenceFlushDone_completes, fencePowerDone_completes, hangCheck_completes,
    fun h hhard hcollecting => ⟨waitfor_held h hhard hcollecting, waitfor_own h hhard hcollecting⟩, fun htable hdev => ?_,
    fun hcollecting hawaiting hreq => ⟨wfgReplyRx_completes hcollecting hawaiting hreq,
      wfgQueryTimeout_completes hcollecting hawaiting hreq⟩⟩
  refine ⟨_, congrArg Host.Outcome.next (if_neg ?_), rfl⟩
  change ¬(s.mend.table.isNone = true ∨ s.dev = .fenced)
  simp [htable, hdev]

end Sys2Proof.Machine
end

section
/-! O50. Scoring requests: admission, service and the swap of weights. -/

open Sys2Proof
namespace Sys2Proof.Machine

variable {s u v : State} {q : WcpReq} {n : Request} {r : ScoreReq} {l : Lane}

/-! ### Admission -/

/-- A request for a lane that is there, of a device that scores, is answered at once at sag level 5 and else admitted. -/
theorem exec_scoreRequestRx (hdev : s.dev = .running) (hon : csrBit s O.scoreCtrl 0 = true)
    (hform : malformedReq s r = false)
    (hlane : s.score.lanes[if r.lane = 0xFF then shortestLane s.score.lanes else r.lane]? = some l)
    (hlevel : s.power.level < 6) : exec (.scoreRequestRx r) s = .next (
      if s.power.level = 5 then answerNow (bump s O.scoreCntReq) r 5 0 O.scoreCntShed
      else admitScore (bump s O.scoreCntReq) r) := by
  have hsome : s.score.lanes.isEmpty = false := by
    cases hlanes : s.score.lanes with
    | nil => simp [hlanes] at hlane
    | cons => rfl
  change Host.Outcome.next _ = _
  rw [if_neg (by rw [hdev]; simp; omega)]
  dsimp only
  split
  · rfl
  · rw [if_neg (by rw [hdev]; decide), if_neg (by rw [hon, hsome]; decide), if_neg (by rw [hform]; decide)]

/-- An answer given at once is counted, and leaves the scoring state. -/
theorem answerNow_spec {o : Nat} (status : Nat) (ho : o ≠ O.scoreCntReq) :
    csrGet (answerNow (bump s O.scoreCntReq) r status 0 o) o = min (csrGet s o + 1) 0xFFFFFFFF ∧
    (answerNow (bump s O.scoreCntReq) r status 0 o).score = s.score ∧
    ∃ t, (answerNow (bump s O.scoreCntReq) r status 0 o).out =
      .result r.bind (resultBytes r false false status 0xFF 0 ⟨0, 0#32⟩ 0#32 t []) :: s.out := by
  obtain ⟨w, hw⟩ : ∃ w, w = (bump (bump s O.scoreCntReq) o).useFree := ⟨_, rfl⟩
  obtain ⟨_, h⟩ := emit_eq_egress w (e := .result r.bind (resultBytes r false false status 0xFF 0 ⟨0, 0#32⟩ 0#32
    (Config.ingressNs s.freeCtr) [])) (fun _ _ _ => nofun)
  have hcount : csrGet w o = min (csrGet s o + 1) 0xFFFFFFFF := by
    rw [hw]
    exact (csrGet_bump_same (bump s O.scoreCntReq) o).trans (by rw [csrGet_bump_other _ _ ho])
  have hanswer : answerNow (bump s O.scoreCntReq) r status 0 o = w.emit (.result r.bind
      (resultBytes r false false status 0xFF 0 ⟨0, 0#32⟩ 0#32 (Config.ingressNs s.freeCtr) [])) := by
    rw [answerNow, ← hw]
    rfl
  rw [hanswer, h]
  exact ⟨hcount, by rw [hw]; rfl, Config.ingressNs s.freeCtr, by rw [hw]; rfl⟩

theorem scoreRequestRx_admits (hdev : s.dev = .running) (hon : csrBit s O.scoreCtrl 0 = true)
    (hform : malformedReq s r = false)
    (hlane : s.score.lanes[if r.lane = 0xFF then shortestLane s.score.lanes else r.lane]? = some l)
    (hlevel : s.power.level < 5) (hver : l.active.ver ≠ 0) (hroom : l.queue.length < 4) : completes (.scoreRequestRx r) s
        (fun u =>
      u.score.lanes = s.score.lanes.set (if r.lane = 0xFF then shortestLane s.score.lanes else r.lane)
        { l with queue := l.queue ++ [{ r with ahead := l.queue.length }] } ∧
      csrGet u O.scoreCntReq = min (csrGet s O.scoreCntReq + 1) 0xFFFFFFFF ∧
      u = { s with csr := u.csr, score := u.score }) := by
  refine ⟨_, exec_scoreRequestRx hdev hon hform hlane (by omega), ?_⟩
  rw [if_neg (show ¬s.power.level = 5 by omega)]
  have hadmit : admitScore (bump s O.scoreCntReq) r = setLane (bump s O.scoreCntReq)
      (if r.lane = 0xFF then shortestLane s.score.lanes else r.lane)
      { l with queue := l.queue ++ [{ r with ahead := l.queue.length }] } := by
    change (match s.score.lanes[if r.lane = 0xFF then shortestLane s.score.lanes else r.lane]? with
      | none => bump s O.scoreCntReq
      | some l => _) = _
    rw [hlane]
    dsimp only
    rw [if_neg hver, if_neg (by omega)]
    rfl
  rw [hadmit]
  exact ⟨rfl, csrGet_bump_same _ _, rfl⟩

theorem scoreRequestRx_busy (hdev : s.dev = .running) (hon : csrBit s O.scoreCtrl 0 = true)
    (hform : malformedReq s r = false)
    (hlane : s.score.lanes[if r.lane = 0xFF then shortestLane s.score.lanes else r.lane]? = some l)
    (hlevel : s.power.level < 5) (hver : l.active.ver ≠ 0) (hfull : 4 ≤ l.queue.length) : completes (.scoreRequestRx r) s
        (fun u =>
      csrGet u O.scoreCntBusy = min (csrGet s O.scoreCntBusy + 1) 0xFFFFFFFF ∧ u.score = s.score ∧
      ∃ t, u.out = .result r.bind (resultBytes r false false 1 0xFF 0 ⟨0, 0#32⟩ 0#32 t []) :: s.out) := by
  refine ⟨_, exec_scoreRequestRx hdev hon hform hlane (by omega), ?_⟩
  rw [if_neg (show ¬s.power.level = 5 by omega)]
  have hadmit : admitScore (bump s O.scoreCntReq) r = answerNow (bump s O.scoreCntReq) r 1 0 O.scoreCntBusy := by
    change (match s.score.lanes[if r.lane = 0xFF then shortestLane s.score.lanes else r.lane]? with
      | none => bump s O.scoreCntReq
      | some l => _) = _
    rw [hlane]
    dsimp only
    rw [if_neg hver, if_pos hfull]
  rw [hadmit]
  exact answerNow_spec 1 (by decide)

theorem scoreRequestRx_shed (hdev : s.dev = .running) (hon : csrBit s O.scoreCtrl 0 = true)
    (hform : malformedReq s r = false)
    (hlane : s.score.lanes[if r.lane = 0xFF then shortestLane s.score.lanes else r.lane]? = some l)
    (hlevel : s.power.level = 5) : completes (.scoreRequestRx r) s (fun u =>
      csrGet u O.scoreCntShed = min (csrGet s O.scoreCntShed + 1) 0xFFFFFFFF ∧ u.score = s.score ∧
      ∃ t, u.out = .result r.bind (resultBytes r false false 5 0xFF 0 ⟨0, 0#32⟩ 0#32 t []) :: s.out) := by
  refine ⟨_, exec_scoreRequestRx hdev hon hform hlane (by omega), ?_⟩
  rw [if_pos hlevel]
  exact answerNow_spec 5 (by decide)

/-! ### Service -/

/-- From `s` to `u` nothing sent is lost, the lanes stay, and of the registers below the cores' only those of latency, of
    the
swap and of the error log change. -/
structure Serves (s u : State) : Prop where
  out : ∀ e ∈ s.out, e ∈ u.out
  lanes : u.score.lanes = s.score.lanes
  csr : ∀ o, outsideErrlog o → o < 0x100000 → o ≠ O.scoreLatMax → o ≠ O.scoreCntLate → o ≠ O.scoreThreshold →
    o ≠ O.scoreCntSwap → csrGet u o = csrGet s o

namespace Serves

theorem refl (s : State) : Serves s s := ⟨fun _ h => h, rfl, fun _ _ _ _ _ _ _ => rfl⟩

theorem trans (h : Serves s u) (h' : Serves u v) : Serves s v :=
  ⟨fun e he => h'.out e (h.out e he), h'.lanes.trans h.lanes, fun o ho hlt hlat hlate hthr hswap =>
    (h'.csr o ho hlt hlat hlate hthr hswap).trans (h.csr o ho hlt hlat hlate hthr hswap)⟩

end Serves

theorem serves_raise_note (s : State) {code : Nat} (cls srcKind src : Nat) (info : List Nat) (hcode : code < 0x10000) :
    Serves s (raise s code 0 cls srcKind src info) := by
  have hcsr := fun o ho => csrGet_raise_note s (o := o) cls srcKind src info hcode ho
  obtain ⟨_, _, h⟩ := raise_note_eq_with s code cls srcKind src info
  exact ⟨fun e he => by rw [h]; exact he, by rw [h], fun o ho _ _ _ _ _ => hcsr o ho⟩

theorem serves_countLatency (s : State) (lane k lat : Nat) : Serves s (countLatency s lane k lat) := by
  obtain ⟨w, hw⟩ : ∃ w, w = csrPut s O.scoreLatMax (max (csrGet s O.scoreLatMax) (min lat 0xFFFFFFFF)) := ⟨_, rfl⟩
  have hput : Serves s w := hw ▸ ⟨fun _ h => h, rfl, fun o _ _ hlat _ _ _ => csrGet_csrPut_other _ _ hlat⟩
  have hlate : Serves w (bump w O.scoreCntLate) :=
    ⟨fun _ h => h, rfl, fun o _ _ _ hlate _ _ => csrGet_bump_other _ _ hlate⟩
  unfold countLatency
  dsimp only
  rw [← hw]
  split
  · exact hput.trans (hlate.trans (serves_raise_note _ _ _ _ _ (by decide)))
  · exact hput

theorem serves_restartFailed (s : State) (cluster : Nat) : Serves s (restartFailed s cluster) := by
  refine foldl_rel Serves.refl Serves.trans (fun w c => foldl_rel Serves.refl Serves.trans (fun w t => ?_) _ w) _ s
  dsimp only
  split
  · have hlow := startThread_keepsLow w c t
    obtain ⟨⟨_, _, _, _, h⟩, -⟩ := startThread_frame w c t
    exact ⟨fun e he => by rw [h]; exact he, by rw [h], fun o _ hlt _ _ _ _ => hlow o hlt⟩
  · exact .refl w

theorem serves_endDeferred (s : State) (x : Running) (st detail : Nat) (body : List Byte) :
    Serves s (endDeferred s x st detail body) := by
  obtain ⟨hsent, _, _, _, h⟩ : (∀ e ∈ s.out, e ∈ (endDeferred s x st detail body).out) ∧ ∃ sessions out egress,
      endDeferred s x st detail body = { s with wcp := { s.wcp with running := s.wcp.running.erase x, sessions := sessions }
                                                out := out, egress := egress } := by
    refine ⟨fun e he => ?_, (endDeferred_spec s x st detail body).2⟩
    unfold endDeferred respond
    split
    · obtain ⟨_, h⟩ := emit_resp_eq_with (dropRunning s x) x.req.bind 0 x.req.seq x.req.opcode st detail body
      rw [h]
      exact List.mem_cons_of_mem _ he
    · split
      · next y _ =>
        obtain ⟨_, h⟩ := emit_resp_eq_with (setSession (dropRunning s x) { y with
          cache := (⟨x.req.seq, x.req.opcode, st, detail, body⟩ :: y.cache).take 64 }) y.bind y.id x.req.seq x.req.opcode st
          detail body
        rw [h]
        exact List.mem_cons_of_mem _ he
      · exact he
  exact ⟨hsent, by rw [h], fun o _ _ _ _ _ _ => by rw [h]; rfl⟩

theorem serves_swapDone (s : State) : Serves s (swapDone s) := by
  have hput : ∀ x, Serves s (csrPut s O.scoreThreshold x) := fun x =>
    ⟨fun _ h => h, rfl, fun o _ _ _ _ hthr _ => csrGet_csrPut_other _ _ hthr⟩
  have hbump : ∀ w, Serves w (bump w O.scoreCntSwap) := fun w =>
    ⟨fun _ h => h, rfl, fun o _ _ _ _ _ hswap => csrGet_bump_other _ _ hswap⟩
  have hscore : ∀ w : State, Serves w (w.withScore (fun x =>
      { x with activeVer := x.loadedVer, loaded := false, loadedVer := 0, weights := true })) := fun _ =>
    ⟨fun _ h => h, rfl, fun _ _ _ _ _ _ _ => rfl⟩
  obtain ⟨thr, hthr⟩ : ∃ thr, thr = ((s.score.lanes.head?.map (fun l => l.active.thr)).getD 0#32).toNat := ⟨_, rfl⟩
  obtain ⟨y, hy⟩ : ∃ y : State, y = (csrPut s O.scoreThreshold thr).withScore (fun x =>
      { x with activeVer := x.loadedVer, loaded := false, loadedVer := 0, weights := true }) := ⟨_, rfl⟩
  have hswapped : Serves s y := hy ▸ (hput thr).trans (hscore _)
  unfold swapDone
  dsimp only
  rw [← hthr, ← hy]
  split
  · exact .refl s
  · refine hswapped.trans (Serves.trans ?_ ((hbump _).trans (serves_raise_note _ _ _ _ _ (by decide))))
    split
    · exact serves_endDeferred _ _ _ _ _
    · exact .refl _

/-- What a lane is once the service of its first request ends. -/
def Lane.served (l : Lane) (rest : List ScoreReq) : Lane :=
  if l.switch then Lane.switchBuf { l with queue := rest, serving := false, failed := false }
  else { l with queue := rest, serving := false, failed := false }

/-- The end of a service, from the state in which its answer is sent and counted. -/
def serviceEnds (w : State) (lane : Nat) (l : Lane) (rest : List ScoreReq) (k lat : Nat) : State :=
  let u := restartFailed (setLane (countLatency w lane k lat) lane (l.served rest)) l.cluster
  if l.switch then swapDone u else u

theorem serviceEnds_spec (w : State) (lane : Nat) (l : Lane) (rest : List ScoreReq) (k lat : Nat) :
    Serves (setLane w lane (l.served rest)) (serviceEnds w lane l rest k lat) := by
  have hset : Serves (setLane w lane (l.served rest)) (setLane (countLatency w lane k lat) lane (l.served rest)) := by
    obtain ⟨hout, hlanes, hcsr⟩ := serves_countLatency w lane k lat
    refine ⟨hout, ?_, hcsr⟩
    change (countLatency w lane k lat).score.lanes.set lane _ = w.score.lanes.set lane _
    rw [hlanes]
  unfold serviceEnds
  dsimp only
  split
  · exact hset.trans ((serves_restartFailed _ _).trans (serves_swapDone _))
  · exact hset.trans (serves_restartFailed _ _)

section
variable {lane ns eg : Nat} {score : BitVec 32} {attrs : List Sens} {rest : List ScoreReq}

/-- The records of attribution of a service. -/
def serviceRecs (s : State) (r : ScoreReq) (attrs : List Sens) : List (List Byte) :=
  (rankAttrs (min r.k (csrBits s O.scoreModel 21 16)) (attributions s r attrs)).map Attr.bytes

/-- The service of a request ends: its answer, and what is counted of it. -/
theorem exec_laneServiceEnd {ok alarm attr : Bool} (hlane : s.score.lanes[lane]? = some l) (hserving : l.serving = true)
    (hqueue : l.queue = r :: rest) (hruns : domRuns s l.cluster = true) (hfence : fenceStops s = false)
        (hok : (!l.failed) = ok)
    (halarm : (ok && alarms score l.active.thr) = alarm)
    (hattr : (ok && decide (r.k ≠ 0) && decide (r.flags % 2 = 0) && csrBit s O.scoreCtrl 1 &&
        (alarm || decide (r.flags = 2))) = attr) :
    exec (.laneServiceEnd lane score attrs ns eg) s = .next (
      let s1 := s.emit (.result r.bind (resultBytes r alarm attr (if ok then 0 else 4) lane 0 l.active
        (if ok then score else 0#32) ns (if attr then serviceRecs s r attrs else [])))
      let s2 := if ok then bump s1 O.scoreCntOk else bump s1 O.scoreCntFailed
      serviceEnds (if alarm then bump s2 O.scoreCntAlarm else s2) lane l rest r.ahead (ns + eg)) := by
  change Host.Outcome.next _ = _
  rw [hlane]
  dsimp only
  rw [hserving, hruns, hfence, hqueue]
  subst hattr halarm hok
  rfl

/-- What is sent at the end of a service stays sent, and what is counted of it stays counted. -/
theorem laneServiceEnd_spec {w : State} {e : Emit} (hsent : e ∈ w.out) (k lat : Nat) :
    e ∈ (serviceEnds w lane l rest k lat).out ∧
    (serviceEnds w lane l rest k lat).score.lanes = w.score.lanes.set lane (l.served rest) ∧
    ∀ o ∈ [O.scoreCntOk, O.scoreCntAlarm, O.scoreCntFailed], csrGet (serviceEnds w lane l rest k lat) o = csrGet w o := by
  obtain ⟨hout, hlanes, hcsr⟩ := serviceEnds_spec w lane l rest k lat
  refine ⟨hout e hsent, hlanes, fun o ho => ?_⟩
  have hwhere : o = O.scoreCntOk ∨ o = O.scoreCntAlarm ∨ o = O.scoreCntFailed := by simpa using ho
  have hoff : 0xA0044 ≤ o ∧ o ≤ 0xA0058 := by
    rcases hwhere with rfl | rfl | rfl
    · decide
    · decide
    · decide
  refine hcsr o (.inr (by omega)) (by omega) ?_ ?_ ?_ ?_
  · unfold O.scoreLatMax; omega
  · unfold O.scoreCntLate; omega
  · unfold O.scoreThreshold; omega
  · unfold O.scoreCntSwap; omega

theorem result_sent (s : State) (b : Bind) (bs : List Byte) : .result b bs ∈ (s.emit (.result b bs)).out ∧
    (s.emit (.result b bs)).score = s.score ∧ ∀ o, csrGet (s.emit (.result b bs)) o = csrGet s o := by
  obtain ⟨_, h⟩ := emit_eq_egress s (e := .result b bs) (fun _ _ _ => nofun)
  rw [h]
  exact ⟨List.mem_cons_self, rfl, fun _ => rfl⟩

theorem laneServiceEnd_ok (hlane : s.score.lanes[lane]? = some l) (hserving : l.serving = true)
    (hqueue : l.queue = r :: rest) (hruns : domRuns s l.cluster = true) (hfence : fenceStops s = false) (hk : r.k = 0)
    (hfailed : l.failed = false) (halarms : alarms score l.active.thr = false) :
    completes (.laneServiceEnd lane score attrs ns eg) s (fun u =>
      .result r.bind (resultBytes r false false 0 lane 0 l.active score ns []) ∈ u.out ∧
      csrGet u O.scoreCntOk = min (csrGet s O.scoreCntOk + 1) 0xFFFFFFFF ∧ u.score.lanes[lane]? = some (l.served rest)) :=
          by
  refine ⟨_, exec_laneServiceEnd (ok := true) (alarm := false) (attr := false) hlane hserving hqueue hruns hfence
      (by rw [hfailed]; rfl)
    (by rw [halarms]; rfl) (by simp [hk]), ?_⟩
  dsimp only
  simp only [if_true, Bool.false_eq_true, if_false]
  obtain ⟨hsent, hscore, hcsr⟩ := result_sent s r.bind (resultBytes r false false 0 lane 0 l.active score ns [])
  obtain ⟨w, hw⟩ : ∃ w, w = s.emit (.result r.bind (resultBytes r false false 0 lane 0 l.active score ns [])) := ⟨_, rfl⟩
  rw [← hw] at hsent hscore hcsr ⊢
  obtain ⟨hout, hlanes, hkept⟩ := laneServiceEnd_spec (w := bump w O.scoreCntOk) (lane := lane) (l := l) (rest := rest)
      hsent r.ahead (ns + eg)
  refine ⟨hout, ?_, ?_⟩
  · rw [hkept _ (by simp), csrGet_bump_same, hcsr]
  · rw [hlanes]
    change (w.score.lanes.set lane (l.served rest))[lane]? = _
    rw [hscore]
    exact List.getElem?_set_self (List.getElem?_eq_some_iff.mp hlane).1

theorem laneServiceEnd_alarm (hlane : s.score.lanes[lane]? = some l) (hserving : l.serving = true)
    (hqueue : l.queue = r :: rest) (hruns : domRuns s l.cluster = true) (hfence : fenceStops s = false) (hk : r.k = 0)
    (hfailed : l.failed = false) (halarms : alarms score l.active.thr = true) :
    completes (.laneServiceEnd lane score attrs ns eg) s (fun u =>
      .result r.bind (resultBytes r true false 0 lane 0 l.active score ns []) ∈ u.out ∧
      csrGet u O.scoreCntOk = min (csrGet s O.scoreCntOk + 1) 0xFFFFFFFF ∧
      csrGet u O.scoreCntAlarm = min (csrGet s O.scoreCntAlarm + 1) 0xFFFFFFFF) := by
  refine ⟨_, exec_laneServiceEnd (ok := true) (alarm := true) (attr := false) hlane hserving hqueue hruns hfence
      (by rw [hfailed]; rfl)
    (by rw [halarms]; rfl) (by simp [hk]), ?_⟩
  dsimp only
  simp only [if_true, Bool.false_eq_true, if_false]
  obtain ⟨hsent, hscore, hcsr⟩ := result_sent s r.bind (resultBytes r true false 0 lane 0 l.active score ns [])
  obtain ⟨w, hw⟩ : ∃ w, w = s.emit (.result r.bind (resultBytes r true false 0 lane 0 l.active score ns [])) := ⟨_, rfl⟩
  rw [← hw] at hsent hscore hcsr ⊢
  obtain ⟨hout, -, hkept⟩ := laneServiceEnd_spec (w := bump (bump w O.scoreCntOk) O.scoreCntAlarm) (lane := lane) (l := l)
    (rest := rest) hsent r.ahead (ns + eg)
  refine ⟨hout, ?_, ?_⟩
  · rw [hkept _ (by simp), csrGet_bump_other _ _ (by decide), csrGet_bump_same, hcsr]
  · rw [hkept _ (by simp), csrGet_bump_same, csrGet_bump_other _ _ (by decide), hcsr]

theorem laneServiceEnd_failed (hlane : s.score.lanes[lane]? = some l) (hserving : l.serving = true)
    (hqueue : l.queue = r :: rest) (hruns : domRuns s l.cluster = true) (hfence : fenceStops s = false)
    (hfailed : l.failed = true) : completes (.laneServiceEnd lane score attrs ns eg) s (fun u =>
      .result r.bind (resultBytes r false false 4 lane 0 l.active 0#32 ns []) ∈ u.out ∧
      csrGet u O.scoreCntFailed = min (csrGet s O.scoreCntFailed + 1) 0xFFFFFFFF) := by
  refine ⟨_, exec_laneServiceEnd (ok := false) (alarm := false) (attr := false) hlane hserving hqueue hruns hfence
      (by rw [hfailed]; rfl)
    rfl rfl, ?_⟩
  dsimp only
  simp only [Bool.false_eq_true, if_false]
  obtain ⟨hsent, hscore, hcsr⟩ := result_sent s r.bind (resultBytes r false false 4 lane 0 l.active 0#32 ns [])
  obtain ⟨w, hw⟩ : ∃ w, w = s.emit (.result r.bind (resultBytes r false false 4 lane 0 l.active 0#32 ns [])) := ⟨_, rfl⟩
  rw [← hw] at hsent hscore hcsr ⊢
  obtain ⟨hout, -, hkept⟩ := laneServiceEnd_spec (w := bump w O.scoreCntFailed) (lane := lane) (l := l)
    (rest := rest) hsent r.ahead (ns + eg)
  refine ⟨hout, ?_⟩
  rw [hkept _ (by simp), csrGet_bump_same, hcsr]

theorem laneServiceEnd_attributes (hlane : s.score.lanes[lane]? = some l) (hserving : l.serving = true)
    (hqueue : l.queue = r :: rest) (hruns : domRuns s l.cluster = true) (hfence : fenceStops s = false)
    (hfailed : l.failed = false) (halarms : alarms score l.active.thr = true) (hk : r.k ≠ 0) (hflags : r.flags % 2 = 0)
    (hon : csrBit s O.scoreCtrl 1 = true) : completes (.laneServiceEnd lane score attrs ns eg) s (fun u =>
      .result r.bind (resultBytes r true true 0 lane 0 l.active score ns (serviceRecs s r attrs)) ∈ u.out) := by
  refine ⟨_, exec_laneServiceEnd (ok := true) (alarm := true) (attr := true) hlane hserving hqueue hruns hfence
      (by rw [hfailed]; rfl)
    (by rw [halarms]; rfl) (by simp [hk, hflags, hon]), ?_⟩
  dsimp only
  simp only [if_true]
  obtain ⟨hsent, -, -⟩ := result_sent s r.bind (resultBytes r true true 0 lane 0 l.active score ns (serviceRecs s r attrs))
  obtain ⟨w, hw⟩ : ∃ w, w = s.emit (.result r.bind (resultBytes r true true 0 lane 0 l.active score ns
      (serviceRecs s r attrs))) :=
    ⟨_, rfl⟩
  rw [← hw] at hsent ⊢
  exact (laneServiceEnd_spec (w := bump (bump w O.scoreCntOk) O.scoreCntAlarm) hsent _ _).1

/-! ### Attribution -/

theorem mem_insertBy {α : Type} {f : α → Nat} {a b : α} {l : List α} (h : a ∈ insertBy f b l) : a = b ∨ a ∈ l := by
  induction l with
  | nil => exact List.mem_cons.mp h
  | cons c l ih =>
    unfold insertBy at h
    split at h
    · exact List.mem_cons.mp h
    · rcases List.mem_cons.mp h with rfl | h
      · exact .inr List.mem_cons_self
      · exact (ih h).imp id (List.mem_cons_of_mem c)

theorem mem_of_mem_sortBy {α : Type} {f : α → Nat} {a : α} {l : List α} (h : a ∈ sortBy f l) : a ∈ l := by
  induction l with
  | nil => exact h
  | cons b l ih => exact List.mem_cons.mpr ((mem_insertBy h).imp id ih)

theorem mem_of_mem_rankAttrs {k : Nat} {a : Attr} {l : List Attr} (h : a ∈ rankAttrs k l) : a ∈ l :=
  (List.mem_filter.mp (mem_of_mem_sortBy (mem_of_mem_sortBy (List.mem_of_mem_take h)))).1

theorem mem_attributions {a : Attr} (h : a ∈ attributions s r attrs) : a.event < r.events ∧
    a.input < (scoreShape s).1 + (scoreShape s).2 ∧ ∃ x ∈ attrs, x.event = a.event ∧ x.input = a.input ∧
      ((scoreShape s).1 ≤ a.input → a.value = f32Sum (x.terms.map (fun t => f32Mul (bf16To32 (BitVec.ofNat 16 (ofLe
        ((r.body.drop (featureOffset (scoreShape s) a.event (a.input - (scoreShape s).1))).take 2)))) t.2))) := by
  obtain ⟨x, hx, rfl⟩ := List.mem_map.mp h
  obtain ⟨hin, hbounds⟩ := List.mem_filter.mp hx
  simp only [Bool.and_eq_true, decide_eq_true_eq] at hbounds
  refine ⟨hbounds.1, hbounds.2, x, hin, rfl, rfl, fun hfeature => ?_⟩
  have hnot : ¬x.input < (scoreShape s).1 := Nat.not_lt.mpr hfeature
  simp only [attribution, if_neg hnot]

end

/-! ### The swap of weights -/

theorem swapLoad_busy {addr : Nat} (hdev : s.dev = .running) (hlanes : s.score.lanes ≠ []) (h : upNext s q 0x902 false n)
    (hswitch : switching s = true) : completes (.swapLoad q addr) s (fun u =>
      u.score = { s.score with loaded := false, loadedVer := 0 } ∧ answered (begun s q 0x902 n) u n stBusy 0 []) := by
  obtain ⟨_, _, ht⟩ := taken_of_upNext h
  have hstates : swapStates s = true := by simp [swapStates, inStates, hdev, hlanes]
  obtain ⟨w, hw⟩ : ∃ w, w = taken s q 0x902 n := ⟨_, rfl⟩
  obtain ⟨x, hx⟩ : ∃ x : State, x = w.withScore (fun x => { x with loaded := false, loadedVer := 0 }) := ⟨_, rfl⟩
  obtain ⟨_, _, _, hu⟩ := respond_eq_with x n stBusy 0 []
  obtain ⟨_, _, _, _, _, _, _, _, hd⟩ := (deepTraces_deepTrace w).frame
  have hsame : x.wcp.sessions = (begun s q 0x902 n).wcp.sessions := by
    rw [begun_eq, ← hw, hd, hx]
    rfl
  refine ⟨respond x n stBusy, ?_, ?_, answered_of_sessions hsame (answered_respond x n stBusy 0 [])⟩
  · refine congrArg Host.Outcome.next ((if_neg (by simp [hswitch])).trans
      ((wcpRowWith_of_upNext h (by rw [ht]; exact hstates)).trans ((if_pos ?_).trans ?_)))
    · have htaken : switching (taken s q 0x902 n) = true := by rw [ht]; exact hswitch
      rw [htaken]
      rfl
    · rw [hx, hw]
      rfl
  · rw [hu, hx, hw, ht]
    rfl

theorem swapLoad_begins {addr : Nat} (hdev : s.dev = .running) (hlanes : s.score.lanes ≠ []) (h : upNext s q 0x902 false n)
    (hswitch : switching s = false) (hidle : runningBg s 0x902 = none) (haligned : addr % 64 = 0)
    (hgo : mayGo s (cmdReq q) addr 64 = true) (hupsets : upsetsIn (begun s q 0x902 n) addr 64 = [])
    (hbad : badIn (begun s q 0x902 n) addr 64 = []) (hheader : swapHeaderBad (begun s q 0x902 n) addr = false)
    (hlen : memNum (begun s q 0x902 n).mem (addr + 0x10) 8 = csrGet (begun s q 0x902 n) O.scoreBufBytes)
    (hmay : class2May (begun s q 0x902 n) false addr 64 = true)
    (hall : class2May (begun s q 0x902 n) false addr (64 + csrGet (begun s q 0x902 n) O.scoreBufBytes) = true) :
    completes (.swapLoad q addr) s (fun u => u.score = { s.score with loaded := false, loadedVer := 0 } ∧
      u.wcp.running = s.wcp.running ++ [⟨n, addr, 0, 0⟩]) := by
  obtain ⟨_, _, ht⟩ := taken_of_upNext h
  obtain ⟨_, _, _, _, _, _, _, _, _, _, hb⟩ := begun_of_upNext h
  have hstates : swapStates s = true := by simp [swapStates, inStates, hdev, hlanes]
  obtain ⟨b, hbegun⟩ : ∃ b, b = begun s q 0x902 n := ⟨_, rfl⟩
  obtain ⟨w, hw⟩ : ∃ w, w = goOn b (cmdReq q) addr 64 := ⟨_, rfl⟩
  have hsame : b.score = s.score ∧ b.wcp.running = s.wcp.running := by rw [hbegun, hb]; exact ⟨rfl, rfl⟩
  rw [← hbegun] at hupsets hbad hheader hlen hmay hall
  obtain ⟨⟨_, hgone⟩, -⟩ := goOn_spec b (cmdReq q) addr 64
  have hallw : class2May w false addr (64 + csrGet b O.scoreBufBytes) = true := by rw [hw, class2May_goOn, hall]
  rw [← hw] at hgone
  have hmeets : readMeets w addr 64 = w := readMeets_of_no_upset (by rw [hgone]; exact hupsets)
  have hbadw : badIn w addr 64 = [] := by rw [hgone]; exact hbad
  have hheaderw : swapHeaderBad w addr = false := by rw [hgone]; exact hheader
  have hlenw : memNum w.mem (addr + 0x10) 8 = csrGet w O.scoreBufBytes := by rw [hgone]; exact hlen
  have hbytes : csrGet w O.scoreBufBytes = csrGet b O.scoreBufBytes := by rw [hgone]; rfl
  refine ⟨(deferResp w n addr 0 0).withScore (fun x => { x with loaded := false, loadedVer := 0 }), ?_, ?_, ?_⟩
  · refine congrArg Host.Outcome.next ((if_neg (by simp [hgo])).trans
      ((wcpRowWith_of_upNext h (by rw [ht]; exact hstates)).trans ((if_neg ?_).trans ?_)))
    · have htaken : switching (taken s q 0x902 n) = false := by rw [ht]; exact hswitch
      rw [htaken, runningBg_taken h, hidle]
      decide
    · dsimp only
      rw [if_neg (by omega), ← hbegun, if_neg (by rw [hmay]; decide), ← hw, hmeets, hbadw]
      dsimp only [List.head?_nil]
      rw [if_neg (by rw [hheaderw]; decide), if_neg (by rw [hlenw]; simp), hbytes, if_neg (by rw [hallw]; decide)]
  · rw [hgone, ← hsame.1]
    rfl
  · rw [hgone, ← hsame.2]
    rfl

/-- The writing of a body of weights into the buffers of the lanes. -/
theorem loadLanes_spec (buf : WBuf) (body : List Byte) (ks : List Nat) (s : State) :
    (ks.foldl (loadLane buf body) s).score.lanes.length = s.score.lanes.length ∧
    (ks.foldl (loadLane buf body) s).wcp = s.wcp := by
  refine foldl_rel (R := fun s u => u.score.lanes.length = s.score.lanes.length ∧ u.wcp = s.wcp) (fun _ => ⟨rfl, rfl⟩)
    (fun {s u v} (hu : u.score.lanes.length = s.score.lanes.length ∧ u.wcp = s.wcp)
      (hv : v.score.lanes.length = u.score.lanes.length ∧ v.wcp = u.wcp) => ⟨hv.1.trans hu.1, hv.2.trans hu.2⟩)
    (fun w k => ?_) ks s
  unfold loadLane
  split
  · exact ⟨rfl, rfl⟩
  · next l _ =>
    dsimp only
    obtain ⟨⟨_, _, _, _, _, _, h⟩, -⟩ := agentWrite_touches w
      (csrGet w (if l.activeB then O.scoreBufA k else O.scoreBufB k) * 256) body
    rw [h]
    exact ⟨List.length_set, rfl⟩

theorem swapLoadDone_completes {x : Running} (hdev : s.dev = .running) (hlanes : s.score.lanes ≠ [])
    (hrunning : runningBg s 0x902 = some x)
    (hmay : class2May s false x.a (64 + csrGet s O.scoreBufBytes) = true)
    (hgo : mayGo s ⟨.background 0x902, 4⟩ x.a (64 + csrGet s O.scoreBufBytes) = true)
    (hupsets : upsetsIn s x.a (64 + csrGet s O.scoreBufBytes) = [])
    (hbad : badIn s x.a (64 + csrGet s O.scoreBufBytes) = [])
    (hcrc : crc32 (memGet s (x.a + 64) (csrGet s O.scoreBufBytes)) = BitVec.ofNat 32 (memNum s.mem (x.a + 0xC) 4)) :
    completes .swapLoadDone s (fun u => u.score.loaded = true ∧ u.score.loadedVer = memNum s.mem (x.a + 4) 4 ∧
      u.score.lanes.length = s.score.lanes.length ∧
      answered s u x.req stOk 0 (leBytes 4 (memNum s.mem (x.a + 4) 4))) := by
  have hstates : swapStates s = true := by simp [swapStates, inStates, hdev, hlanes]
  obtain ⟨k, hk⟩ : ∃ k, k = csrGet s O.scoreBufBytes := ⟨_, rfl⟩
  obtain ⟨w, hw⟩ : ∃ w, w = goOn s ⟨.background 0x902, 4⟩ x.a (64 + k) := ⟨_, rfl⟩
  obtain ⟨⟨_, hgone⟩, -⟩ := goOn_spec s ⟨.background 0x902, 4⟩ x.a (64 + k)
  rw [← hw] at hgone
  rw [← hk] at hmay hgo hupsets hbad hcrc
  have hmeets : readMeets w x.a (64 + k) = w := readMeets_of_no_upset (by rw [hgone]; exact hupsets)
  have hbadw : badIn w x.a (64 + k) = [] := by rw [hgone]; exact hbad
  have hmem : w.mem = s.mem := by rw [hgone]
  obtain ⟨ver, hver⟩ : ∃ ver, ver = memNum s.mem (x.a + 4) 4 := ⟨_, rfl⟩
  obtain ⟨y, hy⟩ : ∃ y, y = (List.range w.score.lanes.length).foldl (loadLane
    ⟨ver, BitVec.ofNat 32 (memNum s.mem (x.a + 8) 4)⟩ (memGet s (x.a + 64) k)) w := ⟨_, rfl⟩
  obtain ⟨hlength, hwcp⟩ := hy ▸ loadLanes_spec ⟨ver, BitVec.ofNat 32 (memNum s.mem (x.a + 8) 4)⟩ (memGet s (x.a + 64) k)
    (List.range w.score.lanes.length) w
  obtain ⟨z, hz⟩ : ∃ z : State, z = y.withScore (fun y => { y with loaded := true, loadedVer := ver }) := ⟨_, rfl⟩
  obtain ⟨hanswered, _, _, _, hu⟩ := endDeferred_spec z x stOk 0 (leBytes 4 ver)
  rw [← hver]
  refine ⟨endDeferred z x stOk 0 (leBytes 4 ver), ?_, ?_, ?_, ?_, answered_of_sessions ?_ hanswered⟩
  · change Host.Outcome.next (match runningBg s 0x902 with
      | some x => finishLoad s x
      | none => s) = _
    rw [hrunning]
    unfold finishLoad
    dsimp only
    rw [if_neg (by rw [hstates]; decide), ← hk, if_neg (by rw [hmay]; decide), if_neg (by rw [hgo]; decide), ← hw, hmeets,
      hbadw]
    dsimp only [List.head?_nil]
    rw [hmem, if_neg (by rw [hcrc]; simp), hz, hy, hver]
  · rw [hu, hz]
    rfl
  · rw [hu, hz]
    rfl
  · rw [hu, hz]
    exact hlength.trans (by rw [hgone])
  · rw [hz]
    change y.wcp.sessions = _
    rw [hwcp, hgone]

theorem swapPublish_completes (hdev : s.dev = .running) (h : upNext s q 0x903 false n)
    (hloaded : s.score.loaded = true) (hidle : ∀ k ∈ s.score.lanes, k.serving = false ∧ k.switch = false)
    (hnone : runningBg s 0x903 = none) : completes (.swapPublish q s.score.loadedVer) s (fun u =>
      u.score = { s.score with lanes := s.score.lanes.map Lane.switchBuf, weights := true, loaded := false, loadedVer := 0,
                               activeVer := s.score.loadedVer } ∧
      answered (begun s q 0x903 n) u n stOk 0 []) := by
  obtain ⟨_, _, ht⟩ := taken_of_upNext h
  obtain ⟨_, _, _, _, _, _, _, _, _, _, hb⟩ := begun_of_upNext h
  obtain ⟨b, hbegun⟩ : ∃ b, b = begun s q 0x903 n := ⟨_, rfl⟩
  have hsame : b.score = s.score ∧ b.wcp.running = s.wcp.running := by rw [hbegun, hb]; exact ⟨rfl, rfl⟩
  have hmap : s.score.lanes.map (fun l => if l.serving then { l with switch := true } else l.switchBuf) =
      s.score.lanes.map Lane.switchBuf := by
    refine List.map_congr_left fun k hk => ?_
    rw [if_neg (by rw [(hidle k hk).1]; decide)]
  obtain ⟨w, hw⟩ : ∃ w : State, w = (deferResp b n 0 0 0).withScore (fun x => { x with
      lanes := x.lanes.map (fun l => if l.serving then { l with switch := true } else l.switchBuf) }) := ⟨_, rfl⟩
  have hscore : w.score = { s.score with lanes := s.score.lanes.map Lane.switchBuf } := by
    rw [hw, ← hmap, ← hsame.1]
    rfl
  have hstill : w.score.lanes.any (·.switch) = false := by
    rw [hscore, List.any_eq_false]
    intro k hk
    obtain ⟨j, -, rfl⟩ := List.mem_map.mp hk
    exact Bool.false_ne_true
  obtain ⟨thr, hthr⟩ : ∃ thr, thr = ((w.score.lanes.head?.map (fun l => l.active.thr)).getD 0#32).toNat := ⟨_, rfl⟩
  obtain ⟨y, hy⟩ : ∃ y : State, y = (csrPut w O.scoreThreshold thr).withScore (fun x =>
      { x with activeVer := x.loadedVer, loaded := false, loadedVer := 0, weights := true }) := ⟨_, rfl⟩
  have hfound : runningBg y 0x903 = some ⟨n, 0, 0, 0⟩ := by
    have hrun : y.wcp.running = s.wcp.running ++ [⟨n, 0, 0, 0⟩] := by rw [hy, hw, ← hsame.2]; rfl
    rw [runningBg, hrun, List.find?_append, ← runningBg, hnone]
    simp [opcode_of_upNext h]
  obtain ⟨hanswered, _, _, _, hz⟩ := endDeferred_spec y ⟨n, 0, 0, 0⟩ stOk 0 []
  obtain ⟨z, hzdef⟩ : ∃ z, z = endDeferred y ⟨n, 0, 0, 0⟩ stOk 0 := ⟨_, rfl⟩
  have hdone : swapDone w = raise (bump z O.scoreCntSwap) 0x6010 0 0 0 0 [w.score.loadedVer, w.score.activeVer] := by
    unfold swapDone
    rw [if_neg (by rw [hstill]; decide)]
    dsimp only
    rw [← hthr, ← hy, hfound, hzdef]
  obtain ⟨_, _, hraise⟩ := raise_note_eq_with (bump z O.scoreCntSwap) 0x6010 0 0 0 [w.score.loadedVer, w.score.activeVer]
  refine ⟨swapDone w, ?_, ?_, ?_⟩
  · refine congrArg Host.Outcome.next ((wcpRow_of_upNext h ?_ ?_).trans ?_)
    · rw [ht]
      simp [inStates, hdev, hloaded]
    · rw [ht]
      exact List.any_eq_false.mpr fun k hk => by rw [(hidle k hk).2]; exact Bool.false_ne_true
    · rw [← hbegun, if_neg (by rw [hsame.1]; simp), hw]
  · rw [hdone, hraise]
    change z.score = _
    rw [hzdef, hz]
    change y.score = _
    rw [hy]
    change { w.score with activeVer := w.score.loadedVer, loaded := false, loadedVer := 0, weights := true } = _
    rw [hscore]
  · have hsent : answered y (swapDone w) n stOk 0 [] := by
      rw [hdone, hraise]
      exact hzdef ▸ hanswered
    refine answered_of_sessions ?_ hsent
    rw [← hbegun, hy, hw]
    rfl

/-- Settles O50: admission, the two ends of a service, and the steps of a swap. -/
theorem scoringAnswers : Obligations.ScoringAnswers := by
  intro s q n r l lane addr ns eg score attrs x
  refine ⟨fun hdev hon hform hlane => ⟨scoreRequestRx_admits hdev hon hform hlane, scoreRequestRx_busy hdev hon hform hlane,
      scoreRequestRx_shed hdev hon hform hlane⟩, fun hlane hserving hqueue hruns hfence => ?_,
    fun rest hlane hserving hqueue hruns hfence hk => ⟨laneServiceEnd_ok hlane hserving hqueue hruns hfence hk,
      laneServiceEnd_alarm hlane hserving hqueue hruns hfence hk, laneServiceEnd_failed hlane hserving hqueue hruns hfence⟩,
    fun rest hlane hserving hqueue hruns hfence hfailed halarms hk hflags hon =>
      ⟨laneServiceEnd_attributes hlane hserving hqueue hruns hfence hfailed halarms hk hflags hon,
        fun a ha => mem_attributions (mem_of_mem_rankAttrs ha)⟩, fun h hdev => ?_,
    fun hdev hlanes => ⟨fun h => swapLoad_busy hdev hlanes h,
      fun h hswitch hidle haligned hgo hupsets hbad hheader hlen hmay hall =>
        swapLoad_begins hdev hlanes h hswitch hidle haligned hgo hupsets hbad hheader hlen hmay hall,
      fun hrunning => swapLoadDone_completes hdev hlanes hrunning, swapPublish_completes hdev⟩⟩
  · refine ⟨_, ?_, rfl⟩
    change Host.Outcome.next _ = _
    rw [hlane]
    dsimp only
    rw [if_neg (by simp [hserving, hqueue, hruns, hfence])]
  · refine ⟨_, congrArg Host.Outcome.next (wcpRow_of_upNext h (ok_notFenced h hdev) rfl), _, ?_, rfl⟩
    simp only [List.flatMap_cons, List.flatMap_nil, List.length_append, length_leBytes, List.length_nil]

end Sys2Proof.Machine
end

section
/-! O49. The staging of a weave, its check, and the stages of its activation. -/

open Sys2Proof
namespace Sys2Proof.Machine

variable {s u v : State} {q : WcpReq} {n : Request} {w : Weave} {x : Running}

/-! ### Staging -/

theorem weave_begun {op : Nat} {img : Bool} (h : upNext s q op img n) : (begun s q op n).wcp.weave = s.wcp.weave ∧
    (begun s q op n).wcp.running = s.wcp.running := by
  obtain ⟨_, _, _, _, _, _, _, _, _, _, hb⟩ := begun_of_upNext h
  rw [hb]
  exact ⟨rfl, rfl⟩

theorem weaveBegin_completes {len : Nat} (hstates : loadStates s = true) (h : upNext s q 0x201 false n)
    (hlen : len ≤ 2 ^ 28) :
    completes (.weaveBegin q len) s (fun u => u.wcp.weave = some (n.session, len) ∧
      answered (begun s q 0x201 n) u n stOk 0 [] ∧ u.mem = (begun s q 0x201 n).mem) := by
  obtain ⟨_, _, ht⟩ := taken_of_upNext h
  obtain ⟨y, hy⟩ : ∃ y, y = (begun s q 0x201 n).withWcp (fun c => { c with weave := some (n.session, len) }) := ⟨_, rfl⟩
  obtain ⟨_, _, _, hu⟩ := respond_eq_with y n stOk 0 []
  refine ⟨respond y n stOk, ?_, by rw [hu, hy]; rfl, answered_of_sessions (by rw [hy]; rfl)
      (answered_respond y n stOk 0 []),
    by rw [hu, hy]; rfl⟩
  refine congrArg Host.Outcome.next ((wcpRow_of_upNext h (by rw [ht]; exact hstates) rfl).trans ?_)
  rw [if_neg (by omega), hy]

theorem dev_of_loadStates (h : loadStates s = true) : s.dev ≠ .boot := by
  intro hdev
  simp [loadStates, inStates, hdev] at h

theorem weaveData_waits {len off : Nat} {bs : List Byte} (hstates : loadStates s = true)
    (hready : (getStack s 7).ready = true)
    (hgo : mayGo s (cmdReq q) (weaveArea + off) bs.length = false) (hweave : s.wcp.weave = some (q.session, len))
    (hthermal : s.power.thermalOff = false) : completes (.weaveData q off bs) s (fun u =>
      u = waitFor (received s q 0x202) (cmdReq q) (weaveArea + off) bs.length) := by
  refine ⟨_, congrArg Host.Outcome.next (if_pos ?_), rfl⟩
  simp [hready, hgo, hstates, hweave, dev_of_loadStates hstates, hthermal]

theorem weaveData_completes {len off : Nat} {bs : List Byte} (hstates : loadStates s = true) (h : upNext s q 0x202 false n)
    (hweave : s.wcp.weave = some (q.session, len)) (hfits : off + bs.length ≤ len) (hready : (getStack s 7).ready = true)
    (hgo : mayGo s (cmdReq q) (weaveArea + off) bs.length = true) : completes (.weaveData q off bs) s (fun u =>
      u.mem = memWrites (begun s q 0x202 n).mem (weaveArea + off) bs ∧ answered (begun s q 0x202 n) u n stOk 0 []) := by
  obtain ⟨_, _, ht⟩ := taken_of_upNext h
  obtain ⟨_, _, _, _, _, _, _, _, _, _, hframe⟩ := begun_of_upNext h
  obtain ⟨b, hb⟩ : ∃ b, b = begun s q 0x202 n := ⟨_, rfl⟩
  rw [← hb] at hframe ⊢
  have hsame : b.wcp.weave = some (q.session, len) ∧ (getStack b 7).ready = true := by
    rw [hframe]
    exact ⟨hweave, hready⟩
  obtain ⟨y, hy⟩ : ∃ y, y = goOn b (cmdReq q) (weaveArea + off) bs.length := ⟨_, rfl⟩
  obtain ⟨z, hz⟩ : ∃ z, z = agentWrite y (weaveArea + off) bs := ⟨_, rfl⟩
  obtain ⟨⟨_, hgone⟩, -⟩ := goOn_spec b (cmdReq q) (weaveArea + off) bs.length
  obtain ⟨⟨_, _, _, _, _, _, hwrote⟩, -⟩ := agentWrite_touches y (weaveArea + off) bs
  rw [← hz, hy, hgone] at hwrote
  obtain ⟨_, _, _, hu⟩ := respond_eq_with z n stOk 0 []
  refine ⟨respond z n stOk, ?_, by rw [hu, hwrote], answered_of_sessions (by rw [hwrote]) (answered_respond z n stOk 0 [])⟩
  refine congrArg Host.Outcome.next ((if_neg (by simp [hgo])).trans ((wcpRow_of_upNext h ?_ rfl).trans ?_))
  · rw [ht]
    simp only [hweave, Option.map_some, Option.getD_some, decide_true, Bool.and_true]
    exact hstates
  · rw [← hb, hsame.1, if_neg (by simp; omega), if_neg (by rw [hsame.2]; simp), hz, hy]

theorem weaveCommit_completes {len : Nat} (hstates : loadStates s = true) (h : upNext s q 0x203 false n)
    (hweave : s.wcp.weave = some (q.session, len)) (hcommit : runningBg s 0x203 = none)
        (hactivate : runningBg s 0x204 = none) :
    completes (.weaveCommit q 0) s (fun u => answered (begun s q 0x203 n) u n stInProgress 0 [] ∧
      u.wcp.running = s.wcp.running ++ [⟨n, 0, len, 0⟩]) := by
  obtain ⟨_, _, ht⟩ := taken_of_upNext h
  obtain ⟨hkept, hrunning⟩ := weave_begun h
  obtain ⟨hanswered, hjoined, -⟩ := startBg_completes (begun s q 0x203 n) n 0 len 0
  refine ⟨startBg (begun s q 0x203 n) n 0 len 0, ?_, hanswered, by rw [hjoined, hrunning]⟩
  refine congrArg Host.Outcome.next ((wcpRow_of_upNext h ?_ ?_).trans ?_)
  · rw [ht]
    simp only [hweave, Option.isSome_some, Bool.or_true, Bool.and_true]
    exact hstates
  · simp [busyWith, runningBg_taken h, hcommit, hactivate]
  · rw [if_neg (by simp), hkept, hweave]
    rfl

/-! ### The check of what was staged -/

theorem weaveCommitDone_denied (hrunning : runningBg s 0x203 = some x) (hown : x.a = 0)
    (hready : (getStack s 7).ready = false)
    (sig : Bool) : completes (.weaveCommitDone sig) s (fun u => u = endBg s 0x203 stDenied 0) := by
  refine ⟨_, ?_, rfl⟩
  change Host.Outcome.next _ = _
  rw [hrunning]
  dsimp only
  have hzero : (0 : Nat) = 0 := rfl
  rw [hown, if_pos hzero, if_pos hzero, hready, if_pos (by decide)]

/-- The staged image is read without an error, so its check follows. -/
theorem exec_weaveCommitDone {m : Nat} (hm : min (memNum s.mem (weaveArea + 0x10) 8) (2 ^ 28) = m)
    (hrunning : runningBg s 0x203 = some x) (hown : x.a = 0) (hready : (getStack s 7).ready = true)
    (hgo : mayGo s ⟨.background 0x203, 4⟩ weaveArea m = true) (hupsets : upsetsIn s weaveArea m = [])
    (hbad : badIn s weaveArea m = []) (sig : Bool) : exec (.weaveCommitDone sig) s =
      .next (checkWeave ((goOn s ⟨.background 0x203, 4⟩ weaveArea m).withWcp (fun c => { c with weave := none })) weaveArea
          x.b
        sig) := by
  obtain ⟨y, hy⟩ : ∃ y, y = goOn s ⟨.background 0x203, 4⟩ weaveArea m := ⟨_, rfl⟩
  obtain ⟨⟨_, hgone⟩, -⟩ := goOn_spec s ⟨.background 0x203, 4⟩ weaveArea m
  rw [← hy] at hgone
  have hmeets : readMeets y weaveArea m = y := readMeets_of_no_upset (by rw [hgone]; exact hupsets)
  have hbady : badIn y weaveArea m = [] := by rw [hgone]; exact hbad
  have hzero : (0 : Nat) = 0 := rfl
  change Host.Outcome.next _ = _
  rw [hrunning]
  dsimp only
  rw [hown, if_pos hzero, if_pos hzero, if_pos hzero, if_pos hzero, hready, hm, if_neg (by decide),
    if_neg (by rw [hgo]; decide), ← hy, hmeets, hbady]
  dsimp only [List.head?_nil]

/-- The end of a commit takes it from what runs, and leaves the weave, what is staged and memory. -/
theorem endBg_spec {op st detail : Nat} (hrunning : runningBg s op = some x) :
    (endBg s op st detail).wcp.running = s.wcp.running.erase x ∧ (endBg s op st detail).staged = s.staged ∧
    (endBg s op st detail).weave = s.weave ∧ (endBg s op st detail).mem = s.mem ∧ (endBg s op st detail).err = s.err := by
  have hended : endBg s op st detail = completion (dropRunning s x) x.req st detail := by
    unfold endBg
    rw [hrunning]
  obtain ⟨_, _, _, _, _, hnotes⟩ := notifyAll_notifies (dropRunning s x) 0x0A01
    (leBytes 2 x.req.opcode ++ leBytes 2 st ++ leBytes 4 detail ++ leBytes 8 x.req.seq)
  rw [hended, completion, hnotes]
  exact ⟨rfl, rfl, rfl, rfl, rfl⟩

theorem checkWeave_passes {base len : Nat} {sig : Bool} (hpass : weaveReason s ⟨s.mem, base⟩ sig = 0)
    (hlen : (⟨s.mem, base⟩ : WImg).length = len) (hrunning : runningBg s 0x203 = some x) :
    (checkWeave s base len sig).staged = some (⟨s.mem, base⟩ : WImg).read ∧
    (checkWeave s base len sig).wcp.running = s.wcp.running.erase x ∧ (checkWeave s base len sig).weave = s.weave ∧
    (checkWeave s base len sig).mem = s.mem := by
  obtain ⟨y, hy⟩ : ∃ y : State, y = { s with staged := some (⟨s.mem, base⟩ : WImg).read } := ⟨_, rfl⟩
  have hcheck : checkWeave s base len sig = endBg y 0x203 stOk 0 := by
    unfold checkWeave
    dsimp only
    rw [hpass, if_neg (show ¬(0 ≠ 1 ∧ 0 ≠ 2 ∧ len ≠ 0 ∧ (⟨s.mem, base⟩ : WImg).length ≠ len) by rw [hlen]; simp), if_pos
        rfl,
      hy]
  obtain ⟨hended, hstaged, hweave, hmem, -⟩ := endBg_spec (s := y) (op := 0x203) (st := stOk) (detail := 0) (x := x)
    (by rw [hy]; exact hrunning)
  rw [hcheck]
  refine ⟨by rw [hstaged, hy], by rw [hended, hy], by rw [hweave, hy], by rw [hmem, hy]⟩

theorem checkWeave_refuses {base len : Nat} {sig : Bool} (hrefused : weaveReason s ⟨s.mem, base⟩ sig = 1)
    (hrunning : runningBg s 0x203 = some x) : (checkWeave s base len sig).staged = s.staged ∧
    (checkWeave s base len sig).wcp.running = s.wcp.running.erase x ∧ (checkWeave s base len sig).mem = s.mem ∧
    (hasRoom s 0 → queued (checkWeave s base len sig) 0 0x9006) := by
  obtain ⟨job, hjob⟩ : ∃ job, job = (⟨s.mem, base⟩ : WImg).num 0x1C 4 := ⟨_, rfl⟩
  have hcheck : checkWeave s base len sig = endBg (weaveRefused s 1 job) 0x203 stRefused 1 := by
    unfold checkWeave
    dsimp only
    rw [hrefused, if_neg (show ¬(1 ≠ 1 ∧ 1 ≠ 2 ∧ len ≠ 0 ∧ (⟨s.mem, base⟩ : WImg).length ≠ len) by simp),
      if_neg (by decide), if_neg (show ¬(3 ≤ 1 ∧ (⟨s.mem, base⟩ : WImg).headOk = true ∧ (⟨s.mem, base⟩ : WImg).dirOk = true)
          by simp),
      hjob]
    rfl
  obtain ⟨_, _, hraise⟩ := raise_note_eq_with s 0x9006 3 0 0 [1]
  have hqueued := fun hroom => queued_raise_note s 0x9006 3 0 0 [1] (.inl hroom)
  obtain ⟨y, hy⟩ : ∃ y, y = bump (raise s 0x9006 0 3 0 0 [1]) O.secCntRefused := ⟨_, rfl⟩
  obtain ⟨_, _, _, _, _, hnotes⟩ := notifyAll_notifies y 0x0A06 (leBytes 4 1 ++ leBytes 4 job)
  have hrefuse : weaveRefused s 1 job = notifyAll y 0x0A06 (leBytes 4 1 ++ leBytes 4 job) := by rw [weaveRefused, hy]
  have hkept : (weaveRefused s 1 job).wcp.running = s.wcp.running ∧ (weaveRefused s 1 job).staged = s.staged ∧
      (weaveRefused s 1 job).mem = s.mem ∧ (weaveRefused s 1 job).err = (raise s 0x9006 0 3 0 0 [1]).err := by
    rw [hrefuse, hnotes, hy]
    refine ⟨?_, ?_, ?_, rfl⟩
    · rw [hraise]; rfl
    · rw [hraise]; rfl
    · rw [hraise]; rfl
  obtain ⟨hended, hstaged, -, hmem, herr⟩ := endBg_spec (s := weaveRefused s 1 job) (op := 0x203) (st := stRefused)
      (detail := 1)
    (x := x) (by rw [runningBg, hkept.1]; exact hrunning)
  rw [hcheck]
  exact ⟨hstaged.trans hkept.2.1, by rw [hended, hkept.1], hmem.trans hkept.2.2.1,
    fun hroom => (queued_congr (herr.trans hkept.2.2.2) _ _).mpr (hqueued hroom)⟩

/-! ### The commands of activation -/

theorem weaveDiscard_completes (h : upNext s q 0x205 false n) (hdev : s.dev ≠ .fenced) : completes (.weaveDiscard q) s
    (fun u =>
    u.staged = none ∧ u.wcp.weave = none ∧ answered (begun s q 0x205 n) u n stOk 0 []) := by
  obtain ⟨y, hy⟩ : ∃ y, y = ({ begun s q 0x205 n with staged := none } : State).withWcp (fun c => { c with weave := none })
      :=
    ⟨_, rfl⟩
  obtain ⟨_, _, _, hu⟩ := respond_eq_with y n stOk 0 []
  refine ⟨respond y n stOk, ?_, by rw [hu, hy]; rfl, by rw [hu, hy]; rfl,
    answered_of_sessions (by rw [hy]; rfl) (answered_respond y n stOk 0 [])⟩
  rw [hy]
  exact congrArg Host.Outcome.next (wcpRow_of_upNext h (ok_notFenced h hdev) rfl)

theorem weaveActivate_completes (h : upNext s q 0x204 false n) (hdev : s.dev = .idle ∨ s.dev = .quiesced)
    (hstaged : s.staged = some w) (himage : (tget? s.sec.images 1).isSome = true) (hcommit : runningBg s 0x203 = none)
    (hactivate : runningBg s 0x204 = none) : completes (.weaveActivate q) s (fun u => u.act = .entry ∧
      u.installing = some w ∧ u.staged = none ∧ answered (begun s q 0x204 n) u n stInProgress 0 []) := by
  obtain ⟨_, _, ht⟩ := taken_of_upNext h
  obtain ⟨_, _, _, _, _, _, _, _, _, _, hframe⟩ := begun_of_upNext h
  obtain ⟨b, hb⟩ : ∃ b, b = begun s q 0x204 n := ⟨_, rfl⟩
  rw [← hb] at hframe ⊢
  have hsame : b.staged = some w ∧ b.sec.images = s.sec.images := by rw [hframe]; exact ⟨hstaged, rfl⟩
  obtain ⟨y, hy⟩ : ∃ y : State, y = { b with act := .entry, installing := b.staged, staged := none } := ⟨_, rfl⟩
  obtain ⟨hanswered, -, -⟩ := startBg_completes y n 0 0 0
  obtain ⟨_, _, _, hu⟩ := respond_eq_with y n stInProgress 0 []
  have hstart : (startBg y n 0 0 0).act = .entry ∧ (startBg y n 0 0 0).installing = some w ∧
      (startBg y n 0 0 0).staged = none := by
    rw [startBg, hu, hy, ← hsame.1]
    exact ⟨rfl, rfl, rfl⟩
  refine ⟨startBg y n 0 0 0, ?_, hstart.1, hstart.2.1, hstart.2.2, answered_of_sessions (by rw [hy]) hanswered⟩
  refine congrArg Host.Outcome.next ((wcpRow_of_upNext h ?_ ?_).trans ?_)
  · rw [ht]
    rcases hdev with hdev | hdev
    · simp [inStates, hdev]
    · simp [inStates, hdev]
  · simp [busyWith, runningBg_taken h, hcommit, hactivate]
  · rw [← hb, if_pos (by rw [hsame.1, hsame.2, himage]; rfl), hy]

theorem weaveActivate_busy (h : upNext s q 0x204 false n) (hactivate : (runningBg s 0x204).isSome = true) :
    completes (.weaveActivate q) s (fun u => u.wcp.running = s.wcp.running ∧ u.staged = s.staged ∧
      answered (begun s q 0x204 n) u n stBusy 0 []) := by
  obtain ⟨_, _, ht⟩ := taken_of_upNext h
  obtain ⟨y, hy⟩ : ∃ y, y = taken s q 0x204 n := ⟨_, rfl⟩
  obtain ⟨_, _, _, _, _, _, _, _, hd⟩ := (deepTraces_deepTrace y).frame
  obtain ⟨_, _, _, hu⟩ := respond_eq_with y n stBusy 0 []
  have hsame : y.wcp.sessions = (begun s q 0x204 n).wcp.sessions := by rw [begun_eq, ← hy, hd]
  refine ⟨respond y n stBusy, ?_, by rw [hu, hy, ht], by rw [hu, hy, ht],
    answered_of_sessions hsame (answered_respond y n stBusy 0 [])⟩
  rw [hy]
  refine congrArg Host.Outcome.next ((wcpRowWith_of_upNext h ?_).trans (if_pos ?_))
  · simp [busyWith, runningBg_taken h, hactivate]
  · simp [busyWith, runningBg_taken h, hactivate]

theorem activationEntryDone_completes (hact : s.act = .entry) (hdev : s.dev = .idle ∨ s.dev = .quiesced) :
    completes .activationEntryDone s (fun u => u.act = .drain ∧ u.dev = .activating ∧ u.mem = s.mem) := by
  obtain ⟨y, hy⟩ : ∃ y : State, y = { keepShown s with act := .drain } := ⟨_, rfl⟩
  have hin : inStates [.idle, .quiesced] s = true := by
    rcases hdev with hdev | hdev
    · simp [inStates, hdev]
    · simp [inStates, hdev]
  obtain ⟨_, _, _, _, _, _, hset⟩ := setDev_reports y .activating
  refine ⟨setDev y .activating, ?_, ?_⟩
  · rw [hy]
    exact congrArg Host.Outcome.next (if_pos ⟨hact, hin⟩)
  · rw [hset, hy]
    exact ⟨rfl, rfl, rfl⟩

/-! ### What keeps the weave that is being installed -/

@[simp] theorem emit_installing (s : State) (e : Emit) : (s.emit e).installing = s.installing := by
  obtain ⟨_, _, _, h⟩ := emit_eq_with s e
  rw [h]

@[simp] theorem notifyAll_installing (s : State) (code : Nat) (body : List Byte) :
    (notifyAll s code body).installing = s.installing := by
  obtain ⟨_, _, _, _, _, h⟩ := notifyAll_notifies s code body
  rw [h]

@[simp] theorem notifyEvent_installing (s : State) (r : EventRec) : (notifyEvent s r).installing = s.installing := by
  obtain ⟨_, _, _, _, _, h⟩ := notifyEvent_notifies s r
  rw [h]

@[simp] theorem setDev_installing (s : State) (d : DevState) : (setDev s d).installing = s.installing := by
  obtain ⟨_, _, _, _, _, _, h⟩ := setDev_reports s d
  rw [h]

@[simp] theorem failLow_installing (s : State) : (failLow s).installing = s.installing := by
  unfold failLow
  split
  · rfl
  · exact emit_installing _ _

@[simp] theorem domOff_installing (s : State) (d : Nat) : (domOff s d).installing = s.installing := by
  have hlose : ∀ w : State, (loseDomain w d).installing = w.installing := fun w => by
    unfold loseDomain
    split
    · exact foldl_keeps (f := _) State.installing (by exact fun _ _ => rfl) (coresOf d) w
    · split
      · rfl
      · split
        · rfl
        · split <;> rfl
  unfold domOff
  split
  · rfl
  · exact hlose _

@[simp] theorem domsOffBut_installing (s : State) (keep : List Nat) : (domsOffBut s keep).installing = s.installing :=
  foldl_keeps _ State.installing domOff_installing _ s

@[simp] theorem hardFence_installing (s : State) (code : Nat) : (hardFence s code).installing = s.installing := by
  unfold hardFence
  simp only [notifyEvent_installing, notifyAll_installing]
  split <;> simp [State.withErr, logRec, holdFatal, takeSeq, countEvent, csrPutBits, csrPut, bump]

@[simp] theorem placeDevice_installing (s : State) (r : EventRec) : (placeDevice s r).installing = s.installing := by
  unfold placeDevice
  dsimp only
  split
  · exact hardFence_installing _ _
  · split
    · exact failLow_installing _
    · split
      · exact notifyEvent_installing _ _
      · rfl

@[simp] theorem placeStep_installing (s : State) (r : EventRec) : (placeStep s r).installing = s.installing := by
  unfold placeStep
  split
  · rfl
  · exact placeDevice_installing _ _

@[simp] theorem placeEvent_installing (s : State) (sev : Nat) (r : EventRec) :
    (placeEvent s sev r).installing = s.installing := by
  unfold placeEvent
  split
  · exact placeDevice_installing _ _
  · split
    · rfl
    · split
      · exact placeStep_installing _ _
      · split
        · rfl
        · split
          · exact placeStep_installing _ _
          · rfl

theorem raise_installing (s : State) (code sev cls srcKind src : Nat) (info : List Nat) :
    (raise s code sev cls srcKind src info).installing = s.installing := placeEvent_installing _ _ _

theorem mangleWrite_installing (s : State) (tag a : Nat) (bs : List Byte) :
    (mangleWrite s tag a bs).installing = s.installing := by
  unfold mangleWrite
  split
  · rfl
  · split
    · obtain ⟨⟨_, _, _, _, _, _, hwrote⟩, -⟩ := agentWrite_touches (goOn s ⟨.hops tag, 3⟩ a bs.length) a bs
      obtain ⟨⟨_, hgone⟩, -⟩ := goOn_spec s ⟨.hops tag, 3⟩ a bs.length
      rw [hwrote, hgone]
    · have hdrop : ∀ w : State, (dropMicroBatch w).installing = w.installing := fun w => by
        unfold dropMicroBatch
        split <;> rfl
      exact (hdrop _).trans (raise_installing _ _ _ _ _ _ _)

theorem lateDrop_installing (s : State) (k : Nat) : (lateDrop s k).installing = s.installing := by
  unfold lateDrop
  split <;> rfl

theorem emptyMangle_spec (s : State) : (emptyMangle s).installing = s.installing ∧ (emptyMangle s).mangle.insts = [] := by
  have hledgers : ∀ (w : State) tag step, (dropLedgers w tag step).installing = w.installing := fun w tag step => by
    unfold dropLedgers
    dsimp only
    rw [lateDrop_installing]
    refine foldl_keeps _ State.installing (fun y e => ?_) _ w
    split
    · exact mangleWrite_installing _ _ _ _
    · rfl
  have hclose : ∀ (w : State) i, (closeEarly w i).installing = w.installing := fun w i => by
    unfold closeEarly
    dsimp only
    split
    · rfl
    · split
      · rw [lateDrop_installing]
        split
        · rfl
        · exact hledgers _ _ _
      · rfl
  have hfold := foldl_keeps closeEarly State.installing hclose s.mangle.insts s
  have hdrop : ∀ (w : State) k, (lateDrop w k).mangle = w.mangle := fun w k => by
    unfold lateDrop
    split <;> rfl
  refine ⟨?_, ?_⟩
  · exact (lateDrop_installing _ _).trans hfold
  · unfold emptyMangle
    dsimp only
    rw [hdrop]
    rfl

/-! ### The stages of activation -/

theorem dismantle_spec (s : State) : (dismantle s).installing = s.installing ∧ (dismantle s).weave = none ∧
    (dismantle s).streams = [] ∧ (dismantle s).keyTab = [] ∧ (dismantle s).mangle.insts = [] := by
  obtain ⟨y, hy⟩ : ∃ y, y = (s.cores.map Prod.fst).foldl (fun s c => resetStations (haltCore s c) c) s := ⟨_, rfl⟩
  have hcleared : Clears s y := hy ▸ foldl_rel Clears.refl Clears.trans
    (fun w c => (clears_haltCore w c).trans (clears_resetStations _ c)) (s.cores.map Prod.fst) s
  obtain ⟨⟨_, _, _, _, _, hframe⟩, -⟩ := hcleared
  obtain ⟨hinstalling, hinsts⟩ := emptyMangle_spec y
  unfold dismantle
  dsimp only
  rw [← hy]
  refine ⟨?_, rfl, rfl, rfl, ?_⟩
  · exact hinstalling.trans (by rw [hframe])
  · exact hinsts

/-- Management gives every domain the state of the weave. -/
theorem setDoms_spec (w : Weave) (l : List Nat) (s : State) :
    (∃ power, l.foldl (fun s d => setMgmt (setDom s d { getDom s d with wait := false }) d (powerState w d)) s =
      { s with power := power }) ∧ ∀ d ∈ l,
      (getDom (l.foldl (fun s d => setMgmt (setDom s d { getDom s d with wait := false }) d (powerState w d)) s) d).mgmt =
        powerState w d := by
  refine ⟨?_, ?_⟩
  · refine foldl_rel (R := fun s u : State => ∃ power, u = { s with power := power }) (fun _ => ⟨_, rfl⟩)
      (fun {s u v} (hu : ∃ power, u = { s with power := power }) (hv : ∃ power, v = { u with power := power }) => ?_)
      (fun y d => ?_) l s
    · obtain ⟨_, rfl⟩ := hu
      obtain ⟨_, rfl⟩ := hv
      exact ⟨_, rfl⟩
    · obtain ⟨_, h⟩ := settleDom_eq_with (setDom (setDom y d { getDom y d with wait := false }) d
        { getDom (setDom y d { getDom y d with wait := false }) d with mgmt := powerState w d }) d
      exact ⟨_, h⟩
  · refine foldl_establishes (P := fun d u => (getDom u d).mgmt = powerState w d)
      (fun y d => by rw [getDom_setMgmt, if_pos rfl]) (fun y d e h => ?_) l s
    rw [getDom_setMgmt]
    split
    · next heq => rw [heq]
    · next hne => rw [getDom_setDom_other _ _ hne, h]

theorem dismantleDone_completes (hact : s.act = .dismantle) (hinstalling : s.installing = some w) :
    completes .dismantleDone s (fun u => u.act = .power ∧ u.weave = none ∧ u.streams = [] ∧ u.keyTab = [] ∧
      u.mangle.insts = [] ∧ u.installing = some w ∧ ∀ d, d < 58 → (getDom u d).mgmt = powerState w d) := by
  obtain ⟨hkept, hweave, hstreams, hkeys, hinsts⟩ := dismantle_spec s
  obtain ⟨y, hy⟩ : ∃ y : State, y = { dismantle s with act := .power } := ⟨_, rfl⟩
  obtain ⟨⟨_, hframe⟩, hdoms⟩ := setDoms_spec w (List.range 58) y
  refine ⟨_, ?_, ?_, ?_, ?_, ?_, ?_, ?_, fun d hd => hdoms d (List.mem_range.mpr hd)⟩
  · change Host.Outcome.next _ = _
    rw [hact, hinstalling, hy]
  · rw [hframe, hy]
  · rw [hframe, hy]
    exact hweave
  · rw [hframe, hy]
    exact hstreams
  · rw [hframe, hy]
    exact hkeys
  · rw [hframe, hy]
    exact hinsts
  · rw [hframe, hy]
    exact hkept.trans hinstalling

theorem tget_filter_of_kept {α : Type} (t : Tbl α) {k : Nat} {keep : Nat → Bool} (h : keep k = true) (d : α) :
    tget (t.filter (fun e => keep e.1)) k d = tget t k d := by
  induction t with
  | nil => rfl
  | cons e t ih =>
    by_cases hk : k = e.1
    · rw [List.filter_cons_of_pos (by rw [← hk]; exact h), tget, tget, tget?, if_pos hk, tget?, if_pos hk]
    · rw [tget, tget] at ih
      by_cases hkeep : keep e.1 = true
      · rw [List.filter_cons_of_pos (by exact hkeep), tget, tget, tget?, if_neg hk, tget?, if_neg hk, ih]
      · rw [List.filter_cons_of_neg (by exact hkeep), tget, tget, tget?, if_neg hk, ih]

/-- Zeroing is exact in any memory. -/
theorem memRead_zeroed (m : Memory) (lo hi i : Nat) :
    memRead (memZero m lo hi) i = if lo ≤ i ∧ i < hi then 0#8 else memRead m i := by
  unfold memRead memZero
  split
  · next hin =>
    exact tget_filter_of_dropped (keep := fun a => !(decide (lo ≤ a) && decide (a < hi))) m (by simp [hin]) _
  · next hout =>
    exact tget_filter_of_kept (keep := fun a => !(decide (lo ≤ a) && decide (a < hi))) m (by simp; omega) _

/-- The zeroing of on-chip memory: the scratch memories and the SRAM slices. -/
theorem memRead_zeroed_both (m : Memory) (i : Nat) :
    memRead (memZero (memZero m 0 0x500000000) 0x800000000 0x810000000) i =
      if i < 0x500000000 ∨ 0x800000000 ≤ i ∧ i < 0x810000000 then 0#8 else memRead m i := by
  rw [memRead_zeroed, memRead_zeroed]
  by_cases hsram : 0x800000000 ≤ i ∧ i < 0x810000000
  · rw [if_pos hsram, if_pos (.inr hsram)]
  · rw [if_neg hsram]
    by_cases hscratch : i < 0x500000000
    · rw [if_pos ⟨Nat.zero_le i, hscratch⟩, if_pos (.inl hscratch)]
    · rw [if_neg (fun h => hscratch h.2), if_neg (fun h => h.elim hscratch hsram)]

theorem activationClearDone_completes (hact : s.act = .clear) : completes .activationClearDone s
    (fun u => u.act = .install ∧
    ∀ i, memRead u.mem i = if i < 0x500000000 ∨ 0x800000000 ≤ i ∧ i < 0x810000000 then 0#8 else memRead s.mem i) := by
  exact ⟨_, congrArg Host.Outcome.next (if_neg (by rw [hact]; decide)), rfl, memRead_zeroed_both s.mem⟩

/-- What an installation leaves of the weave, its routes and the precision rules. -/
def KeepsWeave (s u : State) : Prop :=
  u.weave = s.weave ∧ u.routes = s.routes ∧ u.pru = s.pru ∧ u.installing = s.installing

namespace KeepsWeave

theorem refl (s : State) : KeepsWeave s s := ⟨rfl, rfl, rfl, rfl⟩

theorem trans (h : KeepsWeave s u) (h' : KeepsWeave u v) : KeepsWeave s v :=
  ⟨h'.1.trans h.1, h'.2.1.trans h.2.1, h'.2.2.1.trans h.2.2.1, h'.2.2.2.trans h.2.2.2⟩

end KeepsWeave

theorem memPut_keepsWeave (s : State) (a : Nat) (bs : List Byte) : KeepsWeave s (memPut s a bs) := by
  obtain ⟨⟨_, _, _, _, _, _, h⟩, -⟩ := memPut_touches s a bs
  rw [h]
  exact ⟨rfl, rfl, rfl, rfl⟩

theorem installCore_keepsWeave (s : State) (w : Weave) (c : Nat) : KeepsWeave s (installCore s w c) := by
  unfold installCore
  dsimp only
  split
  · split
    · exact ⟨rfl, rfl, rfl, rfl⟩
    · exact .refl s
  · exact (memPut_keepsWeave _ _ _).trans ⟨rfl, rfl, rfl, rfl⟩

theorem presetPair_keepsWeave (s : State) (p : Nat × Nat) : KeepsWeave s (presetPair s p) := by
  unfold presetPair
  split
  · unfold writeTagWord
    dsimp only
    split
    · unfold installTag
      dsimp only
      split
      · exact ⟨rfl, rfl, rfl, rfl⟩
      · unfold refuseTag
        obtain ⟨_, _, h⟩ := raise_note_eq_with (bump16 ((stageTag s ((p.1 - O.mangleTagW 0) / 4)
            (BitVec.ofNat 32 p.2)).withMangle
          (fun m => { m with staging := tdel m.staging (csrBits s O.mangleTagSel 11 0) })) O.mangleRefused) 0x3005 3 9
          (stagedTag (stageTag s ((p.1 - O.mangleTagW 0) / 4) (BitVec.ofNat 32 p.2)) (csrBits s O.mangleTagSel 11 0)).tag []
        rw [h]
        exact ⟨rfl, rfl, rfl, rfl⟩
    · exact ⟨rfl, rfl, rfl, rfl⟩
  · split
    · exact .refl s
    · exact ⟨rfl, rfl, rfl, rfl⟩

theorem installRules_spec (s : State) (w : Weave) : (installRules s w).weave = s.weave ∧ (installRules s w).routes =
    s.routes ∧
    (installRules s w).pru.active = w.rules ∧ (installRules s w).installing = s.installing := by
  unfold installRules
  dsimp only
  unfold installPru
  split
  · exact ⟨rfl, rfl, rfl, rfl⟩
  · exact ⟨rfl, rfl, rfl, rfl⟩

theorem installGroup_keepsWeave (s : State) (w : Weave) : KeepsWeave s (installGroup s w) := by
  unfold installGroup
  split
  · next t _ _ =>
    refine KeepsWeave.trans (u := { s with mend := { MendSt.reset with table := some t } }) ⟨rfl, rfl, rfl, rfl⟩ ?_
    refine foldl_rel KeepsWeave.refl KeepsWeave.trans (fun y k => ?_) (List.range 24) _
    split
    · unfold sendCtl
      dsimp only
      split
      · exact ⟨rfl, rfl, rfl, rfl⟩
      · obtain ⟨_, _, _, h⟩ := emit_eq_with y (.control k (ownLinkId y k) (getLink y k).ack)
        rw [emitCtl, h]
        exact ⟨rfl, rfl, rfl, rfl⟩
    · exact .refl y
  · exact .refl s

theorem install_spec (s : State) (w : Weave) : (install s w).weave = some w ∧ (install s w).routes = routeTable w ∧
    (install s w).pru.active = w.rules ∧ (install s w).installing = s.installing := by
  obtain ⟨y, hy⟩ : ∃ y, y = (w.regions.filter (fun r => decide (r.kind = 6))).foldl (fun s r => memPut s r.base r.init)
      ((List.range 256).foldl (fun s c => installCore s w c) { s with
        weave := some w
        routes := routeTable w
        streams := w.streams.zipIdx.map (fun e => (e.2, StreamSt.fresh e.1.depth)) }) := ⟨_, rfl⟩
  have hkept : KeepsWeave { s with
      weave := some w
      routes := routeTable w
      streams := w.streams.zipIdx.map (fun e => (e.2, StreamSt.fresh e.1.depth)) } y := hy ▸
    (foldl_rel KeepsWeave.refl KeepsWeave.trans (fun y c => installCore_keepsWeave y w c) (List.range 256) _).trans
      (foldl_rel KeepsWeave.refl KeepsWeave.trans (fun y (r : Region) => memPut_keepsWeave y r.base r.init) _ _)
  obtain ⟨hweave, hroutes, -, hinstalling⟩ := hkept
  obtain ⟨hweave', hroutes', hactive, hinstalling'⟩ := installRules_spec y w
  have hlast : KeepsWeave (installRules y w) (install s w) := by
    unfold install
    dsimp only
    rw [← hy]
    refine (foldl_rel KeepsWeave.refl KeepsWeave.trans presetPair_keepsWeave w.preset _).trans ?_
    exact KeepsWeave.trans (u := resetScales (applyPreset (installRules y w) w.preset)) ⟨rfl, rfl, rfl, rfl⟩
      (installGroup_keepsWeave _ w)
  exact ⟨hlast.1.trans (hweave'.trans hweave), hlast.2.1.trans (hroutes'.trans hroutes), by rw [hlast.2.2.1, hactive],
    hlast.2.2.2.trans (hinstalling'.trans hinstalling)⟩

theorem activationInstallDone_completes (hact : s.act = .install) (hinstalling : s.installing = some w) :
    completes .activationInstallDone s (fun u => u.act = .publish ∧ u.weave = some w ∧ u.routes = routeTable w ∧
      u.pru.active = w.rules ∧ u.installing = some w) := by
  obtain ⟨hweave, hroutes, hactive, hkept⟩ := install_spec s w
  refine ⟨{ install s w with act := .publish }, ?_, rfl, hweave, hroutes, hactive, hkept.trans hinstalling⟩
  change Host.Outcome.next _ = _
  rw [hact, hinstalling]

/-! ### Publication -/

/-- What the last stage of activation leaves once it has published: everything it published. -/
structure Publishes (s u : State) : Prop where
  act : u.act = s.act
  installing : u.installing = s.installing
  dev : u.dev = s.dev
  step : u.step = s.step
  score : u.score = s.score
  csr : ∀ o, o < 0x90000 → csrGet u o = csrGet s o

namespace Publishes

theorem refl (s : State) : Publishes s s := ⟨rfl, rfl, rfl, rfl, rfl, fun _ _ => rfl⟩

theorem trans (h : Publishes s u) (h' : Publishes u v) : Publishes s v :=
  ⟨h'.act.trans h.act, h'.installing.trans h.installing, h'.dev.trans h.dev, h'.step.trans h.step, h'.score.trans h.score,
    fun o ho => (h'.csr o ho).trans (h.csr o ho)⟩

theorem of_notifies (h : Notifies s u) (hcsr : ∀ o, o < 0x90000 → csrGet u o = csrGet s o) : Publishes s u := by
  obtain ⟨_, _, _, _, _, rfl⟩ := h
  exact ⟨rfl, rfl, rfl, rfl, rfl, hcsr⟩

end Publishes

theorem publishes_setDev (s : State) (d : DevState) : Publishes { s with dev := d } (setDev s d) := by
  unfold setDev
  split
  · next h => exact h ▸ Publishes.refl s
  · exact .of_notifies (notifyAll_notifies _ _ _) fun o ho => csrGet_notifyAll _ _ _ ho

theorem publishes_startCore (s : State) (c : Nat) : Publishes s (startCore s c) := by
  refine foldl_rel Publishes.refl Publishes.trans (fun y t => ?_) (List.range 8) s
  have hlow := startThread_keepsLow y c t
  obtain ⟨⟨_, _, _, _, h⟩, -⟩ := startThread_frame y c t
  exact ⟨by rw [h], by rw [h], by rw [h], by rw [h], by rw [h], fun o ho => hlow o (by omega)⟩

theorem publishes_setMgmt (s : State) (d : Nat) (p : PState) : Publishes s (setMgmt s d p) := by
  obtain ⟨_, h⟩ := settleDom_eq_with (setDom s d { getDom s d with mgmt := p }) d
  rw [setMgmt, h]
  exact ⟨rfl, rfl, rfl, rfl, rfl, fun _ _ => rfl⟩

theorem publishes_endBg (s : State) (op st detail : Nat) : Publishes s (endBg s op st detail) := by
  unfold endBg
  split
  · exact .refl s
  · exact Publishes.trans (u := dropRunning s _) ⟨rfl, rfl, rfl, rfl, rfl, fun _ _ => rfl⟩
      (.of_notifies (notifyAll_notifies _ _ _) fun o ho => csrGet_notifyAll _ _ _ ho)

theorem activationPublish_completes (hact : s.act = .publish) (hinstalling : s.installing = some w) :
    completes .activationPublish s (fun u => u.act = .none ∧ u.installing = none ∧
      u.dev = (if w.spare then .standby else .running) ∧ u.step = 0 ∧ csrGet u O.globalPartMap = w.classMap % 2 ^ 32 ∧
      csrGet u O.globalClusterUsed = w.usedMap % 2 ^ 32 ∧
      csrGet u O.globalWeaveSeq = (csrGet s O.globalWeaveSeq + 1) % 2 ^ 32 ∧ u.score.lanes = w.lanes.map Lane.fresh) := by
  obtain ⟨y, hy⟩ : ∃ y, y = csrPut (csrPut (csrPut s O.globalPartMap w.classMap) O.globalClusterUsed w.usedMap)
      O.globalWeaveSeq ((csrGet s O.globalWeaveSeq + 1) % 2 ^ 32) := ⟨_, rfl⟩
  have hcsr : csrGet y O.globalPartMap = w.classMap % 2 ^ 32 ∧ csrGet y O.globalClusterUsed = w.usedMap % 2 ^ 32 ∧
      csrGet y O.globalWeaveSeq = (csrGet s O.globalWeaveSeq + 1) % 2 ^ 32 := by
    rw [hy]
    refine ⟨?_, ?_, ?_⟩
    · rw [csrGet_csrPut_other _ _ (by decide), csrGet_csrPut_other _ _ (by decide), csrGet_csrPut_same]
    · rw [csrGet_csrPut_other _ _ (by decide), csrGet_csrPut_same]
    · rw [csrGet_csrPut_same, Nat.mod_mod]
  obtain ⟨z, hz⟩ : ∃ z : State, z = { y with
      act := .none, installing := none, before := none, step := 0, inStep := !w.spare && w.trains
      score := { ScoreSt.reset with lanes := w.lanes.map Lane.fresh } } := ⟨_, rfl⟩
  obtain ⟨a, ha⟩ : ∃ a, a = (w.progs.map (·.core)).foldl startCore (setDev z (if w.spare then .standby else .running)) :=
    ⟨_, rfl⟩
  obtain ⟨b, hb⟩ : ∃ b, b = (if w.spare then
      ((List.range 32).filter (fun d => (getDom a d).mgmt = .on)).foldl (fun s d => setMgmt s d .retention) a else a) :=
          ⟨_, rfl⟩
  have hstarted : Publishes { z with dev := if w.spare then .standby else .running } a := ha ▸
    (publishes_setDev z _).trans (foldl_rel Publishes.refl Publishes.trans publishes_startCore _ _)
  have hpowered : Publishes a b := by
    rw [hb]
    split
    · exact foldl_rel Publishes.refl Publishes.trans (fun y d => publishes_setMgmt y d .retention) _ a
    · exact .refl a
  obtain ⟨hdone, hnone, hdev, hstep, hscore, hkept⟩ := hstarted.trans (hpowered.trans (publishes_endBg b 0x0204 stOk 0))
  have hshown : ∀ o, o < 0x90000 → csrGet (endBg b 0x0204 stOk 0) o = csrGet y o := fun o ho =>
    (hkept o ho).trans (by rw [hz]; rfl)
  refine ⟨endBg b 0x0204 stOk 0, ?_, by rw [hdone, hz], by rw [hnone, hz], hdev, by rw [hstep, hz],
    (hshown _ (by decide)).trans hcsr.1, (hshown _ (by decide)).trans hcsr.2.1, (hshown _ (by decide)).trans hcsr.2.2,
    by rw [hscore, hz]⟩
  change Host.Outcome.next _ = _
  rw [hact, hinstalling]
  dsimp only
  rw [← hy, ← hz, ← ha, ← hb]

/-- Settles O49: staging and its check, then activation stage by stage. -/
theorem weavesActivate : Obligations.WeavesActivate := by
  intro s q n len off bs w x
  refine ⟨fun hstates => ⟨weaveBegin_completes hstates, weaveData_waits hstates, weaveData_completes hstates,
      weaveCommit_completes hstates⟩, weaveCommitDone_denied, fun hrunning hown hready hgo hupsets hbad => ⟨?_, ?_⟩,
    weaveDiscard_completes, weaveActivate_completes, weaveActivate_busy,
    fun hact => ⟨activationEntryDone_completes hact, fun hidle hquiesced => ⟨s, ?_, rfl⟩⟩, fun hact hempty => ⟨_, ?_, rfl⟩,
    dismantleDone_completes, fun hact hsettled => ⟨_, ?_, rfl⟩, activationClearDone_completes,
    activationInstallDone_completes, activationPublish_completes⟩
  · intro sig i hpass hlen
    obtain ⟨⟨_, hgone⟩, -⟩ := goOn_spec s ⟨.background 0x203, 4⟩ weaveArea
        (min (memNum s.mem (weaveArea + 0x10) 8) (2 ^ 28))
    obtain ⟨y, hy⟩ : ∃ y, y = (goOn s ⟨.background 0x203, 4⟩ weaveArea (min (memNum s.mem (weaveArea + 0x10) 8)
      (2 ^ 28))).withWcp (fun c => { c with weave := none }) := ⟨_, rfl⟩
    have hkept : y.mem = s.mem ∧ y.wcp.running = s.wcp.running ∧ y.weave = s.weave := by
      rw [hy, hgone]
      exact ⟨rfl, rfl, rfl⟩
    obtain ⟨hmem, hrun, hweave⟩ := hkept
    obtain ⟨hstaged, hended, hsame, hleft⟩ := checkWeave_passes (s := y) (base := weaveArea) (len := x.b) (sig := sig)
        (x := x)
      (by rw [hmem, hy]; exact hpass) (by rw [hmem]; exact hlen) (by rw [runningBg, hrun]; exact hrunning)
    refine ⟨_, exec_weaveCommitDone rfl hrunning hown hready hgo hupsets hbad sig, ?_⟩
    rw [← hy]
    exact ⟨by rw [hstaged, hmem], by rw [hended, hrun], hsame.trans hweave, hleft.trans hmem⟩
  · intro sig i hrefused
    obtain ⟨⟨_, hgone⟩, -⟩ := goOn_spec s ⟨.background 0x203, 4⟩ weaveArea
        (min (memNum s.mem (weaveArea + 0x10) 8) (2 ^ 28))
    obtain ⟨y, hy⟩ : ∃ y, y = (goOn s ⟨.background 0x203, 4⟩ weaveArea (min (memNum s.mem (weaveArea + 0x10) 8)
      (2 ^ 28))).withWcp (fun c => { c with weave := none }) := ⟨_, rfl⟩
    have hkept : y.mem = s.mem ∧ y.wcp.running = s.wcp.running ∧ y.staged = s.staged ∧ y.err = s.err := by
      rw [hy, hgone]
      exact ⟨rfl, rfl, rfl, rfl⟩
    obtain ⟨hmem, hrun, hstill, herr⟩ := hkept
    obtain ⟨hstaged, hended, hleft, hqueued⟩ := checkWeave_refuses (s := y) (base := weaveArea) (len := x.b) (sig := sig)
        (x := x)
      (by rw [hmem, hy]; exact hrefused) (by rw [runningBg, hrun]; exact hrunning)
    refine ⟨_, exec_weaveCommitDone rfl hrunning hown hready hgo hupsets hbad sig, ?_⟩
    rw [← hy]
    exact ⟨hstaged.trans hstill, by rw [hended, hrun], hleft.trans hmem, fun hroom => hqueued
        (by rw [hasRoom, herr]; exact hroom)⟩
  · exact congrArg Host.Outcome.next (if_neg (by simp [inStates, hidle, hquiesced]))
  · exact congrArg Host.Outcome.next (if_pos ⟨hact, List.all_eq_true.mpr fun l hl => by rw [hempty l hl]; rfl⟩)
  · exact congrArg Host.Outcome.next (if_pos ⟨hact, List.all_eq_true.mpr fun d hd => hsettled d (List.mem_range.mp hd)⟩)

end Sys2Proof.Machine
end

section
/-! O48. Images, key lists, attestation and unlock. -/

open Sys2Proof
namespace Sys2Proof.Machine

variable {s u v : State} {q : WcpReq} {n : Request} {x : ImgStage} {y : Running}

/-! ### The staging of an image -/

theorem img_begun {op : Nat} {img : Bool} (h : upNext s q op img n) : (begun s q op n).wcp.img = s.wcp.img ∧
    (begun s q op n).hbm = s.hbm ∧ (begun s q op n).sec = s.sec ∧ (begun s q op n).wcp.running = s.wcp.running := by
  obtain ⟨_, _, _, _, _, _, _, _, _, _, hb⟩ := begun_of_upNext h
  rw [hb]
  exact ⟨rfl, rfl, rfl, rfl⟩

theorem imgBegin_row {type len : Nat} (hdev : s.dev = .idle) (h : upNext s q 0x101 (decide (type = 0x10)) n) :
    exec (.imgBegin q type len) s = .next (if !stageable type then respond (begun s q 0x101 n) n stMalformed
      else if 2 ^ 28 < len then respond (begun s q 0x101 n) n stRange
      else respond ((begun s q 0x101 n).withWcp (fun w => { w with img := some ⟨type, len, []⟩ })) n stOk) := by
  obtain ⟨_, _, ht⟩ := taken_of_upNext h
  exact congrArg Host.Outcome.next (wcpRow_of_upNext h (by rw [ht]; simp [inStates, hdev]) rfl)

theorem imgBegin_completes {type len : Nat} (hdev : s.dev = .idle) (h : upNext s q 0x101 (decide (type = 0x10)) n)
    (hstageable : stageable type = true) (hlen : len ≤ 2 ^ 28) : completes (.imgBegin q type len) s (fun u =>
      u.wcp.img = some ⟨type, len, []⟩ ∧ answered (begun s q 0x101 n) u n stOk 0 [] ∧ u.mem = (begun s q 0x101 n).mem) := by
  obtain ⟨w, hw⟩ : ∃ w, w = (begun s q 0x101 n).withWcp (fun w => { w with img := some ⟨type, len, []⟩ }) := ⟨_, rfl⟩
  obtain ⟨_, _, _, hu⟩ := respond_eq_with w n stOk 0 []
  refine ⟨respond w n stOk, ?_, by rw [hu, hw]; rfl, answered_of_sessions (by rw [hw]; rfl)
      (answered_respond w n stOk 0 []),
    by rw [hu, hw]; rfl⟩
  rw [imgBegin_row hdev h, hstageable, if_neg (by decide), if_neg (by omega), hw]

theorem imgBegin_malformed {type len : Nat} (hdev : s.dev = .idle) (h : upNext s q 0x101 (decide (type = 0x10)) n)
    (hstageable : stageable type = false) : completes (.imgBegin q type len) s (fun u =>
      u = respond (begun s q 0x101 n) n stMalformed) := by
  refine ⟨_, imgBegin_row hdev h, ?_⟩
  rw [hstageable, if_pos (by decide)]

section
variable {off : Nat} {bs : List Byte}

theorem imgData_row (hdev : s.dev = .idle) (h : upNext s q 0x102 (decide (stagedType s = 0x10)) n)
    (himg : s.wcp.img = some x)
    (hgo : ¬((getStack s 7).ready = true ∧ mayGo s (cmdReq q) (imageArea + off) bs.length = false)) :
    exec (.imgData q off bs) s = .next (if x.len < off + bs.length then respond (begun s q 0x102 n) n stRange
      else respond ((if (getStack s 7).ready then agentWrite (goOn (begun s q 0x102 n) (cmdReq q) (imageArea + off)
          bs.length)
        (imageArea + off) bs else begun s q 0x102 n).withWcp (fun w => { w with
          img := some { x with bytes := memWrites x.bytes off bs } })) n stOk) := by
  obtain ⟨_, _, ht⟩ := taken_of_upNext h
  obtain ⟨hkept, hhbm, -, -⟩ := img_begun h
  have hstack : getStack (begun s q 0x102 n) 7 = getStack s 7 := by rw [getStack, hhbm, getStack]
  have hnohold : ((getStack s 7).ready && !mayGo s (cmdReq q) (imageArea + off) bs.length) = false := by
    rw [Bool.eq_false_iff]
    intro hholds
    simp only [Bool.and_eq_true, Bool.not_eq_true'] at hholds
    exact hgo hholds
  refine congrArg Host.Outcome.next ((if_neg (by simp [hnohold])).trans ((wcpRow_of_upNext h ?_ rfl).trans ?_))
  · rw [ht]
    simp [inStates, hdev, himg]
  · rw [hkept, himg]
    dsimp only
    rw [hstack]

theorem imgData_completes (hdev : s.dev = .idle) (h : upNext s q 0x102 (decide (stagedType s = 0x10)) n)
    (himg : s.wcp.img = some x)
    (hgo : ¬((getStack s 7).ready = true ∧ mayGo s (cmdReq q) (imageArea + off) bs.length = false))
    (hfits : off + bs.length ≤ x.len) : completes (.imgData q off bs) s (fun u =>
      u.wcp.img = some { x with bytes := memWrites x.bytes off bs } ∧ answered (begun s q 0x102 n) u n stOk 0 [] ∧
      (memWf s.mem = true → ∀ i, memRead u.mem i =
        if (getStack s 7).ready = true ∧ imageArea + off ≤ i ∧ i < imageArea + off + bs.length then
          bs.getD (i - (imageArea + off)) 0#8 else memRead (begun s q 0x102 n).mem i)) := by
  obtain ⟨b, hb⟩ : ∃ b, b = begun s q 0x102 n := ⟨_, rfl⟩
  obtain ⟨a, ha⟩ : ∃ a, a = imageArea + off := ⟨_, rfl⟩
  obtain ⟨w, hw⟩ : ∃ w, w = (if (getStack s 7).ready then agentWrite (goOn b (cmdReq q) a bs.length) a bs else b) :=
    ⟨_, rfl⟩
  have hkept : w.wcp = b.wcp ∧ (memWf s.mem = true → ∀ i, memRead w.mem i =
      if (getStack s 7).ready = true ∧ a ≤ i ∧ i < a + bs.length then bs.getD (i - a) 0#8 else memRead b.mem i) := by
    rw [hw]
    split
    · next hready =>
      obtain ⟨⟨_, hgone⟩, -⟩ := goOn_spec b (cmdReq q) a bs.length
      obtain ⟨⟨_, _, _, _, _, _, hwrote⟩, -⟩ := agentWrite_touches (goOn b (cmdReq q) a bs.length) a bs
      rw [hgone] at hwrote
      rw [hgone, hwrote]
      refine ⟨rfl, fun hwf i => ?_⟩
      refine (memRead_memWrites b.mem a i bs (by rw [hb]; exact memWf_begun h hwf)).trans ?_
      simp only [hready, true_and]
    · next hready => exact ⟨rfl, fun _ i => by rw [if_neg (fun h => hready h.1)]⟩
  obtain ⟨hwcp, hread⟩ := hkept
  obtain ⟨z, hz⟩ : ∃ z, z = w.withWcp (fun c => { c with img := some { x with bytes := memWrites x.bytes off bs } }) :=
      ⟨_, rfl⟩
  obtain ⟨_, _, _, hu⟩ := respond_eq_with z n stOk 0 []
  refine ⟨respond z n stOk, ?_, by rw [hu, hz]; rfl, answered_of_sessions ?_ (answered_respond z n stOk 0 []), ?_⟩
  · rw [imgData_row hdev h himg hgo, if_neg (by omega), hz, hw, hb, ha]
  · rw [hz, ← hb, ← hwcp]
    rfl
  · rw [← ha, ← hb, hu, hz]
    exact hread

theorem imgData_range (hdev : s.dev = .idle) (h : upNext s q 0x102 (decide (stagedType s = 0x10)) n)
    (himg : s.wcp.img = some x)
    (hgo : ¬((getStack s 7).ready = true ∧ mayGo s (cmdReq q) (imageArea + off) bs.length = false))
    (hlong : x.len < off + bs.length) : completes (.imgData q off bs) s (fun u => u = respond (begun s q 0x102 n) n stRange)
        := by
  refine ⟨_, imgData_row hdev h himg hgo, ?_⟩
  rw [if_pos hlong]

theorem imgData_waits (hdev : s.dev = .idle)
    (hwaits : (getStack s 7).ready = true ∧ mayGo s (cmdReq q) (imageArea + off) bs.length = false)
    (himg : s.wcp.img = some x) (hthermal : s.power.thermalOff = false) : completes (.imgData q off bs) s (fun u =>
      u = waitFor (received s q 0x102) (cmdReq q) (imageArea + off) bs.length) := by
  refine ⟨_, congrArg Host.Outcome.next (if_pos ?_), rfl⟩
  simp [hwaits, inStates, hdev, himg, hthermal]

end

theorem imgType_congr (hmem : u.mem = s.mem) (himg : u.wcp.img = s.wcp.img) (src : Nat) : imgType u src = imgType s src :=
    by
  unfold imgType stagedType imgNum imgMem
  rw [hmem, himg]

theorem imgCommit_completes {src flags : Nat} (h : upNext s q 0x103 (decide (imgType s src = 0x10)) n)
    (hstate : commitState src s = true) (himg : src = 0 → s.wcp.img = some x) (hidle : runningBg s 0x103 = none)
    (hflags : flags < 2) (hmay : src ≠ 0 → class2May (begun s q 0x103 n) false src 0x940 = true) :
    completes (.imgCommit q src flags) s (fun u =>
      u.wcp.running = s.wcp.running ++ [⟨n, src, flags, imgType (begun s q 0x103 n) src⟩] ∧
      answered (begun s q 0x103 n) u n stInProgress 0 []) := by
  obtain ⟨_, _, ht⟩ := taken_of_upNext h
  obtain ⟨-, -, -, hrunning⟩ := img_begun h
  obtain ⟨hanswered, hjoined, -⟩ := startBg_completes (begun s q 0x103 n) n src flags (imgType (begun s q 0x103 n) src)
  refine ⟨_, ?_, by rw [hjoined, hrunning], hanswered⟩
  refine congrArg Host.Outcome.next ((wcpRow_of_upNext h ?_ ?_).trans ?_)
  · have hcommit : commitState src (taken s q 0x103 n) = true := by
      rw [commitState, imgType_congr (s := s) (by rw [ht]) (by rw [ht]), ht]
      exact hstate
    rw [hcommit, Bool.true_and, ht]
    by_cases hsrc : src = 0
    · simp [himg hsrc]
    · simp [hsrc]
  · simp [busyWith, runningBg_taken h, hidle]
  · rw [if_neg (by omega), if_neg (fun hdenied => by rw [hmay hdenied.1] at hdenied; exact absurd hdenied.2 (by decide))]

/-! ### The end of a commit -/

/-- The end of a commit takes it from what runs; the rest of the device stays, but for what is sent. -/
theorem endCommit_spec {op st detail : Nat} (hrunning : runningBg s op = some y) :
    (endBg s op st detail).sec = s.sec ∧ (endBg s op st detail).mem = s.mem ∧ (endBg s op st detail).err = s.err ∧
    (endBg s op st detail).wcp.running = s.wcp.running.erase y ∧
    ∀ o, o < 0x90000 → csrGet (endBg s op st detail) o = csrGet s o := by
  have hended : endBg s op st detail = completion (dropRunning s y) y.req st detail := by
    unfold endBg
    rw [hrunning]
  have hcsr := fun o (ho : o < 0x90000) => csrGet_notifyAll (dropRunning s y) 0x0A01
    (leBytes 2 y.req.opcode ++ leBytes 2 st ++ leBytes 4 detail ++ leBytes 8 y.req.seq) ho
  obtain ⟨_, _, _, _, _, hnotes⟩ := notifyAll_notifies (dropRunning s y) 0x0A01
    (leBytes 2 y.req.opcode ++ leBytes 2 st ++ leBytes 4 detail ++ leBytes 8 y.req.seq)
  rw [hended]
  refine ⟨?_, ?_, ?_, ?_, hcsr⟩
  · rw [completion, hnotes]; rfl
  · rw [completion, hnotes]; rfl
  · rw [completion, hnotes]; rfl
  · rw [completion, hnotes]; rfl

/-- What the refusal of an image leaves, from the state `s` in which its commit ended. -/
def Refused (y : Running) (s u : State) (code : Nat) : Prop :=
  u.sec = s.sec ∧ u.mem = s.mem ∧ u.wcp.running = s.wcp.running.erase y ∧ (hasRoom s 0 → queued u 0 code) ∧
    csrGet u O.secCntRefused = min (csrGet s O.secCntRefused + 1) 0xFFFFFFFF

theorem refuseImg_spec (hrunning : runningBg s 0x103 = some y) {code : Nat} (hcode : code < 0x10000) (status detail : Nat) :
    Refused y s (refuseImg s code status detail) code ∧
    (status = stAuth → csrGet (refuseImg s code status detail) O.secCntAuthFail =
      min (csrGet s O.secCntAuthFail + 1) 0xFFFFFFFF) := by
  obtain ⟨_, _, hraise⟩ := raise_note_eq_with s code 3 0 0 []
  have hqueued := fun hroom => queued_raise_note s code 3 0 0 [] (.inl hroom)
  have hcsr := fun o ho => csrGet_raise_note s (o := o) 3 0 0 [] hcode ho
  obtain ⟨r, hr⟩ : ∃ r, r = raise s code 0 3 0 0 [] := ⟨_, rfl⟩
  rw [← hr] at hraise hqueued hcsr
  obtain ⟨w, hw⟩ : ∃ w, w = (if status = stAuth then bump (bump r O.secCntRefused) O.secCntAuthFail
    else bump r O.secCntRefused) := ⟨_, rfl⟩
  have hrefuse : refuseImg s code status detail = endBg w 0x103 status detail := by rw [refuseImg, ← hr, hw]
  have hkept : w.sec = s.sec ∧ w.mem = s.mem ∧ w.err = r.err ∧ w.wcp = s.wcp := by
    rw [hw]
    split
    · rw [hraise]; exact ⟨rfl, rfl, rfl, rfl⟩
    · rw [hraise]; exact ⟨rfl, rfl, rfl, rfl⟩
  have hcount : csrGet w O.secCntRefused = min (csrGet s O.secCntRefused + 1) 0xFFFFFFFF := by
    rw [← hcsr _ (.inr (by decide)), hw]
    split
    · rw [csrGet_bump_other _ _ (by decide), csrGet_bump_same]
    · rw [csrGet_bump_same]
  obtain ⟨hsec, hmem, herr, hwcp⟩ := hkept
  obtain ⟨hsec', hmem', herr', hended, hlow⟩ := endCommit_spec (s := w) (op := 0x103) (st := status) (detail := detail)
      (y := y)
    (by rw [runningBg, hwcp]; exact hrunning)
  rw [hrefuse]
  refine ⟨⟨hsec'.trans hsec, hmem'.trans hmem, by rw [hended, hwcp],
    fun hroom => (queued_congr (herr'.trans herr) _ _).mpr (hqueued hroom), (hlow _ (by decide)).trans hcount⟩, fun hauth =>
        ?_⟩
  rw [hlow _ (by decide), hw, if_pos hauth, csrGet_bump_same, csrGet_bump_other _ _ (by decide), hcsr _ (.inr (by decide))]

/-! ### A key list -/

/-- A key list signed by the owner is taken, and ends the commit. -/
theorem commitKeys_loads {src : Nat} (hrunning : runningBg s 0x103 = some y) (hdev : s.dev = .idle)
    (hwhole : keyListBroken s src = false) (howner : s.sec.owner = none ∨ s.sec.owner = some (ownerDigest s src))
    (hcounter : tget s.sec.counters 4 0 ≤ imgNum s src 4 4) (hseq : s.sec.keySeq < imgNum s src 4 4) :
    (commitKeys s src true).sec = { s.sec with
      keys := readKeys s src, keySeq := imgNum s src 4 4, hasKeys := true, owner := some (ownerDigest s src)
      counters := tset s.sec.counters 4 (max (tget s.sec.counters 4 0) (min (imgNum s src 4 4) 64)) } ∧
    (commitKeys s src true).wcp.running = s.wcp.running.erase y ∧ (commitKeys s src true).mem = s.mem := by
  obtain ⟨w, hw⟩ : ∃ w, w = s.withSec (fun c => { c with
      keys := readKeys s src, keySeq := imgNum s src 4 4, hasKeys := true, owner := some (ownerDigest s src)
      counters := tset c.counters 4 (max (tget c.counters 4 0) (min (imgNum s src 4 4) 64)) }) := ⟨_, rfl⟩
  have hcommit : commitKeys s src true = endBg w 0x103 stOk 0 := by
    unfold commitKeys
    dsimp only
    rw [if_neg (by rw [hdev]; simp), if_neg (by rw [hwhole]; decide)]
    rcases howner with hnone | hsame
    · rw [hnone, if_neg (by simp), if_neg (by omega), hw]
    · rw [hsame, if_neg (by simp), if_neg (by omega), hw]
  obtain ⟨hsec, hmem, -, hended, -⟩ := endCommit_spec (s := w) (op := 0x103) (st := stOk) (detail := 0) (y := y)
    (by rw [hw]; exact hrunning)
  rw [hcommit]
  exact ⟨by rw [hsec, hw]; rfl, by rw [hended, hw]; rfl, by rw [hmem, hw]; rfl⟩

theorem commitKeys_broken {src : Nat} {sig : Bool} (hrunning : runningBg s 0x103 = some y) (hdev : s.dev = .idle)
    (hbroken : keyListBroken s src = true) : Refused y s (commitKeys s src sig) 0x8010 := by
  have hcommit : commitKeys s src sig = refuseImg s 0x8010 stRefused 3 := by
    unfold commitKeys
    dsimp only
    rw [if_neg (by rw [hdev]; simp), if_pos hbroken]
  rw [hcommit]
  exact (refuseImg_spec hrunning (by decide) _ _).1

theorem commitKeys_old {src : Nat} (hrunning : runningBg s 0x103 = some y) (hdev : s.dev = .idle)
    (hwhole : keyListBroken s src = false) (howner : s.sec.owner = none ∨ s.sec.owner = some (ownerDigest s src))
    (hold : imgNum s src 4 4 ≤ s.sec.keySeq) : Refused y s (commitKeys s src true) 0x8012 := by
  have hcommit : commitKeys s src true = refuseImg s 0x8012 stRefused 5 := by
    unfold commitKeys
    dsimp only
    rw [if_neg (by rw [hdev]; simp), if_neg (by rw [hwhole]; decide)]
    rcases howner with hnone | hsame
    · rw [hnone, if_neg (by simp), if_pos (.inr hold)]
    · rw [hsame, if_neg (by simp), if_pos (.inr hold)]
  rw [hcommit]
  exact (refuseImg_spec hrunning (by decide) _ _).1

/-! ### The restart of what an image serves -/

/-- A relation that every step over the members of a list keeps holds over the list. -/
theorem foldl_rel_of_mem {σ α : Type} {R : σ → σ → Prop} (hrefl : ∀ s, R s s) (htrans : ∀ {s u v}, R s u → R u v → R s v)
    {f : σ → α → σ} {l : List α} (h : ∀ s, ∀ a ∈ l, R s (f s a)) (s : σ) : R s (l.foldl f s) := by
  induction l generalizing s with
  | nil => exact hrefl s
  | cons b l ih => exact htrans (h s b List.mem_cons_self) (ih (fun s a ha => h s a (List.mem_cons_of_mem b ha)) (f s b))

/-- What restarting the domains of an image leaves: keys, images and commands, and memory when `m` holds. -/
def Restarts (m : Prop) (s u : State) : Prop := u.sec = s.sec ∧ u.wcp = s.wcp ∧ (m → u.mem = s.mem)

namespace Restarts
variable {m : Prop}

theorem refl (s : State) : Restarts m s s := ⟨rfl, rfl, fun _ => rfl⟩

theorem trans (h : Restarts m s u) (h' : Restarts m u v) : Restarts m s v :=
  ⟨h'.1.trans h.1, h'.2.1.trans h.2.1, fun hm => (h'.2.2 hm).trans (h.2.2 hm)⟩

end Restarts

theorem restarts_startTraining {m : Prop} (s : State) (k : Nat) : Restarts m s (startTraining s k) := by
  obtain ⟨_, _, h⟩ := startTraining_eq_with s k
  rw [h]
  exact ⟨rfl, rfl, fun _ => rfl⟩

theorem restarts_darkLinks {m : Prop} (s : State) (d : Nat) : Restarts m s (darkLinks s d) := by
  unfold darkLinks
  split
  · refine foldl_rel Restarts.refl Restarts.trans (fun w k => ?_) _ s
    split
    · obtain ⟨_, _, _, _, _, _, _, _, h⟩ := (takenDown_takeDown w k true).frame
      rw [h]
      exact ⟨rfl, rfl, fun _ => rfl⟩
    · split
      · exact restarts_startTraining w k
      · exact .refl w
  · exact .refl s

theorem restarts_retrainLinks {m : Prop} (s : State) (d : Nat) : Restarts m s (retrainLinks s d) := by
  unfold retrainLinks
  split
  · refine foldl_rel Restarts.refl Restarts.trans (fun w k => ?_) _ s
    split
    · exact restarts_startTraining w k
    · exact .refl w
  · exact .refl s

theorem restarts_domOff (s : State) (d : Nat) : Restarts (44 ≤ d ∧ d < 52) s (domOff s d) := by
  have hlose : ∀ w : State, Restarts (44 ≤ d ∧ d < 52) w (loseDomain w d) := fun w => by
    unfold loseDomain
    split
    · have hcores := foldl_keeps (fun (s : State) c => { s with
          cores := tdel s.cores c
          csr := s.csr.filter (fun e => !(decide (0x100000 + c * 0x1000 ≤ e.1) && decide (e.1 < 0x101000 + c * 0x1000))) })
        (fun s => (s.sec, s.wcp)) (fun _ _ => rfl) (coresOf d) w
      obtain ⟨hsec, hwcp⟩ := Prod.mk.inj hcores
      exact ⟨hsec, hwcp, fun hm => by omega⟩
    · split
      · exact ⟨rfl, rfl, fun hm => by omega⟩
      · split
        · exact ⟨rfl, rfl, fun _ => rfl⟩
        · split
          · exact ⟨rfl, rfl, fun _ => rfl⟩
          · exact .refl w
  unfold domOff
  split
  · exact .refl s
  · obtain ⟨hsec, hwcp, hmem⟩ := hlose (setDom s d { getDom s d with mgmt := .off, st := .off, wait := false
                                                                     fromOff := false, entering := none, queued := false })
    exact ⟨hsec, hwcp, hmem⟩

theorem restarts_setMgmt {m : Prop} (s : State) (d : Nat) (p : PState) : Restarts m s (setMgmt s d p) := by
  obtain ⟨_, h⟩ := settleDom_eq_with (setDom s d { getDom s d with mgmt := p }) d
  rw [setMgmt, h]
  exact ⟨rfl, rfl, fun _ => rfl⟩

theorem restarts_restartDoms (s : State) (type : Nat) (again : Bool) : Restarts (type ≠ 3) s (restartDoms s type again) :=
    by
  have hdoms : ∀ d ∈ servedDoms type, type ≠ 3 → 44 ≤ d ∧ d < 52 := by
    intro d hd hne
    unfold servedDoms at hd
    rw [if_neg hne] at hd
    split at hd
    · obtain ⟨k, hk, rfl⟩ := List.mem_map.mp hd
      exact ⟨by omega, by have := List.mem_range.mp hk; omega⟩
    · cases hd
  have hagain : ∀ w, ∀ d ∈ servedDoms type, Restarts (type ≠ 3) w (retrainLinks (domOff (darkLinks w d) d) d) := fun w d hd
      => by
    obtain ⟨hsec, hwcp, hmem⟩ := restarts_domOff (darkLinks w d) d
    exact (restarts_darkLinks w d).trans (Restarts.trans ⟨hsec, hwcp, fun hne => hmem (hdoms d hd hne)⟩
      (restarts_retrainLinks _ d))
  have hon : ∀ w, Restarts (type ≠ 3) w ((servedDoms type).foldl (fun s d => setMgmt s d .on) w) := fun w =>
    foldl_rel Restarts.refl Restarts.trans (fun w d => restarts_setMgmt w d .on) _ w
  unfold restartDoms
  dsimp only
  split
  · exact (foldl_rel_of_mem Restarts.refl Restarts.trans hagain s).trans (hon _)
  · exact hon s

/-! ### An image -/

section
variable {src type : Nat} {force sig : Bool}

theorem commitImage_broken (hrunning : runningBg s 0x103 = some y)
    (hbroken : imgBroken s src type = true ∨ imgNum s src 0xC 4 ≠ csrValue s O.globalId) :
    Refused y s (commitImage s src type force sig) 0x8010 := by
  unfold commitImage
  dsimp only
  split
  · exact (refuseImg_spec hrunning (by decide) _ _).1
  · next hwhole =>
    rw [if_pos (hbroken.resolve_left hwhole)]
    exact (refuseImg_spec hrunning (by decide) _ _).1

variable (hrunning : runningBg s 0x103 = some y) (hwhole : imgBroken s src type = false)
  (hid : imgNum s src 0xC 4 = csrValue s O.globalId)
include hrunning hwhole hid

theorem commitImage_unsigned : Refused y s (commitImage s src type force false) 0x8010 ∧
    csrGet (commitImage s src type force false) O.secCntAuthFail = min (csrGet s O.secCntAuthFail + 1) 0xFFFFFFFF := by
  have hcommit : commitImage s src type force false = refuseImg s 0x8010 stAuth 0 := by
    unfold commitImage
    dsimp only
    rw [if_neg (by rw [hwhole]; decide), if_neg (by rw [hid]; simp), if_pos (by decide)]
  rw [hcommit]
  obtain ⟨hrefused, hauth⟩ := refuseImg_spec hrunning (code := 0x8010) (by decide) stAuth 0
  exact ⟨hrefused, hauth rfl⟩

variable (hiface : (readImg s src false).iface = romInterface type)
include hiface

theorem commitImage_old (hold : (readImg s src false).rollback < tget s.sec.counters (type - 1) 0) :
    Refused y s (commitImage s src type force true) 0x8012 := by
  have hcommit : commitImage s src type force true = refuseImg s 0x8012 stRefused 5 := by
    unfold commitImage
    dsimp only
    rw [if_neg (by rw [hwhole]; decide), if_neg (by rw [hid]; simp), if_neg (by decide), if_neg (by rw [hiface]; simp),
      if_pos hold]
  rw [hcommit]
  exact (refuseImg_spec hrunning (by decide) _ _).1

variable (hnew : tget s.sec.counters (type - 1) 0 ≤ (readImg s src false).rollback)
include hnew

theorem commitImage_untested (hodd : untestedWith s type (readImg s src false) = true) :
    Refused y s (commitImage s src type false true) 0x8011 := by
  have hcommit : commitImage s src type false true = refuseImg s 0x8011 stIncompatible 0 := by
    unfold commitImage
    dsimp only
    rw [if_neg (by rw [hwhole]; decide), if_neg (by rw [hid]; simp), if_neg (by decide), if_neg (by rw [hiface]; simp),
      if_neg (by omega), hodd, if_pos (by decide)]
  rw [hcommit]
  exact (refuseImg_spec hrunning (by decide) _ _).1

theorem commitImage_loads
    (hmay : untestedWith s type (readImg s src false) = false ∨ force = true ∧ s.sec.scopes ≠ 0) :
    (commitImage s src type force true).sec = { s.sec with
      images := tset s.sec.images type { readImg s src false with forced := untestedWith s type (readImg s src false) }
      counters := tset s.sec.counters (type - 1)
        (max (tget s.sec.counters (type - 1) 0) (readImg s src false).rollback) } ∧
    (commitImage s src type force true).wcp.running = s.wcp.running.erase y ∧
    (type ≠ 3 → (commitImage s src type force true).mem = s.mem) := by
  obtain ⟨odd, hodd⟩ : ∃ odd, odd = untestedWith s type (readImg s src false) := ⟨_, rfl⟩
  obtain ⟨w, hw⟩ : ∃ w, w = s.withSec (fun c => { c with
      images := tset c.images type { readImg s src false with forced := odd }
      counters := tset c.counters (type - 1) (max (tget s.sec.counters (type - 1) 0) (readImg s src false).rollback) }) :=
    ⟨_, rfl⟩
  obtain ⟨r, hr⟩ : ∃ r, r = restartDoms w type (tget? s.sec.images type).isSome := ⟨_, rfl⟩
  obtain ⟨hsec, hwcp, hmem⟩ := hr ▸ restarts_restartDoms w type (tget? s.sec.images type).isSome
  obtain ⟨z, hz⟩ : ∃ z, z = (if odd then raise r 0x8013 0 3 0 0 else r) := ⟨_, rfl⟩
  have hkept : z.sec = r.sec ∧ z.wcp = r.wcp ∧ z.mem = r.mem := by
    rw [hz]
    split
    · obtain ⟨_, _, h⟩ := raise_note_eq_with r 0x8013 3 0 0 []
      rw [h]
      exact ⟨rfl, rfl, rfl⟩
    · exact ⟨rfl, rfl, rfl⟩
  have hcommit : commitImage s src type force true = endBg z 0x103 stOk 0 := by
    have hforce : ¬(odd && !force) = true ∧ ¬(odd = true ∧ s.sec.scopes = 0) := by
      rw [hodd]
      rcases hmay with hfalse | ⟨hforce, hscopes⟩
      · rw [hfalse]
        simp
      · rw [hforce]
        simp [hscopes]
    unfold commitImage
    dsimp only
    rw [if_neg (by rw [hwhole]; decide), if_neg (by rw [hid]; simp), if_neg (by decide), if_neg (by rw [hiface]; simp),
      if_neg (by omega), ← hodd, if_neg hforce.1, if_neg hforce.2, loadImg]
    dsimp only
    rw [← hw, ← hr, ← hz]
  obtain ⟨hsecz, hwcpz, hmemz⟩ := hkept
  have hrun : z.wcp = s.wcp := hwcpz.trans (hwcp.trans (by rw [hw]; rfl))
  obtain ⟨hsec', hmem', -, hended, -⟩ := endCommit_spec (s := z) (op := 0x103) (st := stOk) (detail := 0) (y := y)
    (by rw [runningBg, hrun]; exact hrunning)
  rw [hcommit, ← hodd]
  exact ⟨hsec'.trans (hsecz.trans (hsec.trans (by rw [hw]; rfl))), by rw [hended, hrun],
    fun hne => hmem'.trans (hmemz.trans ((hmem hne).trans (by rw [hw]; rfl)))⟩

end

/-! ### The command that ends a commit -/

theorem imgCommitDone_denied {sig : Bool} (hrunning : runningBg s 0x103 = some y) (ha : y.a ≠ 0)
    (hmay : class2May s false y.a (commitLen s y.a y.c) = false) : completes (.imgCommitDone sig) s (fun u =>
      u = endBg s 0x103 stDenied 0) := by
  refine ⟨_, ?_, rfl⟩
  change Host.Outcome.next _ = _
  rw [hrunning]
  dsimp only
  rw [if_neg ha, if_pos hmay]

theorem imgCommitDone_waits {sig : Bool} (hrunning : runningBg s 0x103 = some y) (ha : y.a ≠ 0)
    (hmay : class2May s false y.a (commitLen s y.a y.c) = true)
    (hgo : mayGo s ⟨.background 0x103, 4⟩ y.a (commitLen s y.a y.c) = false) : completes (.imgCommitDone sig) s (fun u =>
      u = waitFor s ⟨.background 0x103, 4⟩ y.a (commitLen s y.a y.c)) := by
  refine ⟨_, ?_, rfl⟩
  change Host.Outcome.next _ = _
  rw [hrunning]
  dsimp only
  rw [if_neg ha, if_neg (by rw [hmay]; decide), if_pos hgo]

/-- The commit that runs is of bytes at hand: those staged, or those that memory gives it. -/
theorem exec_imgCommitDone {sig : Bool} (hrunning : runningBg s 0x103 = some y)
    (hread : y.a = 0 ∨ class2May s false y.a (commitLen s y.a y.c) = true ∧
      mayGo s ⟨.background 0x103, 4⟩ y.a (commitLen s y.a y.c) = true ∧ upsetsIn s y.a (commitLen s y.a y.c) = [] ∧
      badIn s y.a (commitLen s y.a y.c) = []) :
    exec (.imgCommitDone sig) s = .next (
      let w := if y.a = 0 then s else goOn s ⟨.background 0x103, 4⟩ y.a (commitLen s y.a y.c)
      if y.c = 0x10 then commitKeys w y.a sig else commitImage w y.a y.c (y.b = 1) sig) := by
  obtain ⟨m, hm⟩ : ∃ m, m = commitLen s y.a y.c := ⟨_, rfl⟩
  rw [← hm] at hread ⊢
  change Host.Outcome.next _ = _
  rw [hrunning]
  dsimp only
  rw [← hm]
  by_cases ha : y.a = 0
  · rw [if_pos ha, if_pos ha]
  · obtain ⟨hmay, hgo, hupsets, hbad⟩ := hread.resolve_left ha
    obtain ⟨w, hw⟩ : ∃ w, w = goOn s ⟨.background 0x103, 4⟩ y.a m := ⟨_, rfl⟩
    obtain ⟨⟨_, hgone⟩, -⟩ := goOn_spec s ⟨.background 0x103, 4⟩ y.a m
    rw [← hw] at hgone
    have hmeets : readMeets w y.a m = w := readMeets_of_no_upset (by rw [hgone]; exact hupsets)
    have hbadw : badIn w y.a m = [] := by rw [hgone]; exact hbad
    rw [if_neg ha, if_neg ha, if_neg (by rw [hmay]; decide), if_neg (by rw [hgo]; decide), ← hw, hmeets, hbadw]
    rfl

/-- What the commit finds is the state before it, but for the turns of the stacks. -/
theorem readFor_eq_with (s : State) (y : Running) : ∃ hbm,
    (if y.a = 0 then s else goOn s ⟨.background 0x103, 4⟩ y.a (commitLen s y.a y.c)) = { s with hbm := hbm } := by
  split
  · exact ⟨_, rfl⟩
  · exact (goOn_spec s _ _ _).1

/-! ### What answers at once -/

theorem length_flatMap_const {α : Type} {f : α → List Byte} {k : Nat} (h : ∀ a, (f a).length = k) (l : List α) :
    (l.flatMap f).length = k * l.length := by
  induction l with
  | nil => rfl
  | cons a l ih => rw [List.flatMap_cons, List.length_append, h, ih, List.length_cons, Nat.mul_succ, Nat.add_comm]

theorem imgList_completes (h : upNext s q 0x104 false n) : completes (.imgList q) s (fun u => ∃ es,
    u = respond (begun s q 0x104 n) n stOk 0 (leBytes 4 s.sec.images.length ++ es) ∧
    es.length = 12 * s.sec.images.length) := by
  obtain ⟨-, -, hsec, -⟩ := img_begun h
  refine ⟨_, congrArg Host.Outcome.next (wcpRow_of_upNext h rfl rfl), s.sec.images.flatMap (fun e =>
    leBytes 2 e.1 ++ leBytes 2 e.2.level ++ leBytes 4 e.2.iface ++ leBytes 4 (if e.2.forced then 2 else 1)), by rw [hsec],
    length_flatMap_const (fun e => by simp only [List.length_append, length_leBytes]) _⟩

theorem unlockChallenge_completes {scope : Nat} (h : upNext s q 0x801 false n) (hpos : 0 < scope) (hlt : scope < 8) :
    completes (.unlockChallenge q scope) s (fun u =>
      u.sec = { s.sec with challenge := some (scope, Config.nonce (begun s q 0x801 n).freeCtr, s.cycle) } ∧
      u.mem = (begun s q 0x801 n).mem ∧ answered (begun s q 0x801 n) u n stOk 0
        (digestBytes (Config.nonce (begun s q 0x801 n).freeCtr) ++ digestBytes Config.identity)) := by
  obtain ⟨_, _, _, _, _, _, _, _, _, _, hframe⟩ := begun_of_upNext h
  obtain ⟨b, hb⟩ : ∃ b, b = begun s q 0x801 n := ⟨_, rfl⟩
  rw [← hb] at hframe ⊢
  have hsame : b.sec = s.sec ∧ b.cycle = s.cycle := by rw [hframe]; exact ⟨rfl, rfl⟩
  obtain ⟨w, hw⟩ : ∃ w, w = b.useFree.withSec (fun c => { c with challenge := some (scope, Config.nonce b.freeCtr, b.cycle)
      }) :=
    ⟨_, rfl⟩
  obtain ⟨bs, hbs⟩ : ∃ bs, bs = digestBytes (Config.nonce b.freeCtr) ++ digestBytes Config.identity := ⟨_, rfl⟩
  obtain ⟨_, _, _, hu⟩ := respond_eq_with w n stOk 0 bs
  refine ⟨respond w n stOk 0 bs, ?_, ?_, by rw [hu, hw]; rfl, ?_⟩
  · refine congrArg Host.Outcome.next ((wcpRow_of_upNext h rfl rfl).trans ?_)
    rw [if_neg (by omega), ← hb, hw, hbs]
  · rw [hu, ← hsame.1, ← hsame.2, hw]
    rfl
  · rw [← hbs]
    exact answered_of_sessions (by rw [hw]; rfl) (answered_respond w n stOk 0 bs)

/-! ### Unlock -/

section
variable {scope count : Nat} {signers : List (BitVec 256)}

theorem unlockResponse_row (h : upNext s q 0x802 false n) : exec (.unlockResponse q scope count signers) s = .next (
    if 4 ≤ scope ∧ ¬(s.dev = .idle ∨ s.dev = .fenced) then respond (begun s q 0x802 n) n stBadState
    else match s.sec.challenge with
      | none => refuseUnlock (begun s q 0x802 n) n
      | some (held, _, time) =>
        if held = scope ∧ count = s.sec.unlocks + 1 ∧ s.cycle ≤ time + 6000000000 ∧ signerCovers s scope signers then
          grantScopes (begun s q 0x802 n) n scope
        else refuseUnlock (begun s q 0x802 n) n) := by
  obtain ⟨_, _, _, _, _, _, _, _, _, _, hframe⟩ := begun_of_upNext h
  obtain ⟨b, hb⟩ : ∃ b, b = begun s q 0x802 n := ⟨_, rfl⟩
  rw [← hb] at hframe ⊢
  have hsame : b.sec = s.sec ∧ b.dev = s.dev ∧ b.cycle = s.cycle := by rw [hframe]; exact ⟨rfl, rfl, rfl⟩
  have hcovers : signerCovers b scope signers = signerCovers s scope signers := by rw [signerCovers, hsame.1, signerCovers]
  refine congrArg Host.Outcome.next ((wcpRow_of_upNext h rfl rfl).trans ?_)
  rw [← hb, hsame.1, hsame.2.1, hsame.2.2, hcovers] <;> rfl

theorem grantScopes_spec (b : State) : (grantScopes b n scope).sec = { b.sec with
      challenge := none, unlocks := b.sec.unlocks + 1, scopes := b.sec.scopes ||| scope, wiping := decide (4 ≤ scope) } ∧
    answered b (grantScopes b n scope) n stOk 0 [] ∧ (hasRoom b 0 → queued (grantScopes b n scope) 0 0x8020) ∧
    (grantScopes b n scope).mem = b.mem := by
  obtain ⟨w, hw⟩ : ∃ w, w = b.withSec (fun c => { c with
    challenge := none, unlocks := c.unlocks + 1, scopes := c.scopes ||| scope, wiping := decide (4 ≤ scope) }) := ⟨_, rfl⟩
  obtain ⟨_, _, hraise⟩ := raise_note_eq_with w 0x8020 3 6 n.bind.port []
  have hqueued := fun hroom => queued_raise_note w 0x8020 3 6 n.bind.port [] (.inl hroom)
  obtain ⟨r, hr⟩ : ∃ r, r = raise w 0x8020 0 3 6 n.bind.port [] := ⟨_, rfl⟩
  rw [← hr] at hraise hqueued
  obtain ⟨_, _, _, hu⟩ := respond_eq_with r n stOk 0 []
  have hgrant : grantScopes b n scope = respond r n stOk 0 [] := by rw [hr, hw]; rfl
  rw [hgrant]
  refine ⟨by rw [hu, hraise, hw]; rfl, answered_of_sessions (by rw [hraise, hw]; rfl) (answered_respond r n stOk 0 []),
    fun hroom => (queued_congr (by rw [hu]) _ _).mpr (hqueued (by rw [hw]; exact hroom)), by rw [hu, hraise, hw]; rfl⟩

theorem refuseUnlock_spec (b : State) : (refuseUnlock b n).sec = { b.sec with challenge := none } ∧
    answered b (refuseUnlock b n) n stAuth 0 [] ∧ (hasRoom b 0 → queued (refuseUnlock b n) 0 0x8021) ∧
    csrGet (refuseUnlock b n) O.secCntAuthFail = min (csrGet b O.secCntAuthFail + 1) 0xFFFFFFFF := by
  obtain ⟨w, hw⟩ : ∃ w, w = b.withSec (fun c => { c with challenge := none }) := ⟨_, rfl⟩
  obtain ⟨_, _, hraise⟩ := raise_note_eq_with w 0x8021 3 6 n.bind.port []
  have hqueued := fun hroom => queued_raise_note w 0x8021 3 6 n.bind.port [] (.inl hroom)
  have hcsr := csrGet_raise_note w (o := O.secCntAuthFail) 3 6 n.bind.port [] (code := 0x8021) (by decide)
      (.inr (by decide))
  obtain ⟨r, hr⟩ : ∃ r, r = raise w 0x8021 0 3 6 n.bind.port [] := ⟨_, rfl⟩
  rw [← hr] at hraise hqueued hcsr
  obtain ⟨z, hz⟩ : ∃ z, z = bump r O.secCntAuthFail := ⟨_, rfl⟩
  obtain ⟨_, _, _, hu⟩ := respond_eq_with z n stAuth 0 []
  have hrefuse : refuseUnlock b n = respond z n stAuth 0 [] := by rw [hz, hr, hw]; rfl
  have hcount : csrGet z O.secCntAuthFail = min (csrGet b O.secCntAuthFail + 1) 0xFFFFFFFF := by
    rw [hz, csrGet_bump_same, hcsr, hw]
    rfl
  rw [hrefuse]
  refine ⟨by rw [hu, hz, hraise, hw]; rfl, answered_of_sessions ?_ (answered_respond z n stAuth 0 []),
    fun hroom => (queued_congr (by rw [hu, hz]; rfl) _ _).mpr (hqueued (by rw [hw]; exact hroom)), by rw [hu]; exact hcount⟩
  rw [hz, bump, csrPut, hraise, hw]
  rfl

theorem unlockResponse_grants {held time : Nat} {nonce : BitVec 256} (h : upNext s q 0x802 false n)
    (hstates : scope < 4 ∨ s.dev = .idle ∨ s.dev = .fenced)
    (hgranted : s.sec.challenge = some (held, nonce, time) ∧ held = scope ∧ count = s.sec.unlocks + 1 ∧
      s.cycle ≤ time + 6000000000 ∧ signerCovers s scope signers = true) :
    completes (.unlockResponse q scope count signers) s (fun u => u.sec = { s.sec with
      challenge := none, unlocks := s.sec.unlocks + 1, scopes := s.sec.scopes ||| scope, wiping := decide (4 ≤ scope) } ∧
      answered (begun s q 0x802 n) u n stOk 0 [] ∧ (hasRoom (begun s q 0x802 n) 0 → queued u 0 0x8020) ∧
      u.mem = (begun s q 0x802 n).mem) := by
  obtain ⟨hchallenge, hcond⟩ := hgranted
  obtain ⟨-, -, hsame, -⟩ := img_begun h
  obtain ⟨hsec, hrest⟩ := grantScopes_spec (n := n) (scope := scope) (begun s q 0x802 n)
  refine ⟨grantScopes (begun s q 0x802 n) n scope, ?_, by rw [hsec, hsame], hrest⟩
  rw [unlockResponse_row h, if_neg (fun hbad => hstates.elim (by omega) hbad.2), hchallenge]
  dsimp only
  rw [if_pos hcond]

theorem unlockResponse_refuses {held time : Nat} {nonce : BitVec 256} (h : upNext s q 0x802 false n)
    (hstates : scope < 4 ∨ s.dev = .idle ∨ s.dev = .fenced)
    (hrefused : s.sec.challenge = none ∨ s.sec.challenge = some (held, nonce, time) ∧
      ¬(s.sec.challenge = some (held, nonce, time) ∧ held = scope ∧ count = s.sec.unlocks + 1 ∧
        s.cycle ≤ time + 6000000000 ∧ signerCovers s scope signers = true)) :
    completes (.unlockResponse q scope count signers) s (fun u => u.sec = { s.sec with challenge := none } ∧
      answered (begun s q 0x802 n) u n stAuth 0 [] ∧ (hasRoom (begun s q 0x802 n) 0 → queued u 0 0x8021) ∧
      csrGet u O.secCntAuthFail = min (csrGet (begun s q 0x802 n) O.secCntAuthFail + 1) 0xFFFFFFFF) := by
  obtain ⟨-, -, hsame, -⟩ := img_begun h
  obtain ⟨hsec, hrest⟩ := refuseUnlock_spec (n := n) (begun s q 0x802 n)
  refine ⟨refuseUnlock (begun s q 0x802 n) n, ?_, by rw [hsec, hsame], hrest⟩
  rw [unlockResponse_row h, if_neg (fun hbad => hstates.elim (by omega) hbad.2)]
  rcases hrefused with hnone | ⟨hsome, hnot⟩
  · rw [hnone]
  · rw [hsome]
    dsimp only
    rw [if_neg (fun hcond => hnot ⟨hsome, hcond⟩)]

end

/-! ### The wipe -/

/-- What the closing of sessions leaves: fewer sessions, and the rest as it was. -/
def Closes (s u : State) : Prop :=
  (∀ z ∈ u.wcp.sessions, z ∈ s.wcp.sessions) ∧ u.sec = s.sec ∧ u.mem = s.mem

theorem Closes.refl (s : State) : Closes s s := ⟨fun _ h => h, rfl, rfl⟩

theorem Closes.trans (h : Closes s u) (h' : Closes u v) : Closes s v :=
  ⟨fun z hz => h.1 z (h'.1 z hz), h'.2.1.trans h.2.1, h'.2.2.trans h.2.2⟩

theorem closeSession_spec (s : State) (id cause : Nat) :
    Closes s (closeSession s id cause) ∧ ∀ z ∈ (closeSession s id cause).wcp.sessions, z.id ≠ id := by
  unfold closeSession
  split
  · next hnone =>
    refine ⟨.refl s, fun z hz hid => ?_⟩
    unfold findSession at hnone
    exact absurd (List.find?_eq_none.mp hnone z hz) (by simp [hid])
  · next x _ =>
    obtain ⟨_, _, h⟩ := raise_note_eq_with ((dropLatches s (sessionReader x.slot)).withWcp (fun w => { w with
      sessions := w.sessions.filter (fun y => decide (y.id ≠ id))
      queue := w.queue.filter (fun r => decide (r.session ≠ id)) })) 0x6004 3 6 x.bind.port [cause]
    rw [h]
    refine ⟨⟨fun z hz => (List.mem_filter.mp hz).1, rfl, rfl⟩, fun z hz => ?_⟩
    simpa using (List.mem_filter.mp hz).2

theorem closeSessions_spec (s : State) (cause : Nat) :
    (s.wcp.sessions.foldl (fun s z => closeSession s z.id cause) s).wcp.sessions = [] ∧
    Closes s (s.wcp.sessions.foldl (fun s z => closeSession s z.id cause) s) := by
  have hcloses := foldl_rel Closes.refl Closes.trans (fun w (z : Session) => (closeSession_spec w z.id cause).1)
    s.wcp.sessions s
  have hgone := foldl_establishes (f := fun w (z : Session) => closeSession w z.id cause)
      (P := fun z u => ∀ y ∈ u.wcp.sessions, y.id ≠ z.id)
    (fun w (z : Session) => (closeSession_spec w z.id cause).2)
    (fun w z (z' : Session) hz y (hy : y ∈ (closeSession w z'.id cause).wcp.sessions) =>
      hz y ((closeSession_spec w z'.id cause).1.1 y hy)) s.wcp.sessions s
  exact ⟨List.eq_nil_iff_forall_not_mem.mpr fun z hz => hgone z (hcloses.1 z hz) z hz rfl, hcloses⟩

theorem scanWipeDone_completes (hwiping : s.sec.wiping = true) : completes .scanWipeDone s (fun u =>
    u.sec = { s.sec with wiping := false, jtag := true } ∧ u.wcp.sessions = [] ∧ u.wcp.queue = [] ∧
    (memWf s.mem = true → ∀ i, memRead u.mem i =
      if i < 0x500000000 ∨ 0x800000000 ≤ i ∧ i < 0x810000000 then 0#8 else memRead s.mem i)) := by
  obtain ⟨hnone, -, hsec, hmem⟩ := closeSessions_spec s 2
  obtain ⟨w, hw⟩ : ∃ w, w = s.wcp.sessions.foldl (fun s z => closeSession s z.id 2) s := ⟨_, rfl⟩
  rw [← hw] at hnone hsec hmem
  obtain ⟨u, hu⟩ : ∃ u, exec .scanWipeDone s = .next u ∧ u.sec = { w.sec with wiping := false, jtag := true } ∧
      u.wcp.sessions = w.wcp.sessions ∧ u.wcp.queue = [] ∧
      u.mem = memZero (memZero w.mem 0 0x500000000) 0x800000000 0x810000000 := by
    refine ⟨_, congrArg Host.Outcome.next (if_neg (by rw [hwiping]; decide)), ?_, ?_, rfl, ?_⟩
    · rw [hw]; rfl
    · rw [hw]; rfl
    · rw [hw]; rfl
  obtain ⟨hexec, hsec', hsessions, hqueue, hzero⟩ := hu
  refine ⟨u, hexec, by rw [hsec', hsec], by rw [hsessions, hnone], hqueue, fun _ i => ?_⟩
  rw [hzero, hmem]
  exact memRead_zeroed_both s.mem i

/-- Settles O48: staging, the ends of a commit, then what answers at once. -/
theorem imagesAndUnlock : Obligations.ImagesAndUnlock := by
  intro s q n type len off src flags bs nonce x y signers scope count held time sig
  refine ⟨fun hdev => ⟨fun h => ⟨imgBegin_completes hdev h, imgBegin_malformed hdev h⟩,
      fun h himg hgo => ⟨imgData_completes hdev h himg hgo, imgData_range hdev h himg hgo⟩,
      fun hwaits himg hthermal => imgData_waits hdev hwaits himg hthermal⟩,
    imgCommit_completes, fun hrunning => ⟨fun hread => ⟨fun hkeys hdev => ?_, fun himage => ?_⟩,
      imgCommitDone_denied hrunning, imgCommitDone_waits hrunning⟩, fun hnone => ⟨s, ?_, rfl⟩, imgList_completes,
    fun h => ⟨_, congrArg Host.Outcome.next (wcpRow_of_upNext h rfl rfl), rfl⟩,
    fun h => ⟨unlockChallenge_completes h, fun hscope => ⟨_, congrArg Host.Outcome.next (wcpRow_of_upNext h rfl rfl), if_pos
        hscope⟩⟩,
    fun h => ⟨fun hscope hidle hfenced => ⟨_, unlockResponse_row h, if_pos ⟨hscope, by simp [hidle, hfenced]⟩⟩,
      fun hstates => ⟨unlockResponse_grants h hstates, unlockResponse_refuses h hstates⟩⟩,
    scanWipeDone_completes, fun hwiping => ⟨s, congrArg Host.Outcome.next (if_pos hwiping), rfl⟩⟩
  · obtain ⟨hbm, hsame⟩ := readFor_eq_with s y
    have hexec := exec_imgCommitDone (sig := sig) hrunning hread
    dsimp only at hexec
    rw [if_pos hkeys] at hexec
    dsimp only
    rw [hsame] at hexec ⊢
    refine ⟨fun hbroken => ⟨_, hexec, commitKeys_broken (s := { s with hbm := hbm }) hrunning hdev hbroken⟩,
      fun hwhole howner hsig => ⟨fun hcounter hseq => ?_, fun hold => ?_⟩⟩
    · subst hsig
      obtain ⟨hsec, hended, hmem⟩ := commitKeys_loads (s := { s with hbm := hbm }) hrunning hdev hwhole howner hcounter hseq
      refine ⟨_, hexec, ?_⟩
      beta_reduce
      rw [hsec]
      exact ⟨rfl, rfl, rfl, rfl, tget_tset_same _ _ _ _, rfl, hended, hmem⟩
    · subst hsig
      exact ⟨_, hexec, commitKeys_old (s := { s with hbm := hbm }) hrunning hdev hwhole howner hold⟩
  · obtain ⟨hbm, hsame⟩ := readFor_eq_with s y
    have hexec := exec_imgCommitDone (sig := sig) hrunning hread
    dsimp only at hexec
    rw [if_neg himage] at hexec
    dsimp only
    rw [hsame] at hexec ⊢
    refine ⟨fun hbroken => ⟨_, hexec, commitImage_broken (s := { s with hbm := hbm }) hrunning hbroken⟩,
      fun hwhole hid => ⟨fun hsig => ?_, fun hsig hiface hnew hmay => ?_, fun hsig hiface hold => ?_,
        fun hsig hiface hnew hodd hforce => ?_⟩⟩
    · subst hsig
      exact ⟨_, hexec, commitImage_unsigned (s := { s with hbm := hbm }) hrunning hwhole hid⟩
    · subst hsig
      exact ⟨_, hexec, commitImage_loads (s := { s with hbm := hbm }) hrunning hwhole hid hiface hnew (by simpa using hmay)⟩
    · subst hsig
      exact ⟨_, hexec, commitImage_old (s := { s with hbm := hbm }) hrunning hwhole hid hiface hold⟩
    · subst hsig
      rw [decide_eq_false hforce] at hexec
      exact ⟨_, hexec, commitImage_untested (s := { s with hbm := hbm }) hrunning hwhole hid hiface hnew hodd⟩
  · change Host.Outcome.next _ = _
    rw [hnone]

end Sys2Proof.Machine
end

section
/-! O53. The supply, temperature, the power cap, PMBus, and the resets. -/

open Sys2Proof
namespace Sys2Proof.Machine

variable {s u v : State} {q : WcpReq} {n : Request}

/-! ### The supply -/

theorem vsbRise_completes {te : Bool} (hdown : s.power.boot = .down) : completes (.vsbRise te) s (fun u =>
    u.dev = .boot ∧ u.power = { PowerSt.reset with testEn := te } ∧ u.mem = [] ∧ u.csr = State.reset.csr ∧
    u.sec.keys = s.sec.keys ∧ u.sec.owner = s.sec.owner ∧ u.sec.counters = s.sec.counters) :=
  ⟨_, congrArg Host.Outcome.next (if_pos hdown), rfl, rfl, rfl, rfl, rfl, rfl, rfl⟩

theorem vsbFall_completes (hpower : s.power.boot ≠ .down) : completes .vsbFall s (fun u =>
    u.power.boot = .down ∧ u.mem = [] ∧ (∀ d, getDom u d = Dom.offDom) ∧ u.power.failLow = false ∧
    u.sec.keys = s.sec.keys ∧ u.sec.owner = s.sec.owner ∧ u.sec.counters = s.sec.counters) := by
  obtain ⟨w, hw⟩ : ∃ w, w = withoutSupply s { PowerSt.reset with doms := [], boot := .down } := ⟨_, rfl⟩
  obtain ⟨_, _, _, hsent⟩ := emit_eq_with w (.failN false)
  refine ⟨if s.power.failLow then w.emit (.failN false) else w, hw ▸ congrArg Host.Outcome.next (if_neg hpower), ?_⟩
  split
  · rw [hsent, hw]
    exact ⟨rfl, rfl, fun _ => rfl, rfl, rfl, rfl, rfl⟩
  · rw [hw]
    exact ⟨rfl, rfl, fun _ => rfl, rfl, rfl, rfl, rfl⟩

theorem powered_of_boot (hpower : s.power.boot ≠ .down) : powered s = true := by simp [powered, hpower]

/-! ### What a sag sheds and returns -/

/-- What is shed and returned leaves memory, the record of the deepest level, and of the power state all but the domains. -/
structure Sheds (s u : State) : Prop where
  mem : u.mem = s.mem
  power : ∃ doms, u.power = { s.power with doms := doms }
  deepest : csrGet u O.powerShed = csrGet s O.powerShed

namespace Sheds

theorem refl (s : State) : Sheds s s := ⟨rfl, ⟨_, rfl⟩, rfl⟩

theorem trans (h : Sheds s u) (h' : Sheds u v) : Sheds s v := by
  obtain ⟨_, hu⟩ := h.power
  obtain ⟨_, hv⟩ := h'.power
  exact ⟨h'.mem.trans h.mem, ⟨_, hv.trans (by rw [hu])⟩, h'.deepest.trans h.deepest⟩

theorem level (h : Sheds s u) : u.power.level = s.power.level := by
  obtain ⟨_, hu⟩ := h.power
  rw [hu]

theorem vinMv (h : Sheds s u) : u.power.vinMv = s.power.vinMv := by
  obtain ⟨_, hu⟩ := h.power
  rw [hu]

end Sheds

theorem sheds_raise_minor (s : State) {sev code : Nat} (hsev : sev < 2) (hcode : code < 0x10000) (cls srcKind src : Nat)
    (info : List Nat) : Sheds s (raise s code sev cls srcKind src info) := by
  have hcsr := csrGet_raise_minor s (o := O.powerShed) hsev hcode cls srcKind src info (.inl (by decide))
  obtain ⟨_, _, h⟩ := raise_minor_eq_with s hsev code cls srcKind src info
  exact ⟨by rw [h], ⟨s.power.doms, by rw [h]⟩, hcsr⟩

theorem sheds_bump (s : State) {o : Nat} (k : Nat) (ho : O.powerShed ≠ o) : Sheds s (bump s o k) :=
  ⟨rfl, ⟨_, rfl⟩, csrGet_bump_other _ _ ho⟩

theorem sheds_emit (s : State) (e : Emit) : Sheds s (s.emit e) := by
  have hcsr := csrGet_emit s e (o := O.powerShed) (by decide)
  obtain ⟨_, _, _, h⟩ := emit_eq_with s e
  exact ⟨by rw [h], ⟨s.power.doms, by rw [h]⟩, hcsr⟩

theorem sheds_setLink (s : State) (l : Nat) (k : Link) : Sheds s (setLink s l k) := ⟨rfl, ⟨_, rfl⟩, rfl⟩

theorem sheds_setPort (s : State) (p : Nat) (x : Port) : Sheds s (setPort s p x) := ⟨rfl, ⟨_, rfl⟩, rfl⟩

theorem sheds_sendPfc (s : State) (p k : Nat) (xoff : Bool) : Sheds s (sendPfc s p k xoff) :=
  (sheds_emit s _).trans (sheds_bump _ _ (by unfold O.ethpPfcTx O.powerShed; omega))

theorem sheds_shedPort (s : State) (p : Nat) : Sheds s (shedPort s p) := by
  refine foldl_rel Sheds.refl Sheds.trans (fun w k => ?_) [4, 5, 6, 7] s
  dsimp only
  split
  · exact (sheds_setPort w p _).trans (sheds_sendPfc _ _ _ _)
  · exact .refl w

theorem sheds_unshedPort (s : State) (p : Nat) : Sheds s (unshedPort s p) := by
  refine foldl_rel Sheds.refl Sheds.trans (fun w k => ?_) [4, 5, 6, 7] s
  dsimp only
  split
  · exact (sheds_setPort w p _).trans (sheds_sendPfc _ _ _ _)
  · exact .refl w

theorem sheds_shedLanes (s : State) (l : Nat) : Sheds s (shedLanes s l) := by
  unfold shedLanes
  dsimp only
  split
  · exact .refl s
  · split
    · exact sheds_setLink s l _
    · exact (sheds_setLink s l _).trans (sheds_emit _ _)

theorem sheds_settleLane (s : State) (l : Nat) : Sheds s (settleLane s l) := by
  have hspare : O.powerShed ≠ O.seamCntSpare l := by unfold O.powerShed O.seamCntSpare; omega
  unfold settleLane
  dsimp only
  split
  · exact .refl s
  · split
    · have hdown := takenDown_takeDown s l true
      exact ⟨hdown.mem, ⟨s.power.doms, hdown.power⟩, hdown.csr _ (.inl (by decide))
        (fun m => ⟨by unfold O.powerShed O.seamCntTx; omega, by unfold O.powerShed O.seamCntDiscard; omega⟩)
        (by unfold O.powerShed O.seamCntDown; omega) (by unfold O.powerShed O.seamPartnerA; omega)
        (by unfold O.powerShed O.seamPartnerB; omega)⟩
    · split
      · exact .refl s
      · split
        · exact .refl s
        · split
          · exact (sheds_setLink s l _).trans ((sheds_bump _ _ hspare).trans
              ((sheds_raise_minor _ (by decide) (by decide) _ _ _ _).trans (sheds_emit _ _)))
          · exact (sheds_setLink s l _).trans ((sheds_raise_minor _ (by decide) (by decide) _ _ _ _).trans (sheds_emit _ _))

theorem sheds_unshedLanes (s : State) (l : Nat) : Sheds s (unshedLanes s l) := by
  have hsettle : ∀ w, Sheds w (settleLanes w l) := fun w =>
    foldl_rel Sheds.refl Sheds.trans (fun w _ => sheds_settleLane w l) (List.range 5) w
  unfold unshedLanes
  dsimp only
  split
  · refine Sheds.trans ?_ (hsettle _)
    split
    · exact sheds_setLink s l _
    · exact (sheds_setLink s l _).trans (sheds_emit _ _)
  · exact .refl s

theorem sheds_sideDown (s : State) (side : Nat) : Sheds s (sideDown s side) := by
  refine foldl_rel Sheds.refl Sheds.trans (fun w i => ?_) (List.range 4) s
  unfold portDown
  split
  · exact Sheds.trans (u := setPort { w with egress := w.egress.filter (fun e => decide (e.1 / 8 ≠ 4 * side + i)) }
        (4 * side + i) _)
      ⟨rfl, ⟨_, rfl⟩, rfl⟩ (sheds_raise_minor _ (by decide) (by decide) _ _ _ _)
  · exact .refl w

theorem sheds_shedAct (s : State) (k : Nat) : Sheds s (shedAct s k) := by
  unfold shedAct
  split
  · exact foldl_rel Sheds.refl Sheds.trans sheds_shedPort (List.range 8) s
  · exact foldl_rel Sheds.refl Sheds.trans sheds_shedLanes (List.range 24) s
  · exact (sheds_sideDown s 0).trans (sheds_sideDown _ 1)
  · exact .refl s

theorem sheds_unshedAct (s : State) (k : Nat) : Sheds s (unshedAct s k) := by
  unfold unshedAct
  split
  · exact foldl_rel Sheds.refl Sheds.trans sheds_unshedPort (List.range 8) s
  · refine foldl_rel Sheds.refl Sheds.trans (fun w l => ?_) (List.range 24) s
    split
    · exact .refl w
    · exact sheds_unshedLanes w l
  · exact .refl s

theorem sheds_settleDoms (s : State) (ds : List Nat) : Sheds s (settleDoms s ds) := by
  refine foldl_rel Sheds.refl Sheds.trans (fun w d => ?_) ds s
  obtain ⟨_, h⟩ := settleDom_eq_with w d
  rw [h]
  exact ⟨rfl, ⟨_, rfl⟩, rfl⟩

theorem csrBits_congr {o : Nat} (hi lo : Nat) (h : csrGet u o = csrGet s o) : csrBits u o hi lo = csrBits s o hi lo := by
  rw [csrBits, h, csrBits]

/-- What entering a level leaves. -/
theorem enterLevel_spec (s : State) (mv : Nat) {k : Nat} (hk : k ≤ 6) : (enterLevel mv s k).power.level = k ∧
    (enterLevel mv s k).power.vinMv = s.power.vinMv ∧ (enterLevel mv s k).mem = s.mem ∧
    csrBits (enterLevel mv s k) O.powerShed 10 8 = max (csrBits s O.powerShed 10 8) k := by
  obtain ⟨w, hw⟩ : ∃ w, w = noteDeepest (s.withPower (fun p => { p with level := k })) k := ⟨_, rfl⟩
  have hsheds : Sheds w (enterLevel mv s k) := by
    unfold enterLevel
    dsimp only
    rw [← hw]
    exact (sheds_shedAct w k).trans ((sheds_raise_minor _ (by decide) (by decide) _ _ _ _).trans
      ((sheds_bump _ _ (by decide)).trans (sheds_settleDoms _ _)))
  have hdeep : csrBits w O.powerShed 10 8 = max (csrBits s O.powerShed 10 8) k := by
    have hlt : csrBits s O.powerShed 10 8 < 8 := by
      rw [csrBits, bitsOf_eq_div_mod]
      omega
    rw [hw, noteDeepest, csrBits_csrPutBits_same _ _ _ _ (by decide)]
    change max (csrBits s O.powerShed 10 8) k % 2 ^ (10 + 1 - 8) = _
    rw [Nat.mod_eq_of_lt (by omega)]
  refine ⟨hsheds.level.trans (by rw [hw]; rfl), hsheds.vinMv.trans (by rw [hw]; rfl), hsheds.mem.trans (by rw [hw]; rfl),
      ?_⟩
  rw [csrBits_congr 10 8 hsheds.deepest, hdeep]

theorem enterLevels_spec (mv : Nat) (k : Nat) (s : State) (hk : s.power.level + k ≤ 6) :
    (((List.range k).map (· + s.power.level + 1)).foldl (enterLevel mv) s).power.level = s.power.level + k ∧
    (((List.range k).map (· + s.power.level + 1)).foldl (enterLevel mv) s).power.vinMv = s.power.vinMv ∧
    (((List.range k).map (· + s.power.level + 1)).foldl (enterLevel mv) s).mem = s.mem ∧
    (0 < k → csrBits (((List.range k).map (· + s.power.level + 1)).foldl (enterLevel mv) s) O.powerShed 10 8 =
      max (csrBits s O.powerShed 10 8) (s.power.level + k)) := by
  induction k with
  | zero => exact ⟨rfl, rfl, rfl, fun h => absurd h (by decide)⟩
  | succ k ih =>
    obtain ⟨w, hw⟩ : ∃ w, w = ((List.range k).map (· + s.power.level + 1)).foldl (enterLevel mv) s := ⟨_, rfl⟩
    obtain ⟨hlevel, hvin, hmem, hdeep⟩ := hw ▸ ih (by omega)
    obtain ⟨hlevel', hvin', hmem', hdeep'⟩ := enterLevel_spec w mv (k := k + s.power.level + 1) (by omega)
    have hlast : ((List.range (k + 1)).map (· + s.power.level + 1)).foldl (enterLevel mv) s =
        enterLevel mv w (k + s.power.level + 1) := by
      rw [List.range_succ, List.map_append, List.foldl_append, ← hw, List.map_singleton, List.foldl_cons, List.foldl_nil]
    rw [hlast]
    refine ⟨hlevel'.trans (by omega), hvin'.trans hvin, hmem'.trans hmem, fun _ => ?_⟩
    rw [hdeep']
    by_cases hpos : 0 < k
    · rw [hdeep hpos]
      omega
    · have hzero : k = 0 := by omega
      subst hzero
      rw [hw]
      change max (csrBits s O.powerShed 10 8) _ = _
      omega

theorem noteVin_spec (s : State) (mv : Nat) : (noteVin s mv).power.vinMv = min mv 0xFFFF ∧
    (noteVin s mv).power.level = s.power.level ∧ (noteVin s mv).mem = s.mem ∧
    csrGet (noteVin s mv) O.powerShed = csrGet s O.powerShed :=
  ⟨rfl, rfl, rfl, csrGet_csrPut_other _ _ (by decide)⟩

theorem sagMv_le (k : Nat) : sagMv k ≤ 1740 := by
  unfold sagMv
  split <;> omega

theorem vinSagDown_completes {level mv : Nat} (hpower : s.power.boot ≠ .down) (hsag : s.power.sagOff = false)
    (hdeeper : s.power.level < level) (hlevel : level ≤ 6) (hmv : mv ≤ sagMv level) :
    completes (.vinSagDown level mv) s (fun u => u.power.level = level ∧ u.power.vinMv = mv ∧
      csrBits u O.powerShed 10 8 = max (csrBits s O.powerShed 10 8) level ∧ u.mem = s.mem) := by
  obtain ⟨w, hw⟩ : ∃ w, w = noteVin s mv := ⟨_, rfl⟩
  obtain ⟨hvin, hsame, hmem, hshed⟩ := hw ▸ noteVin_spec s mv
  obtain ⟨hlevel', hvin', hmem', hdeep⟩ := enterLevels_spec mv (level - s.power.level) w (by omega)
  rw [hsame] at hlevel' hvin' hmem' hdeep
  have hsmall := sagMv_le level
  refine ⟨((List.range (level - s.power.level)).map (· + s.power.level + 1)).foldl (enterLevel mv) w, ?_,
    hlevel'.trans (by omega), hvin'.trans (hvin.trans (by omega)), ?_, hmem'.trans hmem⟩
  · rw [hw]
    exact congrArg Host.Outcome.next (if_neg (by rw [powered_of_boot hpower, hsag]; simp; omega))
  · rw [hdeep (by omega), csrBits_congr 10 8 hshed]
    congr 1
    omega

theorem traceResume_traces (s : State) (c : Nat) : ∃ cores csr, traceResume s c = { s with cores := cores, csr := csr } :=
    by
  unfold traceResume
  split
  · have hstart := foldl_rel (R := fun s u : State => ∃ cores csr, u = { s with cores := cores, csr := csr })
        (fun _ => ⟨_, _, rfl⟩)
      (fun {s u v} (hu : ∃ cores csr, u = { s with cores := cores, csr := csr })
        (hv : ∃ cores csr, v = { u with cores := cores, csr := csr }) => by
        obtain ⟨_, _, rfl⟩ := hu
        obtain ⟨_, _, rfl⟩ := hv
        exact ⟨_, _, rfl⟩)
      (f := fun s t => if (getThread s c t).st = .halted ∨ (getThread s c t).st = .exception then s else traceStart s c t)
      (fun w t => by
        split
        · exact ⟨_, _, rfl⟩
        · exact (traceStart_traces w c t).1) (List.range 8) (setCore s c { getCore s c with traceGap := true })
    obtain ⟨_, _, h⟩ := hstart
    exact ⟨_, _, h⟩
  · exact ⟨_, _, rfl⟩

theorem sagLevelReturn_completes {level mv : Nat} (hpower : s.power.boot ≠ .down) (hpos : 0 < s.power.level)
    (hlevel : s.power.level = level) (hmv : sagMv level + 10 ≤ mv) : completes (.sagLevelReturn level mv) s (fun u =>
      u.power.level = level - 1 ∧ u.power.vinMv = min mv 0xFFFF ∧ u.mem = s.mem) := by
  obtain ⟨w, hw⟩ : ∃ w, w = noteVin (s.withPower (fun p => { p with level := level - 1 })) mv := ⟨_, rfl⟩
  obtain ⟨hvin, hsame, hmem, -⟩ := hw ▸ noteVin_spec (s.withPower (fun p => { p with level := level - 1 })) mv
  obtain ⟨y, hy⟩ : ∃ y, y = settleDoms (raise (unshedAct w level) 0x7011 0 3 0 0 [level, mv]) (List.range 57) := ⟨_, rfl⟩
  have hsheds : Sheds w y := hy ▸ (sheds_unshedAct w level).trans
    ((sheds_raise_minor _ (by decide) (by decide) _ _ _ _).trans (sheds_settleDoms _ _))
  have htraced : (if level = 1 then (List.range 256).foldl traceResume y else y).power = y.power ∧
      (if level = 1 then (List.range 256).foldl traceResume y else y).mem = y.mem := by
    split
    · have hkept := foldl_keeps traceResume (fun s => (s.power, s.mem)) (fun w c => by
        obtain ⟨_, _, h⟩ := traceResume_traces w c
        rw [h]) (List.range 256) y
      exact Prod.mk.inj hkept
    · exact ⟨rfl, rfl⟩
  obtain ⟨hpower', hmem'⟩ := htraced
  refine ⟨if level = 1 then (List.range 256).foldl traceResume y else y, ?_, ?_, ?_, ?_⟩
  · rw [hy, hw]
    exact congrArg Host.Outcome.next (if_neg (by rw [powered_of_boot hpower]; simp; omega))
  · rw [hpower', hsheds.level, hsame]
    rfl
  · rw [hpower', hsheds.vinMv, hvin]
  · rw [hmem', hsheds.mem, hmem]
    rfl

/-! ### Resets -/

/-- What telling of what a reset closed leaves: all but the queues of events and their registers. -/
structure Tells (s u : State) : Prop where
  frame : ∃ csr queues, u = { s with csr := csr, err := { s.err with queues := queues } }
  csr : ∀ o, outsideErrlog o → csrGet u o = csrGet s o

namespace Tells

theorem refl (s : State) : Tells s s := ⟨⟨_, _, rfl⟩, fun _ _ => rfl⟩

theorem trans (h : Tells s u) (h' : Tells u v) : Tells s v := by
  obtain ⟨⟨_, _, rfl⟩, hcsr⟩ := h
  obtain ⟨⟨_, _, rfl⟩, hcsr'⟩ := h'
  exact ⟨⟨_, _, rfl⟩, fun o ho => (hcsr' o ho).trans (hcsr o ho)⟩

end Tells

theorem tells_raise_note (s : State) {code : Nat} (cls srcKind src : Nat) (info : List Nat) (hcode : code < 0x10000) :
    Tells s (raise s code 0 cls srcKind src info) := by
  refine ⟨?_, fun o ho => csrGet_raise_note s cls srcKind src info hcode ho⟩
  obtain ⟨_, _, h | h⟩ := raise_minor_queues s (sev := 0) (by decide) code cls srcKind src info
  · exact ⟨_, _, h⟩
  · exact ⟨_, _, h⟩

theorem tells_tellClosed (s old : State) : Tells s (tellClosed s old) := by
  unfold tellClosed
  exact (foldl_rel Tells.refl Tells.trans (fun w p => tells_raise_note w 3 6 p [p] (by decide)) _ s).trans
    (foldl_rel Tells.refl Tells.trans (fun w (x : Session) => tells_raise_note w 3 6 x.bind.port [2] (by decide)) _ _)

/-- What a reset leaves. -/
structure ResetTo (s u : State) (stage : BootStage) (cause : Nat) (low : Bool) : Prop where
  dev : u.dev = .boot
  power : u.power = { PowerSt.reset with boot := stage, vinMv := s.power.vinMv, failLow := s.power.failLow && low
                                         testEn := s.power.testEn }
  mem : u.mem = []
  weave : u.weave = none
  cause : csrBit u O.globalResetCause cause = true
  sec : u.sec = { s.sec with scopes := 0, challenge := none, images := [], jtag := false, wiping := false }
  log : u.err.log = s.err.log
  sessions : u.wcp.sessions = []
  out : ∀ e ∈ s.out, e ∈ u.out

theorem deviceReset_frame (s : State) (stage : BootStage) (low : Bool) : (deviceReset s stage low).dev = .boot ∧
    (deviceReset s stage low).power = { PowerSt.reset with boot := stage, vinMv := s.power.vinMv
                                                           failLow := s.power.failLow && low, testEn := s.power.testEn } ∧
    (deviceReset s stage low).mem = [] ∧ (deviceReset s stage low).weave = none ∧
    (deviceReset s stage low).sec = { s.sec with scopes := 0, challenge := none, images := [], jtag := false, wiping :=
        false } ∧
    (deviceReset s stage low).err.log = s.err.log ∧ (deviceReset s stage low).wcp.sessions = [] ∧
    ∀ e ∈ s.out, e ∈ (deviceReset s stage low).out := by
  unfold deviceReset
  dsimp only
  split
  · next hlow =>
    rw [emit_of_noFrames rfl]
    exact ⟨rfl, rfl, rfl, rfl, rfl, rfl, rfl, fun e he => List.mem_cons_of_mem _ he⟩
  · exact ⟨rfl, rfl, rfl, rfl, rfl, rfl, rfl, fun e he => he⟩

theorem resetBy_spec (s : State) {cause : Nat} (hcause : cause < 32) (stage : BootStage) (low : Bool) :
    ResetTo s (resetBy s cause stage low) stage cause (low || s.power.testEn) := by
  obtain ⟨hdev, hpower, hmem, hweave, hsec, hlog, hsessions, hout⟩ := deviceReset_frame s stage (low || s.power.testEn)
  obtain ⟨w, hw⟩ : ∃ w, w = csrPutBits (deviceReset s stage (low || s.power.testEn)) O.globalResetCause cause cause 1 :=
      ⟨_, rfl⟩
  obtain ⟨⟨_, _, hframe⟩, hcsr⟩ := tells_tellClosed w s
  have hreset : resetBy s cause stage low = tellClosed w s := by rw [resetBy, hw]
  have hbit : csrBit (tellClosed w s) O.globalResetCause cause = true := by
    rw [csrBit_of_csrGet cause (hcsr _ (.inl (by decide))), hw, csrBit_csrPutBits_same _ _ hcause]
    rfl
  rw [hreset]
  refine ⟨?_, ?_, ?_, ?_, hbit, ?_, ?_, ?_, fun e he => ?_⟩
  · rw [hframe, hw]; exact hdev
  · rw [hframe, hw]; exact hpower
  · rw [hframe, hw]; exact hmem
  · rw [hframe, hw]; exact hweave
  · rw [hframe, hw]; exact hsec
  · rw [hframe, hw]; exact hlog
  · rw [hframe, hw]; exact hsessions
  · rw [hframe, hw]; exact hout e he

theorem vinReset_completes {mv : Nat} (hpower : s.power.boot ≠ .down) (hsag : s.power.sagOff = false)
    (hthermal : s.power.thermalOff = false) (hmv : mv < 1600) : completes (.vinReset mv) s (fun u =>
      (u.dev = .boot ∧ u.power.boot = .selfTest ∧ u.mem = [] ∧ u.weave = none ∧
        csrBit u O.globalResetCause 3 = true ∧ u.sec.keys = s.sec.keys ∧ u.sec.scopes = 0) ∧
      u.power.sagOff = true ∧ u.err.log = s.err.log) := by
  obtain ⟨w, hw⟩ : ∃ w, w = resetBy s 3 .selfTest false := ⟨_, rfl⟩
  have hreset : ResetTo s w .selfTest 3 (false || s.power.testEn) := hw ▸ resetBy_spec s (by decide) .selfTest false
  obtain ⟨u, hu⟩ : ∃ u, u = noteVin (noteDeepest (w.withPower (fun p => { p with sagOff := true })) 7) mv := ⟨_, rfl⟩
  have hbit : csrBit u O.globalResetCause 3 = csrBit w O.globalResetCause 3 := csrBit_of_csrGet 3 (by
    rw [hu]
    exact (csrGet_csrPut_other _ _ (by decide)).trans (csrGet_csrPut_other _ _ (by decide)))
  refine ⟨u, ?_, ⟨?_, ?_, ?_, ?_, hbit.trans hreset.cause, ?_, ?_⟩, by rw [hu]; rfl, ?_⟩
  · rw [hu, hw]
    exact congrArg Host.Outcome.next ((if_neg (by rw [powered_of_boot hpower]; simp; omega)).trans
      ((if_neg (by rw [hsag]; decide)).trans (if_neg (by rw [hthermal]; decide))))
  · rw [hu]; exact hreset.dev
  · rw [hu]
    change w.power.boot = _
    rw [hreset.power]
  · rw [hu]; exact hreset.mem
  · rw [hu]; exact hreset.weave
  · rw [hu]
    change w.sec.keys = _
    rw [hreset.sec]
  · rw [hu]
    change w.sec.scopes = _
    rw [hreset.sec]
  · rw [hu]; exact hreset.log

theorem vinReset_cold {mv : Nat} (hpower : s.power.boot ≠ .down) (hsag : s.power.sagOff = false)
    (hthermal : s.power.thermalOff = true) (hmv : mv < 1600) : completes (.vinReset mv) s (fun u =>
      csrBit u O.globalResetCause 3 = true ∧ csrBits u O.powerShed 10 8 = 7 ∧ u.power.sagOff = true ∧ u.mem = s.mem) := by
  obtain ⟨w, hw⟩ : ∃ w, w = (csrPutBits s O.globalResetCause 3 3 1).withPower (fun p => { p with sagOff := true }) :=
      ⟨_, rfl⟩
  obtain ⟨u, hu⟩ : ∃ u, u = noteVin (noteDeepest w 7) mv := ⟨_, rfl⟩
  have hbit : csrBit u O.globalResetCause 3 = csrBit (csrPutBits s O.globalResetCause 3 3 1) O.globalResetCause 3 :=
    csrBit_of_csrGet 3 (by
      rw [hu]
      exact (csrGet_csrPut_other _ _ (by decide)).trans ((csrGet_csrPut_other _ _ (by decide)).trans (by rw [hw]; rfl)))
  have hshed : csrBits u O.powerShed 10 8 = csrBits (noteDeepest w 7) O.powerShed 10 8 := csrBits_congr 10 8 (by
    rw [hu]
    exact csrGet_csrPut_other _ _ (by decide))
  have hlt : csrBits w O.powerShed 10 8 < 8 := by
    rw [csrBits, bitsOf_eq_div_mod]
    omega
  refine ⟨u, ?_, ?_, ?_, by rw [hu, hw]; rfl, by rw [hu, hw]; rfl⟩
  · rw [hu, hw]
    exact congrArg Host.Outcome.next ((if_neg (by rw [powered_of_boot hpower]; simp; omega)).trans
      ((if_neg (by rw [hsag]; decide)).trans (if_pos hthermal)))
  · rw [hbit, csrBit_csrPutBits_same _ _ (by decide)]
    rfl
  · rw [hshed, noteDeepest, csrBits_csrPutBits_same _ _ _ _ (by decide), Nat.max_eq_right (by omega)]
    rfl

/-! ### Temperature -/

section
variable {g t1 t2 : Nat} (hpower : s.power.boot ≠ .down) (hthermal : s.power.thermalOff = false) (hg : g < 32)
include hpower hthermal hg

theorem junction_row (e : Bool) : exec (.junctionSensorRead g t1 t2 e) s = .next (
    let w := s.withPower (fun p => { p with tj := tset p.tj g (t1, t2) })
    if 230 ≤ max t1 t2 then junctionShutdown w g else if g < 32 ∧ e then adjustJunction w g t1 t2 else w) :=
  congrArg Host.Outcome.next ((if_neg (by rw [powered_of_boot hpower]; simp; omega)).trans
      (if_neg (by rw [hthermal]; decide)))

omit hpower hthermal hg in
/-- What an adjustment of the duty of a cluster leaves. -/
theorem adjustJunction_spec (w : State) (g t1 t2 : Nat) : tget (adjustJunction w g t1 t2).power.juncDuty g 16 =
      (if 210 ≤ max t1 t2 then max (tget w.power.juncDuty g 16 - 1) 4
        else if max t1 t2 < 204 then min (tget w.power.juncDuty g 16 + 1) 16 else tget w.power.juncDuty g 16) ∧
    (adjustJunction w g t1 t2).power.tj = w.power.tj ∧ (adjustJunction w g t1 t2).mem = w.mem := by
  obtain ⟨d, hd⟩ : ∃ d, d = (if 210 ≤ max t1 t2 then max (tget w.power.juncDuty g 16 - 1) 4
    else if max t1 t2 < 204 then min (tget w.power.juncDuty g 16 + 1) 16 else tget w.power.juncDuty g 16) := ⟨_, rfl⟩
  obtain ⟨y, hy⟩ : ∃ y, y = w.withPower (fun p => { p with juncDuty := tset p.juncDuty g d }) := ⟨_, rfl⟩
  obtain ⟨⟨_, _, hframe⟩, -⟩ := tells_raise_note y (code := 0x7013) 3 3 g [] (by decide)
  obtain ⟨z, hz⟩ : ∃ z, z = (if (tget w.power.juncDuty g 16 = 16) = (d = 16) then y else raise y 0x7013 0 3 3 g []) :=
      ⟨_, rfl⟩
  have hkept : z.power = y.power ∧ z.mem = y.mem := by
    rw [hz]
    split
    · exact ⟨rfl, rfl⟩
    · rw [hframe]
      exact ⟨rfl, rfl⟩
  have hadjust : adjustJunction w g t1 t2 = if d < 16 then bump z O.powerCntThrottle else z := by
    unfold adjustJunction
    dsimp only
    rw [← hd, ← hy, ← hz]
  have hlast : (adjustJunction w g t1 t2).power = y.power ∧ (adjustJunction w g t1 t2).mem = y.mem := by
    rw [hadjust]
    split
    · exact hkept
    · exact hkept
  rw [hlast.1, hlast.2, ← hd, hy]
  exact ⟨tget_tset_same _ _ _ _, rfl, rfl⟩

theorem junction_slows (hhot : 210 ≤ max t1 t2) (hlimit : max t1 t2 < 230) :
    completes (.junctionSensorRead g t1 t2 true) s (fun u =>
      tget u.power.juncDuty g 16 = max (tget s.power.juncDuty g 16 - 1) 4 ∧ tget u.power.tj g (0, 0) = (t1, t2) ∧
      u.mem = s.mem) := by
  obtain ⟨hduty, htj, hmem⟩ := adjustJunction_spec (s.withPower (fun p => { p with tj := tset p.tj g (t1, t2) })) g t1 t2
  refine ⟨_, junction_row hpower hthermal hg true, ?_⟩
  dsimp only
  rw [if_neg (by omega), if_pos ⟨hg, rfl⟩, hduty, htj, hmem, if_pos hhot]
  exact ⟨rfl, tget_tset_same _ _ _ _, rfl⟩

theorem junction_speeds (hcool : max t1 t2 < 204) : completes (.junctionSensorRead g t1 t2 true) s (fun u =>
      tget u.power.juncDuty g 16 = min (tget s.power.juncDuty g 16 + 1) 16 ∧ tget u.power.tj g (0, 0) = (t1, t2) ∧
      u.mem = s.mem) := by
  obtain ⟨hduty, htj, hmem⟩ := adjustJunction_spec (s.withPower (fun p => { p with tj := tset p.tj g (t1, t2) })) g t1 t2
  refine ⟨_, junction_row hpower hthermal hg true, ?_⟩
  dsimp only
  rw [if_neg (by omega), if_pos ⟨hg, rfl⟩, hduty, htj, hmem, if_neg (by omega), if_pos hcool]
  exact ⟨rfl, tget_tset_same _ _ _ _, rfl⟩

end

theorem loseDomain_power (s : State) (d : Nat) : (loseDomain s d).power = s.power := by
  unfold loseDomain
  split
  · exact foldl_keeps (f := _) State.power (by exact fun _ _ => rfl) (coresOf d) s
  · split
    · rfl
    · split
      · rfl
      · split <;> rfl

/-- A domain that is turned off is off, and the others are as they were. -/
theorem getDom_domOff (s : State) (d k : Nat) :
    (getDom (domOff s d) k).st = if k = d then .off else (getDom s k).st := by
  unfold domOff
  split
  · next h =>
    split
    · next hk => rw [hk, h.1]
    · rfl
  · rw [getDom, loseDomain_power, ← getDom]
    split
    · next hk => rw [hk, getDom_setDom_same]
    · next hk => rw [getDom_setDom_other _ _ hk]

theorem domsOffBut_off (s : State) : ∀ d, d < 57 → (getDom (domsOffBut s []) d).st = .off := by
  have hall := foldl_establishes (f := domOff) (P := fun d u => (getDom u d).st = .off)
    (fun w d => by rw [getDom_domOff, if_pos rfl]) (fun w d e h => by rw [getDom_domOff, h, ite_self])
    ((List.range 57).filter (fun d => !([] : List Nat).contains d)) s
  exact fun d hd => hall d (List.mem_filter.mpr ⟨List.mem_range.mpr hd, rfl⟩)

theorem portDown_power (s : State) (p : Nat) : (portDown s p).power = s.power := by
  unfold portDown
  split
  · obtain ⟨_, _, h⟩ := raise_note_eq_with (setPort { s with egress := s.egress.filter (fun e => decide (e.1 / 8 ≠ p)) } p
      { getPort s p with up := false, fill := [], xoff := [], held := [] }) 0x6002 3 6 p [p]
    rw [h]
    rfl
  · rfl

theorem junctionShutdown_spec (s : State) (g : Nat) : (junctionShutdown s g).dev = .fenced ∧
    (junctionShutdown s g).power.thermalOff = true ∧ (junctionShutdown s g).power.failLow = true ∧
    (junctionShutdown s g).mem = [] ∧ (junctionShutdown s g).err.fatal.map (fun r => r.code) = some 0x7014 ∧
    ∀ d, d < 57 → (getDom (junctionShutdown s g) d).st = .off := by
  obtain ⟨r, hr⟩ : ∃ r, r = (takeSeq (countEvent s 0x7014 4) ⟨0x7014, 4, 4, 3, 0, s.cycle, if s.inStep then s.step else 0,
      1,
    (junctionSource g).1, (junctionSource g).2, epochOf s, [0, 0, 0, 0], s.inStep⟩) := ⟨_, rfl⟩
  have hcode : r.2.code = 0x7014 := by rw [hr]; rfl
  obtain ⟨w, hw⟩ : ∃ w, w = domsOffBut (logRec r.1 r.2) [] := ⟨_, rfl⟩
  have hoff : ∀ d, d < 57 → (getDom w d).st = .off := hw ▸ domsOffBut_off _
  obtain ⟨y, hy⟩ : ∃ y, y = (List.range 8).foldl portDown w := ⟨_, rfl⟩
  have hpower : y.power = w.power := hy ▸ foldl_keeps portDown State.power portDown_power (List.range 8) w
  obtain ⟨z, hz⟩ : ∃ z : State, z = (({ y with
    dev := .fenced, act := .none, inStep := false, mem := [], bad := [], inbox := []
    ports := y.ports.map (fun e => (e.1, Port.reset)), mend := { y.mend with table := none } } : State).withErr
        (fun e => { e with
    fatal := some r.2, fence := none, cause := none, hard := true, running := e.running.filter (fun r => decide (r.sev ≠ 4))
    queues := tdel e.queues 4, frozen := false, dump := none, collecting := none })).withPower
      (fun p => { p with thermalOff := true }) := ⟨_, rfl⟩
  have hshutdown : junctionShutdown s g = failLow z := by
    unfold junctionShutdown
    dsimp only
    rw [← hr, ← hw, ← hy, hz]
  have hkept : ∃ p egress out wire csr, failLow z = { z with
      power := { z.power with failLow := p }, egress := egress, out := out, wire := wire, csr := csr } ∧ p = true := by
    unfold failLow
    split
    · next hlow => exact ⟨z.power.failLow, _, _, _, _, rfl, hlow⟩
    · obtain ⟨_, _, _, h⟩ := emit_eq_with { z with power := { z.power with failLow := true } } (.failN true)
      exact ⟨true, _, _, _, _, h, rfl⟩
  obtain ⟨_, _, _, _, _, hlow, rfl⟩ := hkept
  rw [hshutdown, hlow]
  refine ⟨by rw [hz]; rfl, by rw [hz]; rfl, rfl, by rw [hz]; rfl, ?_, fun d hd => ?_⟩
  · rw [hz]
    exact congrArg some hcode
  · rw [hz]
    change (tget y.power.doms d Dom.offDom).st = .off
    rw [hpower]
    exact hoff d hd

theorem thermalRecoverBoot_completes (hpower : s.power.boot ≠ .down) (hthermal : s.power.thermalOff = true)
    (hcool : ∀ e ∈ s.power.tj, max e.2.1 e.2.2 < 190) : completes .thermalRecoverBoot s (fun u =>
      (u.dev = .boot ∧ u.power.boot = .selfTest ∧ u.mem = [] ∧ u.weave = none ∧
        csrBit u O.globalResetCause 4 = true ∧ u.sec.keys = s.sec.keys ∧ u.sec.scopes = 0) ∧
      u.power.thermalOff = false ∧ u.power.failLow = s.power.failLow ∧ u.err.log = s.err.log) := by
  obtain ⟨w, hw⟩ : ∃ w, w = resetBy s 4 .selfTest true := ⟨_, rfl⟩
  have hreset : ResetTo s w .selfTest 4 (true || s.power.testEn) := hw ▸ resetBy_spec s (by decide) .selfTest true
  obtain ⟨hdev, hpow, hmem, hweave, hcause, hsec, hlog, -, -⟩ := hreset
  have hall : s.power.tj.all (fun e => decide (max e.2.1 e.2.2 < 190)) = true :=
    List.all_eq_true.mpr fun e he => decide_eq_true (hcool e he)
  refine ⟨w.withPower (fun p => { p with sagOff := s.power.sagOff }), ?_, ⟨hdev, ?_, hmem, hweave, hcause, ?_, ?_⟩, ?_, ?_,
    hlog⟩
  · rw [hw]
    exact congrArg Host.Outcome.next (if_pos ⟨powered_of_boot hpower, hthermal, hall⟩)
  · change w.power.boot = _
    rw [hpow]
  · change w.sec.keys = _
    rw [hsec]
  · change w.sec.scopes = _
    rw [hsec]
  · change w.power.thermalOff = _
    rw [hpow]
    rfl
  · change w.power.failLow = _
    rw [hpow]
    exact (Bool.and_true _)

/-! ### The power cap -/

theorem capDutyOf_bounds (d g : Nat) : 1 ≤ capDutyOf d g ∧ capDutyOf d g ≤ 16 := by
  unfold capDutyOf
  split <;> omega

/-- The duties that a grant gives. -/
theorem capDuties_bounds (gs : List (Nat × Nat × Nat)) (t : Tbl Nat) (ht : ∀ k, 1 ≤ tget t k 16 ∧ tget t k 16 ≤ 16)
    (k : Nat) :
    1 ≤ tget (gs.foldl (fun t x => tset t x.1 (capDutyOf x.2.1 x.2.2)) t) k 16 ∧
    tget (gs.foldl (fun t x => tset t x.1 (capDutyOf x.2.1 x.2.2)) t) k 16 ≤ 16 := by
  induction gs generalizing t with
  | nil => exact ht k
  | cons x gs ih =>
    refine ih _ fun j => ?_
    by_cases hj : j = x.1
    · rw [hj, tget_tset_same]
      exact capDutyOf_bounds _ _
    · rw [tget_tset_other _ _ _ hj]
      exact ht j

/-- The two halves of the register of tokens, of a grant within the cap. -/
theorem tokens_sum {cap granted : Nat} (hcap : cap < 65536) (hgranted : granted ≤ cap) :
    bitsOf (((cap - granted) * 65536 + granted) % 2 ^ 32) 31 16 + bitsOf (((cap - granted) * 65536 + granted) % 2 ^ 32) 15 0
        =
      cap := by
  obtain ⟨rest, rfl⟩ := Nat.exists_eq_add_of_le hgranted
  rw [Nat.add_sub_cancel_left, Nat.mod_eq_of_lt (by omega), bitsOf_eq_div_mod, bitsOf_eq_div_mod]
  change (rest * 65536 + granted) / 65536 % 65536 + (rest * 65536 + granted) / 1 % 65536 = granted + rest
  have hhigh : (rest * 65536 + granted) / 65536 = rest := by omega
  have hlow : (rest * 65536 + granted) / 1 % 65536 = granted := by omega
  rw [hhigh, hlow, Nat.mod_eq_of_lt (by omega), Nat.add_comm]

theorem capGrant_completes {other : Nat} {clusters : List Nat} (hpower : s.power.boot ≠ .down) :
    completes (.capGrant other clusters) s (fun u =>
      csrBits u O.powerTokens 31 16 + csrBits u O.powerTokens 15 0 = csrBits s O.powerCap 15 0 ∧
      (∀ k, 1 ≤ tget u.power.capDuty k 16 ∧ tget u.power.capDuty k 16 ≤ 16) ∧
      (csrBit s O.powerCtrl 0 = false → u.power.capDuty = []) ∧
      u.power.inputW = min (other + (clusters.take 32).sum) 0xFFFF ∧ u.mem = s.mem) := by
  obtain ⟨cap, hcap⟩ : ∃ cap, cap = csrBits s O.powerCap 15 0 := ⟨_, rfl⟩
  have hlt : cap < 65536 := by
    rw [hcap, csrBits, bitsOf_eq_div_mod]
    omega
  obtain ⟨fixed, hfixed⟩ : ∃ f, f = other + 24 * (32 - (class1Clusters s).length) := ⟨_, rfl⟩
  obtain ⟨ds, hds⟩ : ∃ ds, ds = (class1Clusters s).map (fun g => (g, capDemand s (clusters.getD g 0) g)) := ⟨_, rfl⟩
  obtain ⟨gs, hgs⟩ : ∃ gs, gs = ds.map (fun x => (x.1, x.2, capShare (cap - fixed) (ds.map Prod.snd).sum x.2)) := ⟨_, rfl⟩
  obtain ⟨duty, hduty⟩ : ∃ duty : Tbl Nat, duty = (if csrBit s O.powerCtrl 0 then
    gs.foldl (fun t x => tset t x.1 (capDutyOf x.2.1 x.2.2)) [] else []) := ⟨_, rfl⟩
  obtain ⟨granted, hgranted⟩ : ∃ k, k = min (fixed + (gs.map (fun x => x.2.2)).sum) cap := ⟨_, rfl⟩
  obtain ⟨total, htotal⟩ : ∃ k, k = other + (clusters.take 32).sum := ⟨_, rfl⟩
  obtain ⟨y, hy⟩ : ∃ y, y = csrPut (s.withPower (fun p => { p with capDuty := duty, inputW := min total 0xFFFF }))
      O.powerTokens
    ((cap - granted) * 65536 + granted) := ⟨_, rfl⟩
  obtain ⟨z, hz⟩ : ∃ z, z = csrPutBits y O.powerInput 31 16 (max (csrBits y O.powerInput 31 16) (min total 0xFFFF)) :=
      ⟨_, rfl⟩
  obtain ⟨low, hlow⟩ : ∃ low, low = (duty.filter (fun e => decide (e.2 < 16))).map Prod.fst := ⟨_, rfl⟩
  obtain ⟨a, ha⟩ : ∃ a, a = (if low.isEmpty then z else bump z O.powerCntCapped) := ⟨_, rfl⟩
  have hkept : a.power = y.power ∧ a.mem = y.mem ∧ csrGet a O.powerTokens = csrGet y O.powerTokens := by
    have hput : csrGet z O.powerTokens = csrGet y O.powerTokens := hz ▸ csrGet_csrPut_other _ _ (by decide)
    rw [ha]
    split
    · rw [hput, hz]
      exact ⟨rfl, rfl, rfl⟩
    · rw [csrGet_bump_other _ _ (by decide), hput, hz]
      exact ⟨rfl, rfl, rfl⟩
  obtain ⟨hpow, hmem, htokens⟩ := hkept
  obtain ⟨⟨_, _, hframe⟩, hcsr⟩ := foldl_rel Tells.refl Tells.trans
    (fun w g => tells_raise_note w (code := 0x7015) 1 3 g [] (by decide)) low a
  have hgrant : grantCap s other clusters = low.foldl (fun s g => raise s 0x7015 0 1 3 g []) a := by
    unfold grantCap
    dsimp only
    rw [← hcap, ← hfixed, ← hds, ← hgs, ← hduty, ← hgranted, ← htotal, ← hy, ← hz, ← hlow, ← ha]
  have hpower' : (grantCap s other clusters).power = { s.power with capDuty := duty, inputW := min total 0xFFFF } := by
    rw [hgrant, hframe]
    exact hpow.trans (by rw [hy]; rfl)
  have hsum : ∀ hi lo, csrBits (grantCap s other clusters) O.powerTokens hi lo =
      bitsOf (((cap - granted) * 65536 + granted) % 2 ^ 32) hi lo := fun hi lo => by
    rw [csrBits, hgrant, hcsr _ (.inl (by decide)), htokens, hy, csrGet_csrPut_same]
  refine ⟨grantCap s other clusters, congrArg Host.Outcome.next (if_pos (powered_of_boot hpower)), ?_, ?_, fun hoff => ?_,
      ?_, ?_⟩
  · rw [hsum, hsum, ← hcap]
    exact tokens_sum hlt (by omega)
  · rw [hpower']
    have hnone : ∀ k, 1 ≤ tget ([] : Tbl Nat) k 16 ∧ tget ([] : Tbl Nat) k 16 ≤ 16 := fun _ => by
      change 1 ≤ 16 ∧ 16 ≤ 16
      decide
    change ∀ k, 1 ≤ tget duty k 16 ∧ tget duty k 16 ≤ 16
    rw [hduty]
    split
    · exact capDuties_bounds gs [] hnone
    · exact hnone
  · rw [hpower']
    change duty = []
    rw [hduty, hoff]
    rfl
  · rw [hpower', htotal]
  · rw [hgrant, hframe]
    exact hmem.trans (by rw [hy]; rfl)

/-! ### PMBus -/

theorem pmbusFault_spec (s : State) : (hasRoom s 0 → queued (pmbusFault s) 0 0x7016) ∧
    csrGet (pmbusFault s) O.powerCntPmbFault = min (csrGet s O.powerCntPmbFault + 1) 0xFFFFFFFF ∧
    ∀ k, k < 3 → csrGet (pmbusFault s) (O.powerRail k) = csrGet s (O.powerRail k) := by
  have hcsr := fun o ho => csrGet_raise_note s (o := o) (code := 0x7016) 3 0 0 [] (by decide) ho
  refine ⟨fun hroom => queued_raise_note s 0x7016 3 0 0 [] (.inl hroom), ?_, fun k hk => ?_⟩
  · rw [pmbusFault, csrGet_bump_same, hcsr _ (.inl (by decide))]
  · rw [pmbusFault, csrGet_bump_other _ _ (by unfold O.powerRail O.powerCntPmbFault; omega),
      hcsr _ (.inl (by unfold O.powerRail; omega))]

theorem pmbusPoll_silent {page : Nat} (hpower : s.power.boot ≠ .down) (hon : csrBit s O.powerCtrl 1 = true)
    (hpage : page < 3) :
    completes (.pmbusPoll page none) s (fun u => csrGet u (O.powerRail page) = 0xFFFFFFFF ∧
        (hasRoom s 0 → queued u 0 0x7016) ∧
      csrGet u O.powerCntPmbFault = min (csrGet s O.powerCntPmbFault + 1) 0xFFFFFFFF) := by
  obtain ⟨w, hw⟩ : ∃ w, w = csrPut s (O.powerRail page) 0xFFFFFFFF := ⟨_, rfl⟩
  obtain ⟨hqueued, hcount, hrails⟩ := pmbusFault_spec w
  refine ⟨pmbusFault w, ?_, ?_, fun hroom => hqueued (by rw [hw]; exact hroom), ?_⟩
  · rw [hw]
    exact congrArg Host.Outcome.next (if_neg (by rw [powered_of_boot hpower, hon]; simp; omega))
  · rw [hrails page hpage, hw, csrGet_csrPut_same, Nat.mod_eq_of_lt (by decide)]
  · rw [hcount, hw, csrGet_csrPut_other _ _ (by unfold O.powerRail O.powerCntPmbFault; omega)]

theorem pmbAlert_completes (hpower : s.power.boot ≠ .down) : completes .pmbAlert s (fun u =>
    (∀ k, k < 3 → csrGet u (O.powerRail k) = 0xFFFFFFFF) ∧ (hasRoom s 0 → queued u 0 0x7016)) := by
  obtain ⟨w, hw⟩ : ∃ w, w = [0, 1, 2].foldl (fun s p => csrPut s (O.powerRail p) 0xFFFFFFFF) s := ⟨_, rfl⟩
  obtain ⟨hqueued, -, hrails⟩ := pmbusFault_spec w
  have hput := foldl_establishes (f := fun s p => csrPut s (O.powerRail p) 0xFFFFFFFF)
    (P := fun p u => csrGet u (O.powerRail p) = 0xFFFFFFFF) (fun y p => by rw
        [csrGet_csrPut_same, Nat.mod_eq_of_lt (by decide)]) (fun y p p' h => by
      by_cases heq : p = p'
      · rw [heq, csrGet_csrPut_same, Nat.mod_eq_of_lt (by decide)]
      · rw [csrGet_csrPut_other _ _ (by unfold O.powerRail; omega), h]) [0, 1, 2] s
  refine ⟨pmbusFault w, ?_, fun k hk => ?_, fun hroom => hqueued (by rw [hw]; exact hroom)⟩
  · rw [hw]
    exact congrArg Host.Outcome.next (if_pos (powered_of_boot hpower))
  · rw [hrails k hk, hw]
    exact hput k (by simp; omega)

/-! ### The commands of WCP -/

theorem powerCap_completes {watts : Nat} (h : upNext s q 0x703 false n) (hdev : s.dev ≠ .fenced) (hlow : 400 ≤ watts)
    (hhigh : watts ≤ 1200) : completes (.powerCap q watts) s (fun u =>
      csrBits u O.powerCap 15 0 = watts ∧ answered (begun s q 0x703 n) u n stOk 0 []) := by
  obtain ⟨w, hw⟩ : ∃ w, w = csrPutBits (begun s q 0x703 n) O.powerCap 15 0 watts := ⟨_, rfl⟩
  obtain ⟨_, _, _, hu⟩ := respond_eq_with w n stOk 0 []
  refine ⟨respond w n stOk, ?_, ?_, answered_of_sessions (by rw [hw]; rfl) (answered_respond w n stOk 0 [])⟩
  · refine congrArg Host.Outcome.next ((wcpRow_of_upNext h (ok_notFenced h hdev) rfl).trans ?_)
    rw [if_neg (by omega), hw]
  · have hcsr : csrBits (respond w n stOk) O.powerCap 15 0 = csrBits w O.powerCap 15 0 := csrBits_congr 15 0
        (by rw [hu]; rfl)
    rw [hcsr, hw, csrBits_csrPutBits_same _ _ _ _ (by decide)]
    omega

theorem telemetry_completes (h : upNext s q 0x701 false n) : completes (.telemetry q) s (fun u =>
    u.power.minTele = 0xFFFF ∧ answered (begun s q 0x701 n) u n stOk 0 (telemetryBytes (begun s q 0x701 n))) := by
  obtain ⟨w, hw⟩ : ∃ w, w = (begun s q 0x701 n).useFree.withPower (fun p => { p with minTele := 0xFFFF }) := ⟨_, rfl⟩
  obtain ⟨bs, hbs⟩ : ∃ bs, bs = telemetryBytes (begun s q 0x701 n) := ⟨_, rfl⟩
  obtain ⟨_, _, _, hu⟩ := respond_eq_with w n stOk 0 bs
  rw [← hbs]
  refine ⟨respond w n stOk 0 bs, ?_, by rw [hu, hw]; rfl, answered_of_sessions (by rw [hw]; rfl)
      (answered_respond w n stOk 0 bs)⟩
  rw [hw, hbs]
  exact congrArg Host.Outcome.next (wcpRow_of_upNext h rfl rfl)

/-- What leaves by a port takes nothing from what was sent. -/
theorem flushEgress_frame (p k : Nat) (s : State) : (flushEgress p k s).sec = s.sec ∧ (flushEgress p k s).out = s.out := by
  have hserve : ∀ w : State, (serveEgress w p).sec = w.sec ∧ (serveEgress w p).out = w.out := fun w => by
    have hleave : ∀ (y : State) e, (leave y e).sec = y.sec ∧ (leave y e).out = y.out := fun y e => ⟨rfl, rfl⟩
    unfold serveEgress
    split
    · exact ⟨rfl, rfl⟩
    · split
      · exact ⟨rfl, rfl⟩
      · split
        · exact ⟨rfl, rfl⟩
        · dsimp only
          split
          · exact hleave _ _
          · exact hleave _ _
  induction k generalizing s with
  | zero => exact ⟨rfl, rfl⟩
  | succ k ih =>
    obtain ⟨hsec, hout⟩ := ih (serveEgress s p)
    obtain ⟨hsec', hout'⟩ := hserve s
    exact ⟨hsec.trans hsec', hout.trans hout'⟩

theorem wcpReset_completes {x : Session} (h : upNext s q 0x704 false n) (hsession : n.session ≠ 0)
    (hfound : findSession (begun s q 0x704 n) n.session = some x) : completes (.wcpReset q) s (fun u =>
      (u.dev = .boot ∧ u.power.boot = .romStart ∧ u.mem = [] ∧ u.weave = none ∧
        csrBit u O.globalResetCause 2 = true ∧ u.sec.keys = s.sec.keys ∧ u.sec.scopes = 0) ∧
      .resp x.bind x.id n.seq n.opcode stOk 0 [] ∈ u.out ∧ u.wcp.sessions = []) := by
  obtain ⟨-, -, hsame, -⟩ := img_begun h
  obtain ⟨b, hb⟩ : ∃ b, b = begun s q 0x704 n := ⟨_, rfl⟩
  rw [← hb] at hsame hfound
  obtain ⟨-, hsent⟩ := answered_respond b n stOk 0 []
  obtain ⟨hhead, -⟩ := hsent x hsession hfound
  obtain ⟨_, _, _, hu⟩ := respond_eq_with b n stOk 0 []
  obtain ⟨w, hw⟩ : ∃ w, w = flushPort (respond b n stOk) n.bind.port := ⟨_, rfl⟩
  have hflush : w.sec = (respond b n stOk).sec ∧ w.out = (respond b n stOk).out := by
    rw [hw]
    exact flushEgress_frame _ _ _
  obtain ⟨hsec, hout⟩ := hflush
  have hsec' : w.sec = s.sec := hsec.trans (by rw [hu]; exact hsame)
  obtain ⟨hdev, hpow, hmem, hweave, hcause, hseck, -, hsessions, hkeeps⟩ := resetBy_spec w (cause := 2) (by decide)
      .romStart false
  refine ⟨resetBy w 2 .romStart false, ?_, ⟨hdev, by rw [hpow], hmem, hweave, hcause, by rw [hseck, hsec'], by rw [hseck]⟩,
    hkeeps _ ?_, hsessions⟩
  · rw [hw, hb]
    exact congrArg Host.Outcome.next (wcpRow_of_upNext h rfl rfl)
  · rw [hout]
    exact List.mem_of_mem_head? hhead

/-- Settles O53: the supply, temperature, the cap, PMBus and the commands of WCP, each by its own lemma. -/
theorem powerShedsAndResets : Obligations.PowerShedsAndResets := by
  intro s q n level mv g t1 t2 other page watts clusters te p x
  refine ⟨vsbRise_completes, fun hpower => ⟨vsbFall_completes hpower, vinSagDown_completes hpower, sagLevelReturn_completes
      hpower,
      vinReset_completes hpower, vinReset_cold hpower, fun hmv =>
        ⟨noteVin (s.withPower (fun p => { p with sagOff := false })) mv, ?_, rfl, rfl, rfl, rfl⟩, fun hthermal hg =>
      ⟨junction_slows hpower hthermal hg, junction_speeds hpower hthermal hg, fun hhot e => ?_⟩,
      thermalRecoverBoot_completes hpower, capGrant_completes hpower, fun hon hpage => ⟨fun hsound => ⟨_, ?_, rfl⟩,
        pmbusPoll_silent hpower hon hpage⟩, pmbAlert_completes hpower⟩,
    powerCap_completes, telemetry_completes, wcpReset_completes⟩
  · exact congrArg Host.Outcome.next (if_neg (by rw [powered_of_boot hpower]; simp; omega))
  · refine ⟨_, junction_row hpower hthermal hg e, ?_⟩
    dsimp only
    rw [if_pos hhot]
    exact junctionShutdown_spec _ _
  · refine congrArg Host.Outcome.next ((if_neg (by rw [powered_of_boot hpower, hon]; simp; omega)).trans ?_)
    dsimp only
    rw [if_neg (by rw [hsound]; decide)]

end Sys2Proof.Machine
end

section
/-! O55. Boot, the training of the stacks, the scrub and JTAG. -/

open Sys2Proof
namespace Sys2Proof.Machine

variable {s u v : State} {k t a : Nat}

/-! ### Boot -/

theorem setBoot_failLow (s : State) (b : BootStage) : (failLow (setBoot s b)).power.boot = b := by
  unfold failLow
  split
  · rfl
  · rw [emit_of_noFrames rfl]
    rfl

theorem railsDone_completes (hrails : bootsFrom s .rails = true) : completes .railsDone s (fun u =>
    u.power.boot = .uncore ∧ ∀ d ∈ [52, 54, 55, 56], (getDom u d).mgmt = .on) := by
  refine ⟨_, congrArg Host.Outcome.next (if_pos hrails), ?_, ?_⟩
  · refine (foldl_keeps _ (fun w : State => w.power.boot) (fun w d => ?_) _ _).trans rfl
    obtain ⟨_, hsettled⟩ := settleDom_eq_with (setDom w d { getDom w d with mgmt := .on }) d
    rw [setMgmt, hsettled]
    rfl
  · refine foldl_establishes (P := fun d w => (getDom w d).mgmt = .on) (fun w d => ?_) (fun w d e h => ?_) _ _
    · rw [getDom_setMgmt, if_pos rfl]
    · rw [getDom_setMgmt]
      split
      · rfl
      · exact h

theorem railsRetry_completes (hrails : bootsFrom s .rails = true) : completes .railsRetry s (fun u =>
    u.power.boot = .rails ∧ (hasRoom s 0 → queued u 0 0x7016) ∧
    u.out = .operationOn 2 :: .operationOn 1 :: .operationOn 0 :: s.out) := by
  obtain ⟨_, _, hraise⟩ := raise_minor_eq_with s (sev := 0) (by decide) 0x7016 3 0 0 []
  have hfault : (pmbusFault s).out = s.out ∧ (pmbusFault s).power = s.power := by
    rw [pmbusFault, hraise]
    exact ⟨rfl, rfl⟩
  have hboot : s.power.boot = .rails := by
    simp only [bootsFrom, Bool.and_eq_true, decide_eq_true_eq] at hrails
    exact hrails.1.1.1.1
  exact ⟨_, congrArg Host.Outcome.next (if_pos hrails), (congrArg PowerSt.boot hfault.2).trans hboot,
    (pmbusFault_spec s).1, congrArg (fun l => Emit.operationOn 2 :: .operationOn 1 :: .operationOn 0 :: l) hfault.1⟩

theorem releaseFail_spec (s : State) : (releaseFail s).power = { s.power with failLow := false } ∧
    (releaseFail s).mem = s.mem := by
  unfold releaseFail
  split
  · rw [emit_of_noFrames rfl]
    exact ⟨rfl, rfl⟩
  · next hlow =>
    have hlow : s.power.failLow = false := by simpa using hlow
    rw [← hlow]
    exact ⟨rfl, rfl⟩

theorem uncoreDone_completes (huncore : bootsFrom s .uncore = true) (hruns : ∀ d ∈ [52, 54, 55, 56], domRuns s d = true) :
    completes .uncoreDone s (fun u => u.dev = .idle ∧ u.power.boot = .done ∧ u.power.failLow = false ∧ u.mem = s.mem) := by
  have hall : uncoreDoms.all (domRuns s) = true := List.all_eq_true.mpr hruns
  obtain ⟨w, hw⟩ : ∃ w, w = releaseFail (setBoot s .done) := ⟨_, rfl⟩
  obtain ⟨hpower, hmem⟩ := hw ▸ releaseFail_spec (setBoot s .done)
  obtain ⟨_, _, _, _, _, _, hdev⟩ := setDev_reports w .idle
  refine ⟨setDev w .idle, ?_, setDev_dev w .idle, ?_, ?_, (setDev_mem w .idle).trans hmem⟩
  · rw [hw]
    exact congrArg Host.Outcome.next (if_pos ⟨huncore, hall⟩)
  · rw [hdev]
    exact congrArg PowerSt.boot hpower
  · rw [hdev]
    exact congrArg PowerSt.failLow hpower

/-! ### The stacks -/

/-- A DEVICE event that begins a fence touches counters and the error state alone. -/
theorem raise_device_eq_with (hfence : s.err.fence = none) (hboot : s.dev ≠ .boot) (hfenced : s.dev ≠ .fenced)
    (code cls srcKind src : Nat) (info : List Nat) :
    ∃ csr err, raise s code 4 cls srcKind src info = { s with csr := csr, err := err } := by
  unfold raise
  rw [if_neg (by simp), placeEvent, if_pos rfl, placeDevice, if_neg (by rw [hfence]; simp)]
  dsimp only
  rw [if_neg hboot, if_neg hfenced]
  exact ⟨_, _, rfl⟩

section
variable (hk : k < 8) (hruns : domRuns s (32 + k / 2) = true) (hcool : (getStack s k).hot = false)
include hk hruns hcool

theorem hbmTempRead_row (t : Nat) : exec (.hbmTempRead k t) s = .next (
    if 200 ≤ min t 0x1FF then
      raise (setStack (csrPutBits s (O.hbmTemp k) 11 11 1) k { getStack s k with temp := min t 0x1FF, level := 3, hot :=
          true })
        0x7001 4 3 4 k
    else if hbmLevel (getStack s k).level (min t 0x1FF) = (getStack s k).level then
      setStack (csrPutBits s (O.hbmTemp k) 11 11 1) k
        { getStack s k with temp := min t 0x1FF, level := hbmLevel (getStack s k).level (min t 0x1FF) }
    else raise (setStack (csrPutBits s (O.hbmTemp k) 11 11 1) k
        { getStack s k with temp := min t 0x1FF, level := hbmLevel (getStack s k).level (min t 0x1FF) })
      0x2020 0 3 4 k [k, min t 0x1FF, hbmLevel (getStack s k).level (min t 0x1FF)]) :=
  congrArg Host.Outcome.next ((if_neg (by rw [hruns]; simp; omega)).trans (if_neg (by rw [hcool]; decide)))

theorem hbmTempRead_cool (ht : t < 200) : completes (.hbmTempRead k t) s (fun u =>
    getStack u k = { getStack s k with temp := t, level := hbmLevel (getStack s k).level t } ∧
    csrBit u (O.hbmTemp k) 11 = true ∧ (hbmLevel (getStack s k).level t ≠ (getStack s k).level → hasRoom s 0 → queued u 0
        0x2020) ∧
    u.mem = s.mem) := by
  have hmin : min t 0x1FF = t := Nat.min_eq_left (by omega)
  obtain ⟨w, hw⟩ : ∃ w, w = setStack (csrPutBits s (O.hbmTemp k) 11 11 1) k
    { getStack s k with temp := t, level := hbmLevel (getStack s k).level t } := ⟨_, rfl⟩
  have hrow := hbmTempRead_row hk hruns hcool t
  rw [hmin, if_neg (by omega), ← hw] at hrow
  have hstack : getStack w k = { getStack s k with temp := t, level := hbmLevel (getStack s k).level t } := by
    rw [hw, getStack_setStack_same]
  have hbit : csrBit w (O.hbmTemp k) 11 = true := by
    have hsame : csrBit w (O.hbmTemp k) 11 = csrBit (csrPutBits s (O.hbmTemp k) 11 11 1) (O.hbmTemp k) 11 :=
      csrBit_of_csrGet 11 (by rw [hw]; rfl)
    rw [hsame, csrBit_csrPutBits_same _ _ (by decide)]
    rfl
  have hmem : w.mem = s.mem := by rw [hw]; rfl
  by_cases hlevel : hbmLevel (getStack s k).level t = (getStack s k).level
  · exact ⟨w, hrow.trans (by rw [if_pos hlevel]), hstack, hbit, fun h => absurd hlevel h, hmem⟩
  · obtain ⟨info, hinfo⟩ : ∃ info, info = [k, t, hbmLevel (getStack s k).level t] := ⟨_, rfl⟩
    obtain ⟨_, _, hraise⟩ := raise_minor_eq_with w (sev := 0) (by decide) 0x2020 3 4 k info
    rw [if_neg hlevel, ← hinfo] at hrow
    refine ⟨_, hrow, by rw [hraise]; exact hstack, ?_, fun _ hroom => ?_, by rw [hraise]; exact hmem⟩
    · rw [← hbit]
      exact csrBit_of_csrGet 11 (csrGet_raise_note _ _ _ _ _ (by decide) (.inr (by unfold O.hbmTemp; omega)))
    · exact queued_raise_note w 0x2020 3 4 k info (.inl (by rw [hw]; exact hroom))

theorem hbmTempRead_hot (ht : 200 ≤ t) (hboot : s.dev ≠ .boot) (hfenced : s.dev ≠ .fenced) (hfence : s.err.fence = none) :
    completes (.hbmTempRead k t) s (fun u =>
      getStack u k = { getStack s k with temp := min t 511, level := 3, hot := true } ∧ queued u 4 0x7001 ∧
      u.err.fence = some .freeze ∧ u.mem = s.mem) := by
  obtain ⟨w, hw⟩ : ∃ w, w = setStack (csrPutBits s (O.hbmTemp k) 11 11 1) k
    { getStack s k with temp := min t 0x1FF, level := 3, hot := true } := ⟨_, rfl⟩
  have hrow := hbmTempRead_row hk hruns hcool t
  rw [if_pos (by omega), ← hw] at hrow
  have hfence' : w.err.fence = none := by rw [hw]; exact hfence
  have hboot' : w.dev ≠ .boot := by rw [hw]; exact hboot
  have hfenced' : w.dev ≠ .fenced := by rw [hw]; exact hfenced
  obtain ⟨_, _, hraise⟩ := raise_device_eq_with hfence' hboot' hfenced' 0x7001 3 4 k []
  obtain ⟨-, hqueued, hfreeze⟩ := raise_device hfence' hboot' hfenced' 0x7001 3 4 k []
  refine ⟨_, hrow, ?_, hqueued, hfreeze, ?_⟩
  · rw [hraise]
    change getStack w k = _
    rw [hw, getStack_setStack_same]
  · rw [hraise, hw]
    rfl

end

theorem hbmTrainingDone_ready (htrains : (getStack s k).training = true) : completes (.hbmTrainingDone k true) s (fun u =>
    getStack u k = { getStack s k with training := false, ready := true } ∧
    ∀ i, memRead u.mem i = if stackBase k ≤ i ∧ i < stackBase k + 0x900000000 then 0#8 else memRead s.mem i) :=
  ⟨_, congrArg Host.Outcome.next ((if_neg (by rw [htrains]; decide)).trans (if_pos rfl)), getStack_setStack_same _ _ _,
    memRead_zeroed s.mem _ _⟩

theorem hbmTrainingDone_failed (htrains : (getStack s k).training = true) : completes (.hbmTrainingDone k false) s (fun u =>
    getStack u k = { getStack s k with training := false, failed := true } ∧ (hasRoom s 0 → queued u 0 0x2021) ∧
    u.mem = s.mem) := by
  obtain ⟨w, hw⟩ : ∃ w, w = setStack s k { getStack s k with training := false, failed := true } := ⟨_, rfl⟩
  obtain ⟨_, hsettled⟩ := settleDom_eq_with w (36 + k)
  obtain ⟨_, _, hraise⟩ := raise_minor_eq_with (settleDom w (36 + k)) (sev := 0) (by decide) 0x2021 3 4 k []
  refine ⟨raise (settleDom w (36 + k)) 0x2021 0 3 4 k, ?_, ?_, fun hroom => ?_, ?_⟩
  · rw [hw]
    exact congrArg Host.Outcome.next ((if_neg (by rw [htrains]; decide)).trans (if_neg (by decide)))
  · rw [hraise, hsettled]
    change getStack w k = _
    rw [hw, getStack_setStack_same]
  · exact queued_raise_note _ _ _ _ _ _ (.inl (by rw [hsettled, hw]; exact hroom))
  · rw [hraise, hsettled, hw]
    rfl

/-! ### The scrub -/

theorem queued_memCorrected (a : Nat) (hroom : hasRoom s 1) : queued (memCorrected s a) 1 0x2001 := by
  unfold memCorrected
  generalize memSource a = p
  obtain ⟨kind, n⟩ := p
  dsimp only
  split
  · exact queued_raise_notice _ _ _ _ _ _ hroom
  · exact queued_raise_notice _ _ _ _ _ _ hroom
  · exact queued_raise_notice _ _ _ _ _ _ hroom

theorem memCorrected_spec (s : State) (a : Nat) : (memCorrected s a).upsets = s.upsets ∧ (memCorrected s a).mem = s.mem ∧
    (memCorrected s a).bad = s.bad ∧ (hasRoom s 1 → queued (memCorrected s a) 1 0x2001) := by
  refine ⟨?_, ?_, ?_, queued_memCorrected a⟩ <;>
  · obtain ⟨_, _, h⟩ := memCorrected_eq_with s a
    rw [h]

theorem scrubPass_meets (hscrubs : scrubs s a = true) (hupsets : s.upsets = [(a, .corrected)]) :
    completes (.scrubPass [] []) s (fun u =>
      u.upsets = [] ∧ u.mem = s.mem ∧ u.bad = s.bad ∧ (hasRoom s 1 → queued u 1 0x2001)) := by
  obtain ⟨hleft, hmem, hbad, hqueued⟩ := memCorrected_spec { s with upsets := [] } a
  refine ⟨memCorrected { s with upsets := [] } a, ?_, hleft, hmem, hbad, hqueued⟩
  have hmet : scrubMeets s (a, .corrected) = memCorrected { s with upsets := [] } a := by
    unfold scrubMeets meetUpset
    rw [if_neg (by rw [hscrubs]; decide), hupsets, List.erase_cons_head]
  refine congrArg Host.Outcome.next ?_
  rw [hupsets, List.foldl_cons, List.foldl_nil, hmet, List.foldl_nil, List.foldl_nil]

theorem scrubPass_corrected (hscrubs : scrubs s a = true) (hupsets : s.upsets = []) : completes (.scrubPass [a] []) s
    (fun u => u.mem = s.mem ∧ u.bad = s.bad ∧ (hasRoom s 1 → queued u 1 0x2001)) := by
  refine ⟨memCorrected s a, congrArg Host.Outcome.next ?_, (memCorrected_spec s a).2⟩
  rw [hupsets, List.foldl_nil, List.foldl_cons, List.foldl_nil, List.foldl_nil, if_pos hscrubs]

/-- Memory, its marks and what is queued stay. -/
structure KeepsMarks (s u : State) : Prop where
  mem : u.mem = s.mem
  bad : u.bad = s.bad
  queue : ∀ sev code, queued s sev code → queued u sev code

namespace KeepsMarks

theorem refl (s : State) : KeepsMarks s s := ⟨rfl, rfl, fun _ _ h => h⟩

theorem trans (h : KeepsMarks s u) (h' : KeepsMarks u v) : KeepsMarks s v :=
  ⟨h'.mem.trans h.mem, h'.bad.trans h.bad, fun sev code hq => h'.queue sev code (h.queue sev code hq)⟩

end KeepsMarks

theorem Relays.keepsMarks (h : Relays s u) : KeepsMarks s u := by
  obtain ⟨_, _, _, _, _, _, _, _, hframe⟩ := h.frame
  refine ⟨?_, ?_, h.queue⟩
  · rw [hframe]
  · rw [hframe]

theorem keepsMarks_copyInvalid (s : State) : KeepsMarks s (copyInvalid s) := by
  have hmend : ∀ (w : State) m, KeepsMarks w { w with mend := m } := fun _ _ => ⟨rfl, rfl, fun _ _ h => h⟩
  unfold copyInvalid
  split
  · exact KeepsMarks.refl s
  · split
    · exact KeepsMarks.refl s
    · dsimp only
      split
      · exact (((hmend s _).trans (relays_sendMend _ _ _ _).keepsMarks).trans (hmend _ _)).trans
          (relays_sendMend _ _ _ _).keepsMarks
      · exact (hmend s _).trans (relays_sendMend _ _ _ _).keepsMarks

theorem keepsMarks_dropMicroBatch (s : State) : KeepsMarks s (dropMicroBatch s) := by
  unfold dropMicroBatch
  split
  · exact ⟨rfl, rfl, fun _ _ h => h⟩
  · exact KeepsMarks.refl s

/-- An event of severity 2 or 3 is queued with the severity that its class gives it. -/
theorem raise_serious {sev : Nat} (hsev : sev = 2 ∨ sev = 3) (h2 : hasRoom s 2) (h3 : hasRoom s 3)
    (code cls srcKind src : Nat) (info : List Nat) :
    (∃ csr err, raise s code sev cls srcKind src info = { s with csr := csr, err := err }) ∧
    (queued (raise s code sev cls srcKind src info) 2 code ∨ queued (raise s code sev cls srcKind src info) 3 code) := by
  obtain ⟨lev, hlev⟩ : ∃ lev, lev = if sev = 3 ∧ (cls = 0 ∨ cls = 2) then 2 else sev := ⟨_, rfl⟩
  have hlevel : lev = 2 ∨ lev = 3 := by
    rw [hlev]
    split
    · exact .inl rfl
    · exact hsev
  have hroom : hasRoom s lev := by
    rcases hlevel with h | h
    · rw [h]; exact h2
    · rw [h]; exact h3
  unfold raise
  rw [← hlev]
  refine ⟨placeEvent_eq_with s _ (by omega) hroom, ?_⟩
  have hqueued := fun r => queued_placeEvent (s := s) (sev := lev) r (by omega) hroom
  rcases hlevel with h | h
  · subst h
    exact .inl (hqueued _)
  · subst h
    exact .inr (hqueued _)

/-- The register of the first uncorrectable address (R328). -/
def noteUncorr (s : State) (cls a : Nat) : State :=
  if csrBit (countUe s a) O.hbmErrAddrHi 31 then countUe s a
  else csrPut (csrPut (countUe s a) O.hbmErrAddrLo (a % 2 ^ 32)) O.hbmErrAddrHi (errHi cls (roleOf s cls (pageOf a)) a)

/-- The rack buffer that an uncorrectable word spoils, and whether a block that runs had pinned it. -/
def spoilRack (s : State) (role a : Nat) : State × Bool := if role = 3 then rackBad s a else (s, false)

/-- The severity of an uncorrectable word. -/
def uncorrSev (cls role : Nat) (running : Bool) : Nat := match role with
  | 1 => 4
  | 2 => 2
  | 3 => if running then 3 else 2
  | _ => if cls = 1 then 3 else 2

/-- What an uncorrectable word does after its event. -/
def uncorrEnd (s : State) (cls role sev a : Nat) : State :=
  if role = 2 then copyInvalid s
  else if sev = 3 then dropMicroBatch s
  else if cls = 0 then
    match placeOf a with
    | .sram g => if role = 4 then markBadWeights s g else s
    | _ => s
  else s

theorem memUncorr_eq (s : State) (cls a : Nat) : memUncorr s cls a =
    uncorrEnd (raise (spoilRack (noteUncorr s cls a) (roleOf s cls (pageOf a)) a).1 0x2002
        (uncorrSev cls (roleOf s cls (pageOf a)) (spoilRack (noteUncorr s cls a) (roleOf s cls (pageOf a)) a).2) cls
        (memSource a).1 (memSource a).2 [a % 2 ^ 32, errHi cls (roleOf s cls (pageOf a)) a])
      cls (roleOf s cls (pageOf a))
      (uncorrSev cls (roleOf s cls (pageOf a)) (spoilRack (noteUncorr s cls a) (roleOf s cls (pageOf a)) a).2) a := rfl

theorem uncorrSev_serious {role : Nat} (hrole : role ≠ 1) (cls : Nat) (running : Bool) :
    uncorrSev cls role running = 2 ∨ uncorrSev cls role running = 3 := by
  have hcase : ∀ p : Bool, (if p then 3 else 2) = 2 ∨ (if p then 3 else 2) = 3 := by decide
  unfold uncorrSev
  split
  · exact absurd rfl hrole
  · exact .inl rfl
  · exact hcase running
  · simpa using hcase (decide (cls = 1))

theorem noteUncorr_frame (s : State) (cls a : Nat) : ∃ csr, noteUncorr s cls a = { s with csr := csr } := by
  obtain ⟨_, hcount⟩ := countUe_frame s a
  unfold noteUncorr
  rw [hcount]
  split
  · exact ⟨_, rfl⟩
  · exact ⟨_, rfl⟩

theorem spoilRack_frame (s : State) (role a : Nat) : ∃ gate, (spoilRack s role a).1 = { s with gate := gate } := by
  unfold spoilRack
  split
  · unfold rackBad
    split
    · exact ⟨_, rfl⟩
    · exact ⟨s.gate, rfl⟩
  · exact ⟨s.gate, rfl⟩

theorem keepsMarks_uncorrEnd (s : State) (cls role sev a : Nat) : KeepsMarks s (uncorrEnd s cls role sev a) := by
  unfold uncorrEnd
  split
  · exact keepsMarks_copyInvalid s
  · split
    · exact keepsMarks_dropMicroBatch s
    · split
      · split
        · split
          · exact ⟨rfl, rfl, fun _ _ h => h⟩
          · exact KeepsMarks.refl s
        · exact KeepsMarks.refl s
      · exact KeepsMarks.refl s

/-- An uncorrectable word where no weights of a running job lie is a MICRO-BATCH or a STEP event. -/
theorem memUncorr_spec {cls : Nat} (hrole : roleOf s cls (pageOf a) ≠ 1) (h2 : hasRoom s 2) (h3 : hasRoom s 3) :
    (memUncorr s cls a).mem = s.mem ∧ (memUncorr s cls a).bad = s.bad ∧
    (queued (memUncorr s cls a) 2 0x2002 ∨ queued (memUncorr s cls a) 3 0x2002) := by
  obtain ⟨role, hrole'⟩ : ∃ role, role = roleOf s cls (pageOf a) := ⟨_, rfl⟩
  rw [memUncorr_eq, ← hrole']
  rw [← hrole'] at hrole
  obtain ⟨r, hr⟩ : ∃ r, r = spoilRack (noteUncorr s cls a) role a := ⟨_, rfl⟩
  rw [← hr]
  obtain ⟨_, hnoted⟩ := noteUncorr_frame s cls a
  obtain ⟨_, hracks⟩ := hr ▸ spoilRack_frame (noteUncorr s cls a) role a
  obtain ⟨sev, hsev⟩ : ∃ sev, sev = uncorrSev cls role r.2 := ⟨_, rfl⟩
  have hserious : sev = 2 ∨ sev = 3 := hsev ▸ uncorrSev_serious hrole cls r.2
  rw [← hsev]
  have herr : r.1.err = s.err := by rw [hracks, hnoted]
  obtain ⟨⟨_, _, hraise⟩, hqueued⟩ := raise_serious (s := r.1) hserious (by rw [hasRoom, herr]; exact h2)
    (by rw [hasRoom, herr]; exact h3) 0x2002 cls (memSource a).1 (memSource a).2 [a % 2 ^ 32, errHi cls role a]
  obtain ⟨x, hx⟩ : ∃ x, x = raise r.1 0x2002 sev cls (memSource a).1 (memSource a).2 [a % 2 ^ 32, errHi cls role a] :=
      ⟨_, rfl⟩
  rw [← hx] at hraise hqueued ⊢
  obtain ⟨hmem, hbad, hqueue⟩ := keepsMarks_uncorrEnd x cls role sev a
  refine ⟨hmem.trans ?_, hbad.trans ?_, hqueued.imp (hqueue _ _) (hqueue _ _)⟩
  · rw [hraise, hracks, hnoted]
  · rw [hraise, hracks, hnoted]

theorem marked_mem (l : List Nat) : ∀ bad : List Nat, (∀ w ∈ bad, w ∈ l.foldl
    (fun l w => if l.contains w then l else w :: l) bad) ∧
    ∀ w ∈ l, w ∈ l.foldl (fun l w => if l.contains w then l else w :: l) bad := by
  induction l with
  | nil => exact fun bad => ⟨fun _ h => h, fun _ h => by cases h⟩
  | cons w l ih =>
    intro bad
    rw [List.foldl_cons]
    split
    · next hin =>
      obtain ⟨hkeep, hadd⟩ := ih bad
      refine ⟨hkeep, fun x hx => ?_⟩
      rcases List.mem_cons.mp hx with rfl | hx
      · exact hkeep _ (List.contains_iff_mem.mp hin)
      · exact hadd x hx
    · obtain ⟨hkeep, hadd⟩ := ih (w :: bad)
      refine ⟨fun x hx => hkeep x (List.mem_cons_of_mem _ hx), fun x hx => ?_⟩
      rcases List.mem_cons.mp hx with rfl | hx
      · exact hkeep _ List.mem_cons_self
      · exact hadd x hx

/-- The word of an address is among those of its code word. -/
theorem word_mem_codeWords (a : Nat) : a / 8 * 8 ∈ codeWords a := by
  have hword : ∀ n, 0 < n → a / 8 * 8 ∈ (List.range (8 * n / 8)).map (fun i => a / (8 * n) * (8 * n) + 8 * i) := by
    intro n hn
    refine List.mem_map.mpr ⟨a / 8 % n, List.mem_range.mpr ?_, ?_⟩
    · rw [Nat.mul_div_cancel_left _ (by decide)]
      exact Nat.mod_lt _ hn
    · rw [← Nat.div_div_eq_div_mul]
      have hsplit := Nat.div_add_mod (a / 8) n
      calc a / 8 / n * (8 * n) + 8 * (a / 8 % n) = 8 * (n * (a / 8 / n) + a / 8 % n) := by ring
        _ = a / 8 * 8 := by rw [hsplit, Nat.mul_comm]
  have hlen : ∃ n, 0 < n ∧ codeLen a = 8 * n := by
    unfold codeLen
    split
    · exact ⟨4, by decide, rfl⟩
    · exact ⟨4, by decide, rfl⟩
    · exact ⟨1, by decide, rfl⟩
  obtain ⟨n, hn, hlen⟩ := hlen
  rw [codeWords, codeBase, hlen]
  exact hword n hn

theorem scrubPass_uncorrectable (hscrubs : scrubs s a = true) (hupsets : s.upsets = []) (hplace : placeOf a ≠ .reserved)
    (hrole : roleOf s (classOfPage s (pageOf a)) (pageOf (a / 8 * 8)) ≠ 1) (h2 : hasRoom s 2) (h3 : hasRoom s 3) :
    completes (.scrubPass [] [a]) s (fun u =>
      a / 8 * 8 ∈ u.bad ∧ (queued u 2 0x2002 ∨ queued u 3 0x2002) ∧ u.mem = s.mem) := by
  obtain ⟨w, hw⟩ : ∃ w, w = meetUpset s (a, .lost) := ⟨_, rfl⟩
  obtain ⟨cls, hcls⟩ : ∃ cls, cls = classOfPage s (pageOf a) := ⟨_, rfl⟩
  rw [← hcls] at hrole
  obtain ⟨hmem, hbad, hqueued⟩ := memUncorr_spec (s := w) (cls := cls) (a := a / 8 * 8) (by rw [hw]; exact hrole)
    (by rw [hw]; exact h2) (by rw [hw]; exact h3)
  refine ⟨memUncorr w cls (a / 8 * 8), congrArg Host.Outcome.next ?_, ?_, hqueued, ?_⟩
  · rw [hupsets, List.foldl_nil, List.foldl_nil, List.foldl_cons, List.foldl_nil, scrubBad, if_neg
        (by rw [hscrubs]; decide),
      ← hw, ← hcls]
    exact if_neg hplace
  · rw [hbad, hw]
    exact (marked_mem _ _).2 _ (word_mem_codeWords a)
  · rw [hmem, hw]
    rfl

/-! ### JTAG -/

theorem jtagReset_completes (hpower : s.power.boot ≠ .down) (hjtag : s.sec.jtag = true) : completes .jtagReset s (fun u =>
    u.dev = .boot ∧ u.power.boot = .romStart ∧ u.mem = [] ∧ csrBit u O.globalResetCause 1 = true ∧ u.sec.jtag = false ∧
    u.err.log = s.err.log) := by
  obtain ⟨hdev, hpow, hmem, -, hcause, hsec, hlog, -, -⟩ := resetBy_spec s (cause := 1) (by decide) .romStart false
  exact ⟨_, congrArg Host.Outcome.next (if_pos ⟨powered_of_boot hpower, hjtag⟩), hdev, by rw [hpow], hmem, hcause,
    by rw [hsec], hlog⟩

/-- Settles O55: boot, the stacks, the scrub and JTAG, each by its own lemma. -/
theorem bootAndStacks : Obligations.BootAndStacks := by
  intro s k t a x
  refine ⟨fun hboots htest => ⟨_, ?_, rfl⟩, fun hboots htest => ⟨failLow (setBoot s .selfTest), ?_, setBoot_failLow s _,
      (failLow_spec _).1⟩, fun hboots htest => ⟨_, congrArg Host.Outcome.next (if_pos ⟨hboots, htest⟩), rfl⟩,
    fun hboots => ⟨railsDone_completes hboots, railsRetry_completes hboots⟩, uncoreDone_completes,
    fun hk hruns hcool => ⟨hbmTempRead_cool hk hruns hcool, hbmTempRead_hot hk hruns hcool⟩,
    fun htrains => ⟨hbmTrainingDone_ready htrains, hbmTrainingDone_failed htrains⟩, scrubPass_meets,
    fun hscrubs hupsets => ⟨scrubPass_corrected hscrubs hupsets, scrubPass_uncorrectable hscrubs hupsets⟩,
    fun hpower => ⟨⟨_, congrArg Host.Outcome.next (if_pos (powered_of_boot hpower)), rfl, rfl, rfl⟩,
      ⟨_, congrArg Host.Outcome.next (if_pos (powered_of_boot hpower)), rfl⟩, jtagReset_completes hpower⟩⟩
  · exact congrArg Host.Outcome.next ((if_pos hboots).trans (if_neg (by rw [htest]; decide)))
  · exact congrArg Host.Outcome.next ((if_pos hboots).trans (if_pos htest))

end Sys2Proof.Machine
end

section
/-! O42. The RoCEv2 responder. -/

open Sys2Proof
namespace Sys2Proof.Machine

variable {s u v : State} {k : RocePkt} {x y : QP} {r : Nat} {run again : QP → State → State}

/-! ### The queue pair and what it sends -/

@[simp] theorem getQp_setQp_same (s : State) (n : Nat) (x : QP) : getQp (setQp s n x) n = some x :=
  tget?_tset_same _ _ _

/-- The queue pair that a packet names, of an open port, connected and without an error. -/
def pairServes (s : State) (k : RocePkt) (x : QP) : Prop :=
  portUpNow s k.port = true ∧ csrBit s O.ethCtrl 1 = true ∧ (s.err.hard = false ∨ s.dev ≠ .fenced) ∧
  getQp s k.qpn = some x ∧ x.connected = true ∧ x.error = false ∧ k.icrcOk = true ∧ k.ce = false

theorem roceRx_row (h : pairServes s k x) : roceRx s k run again =
    if psnAhead k x = 0 ∨ x.holds k then (if k.supported = false then qpFail s k 1 else run x s)
    else if psnAhead k x < 2 ^ 23 then afterGap s k x
    else again x s := by
  obtain ⟨hport, hctrl, hopen, hpair, hconnected, herror, hicrc, hce⟩ := h
  have hcnp : sendCnp s k x = s := by
    unfold sendCnp
    rw [hce]
    exact if_neg (by simp)
  unfold roceRx
  rw [if_neg (by rw [hport, hctrl]; decide), if_neg (fun hfenced => hopen.elim (by rw [hfenced.1]; decide)
      (fun h => h hfenced.2)),
    hpair]
  dsimp only
  rw [if_neg (by rw [hicrc, hconnected]; decide), if_neg (by rw [herror]; decide), hcnp, hpair]
  rfl

/-- A packet in sequence, or one that its queue pair holds, of an operation that the responder supports. -/
theorem roceRx_runs (h : pairServes s k x) (hsupported : k.supported = true) (hnext : psnAhead k x = 0 ∨ x.holds k = true) :
    roceRx s k run again = run x s := by
  rw [roceRx_row h, if_pos hnext, if_neg (by rw [hsupported]; decide)]

theorem roceRx_fenced (hport : portUpNow s k.port = true) (hctrl : csrBit s O.ethCtrl 1 = true) (hhard : s.err.hard = true)
    (hfenced : s.dev = .fenced) : roceRx s k run again = bump s O.ethCntRoceDrop := by
  unfold roceRx
  rw [if_neg (by rw [hport, hctrl]; decide), if_pos ⟨hhard, hfenced⟩]

theorem roceSend_spec {n : Nat} (hmsn : (getQp s k.qpn).map (·.msn) = some n) (kind psn : Nat) (body : List Byte) :
    ∃ egress, roceSend s k kind psn body =
      { s with out := .roce k.port k.qpn kind psn n body :: s.out, egress := egress } := by
  unfold roceSend
  rw [hmsn]
  exact emit_eq_egress s nofun

/-- A NAK that ends the queue pair. -/
theorem qpFail_spec (hpair : getQp s k.qpn = some x) (hroom : hasRoom s 2) (kind : Nat) : (qpFail s k kind).mem = s.mem ∧
    queued (qpFail s k kind) 2 0x6005 ∧
    getQp (qpFail s k kind) k.qpn = some { x with error := true, msg := none, taken := [] } ∧
    .roce k.port k.qpn kind k.psn x.msn [] ∈ (qpFail s k kind).out := by
  obtain ⟨_, hsent⟩ := roceSend_spec (k := k) (n := x.msn) (by rw [hpair]; rfl) kind k.psn []
  obtain ⟨w, hw⟩ : ∃ w, w = setQp (roceSend s k kind k.psn) k.qpn { x with error := true, msg := none, taken := [] } :=
      ⟨_, rfl⟩
  have hfail : qpFail s k kind = raise w 0x6005 2 2 6 k.port := by
    have hpair' : getQp (roceSend s k kind k.psn) k.qpn = some x := by rw [hsent]; exact hpair
    unfold qpFail
    dsimp only
    rw [hpair', hw]
  obtain ⟨⟨_, _, hraise⟩, hqueued⟩ := raise_of_room (s := w) (sev := 2) (cls := 2) 0x6005 6 k.port [] (.inl rfl)
    (by rw [hw, hsent]; exact hroom)
  rw [hfail]
  refine ⟨?_, hqueued, ?_, ?_⟩
  · rw [hraise, hw, hsent]
    rfl
  · rw [hraise]
    change getQp w k.qpn = _
    rw [hw, getQp_setQp_same]
  · rw [hraise, hw, hsent]
    exact List.mem_cons_self

/-! ### WRITE -/

theorem memPut_mem (s : State) (a : Nat) (bs : List Byte) : (memPut s a bs).mem = memWrites s.mem a bs := by
  unfold memPut
  dsimp only
  split
  · rfl
  · rfl

section
variable {addr left : Nat} {key : Nat}

/-- A write that memory takes at once and that meets no error. -/
theorem agentWrite_goOn {bs : List Byte} (req : HbmReq) (hupsets : upsetsIn s addr bs.length = []) :
    ∃ bad upsets ccache csr cores hbm, agentWrite (goOn s req addr bs.length) addr bs =
      { s with mem := memWrites s.mem addr bs, bad := bad, upsets := upsets, ccache := ccache, csr := csr, cores := cores
               hbm := hbm } := by
  obtain ⟨w, hw⟩ : ∃ w, w = goOn s req addr bs.length := ⟨_, rfl⟩
  obtain ⟨⟨_, hgone⟩, -⟩ := hw ▸ goOn_spec s req addr bs.length
  have herr : (agentWrite w addr bs).err = w.err := agentWrite_err (by rw [hgone]; exact hupsets)
  obtain ⟨⟨_, _, _, _, _, err, hwrote⟩, -⟩ := agentWrite_touches w addr bs
  have hsame : err = w.err := by
    rw [hwrote] at herr
    exact herr
  rw [hsame, hgone] at hwrote
  rw [← hw, hgone]
  exact ⟨_, _, _, _, _, _, hwrote⟩

/-- A WRITE packet that the checks pass and memory takes. -/
theorem roceWrite_goes (hmay : roceMay s key (x.holds k) true addr k.data.length = true)
    (hgoes : mayGo s (pairReq k) addr k.data.length = true) : roceWrite s k x key addr left =
      (let w := setQp (agentWrite (goOn s (pairReq k) addr k.data.length) addr k.data) k.qpn
        { x.past k (psnPlus k.psn 1) with msg := if left = 0 then none else some ⟨key, addr + k.data.length, left⟩
                                          msn := if left = 0 then psnPlus x.msn 1 else x.msn }
      if left = 0 then roceSend w k 0 k.psn else w) := by
  unfold roceWrite
  rw [if_neg (by rw [hmay]; decide), if_neg (by rw [hgoes]; decide)]

theorem roceWrite_waits (hmay : roceMay s key (x.holds k) true addr k.data.length = true)
    (hheld : mayGo s (pairReq k) addr k.data.length = false) :
    ∃ hbm power, roceWrite s k x key addr left = { setQp s k.qpn (x.take k key false) with hbm := hbm, power := power } :=
        by
  obtain ⟨_, _, hwaits⟩ := waitFor_waits (setQp s k.qpn (x.take k key false)) (pairReq k) addr k.data.length
  unfold roceWrite
  rw [if_neg (by rw [hmay]; decide), if_pos hheld]
  exact ⟨_, _, hwaits⟩

end

section
variable (h : pairServes s k x) (hsupported : k.supported = true) (hnext : psnAhead k x = 0 ∨ x.holds k = true)
include h hsupported hnext

theorem roceWriteRx_only (hplace : k.place = 3) (hmsg : x.msg = none) (hlen : k.data.length = k.len) :
    exec (.roceWriteRx k) s = .next (roceWrite s k x k.rkey k.addr 0) := by
  refine congrArg Host.Outcome.next ((roceRx_runs h hsupported hnext).trans ?_)
  dsimp only
  rw [hplace, hmsg]
  exact if_pos hlen

theorem roceWriteRx_first (hplace : k.place = 0) (hmsg : x.msg = none) (hlen : k.data.length < k.len) :
    exec (.roceWriteRx k) s = .next (roceWrite s k x k.rkey k.addr (k.len - k.data.length)) := by
  refine congrArg Host.Outcome.next ((roceRx_runs h hsupported hnext).trans ?_)
  dsimp only
  rw [hplace, hmsg]
  exact if_pos hlen

theorem roceWriteRx_moves (hplace : k.place = 3) (hmsg : x.msg = none) (hlen : k.data.length = k.len)
    (hmay : roceMay s k.rkey (x.holds k) true k.addr k.len = true) (hgoes : mayGo s (pairReq k) k.addr k.len = true)
    (hupsets : upsetsIn s k.addr k.len = []) : completes (.roceWriteRx k) s (fun u =>
      u.mem = (memPut s k.addr k.data).mem ∧
      u.out = .roce k.port k.qpn 0 k.psn ((x.msn + 1) % 2 ^ 24) [] :: s.out ∧
      getQp u k.qpn = some { x with
        recvPsn := (k.psn + 1) % 2 ^ 24, nakSent := false, msg := none, msn := (x.msn + 1) % 2 ^ 24
        taken := x.taken.filter (fun t => decide (t.psn ≠ k.psn)) } ∧
      u = { s with mem := u.mem, bad := u.bad, upsets := u.upsets, ccache := u.ccache, cacheErr := u.cacheErr, cores :=
          u.cores
                   hbm := u.hbm, csr := u.csr, out := u.out, egress := u.egress, wcp := u.wcp }) := by
  rw [← hlen] at hmay hgoes hupsets
  obtain ⟨_, _, _, _, _, _, hwrote⟩ := agentWrite_goOn (pairReq k) hupsets
  obtain ⟨z, hz⟩ : ∃ z : QP, z = { x.past k (psnPlus k.psn 1) with msg := none, msn := psnPlus x.msn 1 } := ⟨_, rfl⟩
  obtain ⟨w, hw⟩ : ∃ w, w = setQp (agentWrite (goOn s (pairReq k) k.addr k.data.length) k.addr k.data) k.qpn z := ⟨_, rfl⟩
  have hpair : getQp w k.qpn = some z := by rw [hw, getQp_setQp_same]
  obtain ⟨_, hsent⟩ := roceSend_spec (s := w) (k := k) (n := z.msn) (by rw [hpair]; rfl) 0 k.psn []
  rw [hwrote] at hw
  refine ⟨roceSend w k 0 k.psn, ?_, ?_, ?_, ?_, ?_⟩
  · rw [roceWriteRx_only h hsupported hnext hplace hmsg hlen, roceWrite_goes hmay hgoes, hwrote, hw, hz]
    rfl
  · rw [hsent, hw, memPut_mem]
    rfl
  · rw [hsent, hw, hz]
    rfl
  · rw [hsent]
    exact hpair.trans (by rw [hz]; rfl)
  · rw [hsent, hw]
    rfl

theorem roceWriteRx_waits (hplace : k.place = 3) (hmsg : x.msg = none) (hlen : k.data.length = k.len)
    (hmay : roceMay s k.rkey (x.holds k) true k.addr k.len = true) (hheld : ¬ mayGo s (pairReq k) k.addr k.len = true) :
    completes (.roceWriteRx k) s (fun u => u = { s with hbm := u.hbm, power := u.power, wcp := u.wcp } ∧
      getQp u k.qpn = some (x.take k k.rkey false)) := by
  rw [← hlen] at hmay hheld
  obtain ⟨_, _, hwaits⟩ := roceWrite_waits (left := 0) hmay (by simpa using hheld)
  refine ⟨_, (roceWriteRx_only h hsupported hnext hplace hmsg hlen).trans (congrArg Host.Outcome.next hwaits), rfl, ?_⟩
  exact getQp_setQp_same s k.qpn _

theorem roceWriteRx_begins (hplace : k.place = 0) (hmsg : x.msg = none) (hlen : k.data.length < k.len)
    (hmsn : x.msn < 2 ^ 24)
    (hmay : roceMay s k.rkey (x.holds k) true k.addr k.data.length = true)
    (hgoes : mayGo s (pairReq k) k.addr k.data.length = true) (hupsets : upsetsIn s k.addr k.data.length = []) :
    completes (.roceWriteRx k) s (fun u => u.mem = (memPut s k.addr k.data).mem ∧ u.out = s.out ∧
      getQp u k.qpn = some { x with
        recvPsn := (k.psn + 1) % 2 ^ 24, nakSent := false
        msg := some ⟨k.rkey, k.addr + k.data.length, k.len - k.data.length⟩, msn := (x.msn + 0) % 2 ^ 24
        taken := x.taken.filter (fun t => decide (t.psn ≠ k.psn)) }) := by
  obtain ⟨_, _, _, _, _, _, hwrote⟩ := agentWrite_goOn (pairReq k) hupsets
  have hleft : k.len - k.data.length ≠ 0 := by omega
  have hkept : (x.msn + 0) % 2 ^ 24 = x.msn := Nat.mod_eq_of_lt hmsn
  refine ⟨_, roceWriteRx_first h hsupported hnext hplace hmsg hlen, ?_, ?_, ?_⟩
  · rw [roceWrite_goes hmay hgoes, if_neg hleft, hwrote, memPut_mem]
    rfl
  · rw [roceWrite_goes hmay hgoes, if_neg hleft, hwrote]
    rfl
  · rw [roceWrite_goes hmay hgoes, if_neg hleft, getQp_setQp_same, if_neg hleft, if_neg hleft, hkept]
    rfl

theorem roceWriteRx_refused (hplace : k.place = 3) (hmsg : x.msg = none) (hlen : k.data.length = k.len)
    (hmay : roceMay s k.rkey (x.holds k) true k.addr k.len = false) (hroom : hasRoom s 2) :
    completes (.roceWriteRx k) s (fun u => u.mem = s.mem ∧ queued u 2 0x6005 ∧
      getQp u k.qpn = some { x with error := true, msg := none, taken := [] } ∧
      .roce k.port k.qpn 2 k.psn x.msn [] ∈ u.out) := by
  obtain ⟨-, -, -, hpair, -⟩ := id h
  have hfails : roceWrite s k x k.rkey k.addr 0 = qpFail s k 2 := if_pos (by rw [hlen]; exact hmay)
  exact ⟨_, (roceWriteRx_only h hsupported hnext hplace hmsg hlen).trans (congrArg Host.Outcome.next hfails),
    qpFail_spec hpair hroom 2⟩

/-! ### READ -/

omit h hsupported hnext in
theorem readPsns_one (hpos : 0 < k.len) (hmtu : k.len ≤ x.mtu) : readPsns k x = 1 := by
  have hmax : max 1 x.mtu = x.mtu := by omega
  have hone : (k.len + x.mtu - 1) / x.mtu = 1 := Nat.div_eq_of_lt_le (by omega) (by omega)
  rw [readPsns, hmax, hone]
  rfl

omit h hsupported hnext in
/-- A response no longer than the path MTU is one packet. -/
theorem roceData_one {bs : List Byte} (hpair : getQp s k.qpn = some y) (hpos : 0 < bs.length) (hmtu : bs.length ≤ x.mtu) :
    ∃ egress, roceData s k x bs = { s with
      out := .roce k.port k.qpn 4 (k.psn % 2 ^ 24) y.msn bs :: s.out, egress := egress } := by
  have hmax : max 1 x.mtu = x.mtu := by omega
  obtain ⟨m, hm⟩ : ∃ m, bs.length = m + 1 := ⟨bs.length - 1, by omega⟩
  have hdrop : chunksOf x.mtu m ([] : List Byte) = [] := by
    cases m with
    | zero => rfl
    | succ m => rfl
  have hchunks : chunksOf x.mtu (m + 1) bs = [bs] := by
    have hne : bs.isEmpty = false := by
      rw [List.isEmpty_eq_false_iff]
      exact List.ne_nil_of_length_pos hpos
    rw [chunksOf, hne, List.take_of_length_le hmtu, List.drop_of_length_le hmtu, hdrop]
    rfl
  rw [roceData, hmax, hm, hchunks]
  obtain ⟨_, hsent⟩ := roceSend_spec (k := k) (n := y.msn) (by rw [hpair]; rfl) 4 (psnPlus k.psn 0) bs
  exact ⟨_, hsent⟩

theorem roceRead_row : exec (.roceReadRx k r) s = .next (roceRead r k x s) :=
  congrArg Host.Outcome.next (roceRx_runs h hsupported hnext)

theorem roceReadRx_answers (hfew : x.holds k = true ∨ max r x.reads.length < 16) (hpos : 0 < k.len) (hmtu : k.len ≤ x.mtu)
    (hmay : roceMay s k.rkey (x.holds k) false k.addr k.len = true) (hgoes : mayGo s (pairReq k) k.addr k.len = true)
    (hturn : x.reads.all (fun t => decide (t.psn = k.psn)) = true) (hupsets : upsetsIn s k.addr k.len = [])
    (hbad : badIn s k.addr k.len = []) : completes (.roceReadRx k r) s (fun u =>
      u.out = .roce k.port k.qpn 4 (k.psn % 2 ^ 24) ((x.msn + 1) % 2 ^ 24) (memGet s k.addr k.len) :: s.out ∧
      (x.holds k = false → getQp u k.qpn = some { x with
        recvPsn := (k.psn + 1) % 2 ^ 24, nakSent := false, msg := x.msg, msn := (x.msn + 1) % 2 ^ 24
        taken := x.taken.filter (fun t => decide (t.psn ≠ k.psn)) }) ∧
      u = { s with hbm := u.hbm, out := u.out, egress := u.egress, wcp := u.wcp }) := by
  obtain ⟨z, hz⟩ : ∃ z : QP, z = { x.past k (if x.holds k then x.recvPsn else psnPlus k.psn (readPsns k x)) with
    msn := psnPlus x.msn 1 } := ⟨_, rfl⟩
  obtain ⟨w, hw⟩ : ∃ w, w = goOn (setQp s k.qpn z) (pairReq k) k.addr k.len := ⟨_, rfl⟩
  obtain ⟨⟨_, hgone⟩, -⟩ := hw ▸ goOn_spec (setQp s k.qpn z) (pairReq k) k.addr k.len
  have hpair : getQp w k.qpn = some z := by rw [hgone]; exact getQp_setQp_same s k.qpn z
  have hread : roceRead r k x s = answerRead s k z := by
    have hfirst : x.reads.head?.any (fun t => decide (t.psn ≠ k.psn)) = false := by
      cases hreads : x.reads with
      | nil => rfl
      | cons t l =>
        rw [hreads, List.all_cons, Bool.and_eq_true] at hturn
        simpa using hturn.1
    unfold roceRead
    dsimp only
    rw [if_neg (fun hmany => hfew.elim (by rw [hmany.1]; decide) (by omega)), if_neg (by rw [hmay]; decide),
      if_neg (by rw [hgoes, hfirst]; decide), hz]
  have hmeets : readMeets w k.addr k.len = w := readMeets_of_no_upset (by rw [hgone]; exact hupsets)
  have hclean : badIn w k.addr k.len = [] := by rw [hgone]; exact hbad
  have hdata : memGet w k.addr k.len = memGet s k.addr k.len := by rw [hgone]; rfl
  have hlen : (memGet s k.addr k.len).length = k.len := by rw [memGet, memReads, List.length_map, List.length_range]
  have hanswer : answerRead s k z = roceData w k z (memGet s k.addr k.len) := by
    unfold answerRead
    dsimp only
    rw [← hw, hmeets, hclean]
    exact congrArg (roceData w k z) hdata
  obtain ⟨_, hsent⟩ := roceData_one (x := z) hpair (hlen ▸ hpos) (by rw [hlen, hz]; exact hmtu)
  refine ⟨roceData w k z (memGet s k.addr k.len), ?_, ?_, fun hfree => ?_, ?_⟩
  · rw [roceRead_row h hsupported hnext, hread, hanswer]
  · rw [hsent, hz, hgone]
    rfl
  · rw [hsent]
    refine hpair.trans ?_
    rw [hz, hfree, readPsns_one hpos hmtu]
    rfl
  · rw [hsent, hgone]
    rfl

theorem roceReadRx_waits (hfew : x.holds k = true ∨ max r x.reads.length < 16)
    (hmay : roceMay s k.rkey (x.holds k) false k.addr k.len = true) (hheld : ¬ mayGo s (pairReq k) k.addr k.len = true) :
    completes (.roceReadRx k r) s (fun u => u = { s with hbm := u.hbm, power := u.power, wcp := u.wcp } ∧
      ∃ y, getQp u k.qpn = some y ∧ y.holds k = true) := by
  obtain ⟨z, hz⟩ : ∃ z : QP, z = { x.take k k.rkey true with
    recvPsn := if x.holds k then x.recvPsn else psnPlus k.psn (readPsns k x), nakSent := false } := ⟨_, rfl⟩
  have hread : roceRead r k x s = waitFor (setQp s k.qpn z) (pairReq k) k.addr k.len := by
    unfold roceRead
    dsimp only
    rw [if_neg (fun hmany => hfew.elim (by rw [hmany.1]; decide) (by omega)), if_neg (by rw [hmay]; decide),
      if_pos (.inl (by simpa using hheld)), hz]
  have hholds : z.holds k = true := by
    have htake : (x.take k k.rkey true).holds k = true := by
      unfold QP.take
      split
      · next hhas => exact hhas
      · simp [QP.holds]
    rw [hz]
    exact htake
  obtain ⟨_, _, hwaits⟩ := waitFor_waits (setQp s k.qpn z) (pairReq k) k.addr k.len
  refine ⟨_, (roceRead_row h hsupported hnext).trans (congrArg Host.Outcome.next (hread.trans hwaits)), rfl, z, ?_, hholds⟩
  exact getQp_setQp_same s k.qpn z

end

/-! ### Out of sequence -/

theorem roceWriteRx_gap (h : pairServes s k x) (hfree : x.holds k = false) (hahead : psnAhead k x ≠ 0)
    (hgap : psnAhead k x < 2 ^ 23) (hnak : x.nakSent = false) : completes (.roceWriteRx k) s (fun u => u.mem = s.mem ∧
      u.out = .roce k.port k.qpn 6 x.recvPsn x.msn [] :: s.out ∧ getQp u k.qpn = some { x with nakSent := true }) := by
  obtain ⟨w, hw⟩ : ∃ w, w = setQp s k.qpn { x with nakSent := true } := ⟨_, rfl⟩
  have hpair : getQp w k.qpn = some { x with nakSent := true } := by rw [hw, getQp_setQp_same]
  obtain ⟨_, hsent⟩ := roceSend_spec (s := w) (k := k) (n := x.msn) (by rw [hpair]; rfl) 6 x.recvPsn []
  have hafter : afterGap s k x = roceSend w k 6 x.recvPsn := by
    unfold afterGap
    rw [if_neg (by rw [hnak]; decide), hw]
  refine ⟨roceSend w k 6 x.recvPsn, congrArg Host.Outcome.next ?_, ?_, ?_, ?_⟩
  · rw [roceRx_row h, if_neg (by rw [hfree]; simpa using hahead), if_pos hgap, hafter]
  · rw [hsent, hw]
    rfl
  · rw [hsent, hw]
    rfl
  · rw [hsent]
    exact hpair

theorem roceWriteRx_again (h : pairServes s k x) (hfree : x.holds k = false) (hahead : psnAhead k x ≠ 0)
    (hold : 2 ^ 23 ≤ psnAhead k x) : completes (.roceWriteRx k) s (fun u => u.mem = s.mem ∧ u.wcp = s.wcp ∧
      u.out = .roce k.port k.qpn 0 ((x.recvPsn + (2 ^ 24 - 1)) % 2 ^ 24) x.msn [] :: s.out) := by
  obtain ⟨-, -, -, hpair, -⟩ := id h
  obtain ⟨_, hsent⟩ := roceSend_spec (k := k) (n := x.msn) (by rw [hpair]; rfl) 0 (psnPlus x.recvPsn (2 ^ 24 - 1)) []
  refine ⟨_, congrArg Host.Outcome.next (((roceRx_row h).trans ?_).trans hsent), rfl, rfl, rfl⟩
  rw [if_neg (by rw [hfree]; simpa using hahead), if_neg (by omega)]

/-- Settles O42: the packets of a queue pair by their place, and those out of sequence. -/
theorem rdmaMovesData : Obligations.RdmaMovesData := by
  intro s k x r goes next pairNow hport hctrl
  refine ⟨fun hhard hfenced => ⟨⟨_, congrArg Host.Outcome.next (roceRx_fenced hport hctrl hhard hfenced), rfl⟩,
    ⟨_, congrArg Host.Outcome.next (roceRx_fenced hport hctrl hhard hfenced), rfl⟩⟩,
    fun hopen hpair hconnected herror hicrc hce hmsn => ?_⟩
  have h : pairServes s k x := ⟨hport, hctrl, hopen, hpair, hconnected, herror, hicrc, hce⟩
  refine ⟨fun hsupported hnext => ⟨fun hplace hmsg hlen hmay => ⟨roceWriteRx_moves h hsupported hnext hplace hmsg hlen hmay,
      roceWriteRx_waits h hsupported hnext hplace hmsg hlen hmay⟩,
    fun hplace hmsg hlen => roceWriteRx_begins h hsupported hnext hplace hmsg hlen hmsn,
    roceWriteRx_refused h hsupported hnext,
    fun hfew hpos hmtu hmay => ⟨fun hgoes => roceReadRx_answers h hsupported hnext hfew hpos hmtu hmay hgoes,
      roceReadRx_waits h hsupported hnext hfew hmay⟩⟩,
    fun hfree hahead => ⟨roceWriteRx_gap h hfree hahead, roceWriteRx_again h hfree hahead⟩⟩

end Sys2Proof.Machine
end

section
/-! O29. A partial is taken, folded into the ledger, dropped, or waits. -/

open Sys2Proof
namespace Sys2Proof.Machine

variable {s u v : State} {f : MFrame} {d : TagDesc} {tag : Nat}

/-! ### A write that is denied -/

theorem coalesceIn_of_mem {r y : EventRec} {l : List EventRec} (hy : y ∈ l) (h : coalesces r y = true) :
    ∃ q, coalesceIn r l = some q := by
  induction l with
  | nil => cases hy
  | cons x l ih =>
    rw [coalesceIn]
    split
    · exact ⟨_, rfl⟩
    · next hx =>
      rcases List.mem_cons.mp hy with rfl | hy
      · exact absurd h hx
      · obtain ⟨q, hq⟩ := ih hy
        exact ⟨x :: q, by rw [hq]; rfl⟩

theorem exists_coalesces_of_coalesceIn {r : EventRec} {l q : List EventRec} (h : coalesceIn r l = some q) :
    ∃ y ∈ q, coalesces r y = true := by
  induction l generalizing q with
  | nil => simp [coalesceIn] at h
  | cons x l ih =>
    rw [coalesceIn] at h
    split at h
    case isTrue hx =>
      rw [← Option.some.inj h]
      exact ⟨_, List.mem_cons_self, hx⟩
    case isFalse =>
      obtain ⟨q', hq', rfl⟩ := Option.map_eq_some_iff.1 h
      obtain ⟨y, hy, hsame⟩ := ih hq'
      exact ⟨y, List.mem_cons_of_mem _ hy, hsame⟩

/-- The record of a denied write of a tag. -/
def denialOf (s : State) (tag : Nat) : EventRec :=
  ⟨0x2012, 3, 3, 1, 0, s.cycle, if s.inStep then s.step else 0, 1, 9, tag, epochOf s, [0, 0, 0, 0], s.inStep⟩

/-- A denied write of the tag finds a place in the queue of its severity, or another that takes it. -/
def takesDenial (s : State) (tag : Nat) : Prop :=
  hasRoom s 3 ∨ ∃ y ∈ tget s.err.queues 3 [], coalesces (denialOf s tag) y = true

/-- `u` is `s` but for memory with what guards it, counters and events; the registers of the mangle stay. -/
structure Deposits (s u : State) : Prop where
  frame : ∃ mem bad upsets ccache csr cores err hbm pru, u = { s with
    mem := mem, bad := bad, upsets := upsets, ccache := ccache, csr := csr, cores := cores, err := err, hbm := hbm, pru :=
        pru }
  csr : ∀ o, 0x50000 ≤ o → o < 0x60000 → csrGet u o = csrGet s o

namespace Deposits

theorem refl (s : State) : Deposits s s := ⟨⟨_, _, _, _, _, _, _, _, _, rfl⟩, fun _ _ _ => rfl⟩

theorem trans (h : Deposits s u) (h' : Deposits u v) : Deposits s v := by
  obtain ⟨⟨_, _, _, _, _, _, _, _, _, rfl⟩, hcsr⟩ := h
  obtain ⟨⟨_, _, _, _, _, _, _, _, _, rfl⟩, hcsr'⟩ := h'
  exact ⟨⟨_, _, _, _, _, _, _, _, _, rfl⟩, fun o hlo hhi => (hcsr' o hlo hhi).trans (hcsr o hlo hhi)⟩

theorem mangle (h : Deposits s u) : u.mangle = s.mangle := by
  obtain ⟨_, _, _, _, _, _, _, _, _, hframe⟩ := h.frame
  rw [hframe]

theorem denial (h : Deposits s u) (tag : Nat) : denialOf u tag = denialOf s tag := by
  obtain ⟨_, _, _, _, _, _, _, _, _, hframe⟩ := h.frame
  rw [hframe]
  rfl

theorem ledgerWord (h : Deposits s u) (d : TagDesc) (k : Nat) : ledgerWordAt u d k = ledgerWordAt s d k := by
  have hgroup : d.group < 16 := by
    rw [TagDesc.group, TagDesc.f, bitsOf_eq_div_mod]
    exact Nat.mod_lt _ (by decide)
  unfold ledgerWordAt grpCfg
  rw [h.csr (O.mangleGrpCfg d.group) (by unfold O.mangleGrpCfg; omega) (by unfold O.mangleGrpCfg; omega)]

end Deposits

theorem takesDenial_of_queue (h : takesDenial s tag) (hsame : denialOf u tag = denialOf s tag)
    (hqueue : tget u.err.queues 3 [] = tget s.err.queues 3 []) : takesDenial u tag := by
  unfold takesDenial hasRoom
  rw [hsame, hqueue]
  exact h

theorem deposits_dropMicroBatch (s : State) : Deposits s (dropMicroBatch s) := by
  unfold dropMicroBatch
  split
  · exact ⟨⟨_, _, _, _, _, _, _, _, _, rfl⟩, fun _ _ _ => rfl⟩
  · exact Deposits.refl s

/-- The event of a denied write, which another in its queue may take. -/
theorem raise_denial (h : takesDenial s tag) : (∃ csr err, raise s 0x2012 3 1 9 tag = { s with csr := csr, err := err }) ∧
    (∀ o, outsideErrlog o → csrGet (raise s 0x2012 3 1 9 tag) o = csrGet s o) ∧
    ∃ y ∈ tget (raise s 0x2012 3 1 9 tag).err.queues 3 [], coalesces (denialOf s tag) y = true := by
  have hplace : raise s 0x2012 3 1 9 tag = placeEvent s 3 (denialOf s tag) := by
    unfold raise
    rw [if_neg (by decide)]
    rfl
  rw [hplace, placeEvent, if_neg (by decide), if_neg (by decide)]
  have hsame : { denialOf s tag with raised := 3 } = denialOf s tag := rfl
  rw [hsame]
  split
  · next q hq =>
    obtain ⟨y, hy, hcoal⟩ := exists_coalesces_of_coalesceIn hq
    refine ⟨⟨_, _, rfl⟩, fun o ho => csrGet_countEvent s (show 0x2012 < 0x10000 by decide) (by decide) ho, y, ?_, hcoal⟩
    change y ∈ tget (tset _ 3 q) 3 []
    rw [tget_tset_same]
    exact hy
  · next hnone =>
    have hroom : (tget s.err.queues 3 []).length < 16 := h.resolve_right fun hqueued => by
      obtain ⟨y, hy, hcoal⟩ := hqueued
      obtain ⟨q, hq⟩ := coalesceIn_of_mem hy hcoal
      rw [hq] at hnone
      cases hnone
    rw [if_pos rfl, placeStep, if_pos hroom]
    refine ⟨⟨_, _, rfl⟩, fun o ho => csrGet_enqueue s _ (show 0x2012 < 0x10000 by decide) (by decide) ho, ?_⟩
    obtain ⟨r, hr⟩ : ∃ r, r = (takeSeq (countEvent s 0x2012 3) { denialOf s tag with sev := 3 }).2 := ⟨_, rfl⟩
    have hqueues : tget (enqueue s 3 (denialOf s tag)).err.queues 3 [] = tget s.err.queues 3 [] ++ [r] := by
      rw [hr]
      exact tget_tset_same _ _ _ _
    refine ⟨r, hqueues ▸ List.mem_append_right _ (List.mem_singleton.mpr rfl), ?_⟩
    rw [hr]
    simp [coalesces, denialOf, takeSeq]

theorem mangleDenied_spec (h : takesDenial s tag) : Deposits s (mangleDenied s tag) ∧ (mangleDenied s tag).mem = s.mem ∧
    takesDenial (mangleDenied s tag) tag := by
  obtain ⟨⟨_, _, hraise⟩, hcsr, hqueued⟩ := raise_denial h
  obtain ⟨w, hw⟩ : ∃ w, w = raise s 0x2012 3 1 9 tag := ⟨_, rfl⟩
  rw [← hw] at hraise hcsr hqueued
  have hraised : Deposits s w :=
    ⟨⟨_, _, _, _, _, _, _, _, _, hraise⟩, fun o hlo _ => hcsr o (.inr (by omega))⟩
  have hdropped := deposits_dropMicroBatch w
  have hkept : (dropMicroBatch w).mem = w.mem ∧ (dropMicroBatch w).err = w.err := by
    unfold dropMicroBatch
    split
    · exact ⟨rfl, rfl⟩
    · exact ⟨rfl, rfl⟩
  rw [mangleDenied, ← hw]
  refine ⟨hraised.trans hdropped, hkept.1.trans (by rw [hraise]), .inr ?_⟩
  rw [(hraised.trans hdropped).denial tag, hkept.2]
  exact hqueued

/-! ### A write that is permitted -/

/-- The registers of the mangle stay, and so does what is queued as STEP. -/
def KeepsMangleRegs (s u : State) : Prop :=
  (∀ o, 0x50000 ≤ o → o < 0x60000 → csrGet u o = csrGet s o) ∧ tget u.err.queues 3 [] = tget s.err.queues 3 []

namespace KeepsMangleRegs

theorem refl (s : State) : KeepsMangleRegs s s := ⟨fun _ _ _ => rfl, rfl⟩

theorem trans (h : KeepsMangleRegs s u) (h' : KeepsMangleRegs u v) : KeepsMangleRegs s v :=
  ⟨fun o hlo hhi => (h'.1 o hlo hhi).trans (h.1 o hlo hhi), h'.2.trans h.2⟩

end KeepsMangleRegs

theorem keepsMangleRegs_bump (s : State) {o : Nat} (k : Nat) (ho : 0x60000 ≤ o) : KeepsMangleRegs s (bump s o k) :=
  ⟨fun _ _ hhi => csrGet_bump_other _ _ (by omega), rfl⟩

theorem keepsMangleRegs_raise_minor (s : State) {sev code : Nat} (hsev : sev < 2) (hcode : code < 0x10000)
    (cls srcKind src : Nat) (info : List Nat) : KeepsMangleRegs s (raise s code sev cls srcKind src info) := by
  refine ⟨fun o hlo _ => csrGet_raise_minor s hsev hcode cls srcKind src info (.inr (by omega)), ?_⟩
  obtain ⟨_, _, h | h⟩ := raise_minor_queues s hsev code cls srcKind src info
  · rw [h]
    exact tget_tset_other _ _ _ (by omega)
  · rw [h]

theorem keepsMangleRegs_memCorrected (s : State) (a : Nat) : KeepsMangleRegs s (memCorrected s a) := by
  unfold memCorrected
  generalize memSource a = p
  obtain ⟨kind, n⟩ := p
  dsimp only
  split
  · exact (keepsMangleRegs_bump s _ (by unfold O.hbmCe; omega)).trans
      (keepsMangleRegs_raise_minor _ (by decide) (by decide) _ _ _ _)
  · exact (keepsMangleRegs_bump s _ (by unfold O.hbmSramCe; omega)).trans
      (keepsMangleRegs_raise_minor _ (by decide) (by decide) _ _ _ _)
  · exact keepsMangleRegs_raise_minor _ (by decide) (by decide) _ _ _ _

theorem keepsMangleRegs_meetUpset (s : State) (x : Nat × Upset) : KeepsMangleRegs s (meetUpset s x) := by
  unfold meetUpset
  dsimp only
  split
  · exact ⟨fun _ _ _ => rfl, rfl⟩
  · exact keepsMangleRegs_memCorrected _ _

theorem keepsMangleRegs_memPut (s : State) (a : Nat) (bs : List Byte) : KeepsMangleRegs s (memPut s a bs) := by
  have hput : ∀ m b x, KeepsMangleRegs s { s with mem := m, bad := b, upsets := x } := fun _ _ _ => ⟨fun _ _ _ => rfl, rfl⟩
  have hdrop : ∀ (w : State) lo hi, KeepsMangleRegs w (dropLines w lo hi) := fun _ _ _ => ⟨fun _ _ _ => rfl, rfl⟩
  unfold memPut
  dsimp only
  split
  · exact hput _ _ _
  · exact ((hput _ _ _).trans (hdrop _ _ _)).trans (keepsMangleRegs_bump _ _ (by decide))

theorem keepsMangleRegs_agentWrite (s : State) (a : Nat) (bs : List Byte) : KeepsMangleRegs s (agentWrite s a bs) := by
  refine ((foldl_rel KeepsMangleRegs.refl KeepsMangleRegs.trans keepsMangleRegs_meetUpset _ s).trans
    (keepsMangleRegs_memPut _ a bs)).trans (foldl_rel KeepsMangleRegs.refl KeepsMangleRegs.trans (fun w c => ?_) _ _)
  unfold overwriteCore
  dsimp only
  split
  · exact KeepsMangleRegs.refl w
  · exact keepsMangleRegs_bump _ _ (by unfold O.corePrefetchOverwritten; omega)

/-! ### What the mangle writes -/

/-- A write of the mangle touches its bytes alone, or is denied and touches none. -/
theorem mangleWrite_spec (h : takesDenial s tag) (a : Nat) (bs : List Byte) : Deposits s (mangleWrite s tag a bs) ∧
    takesDenial (mangleWrite s tag a bs) tag ∧
    ((mangleWrite s tag a bs).mem = s.mem ∨ (mangleWrite s tag a bs).mem = memWrites s.mem a bs) := by
  unfold mangleWrite
  split
  · exact ⟨Deposits.refl s, h, .inl rfl⟩
  · split
    · obtain ⟨w, hw⟩ : ∃ w, w = goOn s ⟨.hops tag, 3⟩ a bs.length := ⟨_, rfl⟩
      obtain ⟨⟨_, hgone⟩, -⟩ := hw ▸ goOn_spec s ⟨.hops tag, 3⟩ a bs.length
      obtain ⟨hcsr, hqueue⟩ := keepsMangleRegs_agentWrite w a bs
      obtain ⟨⟨_, _, _, _, _, _, hwrote⟩, -⟩ := agentWrite_touches w a bs
      have hdeposits : Deposits s (agentWrite w a bs) :=
        ⟨⟨_, _, _, _, _, _, _, _, _, hwrote.trans (by rw [hgone])⟩, fun o hlo hhi => (hcsr o hlo hhi).trans
            (by rw [hgone]; rfl)⟩
      rw [← hw]
      refine ⟨hdeposits, takesDenial_of_queue h (hdeposits.denial tag) (hqueue.trans (by rw [hgone])), .inr ?_⟩
      rw [hwrote, hgone]
    · obtain ⟨hdeposits, hmem, htakes⟩ := mangleDenied_spec h
      exact ⟨hdeposits, htakes, .inl hmem⟩

/-- Every byte outside a write stays, where memory is in its canonical form. -/
theorem memRead_of_mangleWrite {m m' : Memory} {a x : Nat} {bs : List Byte} (hwf : memWf m = true)
    (h : m' = m ∨ m' = memWrites m a bs) (hx : ¬ (a ≤ x ∧ x < a + bs.length)) : memWf m' = true ∧ memRead m' x = memRead m x
        := by
  rcases h with rfl | rfl
  · exact ⟨hwf, rfl⟩
  · exact ⟨memWf_memWrites _ _ _ hwf, by rw [memRead_memWrites _ _ _ _ hwf, if_neg hx]⟩

/-! ### The frame and its slots -/

theorem freeHeld_frame (s : State) (f : MFrame) (slots : Option (Nat × Nat)) :
    ∃ links, freeHeld s f slots = { s with links := links } := by
  unfold freeHeld
  split
  · exact ⟨_, rfl⟩
  · exact ⟨s.links, rfl⟩

/-- The state without the frame in the inbox and with its slots freed. -/
def unboxed (s : State) (f : MFrame) : State := freeHeld (takeInbox s (.mangle f)).1 f (takeInbox s (.mangle f)).2

theorem unboxed_frame (s : State) (f : MFrame) : ∃ inbox links, unboxed s f = { s with inbox := inbox, links := links } :=
    by
  obtain ⟨_, h⟩ := freeHeld_frame (takeInbox s (.mangle f)).1 f (takeInbox s (.mangle f)).2
  exact ⟨_, _, h⟩

theorem takerOf_unboxed (i : Inst) (d : TagDesc) (f g : MFrame) : takerOf (unboxed s g) i d f = takerOf s i d f := by
  obtain ⟨_, _, h⟩ := unboxed_frame s g
  rw [h]
  rfl

theorem mayFold_unboxed (d : TagDesc) (step k : Nat) : mayFold (unboxed s f) d step k = mayFold s d step k := by
  obtain ⟨_, _, h⟩ := unboxed_frame s f
  rw [h]
  rfl

theorem findInst_putInst {w : State} {tag step : Nat} {i j : Inst} (hfound : findInst w tag step = some i)
    (htag : j.tag = i.tag) (hstep : j.step = i.step) : findInst (putInst w j) tag step = some j := by
  have hsame := List.find?_some hfound
  simp only [Bool.and_eq_true, decide_eq_true_eq] at hsame
  have hkey : (fun x : Inst => decide (x.tag = tag) && decide (x.step = step)) ∘
      (fun x : Inst => if x.tag = j.tag ∧ x.step = j.step then j else x) =
      fun x : Inst => decide (x.tag = tag) && decide (x.step = step) := by
    funext x
    dsimp only [Function.comp]
    split
    · next hx => rw [hx.1, hx.2]
    · rfl
  change (w.mangle.insts.map _).find? _ = _
  rw [List.find?_map, hkey]
  refine (congrArg (Option.map _) hfound).trans ?_
  rw [Option.map_some, if_pos ⟨htag.symm, hstep.symm⟩]

theorem any_eraseP_of_disjoint {α : Type} {p q : α → Bool} (h : ∀ x, p x = true → q x = false) (l : List α) :
    (l.eraseP p).any q = l.any q := by
  induction l with
  | nil => rfl
  | cons x l ih =>
    rw [List.eraseP_cons]
    cases hx : p x with
    | true => rw [List.any_cons, h x hx]; rfl
    | false => exact (List.any_cons).trans ((congrArg (q x || ·) ih).trans (List.any_cons).symm)

section
variable {l : List Arrived} (h : stillWants { s with inbox := l } .fillIn = stillWants s .fillIn)
include h

theorem stackTurn_inbox (req : HbmReq) (x : Stack) : stackTurn { s with inbox := l } req x = stackTurn s req x := by
  have hwants : ∀ agent, stillWants { s with inbox := l } agent = stillWants s agent := by
    intro agent
    cases agent with
    | fillIn => exact h
    | _ => rfl
  unfold stackTurn
  rw [funext hwants]

/-- A request goes as before where the inbox has lost no chunk of a fill. -/
theorem mayGo_inbox (req : HbmReq) (a n : Nat) : mayGo { s with inbox := l } req a n = mayGo s req a n := by
  have hheld : rangeHeld { s with inbox := l } a n = rangeHeld s a n := by
    have hdomain : ∀ b, accessHeld { s with inbox := l } b = accessHeld s b := fun _ => rfl
    unfold rangeHeld
    simp only [hdomain]
  have hstack : ∀ k, getStack { s with inbox := l } k = getStack s k := fun _ => rfl
  unfold mayGo
  rw [hheld]
  simp only [stackTurn_inbox h, hstack]

theorem writesGo_inbox (tag : Nat) (ws : List (Nat × Nat)) : writesGo { s with inbox := l } tag ws = writesGo s tag ws := by
  have hmay : ∀ a n, mayAccess { s with inbox := l } 1 true a n = mayAccess s 1 true a n := by
    have hgrant : ∀ p, grantOf { s with inbox := l } 1 p = grantOf s 1 p := fun _ => rfl
    have halive : ∀ b, placeAlive { s with inbox := l } b = placeAlive s b := fun _ => rfl
    unfold mayAccess
    simp only [hgrant, halive, implies_true]
  unfold writesGo
  simp only [mayGo_inbox h, hmay]

end

/-- A mangle frame that leaves the inbox takes no request from a stack. -/
theorem writesGo_takeInbox (s : State) (f : MFrame) (tag : Nat) (ws : List (Nat × Nat)) :
    writesGo (takeInbox s (.mangle f)).1 tag ws = writesGo s tag ws := by
  refine writesGo_inbox (any_eraseP_of_disjoint (fun a ha => ?_) s.inbox) tag ws
  rw [of_decide_eq_true ha]

/-! ### A hop takes the partial -/

/-- A partial of a reduction that a hop takes writes nothing. -/
theorem frameWrites_taken {i : Inst} {l : Nat} (hred : isRed d.op = true) (hepoch : i.epoch ≤ f.epoch)
    (houtcome : f.outcome = false) (htaker : takerOf s i d f = some l) : frameWrites s i d f = [] := by
  unfold frameWrites
  rw [if_neg (by omega), hred, houtcome, htaker]
  cases f.payload <;> rfl

theorem mangleFrameRx_taken {i : Inst} {l : Nat} (hdesc : descOf s f.tag = some d) (htag : d.tag = f.tag)
    (hred : isRed d.op = true) (hfinal : f.final = false) (houtcome : f.outcome = false)
    (hfound : findInst s f.tag f.step = some i) (hepoch : i.epoch ≤ f.epoch) (htaker : takerOf s i d f = some l) :
    completes (.mangleFrameRx f) s (fun u => ∃ j, findInst u f.tag f.step = some j ∧
      (j.hop (hopKey f.chunk (segOf d i f) f.rev l)).inp = some f ∧ u = { unboxed s f with mangle := u.mangle }) := by
  obtain ⟨key, hkey⟩ : ∃ key, key = hopKey f.chunk (segOf d i f) f.rev l := ⟨_, rfl⟩
  obtain ⟨j, hj⟩ : ∃ j : Inst, j = { i with hops := tset i.hops key { i.hop key with inp := some f } } := ⟨_, rfl⟩
  obtain ⟨p, hp⟩ : ∃ p, p = takeInbox s (.mangle f) := ⟨_, rfl⟩
  have hsame : p.1.mangle = s.mangle := by rw [hp]; rfl
  have hfound' : findInst p.1 d.tag f.step = some i := by
    rw [htag, ← hfound, findInst, hsame, findInst]
  have htaker' : takerOf p.1 i d f = some l := by rw [← htaker, hp]; rfl
  have hframe : unboxed s f = freeHeld p.1 f p.2 := by rw [hp, unboxed]
  have hgo : frameRx p.1 d f p.2 false = putInst (unboxed s f) j := by
    have hto : frameTo (unboxed s f) i d f = putInst (unboxed s f) j := by
      unfold frameTo
      rw [if_neg (by omega), if_pos hred, if_neg (by rw [houtcome]; decide), takerOf_unboxed, htaker, hj, hkey]
    unfold frameRx
    rw [hfound']
    dsimp only
    refine Eq.trans ?_ hto
    unfold frameLive takeFrame
    rw [frameWrites_taken hred hepoch houtcome htaker', hred, hframe]
    rfl
  obtain ⟨_, _, hin⟩ := unboxed_frame s f
  refine ⟨putInst (unboxed s f) j, ?_, j, findInst_putInst (i := i) ?_ (by rw [hj]) (by rw [hj]), ?_, rfl⟩
  · have hexec : exec (.mangleFrameRx f) s = .next (match descOf s f.tag with
      | none => freeHeld p.1 f p.2
      | some d => if f.final then finalLive p.1 d f p.2 else frameRx p.1 d f p.2 false) := by
      rw [hp]
      rfl
    rw [hexec, hdesc]
    exact congrArg Host.Outcome.next ((if_neg (by rw [hfinal]; decide)).trans hgo)
  · rw [← hfound, hin]
    rfl
  · rw [hj, ← hkey, Inst.hop]
    dsimp only
    rw [tget_tset_same]

/-! ### A late partial -/

section
variable (hdesc : descOf s f.tag = some d) (hred : isRed d.op = true) (hfinal : f.final = false)
  (houtcome : f.outcome = false) (hlate : wasClosed s f.tag f.step = true ∨
    ∃ i, findInst s f.tag f.step = some i ∧ i.epoch ≤ f.epoch ∧ takerOf s i d f = none)
include hdesc hred hfinal houtcome hlate

theorem lateContribution_row : exec (.lateContribution f) s = .next (takeFrame (takeInbox s (.mangle f)).1 d f
    (takeInbox s (.mangle f)).2 false (predLateWrites s d f) (fun s => latePartial s d f)) := by
  have hwrites : predLateWrites (takeInbox s (.mangle f)).1 d f = predLateWrites s d f := rfl
  refine congrArg Host.Outcome.next ?_
  rw [hdesc]
  rcases hlate with hclosed | ⟨i, hfound, hepoch, htaker⟩
  · have hnone : findInst s f.tag f.step = none := by
      rw [wasClosed, Bool.and_eq_true, Option.isNone_iff_eq_none] at hclosed
      exact hclosed.1
    rw [hnone]
    exact if_pos ⟨hred, hfinal, houtcome, hclosed⟩
  · rw [hfound]
    exact if_pos ⟨hred, hfinal, houtcome, hepoch, htaker⟩

/-- A late partial that memory does not hold back is folded or dropped. -/
theorem lateContribution_goes (hgoes : writesGo s d.tag (predLateWrites s d f) = true) :
    exec (.lateContribution f) s = .next (latePartial (unboxed s f) d f) := by
  rw [lateContribution_row hdesc hred hfinal houtcome hlate]
  obtain ⟨p, hp⟩ : ∃ p, p = takeInbox s (.mangle f) := ⟨_, rfl⟩
  have hgoes' : writesGo p.1 d.tag (predLateWrites s d f) = true := by
    rw [hp, writesGo_takeInbox, hgoes]
  rw [unboxed, ← hp]
  unfold takeFrame
  dsimp only
  rw [if_neg (by decide), hgoes']
  rfl

theorem lateContribution_back (hrev : f.rev = true) : completes (.lateContribution f) s (fun u => u = unboxed s f) := by
  refine ⟨_, lateContribution_goes hdesc hred hfinal houtcome hlate ?_, ?_⟩
  · rw [predLateWrites, if_pos (.inl hrev)]
    rfl
  · rw [latePartial, if_pos hrev]

theorem lateContribution_dropped (hrev : f.rev = false) (hfold : mayFold s d f.step f.chunk = false) :
    completes (.lateContribution f) s (fun u =>
      csrGet u O.mangleCntLateDrop = min (csrGet s O.mangleCntLateDrop + (f.contrib + f.folded)) 0xFFFFFFFF ∧
      u.mangle = s.mangle) := by
  have hlt : csrGet s O.mangleCntLateDrop < 2 ^ 32 := csrGet_lt s (by decide)
  obtain ⟨_, _, hin⟩ := unboxed_frame s f
  have hsame : csrGet (unboxed s f) O.mangleCntLateDrop = csrGet s O.mangleCntLateDrop ∧ (unboxed s f).mangle = s.mangle :=
      by
    rw [hin]
    exact ⟨rfl, rfl⟩
  refine ⟨_, lateContribution_goes hdesc hred hfinal houtcome hlate ?_, ?_⟩
  · rw [predLateWrites, if_pos (.inr hfold)]
    rfl
  · rw [latePartial, if_neg (by rw [hrev]; decide), mayFold_unboxed, if_neg (by rw [hfold]; decide)]
    unfold lateDrop
    split
    · next hzero => exact ⟨by rw [hsame.1, hzero, Nat.add_zero]; omega, hsame.2⟩
    · exact ⟨by rw [csrGet_bump_add, hsame.1], hsame.2⟩

theorem lateContribution_waits (hheld : writesGo s d.tag (predLateWrites s d f) = false) :
    completes (.lateContribution f) s (fun u => u.mem = s.mem ∧ u.mangle.ledger = s.mangle.ledger ∧
      u.mangle.waitFrames = s.mangle.waitFrames ++ [⟨f, (takeInbox s (.mangle f)).2⟩]) := by
  have hrow := lateContribution_row hdesc hred hfinal houtcome hlate
  obtain ⟨p, hp⟩ : ∃ p, p = takeInbox s (.mangle f) := ⟨_, rfl⟩
  obtain ⟨ws, hws⟩ : ∃ ws, ws = predLateWrites s d f := ⟨_, rfl⟩
  have hheld' : writesGo p.1 d.tag ws = false := by
    rw [hp, writesGo_takeInbox, hws, hheld]
  obtain ⟨w, hw⟩ : ∃ w, w = p.1.withMangle (fun m => { m with waitFrames := m.waitFrames ++ [⟨f, p.2⟩] }) := ⟨_, rfl⟩
  have hwaits : Waits w (writesWait w d.tag ws) :=
    foldl_rel Waits.refl Waits.trans (fun x r => waitFor_waits x _ _ _) _ w
  obtain ⟨_, _, hwaited⟩ := hwaits
  have htake : takeFrame p.1 d f p.2 false ws (fun s => latePartial s d f) = writesWait w d.tag ws := by
    unfold takeFrame
    dsimp only
    rw [if_neg (by decide), hheld', hw]
    rfl
  rw [← hp, ← hws, htake] at hrow
  refine ⟨_, hrow, ?_⟩
  rw [hwaited, ← hp, hw, hp]
  exact ⟨rfl, rfl, rfl⟩

/-- The address of the predecessor slot at which a partial is folded. -/
def predAddr (d : TagDesc) (f : MFrame) : Nat := predSlot d + (match f.payload with
  | .w8 _ => (chunkBase d f.chunk + f.offset) / 32 * 33
  | _ => 4 * (chunkBase d f.chunk + f.offset))

omit hdesc hred hfinal houtcome hlate in
theorem writePredSlot_spec (h : takesDenial s d.tag) : Deposits s (writePredSlot s d f) ∧
    takesDenial (writePredSlot s d f) d.tag ∧ ((writePredSlot s d f).mem = s.mem ∨
      (writePredSlot s d f).mem = memWrites s.mem (predAddr d f) f.payload.bytesOf) := by
  have hslot : ∀ a n, predPart s d f.payload (chunkBase d f.chunk + f.offset) f.payload.count = some (a, n) →
      a = predAddr d f := by
    intro a n hpart
    unfold predPart at hpart
    unfold predAddr
    split at hpart
    · next hp =>
      rw [hp]
      exact (congrArg Prod.fst (Option.some.inj hpart)).symm
    · next hp =>
      rw [hp]
      split at hpart
      · cases hpart
      · exact (congrArg Prod.fst (Option.some.inj hpart)).symm
    · cases hpart
  unfold writePredSlot
  split
  · next a n hpart =>
    rw [← hslot a n hpart]
    exact mangleWrite_spec h a _
  · exact ⟨Deposits.refl s, h, .inl rfl⟩

theorem lateContribution_folds (hrev : f.rev = false) (hfold : mayFold s d f.step f.chunk = true)
    (hledger : tget? s.mangle.ledger (ledgerKey d.tag f.chunk) = none) (hroom : hasRoom s 3)
    (hgoes : writesGo s d.tag (predLateWrites s d f) = true) (hwf : memWf s.mem = true) :
    completes (.lateContribution f) s (fun u =>
      tget? u.mangle.ledger (ledgerKey d.tag f.chunk) = some ⟨f.step, false, [f], f.contrib + f.folded, f.set, 0⟩ ∧
      csrGet u O.mangleCntFold = min (csrGet s O.mangleCntFold + 1) 0xFFFFFFFF ∧
      ∀ x, ¬ (predAddr d f ≤ x ∧ x < predAddr d f + f.payload.bytesOf.length) →
        ¬ (ledgerWordAt s d f.chunk ≤ x ∧ x < ledgerWordAt s d f.chunk + 8) → memRead u.mem x = memRead s.mem x) := by
  obtain ⟨_, _, hin⟩ := unboxed_frame s f
  obtain ⟨w, hw⟩ : ∃ w, w = unboxed s f := ⟨_, rfl⟩
  rw [← hw] at hin
  have hsame : w.mangle = s.mangle ∧ w.mem = s.mem ∧ csrGet w O.mangleCntFold = csrGet s O.mangleCntFold ∧
      ledgerWordAt w d f.chunk = ledgerWordAt s d f.chunk := by
    rw [hin]
    exact ⟨rfl, rfl, rfl, rfl⟩
  obtain ⟨hmangle, hmem, hcount, hword⟩ := hsame
  obtain ⟨y, hy⟩ : ∃ y, y = writePredSlot w d f := ⟨_, rfl⟩
  obtain ⟨hslot, htakes, hwrote⟩ := hy ▸ writePredSlot_spec (s := w) (d := d) (f := f) (.inl (by rw [hin]; exact hroom))
  obtain ⟨z, hz⟩ : ∃ z, z = y.withMangle (fun m => { m with
    ledger := tset m.ledger (ledgerKey d.tag f.chunk) ⟨f.step, false, [f], f.contrib + f.folded, f.set, 0⟩ }) := ⟨_, rfl⟩
  obtain ⟨bs, hbs⟩ : ∃ bs, bs = leBytes 8 (Config.ledgerWord (f.contrib + f.folded) f.set).toNat := ⟨_, rfl⟩
  have hlen : bs.length = 8 := by rw [hbs, length_leBytes]
  have htakes' : takesDenial z d.tag := by
    rw [hz]
    exact htakes
  obtain ⟨v, hv⟩ : ∃ v, v = mangleWrite z d.tag (ledgerWordAt s d f.chunk) bs := ⟨_, rfl⟩
  obtain ⟨hput, -, hwrote'⟩ := hv ▸ mangleWrite_spec htakes' (ledgerWordAt s d f.chunk) bs
  have hlate' : latePartial w d f = bump v O.mangleCntFold := by
    have hfresh : takeLedger w d f.step f.chunk = (w, ⟨f.step, false, [], 0, 0#64, 0⟩) := by
      unfold takeLedger
      rw [hmangle, hledger]
    rw [latePartial, if_neg (by rw [hrev]; decide), hw, mayFold_unboxed, if_pos hfold, ← hw, hfresh]
    dsimp only
    rw [putLedger, ← hy, hslot.ledgerWord, hword, hv, hz, hbs, Nat.zero_add, BitVec.zero_add, List.nil_append]
  have hzmem : z.mem = y.mem := by rw [hz]; rfl
  refine ⟨bump v O.mangleCntFold, ?_, ?_, ?_, fun x hx hx' => ?_⟩
  · rw [lateContribution_goes hdesc hred hfinal houtcome hlate hgoes, ← hw, hlate']
  · change tget? v.mangle.ledger _ = _
    rw [hput.mangle, hz]
    exact tget?_tset_same _ _ _
  · rw [csrGet_bump_add, hput.csr _ (by decide) (by decide), hz]
    change min (csrGet y O.mangleCntFold + 1) _ = _
    rw [hslot.csr _ (by decide) (by decide), hcount]
  · change memRead v.mem x = _
    rw [hmem] at hwrote
    obtain ⟨hwf', hread⟩ := memRead_of_mangleWrite hwf hwrote hx
    rw [hzmem] at hwrote'
    exact (memRead_of_mangleWrite hwf' hwrote' (by rw [hlen]; exact hx')).2.trans hread

end

/-- Settles O29: a frame of an unknown tag, a partial that a hop takes, and a late one by each of its ends. -/
theorem partialsReceived : Obligations.PartialsReceived := by
  intro s f d s1 late word
  refine ⟨fun hdesc => ⟨s1, ?_, rfl⟩, fun hdesc htag hred hfinal houtcome => ⟨fun i l hfound hepoch htaker =>
      mangleFrameRx_taken hdesc htag hred hfinal houtcome hfound hepoch htaker, fun hlate =>
    ⟨lateContribution_back hdesc hred hfinal houtcome hlate, lateContribution_dropped hdesc hred hfinal houtcome hlate,
      fun _ _ => lateContribution_waits hdesc hred hfinal houtcome hlate,
      lateContribution_folds hdesc hred hfinal houtcome hlate⟩⟩⟩
  have hexec : exec (.mangleFrameRx f) s = .next (match descOf s f.tag with
    | none => s1
    | some d => if f.final then finalLive (takeInbox s (.mangle f)).1 d f (takeInbox s (.mangle f)).2
        else frameRx (takeInbox s (.mangle f)).1 d f (takeInbox s (.mangle f)).2 false) := rfl
  rw [hexec, hdesc]

end Sys2Proof.Machine
end

section
/-! O35. A check that finds the copy different during a fence may end in a hard fence, after which no digest is sent. -/

open Sys2Proof
namespace Sys2Proof.Machine

/-- A group of two ranks, this device being rank 0; its areas of 8 bytes lie side by side. -/
def groupOfTwo : GroupT :=
  { job := 0, ranks := 2, spares := 0, self := 0, epoch := 0, keeper := 0, shardBase := 0, copyBase := 8, areaBytes := 8
    members := [⟨1, .live, true, 0⟩, ⟨0, .live, true, 0⟩], tables := [] }

/-- A record of severity `sev` that takes no other. -/
def recOfSeverity (sev : Nat) : EventRec := ⟨0x9005, sev, sev, 1, 0, 0, 0, 1, 1, 0, 0, [0, 0, 0, 0], true⟩

/-- The partner's digest of step 8 has come and differs from that of the copy, while a fence has begun and the queues of
MICRO-BATCH and STEP hold 16 records each. -/
def checkDuringFence : State :=
  { State.reset with
    dev := .running
    step := 8
    csr := [(O.mendCtrl, 1#32), (O.mendCheck, 3#32)]
    weave := some weaveOfReadPage
    power := { PowerSt.reset with doms := [(0, Dom.onDom)] }
    mem := [(0, 1#8)]
    mend := { MendSt.reset with table := some groupOfTwo, rxDigest := some (8, 1#64) }
    err := { ErrSt.reset with
      fence := some .freeze
      queues := [(2, List.replicate 16 (recOfSeverity 2)), (3, List.replicate 16 (recOfSeverity 3))] } }

/-- Refutes O35: the divergence that the check finds has no room in its queue nor in that of STEP, and a fence has begun
(`checkDuringFence`); the device fences hard, its memory answers no more, and the digest of the SHARD area is neither
computed nor sent: the registers go on showing that of the copy. -/
theorem not_copiesAndFills : ¬ Obligations.CopiesAndFills := by
  intro h
  obtain ⟨hchecks, -⟩ := h
  obtain ⟨hcheck, -⟩ := hchecks checkDuringFence (mendHdr checkDuringFence 8 1 8) 1#64 groupOfTwo 1 8 rfl
  obtain ⟨u, hexec, v, hsent, -, hshown, -⟩ := hcheck (by decide) (by decide) (by decide)
    ⟨by decide +kernel, by decide +kernel, by decide, by decide⟩ ⟨by decide +kernel, by decide +kernel, by decide, by
        decide⟩
  obtain ⟨w, hnext, hcopy⟩ : ∃ w, exec .digestCheck checkDuringFence = .next w ∧ csrGet w O.mendDigestLo = 0 :=
    ⟨_, rfl, by decide +kernel⟩
  cases hexec.symm.trans hnext
  obtain ⟨d, hd⟩ : ∃ d, d = crc64 (memGet checkDuringFence groupOfTwo.shardBase groupOfTwo.areaBytes) := ⟨_, rfl⟩
  have hdiffers : d.toNat % 2 ^ 32 ≠ 0 := by
    rw [hd]
    decide +kernel
  have hkept : csrGet u O.mendDigestLo = csrGet v O.mendDigestLo := by
    rw [hsent]
    exact (relays_sendMend _ _ _ _).csr _ (.inr (by decide)) fun m => by
      unfold O.seamCntTx O.seamCntDiscard O.mendDigestLo
      omega
  rw [← hd] at hshown
  exact hdiffers (hshown.symm.trans (hkept.symm.trans hcopy))

end Sys2Proof.Machine
end
